-- ==== Sys2Proof/Word.lean ====
section
/-! DEFINITION. The word types of the module: 32-bit registers (spec/00_scope.md R9), bytes, 64-bit FRC values and
stream words (R17), and the byte strings of plan images, records and radio frames (R8). -/
namespace Sys2Proof

abbrev Word := BitVec 32
abbrev Byte := BitVec 8
abbrev DWord := BitVec 64
abbrev Bytes := List Byte

/-- A byte from a number, taken modulo 256. -/
def byte (n : Nat) : Byte := BitVec.ofNat 8 n

/-- A register word from a number, taken modulo 2^32. -/
def word (n : Nat) : Word := BitVec.ofNat 32 n

end Sys2Proof
end

