-- ==== Sys2Proof/Syntax.lean ====
section
/-! DEFINITION. The commands of the block: one constructor of `Instr` per row of spec/opcode_table.json, with the
operands the row's rule names, and the types the operands use. -/
namespace Sys2Proof

/-- The masters of R161: an Arbour core, the host through CS_S or CS_NS, the Ethernet host channel, the service tool. -/
inductive Master where
  | core (k : Nat)
  | csS
  | csNs
  | eth
  | tool
deriving DecidableEq, Repr

/-- The two HOSTSPI selects (R164). -/
inductive Sel where
  | s
  | ns
deriving DecidableEq, Repr

/-- Who submitted a work item: the secure or the non-secure host group, or an internal producer (R206, R211). -/
inductive Grp where
  | sec
  | ns
  | int
deriving DecidableEq, Repr

/-- What ends on a core: a work item's handler, or a run of an EVENT task on a core (R196, R212). -/
inductive RunEnd where
  | item (wid : Nat)
  | event (task core : Nat)
deriving DecidableEq, Repr

/-- The PLLs of R112. -/
inductive Pll where
  | sys
  | corr
  | eth
  | bandA
  | bandB
deriving DecidableEq, Repr

/-- The reset sources of R116, in the bit order of LODGE_RST_CAUSE. -/
inductive ResetSrc where
  | powerOn
  | resetPin
  | swReset
  | wdtSys
  | tamper
  | update
  | pllLoss
  | domBrownout
deriving DecidableEq, Repr

/-- What the pads and sensors read at step 1 of start-up (R126, R129, R543), and where in a start-up a tamper is
sensed, if it is (R128). -/
structure StartPads where
  bootRecovery : Bool
  snapIn : Bool
  svcPresent : Bool
  tamper : Nat
  loopA : Bool
  loopB : Bool
  locl : Bool
deriving DecidableEq, Repr

/-- A knot of a motion table: time (µs for Wicket, 10 ms ticks for Pergola), distance, speed (R408, R457). -/
structure Knot where
  t : Int
  s : Int
  v : Int
deriving DecidableEq, Repr


/-- One segment table of a plan (R405, R406): its start in 10 ms ticks after the first table's, its edges, its knots. -/
structure PlanTab where
  off : Nat
  edges : List Nat
  knots : List Knot
deriving DecidableEq, Repr

/-- One signal of a base epoch as the channel measured it (R263, R265); `ttx` is its transmit time in system time, in
10^-15 s. -/
structure BvObs where
  sys : Nat
  glo : Int
  svid : Nat
  sig : Nat
  half : Bool
  pilot : Bool
  ttx : Int
  cp : Int
  doppler : Int
  cn0 : Nat
deriving DecidableEq, Repr

/-- What a second measures on a channel's signal (R271): C/N0 in 2^-4 dB-Hz, elevation (255 unknown), the post-fit residual in
0.1 m, the rate of code minus carrier less twice the ionospheric rate over 10 s in mm/s, the change of the geometry-free
code minus carrier over 1 s in 0.1 m; none where there is no data. -/
structure SigEval where
  ch : Nat
  cn0 : Nat
  elev : Nat
  resid : Option Nat
  ccRate : Option Nat
  gfJump : Option Nat
deriving DecidableEq, Repr

/-- An ephemeris as navigation data gives it (R261, R292): the satellite, a TB0 time in ns, and its earth-fixed position in mm,
velocity in mm/s and acceleration in µm/s² there. -/
structure Eph where
  sys : Nat
  svid : Nat
  tb : Int
  pos : List Int
  vel : List Int
  acc : List Int
deriving DecidableEq, Repr

/-- A satellite's signal to be searched for, with its predicted elevation and Doppler where known (R255, R257). -/
structure SkyAim where
  sys : Nat
  svid : Nat
  sig : Nat
  elev : Option Nat
  doppler : Option Int
deriving DecidableEq, Repr

/-- One second's least-squares solution and what navigation data gave (R224, R261, R266–R269): time dilution in 0.01, clock
bias in 0.1 ns and drift in 0.01 ppb, per system the offset estimated and the one broadcast in 0.1 ns, what the second
measures on each signal, the standalone positions of the active and of the MONITOR antenna in 0.1 mm, the ephemerides decoded
and the satellites (system, SVID) of almanacs, TAI − UTC with LEAP_PEND and LEAP_NEG, and the elevations and Dopplers predicted from those
held. -/
structure TimeSol where
  tdop : Nat
  bias : Int
  drift : Int
  isb : List Int
  bcast : List (Option Int)
  sigs : List SigEval
  pos : Option (List Int)
  monPos : Option (List Int)
  eph : List Eph
  alm : List (Nat × Nat)
  utc : Option (Int × Bool × Bool)
  sky : List SkyAim := []
deriving DecidableEq, Repr

/-- A detection of a search (R279): SVID, peak in 0.25 dB, code bin, Doppler. -/
structure Detection where
  svid : Nat
  peak : Nat
  bin : Nat
  doppler : Int
deriving DecidableEq, Repr

/-- A PTP event message (R243, R244): its messageType (0 Sync, 1 Delay_Req, 2 Pdelay_Req, 3 Pdelay_Resp), domain,
transport, whether it is one-step, its correctionField in units of 2^-16 ns, and, of a Pdelay_Resp, the receipt of the
request it answers, in ns of TB1; its sourcePortIdentity. -/
structure PtpMsg where
  mtype : Nat
  domain : Nat
  udp : Bool
  oneStep : Bool
  corr : Int
  reqRx : Nat
  src : Nat
deriving DecidableEq, Repr

/-- What the PTP instance makes of an event message (R243, R245): the states of the message's port and of the other one as
IEEE 1588 codes them, the offset from the time transmitter and the path delay in ns where it measured them, the servo's
rate in units of ADJ, whether it is in lock, the clockClass of the grandmaster it follows. -/
structure PtpOut where
  state : Nat
  other : Nat
  gmClass : Nat
  offset : Option Int
  delay : Nat
  rate : Int
  locked : Bool
deriving DecidableEq, Repr

/-- How an update command arrives: in an Isben packet with its SEQ and payload, through mailbox channel 16, or, for
ABORT and CONFIRM, as a word written to UPD_CTRL (R509, R511, R516). -/
inductive UpdRoute where
  | link (seq : Nat) (payload : Bytes)
  | host
  | ctrl (m : Master) (v : Word)
deriving DecidableEq, Repr

/-- One command of the block, per row of spec/opcode_table.json; the docstring gives the row's rule. -/
inductive Instr where
  /-- REGISTER_WRITE (R9) -/
  | registerWrite (m : Master) (addr : Nat) (v hw : Word)
  /-- RC_FIELD_READ (R14) -/
  | rcFieldRead (m : Master) (addr : Nat) (ev : Word)
  /-- ABSENT_UNIT_ACCESS (R3) -/
  | absentUnitAccess (m : Master) (addr : Nat) (w : Option Word)
  /-- MAINS_APPLY (R125) -/
  | mainsApply (stays : Bool)
  /-- STARTUP_BEGIN (R126) -/
  | startupBegin (p : StartPads)
  /-- SUPPLY_LOSS_DECLARE (R64) -/
  | supplyLossDeclare
  /-- DEFERRED_SHED (R64) -/
  | deferredShed
  /-- SUPPLY_RETURN (R65) -/
  | supplyReturn
  /-- HOLDUP_EXPIRY (R64) -/
  | holdupExpiry
  /-- CORE_RAIL_FAULT (R92) -/
  | coreRailFault (d : Nat)
  /-- PWR_REQ_WATCH (R94) -/
  | pwrReqWatch (m : Master) (key : Nat)
  /-- PWR_REQ_DEEP (R94) -/
  | pwrReqDeep (m : Master) (key : Nat)
  /-- POWER_STATE_ENTRY (R95) -/
  | powerStateEntry
  /-- WAKE_EVENT (R98) -/
  | wakeEvent
  /-- DOM_ON_REQUEST (R102) -/
  | domOnRequest (m : Master) (d : Nat)
  /-- DOM_OFF_REQUEST (R104) -/
  | domOffRequest (m : Master) (d : Nat)
  /-- DOM_PWR_UP_DONE (R105) -/
  | domPwrUpDone (d : Nat)
  /-- DOM_SHUTDOWN_DONE (R105) -/
  | domShutdownDone (d : Nat)
  /-- DOM_RAIL_FAULT (R108) -/
  | domRailFault (d : Nat)
  /-- DOM_IDLE_TIMEOUT (R109) -/
  | domIdleTimeout (d : Nat)
  /-- DOM_FAULT_CLEAR (R108) -/
  | domFaultClear (m : Master) (d : Nat)
  /-- WAKE_FRC_ARM (R111) -/
  | wakeFrcArm (m : Master) (hi : Word)
  /-- FRC_CMP_MATCH (R97) -/
  | frcCmpMatch
  /-- FRC_LO_READ (R115) -/
  | frcLoRead (m : Master)
  /-- GZB_EDGE_FRC_LO_READ (R115) -/
  | gzbEdgeFrcLoRead (m : Master)
  /-- ORG_TAMPER_FRC_LO_READ (R115) -/
  | orgTamperFrcLoRead (m : Master)
  /-- VB_SNAP_FRC_LO_READ (R115) -/
  | vbSnapFrcLoRead (m : Master) (k : Nat)
  /-- TCXO_FAIL (R113) -/
  | tcxoFail
  /-- TCXO_RESTORE (R113) -/
  | tcxoRestore
  /-- XO32_FAIL (R114) -/
  | xo32Fail
  /-- PLL_LOCK_LOSS (R114) -/
  | pllLockLoss (p : Pll)
  /-- PLL_RELOCK (R114) -/
  | pllRelock (p : Pll)
  /-- PLL_LOSS_RESET (R114) -/
  | pllLossReset (p : Pll)
  /-- RESET_PIN_ASSERT (R117) -/
  | resetPinAssert (lowNs : Nat) (taken : Bool)
  /-- RESET_PIN_RELEASE (R117) -/
  | resetPinRelease
  /-- SW_RESET_ALL (R116) -/
  | swResetAll (m : Master) (key : Nat)
  /-- SW_RESET_DOMAINS (R116) -/
  | swResetDomains (m : Master) (key doms : Nat)
  /-- RESET_HOLD_END (R566) -/
  | resetHoldEnd (src : ResetSrc)
  /-- XING_RESYNC (R123) -/
  | xingResync (id dir : Nat)
  /-- PULSE_ROUNDTRIP_DONE (R120) -/
  | pulseRoundtripDone (id : Nat)
  /-- SWAP_GO (R153) -/
  | swapGo (m : Master) (len : Nat) (second : Bool)
  /-- SWAP_VERIFY_DONE (R154) -/
  | swapVerifyDone
  /-- HSPI_SELECT_FALL (R170) -/
  | hspiSelectFall (sel : Sel)
  /-- HSPI_SELECT_RISE (R167) -/
  | hspiSelectRise (sel : Sel) (midByte : Bool)
  /-- HSPI_READ (R166) -/
  | hspiRead (addr nbytes : Nat)
  /-- HSPI_WRITE (R168) -/
  | hspiWrite (addr : Nat) (data : Bytes)
  /-- HSPI_STATUS (R165) -/
  | hspiStatus
  /-- HSPI_CLEAR (R165) -/
  | hspiClear (mask : Word)
  /-- HSPI_UNKNOWN_CMD (R165) -/
  | hspiUnknownCmd (code : Byte)
  /-- HSPI_WRITE_COMPLETE (R168) -/
  | hspiWriteComplete
  /-- ETH_HOST_READ (R172) -/
  | ethHostRead (port : Nat) (src : BitVec 48) (seq addr count : Nat)
  /-- ETH_HOST_WRITE (R172) -/
  | ethHostWrite (port : Nat) (src : BitVec 48) (seq addr count : Nat) (data : List Word)
  /-- ETH_HOST_STATUS (R171) -/
  | ethHostStatus (port : Nat) (src : BitVec 48) (seq : Nat)
  /-- ETH_FRAME_RX (R173) -/
  | ethFrameRx (port : Nat) (dst : BitVec 48) (etype : Nat) (fcsOk ptpMcast room : Bool) (req : Option (BitVec 48 × Nat × Nat))
  /-- ETH_LINK_UP (R173) -/
  | ethLinkUp (port speed : Nat) (mdix full : Bool) (polInv pairMap : Nat)
  /-- ETH_LINK_DOWN (R173) -/
  | ethLinkDown (port : Nat)
  /-- ETH_CTRL_WRITE (R173) -/
  | ethCtrlWrite (m : Master) (port : Nat) (v : Word)
  /-- PTP_MESSAGE_RX (R244) -/
  | ptpMessageRx (port phase : Nat) (x : PtpMsg) (r : PtpOut)
  /-- PTP_MESSAGE_TX (R244) -/
  | ptpMessageTx (port phase : Nat) (x : PtpMsg)
  /-- MBX_GO (R177) -/
  | mbxGo (m : Master) (c : Nat) (v : Word)
  /-- MBX_TAKE (R176) -/
  | mbxTake (m : Master) (c : Nat) (v : Word)
  /-- MBX_DATA_WRITE (R178) -/
  | mbxDataWrite (m : Master) (c k : Nat) (v : Word)
  /-- MBX_HOST_RESET (R181) -/
  | mbxHostReset (m : Master) (key : Nat)
  /-- MBX_REPOST (R179) -/
  | mbxRepost (c : Nat)
  /-- CLAIM_ACQUIRE (R182) -/
  | claimAcquire (ms : List Master) (n : Nat)
  /-- CLAIM_RELEASE (R184) -/
  | claimRelease (m : Master) (n : Nat)
  /-- CLAIM_RENEW (R184) -/
  | claimRenew (m : Master) (n : Nat)
  /-- CLAIM_BAD_WRITE (R184) -/
  | claimBadWrite (m : Master) (n : Nat) (v : Word)
  /-- CLAIM_LEASE_WRITE (R185) -/
  | claimLeaseWrite (m : Master) (n : Nat) (v : Word)
  /-- CLAIM_LEASE_EXPIRY (R187) -/
  | claimLeaseExpiry (n : Nat)
  /-- CLAIM_OWNER_TROUBLE (R186) -/
  | claimOwnerTrouble (m : Master)
  /-- STREAM_READ (R189) -/
  | streamRead (ms : List Master) (w : Nat)
  /-- STREAM_WRITE (R191) -/
  | streamWrite (m : Master) (w : Nat) (v : DWord)
  /-- STREAM_FLUSH (R194) -/
  | streamFlush (m : Master) (w : Nat)
  /-- QUEUE_PUSH_RESUME (R44) -/
  | queuePushResume (wid : Nat)
  /-- WORK_ITEM_SUBMIT (R209) -/
  | workItemSubmit (g : Grp)
  /-- DISPATCH (R200) -/
  | dispatch (lat : Nat)
  /-- WORK_ITEM_COMPLETE (R212) -/
  | workItemComplete (r : RunEnd)
  /-- WI_DONE_PUSH (R210) -/
  | wiDonePush (g : Grp)
  /-- CORE_OVERRUN (R204) -/
  | coreOverrun (k : Nat)
  /-- CORE_ACCESS_FAULT (R204) -/
  | coreAccessFault (k : Nat)
  /-- WDT_DISPATCH_TIMEOUT (R205) -/
  | wdtDispatchTimeout
  /-- EVT_SET (R218) -/
  | evtSet (m : Master) (task flag : Nat)
  /-- EVT_CLR (R218) -/
  | evtClr (m : Master) (task flag : Nat) (setToo : Bool)
  /-- TASK_MASK_WRITE (R196) -/
  | taskMaskWrite (m : Master) (mask : Word)
  /-- NOP (R213) -/
  | nop (wid : Nat)
  /-- SIGNAL (R213) -/
  | signal (wid : Nat)
  /-- CANCEL (R214) -/
  | cancel (g : Grp)
  /-- SDL_ARM (R247) -/
  | sdlArm (wid : Nat)
  /-- SDL_STEER_RATE (R248) -/
  | sdlSteerRate (wid : Nat)
  /-- SDL_STEER_SLEW (R248) -/
  | sdlSteerSlew (wid : Nat)
  /-- SDL_STEER_STEP (R248) -/
  | sdlSteerStep (wid : Nat)
  /-- SDL_STEER_TOD (R248) -/
  | sdlSteerTod (wid : Nat)
  /-- TB0_SECOND (R227) -/
  | tb0Second (freq : Int) (est func : Nat)
  /-- HOLD_LIMIT_EXPIRY (R228) -/
  | holdLimitExpiry
  /-- TB0_STEP_APPLY (R232) -/
  | tb0StepApply
  /-- REF10_OK_SET (R226) -/
  | ref10OkSet
  /-- REF10_LOSS (R226) -/
  | ref10Loss
  /-- SLOT_START (R231) -/
  | slotStart
  /-- TB_NS_READ (R223) -/
  | tbNsRead (m : Master) (k : Nat)
  /-- CMP_ARM (R234) -/
  | cmpArm (m : Master) (k i : Nat) (disarmToo : Bool)
  /-- CMP_DISARM (R233) -/
  | cmpDisarm (m : Master) (k i : Nat)
  /-- CMP_FIRE (R235) -/
  | cmpFire (k i : Nat)
  /-- CONV_GO (R235) -/
  | convGo (m : Master)
  /-- PPS_IN_EDGE (R239) -/
  | ppsInEdge (phase : Nat)
  /-- PPS_IN_LOSS (R239) -/
  | ppsInLoss
  /-- SNAP_IN_EDGE (R239) -/
  | snapInEdge (phase : Nat)
  /-- GPIO_CAPTURE_EDGE (R239) -/
  | gpioCaptureEdge (pin phase : Nat)
  /-- PPS_OUT_PULSE (R240) -/
  | ppsOutPulse
  /-- PPS_OUT_FALL (R240) -/
  | ppsOutFall
  /-- ANT_BIAS_OPEN (R68) -/
  | antBiasOpen (a ma : Nat)
  /-- ANT_BIAS_SHORT (R68) -/
  | antBiasShort (a ma : Nat)
  /-- ANT_BIAS_RETRY (R68) -/
  | antBiasRetry (a : Nat)
  /-- ANT_SWITCH (R253) -/
  | antSwitch
  /-- SEARCH_START (R257) -/
  | searchStart (p : Nat) (sky : Option SkyAim)
  /-- SEARCH_DONE (R254) -/
  | searchDone (p : Nat) (ds : List Detection)
  /-- CH_PULL_IN_LOCK (R259) -/
  | chPullInLock (c : Nat)
  /-- CH_PULL_IN_TIMEOUT (R259) -/
  | chPullInTimeout (c : Nat)
  /-- CH_PHASE_LOCK (R259) -/
  | chPhaseLock (c : Nat)
  /-- CH_PHASE_SLIP (R259) -/
  | chPhaseSlip (c : Nat)
  /-- CH_SIDE_PEAK (R260) -/
  | chSidePeak (c : Nat)
  /-- CH_LOST (R259) -/
  | chLost (c : Nat)
  /-- CH_REACQ_EXPIRY (R259) -/
  | chReacqExpiry (c : Nat)
  /-- FLOAT_CH_RELEASE (R258) -/
  | floatChRelease (c : Nat)
  /-- BASE_EPOCH_LATCH (R262) -/
  | baseEpochLatch (tb : Nat)
  /-- BASE_RECORD_COMPLETE (R262) -/
  | baseRecordComplete (obs : List BvObs)
  /-- TIME_SOLUTION (R266) -/
  | timeSolution (r : TimeSol)
  /-- NOISE_CHECK (R271) -/
  | noiseCheck (c : Nat) (noise : Int)
  /-- BV_SURVEY_START (R278) -/
  | bvSurveyStart (wid : Nat)
  /-- BV_SURVEY_SET (R278) -/
  | bvSurveySet (wid : Nat)
  /-- BV_SURVEY_ABORT (R278) -/
  | bvSurveyAbort (wid : Nat)
  /-- BV_SURVEY_SELECT_ANT (R278) -/
  | bvSurveySelectAnt (wid : Nat)
  /-- BV_SEARCH (R279) -/
  | bvSearch (wid : Nat)
  /-- OBS_INTAKE (R289) -/
  | obsIntake
  /-- LANE_TAKE (R291) -/
  | laneTake
  /-- FIX_DELIVERY (R292) -/
  | fixDelivery (l : Nat)
  /-- LANE_DEADLINE_ABANDON (R302) -/
  | laneDeadlineAbandon (l : Nat)
  /-- LANE_FAULT (R303) -/
  | laneFault (l : Nat)
  /-- SLV_ROVER_RESET (R318) -/
  | slvRoverReset (wid : Nat)
  /-- SLV_ROVER_DISABLE (R318) -/
  | slvRoverDisable (wid : Nat)
  /-- SLV_ROVER_ENABLE (R318) -/
  | slvRoverEnable (wid : Nat)
  /-- SLV_ROVER_QUERY (R318) -/
  | slvRoverQuery (wid : Nat)
  /-- RTCM_BUILD (R308) -/
  | rtcmBuild
  /-- CORR_AGE_EXPIRY (R313) -/
  | corrAgeExpiry
  /-- DL_FIX_ASSEMBLE (R31) -/
  | dlFixAssemble
  /-- STOP_TRAIN_REPEAT (R429) -/
  | stopTrainRepeat
  /-- SACK_SEND (R330) -/
  | sackSend (b : Nat)
  /-- FRAME_RX_BAD (R322) -/
  | frameRxBad (b c phr : Nat) (psdu : Bytes)
  /-- JOIN_REQ_RX (R361) -/
  | joinReqRx (c : Nat) (psdu : Bytes) (e : Int)
  /-- JOIN_KEY_DONE (R361) -/
  | joinKeyDone (m : Nat)
  /-- CTRL_RX (R369) -/
  | ctrlRx (b c : Nat) (psdu : Bytes) (e : Int)
  /-- OBS_RX (R370) -/
  | obsRx (b c : Nat) (psdu : Bytes) (e : Int) (pop : Bool)
  /-- STOP_REQ_RX (R376) -/
  | stopReqRx (b c : Nat) (psdu : Bytes) (e : Int)
  /-- LEAVE_RX (R367) -/
  | leaveRx (b c : Nat) (psdu : Bytes) (e : Int)
  /-- STATUS_RX (R371) -/
  | statusRx (b c : Nat) (psdu : Bytes) (e : Int)
  /-- FLOOD_FRAME_RX (R378) -/
  | floodFrameRx (b c : Nat) (psdu : Bytes) (e : Int)
  /-- IACK_RX (R329) -/
  | iackRx (b : Nat) (psdu : Bytes) (t : Nat)
  /-- IACK_TIMEOUT (R332) -/
  | iackTimeout (b : Nat)
  /-- WUR_WORD_RX (R346) -/
  | wurWordRx (w : Nat)
  /-- BS_SEND (R383) -/
  | bsSend (wid : Nat)
  /-- BS_MEMBER_EXPEL (R384) -/
  | bsMemberExpel (wid : Nat)
  /-- BS_MEMBER_RESYNC (R384) -/
  | bsMemberResync (wid : Nat)
  /-- PLAN_REQUEST_INTAKE (R400) -/
  | planRequestIntake
  /-- PLANNER_TAKE (R401) -/
  | plannerTake
  /-- PLAN_DONE (R406) -/
  | planDone (tabs : List PlanTab)
  /-- PLAN_EXHAUSTED (R403) -/
  | planExhausted
  /-- POS_STALE_EXPIRY (R395) -/
  | posStaleExpiry (m : Nat)
  /-- RT_TICK (R399) -/
  | rtTick
  /-- TASK_DWELL_EXPIRY (R410) -/
  | taskDwellExpiry (m : Nat)
  /-- PGL_PLAN (R420) -/
  | pglPlan (wid : Nat) (pop : Bool)
  /-- PGL_ASSIGN (R409) -/
  | pglAssign (wid : Nat) (pop : Bool)
  /-- PGL_RELEASE_FUTURE (R421) -/
  | pglReleaseFuture (wid : Nat)
  /-- PGL_RELEASE_ALL (R421) -/
  | pglReleaseAll (wid : Nat)
  /-- STOP_INPUT_EDGE (R37) -/
  | stopInputEdge (i : Nat)
  /-- GZB_STOP_WRITE (R425) -/
  | gzbStopWrite (m : Master) (v : Word)
  /-- GZB_INIT_EXIT (R427) -/
  | gzbInitExit
  /-- STOP_KEY_LOAD (R432) -/
  | stopKeyLoad (next : Bool)
  /-- TEST_PULSE (R438) -/
  | testPulse (i : Nat)
  /-- FALL_JUDGEMENT (R438) -/
  | fallJudgement (i : Nat)
  /-- RISE_JUDGEMENT (R438) -/
  | riseJudgement (i : Nat)
  /-- TP_SHORT_DETECT (R438) -/
  | tpShortDetect (i : Nat)
  /-- LOOP_REVERSE_DETECT (R438) -/
  | loopReverseDetect (i : Nat)
  /-- MONITOR_SAMPLE (R439) -/
  | monitorSample (a b : Int)
  /-- CH_MISMATCH_DETECT (R440) -/
  | chMismatchDetect
  /-- DISCREPANCY_DETECT (R440) -/
  | discrepancyDetect
  /-- RF_SELF_TEST (R441) -/
  | rfSelfTest (power off : Int)
  /-- COIL_SHORT_DETECT (R79) -/
  | coilShortDetect (k : Nat)
  /-- COIL_OPEN_DETECT (R79) -/
  | coilOpenDetect (k : Nat)
  /-- GZB_FAULT_CLEAR (R442) -/
  | gzbFaultClear (m : Master) (mask : Word) (absent : Nat)
  /-- GZB_CLEAR (R444) -/
  | gzbClear (wid : Nat)
  /-- PS_WRITE_COMPLETE (R538) -/
  | psWriteComplete (ok : Bool)
  /-- WKT_ENABLE (R456) -/
  | wktEnable (m : Master) (n : Nat)
  /-- WKT_CHECK_DONE (R456) -/
  | wktCheckDone (n : Nat) (sc : Option Nat) (ia ib : Nat) (vm : Int)
  /-- WKT_DISABLE (R455) -/
  | wktDisable (m : Master) (n : Nat)
  /-- WKT_ZERO (R455) -/
  | wktZero (m : Master) (n : Nat)
  /-- WKT_MOVE_TABLE (R458) -/
  | wktMoveTable (wid : Nat)
  /-- WKT_MOVE_TARGET (R460) -/
  | wktMoveTarget (wid : Nat)
  /-- WKT_HOME_STALL (R464) -/
  | wktHomeStall (wid : Nat)
  /-- WKT_HOME_SWITCH (R464) -/
  | wktHomeSwitch (wid : Nat)
  /-- WKT_TABLE_START (R459) -/
  | wktTableStart (n : Nat)
  /-- WKT_TABLE_END (R459) -/
  | wktTableEnd (n : Nat)
  /-- WKT_RAMP_END (R461) -/
  | wktRampEnd (n : Nat)
  /-- WKT_HOME_FOUND (R464) -/
  | wktHomeFound (n : Nat) (level : Bool)
  /-- WKT_HOME_NOT_FOUND (R464) -/
  | wktHomeNotFound (n : Nat)
  /-- WKT_STALL (R454) -/
  | wktStall (n : Nat)
  /-- WKT_OVERCURRENT (R452) -/
  | wktOvercurrent (n : Nat) (b : Bool) (cur : Nat) (vm : Int)
  /-- WKT_PHASE_GND_SHORT (R83) -/
  | wktPhaseGndShort (n : Nat) (b : Bool) (v vm : Int)
  /-- WKT_VM_LOW (R452) -/
  | wktVmLow (n : Nat) (vm : Int)
  /-- WKT_VM_OVER (R452) -/
  | wktVmOver (n : Nat) (vm : Int)
  /-- WKT_VM_HIGH (R452) -/
  | wktVmHigh (n : Nat) (vm : Int)
  /-- WKT_STANDSTILL_EXPIRY (R453) -/
  | wktStandstillExpiry (n : Nat)
  /-- WKT_REDUCE_DONE (R453) -/
  | wktReduceDone (n : Nat)
  /-- WKT_DECEL_WRITE (R463) -/
  | wktDecelWrite (m : Master) (n : Nat) (e : Bool) (v : Word)
  /-- WKT_LIMIT_WRITE (R467) -/
  | wktLimitWrite (m : Master) (n off : Nat) (v : Word)
  /-- WKT_FAULT_CLEAR (R455) -/
  | wktFaultClear (m : Master) (n : Nat) (mask : Word) (absent : Nat)
  /-- ORG_KEY_UPDATE (R484) -/
  | orgKeyUpdate (wid : Nat)
  /-- ORG_DERIVE_NODE (R475) -/
  | orgDeriveNode (wid : Nat)
  /-- ORG_DERIVE_INVALIDATE (R476) -/
  | orgDeriveInvalidate (wid : Nat)
  /-- ORG_DERIVE_ROLL (R479) -/
  | orgDeriveRoll (wid : Nat)
  /-- ORG_DERIVE_ATTEST (R494) -/
  | orgDeriveAttest (wid : Nat)
  /-- ORG_DERIVE_HMAC (R494) -/
  | orgDeriveHmac (wid : Nat)
  /-- TAMPER_SENSE (R491) -/
  | tamperSense (now : Nat)
  /-- TAMPER_KEY_REDRAW (R491) -/
  | tamperKeyRedraw
  /-- TEMP_MEASURE (R560) -/
  | tempMeasure (t : Int) (upd : Bool)
  /-- SVC_RX_INVERT (R85) -/
  | svcRxInvert
  /-- SVC_PRESENT_ASSERT (R97) -/
  | svcPresentAssert
  /-- SVC_PRESENT_RELEASE (R505) -/
  | svcPresentRelease
  /-- SVC_PACKET_BAD (R508) -/
  | svcPacketBad
  /-- SVC_HELLO (R509) -/
  | svcHello (seq : Nat) (payload : Bytes)
  /-- SVC_SET_RATE (R507) -/
  | svcSetRate (seq : Nat) (payload : Bytes)
  /-- SVC_RATE_TIMEOUT (R507) -/
  | svcRateTimeout
  /-- SVC_READ (R509) -/
  | svcRead (seq : Nat) (payload : Bytes)
  /-- SVC_WRITE (R509) -/
  | svcWrite (seq : Nat) (payload : Bytes)
  /-- SVC_SUBMIT (R509) -/
  | svcSubmit (seq : Nat) (payload : Bytes)
  /-- SVC_RESET (R509) -/
  | svcReset (seq : Nat) (payload : Bytes)
  /-- UPD_BEGIN (R503) -/
  | updBegin (r : UpdRoute)
  /-- UPD_DATA (R503) -/
  | updData (r : UpdRoute)
  /-- UPD_END (R503) -/
  | updEnd (r : UpdRoute)
  /-- UPD_ACTIVATE (R513) -/
  | updActivate (r : UpdRoute)
  /-- UPD_ABORT (R505) -/
  | updAbort (r : UpdRoute)
  /-- UPD_CONFIRM (R516) -/
  | updConfirm (r : UpdRoute)
  /-- UPD_LOCK_TIMEOUT (R505) -/
  | updLockTimeout
  /-- SVN_FUSE_BURN (R517) -/
  | svnFuseBurn
  /-- SNAP_TRIGGER (R520) -/
  | snapTrigger (src tb idx : Nat) (m : Master)
  /-- VB_SNAP_WRITE (R520) -/
  | vbSnapWrite (m : Master) (v : Word)
  /-- VB_RECORD_ASSEMBLE (R528) -/
  | vbRecordAssemble (k : Nat)
  /-- VB_RECORD_PROGRAMMED (R527) -/
  | vbRecordProgrammed
  /-- VB_TOKEN_REFILL (R530) -/
  | vbTokenRefill (c : Nat)
  /-- VB_READ (R534) -/
  | vbRead (wid : Nat)
  /-- VB_MARK (R535) -/
  | vbMark (wid : Nat)
  /-- TEST_RUN (R544) -/
  | testRun (wid : Nat)
  /-- TEST_DURATION_EXPIRY (R544) -/
  | testDurationExpiry (flips : List Bool) (value : Nat)
  /-- LOOP_READS_CLOSED (R74) -/
  | loopReadsClosed (i : Nat)
  /-- STOP_TRAIN_END (R429) -/
  | stopTrainEnd
  /-- ANT_BIAS_NORMAL (R68) -/
  | antBiasNormal (a ma : Nat)
  /-- CMP_PULSE_END (R235) -/
  | cmpPulseEnd (gpio : Nat)
  /-- TB_SLEW_DONE (R248) -/
  | tbSlewDone
  /-- WKT_VM_HIGH_END (R452) -/
  | wktVmHighEnd (n : Nat) (vm : Int)
  /-- WKT_VM_REVERSED (R452) -/
  | wktVmReversed (n : Nat) (vm : Int)
deriving DecidableEq, Repr

end Sys2Proof
end

