-- ==== Sys2Proof/Machine/Crypto.lean ====
section
/-! DEFINITION. The standard algorithms the spec names: CRC-32C (spec/04_startup_plan_image.md R137), SHA-256, SHA-384
and HMAC-SHA-256 (FIPS 180-4, FIPS 198-1), the SP 800-108 KDF (spec/15_orangery_keys.md R473), AES-128 and AES-256 with
CCM (FIPS 197, SP 800-38C; spec/10_bandstand_radio.md R337), ECDSA on P-256 and P-384 (FIPS 186-4). Byte strings are
lists of bytes; big numbers are natural numbers. -/
namespace Sys2Proof.Machine

/-- The number whose little-endian bytes are given (R8). -/
def leNat : Bytes → Nat
  | [] => 0
  | b :: bs => b.toNat + 256 * leNat bs

/-- The first `n` little-endian bytes of a number (R8). -/
def leBytes : Nat → Nat → Bytes
  | 0, _ => []
  | n + 1, v => byte v :: leBytes n (v / 256)

/-- The number whose big-endian bytes are given. -/
def beNat (bs : Bytes) : Nat := leNat bs.reverse

/-- The last `n` bytes of a number, most significant first. -/
def beBytes (n v : Nat) : Bytes := (leBytes n v).reverse

/-- The bytes of an ASCII label. -/
def ascii (s : String) : Bytes := s.toList.map (fun c => byte c.toNat)

/-- Byte strings combined bit by bit with exclusive or, to the length of the shorter. -/
def xorBytes (a b : Bytes) : Bytes := List.zipWith (· ^^^ ·) a b

/-! ### CRC -/

/-- One bit of a reflected CRC: shift right, and reduce by the reflected polynomial. -/
def crcBit (poly r : Nat) : Nat := if r % 2 = 1 then (r / 2) ^^^ poly else r / 2

/-- One byte of a reflected CRC. -/
def crcByte (poly r : Nat) (b : Byte) : Nat := Nat.rec (r ^^^ b.toNat) (fun _ x => crcBit poly x) 8

/-- CRC-32C: Castagnoli 0x1EDC_6F41 reflected, initial value and final XOR all ones (R137). -/
def crc32c (bs : Bytes) : Nat := bs.foldl (crcByte 0x82F63B78) 0xFFFFFFFF ^^^ 0xFFFFFFFF

/-! ### SHA-2 -/

/-- The largest number below r + 2^n whose e-th power is at most x, found bit by bit from r. -/
def rootFrom (e x : Nat) : Nat → Nat → Nat
  | 0, r => r
  | n + 1, r => rootFrom e x n (if (r + 2 ^ n) ^ e ≤ x then r + 2 ^ n else r)

/-- The first `w` bits of the fraction of the e-th root of `p`, a root below 8. -/
def rootFrac (e w p : Nat) : Nat := rootFrom e (p * 2 ^ (e * w)) (w + 3) 0 % 2 ^ w

/-- The primes below `n`, for `n` below 23 squared. -/
def primesBelow (n : Nat) : List Nat :=
  (List.range n).filter (fun p => 2 ≤ p && [2, 3, 5, 7, 11, 13, 17, 19].all (fun d => p = d || p % d ≠ 0))

/-- The round constants of a word width: from the cube roots of the first primes (FIPS 180-4, 4.2). -/
def shaK (w n : Nat) : List Nat := (primesBelow n).map (rootFrac 3 w)

/-- Eight initial words of a width: from the square roots of eight primes, after the first `k` (FIPS 180-4, 5.3). -/
def shaIv (w k : Nat) : List Nat := (((primesBelow 54).drop k).take 8).map (rootFrac 2 w)

/-- The parameters of one SHA-2 function: the word width, the block bytes, the rotation amounts and the constants. -/
structure Sha where
  w : Nat
  blk : Nat
  big0 : Nat × Nat × Nat
  big1 : Nat × Nat × Nat
  sml0 : Nat × Nat × Nat
  sml1 : Nat × Nat × Nat
  k : List Nat
  iv : List Nat

def sha256P : Sha := ⟨32, 64, (2, 13, 22), (6, 11, 25), (7, 18, 3), (17, 19, 10), shaK 32 312, shaIv 32 0⟩

def sha384P : Sha := ⟨64, 128, (28, 34, 39), (14, 18, 41), (1, 8, 7), (19, 61, 6), shaK 64 410, shaIv 64 8⟩

def Sha.rotr (p : Sha) (x n : Nat) : Nat := (x / 2 ^ n) ||| (x * 2 ^ (p.w - n) % 2 ^ p.w)
def Sha.big (p : Sha) (r : Nat × Nat × Nat) (x : Nat) : Nat := p.rotr x r.1 ^^^ p.rotr x r.2.1 ^^^ p.rotr x r.2.2
def Sha.sml (p : Sha) (r : Nat × Nat × Nat) (x : Nat) : Nat := p.rotr x r.1 ^^^ p.rotr x r.2.1 ^^^ (x / 2 ^ r.2.2)

/-- The message schedule: the last 16 words, newest first, give the next one. -/
def Sha.nextW (p : Sha) (ws : List Nat) : Nat :=
  (p.sml p.sml1 (ws.getD 1 0) + ws.getD 6 0 + p.sml p.sml0 (ws.getD 14 0) + ws.getD 15 0) % 2 ^ p.w

/-- The rounds over the constants: the working variables a–h and the last 16 schedule words, newest first. -/
def Sha.rounds (p : Sha) : List Nat → Nat → List Nat → List Nat → List Nat
  | [], _, _, v => v
  | k :: ks, i, ws, v =>
    let w := if i < 16 then ws.getD (15 - i) 0 else p.nextW ws
    let ws := if i < 16 then ws else (w :: ws).take 16
    match v with
    | [a, b, c, d, e, f, g, h] =>
      let m := 2 ^ p.w
      let t1 := (h + p.big p.big1 e + ((e &&& f) ^^^ ((m - 1 - e) &&& g)) + k + w) % m
      let t2 := (p.big p.big0 a + ((a &&& b) ^^^ (a &&& c) ^^^ (b &&& c))) % m
      Sha.rounds p ks (i + 1) ws [(t1 + t2) % m, a, b, c, (d + t1) % m, e, f, g]
    | v => v

/-- The big-endian words of a block. -/
def wordsOf (n : Nat) : Nat → Bytes → List Nat
  | 0, _ => []
  | k + 1, bs => beNat (bs.take n) :: wordsOf n k (bs.drop n)

def Sha.block (p : Sha) (h : List Nat) (b : Bytes) : List Nat :=
  let v := p.rounds p.k 0 (wordsOf (p.w / 8) 16 b).reverse h
  List.zipWith (fun x y => (x + y) % 2 ^ p.w) h v

def Sha.blocks (p : Sha) : Nat → List Nat → Bytes → List Nat
  | 0, h, _ => h
  | n + 1, h, bs => Sha.blocks p n (p.block h (bs.take p.blk)) (bs.drop p.blk)

/-- The digest over the padded message. -/
def Sha.hash (p : Sha) (bs : Bytes) : Bytes :=
  let l := p.w / 4
  let z := (2 * p.blk - (bs.length + 1 + l) % p.blk) % p.blk
  let m := bs ++ byte 0x80 :: (List.replicate z (byte 0) ++ beBytes l (8 * bs.length))
  (p.blocks (m.length / p.blk) p.iv m).flatMap (beBytes (p.w / 8))

def sha256 (bs : Bytes) : Bytes := sha256P.hash bs
def sha384 (bs : Bytes) : Bytes := (sha384P.hash bs).take 48

/-- HMAC-SHA-256. -/
def hmacSha256 (key msg : Bytes) : Bytes :=
  let k0 := if key.length > 64 then sha256 key else key
  let k := k0 ++ List.replicate (64 - k0.length) (byte 0)
  sha256 (k.map (· ^^^ byte 0x5C) ++ sha256 (k.map (· ^^^ byte 0x36) ++ msg))

/-- The counter-mode KDF of R473 with one iteration. -/
def kdf (k label ctx : Bytes) (bits : Nat) : Bytes :=
  (hmacSha256 k (beBytes 4 1 ++ label ++ byte 0 :: (ctx ++ beBytes 4 bits))).take (bits / 8)

/-! ### AES and CCM -/

/-- Doubling in GF(2^8) modulo 0x11B. -/
def gfDouble (a : Nat) : Nat := if a < 128 then 2 * a else (2 * a) ^^^ 0x11B

def gfMulAux : Nat → Nat → Nat → Nat
  | 0, _, _ => 0
  | n + 1, a, b => (if b % 2 = 1 then a else 0) ^^^ gfMulAux n (gfDouble a) (b / 2)

def gfMul (a b : Nat) : Nat := gfMulAux 8 a b

/-- The inverse in GF(2^8): the 254th power; 0 stays 0. -/
def gfInv (a : Nat) : Nat :=
  let a2 := gfMul a a
  let a4 := gfMul a2 a2
  let a8 := gfMul a4 a4
  let a16 := gfMul a8 a8
  let a32 := gfMul a16 a16
  let a64 := gfMul a32 a32
  let a128 := gfMul a64 a64
  gfMul a2 (gfMul a4 (gfMul a8 (gfMul a16 (gfMul a32 (gfMul a64 a128)))))

def rotl8 (x n : Nat) : Nat := (x * 2 ^ n % 256) ||| (x / 2 ^ (8 - n))

/-- The AES S-box. -/
def sbox (x : Nat) : Nat :=
  let i := gfInv x
  i ^^^ rotl8 i 1 ^^^ rotl8 i 2 ^^^ rotl8 i 3 ^^^ rotl8 i 4 ^^^ 0x63

/-- The key schedule: words newest first; `nk` words of key. -/
def aesExpand (nk : Nat) : Nat → Nat → Nat → List (List Nat) → List (List Nat)
  | 0, _, _, ws => ws
  | n + 1, i, rcon, ws =>
    let t := ws.headD []
    let r := match t with
      | [a, b, c, d] =>
        if i % nk = 0 then [sbox b ^^^ rcon, sbox c, sbox d, sbox a]
        else if nk > 6 ∧ i % nk = 4 then [sbox a, sbox b, sbox c, sbox d] else t
      | t => t
    let w := List.zipWith (· ^^^ ·) (ws.getD (nk - 1) []) r
    aesExpand nk n (i + 1) (if i % nk = 0 then gfDouble rcon else rcon) (w :: ws)

def splitEvery (k : Nat) : Nat → List Nat → List (List Nat)
  | 0, _ => []
  | n + 1, xs => xs.take k :: splitEvery k n (xs.drop k)

/-- The round keys of an AES key of 16 or 32 bytes, each 16 numbers. -/
def aesKeys (key : Bytes) : List (List Nat) :=
  let nk := key.length / 4
  let nr := nk + 6
  let ws := aesExpand nk (4 * (nr + 1) - nk) nk 1 (splitEvery 4 nk (key.map BitVec.toNat)).reverse
  splitEvery 16 (nr + 1) ws.reverse.flatten

def shiftRows (s : List Nat) : List Nat :=
  [0, 5, 10, 15, 4, 9, 14, 3, 8, 13, 2, 7, 12, 1, 6, 11].map (fun i => s.getD i 0)

def mixColumn : List Nat → List Nat
  | [a, b, c, d] =>
    [gfMul 2 a ^^^ gfMul 3 b ^^^ c ^^^ d, a ^^^ gfMul 2 b ^^^ gfMul 3 c ^^^ d,
     a ^^^ b ^^^ gfMul 2 c ^^^ gfMul 3 d, gfMul 3 a ^^^ b ^^^ c ^^^ gfMul 2 d]
  | s => s

def aesRounds : List (List Nat) → List Nat → List Nat
  | [], s => s
  | [k], s => List.zipWith (· ^^^ ·) k (shiftRows (s.map sbox))
  | k :: ks, s =>
    aesRounds ks (List.zipWith (· ^^^ ·) k ((splitEvery 4 4 (shiftRows (s.map sbox))).flatMap mixColumn))

/-- One AES block encryption. -/
def aesEncrypt (key blk : Bytes) : Bytes :=
  match aesKeys key with
  | [] => blk
  | k :: ks => (aesRounds ks (List.zipWith (· ^^^ ·) k (blk.map BitVec.toNat))).map byte

def padTo16 (bs : Bytes) : Bytes := bs ++ List.replicate ((16 - bs.length % 16) % 16) (byte 0)

/-- The CBC-MAC over whole blocks. -/
def cbcMac (key : Bytes) : Nat → Bytes → Bytes → Bytes
  | 0, x, _ => x
  | n + 1, x, bs => cbcMac key n (aesEncrypt key (xorBytes x (bs.take 16))) (bs.drop 16)

/-- The key stream block i of CCM with a 13-byte nonce and a 2-byte length field (R337). -/
def ccmStream (key nonce : Bytes) (i : Nat) : Bytes := aesEncrypt key (byte 1 :: nonce ++ beBytes 2 i)

def ccmCrypt (key nonce : Bytes) : Nat → Nat → Bytes → Bytes
  | 0, _, _ => []
  | n + 1, i, bs => xorBytes (bs.take 16) (ccmStream key nonce i) ++ ccmCrypt key nonce n (i + 1) (bs.drop 16)

/-- The encrypted tag U of CCM, `t` bytes, over associated data and plaintext. -/
def ccmTag (key nonce aad pt : Bytes) (t : Nat) : Bytes :=
  let flags := (if aad.isEmpty then 0 else 64) + 8 * ((t - 2) / 2) + 1
  let b0 := byte flags :: nonce ++ beBytes 2 pt.length
  let a := if aad.isEmpty then [] else padTo16 (beBytes 2 aad.length ++ aad)
  let m := b0 ++ a ++ padTo16 pt
  xorBytes ((cbcMac key (m.length / 16) (List.replicate 16 (byte 0)) m).take t) ((ccmStream key nonce 0).take t)

/-- CCM encryption: the ciphertext and the tag. -/
def ccmSeal (key nonce aad pt : Bytes) (t : Nat) : Bytes × Bytes :=
  (ccmCrypt key nonce (pt.length / 16 + 1) 1 pt, ccmTag key nonce aad pt t)

/-- CCM decryption: the plaintext where the tag verifies. -/
def ccmOpen (key nonce aad ct tag : Bytes) : Option Bytes :=
  let pt := ccmCrypt key nonce (ct.length / 16 + 1) 1 ct
  if ccmTag key nonce aad pt tag.length = tag then some pt else none

/-! ### ECDSA -/

/-- A short Weierstrass curve with a = −3: the field prime, b, the base point and its order; `len` bytes a number. -/
structure Curve where
  p : Nat
  b : Nat
  gx : Nat
  gy : Nat
  n : Nat
  len : Nat

def p256 : Curve :=
  ⟨0xffffffff00000001000000000000000000000000ffffffffffffffffffffffff,
   0x5ac635d8aa3a93e7b3ebbd55769886bc651d06b0cc53b0f63bce3c3e27d2604b,
   0x6b17d1f2e12c4247f8bce6e563a440f277037d812deb33a0f4a13945d898c296,
   0x4fe342e2fe1a7f9b8ee7eb4a7c0f9e162bce33576b315ececbb6406837bf51f5,
   0xffffffff00000000ffffffffffffffffbce6faada7179e84f3b9cac2fc632551, 32⟩

def p384 : Curve :=
  ⟨0xfffffffffffffffffffffffffffffffffffffffffffffffffffffffffffffffeffffffff0000000000000000ffffffff,
   0xb3312fa7e23ee7e4988e056be3f82d19181d9c6efe8141120314088f5013875ac656398d8a2ed19d2a85c8edd3ec2aef,
   0xaa87ca22be8b05378eb1c71ef320ad746e1d3b628ba79b9859f741e082542a385502f25dbf55296c3a545e3872760ab7,
   0x3617de4a96262c6f5d9e98bf9292dc29f8f41dbd289a147ce9da3113b5f0b8c00a60b1ce1d7e819d7a431d7c90ea0e5f,
   0xffffffffffffffffffffffffffffffffffffffffffffffffc7634d81f4372ddf581a0db248b0a77aecec196accc52973, 48⟩

/-- x to the power e modulo m, over `k` bits of the exponent. -/
def powMod (m : Nat) : Nat → Nat → Nat → Nat
  | 0, _, _ => 1 % m
  | k + 1, x, e => (if e % 2 = 1 then x else 1) * powMod m k (x * x % m) (e / 2) % m

/-- The inverse modulo a prime, by Fermat. -/
def invMod (m x : Nat) : Nat := powMod m 400 (x % m) (m - 2)

/-- Point addition; none is the point at infinity. -/
def Curve.add (c : Curve) : Option (Nat × Nat) → Option (Nat × Nat) → Option (Nat × Nat)
  | none, q => q
  | q, none => q
  | some (x1, y1), some (x2, y2) =>
    if x1 = x2 ∧ (y1 + y2) % c.p = 0 then none
    else
      let l := if x1 = x2 then (3 * x1 * x1 + (c.p - 3)) * invMod c.p (2 * y1) % c.p
        else (y2 + (c.p - y1)) * invMod c.p (x2 + (c.p - x1)) % c.p
      let x3 := (l * l + (c.p - x1) + (c.p - x2)) % c.p
      some (x3, (l * (x1 + (c.p - x3)) + (c.p - y1)) % c.p)

def Curve.mulAux (c : Curve) : Nat → Nat → Option (Nat × Nat) → Option (Nat × Nat)
  | 0, _, _ => none
  | k + 1, e, q => c.add (if e % 2 = 1 then q else none) (Curve.mulAux c k (e / 2) (c.add q q))

/-- The multiple of a point. -/
def Curve.mul (c : Curve) (e : Nat) (q : Option (Nat × Nat)) : Option (Nat × Nat) := c.mulAux (8 * c.len) e q

/-- The point of a SEC 1 uncompressed public key, where it lies on the curve. -/
def Curve.point (c : Curve) (pub : Bytes) : Option (Nat × Nat) :=
  let x := beNat ((pub.drop 1).take c.len)
  let y := beNat ((pub.drop (1 + c.len)).take c.len)
  if pub.length = 1 + 2 * c.len ∧ pub.headD 0 = byte 4 ∧ x < c.p ∧ y < c.p ∧
      y * y % c.p = (x * x * x + (c.p - 3) * x + c.b) % c.p then some (x, y) else none

/-- Does the signature (r, s) over the digest verify under the public key? -/
def Curve.verify (c : Curve) (pub digest : Bytes) (r s : Nat) : Bool :=
  match c.point pub with
  | none => false
  | some q =>
    if r = 0 ∨ s = 0 ∨ c.n ≤ r ∨ c.n ≤ s then false
    else
      let z := beNat (digest.take c.len)
      let w := invMod c.n s
      match c.add (c.mul (z * w % c.n) (some (c.gx, c.gy))) (c.mul (r * w % c.n) (some q)) with
      | none => false
      | some (x, _) => x % c.n = r

/-- The signature over the digest with private scalar d and nonce k. -/
def Curve.sign (c : Curve) (d : Nat) (digest : Bytes) (k : Nat) : Bytes :=
  let r := (match c.mul (k % (c.n - 1) + 1) (some (c.gx, c.gy)) with | some (x, _) => x | none => 0) % c.n
  let s := invMod c.n (k % (c.n - 1) + 1) * (beNat (digest.take c.len) + r * d) % c.n
  beBytes c.len r ++ beBytes c.len s

/-- The public key of a private scalar, SEC 1 uncompressed. -/
def Curve.pub (c : Curve) (d : Nat) : Bytes :=
  match c.mul d (some (c.gx, c.gy)) with
  | some (x, y) => byte 4 :: (beBytes c.len x ++ beBytes c.len y)
  | none => []

/-- The private scalar of the first `len` bytes of big-endian key material: d = (k mod (n − 1)) + 1 (R494). -/
def Curve.scalar (c : Curve) (k : Bytes) : Nat := beNat k % (c.n - 1) + 1

end Sys2Proof.Machine
end

