-- ==== Sys2Proof/Config.lean ====
section
/-! DEFINITION. What the device, not the spec, fixes, and the free values: constants with no body, so that nothing
can be proved of their values. A free value drawn several times is applied to the counter `State.freeCtr`, so each
draw is a fresh one. -/
namespace Sys2Proof.Config

/-- The 128-bit device UID, fixed in manufacture (spec/16_field_update.md R495, ORG_UID). -/
opaque uid : BitVec 128

/-- The station address of port n, first transmitted byte lowest (spec/05_host_port_mailboxes.md R171). -/
opaque mac : Nat → BitVec 48

/-- A random number of the given count of bits drawn by Orangery (spec/15_orangery_keys.md R479, R480), fresh for
each draw: free (log entry 12). -/
opaque randomBits : Nat → Nat → Nat

/-- What a register shows that holds a physical measurement no command reports, by register address and FRC: free
(log entry 22). -/
opaque measured : Nat → Nat → Nat

/-- The device's factory secrets, never readable: the 256-bit seed of the derivation root and the wrap of the
factory slots (spec/15_orangery_keys.md R472, R474). -/
opaque deviceSecret : Nat → Nat

/-- The SHA-384 of vendor firmware key n, 0–3, held in OTP, first byte lowest (spec/16_field_update.md R502). -/
opaque vendorKeyHash : Nat → BitVec 384

/-- The unit whose routine catalogue holds a firmware routine, by the routine number of an EVENT task's HANDLER, as the
unit's number in SYS_UNITS; any other number for none (spec/06_arbour_scheduler.md R216, log entry 20). -/
opaque routineUnit : Nat → Nat

/-- A variance SOLVE's filter starts from or adds, by use: 0 position (mm²), 1 velocity ((mm/s)²), 2 ambiguity (cycle²) of a state
that is new; 3 position, 4 velocity, 5 ionospheric delay, added per second (spec/09_corrections_central_solve.md R293, log
entry 81). -/
opaque filterVar : Nat → Nat

/-- The troposphere's delay of a signal in 2^-10 mm, of the standard atmosphere and mapping function the firmware uses, at an
earth-fixed place in mm for the sine of an elevation in 2^-30 (spec/09_corrections_central_solve.md R293, log entry 81). -/
opaque tropo : List Int → Int → Int

/-- The text of the version of the firmware in a slot, as message 1033 gives it (spec/09_corrections_central_solve.md R308). -/
opaque firmwareText : Nat → List (BitVec 8)

end Sys2Proof.Config
end

