-- ==== Sys2Proof/Machine/State.lean ====
section
/-! DEFINITION. The state of the block: plain data, holding every register, queue, buffer, key, mode and pin the spec
gives it, and the queue of commands waiting. Registers stand in one sparse register file, `regs` (address and value,
addresses rising, no entry equal to its reset value); a register banked per master stands at the master's ID times
2^32 plus its address. What the spec describes behind the registers stands in the structures of the units. -/
namespace Sys2Proof.Machine

/-- Why the block stops. -/
inductive Fault where
  /-- A register access names an address at or above 2^32, which the 32-bit address space of R16 does not hold. Raised by
  every access command (log entry 37); safe, since the spec gives such an access no effect. -/
  | unmappedAddress
deriving DecidableEq, Repr

/-- Why a command has no meaning. -/
inductive Refusal where
  /-- The command's meaning is not written. Raised by `exec` only; safe. -/
  | notModelled (mnemonic : String)
deriving DecidableEq, Repr

/-- The parts of the family (spec/00_scope.md, Variants). -/
inductive Part where
  | ewg9640
  | ewg9630
  | ewg9620
deriving DecidableEq, Repr

/-! ### Power, domains, accesses held (spec/03) -/

/-- What is held for a domain until it reaches ON (R42, R106): a wake, work, a flag, the GO of a mailbox channel, a
register or stream access, a HOSTSPI read, a READ or WRITE of the Isben link, a request of the Ethernet host channel. -/
inductive HeldWhat where
  | wake
  | work
  | flag
  | go (c : Nat)
  | regWrite (m : Master) (addr : Nat) (v : DWord)
  | regRead (m : Master) (addr : Nat)
  | spiRead (m : Master) (addr nbytes : Nat)
  | svcReq (write : Bool) (seq addr count : Nat) (data : List Word)
  | ethReq (port : Nat) (src : BitVec 48) (seq cmd addr count : Nat) (data : List DWord)
  | ptpMsg (port : Nat) (x : PtpMsg) (r : PtpOut) (stamp : List DWord)
deriving DecidableEq, Repr

/-- A domain held in reset by a source (R566). -/
structure ResetHold where
  src : ResetSrc
  doms : List Nat
deriving DecidableEq, Repr

/-- Lodge: power state, resets and the wake compare. `entering` is the state being
entered (3 Watch, 4 deep standby), `shed` the FRC of a supply loss whose late shedding is due, `held` the events held per domain, `railFaults` the rail faults
(domain, FRC), `quiet` that entry has begun its shutdowns, `idle5` and `idle13` the FRC at which the last work of D5 and
of D13 completed (R109), `wakeSaved` the host's LODGE_WAKE_FRC and whether it has fired (R237), `measured` the boot
measurement M, `domReset` the domains that keep GZB_CAUSE_NOW.DOM_RESET at 1 (R566),
`boot` says that start-up goes on from the firmware load once D3 is ON, `tamperBoot` that it then enters the recovery ROM
(R128), `startPath` is the start path of R133. -/
structure Power where
  off : Bool := false
  porHeld : Bool := true
  mains : Bool := true
  entering : Nat := 0
  shed : Option Nat := none
  held : List (Nat × HeldWhat) := []
  resetHolds : List ResetHold := []
  railFaults : List (Nat × Nat) := []
  wakeArmed : Bool := false
  wakeSaved : Option (Nat × Bool) := none
  quiet : Bool := false
  idle5 : Nat := 0
  idle13 : Nat := 0
  frcFrac : Nat := 0
  lockA : Bool := false
  lockB : Bool := false
  resetPinLow : Bool := false
  wakeReq : Nat := 0
  measured : Bytes := []
  domReset : List Nat := []
  boot : Bool := false
  tamperBoot : Bool := false
  startPath : Nat := 0
deriving DecidableEq, Repr

/-- One PULSE or FIFO crossing (R119–R123); `merged`, `pending`, `dropped` and `resync` are what LODGE_XING_STAT
shows; `lost` says that a side lost items it held, reported DROPPED at the resynchronisation. -/
structure Xing where
  busy : Bool := false
  pending : Bool := false
  merged : Nat := 0
  dropped : Bool := false
  resync : Bool := false
  lost : Bool := false
deriving DecidableEq, Repr

/-- Output pads and pad inputs the module follows (R57, R71, R78, R240). `antBias` is the bias each antenna input is given,
0 off, 1 3.3 V, 2 5.0 V, 3 folded back (R68), `biasFrc` the FRC at which it folded back last. -/
structure Pads where
  vaux : Bool := false
  paEnA : Bool := false
  lnaEnA : Bool := false
  paEnB : Bool := false
  lnaEnB : Bool := false
  rel1 : Bool := false
  rel2 : Bool := false
  ppsOut : Bool := false
  gpio : List Bool := List.replicate 16 false
  snapIn : Bool := false
  svcPresent : Bool := false
  bootRecovery : Bool := false
  svcRxInvert : Bool := false
  antBias : List Nat := [0, 0]
  biasFrc : List Nat := [0, 0]
deriving DecidableEq, Repr

/-! ### Plan image and swaps (spec/04) -/

/-- The plan in force: its section bodies by type, the sections skipped, the copy read from the slot, and the staged
swap image. A swapped section stands in `live` and hides the slot's own (R157). -/
structure Plan where
  sections : List (Nat × Bytes) := []
  live : List (Nat × Bytes) := []
  copy : Bytes := []
  staging : List (Nat × Byte) := []
  units : Nat := 0
deriving DecidableEq, Repr

/-- A section swap in progress (R153): its sections, its SWAP_SEQ, the announcing beacons still to be sent. -/
structure Swap where
  image : Bytes := []
  sections : List (Nat × Bytes) := []
  seq : Nat := 0
  framesLeft : Nat := 0
  effectiveOnce : Bool := false
  storing : Bool := false
deriving DecidableEq, Repr

/-! ### Host port, mailboxes, claims, streams (spec/05) -/

/-- One posted write: a register word (one queue entry) or a stream word (two) (R168); `req` is the source and SEQ of the
Ethernet host channel's WRITE whose last word it is. -/
structure PostedWrite where
  m : Master
  addr : Nat
  v : DWord
  stream : Bool
  req : Option (BitVec 48 × Nat) := none
deriving DecidableEq, Repr

/-- The HOSTSPI port (R164–R170) and the write queue; `waiting` is a read that waits, behind `ahead` posted writes. -/
structure Hspi where
  lowS : Bool := false
  lowNs : Bool := false
  txn : Option Sel := none
  skip : Bool := false
  queue : List PostedWrite := []
  wrDrop : Bool := false
  frameErr : Bool := false
  bothCs : Bool := false
  secViol : Bool := false
  waiting : Option (Nat × Nat) := none
  ahead : Nat := 0
deriving DecidableEq, Repr

/-- A kept reply of the Ethernet host channel (R172). -/
structure EthReply where
  src : BitVec 48
  seq : Nat
  port : Nat
  cmd : Nat
  addr : Nat
  count : Nat
  result : Nat
  data : List DWord
deriving DecidableEq, Repr

/-- A READ or WRITE of the Ethernet host channel not yet answered: the posted writes it waits behind, and the ports on which
it has been repeated, each of which is answered (R168, R172). -/
structure EthOpen where
  src : BitVec 48
  seq : Nat
  port : Nat
  cmd : Nat
  addr : Nat
  count : Nat
  ahead : Nat
  again : List Nat := []
deriving DecidableEq, Repr

/-- The Ethernet ports: the requests not yet answered, the kept replies, newest source first, the port of the last request, the frames held in
Watch per port (R110); PTP's servo rate, its time-receiver port, whether that is in lock, its grandmaster's clockClass, the
FRC of the last Sync sent and of the last message received per port, the downstream clients of each port. -/
structure Eth where
  opened : List EthOpen := []
  kept : List EthReply := []
  lastPort : Nat := 0
  watchBuf : List (Nat × Nat) := []
  ptpRate : Int := 0
  ptpSlave : Option Nat := none
  ptpLocked : Bool := false
  gmClass : Nat := 0
  syncFrc : List (Option Nat) := [none, none]
  ptpRx : List Nat := [0, 0]
  ptpClients : List (Nat × Nat) := []
deriving DecidableEq, Repr

/-- A claim's lease: the length it runs with, the FRC it started at, whether it has expired (R185–R187). -/
structure Lease where
  us : Nat := 1000
  start : Nat := 0
  expired : Bool := false
deriving DecidableEq, Repr

/-- One word of a stream (R17): its data, its valid bytes 1–4, its end mark, its sequence number. -/
structure SWord where
  data : Word
  bytes : Nat
  eop : Bool
  seq : Nat
deriving DecidableEq, Repr

/-- A packet of a stream: the words still held, whether its end mark has come, whether it lost a word (R190, R191). -/
structure Pkt where
  words : List SWord
  closed : Bool
  lost : Bool := false
deriving DecidableEq, Repr

/-- A stream window (R188), with the token of the masters that ask for it in one tick (R48). -/
structure Strm where
  pkts : List Pkt := []
  seq : Nat := 0
  token : Nat := 0
deriving DecidableEq, Repr

/-! ### Arbour (spec/06) -/

/-- Where a work item stands (R199, R204, R210). -/
inductive Phase where
  | queued
  | running (core : Nat)
  | waiting (core : Nat)
  | done (core : Nat)
deriving DecidableEq, Repr

/-- A work item in flight (R206, R210). `status` and `result` are what its completion record will carry; `mark` is
Gazebo's count of event causes at its acceptance (R444, check 5), `stopped` that a stop stood then (R383, R462); `prog` is how far a handler that waits has come. -/
structure WItem where
  wid : Nat
  grp : Grp
  typ : Nat
  task : Nat
  quiet : Bool
  tag : Nat
  args : List Nat
  payload : Bytes
  stamp : Nat
  phase : Phase
  finished : Bool
  status : Nat
  result : Bytes
  mark : Nat
  stopped : Bool
  prog : List Nat
deriving DecidableEq, Repr

/-- A host task's record and its state (R195, R216). -/
structure TaskSt where
  id : Nat
  prio : Nat
  event : Bool
  all : Bool
  mask : Nat
  handler : Nat
  conc : Nat
  access : Nat
  qmax : Nat
  flags : Nat := 0
  merged : Nat := 0
  stamp : Nat := 0
  runs : List Nat := []
deriving DecidableEq, Repr

/-- Arbour's scheduler (R195–R218). `cores` holds the CORE_k codes of ARB_CORE_STAT; `waitS` and `waitNs` are
records held on the windows' side (refusals and epoch records, R215), `coreFaults` the FRCs of core faults, `waitInternal`
the tasks whose internal producers wait, `repost` the mailbox channels whose wake is due to be raised again (R179). -/
structure Arb where
  items : List WItem := []
  tasks : List TaskSt := []
  cores : List Nat := [0, 0, 0, 0, 0, 0, 0, 0]
  nextWid : Nat := 1
  cycle : Nat := 0
  tokens : List Nat := List.replicate 16 0
  waitS : List Bytes := []
  waitNs : List Bytes := []
  coreFaults : List Nat := []
  waitInternal : List Nat := []
  repost : List Nat := []
deriving DecidableEq, Repr

/-! ### Sundial (spec/07) -/

/-- A time base: anchor FRC, anchor time in units of 2^-16 ns, rate ADJ (R219). -/
structure TimeBase where
  fa : Nat := 0
  ta : Int := 0
  adj : Int := 0
deriving DecidableEq, Repr

/-- Sundial behind its registers: TB0's slew, TB3's USER_ADJ, its slew with the offset and the FRC it began at, the TB0 step that waits (ns),
the last LOCKED error estimate and the frequency uncertainty, the last PPS_IN edges in TB0, the time of day given for the
next edge and whether an edge has taken it, the seconds of the last edge of an EXT source, the compares saved for Watch,
the ASN of the last slot start, the FRC of the last valid measurement, the GPIOs within a compare's pulse with the FRC of
its end, the FRC of PPS_OUT's last rise, the event records that wait for D2 (secure?, record). `stepItem` says that the TB0
step that waits is that of an SDL_STEER item (R248). -/
structure Sdl where
  tbs : List TimeBase := [{}, {}, {}, {}]
  slew0 : Int := 0
  userAdj : Int := 0
  slew3 : Int := 0
  slew3Left : Int := 0
  slew3Frc : Nat := 0
  stepBy : Option Int := none
  stepItem : Bool := false
  extSec : Option Nat := none
  extOff : Option Int := none
  e0 : Nat := 0
  func : Nat := 0
  ppsEdges : List Nat := []
  ppsInFrc : Nat := 0
  todAt : Option Nat := none
  todGiven : Bool := false
  saved : List (Nat × List Nat) := []
  lastSlot : Option Nat := none
  holdFrom : Nat := 0
  pulses : List (Nat × Nat) := []
  ppsFrc : Nat := 0
  owed : List (Bool × Bytes) := []
deriving DecidableEq, Repr

/-! ### Gazebo (spec/13) -/

/-- A stop train on air, begun at an FRC (R429). -/
structure Train where
  frc : Nat
  initial : Bool
  rfb : Bool
  keyed : Bool
deriving DecidableEq, Repr

/-- Self-test of one loop (R438–R440): the FRC of the last fall of TP, the pulse's judgements so far; `mismatch` and `mmOpen` count consecutive samples
at 5 V or less with the comparator closed, at 15 V or more with it open. -/
structure LoopTest where
  tpFrc : Nat := 0
  fallFail : Bool := false
  otherFell : Bool := false
  otherRose : Bool := false
  crossFail : Bool := false
  lastPassed : Bool := false
  tpLimit : Bool := false
  reversed : Bool := false
  mismatch : Nat := 0
  mmOpen : Nat := 0
deriving DecidableEq, Repr

/-- Gazebo behind its registers. `words` are the stop words held: that of the standing stop and that computed in
advance (R433); `diffFrc` is the FRC since which the loops read differently (R440), `relFrc` that at which the relay drivers
turned on (R79), `faultDue` the faults whose event takes the next monitor sample (R447). -/
structure Gzb where
  curKey : Option Bytes := none
  nextKey : Option Bytes := none
  word : Nat := 0
  nextWord : Nat := 0
  radio : Option (Nat × Nat × Nat) := none
  fromPlan : Bool := false
  train : Option Train := none
  edgeFrc : DWord := 0
  causes : Nat := 0
  testA : LoopTest := {}
  testB : LoopTest := {}
  rfResults : List Bool := []
  diffFrc : Option Nat := none
  relFrc : Nat := 0
  faultDue : List Nat := []
deriving DecidableEq, Repr

/-! ### Visitor book, snapshots, persistent store, link test (spec/17) -/

/-- A Visitor book trigger taken, whose record is not yet assembled (R528). -/
structure VbTrig where
  code : Nat
  data : Bytes
  frc : DWord
  tbNs : Nat
  tbSec : Nat
  tbState : Nat
  suppressed : Nat
  bank : Option Nat
  noSnap : Bool
  wid : Option Nat
deriving DecidableEq, Repr

/-- A Visitor book record: its bytes from MARK to CRC, and where it stands in flash. -/
structure VbRec where
  seq : Nat
  code : Nat
  boot : Nat
  bytes : Bytes
  ess : Bool
  sector : Nat := 0
  off : Nat := 0
  mark : Bool := false
  wid : Option Nat := none
deriving DecidableEq, Repr

/-- A code's token bucket: tokens spent, FRC of the first spend since full, triggers suppressed (R530). -/
structure Bucket where
  code : Nat
  spent : Nat
  since : Nat
  suppressed : Nat
deriving DecidableEq, Repr

/-- A snapshot bank's SNAP: its number, sources and trigger FRC, and whether a record has included it (R522). -/
structure SnapBank where
  seq : Nat := 0
  src : Nat := 0
  frc : DWord := 0
  used : Bool := false
deriving DecidableEq, Repr

/-- The recorder. The flash region's records stand in `book`, oldest first. -/
structure Vb where
  trigs : List VbTrig := []
  queue : List VbRec := []
  book : List VbRec := []
  buckets : List Bucket := []
  banks : List SnapBank := [{}, {}]
  sector : Nat := 0
  off : Nat := 0
  essSector : Nat := 0
  essOff : Nat := 0
  lost : Nat := 0
  torn : Bool := false
  basePending : Bool := false
deriving DecidableEq, Repr

/-- Persistent-store entry 0x0001: the update controller record (spec/16 R496). -/
structure UpdRec where
  fwActive : Nat := 0
  planActive : Nat := 0
  state : Nat := 0
  changed : Nat := 0
  trialBoots : Nat := 0
  burn : Bool := false
  svnTarget : Nat := 0
  svnPending : Bool := false
  rbCause : Nat := 0
  relA : Nat := 0
  relB : Nat := 0
deriving DecidableEq, Repr

/-- A key slot of Orangery (spec/15 R469–R472); `epoch` is the wipe epoch a TAMPER_WIPE slot was stored under. -/
structure KeySlot where
  cls : Nat := 0
  keyId : Nat := 0
  persist : Bool := false
  expire : Bool := false
  wipe : Bool := false
  limited : Bool := false
  uses : Nat := 0
  isSealed : Bool := false
  exhausted : Bool := false
  epoch : Nat := 0
  key : Bytes := []
deriving DecidableEq, Repr

/-- A persistent-store image (R536): each entry present or absent, and the entries of unknown ID, copied unchanged. -/
structure PsImage where
  seq : Nat := 0
  upd : Option UpdRec := none
  org : Option (List (Nat × KeySlot) × Nat) := none
  clearSeq : Option Nat := none
  swapSeq : Option (Nat × Nat) := none
  session : Option Nat := none
  survey : Option (List (Nat × List Int)) := none
  vbFreeze : Option (Nat × Nat) := none
  stopRadio : Option (Nat × Nat × Nat) := none
  unknown : List (Nat × Bytes) := []
deriving DecidableEq, Repr

/-- A change requested of the store. -/
inductive PsChange where
  | upd (r : UpdRec)
  | org (slots : List (Nat × KeySlot)) (counter : Nat)
  | orgUse (slot : Nat)
  | clearSeq (n : Nat)
  | swapSeq (planId seq : Nat)
  | session (ceiling : Nat)
  | survey (ant : Nat) (vals : List Int)
  | vbFreeze (planId base : Nat)
  | stopRadio (region net rfb : Nat)
deriving DecidableEq, Repr

/-- A check with slot keys whose result waits for a use to be counted (R471): of a clear's TAG; of the signature of a plan slot
at start-up, the second slot or the first, under the load's record; of a swap image's; of the plan part of an update session's
image, for the session's source and the SEQ of its packet. -/
inductive KeyCheck where
  | clear (wid : Nat)
  | boot (second : Bool) (r : UpdRec)
  | swap
  | updEnd (src seq : Nat)
deriving DecidableEq, Repr

/-- What the requester does once its write completes or fails (R538, R540). -/
inductive PsWho where
  | clear (wid cnt seq mark : Nat)
  | swap
  | keyUpdate (wid : Nat)
  | keyUse (wid : Nat) (result : Bytes)
  | joinUse (member session : Nat) (key : Bytes)
  | joinKey (slot : Nat)
  | keyCount (what : KeyCheck) (slot : Nat) (rest : List Nat)
  | session
  | survey
  | freeze
  | radio
  | updActivate (via : Nat)
  | updConfirm
  | updOther
  | trialBoot
  | rollback (reset : Bool)
deriving DecidableEq, Repr

/-- A request to the store. -/
structure PsReq where
  who : PsWho
  change : PsChange
deriving DecidableEq, Repr

/-- The persistent store (R536–R540): the two banks in flash, the image selected, the write running, its failed
attempts, the requests waiting. -/
structure Ps where
  bank0 : Option PsImage := none
  bank1 : Option PsImage := none
  sel : Option PsImage := none
  running : List PsReq := []
  tries : Nat := 0
  waiting : List PsReq := []
deriving DecidableEq, Repr

/-- A PRBS checker (R541): its register, the newest bit lowest; how many bits it has seeded itself from and how many in a row
were as it expected; whether it is in sync, and ever was; which of the last 64 bits in sync were errors, newest first; and its
counts of bits checked, errors, and losses of sync. -/
structure PrbsChk where
  reg : Nat := 0
  fill : Nat := 0
  good : Nat := 0
  sync : Bool := false
  ever : Bool := false
  window : List Bool := []
  bits : Nat := 0
  errors : Nat := 0
  loss : Nat := 0
deriving DecidableEq, Repr

/-- The TEST unit's running test (R541–R544): the FRC of its start `frc`, the generator's register `gen`, its checker. -/
structure LinkTest where
  wid : Nat
  link : Nat
  pattern : Nat
  loop : Nat
  ms : Nat
  arg2 : Nat
  arg3 : Nat
  value : Nat := 0
  start : Nat := 0
  frc : Nat := 0
  gen : Nat := 0
  chk : PrbsChk := {}
deriving DecidableEq, Repr

/-! ### Wicket (spec/14) -/

/-- A move of an axis: a table, or a target whose profile is built at its start (R459, R460); a SHARED move is due once
a compare has named its axis. -/
structure WktMove where
  wid : Nat
  knots : List Knot
  shared : Bool
  rel : Bool
  target : Option Int
  due : Bool := false
deriving DecidableEq, Repr

/-- A homing run (R464). -/
structure Homing where
  wid : Nat
  switch : Bool
  positive : Bool
  level : Bool
  speed : Nat
  home : Int
  travel : Nat
  acc : Nat
  ended : Option Nat := none
deriving DecidableEq, Repr

/-- What a winding's chopper does with its bridge (R450): gates off, drive, reverse, both low sides on, or the hold of the
current at zero (R454). -/
inductive Chop where
  | off
  | on
  | fast
  | slow
  | hold
deriving DecidableEq, Repr

/-- A winding's chopper (R450, R451): its phase and the one before it, the FRC from which the phase drives once the dead time
is over, OFS in mA, the sign of its target and of the one before, whether this on-phase has read the valley current. -/
structure Wind where
  phase : Chop := .off
  prev : Chop := .off
  frc : Nat := 0
  ofs : Int := 0
  neg : Bool := false
  prevNeg : Bool := false
  read : Bool := false
deriving DecidableEq, Repr

/-- An axis behind its registers: the table in force with its start and base, the pending table, the homing run, the
deceleration ramp (position, speed, FRC at its start; `braking` is the rate of a rebuilt braking of R463), items the
ramp will complete, deferred decelerations, i_set, the FRC at which the standstill began, the windings' choppers, the full step
it is in, the consecutive zero crossings at which the load angle was at or above STALL_DEG (R454), the FRC at which its checks
began (R456) and the reading of WKTn_VM a command brought last, in 10 mV. -/
structure Axis where
  cur : Option WktMove := none
  start : Nat := 0
  base : Int := 0
  pend : Option WktMove := none
  homing : Option Homing := none
  braking : Option Rat := none
  rampS : Rat := 0
  rampV : Rat := 0
  rampFrc : Nat := 0
  ending : List Nat := []
  decNew : Option Nat := none
  edecNew : Option Nat := none
  iset : Nat := 0
  holdFrc : Nat := 0
  reducing : Bool := false
  winds : List Wind := [{}, {}]
  step : Int := 0
  stallRun : Nat := 0
  checkFrc : Nat := 0
  vm : Option Int := none
deriving DecidableEq, Repr

/-! ### Belvedere (spec/08) -/

/-- A tracking channel not in IDLE (R258, R259): its state code, antenna, satellite and signal, flags, measured values;
`fails` counts the consecutive evaluations of R272 in which SPOOF's checks fail, INTERF's fail, SPOOF's all pass,
INTERF's all pass; `since` is the FRC at which it came to its state, `lowFrc` that since which its satellite is below the
elevation mask. -/
structure BvChan where
  ch : Nat
  state : Nat
  ant : Nat := 0
  sys : Nat := 0
  svid : Nat := 0
  sig : Nat := 0
  float : Bool := false
  spoof : Bool := false
  interf : Bool := false
  excluded : Bool := false
  cn0 : Nat := 0
  elev : Nat := 255
  slips : Nat := 0
  slip : Bool := false
  lockFrc : Option Nat := none
  since : Nat := 0
  lowFrc : Option Nat := none
  fails : List Nat := [0, 0, 0, 0]
deriving DecidableEq, Repr

/-- A search pending or running (R254–R257): its class 1–4, satellite and signal (SVID 0 for every one of the system), the
channel or work item it serves, whether it is aided, the centre of its Doppler window where it is known, the item's settings,
the FRC of its start. -/
structure BvSearch where
  cls : Nat
  sys : Nat
  svid : Nat
  sig : Nat
  ch : Option Nat := none
  wid : Option Nat := none
  aided : Bool := false
  centre : Option Int := none
  span : Nat := 0
  coh : Nat := 0
  noncoh : Nat := 0
  start : Nat := 0
deriving DecidableEq, Repr

/-- A survey-in (R268, R269): its limits, the seconds counted, sums of the positions and of their squares, the SURVEY
state before it. -/
structure Survey where
  minT : Nat
  maxT : Nat
  acc : Nat
  t : Nat := 0
  sum : List Int := [0, 0, 0]
  sq : List Int := [0, 0, 0]
  before : Nat := 0
deriving DecidableEq, Repr

/-- A base epoch whose record is complete (R262, R264): its TB0 time, whether it is a UL_OBS epoch and an OBS_INTERVAL
multiple, its record. -/
structure BaseEpoch where
  tb : Nat
  ul : Bool
  multiple : Bool
  body : Bytes
deriving DecidableEq, Repr

/-- A base epoch latched whose record is not complete (R262–R264): its TB0 time, whether it is a UL_OBS epoch, whether it
enters BASE, whether it is an OBS_INTERVAL multiple; and as they stood at the epoch the active antenna, FLAGS, CLK_BIAS, the
FRC and the channels. -/
structure BvLatch where
  tb : Nat
  ul : Bool
  base : Bool
  multiple : Bool
  ant : Nat
  flags : Nat
  bias : Nat
  frc : Nat
  chans : List BvChan
deriving DecidableEq, Repr

/-- Belvedere behind its registers. `ephem` are the ephemerides and `alm` the satellites of the almanacs held, `sky` what is predicted of satellites; `sysPass` counts
evaluations per system (R272); `noiseMs` the time a chain's noise has exceeded its limit; `pos` is the base position of each
antenna; `lastTb` is the TB0 time of the last epoch latched, `lastBias` the clock bias of the second before, `meas` the offset
in ns delivered to Sundial, `antFrc` the FRC at which an antenna came to report OPEN or SHORT, `isbAvg` the smoothed inter-system offsets (R267). -/
structure Bv where
  chans : List BvChan := []
  searches : List BvSearch := []
  running : List (Nat × BvSearch) := []
  ephem : List Eph := []
  alm : List (Nat × Nat) := []
  pos : List (Option (List Int)) := [none, none]
  survey : Option Survey := none
  latched : Option BvLatch := none
  lastTb : Option Nat := none
  lastBias : Option Int := none
  meas : Option Int := none
  antFrc : List Nat := [0, 0]
  isbAvg : List (Option Rat) := List.replicate 7 none
  baseQ : List BaseEpoch := []
  seq : Nat := 0
  sysPass : List Nat := List.replicate 14 0
  rtcmIn : List BaseEpoch := []
  noiseMs : List Nat := [0, 0, 0, 0, 0, 0, 0, 0]
  posFails : List Nat := [0, 0]
  sky : List SkyAim := []
  switched : Bool := false
  stepped : Bool := false
deriving DecidableEq, Repr

/-! ### SOLVE and the correction builder (spec/09) -/

/-- A rover record in OBS_IN, pending, or on a lane (R283–R292). -/
structure ObsRec where
  member : Nat
  asn : Nat
  payload : Bytes
  frc : Nat
  deferred : Bool := false
deriving DecidableEq, Repr

/-- POS of a member without a position (R306). -/
def zeroPos : Bytes := List.replicate 9 (byte 0)

/-- A satellite's signal: system, SVID, signal code. -/
structure SigId where
  sys : Nat
  svid : Nat
  sig : Nat
deriving DecidableEq, Repr

/-- A double difference of a signal code: a satellite against the reference satellite `ref` (R293). -/
structure DD where
  sig : SigId
  ref : Nat
deriving DecidableEq, Repr

/-- A state of the float filter (R293): a coordinate of the position in mm or of the velocity in mm/s, east, north and up; a
double difference's ambiguity in cycles or ionospheric delay in mm. -/
inductive FKey where
  | pos (i : Nat)
  | vel (i : Nat)
  | amb (d : DD)
  | iono (d : DD)
deriving DecidableEq, Repr

/-- A float filter (R293): its states, their values and covariance, and the ASN of the epoch it stands at. -/
structure Flt where
  keys : List FKey
  x : List Rat
  p : List (List Rat)
  asn : Nat
deriving DecidableEq, Repr

/-- A fixed ambiguity, and the updates that have confirmed it (R297). -/
structure AmbFix where
  dd : DD
  int : Int
  conf : Nat := 0
deriving DecidableEq, Repr

/-- A rover state and SLV_ROV's values of a member (R289, R293–R297, R318): `search` its search due, `flt` its filter, `fixes` its
fixed ambiguities and `fixed` whether they are confirmed, `part` that a partial search fixed them; the LOCK of each signal in its
last record, its geometry-free phases, and the slips the base has told since, each with its epoch's ASN; `nsig` the signals of
its last record, `filter` that it has a rover state. -/
structure Rover where
  member : Nat
  status : Nat := 0
  enabled : Bool := true
  search : Bool := false
  held : Bool := false
  ratio : Nat := 0
  consec : Nat := 0
  baseline : Nat := 0
  ttff : Nat := 0
  fixedOnce : Bool := false
  clearFrc : Nat := 0
  pos : Bytes := zeroPos
  nsig : Nat := 32
  filter : Bool := false
  flt : Option Flt := none
  fixes : List AmbFix := []
  fixed : Bool := false
  part : Bool := false
  locks : List (SigId × Nat) := []
  gf : List (SigId × SigId × Rat) := []
  slips : List (SigId × Nat) := []
deriving DecidableEq, Repr

/-- A fix in FIX: its record, its member and epoch slot. -/
structure FixRec where
  member : Nat
  body : Bytes
deriving DecidableEq, Repr

/-- A transport frame of the correction builder waiting for the air (R312, R313), with its epoch's TB0 time. -/
structure CorrMsg where
  tb : Nat
  bytes : Bytes
deriving DecidableEq, Repr

/-- SOLVE behind its registers: OBS_IN, the base store, the pending store, the lanes, the rover states, the decisions
of the budget pass (member, epoch ASN, skip?), the members whose record of the slot in progress was accepted, the queue
FIX, the completions without a solution that wait for room in it (member, epoch ASN, status, LATE); and the correction
builder's queue with the bytes of its first message already sent, and the whole cycles it put to each signal's phase. -/
structure Slv where
  obsIn : List ObsRec := []
  store : List BaseEpoch := []
  pend : List ObsRec := []
  lanes : List (Option ObsRec) := [none, none, none, none]
  rovers : List Rover := []
  decided : List (Nat × Nat × Bool) := []
  fixQ : List FixRec := []
  owed : List (Nat × Nat × Nat × Nat) := []
  token : Nat := 0
  done : List Nat := []
  corr : List CorrMsg := []
  corrOff : Nat := 0
  cseq : Nat := 0
  sets : Nat := 0
  cyc : List (SigId × Int) := []
deriving DecidableEq, Repr

/-! ### Bandstand and the fleet (spec/10, spec/11) -/

/-- What a downlink frame's acknowledgement, sending or loss brings about. -/
inductive FrameTag where
  | none
  | joinRsp
  | setup (index : Nat)
  | schedOwn
  | key (entry : Nat)
  | leave (reason : Nat) (wid : Option Nat)
  | seg (seq : Nat) (last : Bool)
  | data (wid : Nat) (last : Bool)
  | resync
  | corr
deriving DecidableEq, Repr

/-- A frame of DL_A or DL_B, or one sent and awaiting its IACK: its address, type, header and plaintext, its queue
priority, its SEQ once sent, its transmissions so far (R324, R332, R352). -/
structure DlFrame where
  dst : Nat
  ftype : Nat
  tsh : Bytes
  enc : Bytes
  flood : Bool := false
  ack : Bool := false
  prio : Nat := 0
  tag : FrameTag := .none
  seq : Option Nat := none
  msgId : Option Nat := none
  tries : Nat := 0
deriving DecidableEq, Repr

/-- A key entry of a band's cache (R336, R338). -/
structure BsKey where
  entry : Nat
  key : Bytes
  session : Nat := 0
  tx : Nat := 0
  rx : Nat := 0
  exhausted : Bool := false
  next : Option Bytes := Option.none
deriving DecidableEq, Repr

/-- A received frame in RX_A or RX_B, on its way to a core. -/
structure RxFrame where
  src : Nat
  ftype : Nat
  tsh : Bytes
  plain : Bytes
deriving DecidableEq, Repr

/-- A slot acknowledgement entry (R330, R331): its channel offset, the frame's SRC, ACK, BUSY, the offset e in µs. -/
structure SackEntry where
  c : Nat
  src : Nat
  ack : Bool
  busy : Bool
  e : Int
  seq : Nat
deriving DecidableEq, Repr

/-- A transmission of the slot: its channel (none is the wake channel, R319) and its PPDU (R321), or the Manchester code of a
wake transmission (R342). -/
structure AirTx where
  chan : Option Nat
  bytes : Bytes
deriving DecidableEq, Repr

/-- A band of Bandstand: its key cache, its downlink queue, the frames its producers hold while that is full, the token of
the merge into it (R48), its receive queue, the frame awaiting an IACK, its SEQ, the last SEQ accepted per member, the
acknowledgement entries of the slot, what it sent in the slot, the FRCs between which its transmitter keys the pad (R71),
the fixes its builder has read from FIX and not sent in this slotframe, the FIX frame assembled for the next slot, the
demodulators that have received a frame in the slot (R334), the FRCs of the last train that keyed its pad (R348). -/
structure Band where
  keys : List BsKey := []
  dl : List DlFrame := []
  held : List DlFrame := []
  token : Nat := 0
  rx : List RxFrame := []
  wait : Option DlFrame := Option.none
  seq : Nat := 0
  lastSeq : List (Nat × Nat) := []
  sack : List SackEntry := []
  air : List AirTx := []
  tx : Option (Nat × Nat) := Option.none
  fixes : List FixRec := []
  fix : Option DlFrame := Option.none
  demod : List Nat := []
  keyed : Option (Nat × Nat) := Option.none
deriving DecidableEq, Repr

/-- A SETUP frame a member is still to be sent (R364): a schedule part as it stood when the sequence began, the KEY frame of an
entry, SITE. -/
inductive SetupPart where
  | sched (tsh enc : Bytes)
  | key (entry : Nat)
  | site
deriving DecidableEq, Repr

/-- A robot's LEAVE that waits for its SACK (R367). -/
structure LeaveRx where
  src : Nat
  reason : Nat
  band : Nat
  seq : Nat
deriving DecidableEq, Repr

/-- A member in the member table (R366, R380) with its partner estimate (R339–R341), in µs and ppm. `setupLeft` are the
SETUP frames still to be sent, `keyPend` the entries whose NEXT key it has not acknowledged (256 more where the frame was
dropped), `keyAsk` that its session key is being derived, `fault` and `batt` what its CTRL frames reported last (R369). `schedSent` says that an announced schedule is on its way to
it, `schedQ` are the parts not yet queued, `schedLeft` counts those it has not acknowledged (R381). -/
structure Mbr where
  id : Nat
  state : Nat := 0
  silent : Bool := false
  desync : Bool := false
  valid : Bool := false
  queued : Bool := false
  resTries : Nat := 0
  ofs : Rat := 0
  drift : Rat := 0
  te : Nat := 0
  robot : Nat := 0
  bcnAge : Nat := 0
  missed : Nat := 0
  schedSeq : Nat := 0
  session : Nat := 0
  fault : Nat := 0
  batt : Nat := 0
  caps : Nat := 0
  nonceR : Bytes := []
  nonceM : Bytes := []
  setupLeft : List SetupPart := []
  setupDone : Bool := false
  joinFrames : Nat := 0
  ctrlSeen : Bool := false
  schedSent : Bool := false
  schedQ : List Nat := []
  schedLeft : Nat := 0
  keyPend : List Nat := []
  keyAsk : Bool := false
deriving DecidableEq, Repr

/-- The fleet's common state: the member table, the RESYNC queue and the member served, the seen-cache, joins that wait
for a session value or for their key, key switches announced (entry, boundary ASN once fixed), robots' LEAVEs waiting
for their SACK, the member of the current wake pair, the joins of each member since POWER_ON (R385). `beaconSent` says that the slotframe's BEACON cell
has carried a beacon or a STOP frame; `cancelLeft` beacons are still to carry CANCEL, `steppedLeft` is one more than
those still to carry STEPPED. -/
structure Fleet where
  mbrs : List Mbr := []
  desyncQ : List Nat := []
  seen : List (Nat × Nat) := []
  joining : List Nat := []
  keySwitch : List (Nat × Option Nat) := []
  beaconSent : Bool := false
  schedSeq : Nat := 0
  leaving : List LeaveRx := []
  resyncFor : Option Nat := Option.none
  cancelLeft : Nat := 0
  steppedLeft : Nat := 0
  ceiling : Nat := 0
  joins : List (Nat × Nat) := []
deriving DecidableEq, Repr

/-! ### Pergola (spec/12) -/

/-- A reservation window (R397), in ticks of RT not reduced modulo 2^32; `stop` is END, none when OPEN; `seq` the
SEG_SEQ of the table it was granted with. -/
structure Win where
  member : Nat
  edge : Nat
  kind : Nat
  start : Int
  stop : Option Int
  seq : Option Nat := Option.none
deriving DecidableEq, Repr

/-- A segment table (R405). -/
structure SegTab where
  seq : Nat
  flags : Nat
  cls : Nat
  asn : Nat
  edges : List Nat
  knots : List Knot
  task : Nat
deriving DecidableEq, Repr

/-- A planning request (R400): its member and priority, the goal node, the earliest departure, the item it serves, why
it was raised (codes of the REPLAN event, 9 for an item, 10 for a task stop), its intake order. -/
structure PReq where
  member : Nat
  prio : Nat
  goal : Nat
  dep : Nat := 0
  wid : Option Nat := Option.none
  why : Nat := 9
  dev : Nat := 0
  wait : Bool := false
deriving DecidableEq, Repr

/-- A task (R409, R410): its stops (NODE, DWELL, ACTION), the stop being served, the FRC its dwell began, the stop the robot
was last told of. -/
structure PTask where
  id : Nat
  stops : List (Nat × Nat × Nat)
  cur : Nat := 0
  wid : Option Nat := Option.none
  dwell : Option Nat := Option.none
  suspended : Bool := false
  sent : Option Nat := Option.none
deriving DecidableEq, Repr

/-- A member as Pergola knows it: its last usable position in mm with its epoch ASN, the match of R393, its goal and
task, its tables not yet superseded, oldest first; `anchor` is the position its PARK windows were granted at (R394), `thaw`
says that its FREEZE and HOLD windows go with its next usable position (R413, R416), `leftWhy` the reason it left with (R414),
`deferred` the table and the ASN of the end of a deceleration that goes on under the old DEC (R418). -/
structure PMbr where
  id : Nat
  pos : Option (Int × Int) := Option.none
  posAsn : Nat := 0
  posFrc : Nat := 0
  edge : Nat := 0
  along : Int := 0
  dev : Nat := 0
  offGraph : Bool := false
  posLost : Bool := false
  held : Bool := false
  left : Bool := false
  fresh : Bool := false
  anchor : Option (Int × Int) := Option.none
  thaw : Bool := false
  goal : Option Nat := Option.none
  task : Option PTask := Option.none
  tabs : List SegTab := []
  segSent : Nat := 0
  segConf : Nat := 0
  arrive : Nat := 0
  leftWhy : Nat := 0
  deferred : Option (Nat × Nat) := Option.none
deriving DecidableEq, Repr

/-- Pergola behind its registers: PLAN_REQ, the requests of internal producers that wait for room in it, the request
store, the request being planned and the FRC the planner took it at, SEG with the last path's tables behind its 64 (R44), the windows; `stepOwed` is the step of TB0,
in ns, by which the windows move once the stop that stands is cleared (R415, R419). -/
structure Pgl where
  queue : List PReq := []
  waitReq : List PReq := []
  store : List PReq := []
  planning : Option PReq := Option.none
  takeFrc : Nat := 0
  seg : List (Nat × SegTab) := []
  wins : List Win := []
  mbrs : List PMbr := []
  stepOwed : Int := 0
deriving DecidableEq, Repr

/-! ### Orangery (spec/15) -/

/-- A node of the derivation tree (R474–R476): its state code, parent and label; node keys are recomputed. -/
structure OrgNode where
  idx : Nat
  state : Nat
  parent : Nat
  label : Bytes
deriving DecidableEq, Repr

/-- Orangery's retention array: the slots not EMPTY, the derivation tree, the key update that commits (its item, the
slots and counter it writes) and the items that wait for it; whether the JOIN key is due to be reloaded (R480), whether
keys are due to be drawn again (R491), the FRC of the first tamper. -/
structure Org where
  slots : List (Nat × KeySlot) := []
  nodes : List OrgNode := []
  commit : Option Nat := Option.none
  waiting : List Nat := []
  joinKey : Bool := false
  redraw : Bool := false
  tamperFrc : Option DWord := Option.none
deriving DecidableEq, Repr

/-! ### Module flash, update sessions, the Isben link (spec/16) -/

/-- What the module flash and the fuses hold beside the persistent store and the Visitor book (R495, R490, R517): the
parts of each firmware slot by KIND, the plan slots, the tamper-wipe fuses and anti-rollback fuses blown, the vendor keys
revoked (R502). -/
structure Flash where
  fwA : List (Nat × Bytes) := []
  fwB : List (Nat × Bytes) := []
  planA : Bytes := []
  planB : Bytes := []
  wipeFuses : Nat := 0
  svnFuses : Nat := 0
  revoked : List Nat := []
deriving DecidableEq, Repr

/-- An update session (R503–R513): the BEGIN payload, the bytes programmed by image offset and their ranges, the FRC of
the last command. -/
structure Upd where
  head : Bytes := []
  bytes : List (Nat × Byte) := []
  ranges : List (Nat × Nat) := []
  lastFrc : Nat := 0
deriving DecidableEq, Repr

/-- The Isben link (R507–R509): the SEQ and the reply kept, the reply sent last, the SEQ and item of an outstanding
SUBMIT, whether SVC_PRESENT has been asserted since that was taken (R486), whether a packet has come since the rate changed and
the FRC of that change (R507). -/
structure Svc where
  keptSeq : Option Nat := Option.none
  kept : Bytes := []
  sent : Bytes := []
  submit : Option (Nat × Nat) := Option.none
  held : Bool := false
  rateProven : Bool := true
  rateFrc : Nat := 0
deriving DecidableEq, Repr


/-- The whole machine. `part` and `flash` fields are fixed in manufacture or survive Off; `freeCtr` is the model's own
counter of free values drawn (log entry 12); `bus` holds what the last read returned; `mbxDirty` lists the
mailbox channels whose LEN or TAG was written since their last GO (R180). -/
structure State where
  part : Part := .ewg9640
  siStep : Nat := 0
  frc : DWord := 0
  regs : List (Nat × Word) := []
  pending : List Instr := []
  bus : List DWord := []
  freeCtr : Nat := 0
  power : Power := {}
  xings : List Xing := List.replicate 24 {}
  pads : Pads := {}
  plan : Plan := {}
  swap : Swap := {}
  hspi : Hspi := {}
  eth : Eth := {}
  mbxDirty : List Nat := []
  leases : List Lease := List.replicate 32 {}
  strms : List Strm := List.replicate 10 {}
  arb : Arb := {}
  sdl : Sdl := {}
  gzb : Gzb := {}
  vb : Vb := {}
  ps : Ps := {}
  test : Option LinkTest := none
  axes : List Axis := [{}, {}, {}, {}]
  bv : Bv := {}
  slv : Slv := {}
  bsa : Band := {}
  bsb : Band := {}
  fleet : Fleet := {}
  pgl : Pgl := {}
  org : Org := {}
  flash : Flash := {}
  upd : Upd := {}
  svc : Svc := {}
deriving DecidableEq, Repr

/-- The machine right after reset: mains applied and POWER_ON not yet released (R125), FRC 0, every register at the
reset value the register map gives it, every queue empty, no key loaded (log entries 1 and 2). -/
def State.reset : State := {}

end Sys2Proof.Machine
end

