-- ==== Sys2Proof/Machine/Ops.lean ====
section
/-! DEFINITION. The named operations over memory and registers: sparse maps in canonical form, register words and
their fields, byte strings, counters, and the master IDs and groups of R161. -/
namespace Sys2Proof.Machine

/-! ### Sparse maps: a list of key and value pairs, keys rising, no entry equal to what an unlisted key reads as -/

section
variable {α : Type} [DecidableEq α]

/-- What key `a` reads as: its entry, or the default `d a`. -/
def Sparse.read (d : Nat → α) : List (Nat × α) → Nat → α
  | [], a => d a
  | (k, v) :: m, a => if a = k then v else Sparse.read d m a

/-- The map without key `a`. -/
def Sparse.erase (m : List (Nat × α)) (a : Nat) : List (Nat × α) := m.filter (fun p => p.1 ≠ a)

/-- The entry put before the first larger key. -/
def Sparse.insert : List (Nat × α) → Nat → α → List (Nat × α)
  | [], a, v => [(a, v)]
  | (k, w) :: m, a, v => if a < k then (a, v) :: (k, w) :: m else (k, w) :: Sparse.insert m a v

/-- The map with key `a` reading `v`, canonical form kept. -/
def Sparse.write (d : Nat → α) (m : List (Nat × α)) (a : Nat) (v : α) : List (Nat × α) :=
  if v = d a then Sparse.erase m a else Sparse.insert (Sparse.erase m a) a v

/-- The canonical form: keys strictly rising, no entry equal to the default. -/
def Sparse.wf (d : Nat → α) : List (Nat × α) → Bool
  | [] => true
  | (k, v) :: m => v ≠ d k && m.all (fun p => k < p.1) && Sparse.wf d m

end

/-! ### Registers and fields -/

/-- The reset values that are not zero, from the registers' own tables. -/
def resetTable : List (Nat × Word) := [
  (0x104, 0x007F0000), (0x204, 3), (0x20C, 3), (0x10000, 1), (0x10018, 0x22), (0x10030, 0x180),
  (0x10038, 0xFFFFFFFF), (0x1003C, 0xFFFFFFFF), (0x10040, 1), (0x10050, 3), (0x10080, 1), (0x20004, 0x00080100),
  (0x40000, 0x10FF0000), (0x70000, 0xF), (0x8000C, 3), (0x80120, 0x100), (0x80210, 0x33), (0x9000C, 3),
  (0xA0008, 0xC8), (0xE0004, 0x1F), (0xE0104, 0x1F)]

/-- The reset value of a register address; MBX_CLAIM_LEASEn is 1000, what the table does not list is 0. -/
def resetOf (a : Nat) : Word :=
  if 0x31200 ≤ a ∧ a < 0x31280 then 1000 else Sparse.read (fun _ => 0) resetTable a

/-- The register word at an address. -/
def State.rd (s : State) (a : Nat) : Word := Sparse.read resetOf s.regs a

/-- The state with the register word at an address written. -/
def State.wr (s : State) (a : Nat) (v : Word) : State := { s with regs := Sparse.write resetOf s.regs a v }

/-- A field of a register: its address, its lowest bit, its width. -/
structure Fld where
  addr : Nat
  lo : Nat
  width : Nat
deriving DecidableEq, Repr

/-- Bits [lo + width − 1 : lo] of a number. -/
def bitsOf (x lo width : Nat) : Nat := x / 2 ^ lo % 2 ^ width

/-- A number with bits [lo + width − 1 : lo] replaced by `v` modulo 2^width. -/
def putBits (x lo width v : Nat) : Nat :=
  x % 2 ^ lo + v % 2 ^ width * 2 ^ lo + x / 2 ^ (lo + width) * 2 ^ (lo + width)

/-- The value of a field. -/
def State.getF (s : State) (f : Fld) : Nat := bitsOf (s.rd f.addr).toNat f.lo f.width

/-- The state with a field written. -/
def State.setF (s : State) (f : Fld) (v : Nat) : State :=
  s.wr f.addr (word (putBits (s.rd f.addr).toNat f.lo f.width v))

/-- Is a field nonzero? -/
def State.flag (s : State) (f : Fld) : Bool := s.getF f ≠ 0

/-- One bit of a field, set. -/
def State.setBit (s : State) (f : Fld) (i : Nat) : State := s.setF f (s.getF f ||| 2 ^ i)

/-- One bit of a field, cleared. -/
def State.clrBit (s : State) (f : Fld) (i : Nat) : State :=
  s.setF f (if (s.getF f).testBit i then s.getF f - 2 ^ i else s.getF f)

/-- One bit of a field. -/
def State.bit (s : State) (f : Fld) (i : Nat) : Bool := (s.getF f).testBit i

/-- A counter field raised by `n`, saturating at its largest value. -/
def State.incF (s : State) (f : Fld) (n : Nat := 1) : State := s.setF f (min (s.getF f + n) (2 ^ f.width - 1))

/-- A maximum field raised to `n` where larger. -/
def State.maxF (s : State) (f : Fld) (n : Nat) : State :=
  s.setF f (max (s.getF f) (min n (2 ^ f.width - 1)))

/-- A field holding a two's complement number, as an integer. -/
def State.getI (s : State) (f : Fld) : Int := (BitVec.ofNat f.width (s.getF f)).toInt

/-- An integer put into a field in two's complement. -/
def State.setI (s : State) (f : Fld) (v : Int) : State := s.setF f (v % 2 ^ f.width).toNat

/-- An integer put into a 32-bit field, saturating (SDL_OFFSET and its like). -/
def satI32 (v : Int) : Int := max (-2147483648) (min v 2147483647)

/-- The registers of addresses from `lo` to `hi − 1` back at their reset values, banked copies included. -/
def State.resetRange (s : State) (lo hi : Nat) : State :=
  { s with regs := s.regs.filter (fun p => ¬ (lo ≤ p.1 % 2 ^ 32 ∧ p.1 % 2 ^ 32 < hi)) }

end Sys2Proof.Machine

namespace Sys2Proof

/-! ### Masters and groups (R161) -/

/-- The master ID. -/
def Master.id : Master → Nat
  | .core k => 1 + k
  | .csS => 0x10
  | .csNs => 0x11
  | .eth => 0x12
  | .tool => 0x13

/-- Is the master in the secure group? -/
def Master.secure : Master → Bool
  | .csNs => false
  | .eth => false
  | _ => true

/-- Is the master on the device side of a mailbox (an Arbour core)? -/
def Master.isCore : Master → Bool
  | .core _ => true
  | _ => false

/-- The master of an ID, for an owner shown in MBX_CLAIM_INFO. -/
def masterOf (n : Nat) : Master :=
  if n = 0x10 then .csS else if n = 0x11 then .csNs else if n = 0x12 then .eth else if n = 0x13 then .tool
  else .core (n - 1)

/-- The master a HOSTSPI select fixes (R164). -/
def Sel.master : Sel → Master
  | .s => .csS
  | .ns => .csNs

end Sys2Proof

namespace Sys2Proof.Machine

/-- Where a register banked per master keeps the copy of master `m`. -/
def bankAddr (m : Master) (a : Nat) : Nat := m.id * 2 ^ 32 + a

/-- A field of a banked register, for master `m`. -/
def Fld.bank (f : Fld) (m : Master) : Fld := ⟨bankAddr m f.addr, f.lo, f.width⟩

/-! ### Byte strings -/

/-- The little-endian number of `n` bytes at offset `o` (R8); bytes past the end read 0. -/
def leAt (b : Bytes) (o n : Nat) : Nat := leNat ((b.drop o).take n)

/-- The same, in two's complement. -/
def leAtI (b : Bytes) (o n : Nat) : Int := (BitVec.ofNat (8 * n) (leAt b o n)).toInt

/-- `n` bytes at offset `o`. -/
def slice (b : Bytes) (o n : Nat) : Bytes := (b.drop o).take n

/-- An integer as `n` little-endian bytes in two's complement. -/
def leBytesI (n : Nat) (v : Int) : Bytes := leBytes n (v % 2 ^ (8 * n)).toNat

def zeros (n : Nat) : Bytes := List.replicate n (byte 0)

/-- Padded with zero bytes to a multiple of `n`. -/
def padTo (n : Nat) (b : Bytes) : Bytes := b ++ zeros ((n - b.length % n) % n)

/-- Are all bytes zero? -/
def allZero (b : Bytes) : Bool := b.all (· == byte 0)

/-- The bytes of sparse byte memory from `a` on. -/
def memBytes (m : List (Nat × Byte)) (a : Nat) : Nat → Bytes
  | 0 => []
  | n + 1 => Sparse.read (fun _ => byte 0) m a :: memBytes m (a + 1) n

/-- Bytes written into sparse byte memory from `a` on. -/
def memWrite (m : List (Nat × Byte)) (a : Nat) : Bytes → List (Nat × Byte)
  | [] => m
  | b :: bs => memWrite (Sparse.write (fun _ => byte 0) m a b) (a + 1) bs

/-! ### Lists -/

/-- Bits of a mask by a predicate over 32 indexes. -/
def maskOf (p : Nat → Bool) : Nat := ((List.range 32).map (fun i => if p i then 2 ^ i else 0)).sum

/-- The list with the element at `i` changed by `f`. -/
def updAt {α : Type} (i : Nat) (f : α → α) : List α → List α
  | [] => []
  | x :: xs => match i with
    | 0 => f x :: xs
    | i + 1 => x :: updAt i f xs

/-- A state folded over a list. -/
def State.each {α : Type} (s : State) (xs : List α) (f : State → α → State) : State := xs.foldl f s

/-- Random bits drawn by Orangery (log entry 12), and the state with the counter moved on. -/
def State.random (s : State) (bits : Nat) : Nat × State :=
  (Config.randomBits s.freeCtr bits % 2 ^ bits, { s with freeCtr := s.freeCtr + 1 })

/-- Round-robin order (R48): the candidates from the token on, then those before it. -/
def fromToken (token : Nat) (cands : List Nat) : List Nat :=
  cands.filter (token ≤ ·) ++ cands.filter (· < token)

end Sys2Proof.Machine
end

