-- ==== Sys2Proof/Machine/Regs.lean ====
section
/-! DEFINITION. The register map: every register the spec gives the module, at its address, with its fields and
their access codes (spec/00_scope.md R6, R7, R9 and R16; each register's own table in the file its row names).
`Fld` constants are named after the spec's UNIT_REGISTER_FIELD; a register that exists several times takes its
index as an argument (band `b`: 0 A, 1 B). -/
namespace Sys2Proof.Machine

/-- SYS_ID, spec/00_scope.md R1. -/
abbrev R.SYS_ID : Nat := 0x0
abbrev F.SYS_ID_PART_CODE : Fld := ⟨0x0, 0, 16⟩
abbrev F.SYS_ID_STEP : Fld := ⟨0x0, 16, 8⟩
/-- SYS_UNITS, spec/00_scope.md R1. -/
abbrev R.SYS_UNITS : Nat := 0x4
abbrev F.SYS_UNITS_GZB : Fld := ⟨0x4, 0, 1⟩
abbrev F.SYS_UNITS_MBX : Fld := ⟨0x4, 1, 1⟩
abbrev F.SYS_UNITS_ARB : Fld := ⟨0x4, 2, 1⟩
abbrev F.SYS_UNITS_SDL : Fld := ⟨0x4, 3, 1⟩
abbrev F.SYS_UNITS_BV : Fld := ⟨0x4, 4, 1⟩
abbrev F.SYS_UNITS_SLV : Fld := ⟨0x4, 5, 1⟩
abbrev F.SYS_UNITS_BSA : Fld := ⟨0x4, 6, 1⟩
abbrev F.SYS_UNITS_BSB : Fld := ⟨0x4, 7, 1⟩
abbrev F.SYS_UNITS_PGL : Fld := ⟨0x4, 8, 1⟩
abbrev F.SYS_UNITS_WKT : Fld := ⟨0x4, 9, 1⟩
abbrev F.SYS_UNITS_ORG : Fld := ⟨0x4, 10, 1⟩
abbrev F.SYS_UNITS_VB : Fld := ⟨0x4, 11, 1⟩
abbrev F.SYS_UNITS_ETH : Fld := ⟨0x4, 12, 1⟩
abbrev F.SYS_UNITS_SVC : Fld := ⟨0x4, 13, 1⟩
abbrev F.SYS_UNITS_TEST : Fld := ⟨0x4, 14, 1⟩
abbrev F.SYS_UNITS_BV_E6 : Fld := ⟨0x4, 15, 1⟩
/-- LODGE_PWR_STATE, spec/03_power_clocks_crossings.md R110. -/
abbrev R.LODGE_PWR_STATE : Nat := 0x10000
abbrev F.LODGE_PWR_STATE_STATE : Fld := ⟨0x10000, 0, 3⟩
abbrev F.LODGE_PWR_STATE_REFUSE : Fld := ⟨0x10000, 8, 4⟩
/-- LODGE_PWR_REQ, spec/03_power_clocks_crossings.md R110. -/
abbrev R.LODGE_PWR_REQ : Nat := 0x10004
abbrev F.LODGE_PWR_REQ_TARGET : Fld := ⟨0x10004, 0, 3⟩
abbrev F.LODGE_PWR_REQ_KEY : Fld := ⟨0x10004, 16, 16⟩
/-- LODGE_DOM_ON, spec/03_power_clocks_crossings.md R110. -/
abbrev R.LODGE_DOM_ON : Nat := 0x10010
abbrev F.LODGE_DOM_ON_DOM : Fld := ⟨0x10010, 2, 12⟩
/-- LODGE_DOM_OFF, spec/03_power_clocks_crossings.md R110. -/
abbrev R.LODGE_DOM_OFF : Nat := 0x10014
abbrev F.LODGE_DOM_OFF_DOM : Fld := ⟨0x10014, 2, 12⟩
/-- LODGE_DOM_STAT0, spec/03_power_clocks_crossings.md R110. -/
abbrev R.LODGE_DOM_STAT0 : Nat := 0x10018
abbrev F.LODGE_DOM_STAT0 : Fld := ⟨0x10018, 0, 32⟩
/-- LODGE_DOM_STAT1, spec/03_power_clocks_crossings.md R110. -/
abbrev R.LODGE_DOM_STAT1 : Nat := 0x1001C
abbrev F.LODGE_DOM_STAT1 : Fld := ⟨0x1001C, 0, 32⟩
/-- LODGE_DOM_FLAGS, spec/03_power_clocks_crossings.md R110. -/
abbrev R.LODGE_DOM_FLAGS : Nat := 0x10020
abbrev F.LODGE_DOM_FLAGS_REFUSED : Fld := ⟨0x10020, 2, 12⟩
abbrev F.LODGE_DOM_FLAGS_FAULT : Fld := ⟨0x10020, 18, 12⟩
/-- LODGE_WAKE_EN, spec/03_power_clocks_crossings.md R110. -/
abbrev R.LODGE_WAKE_EN : Nat := 0x10030
abbrev F.LODGE_WAKE_EN_EN : Fld := ⟨0x10030, 0, 7⟩
abbrev F.LODGE_WAKE_EN_EN_FIXED : Fld := ⟨0x10030, 7, 2⟩
/-- LODGE_WAKE_CAUSE, spec/03_power_clocks_crossings.md R110. -/
abbrev R.LODGE_WAKE_CAUSE : Nat := 0x10034
abbrev F.LODGE_WAKE_CAUSE_CAUSE : Fld := ⟨0x10034, 0, 9⟩
abbrev F.LODGE_WAKE_CAUSE_FRC_LATE : Fld := ⟨0x10034, 16, 1⟩
abbrev F.LODGE_WAKE_CAUSE_FRC_MISSED : Fld := ⟨0x10034, 17, 1⟩
/-- LODGE_WAKE_FRC_LO, spec/03_power_clocks_crossings.md R110. -/
abbrev R.LODGE_WAKE_FRC_LO : Nat := 0x10038
abbrev F.LODGE_WAKE_FRC_LO_WAKE_FRC : Fld := ⟨0x10038, 0, 32⟩
/-- LODGE_WAKE_FRC_HI, spec/03_power_clocks_crossings.md R110. -/
abbrev R.LODGE_WAKE_FRC_HI : Nat := 0x1003C
abbrev F.LODGE_WAKE_FRC_HI_WAKE_FRC : Fld := ⟨0x1003C, 0, 32⟩
/-- LODGE_CLK_STAT, spec/03_power_clocks_crossings.md R115. -/
abbrev R.LODGE_CLK_STAT : Nat := 0x10050
abbrev F.LODGE_CLK_STAT_TCXO_OK : Fld := ⟨0x10050, 0, 1⟩
abbrev F.LODGE_CLK_STAT_XO32_OK : Fld := ⟨0x10050, 1, 1⟩
abbrev F.LODGE_CLK_STAT_SYS_LOCK : Fld := ⟨0x10050, 2, 1⟩
abbrev F.LODGE_CLK_STAT_CORR_LOCK : Fld := ⟨0x10050, 3, 1⟩
abbrev F.LODGE_CLK_STAT_ETH_LOCK : Fld := ⟨0x10050, 4, 1⟩
abbrev F.LODGE_CLK_STAT_FRC_DEGRADED : Fld := ⟨0x10050, 5, 1⟩
abbrev F.LODGE_CLK_STAT_TCXO_FAIL : Fld := ⟨0x10050, 8, 1⟩
abbrev F.LODGE_CLK_STAT_XO32_FAIL : Fld := ⟨0x10050, 9, 1⟩
abbrev F.LODGE_CLK_STAT_UNLOCKED : Fld := ⟨0x10050, 10, 3⟩
/-- LODGE_FRC_LO, spec/03_power_clocks_crossings.md R115. -/
abbrev R.LODGE_FRC_LO : Nat := 0x10060
abbrev F.LODGE_FRC_LO_FRC : Fld := ⟨0x10060, 0, 32⟩
/-- LODGE_FRC_HI, spec/03_power_clocks_crossings.md R115. -/
abbrev R.LODGE_FRC_HI : Nat := 0x10064
abbrev F.LODGE_FRC_HI_FRC : Fld := ⟨0x10064, 0, 32⟩
/-- LODGE_RST_CAUSE, spec/03_power_clocks_crossings.md R118. -/
abbrev R.LODGE_RST_CAUSE : Nat := 0x10040
abbrev F.LODGE_RST_CAUSE_CAUSE : Fld := ⟨0x10040, 0, 8⟩
abbrev F.LODGE_RST_CAUSE_DOMAINS : Fld := ⟨0x10040, 18, 12⟩
/-- LODGE_RST_REQ, spec/03_power_clocks_crossings.md R118. -/
abbrev R.LODGE_RST_REQ : Nat := 0x10044
abbrev F.LODGE_RST_REQ_ALL : Fld := ⟨0x10044, 0, 1⟩
abbrev F.LODGE_RST_REQ_DOMAINS : Fld := ⟨0x10044, 2, 12⟩
abbrev F.LODGE_RST_REQ_KEY : Fld := ⟨0x10044, 16, 16⟩
/-- LODGE_XING_SEL, spec/03_power_clocks_crossings.md R123. -/
abbrev R.LODGE_XING_SEL : Nat := 0x10070
abbrev F.LODGE_XING_SEL_ID : Fld := ⟨0x10070, 0, 5⟩
abbrev F.LODGE_XING_SEL_DIR : Fld := ⟨0x10070, 5, 1⟩
/-- LODGE_XING_STAT, spec/03_power_clocks_crossings.md R123. -/
abbrev R.LODGE_XING_STAT : Nat := 0x10074
abbrev F.LODGE_XING_STAT_MERGED : Fld := ⟨0x10074, 0, 8⟩
abbrev F.LODGE_XING_STAT_PENDING : Fld := ⟨0x10074, 8, 1⟩
abbrev F.LODGE_XING_STAT_DROPPED : Fld := ⟨0x10074, 9, 1⟩
abbrev F.LODGE_XING_STAT_RESYNC : Fld := ⟨0x10074, 10, 1⟩
/-- SYS_BOOT_STAT, spec/04_startup_plan_image.md R157. -/
abbrev R.SYS_BOOT_STAT : Nat := 0x100
abbrev F.SYS_BOOT_STAT_STEP : Fld := ⟨0x100, 0, 4⟩
abbrev F.SYS_BOOT_STAT_DONE : Fld := ⟨0x100, 4, 1⟩
abbrev F.SYS_BOOT_STAT_FW_SLOT : Fld := ⟨0x100, 5, 1⟩
abbrev F.SYS_BOOT_STAT_PS_BANK : Fld := ⟨0x100, 6, 1⟩
abbrev F.SYS_BOOT_STAT_RECOVERY : Fld := ⟨0x100, 7, 1⟩
abbrev F.SYS_BOOT_STAT_FW_FAIL_A : Fld := ⟨0x100, 8, 1⟩
abbrev F.SYS_BOOT_STAT_FW_FAIL_B : Fld := ⟨0x100, 9, 1⟩
abbrev F.SYS_BOOT_STAT_PS_EMPTY : Fld := ⟨0x100, 10, 1⟩
abbrev F.SYS_BOOT_STAT_MEAS_LOCK : Fld := ⟨0x100, 11, 1⟩
/-- SYS_PLAN_STAT, spec/04_startup_plan_image.md R157. -/
abbrev R.SYS_PLAN_STAT : Nat := 0x104
abbrev F.SYS_PLAN_STAT_STATE : Fld := ⟨0x104, 0, 3⟩
abbrev F.SYS_PLAN_STAT_SLOT : Fld := ⟨0x104, 3, 1⟩
abbrev F.SYS_PLAN_STAT_FALLBACK : Fld := ⟨0x104, 4, 1⟩
abbrev F.SYS_PLAN_STAT_ERROR : Fld := ⟨0x104, 8, 5⟩
abbrev F.SYS_PLAN_STAT_ERR_INDEX : Fld := ⟨0x104, 16, 7⟩
/-- SYS_PLAN_ID, spec/04_startup_plan_image.md R157. -/
abbrev R.SYS_PLAN_ID : Nat := 0x108
abbrev F.SYS_PLAN_ID : Fld := ⟨0x108, 0, 32⟩
/-- SYS_PLAN_VER, spec/04_startup_plan_image.md R157. -/
abbrev R.SYS_PLAN_VER : Nat := 0x10C
abbrev F.SYS_PLAN_VER : Fld := ⟨0x10C, 0, 32⟩
/-- SYS_PLAN_SKIP_LO, spec/04_startup_plan_image.md R157. -/
abbrev R.SYS_PLAN_SKIP_LO : Nat := 0x110
abbrev F.SYS_PLAN_SKIP_LO_SKIP : Fld := ⟨0x110, 0, 32⟩
/-- SYS_PLAN_SKIP_HI, spec/04_startup_plan_image.md R157. -/
abbrev R.SYS_PLAN_SKIP_HI : Nat := 0x114
abbrev F.SYS_PLAN_SKIP_HI_SKIP : Fld := ⟨0x114, 0, 32⟩
/-- SYS_SWAP_CTRL, spec/04_startup_plan_image.md R157. -/
abbrev R.SYS_SWAP_CTRL : Nat := 0x120
abbrev F.SYS_SWAP_CTRL_LENGTH : Fld := ⟨0x120, 0, 21⟩
abbrev F.SYS_SWAP_CTRL_GO : Fld := ⟨0x120, 31, 1⟩
/-- SYS_SWAP_STAT, spec/04_startup_plan_image.md R157. -/
abbrev R.SYS_SWAP_STAT : Nat := 0x124
abbrev F.SYS_SWAP_STAT_STATE : Fld := ⟨0x124, 0, 3⟩
abbrev F.SYS_SWAP_STAT_ERROR : Fld := ⟨0x124, 8, 5⟩
abbrev F.SYS_SWAP_STAT_BUSY_REJ : Fld := ⟨0x124, 16, 1⟩
/-- SYS_SWAP_ASN_LO, spec/04_startup_plan_image.md R157. -/
abbrev R.SYS_SWAP_ASN_LO : Nat := 0x128
abbrev F.SYS_SWAP_ASN_LO_ASN_LO : Fld := ⟨0x128, 0, 32⟩
abbrev F.SYS_SWAP_ASN_LO_ASN_HI : Fld := ⟨0x128, 0, 8⟩
/-- SYS_SWAP_ASN_HI, spec/04_startup_plan_image.md R157. -/
abbrev R.SYS_SWAP_ASN_HI : Nat := 0x12C
abbrev F.SYS_SWAP_ASN_HI_ASN_LO : Fld := ⟨0x12C, 0, 32⟩
abbrev F.SYS_SWAP_ASN_HI_ASN_HI : Fld := ⟨0x12C, 0, 8⟩
/-- SYS_SWAP_SEQ, spec/04_startup_plan_image.md R157. -/
abbrev R.SYS_SWAP_SEQ : Nat := 0x130
abbrev F.SYS_SWAP_SEQ_SEQ : Fld := ⟨0x130, 0, 32⟩
/-- SYS_BOOT_MEASk, spec/04_startup_plan_image.md R157. -/
abbrev R.SYS_BOOT_MEASk (k : Nat) : Nat := 0x140 + 0x4 * k
abbrev F.SYS_BOOT_MEASk (k : Nat) : Fld := ⟨0x140 + 0x4 * k, 0, 32⟩
/-- ETH_Pn_STAT, spec/05_host_port_mailboxes.md R173. -/
abbrev R.ETH_Pn_STAT (n : Nat) : Nat := 0xE0000 + 0x100 * n
abbrev F.ETH_Pn_STAT_LINK (n : Nat) : Fld := ⟨0xE0000 + 0x100 * n, 0, 1⟩
abbrev F.ETH_Pn_STAT_SPEED (n : Nat) : Fld := ⟨0xE0000 + 0x100 * n, 1, 2⟩
abbrev F.ETH_Pn_STAT_MDI_X (n : Nat) : Fld := ⟨0xE0000 + 0x100 * n, 3, 1⟩
abbrev F.ETH_Pn_STAT_POL_INV (n : Nat) : Fld := ⟨0xE0000 + 0x100 * n, 4, 4⟩
abbrev F.ETH_Pn_STAT_PTP (n : Nat) : Fld := ⟨0xE0000 + 0x100 * n, 8, 1⟩
abbrev F.ETH_Pn_STAT_FULL (n : Nat) : Fld := ⟨0xE0000 + 0x100 * n, 9, 1⟩
abbrev F.ETH_Pn_STAT_PAIR_MAP (n : Nat) : Fld := ⟨0xE0000 + 0x100 * n, 16, 8⟩
abbrev F.ETH_Pn_STAT_UP_SEEN (n : Nat) : Fld := ⟨0xE0000 + 0x100 * n, 24, 1⟩
abbrev F.ETH_Pn_STAT_DOWN_SEEN (n : Nat) : Fld := ⟨0xE0000 + 0x100 * n, 25, 1⟩
/-- ETH_Pn_CTRL, spec/05_host_port_mailboxes.md R173. -/
abbrev R.ETH_Pn_CTRL (n : Nat) : Nat := 0xE0004 + 0x100 * n
abbrev F.ETH_Pn_CTRL_EN (n : Nat) : Fld := ⟨0xE0004 + 0x100 * n, 0, 1⟩
abbrev F.ETH_Pn_CTRL_ADV (n : Nat) : Fld := ⟨0xE0004 + 0x100 * n, 1, 3⟩
abbrev F.ETH_Pn_CTRL_HOST_CH (n : Nat) : Fld := ⟨0xE0004 + 0x100 * n, 4, 1⟩
abbrev F.ETH_Pn_CTRL_IRQ_EN (n : Nat) : Fld := ⟨0xE0004 + 0x100 * n, 5, 1⟩
/-- ETH_Pn_RX_OK, spec/05_host_port_mailboxes.md R173. -/
abbrev R.ETH_Pn_RX_OK (n : Nat) : Nat := 0xE0010 + 0x100 * n
abbrev F.ETH_Pn_RX_OK (n : Nat) : Fld := ⟨0xE0010 + 0x100 * n, 0, 32⟩
/-- ETH_Pn_RX_FCS, spec/05_host_port_mailboxes.md R173. -/
abbrev R.ETH_Pn_RX_FCS (n : Nat) : Nat := 0xE0014 + 0x100 * n
abbrev F.ETH_Pn_RX_FCS (n : Nat) : Fld := ⟨0xE0014 + 0x100 * n, 0, 32⟩
/-- ETH_Pn_RX_DROP, spec/05_host_port_mailboxes.md R173. -/
abbrev R.ETH_Pn_RX_DROP (n : Nat) : Nat := 0xE0018 + 0x100 * n
abbrev F.ETH_Pn_RX_DROP (n : Nat) : Fld := ⟨0xE0018 + 0x100 * n, 0, 32⟩
/-- ETH_Pn_TX, spec/05_host_port_mailboxes.md R173. -/
abbrev R.ETH_Pn_TX (n : Nat) : Nat := 0xE001C + 0x100 * n
abbrev F.ETH_Pn_TX (n : Nat) : Fld := ⟨0xE001C + 0x100 * n, 0, 32⟩
/-- ETH_Pn_HOST_REQ, spec/05_host_port_mailboxes.md R173. -/
abbrev R.ETH_Pn_HOST_REQ (n : Nat) : Nat := 0xE0020 + 0x100 * n
abbrev F.ETH_Pn_HOST_REQ (n : Nat) : Fld := ⟨0xE0020 + 0x100 * n, 0, 32⟩
/-- ETH_Pn_HOST_BUSY, spec/05_host_port_mailboxes.md R173. -/
abbrev R.ETH_Pn_HOST_BUSY (n : Nat) : Nat := 0xE0024 + 0x100 * n
abbrev F.ETH_Pn_HOST_BUSY (n : Nat) : Fld := ⟨0xE0024 + 0x100 * n, 0, 32⟩
/-- SYS_IRQ_S_STAT, spec/05_host_port_mailboxes.md R174. -/
abbrev R.SYS_IRQ_S_STAT : Nat := 0x200
abbrev F.SYS_IRQ_S_STAT_STOP : Fld := ⟨0x200, 0, 1⟩
abbrev F.SYS_IRQ_S_STAT_BOOT : Fld := ⟨0x200, 1, 1⟩
abbrev F.SYS_IRQ_S_STAT_MBX_POST : Fld := ⟨0x200, 2, 1⟩
abbrev F.SYS_IRQ_S_STAT_MBX_TAKEN : Fld := ⟨0x200, 3, 1⟩
abbrev F.SYS_IRQ_S_STAT_STREAM : Fld := ⟨0x200, 4, 1⟩
abbrev F.SYS_IRQ_S_STAT_CLAIM : Fld := ⟨0x200, 5, 1⟩
abbrev F.SYS_IRQ_S_STAT_SWAP : Fld := ⟨0x200, 6, 1⟩
abbrev F.SYS_IRQ_S_STAT_DOMAIN : Fld := ⟨0x200, 7, 1⟩
abbrev F.SYS_IRQ_S_STAT_UNIT : Fld := ⟨0x200, 8, 1⟩
abbrev F.SYS_IRQ_S_STAT_SEC_VIOL : Fld := ⟨0x200, 9, 1⟩
/-- SYS_IRQ_NS_STAT, spec/05_host_port_mailboxes.md R174. -/
abbrev R.SYS_IRQ_NS_STAT : Nat := 0x208
abbrev F.SYS_IRQ_NS_STAT_STOP : Fld := ⟨0x208, 0, 1⟩
abbrev F.SYS_IRQ_NS_STAT_BOOT : Fld := ⟨0x208, 1, 1⟩
abbrev F.SYS_IRQ_NS_STAT_MBX_POST : Fld := ⟨0x208, 2, 1⟩
abbrev F.SYS_IRQ_NS_STAT_MBX_TAKEN : Fld := ⟨0x208, 3, 1⟩
abbrev F.SYS_IRQ_NS_STAT_STREAM : Fld := ⟨0x208, 4, 1⟩
abbrev F.SYS_IRQ_NS_STAT_CLAIM : Fld := ⟨0x208, 5, 1⟩
abbrev F.SYS_IRQ_NS_STAT_SWAP : Fld := ⟨0x208, 6, 1⟩
abbrev F.SYS_IRQ_NS_STAT_DOMAIN : Fld := ⟨0x208, 7, 1⟩
abbrev F.SYS_IRQ_NS_STAT_UNIT : Fld := ⟨0x208, 8, 1⟩
abbrev F.SYS_IRQ_NS_STAT_SEC_VIOL : Fld := ⟨0x208, 9, 1⟩
/-- SYS_IRQ_S_EN, spec/05_host_port_mailboxes.md R174. -/
abbrev R.SYS_IRQ_S_EN : Nat := 0x204
abbrev F.SYS_IRQ_S_EN_STOP : Fld := ⟨0x204, 0, 1⟩
abbrev F.SYS_IRQ_S_EN_EN : Fld := ⟨0x204, 1, 9⟩
/-- SYS_IRQ_NS_EN, spec/05_host_port_mailboxes.md R174. -/
abbrev R.SYS_IRQ_NS_EN : Nat := 0x20C
abbrev F.SYS_IRQ_NS_EN_STOP : Fld := ⟨0x20C, 0, 1⟩
abbrev F.SYS_IRQ_NS_EN_EN : Fld := ⟨0x20C, 1, 9⟩
/-- SYS_MAC0_LO, spec/05_host_port_mailboxes.md R174. -/
abbrev R.SYS_MAC0_LO : Nat := 0x210
abbrev F.SYS_MAC0_LO_ADDR_LO : Fld := ⟨0x210, 0, 32⟩
abbrev F.SYS_MAC0_LO_ADDR_HI : Fld := ⟨0x210, 0, 16⟩
/-- SYS_MAC0_HI, spec/05_host_port_mailboxes.md R174. -/
abbrev R.SYS_MAC0_HI : Nat := 0x214
abbrev F.SYS_MAC0_HI_ADDR_LO : Fld := ⟨0x214, 0, 32⟩
abbrev F.SYS_MAC0_HI_ADDR_HI : Fld := ⟨0x214, 0, 16⟩
/-- SYS_MAC1_LO, spec/05_host_port_mailboxes.md R174. -/
abbrev R.SYS_MAC1_LO : Nat := 0x218
abbrev F.SYS_MAC1_LO_ADDR_LO : Fld := ⟨0x218, 0, 32⟩
abbrev F.SYS_MAC1_LO_ADDR_HI : Fld := ⟨0x218, 0, 16⟩
/-- SYS_MAC1_HI, spec/05_host_port_mailboxes.md R174. -/
abbrev R.SYS_MAC1_HI : Nat := 0x21C
abbrev F.SYS_MAC1_HI_ADDR_LO : Fld := ⟨0x21C, 0, 32⟩
abbrev F.SYS_MAC1_HI_ADDR_HI : Fld := ⟨0x21C, 0, 16⟩
/-- MBX_CTRL, spec/05_host_port_mailboxes.md R181. -/
abbrev R.MBX_CTRL (c : Nat) : Nat := 0x30040 + 0x80 * c
abbrev F.MBX_CTRL_GO (c : Nat) : Fld := ⟨0x30040 + 0x80 * c, 0, 1⟩
abbrev F.MBX_CTRL_TAKE (c : Nat) : Fld := ⟨0x30040 + 0x80 * c, 1, 1⟩
abbrev F.MBX_CTRL_LEN (c : Nat) : Fld := ⟨0x30040 + 0x80 * c, 2, 5⟩
abbrev F.MBX_CTRL_TAG (c : Nat) : Fld := ⟨0x30040 + 0x80 * c, 8, 8⟩
/-- MBX_STAT, spec/05_host_port_mailboxes.md R181. -/
abbrev R.MBX_STAT (c : Nat) : Nat := 0x30044 + 0x80 * c
abbrev F.MBX_STAT_POSTED (c : Nat) : Fld := ⟨0x30044 + 0x80 * c, 0, 1⟩
abbrev F.MBX_STAT_WR_IGNORED (c : Nat) : Fld := ⟨0x30044 + 0x80 * c, 1, 1⟩
abbrev F.MBX_STAT_DISCARDED (c : Nat) : Fld := ⟨0x30044 + 0x80 * c, 2, 1⟩
abbrev F.MBX_STAT_REPOSTED (c : Nat) : Fld := ⟨0x30044 + 0x80 * c, 3, 1⟩
abbrev F.MBX_STAT_POSTS (c : Nat) : Fld := ⟨0x30044 + 0x80 * c, 8, 8⟩
abbrev F.MBX_STAT_DIRTY (c : Nat) : Fld := ⟨0x30044 + 0x80 * c, 16, 16⟩
/-- MBX_HRST, spec/05_host_port_mailboxes.md R181. -/
abbrev R.MBX_HRST : Nat := 0x31400
abbrev F.MBX_HRST_DECLARE : Fld := ⟨0x31400, 0, 1⟩
abbrev F.MBX_HRST_KEY : Fld := ⟨0x31400, 16, 16⟩
/-- MBX_CLAIMn, spec/05_host_port_mailboxes.md R187. -/
abbrev R.MBX_CLAIMn (n : Nat) : Nat := 0x31000 + 0x4 * n
abbrev F.MBX_CLAIMn_CLAIM (n : Nat) : Fld := ⟨0x31000 + 0x4 * n, 0, 32⟩
/-- MBX_CLAIM_INFOn, spec/05_host_port_mailboxes.md R187. -/
abbrev R.MBX_CLAIM_INFOn (n : Nat) : Nat := 0x31100 + 0x4 * n
abbrev F.MBX_CLAIM_INFOn_OWNER (n : Nat) : Fld := ⟨0x31100 + 0x4 * n, 0, 8⟩
abbrev F.MBX_CLAIM_INFOn_HELD (n : Nat) : Fld := ⟨0x31100 + 0x4 * n, 8, 1⟩
abbrev F.MBX_CLAIM_INFOn_TROUBLE (n : Nat) : Fld := ⟨0x31100 + 0x4 * n, 9, 1⟩
abbrev F.MBX_CLAIM_INFOn_EXPIRED (n : Nat) : Fld := ⟨0x31100 + 0x4 * n, 10, 1⟩
abbrev F.MBX_CLAIM_INFOn_FORCED (n : Nat) : Fld := ⟨0x31100 + 0x4 * n, 11, 1⟩
abbrev F.MBX_CLAIM_INFOn_BAD_WRITE (n : Nat) : Fld := ⟨0x31100 + 0x4 * n, 12, 1⟩
/-- MBX_CLAIM_LEASEn, spec/05_host_port_mailboxes.md R187. -/
abbrev R.MBX_CLAIM_LEASEn (n : Nat) : Nat := 0x31200 + 0x4 * n
abbrev F.MBX_CLAIM_LEASEn_LEASE_US (n : Nat) : Fld := ⟨0x31200 + 0x4 * n, 0, 20⟩
/-- SYS_STRM_STAT, spec/05_host_port_mailboxes.md R567. -/
abbrev R.SYS_STRM_STAT (w : Nat) : Nat := 0x1008000 + 0x10000 * w
abbrev F.SYS_STRM_STAT_LEVEL_SPACE (w : Nat) : Fld := ⟨0x1008000 + 0x10000 * w, 0, 16⟩
abbrev F.SYS_STRM_STAT_WM_ABOVE (w : Nat) : Fld := ⟨0x1008000 + 0x10000 * w, 16, 1⟩
abbrev F.SYS_STRM_STAT_WM_HIT (w : Nat) : Fld := ⟨0x1008000 + 0x10000 * w, 17, 1⟩
abbrev F.SYS_STRM_STAT_REFUSED (w : Nat) : Fld := ⟨0x1008000 + 0x10000 * w, 18, 1⟩
abbrev F.SYS_STRM_STAT_DROPPED (w : Nat) : Fld := ⟨0x1008000 + 0x10000 * w, 19, 1⟩
abbrev F.SYS_STRM_STAT_IN (w : Nat) : Fld := ⟨0x1008000 + 0x10000 * w, 20, 1⟩
abbrev F.SYS_STRM_STAT_FLEET (w : Nat) : Fld := ⟨0x1008000 + 0x10000 * w, 21, 1⟩
/-- SYS_STRM_PKTS, spec/05_host_port_mailboxes.md R567. -/
abbrev R.SYS_STRM_PKTS (w : Nat) : Nat := 0x1008004 + 0x10000 * w
abbrev F.SYS_STRM_PKTS_PKTS (w : Nat) : Fld := ⟨0x1008004 + 0x10000 * w, 0, 16⟩
abbrev F.SYS_STRM_PKTS_DEPTH (w : Nat) : Fld := ⟨0x1008004 + 0x10000 * w, 16, 16⟩
/-- SYS_STRM_WM, spec/05_host_port_mailboxes.md R567. -/
abbrev R.SYS_STRM_WM (w : Nat) : Nat := 0x1008008 + 0x10000 * w
abbrev F.SYS_STRM_WM_WM (w : Nat) : Fld := ⟨0x1008008 + 0x10000 * w, 0, 16⟩
/-- SYS_STRM_CTRL, spec/05_host_port_mailboxes.md R567. -/
abbrev R.SYS_STRM_CTRL (w : Nat) : Nat := 0x100800C + 0x10000 * w
abbrev F.SYS_STRM_CTRL_CUT_THROUGH (w : Nat) : Fld := ⟨0x100800C + 0x10000 * w, 0, 1⟩
abbrev F.SYS_STRM_CTRL_FLUSH (w : Nat) : Fld := ⟨0x100800C + 0x10000 * w, 1, 1⟩
abbrev F.SYS_STRM_CTRL_IRQ_EN (w : Nat) : Fld := ⟨0x100800C + 0x10000 * w, 2, 1⟩
/-- SYS_STRM_OVERRUN, spec/05_host_port_mailboxes.md R567. -/
abbrev R.SYS_STRM_OVERRUN (w : Nat) : Nat := 0x1008010 + 0x10000 * w
abbrev F.SYS_STRM_OVERRUN_OVERRUN (w : Nat) : Fld := ⟨0x1008010 + 0x10000 * w, 0, 16⟩
/-- ARB_STAT, spec/06_arbour_scheduler.md R217. -/
abbrev R.ARB_STAT : Nat := 0x40000
abbrev F.ARB_STAT_INFLIGHT : Fld := ⟨0x40000, 0, 10⟩
abbrev F.ARB_STAT_IDLE : Fld := ⟨0x40000, 16, 8⟩
abbrev F.ARB_STAT_LOW_READY : Fld := ⟨0x40000, 24, 4⟩
abbrev F.ARB_STAT_NONE_READY : Fld := ⟨0x40000, 28, 1⟩
/-- ARB_CORE_STAT, spec/06_arbour_scheduler.md R217. -/
abbrev R.ARB_CORE_STAT : Nat := 0x40004
abbrev F.ARB_CORE_STAT : Fld := ⟨0x40004, 0, 32⟩
/-- ARB_FAULT, spec/06_arbour_scheduler.md R217. -/
abbrev R.ARB_FAULT : Nat := 0x40008
abbrev F.ARB_FAULT_CORE_FAULT : Fld := ⟨0x40008, 0, 8⟩
abbrev F.ARB_FAULT_OVERRUN : Fld := ⟨0x40008, 8, 8⟩
abbrev F.ARB_FAULT_FAULTS : Fld := ⟨0x40008, 16, 8⟩
abbrev F.ARB_FAULT_EVT_DENIED : Fld := ⟨0x40008, 24, 1⟩
/-- ARB_EVT_SET, spec/06_arbour_scheduler.md R217. -/
abbrev R.ARB_EVT_SET : Nat := 0x40010
abbrev F.ARB_EVT_SET_TASK : Fld := ⟨0x40010, 0, 8⟩
abbrev F.ARB_EVT_SET_FLAG : Fld := ⟨0x40010, 8, 5⟩
/-- ARB_EVT_CLR, spec/06_arbour_scheduler.md R217. -/
abbrev R.ARB_EVT_CLR : Nat := 0x40014
abbrev F.ARB_EVT_CLR_TASK : Fld := ⟨0x40014, 0, 8⟩
abbrev F.ARB_EVT_CLR_FLAG : Fld := ⟨0x40014, 8, 5⟩
/-- ARB_TASK_SEL, spec/06_arbour_scheduler.md R218. -/
abbrev R.ARB_TASK_SEL : Nat := 0x40020
abbrev F.ARB_TASK_SEL_TASK : Fld := ⟨0x40020, 0, 8⟩
/-- ARB_TASK_CFG, spec/06_arbour_scheduler.md R218. -/
abbrev R.ARB_TASK_CFG : Nat := 0x40024
abbrev F.ARB_TASK_CFG_PRIORITY : Fld := ⟨0x40024, 0, 4⟩
abbrev F.ARB_TASK_CFG_KIND : Fld := ⟨0x40024, 4, 1⟩
abbrev F.ARB_TASK_CFG_MODE : Fld := ⟨0x40024, 5, 1⟩
abbrev F.ARB_TASK_CFG_CONSUME : Fld := ⟨0x40024, 6, 1⟩
abbrev F.ARB_TASK_CFG_DEFINED : Fld := ⟨0x40024, 7, 1⟩
abbrev F.ARB_TASK_CFG_CONCURRENCY : Fld := ⟨0x40024, 8, 4⟩
abbrev F.ARB_TASK_CFG_DOMAIN : Fld := ⟨0x40024, 12, 4⟩
abbrev F.ARB_TASK_CFG_HANDLER : Fld := ⟨0x40024, 16, 16⟩
/-- ARB_TASK_MASK, spec/06_arbour_scheduler.md R218. -/
abbrev R.ARB_TASK_MASK : Nat := 0x40028
abbrev F.ARB_TASK_MASK_MASK : Fld := ⟨0x40028, 0, 32⟩
/-- ARB_TASK_FLAGS, spec/06_arbour_scheduler.md R218. -/
abbrev R.ARB_TASK_FLAGS : Nat := 0x4002C
abbrev F.ARB_TASK_FLAGS_FLAGS : Fld := ⟨0x4002C, 0, 32⟩
/-- ARB_TASK_STAT, spec/06_arbour_scheduler.md R218. -/
abbrev R.ARB_TASK_STAT : Nat := 0x40030
abbrev F.ARB_TASK_STAT_QUEUED : Fld := ⟨0x40030, 0, 10⟩
abbrev F.ARB_TASK_STAT_RUNNING : Fld := ⟨0x40030, 10, 4⟩
abbrev F.ARB_TASK_STAT_ELIGIBLE : Fld := ⟨0x40030, 14, 1⟩
abbrev F.ARB_TASK_STAT_HELD : Fld := ⟨0x40030, 15, 1⟩
abbrev F.ARB_TASK_STAT_MERGED : Fld := ⟨0x40030, 16, 8⟩
/-- ARB_LAT_MAX, spec/06_arbour_scheduler.md R218. -/
abbrev R.ARB_LAT_MAX : Nat := 0x40040
abbrev F.ARB_LAT_MAX_LAT : Fld := ⟨0x40040, 0, 16⟩
/-- ARB_BUSY_CNT, spec/06_arbour_scheduler.md R218. -/
abbrev R.ARB_BUSY_CNT : Nat := 0x40044
abbrev F.ARB_BUSY_CNT_BUSY_S : Fld := ⟨0x40044, 0, 16⟩
abbrev F.ARB_BUSY_CNT_BUSY_NS : Fld := ⟨0x40044, 16, 16⟩
/-- ARB_EPOCH, spec/06_arbour_scheduler.md R218. -/
abbrev R.ARB_EPOCH : Nat := 0x40048
abbrev F.ARB_EPOCH_EPOCH : Fld := ⟨0x40048, 0, 16⟩
/-- ARB_QUOTA, spec/06_arbour_scheduler.md R218. -/
abbrev R.ARB_QUOTA : Nat := 0x4004C
abbrev F.ARB_QUOTA_INFL_S : Fld := ⟨0x4004C, 0, 10⟩
abbrev F.ARB_QUOTA_INFL_NS : Fld := ⟨0x4004C, 16, 10⟩
/-- SDL_STAT, spec/07_sundial_time.md R248. -/
abbrev R.SDL_STAT : Nat := 0x50000
abbrev F.SDL_STAT_STATE : Fld := ⟨0x50000, 0, 3⟩
abbrev F.SDL_STAT_UNTRUSTED : Fld := ⟨0x50000, 3, 1⟩
abbrev F.SDL_STAT_SRC_OK : Fld := ⟨0x50000, 4, 1⟩
abbrev F.SDL_STAT_SLEWING : Fld := ⟨0x50000, 5, 1⟩
abbrev F.SDL_STAT_STEP_PEND : Fld := ⟨0x50000, 6, 1⟩
abbrev F.SDL_STAT_SLOT_RUN : Fld := ⟨0x50000, 7, 1⟩
abbrev F.SDL_STAT_REF10_OK : Fld := ⟨0x50000, 8, 1⟩
abbrev F.SDL_STAT_PPS_IN_OK : Fld := ⟨0x50000, 9, 1⟩
abbrev F.SDL_STAT_STEPPED : Fld := ⟨0x50000, 16, 1⟩
abbrev F.SDL_STAT_UNTRUSTED_SEEN : Fld := ⟨0x50000, 17, 1⟩
abbrev F.SDL_STAT_STATE_CHG : Fld := ⟨0x50000, 18, 1⟩
abbrev F.SDL_STAT_COMP_LOST : Fld := ⟨0x50000, 19, 1⟩
/-- SDL_CTRL, spec/07_sundial_time.md R248. -/
abbrev R.SDL_CTRL : Nat := 0x50004
abbrev F.SDL_CTRL_STEP_ALLOWED : Fld := ⟨0x50004, 0, 1⟩
abbrev F.SDL_CTRL_PPS_OUT_EN : Fld := ⟨0x50004, 1, 1⟩
abbrev F.SDL_CTRL_REF10_OUT_EN : Fld := ⟨0x50004, 2, 1⟩
abbrev F.SDL_CTRL_IRQ_EN : Fld := ⟨0x50004, 8, 1⟩
/-- SDL_FREQ, spec/07_sundial_time.md R248. -/
abbrev R.SDL_FREQ : Nat := 0x50008
abbrev F.SDL_FREQ : Fld := ⟨0x50008, 0, 32⟩
/-- SDL_OFFSET, spec/07_sundial_time.md R248. -/
abbrev R.SDL_OFFSET : Nat := 0x5000C
abbrev F.SDL_OFFSET : Fld := ⟨0x5000C, 0, 32⟩
/-- SDL_HOLD_TIME, spec/07_sundial_time.md R248. -/
abbrev R.SDL_HOLD_TIME : Nat := 0x50010
abbrev F.SDL_HOLD_TIME : Fld := ⟨0x50010, 0, 32⟩
/-- SDL_HOLD_ERR, spec/07_sundial_time.md R248. -/
abbrev R.SDL_HOLD_ERR : Nat := 0x50014
abbrev F.SDL_HOLD_ERR : Fld := ⟨0x50014, 0, 32⟩
/-- SDL_UTC, spec/07_sundial_time.md R248. -/
abbrev R.SDL_UTC : Nat := 0x50018
abbrev F.SDL_UTC_TAI_UTC : Fld := ⟨0x50018, 0, 16⟩
abbrev F.SDL_UTC_VALID : Fld := ⟨0x50018, 16, 1⟩
abbrev F.SDL_UTC_LEAP_PEND : Fld := ⟨0x50018, 17, 1⟩
abbrev F.SDL_UTC_LEAP_NEG : Fld := ⟨0x50018, 18, 1⟩
/-- SDL_ASN_LO, spec/07_sundial_time.md R248. -/
abbrev R.SDL_ASN_LO : Nat := 0x50020
abbrev F.SDL_ASN_LO : Fld := ⟨0x50020, 0, 32⟩
/-- SDL_ASN_HI, spec/07_sundial_time.md R248. -/
abbrev R.SDL_ASN_HI : Nat := 0x50024
abbrev F.SDL_ASN_HI : Fld := ⟨0x50024, 0, 8⟩
/-- SDL_PTP_STAT, spec/07_sundial_time.md R248. -/
abbrev R.SDL_PTP_STAT : Nat := 0x50028
abbrev F.SDL_PTP_STAT_ETH0 : Fld := ⟨0x50028, 0, 4⟩
abbrev F.SDL_PTP_STAT_ETH1 : Fld := ⟨0x50028, 4, 4⟩
abbrev F.SDL_PTP_STAT_CLOCKCLASS : Fld := ⟨0x50028, 8, 8⟩
/-- SDL_PTP_OFFSET, spec/07_sundial_time.md R248. -/
abbrev R.SDL_PTP_OFFSET : Nat := 0x5002C
abbrev F.SDL_PTP_OFFSET : Fld := ⟨0x5002C, 0, 32⟩
/-- SDL_PTP_DELAY, spec/07_sundial_time.md R248. -/
abbrev R.SDL_PTP_DELAY : Nat := 0x50030
abbrev F.SDL_PTP_DELAY : Fld := ⟨0x50030, 0, 32⟩
/-- SDL_CAP_PPS_NS, spec/07_sundial_time.md R248. -/
abbrev R.SDL_CAP_PPS_NS : Nat := 0x50040
abbrev F.SDL_CAP_PPS_NS : Fld := ⟨0x50040, 0, 32⟩
/-- SDL_CAP_PPS_SEC_LO, spec/07_sundial_time.md R248. -/
abbrev R.SDL_CAP_PPS_SEC_LO : Nat := 0x50044
abbrev F.SDL_CAP_PPS_SEC_LO : Fld := ⟨0x50044, 0, 32⟩
/-- SDL_CAP_PPS_SEC_HI, spec/07_sundial_time.md R248. -/
abbrev R.SDL_CAP_PPS_SEC_HI : Nat := 0x50048
abbrev F.SDL_CAP_PPS_SEC_HI : Fld := ⟨0x50048, 0, 16⟩
/-- SDL_TBk_NS, spec/07_sundial_time.md R248. -/
abbrev R.SDL_TBk_NS (k : Nat) : Nat := 0x50100 + 0x20 * k
abbrev F.SDL_TBk_NS (k : Nat) : Fld := ⟨0x50100 + 0x20 * k, 0, 32⟩
/-- SDL_TBk_SEC_LO, spec/07_sundial_time.md R248. -/
abbrev R.SDL_TBk_SEC_LO (k : Nat) : Nat := 0x50104 + 0x20 * k
abbrev F.SDL_TBk_SEC_LO (k : Nat) : Fld := ⟨0x50104 + 0x20 * k, 0, 32⟩
/-- SDL_TBk_SEC_HI, spec/07_sundial_time.md R248. -/
abbrev R.SDL_TBk_SEC_HI (k : Nat) : Nat := 0x50108 + 0x20 * k
abbrev F.SDL_TBk_SEC_HI (k : Nat) : Fld := ⟨0x50108 + 0x20 * k, 0, 16⟩
/-- SDL_TBk_RATE, spec/07_sundial_time.md R248. -/
abbrev R.SDL_TBk_RATE (k : Nat) : Nat := 0x5010C + 0x20 * k
abbrev F.SDL_TBk_RATE (k : Nat) : Fld := ⟨0x5010C + 0x20 * k, 0, 32⟩
/-- SDL_TBk_STAT, spec/07_sundial_time.md R248. -/
abbrev R.SDL_TBk_STAT (k : Nat) : Nat := 0x50110 + 0x20 * k
abbrev F.SDL_TBk_STAT_STEPPED (k : Nat) : Fld := ⟨0x50110 + 0x20 * k, 0, 1⟩
abbrev F.SDL_TBk_STAT_SLEWING (k : Nat) : Fld := ⟨0x50110 + 0x20 * k, 1, 1⟩
/-- SDL_TBk_SMP_FRC_LO, spec/07_sundial_time.md R248. -/
abbrev R.SDL_TBk_SMP_FRC_LO (k : Nat) : Nat := 0x50114 + 0x20 * k
abbrev F.SDL_TBk_SMP_FRC_LO (k : Nat) : Fld := ⟨0x50114 + 0x20 * k, 0, 32⟩
/-- SDL_TBk_SMP_FRC_HI, spec/07_sundial_time.md R248. -/
abbrev R.SDL_TBk_SMP_FRC_HI (k : Nat) : Nat := 0x50118 + 0x20 * k
abbrev F.SDL_TBk_SMP_FRC_HI (k : Nat) : Fld := ⟨0x50118 + 0x20 * k, 0, 32⟩
/-- SDL_CMP_ACT, spec/07_sundial_time.md R248. -/
abbrev R.SDL_CMP_ACT (i : Nat) : Nat := 0x51010 + 0x20 * i
abbrev F.SDL_CMP_ACT_PIN (i : Nat) : Fld := ⟨0x51010 + 0x20 * i, 0, 1⟩
abbrev F.SDL_CMP_ACT_EVENT (i : Nat) : Fld := ⟨0x51010 + 0x20 * i, 1, 1⟩
abbrev F.SDL_CMP_ACT_WKT_START (i : Nat) : Fld := ⟨0x51010 + 0x20 * i, 2, 1⟩
abbrev F.SDL_CMP_ACT_SNAP (i : Nat) : Fld := ⟨0x51010 + 0x20 * i, 3, 1⟩
abbrev F.SDL_CMP_ACT_CONVERT (i : Nat) : Fld := ⟨0x51010 + 0x20 * i, 4, 1⟩
abbrev F.SDL_CMP_ACT_WAKE (i : Nat) : Fld := ⟨0x51010 + 0x20 * i, 5, 1⟩
abbrev F.SDL_CMP_ACT_DISCARD_IF_LATE (i : Nat) : Fld := ⟨0x51010 + 0x20 * i, 6, 1⟩
abbrev F.SDL_CMP_ACT_PIN_OP (i : Nat) : Fld := ⟨0x51010 + 0x20 * i, 8, 2⟩
abbrev F.SDL_CMP_ACT_GPIO (i : Nat) : Fld := ⟨0x51010 + 0x20 * i, 12, 4⟩
abbrev F.SDL_CMP_ACT_PULSE_US (i : Nat) : Fld := ⟨0x51010 + 0x20 * i, 16, 16⟩
/-- SDL_CMP_EVT, spec/07_sundial_time.md R248. -/
abbrev R.SDL_CMP_EVT (i : Nat) : Nat := 0x51014 + 0x20 * i
abbrev F.SDL_CMP_EVT_TASK (i : Nat) : Fld := ⟨0x51014 + 0x20 * i, 0, 8⟩
abbrev F.SDL_CMP_EVT_FLAG (i : Nat) : Fld := ⟨0x51014 + 0x20 * i, 8, 5⟩
abbrev F.SDL_CMP_EVT_AXES (i : Nat) : Fld := ⟨0x51014 + 0x20 * i, 16, 4⟩
/-- SDL_CMP_CTRL, spec/07_sundial_time.md R248. -/
abbrev R.SDL_CMP_CTRL (i : Nat) : Nat := 0x51018 + 0x20 * i
abbrev F.SDL_CMP_CTRL_ARM (i : Nat) : Fld := ⟨0x51018 + 0x20 * i, 0, 1⟩
abbrev F.SDL_CMP_CTRL_DISARM (i : Nat) : Fld := ⟨0x51018 + 0x20 * i, 1, 1⟩
abbrev F.SDL_CMP_CTRL_ARMED (i : Nat) : Fld := ⟨0x51018 + 0x20 * i, 2, 1⟩
abbrev F.SDL_CMP_CTRL_LATE (i : Nat) : Fld := ⟨0x51018 + 0x20 * i, 3, 1⟩
abbrev F.SDL_CMP_CTRL_MISSED (i : Nat) : Fld := ⟨0x51018 + 0x20 * i, 4, 1⟩
abbrev F.SDL_CMP_CTRL_FIRED (i : Nat) : Fld := ⟨0x51018 + 0x20 * i, 5, 1⟩
abbrev F.SDL_CMP_CTRL_SKIPPED (i : Nat) : Fld := ⟨0x51018 + 0x20 * i, 8, 8⟩
abbrev F.SDL_CMP_CTRL_OWNER (i : Nat) : Fld := ⟨0x51018 + 0x20 * i, 16, 2⟩
/-- BV_STAT, spec/08_belvedere_gnss.md R280. -/
abbrev R.BV_STAT : Nat := 0x60000
abbrev F.BV_STAT_TIME_VALID : Fld := ⟨0x60000, 0, 1⟩
abbrev F.BV_STAT_SURVEY : Fld := ⟨0x60000, 1, 3⟩
abbrev F.BV_STAT_ANT_ACTIVE : Fld := ⟨0x60000, 4, 1⟩
abbrev F.BV_STAT_ACQ_BUSY : Fld := ⟨0x60000, 5, 1⟩
abbrev F.BV_STAT_SPOOF_ANY : Fld := ⟨0x60000, 6, 1⟩
abbrev F.BV_STAT_INTERF_ANY : Fld := ⟨0x60000, 7, 1⟩
abbrev F.BV_STAT_NSV : Fld := ⟨0x60000, 8, 8⟩
abbrev F.BV_STAT_BASE_SKIP : Fld := ⟨0x60000, 16, 1⟩
abbrev F.BV_STAT_EPOCH_MISSED : Fld := ⟨0x60000, 17, 1⟩
abbrev F.BV_STAT_ANT_SWITCHED : Fld := ⟨0x60000, 18, 1⟩
abbrev F.BV_STAT_SURVEY_DONE : Fld := ⟨0x60000, 19, 1⟩
abbrev F.BV_STAT_INTEG_CHG : Fld := ⟨0x60000, 20, 1⟩
/-- BV_CTRL, spec/08_belvedere_gnss.md R280. -/
abbrev R.BV_CTRL : Nat := 0x60004
abbrev F.BV_CTRL_IRQ_EN : Fld := ⟨0x60004, 0, 1⟩
/-- BV_ANT, spec/08_belvedere_gnss.md R280. -/
abbrev R.BV_ANT : Nat := 0x60008
abbrev F.BV_ANT_ANT1_STATE : Fld := ⟨0x60008, 0, 2⟩
abbrev F.BV_ANT_ANT2_STATE : Fld := ⟨0x60008, 2, 2⟩
abbrev F.BV_ANT_ANT1_OPEN_SEEN : Fld := ⟨0x60008, 4, 1⟩
abbrev F.BV_ANT_ANT1_SHORT_SEEN : Fld := ⟨0x60008, 5, 1⟩
abbrev F.BV_ANT_ANT2_OPEN_SEEN : Fld := ⟨0x60008, 6, 1⟩
abbrev F.BV_ANT_ANT2_SHORT_SEEN : Fld := ⟨0x60008, 7, 1⟩
abbrev F.BV_ANT_ANT1_MA : Fld := ⟨0x60008, 16, 8⟩
abbrev F.BV_ANT_ANT2_MA : Fld := ⟨0x60008, 24, 8⟩
/-- BV_SYS_FLAGS, spec/08_belvedere_gnss.md R280. -/
abbrev R.BV_SYS_FLAGS : Nat := 0x6000C
abbrev F.BV_SYS_FLAGS_SPOOF : Fld := ⟨0x6000C, 0, 7⟩
abbrev F.BV_SYS_FLAGS_INTERF : Fld := ⟨0x6000C, 8, 7⟩
abbrev F.BV_SYS_FLAGS_SPOOF_SEEN : Fld := ⟨0x6000C, 16, 7⟩
abbrev F.BV_SYS_FLAGS_INTERF_SEEN : Fld := ⟨0x6000C, 24, 7⟩
/-- BV_CHECK, spec/08_belvedere_gnss.md R280. -/
abbrev R.BV_CHECK : Nat := 0x60010
abbrev F.BV_CHECK_FAIL : Fld := ⟨0x60010, 0, 6⟩
abbrev F.BV_CHECK_FAIL_SEEN : Fld := ⟨0x60010, 8, 6⟩
/-- BV_BASE_X_LO, spec/08_belvedere_gnss.md R280. -/
abbrev R.BV_BASE_X_LO : Nat := 0x60020
abbrev F.BV_BASE_X_LO : Fld := ⟨0x60020, 0, 32⟩
/-- BV_BASE_X_HI, spec/08_belvedere_gnss.md R280. -/
abbrev R.BV_BASE_X_HI : Nat := 0x60024
abbrev F.BV_BASE_X_HI : Fld := ⟨0x60024, 0, 32⟩
/-- BV_BASE_Y_LO, spec/08_belvedere_gnss.md R280. -/
abbrev R.BV_BASE_Y_LO : Nat := 0x60028
abbrev F.BV_BASE_Y_LO : Fld := ⟨0x60028, 0, 32⟩
/-- BV_BASE_Y_HI, spec/08_belvedere_gnss.md R280. -/
abbrev R.BV_BASE_Y_HI : Nat := 0x6002C
abbrev F.BV_BASE_Y_HI : Fld := ⟨0x6002C, 0, 32⟩
/-- BV_BASE_Z_LO, spec/08_belvedere_gnss.md R280. -/
abbrev R.BV_BASE_Z_LO : Nat := 0x60030
abbrev F.BV_BASE_Z_LO : Fld := ⟨0x60030, 0, 32⟩
/-- BV_BASE_Z_HI, spec/08_belvedere_gnss.md R280. -/
abbrev R.BV_BASE_Z_HI : Nat := 0x60034
abbrev F.BV_BASE_Z_HI : Fld := ⟨0x60034, 0, 32⟩
/-- BV_SURVEY_TIME, spec/08_belvedere_gnss.md R280. -/
abbrev R.BV_SURVEY_TIME : Nat := 0x60040
abbrev F.BV_SURVEY_TIME : Fld := ⟨0x60040, 0, 32⟩
/-- BV_SURVEY_SIGMA, spec/08_belvedere_gnss.md R280. -/
abbrev R.BV_SURVEY_SIGMA : Nat := 0x60044
abbrev F.BV_SURVEY_SIGMA : Fld := ⟨0x60044, 0, 32⟩
/-- BV_POS_DEV, spec/08_belvedere_gnss.md R280. -/
abbrev R.BV_POS_DEV : Nat := 0x60048
abbrev F.BV_POS_DEV_HORIZONTAL : Fld := ⟨0x60048, 0, 16⟩
abbrev F.BV_POS_DEV_VERTICAL : Fld := ⟨0x60048, 16, 16⟩
/-- BV_CLK_BIAS, spec/08_belvedere_gnss.md R280. -/
abbrev R.BV_CLK_BIAS : Nat := 0x60050
abbrev F.BV_CLK_BIAS : Fld := ⟨0x60050, 0, 32⟩
/-- BV_CLK_DRIFT, spec/08_belvedere_gnss.md R280. -/
abbrev R.BV_CLK_DRIFT : Nat := 0x60054
abbrev F.BV_CLK_DRIFT : Fld := ⟨0x60054, 0, 32⟩
/-- BV_ISBs, spec/08_belvedere_gnss.md R280. -/
abbrev R.BV_ISBs (s : Nat) : Nat := 0x60060 + 0x4 * s
abbrev F.BV_ISBs (s : Nat) : Fld := ⟨0x60060 + 0x4 * s, 0, 32⟩
/-- BV_ISB_VALID, spec/08_belvedere_gnss.md R280. -/
abbrev R.BV_ISB_VALID : Nat := 0x6007C
abbrev F.BV_ISB_VALID_VALID : Fld := ⟨0x6007C, 0, 7⟩
abbrev F.BV_ISB_VALID_BCAST : Fld := ⟨0x6007C, 8, 7⟩
/-- BV_NOISEc, spec/08_belvedere_gnss.md R280. -/
abbrev R.BV_NOISEc (c : Nat) : Nat := 0x60080 + 0x4 * c
abbrev F.BV_NOISEc (c : Nat) : Fld := ⟨0x60080 + 0x4 * c, 0, 16⟩
/-- BV_ALLOCn, spec/08_belvedere_gnss.md R280. -/
abbrev R.BV_ALLOCn (n : Nat) : Nat := 0x60100 + 0x4 * n
abbrev F.BV_ALLOCn_ALLOC (n : Nat) : Fld := ⟨0x60100 + 0x4 * n, 0, 9⟩
abbrev F.BV_ALLOCn_TRACKING (n : Nat) : Fld := ⟨0x60100 + 0x4 * n, 16, 9⟩
/-- BV_FLOAT, spec/08_belvedere_gnss.md R280. -/
abbrev R.BV_FLOAT : Nat := 0x60158
abbrev F.BV_FLOAT_SIZE : Fld := ⟨0x60158, 0, 9⟩
abbrev F.BV_FLOAT_USED : Fld := ⟨0x60158, 16, 9⟩
/-- BV_ACQ_STAT, spec/08_belvedere_gnss.md R280. -/
abbrev R.BV_ACQ_STAT : Nat := 0x60300
abbrev F.BV_ACQ_STAT_BUSY : Fld := ⟨0x60300, 0, 4⟩
abbrev F.BV_ACQ_STAT_QUEUED : Fld := ⟨0x60300, 8, 8⟩
abbrev F.BV_ACQ_STAT_DONE : Fld := ⟨0x60300, 16, 16⟩
/-- BV_CH_SEL, spec/08_belvedere_gnss.md R280. -/
abbrev R.BV_CH_SEL : Nat := 0x60200
abbrev F.BV_CH_SEL_CH : Fld := ⟨0x60200, 0, 9⟩
/-- BV_CH_STAT, spec/08_belvedere_gnss.md R280. -/
abbrev R.BV_CH_STAT : Nat := 0x60204
abbrev F.BV_CH_STAT_STATE : Fld := ⟨0x60204, 0, 3⟩
abbrev F.BV_CH_STAT_ANT : Fld := ⟨0x60204, 3, 1⟩
abbrev F.BV_CH_STAT_SYS : Fld := ⟨0x60204, 4, 3⟩
abbrev F.BV_CH_STAT_FLOAT : Fld := ⟨0x60204, 7, 1⟩
abbrev F.BV_CH_STAT_SVID : Fld := ⟨0x60204, 8, 8⟩
abbrev F.BV_CH_STAT_SIG : Fld := ⟨0x60204, 16, 5⟩
abbrev F.BV_CH_STAT_SPOOF : Fld := ⟨0x60204, 21, 1⟩
abbrev F.BV_CH_STAT_INTERF : Fld := ⟨0x60204, 22, 1⟩
abbrev F.BV_CH_STAT_EXCLUDED : Fld := ⟨0x60204, 23, 1⟩
/-- BV_CH_CN0, spec/08_belvedere_gnss.md R280. -/
abbrev R.BV_CH_CN0 : Nat := 0x60208
abbrev F.BV_CH_CN0_CN0 : Fld := ⟨0x60208, 0, 16⟩
abbrev F.BV_CH_CN0_ELEV : Fld := ⟨0x60208, 16, 8⟩
abbrev F.BV_CH_CN0_SLIPS : Fld := ⟨0x60208, 24, 8⟩
/-- SLV_STAT, spec/09_corrections_central_solve.md R318. -/
abbrev R.SLV_STAT : Nat := 0x70000
abbrev F.SLV_STAT_LANE_OK : Fld := ⟨0x70000, 0, 4⟩
abbrev F.SLV_STAT_LANE_BUSY : Fld := ⟨0x70000, 4, 4⟩
abbrev F.SLV_STAT_ROVERS : Fld := ⟨0x70000, 8, 8⟩
abbrev F.SLV_STAT_SKIP_SEEN : Fld := ⟨0x70000, 16, 1⟩
abbrev F.SLV_STAT_DEFER_SEEN : Fld := ⟨0x70000, 17, 1⟩
abbrev F.SLV_STAT_ABORT_SEEN : Fld := ⟨0x70000, 18, 1⟩
abbrev F.SLV_STAT_LANE_FAULT : Fld := ⟨0x70000, 19, 1⟩
abbrev F.SLV_STAT_NO_BASE_SEEN : Fld := ⟨0x70000, 20, 1⟩
abbrev F.SLV_STAT_WRONG_FIX_SEEN : Fld := ⟨0x70000, 21, 1⟩
/-- SLV_CTRL, spec/09_corrections_central_solve.md R318. -/
abbrev R.SLV_CTRL : Nat := 0x70004
abbrev F.SLV_CTRL_IRQ_EN : Fld := ⟨0x70004, 0, 1⟩
abbrev F.SLV_CTRL_RAW_ROVERS : Fld := ⟨0x70004, 1, 1⟩
/-- SLV_BUDGET, spec/09_corrections_central_solve.md R318. -/
abbrev R.SLV_BUDGET : Nat := 0x70008
abbrev F.SLV_BUDGET_LOAD : Fld := ⟨0x70008, 0, 16⟩
abbrev F.SLV_BUDGET_DEFERRED : Fld := ⟨0x70008, 16, 8⟩
abbrev F.SLV_BUDGET_SKIPPED : Fld := ⟨0x70008, 24, 8⟩
/-- SLV_CNT_FIXED, spec/09_corrections_central_solve.md R318. -/
abbrev R.SLV_CNT_FIXED : Nat := 0x70010
abbrev F.SLV_CNT_FIXED : Fld := ⟨0x70010, 0, 32⟩
/-- SLV_CNT_FLOAT, spec/09_corrections_central_solve.md R318. -/
abbrev R.SLV_CNT_FLOAT : Nat := 0x70014
abbrev F.SLV_CNT_FLOAT : Fld := ⟨0x70014, 0, 32⟩
/-- SLV_CNT_CODE, spec/09_corrections_central_solve.md R318. -/
abbrev R.SLV_CNT_CODE : Nat := 0x70018
abbrev F.SLV_CNT_CODE : Fld := ⟨0x70018, 0, 32⟩
/-- SLV_CNT_NOSOL, spec/09_corrections_central_solve.md R318. -/
abbrev R.SLV_CNT_NOSOL : Nat := 0x7001C
abbrev F.SLV_CNT_NOSOL : Fld := ⟨0x7001C, 0, 32⟩
/-- SLV_CNT_NO_OBS, spec/09_corrections_central_solve.md R318. -/
abbrev R.SLV_CNT_NO_OBS : Nat := 0x70020
abbrev F.SLV_CNT_NO_OBS : Fld := ⟨0x70020, 0, 32⟩
/-- SLV_CNT_NO_BASE, spec/09_corrections_central_solve.md R318. -/
abbrev R.SLV_CNT_NO_BASE : Nat := 0x70024
abbrev F.SLV_CNT_NO_BASE : Fld := ⟨0x70024, 0, 32⟩
/-- SLV_CNT_SKIPPED, spec/09_corrections_central_solve.md R318. -/
abbrev R.SLV_CNT_SKIPPED : Nat := 0x70028
abbrev F.SLV_CNT_SKIPPED : Fld := ⟨0x70028, 0, 32⟩
/-- SLV_CNT_DEFERRED, spec/09_corrections_central_solve.md R318. -/
abbrev R.SLV_CNT_DEFERRED : Nat := 0x7002C
abbrev F.SLV_CNT_DEFERRED : Fld := ⟨0x7002C, 0, 32⟩
/-- SLV_CNT_WRONG_FIX, spec/09_corrections_central_solve.md R318. -/
abbrev R.SLV_CNT_WRONG_FIX : Nat := 0x70030
abbrev F.SLV_CNT_WRONG_FIX : Fld := ⟨0x70030, 0, 32⟩
/-- SLV_CNT_BAD_REC, spec/09_corrections_central_solve.md R318. -/
abbrev R.SLV_CNT_BAD_REC : Nat := 0x70034
abbrev F.SLV_CNT_BAD_REC : Fld := ⟨0x70034, 0, 32⟩
/-- SLV_LAT_MAX, spec/09_corrections_central_solve.md R318. -/
abbrev R.SLV_LAT_MAX : Nat := 0x70040
abbrev F.SLV_LAT_MAX_LAT : Fld := ⟨0x70040, 0, 16⟩
/-- SLV_ROV_SEL, spec/09_corrections_central_solve.md R318. -/
abbrev R.SLV_ROV_SEL : Nat := 0x70100
abbrev F.SLV_ROV_SEL_MEMBER : Fld := ⟨0x70100, 0, 8⟩
/-- SLV_ROV_STAT, spec/09_corrections_central_solve.md R318. -/
abbrev R.SLV_ROV_STAT : Nat := 0x70104
abbrev F.SLV_ROV_STAT_STATUS : Fld := ⟨0x70104, 0, 4⟩
abbrev F.SLV_ROV_STAT_ENABLED : Fld := ⟨0x70104, 4, 1⟩
abbrev F.SLV_ROV_STAT_SEARCH_PENDING : Fld := ⟨0x70104, 5, 1⟩
abbrev F.SLV_ROV_STAT_HELD : Fld := ⟨0x70104, 6, 1⟩
abbrev F.SLV_ROV_STAT_SELF : Fld := ⟨0x70104, 7, 1⟩
abbrev F.SLV_ROV_STAT_NAMB : Fld := ⟨0x70104, 8, 8⟩
abbrev F.SLV_ROV_STAT_RATIO : Fld := ⟨0x70104, 16, 8⟩
abbrev F.SLV_ROV_STAT_CONSEC : Fld := ⟨0x70104, 24, 8⟩
/-- SLV_ROV_BASELINE, spec/09_corrections_central_solve.md R318. -/
abbrev R.SLV_ROV_BASELINE : Nat := 0x70108
abbrev F.SLV_ROV_BASELINE : Fld := ⟨0x70108, 0, 32⟩
/-- SLV_ROV_TTFF, spec/09_corrections_central_solve.md R318. -/
abbrev R.SLV_ROV_TTFF : Nat := 0x7010C
abbrev F.SLV_ROV_TTFF : Fld := ⟨0x7010C, 0, 32⟩
/-- BV_RTCM_STAT, spec/09_corrections_central_solve.md R318. -/
abbrev R.BV_RTCM_STAT : Nat := 0x60400
abbrev F.BV_RTCM_STAT_ACTIVE : Fld := ⟨0x60400, 0, 1⟩
abbrev F.BV_RTCM_STAT_WITHHELD : Fld := ⟨0x60400, 1, 1⟩
abbrev F.BV_RTCM_STAT_SYS_OUT : Fld := ⟨0x60400, 8, 6⟩
abbrev F.BV_RTCM_STAT_DROP_SEEN : Fld := ⟨0x60400, 16, 1⟩
abbrev F.BV_RTCM_STAT_SPLIT_SEEN : Fld := ⟨0x60400, 17, 1⟩
/-- BV_RTCM_CNT, spec/09_corrections_central_solve.md R318. -/
abbrev R.BV_RTCM_CNT : Nat := 0x60404
abbrev F.BV_RTCM_CNT : Fld := ⟨0x60404, 0, 32⟩
/-- BV_RTCM_DROP, spec/09_corrections_central_solve.md R318. -/
abbrev R.BV_RTCM_DROP : Nat := 0x60408
abbrev F.BV_RTCM_DROP : Fld := ⟨0x60408, 0, 32⟩
/-- BS_STAT, spec/10_bandstand_radio.md R348. -/
abbrev R.BS_STAT (b : Nat) : Nat := 0x80000 + 0x10000 * b
abbrev F.BS_STAT_RUN (b : Nat) : Fld := ⟨0x80000 + 0x10000 * b, 0, 1⟩
abbrev F.BS_STAT_STOP_TX (b : Nat) : Fld := ⟨0x80000 + 0x10000 * b, 1, 1⟩
abbrev F.BS_STAT_BLANKED (b : Nat) : Fld := ⟨0x80000 + 0x10000 * b, 2, 1⟩
abbrev F.BS_STAT_WAKE_TX (b : Nat) : Fld := ⟨0x80000 + 0x10000 * b, 3, 1⟩
abbrev F.BS_STAT_DEMOD_BUSY (b : Nat) : Fld := ⟨0x80000 + 0x10000 * b, 4, 8⟩
abbrev F.BS_STAT_AUTH_SEEN (b : Nat) : Fld := ⟨0x80000 + 0x10000 * b, 16, 1⟩
abbrev F.BS_STAT_REPLAY_SEEN (b : Nat) : Fld := ⟨0x80000 + 0x10000 * b, 17, 1⟩
abbrev F.BS_STAT_BUSY_NACK_SEEN (b : Nat) : Fld := ⟨0x80000 + 0x10000 * b, 18, 1⟩
abbrev F.BS_STAT_NO_ACK_SEEN (b : Nat) : Fld := ⟨0x80000 + 0x10000 * b, 19, 1⟩
abbrev F.BS_STAT_FCNT_EXHAUSTED (b : Nat) : Fld := ⟨0x80000 + 0x10000 * b, 20, 1⟩
abbrev F.BS_STAT_DESYNC_SEEN (b : Nat) : Fld := ⟨0x80000 + 0x10000 * b, 21, 1⟩
/-- BS_CTRL, spec/10_bandstand_radio.md R348. -/
abbrev R.BS_CTRL (b : Nat) : Nat := 0x80004 + 0x10000 * b
abbrev F.BS_CTRL_IRQ_EN (b : Nat) : Fld := ⟨0x80004 + 0x10000 * b, 0, 1⟩
/-- BS_CFG, spec/10_bandstand_radio.md R348. -/
abbrev R.BS_CFG (b : Nat) : Nat := 0x80008 + 0x10000 * b
abbrev F.BS_CFG_NCHAN (b : Nat) : Fld := ⟨0x80008 + 0x10000 * b, 0, 7⟩
abbrev F.BS_CFG_REGION (b : Nat) : Fld := ⟨0x80008 + 0x10000 * b, 7, 1⟩
abbrev F.BS_CFG_HOP_LEN (b : Nat) : Fld := ⟨0x80008 + 0x10000 * b, 8, 8⟩
abbrev F.BS_CFG_NDEMOD (b : Nat) : Fld := ⟨0x80008 + 0x10000 * b, 16, 4⟩
abbrev F.BS_CFG_TX_PWR (b : Nat) : Fld := ⟨0x80008 + 0x10000 * b, 24, 8⟩
/-- BS_RETRY, spec/10_bandstand_radio.md R348. -/
abbrev R.BS_RETRY (b : Nat) : Nat := 0x8000C + 0x10000 * b
abbrev F.BS_RETRY_TRIES (b : Nat) : Fld := ⟨0x8000C + 0x10000 * b, 0, 2⟩
/-- BS_CNT_RX_OK, spec/10_bandstand_radio.md R348. -/
abbrev R.BS_CNT_RX_OK (b : Nat) : Nat := 0x80010 + 0x10000 * b
abbrev F.BS_CNT_RX_OK (b : Nat) : Fld := ⟨0x80010 + 0x10000 * b, 0, 32⟩
/-- BS_CNT_RX_BAD, spec/10_bandstand_radio.md R348. -/
abbrev R.BS_CNT_RX_BAD (b : Nat) : Nat := 0x80014 + 0x10000 * b
abbrev F.BS_CNT_RX_BAD (b : Nat) : Fld := ⟨0x80014 + 0x10000 * b, 0, 32⟩
/-- BS_CNT_FILTERED, spec/10_bandstand_radio.md R348. -/
abbrev R.BS_CNT_FILTERED (b : Nat) : Nat := 0x80018 + 0x10000 * b
abbrev F.BS_CNT_FILTERED (b : Nat) : Fld := ⟨0x80018 + 0x10000 * b, 0, 32⟩
/-- BS_CNT_AUTH, spec/10_bandstand_radio.md R348. -/
abbrev R.BS_CNT_AUTH (b : Nat) : Nat := 0x8001C + 0x10000 * b
abbrev F.BS_CNT_AUTH (b : Nat) : Fld := ⟨0x8001C + 0x10000 * b, 0, 32⟩
/-- BS_CNT_REPLAY, spec/10_bandstand_radio.md R348. -/
abbrev R.BS_CNT_REPLAY (b : Nat) : Nat := 0x80020 + 0x10000 * b
abbrev F.BS_CNT_REPLAY (b : Nat) : Fld := ⟨0x80020 + 0x10000 * b, 0, 32⟩
/-- BS_CNT_DUP, spec/10_bandstand_radio.md R348. -/
abbrev R.BS_CNT_DUP (b : Nat) : Nat := 0x80024 + 0x10000 * b
abbrev F.BS_CNT_DUP (b : Nat) : Fld := ⟨0x80024 + 0x10000 * b, 0, 32⟩
/-- BS_CNT_LATE, spec/10_bandstand_radio.md R348. -/
abbrev R.BS_CNT_LATE (b : Nat) : Nat := 0x80028 + 0x10000 * b
abbrev F.BS_CNT_LATE (b : Nat) : Fld := ⟨0x80028 + 0x10000 * b, 0, 32⟩
/-- BS_CNT_NACK_BUSY, spec/10_bandstand_radio.md R348. -/
abbrev R.BS_CNT_NACK_BUSY (b : Nat) : Nat := 0x8002C + 0x10000 * b
abbrev F.BS_CNT_NACK_BUSY (b : Nat) : Fld := ⟨0x8002C + 0x10000 * b, 0, 32⟩
/-- BS_CNT_TX, spec/10_bandstand_radio.md R348. -/
abbrev R.BS_CNT_TX (b : Nat) : Nat := 0x80030 + 0x10000 * b
abbrev F.BS_CNT_TX (b : Nat) : Fld := ⟨0x80030 + 0x10000 * b, 0, 32⟩
/-- BS_CNT_NO_ACK, spec/10_bandstand_radio.md R348. -/
abbrev R.BS_CNT_NO_ACK (b : Nat) : Nat := 0x80034 + 0x10000 * b
abbrev F.BS_CNT_NO_ACK (b : Nat) : Fld := ⟨0x80034 + 0x10000 * b, 0, 32⟩
/-- BS_CNT_BLANKED, spec/10_bandstand_radio.md R348. -/
abbrev R.BS_CNT_BLANKED (b : Nat) : Nat := 0x80038 + 0x10000 * b
abbrev F.BS_CNT_BLANKED (b : Nat) : Fld := ⟨0x80038 + 0x10000 * b, 0, 32⟩
/-- BS_FILT_JOINEDk, spec/10_bandstand_radio.md R348. -/
abbrev R.BS_FILT_JOINEDk (b k : Nat) : Nat := 0x80040 + 0x10000 * b + 0x4 * k
abbrev F.BS_FILT_JOINEDk_MEMBERS (b k : Nat) : Fld := ⟨0x80040 + 0x10000 * b + 0x4 * k, 0, 32⟩
/-- BS_FILT_ENABLEDk, spec/10_bandstand_radio.md R348. -/
abbrev R.BS_FILT_ENABLEDk (b k : Nat) : Nat := 0x80050 + 0x10000 * b + 0x4 * k
abbrev F.BS_FILT_ENABLEDk_MEMBERS (b k : Nat) : Fld := ⟨0x80050 + 0x10000 * b + 0x4 * k, 0, 32⟩
/-- BS_FILT_GRP, spec/10_bandstand_radio.md R348. -/
abbrev R.BS_FILT_GRP (b : Nat) : Nat := 0x80060 + 0x10000 * b
abbrev F.BS_FILT_GRP_GRP (b : Nat) : Fld := ⟨0x80060 + 0x10000 * b, 0, 15⟩
abbrev F.BS_FILT_GRP_BCAST (b : Nat) : Fld := ⟨0x80060 + 0x10000 * b, 15, 1⟩
/-- BS_DESYNCk, spec/10_bandstand_radio.md R348. -/
abbrev R.BS_DESYNCk (b k : Nat) : Nat := 0x80070 + 0x10000 * b + 0x4 * k
abbrev F.BS_DESYNCk_DESYNC (b k : Nat) : Fld := ⟨0x80070 + 0x10000 * b + 0x4 * k, 0, 32⟩
/-- BS_KEY_SEL, spec/10_bandstand_radio.md R348. -/
abbrev R.BS_KEY_SEL (b : Nat) : Nat := 0x80080 + 0x10000 * b
abbrev F.BS_KEY_SEL_ENTRY (b : Nat) : Fld := ⟨0x80080 + 0x10000 * b, 0, 8⟩
/-- BS_KEY_STAT, spec/10_bandstand_radio.md R348. -/
abbrev R.BS_KEY_STAT (b : Nat) : Nat := 0x80084 + 0x10000 * b
abbrev F.BS_KEY_STAT_VALID (b : Nat) : Fld := ⟨0x80084 + 0x10000 * b, 0, 1⟩
abbrev F.BS_KEY_STAT_EXHAUSTED (b : Nat) : Fld := ⟨0x80084 + 0x10000 * b, 1, 1⟩
/-- BS_KEY_TXCNT, spec/10_bandstand_radio.md R348. -/
abbrev R.BS_KEY_TXCNT (b : Nat) : Nat := 0x80088 + 0x10000 * b
abbrev F.BS_KEY_TXCNT_FCNT (b : Nat) : Fld := ⟨0x80088 + 0x10000 * b, 0, 32⟩
/-- BS_KEY_RXCNT, spec/10_bandstand_radio.md R348. -/
abbrev R.BS_KEY_RXCNT (b : Nat) : Nat := 0x8008C + 0x10000 * b
abbrev F.BS_KEY_RXCNT_FCNT (b : Nat) : Fld := ⟨0x8008C + 0x10000 * b, 0, 32⟩
/-- BSA_PART_SEL, spec/10_bandstand_radio.md R348. -/
abbrev R.BSA_PART_SEL : Nat := 0x80100
abbrev F.BSA_PART_SEL_MEMBER : Fld := ⟨0x80100, 0, 8⟩
/-- BSA_PART_STAT, spec/10_bandstand_radio.md R348. -/
abbrev R.BSA_PART_STAT : Nat := 0x80104
abbrev F.BSA_PART_STAT_DESYNC : Fld := ⟨0x80104, 0, 1⟩
abbrev F.BSA_PART_STAT_VALID : Fld := ⟨0x80104, 1, 1⟩
abbrev F.BSA_PART_STAT_QUEUED : Fld := ⟨0x80104, 2, 1⟩
abbrev F.BSA_PART_STAT_RESYNC_TRIES : Fld := ⟨0x80104, 8, 8⟩
abbrev F.BSA_PART_STAT_AGE : Fld := ⟨0x80104, 16, 16⟩
/-- BSA_PART_OFS, spec/10_bandstand_radio.md R348. -/
abbrev R.BSA_PART_OFS : Nat := 0x80108
abbrev F.BSA_PART_OFS : Fld := ⟨0x80108, 0, 32⟩
/-- BSA_PART_DRIFT, spec/10_bandstand_radio.md R348. -/
abbrev R.BSA_PART_DRIFT : Nat := 0x8010C
abbrev F.BSA_PART_DRIFT : Fld := ⟨0x8010C, 0, 32⟩
/-- BSA_PART_PRED, spec/10_bandstand_radio.md R348. -/
abbrev R.BSA_PART_PRED : Nat := 0x80110
abbrev F.BSA_PART_PRED : Fld := ⟨0x80110, 0, 32⟩
/-- BSA_DRIFT_UNC, spec/10_bandstand_radio.md R348. -/
abbrev R.BSA_DRIFT_UNC : Nat := 0x80120
abbrev F.BSA_DRIFT_UNC_UNC : Fld := ⟨0x80120, 0, 16⟩
/-- BSA_RESYNC, spec/10_bandstand_radio.md R348. -/
abbrev R.BSA_RESYNC : Nat := 0x80124
abbrev F.BSA_RESYNC_SERVING : Fld := ⟨0x80124, 0, 8⟩
abbrev F.BSA_RESYNC_QUEUED : Fld := ⟨0x80124, 8, 8⟩
abbrev F.BSA_RESYNC_DONE_SEEN : Fld := ⟨0x80124, 16, 1⟩
abbrev F.BSA_RESYNC_FAIL_SEEN : Fld := ⟨0x80124, 17, 1⟩
/-- LODGE_WUR_CTRL, spec/10_bandstand_radio.md R348. -/
abbrev R.LODGE_WUR_CTRL : Nat := 0x10080
abbrev F.LODGE_WUR_CTRL_TOL : Fld := ⟨0x10080, 0, 2⟩
/-- LODGE_WUR_STAT, spec/10_bandstand_radio.md R348. -/
abbrev R.LODGE_WUR_STAT : Nat := 0x10084
abbrev F.LODGE_WUR_STAT_LISTENING : Fld := ⟨0x10084, 0, 1⟩
abbrev F.LODGE_WUR_STAT_BLANKED : Fld := ⟨0x10084, 1, 1⟩
abbrev F.LODGE_WUR_STAT_BASE_WORD : Fld := ⟨0x10084, 8, 1⟩
abbrev F.LODGE_WUR_STAT_WORDS : Fld := ⟨0x10084, 16, 8⟩
/-- BSA_MBR_SEL, spec/11_fleet_protocol.md R385. -/
abbrev R.BSA_MBR_SEL : Nat := 0x80200
abbrev F.BSA_MBR_SEL_MEMBER : Fld := ⟨0x80200, 0, 8⟩
/-- BSA_MBR_STAT, spec/11_fleet_protocol.md R385. -/
abbrev R.BSA_MBR_STAT : Nat := 0x80204
abbrev F.BSA_MBR_STAT_STATE : Fld := ⟨0x80204, 0, 3⟩
abbrev F.BSA_MBR_STAT_SILENT : Fld := ⟨0x80204, 3, 1⟩
abbrev F.BSA_MBR_STAT_DESYNC : Fld := ⟨0x80204, 4, 1⟩
abbrev F.BSA_MBR_STAT_ROBOT_STATE : Fld := ⟨0x80204, 5, 3⟩
abbrev F.BSA_MBR_STAT_BCN_AGE : Fld := ⟨0x80204, 8, 4⟩
abbrev F.BSA_MBR_STAT_MISSED : Fld := ⟨0x80204, 12, 4⟩
abbrev F.BSA_MBR_STAT_SCHED_SEQ : Fld := ⟨0x80204, 16, 8⟩
/-- BSA_MBR_SESSION, spec/11_fleet_protocol.md R385. -/
abbrev R.BSA_MBR_SESSION : Nat := 0x80208
abbrev F.BSA_MBR_SESSION : Fld := ⟨0x80208, 0, 32⟩
/-- BSA_MBR_JOINS, spec/11_fleet_protocol.md R385. -/
abbrev R.BSA_MBR_JOINS : Nat := 0x8020C
abbrev F.BSA_MBR_JOINS : Fld := ⟨0x8020C, 0, 32⟩
/-- BSA_FLOOD_CFG, spec/11_fleet_protocol.md R385. -/
abbrev R.BSA_FLOOD_CFG : Nat := 0x80210
abbrev F.BSA_FLOOD_CFG_BEACON_TTL : Fld := ⟨0x80210, 0, 3⟩
abbrev F.BSA_FLOOD_CFG_DATA_TTL : Fld := ⟨0x80210, 4, 3⟩
/-- BSA_FLOOD_STAT, spec/11_fleet_protocol.md R385. -/
abbrev R.BSA_FLOOD_STAT : Nat := 0x80214
abbrev F.BSA_FLOOD_STAT_DUP : Fld := ⟨0x80214, 0, 16⟩
abbrev F.BSA_FLOOD_STAT_MSG_ID : Fld := ⟨0x80214, 16, 16⟩
/-- BSA_JOIN_STAT, spec/11_fleet_protocol.md R385. -/
abbrev R.BSA_JOIN_STAT : Nat := 0x80218
abbrev F.BSA_JOIN_STAT_REQS : Fld := ⟨0x80218, 0, 8⟩
abbrev F.BSA_JOIN_STAT_REFUSED : Fld := ⟨0x80218, 8, 8⟩
abbrev F.BSA_JOIN_STAT_ACTIVATED : Fld := ⟨0x80218, 16, 8⟩
abbrev F.BSA_JOIN_STAT_JOIN_OPEN : Fld := ⟨0x80218, 24, 1⟩
/-- BSA_SESSION, spec/11_fleet_protocol.md R385. -/
abbrev R.BSA_SESSION : Nat := 0x8021C
abbrev F.BSA_SESSION_NEXT : Fld := ⟨0x8021C, 0, 32⟩
/-- PGL_STAT, spec/12_pergola_tracks.md R422. -/
abbrev R.PGL_STAT : Nat := 0xA0000
abbrev F.PGL_STAT_FROZEN : Fld := ⟨0xA0000, 0, 1⟩
abbrev F.PGL_STAT_PLANNING : Fld := ⟨0xA0000, 1, 1⟩
abbrev F.PGL_STAT_PENDING : Fld := ⟨0xA0000, 8, 8⟩
abbrev F.PGL_STAT_NO_PATH_SEEN : Fld := ⟨0xA0000, 16, 1⟩
abbrev F.PGL_STAT_ENV_CONFLICT_SEEN : Fld := ⟨0xA0000, 17, 1⟩
abbrev F.PGL_STAT_ACCEL_DEFERRED : Fld := ⟨0xA0000, 18, 1⟩
abbrev F.PGL_STAT_OFF_GRAPH_SEEN : Fld := ⟨0xA0000, 19, 1⟩
abbrev F.PGL_STAT_POS_LOST_SEEN : Fld := ⟨0xA0000, 20, 1⟩
abbrev F.PGL_STAT_EDGE_FULL_SEEN : Fld := ⟨0xA0000, 21, 1⟩
/-- PGL_CTRL, spec/12_pergola_tracks.md R422. -/
abbrev R.PGL_CTRL : Nat := 0xA0004
abbrev F.PGL_CTRL_IRQ_EN : Fld := ⟨0xA0004, 0, 1⟩
/-- PGL_LEAD, spec/12_pergola_tracks.md R422. -/
abbrev R.PGL_LEAD : Nat := 0xA0008
abbrev F.PGL_LEAD_LEAD_MS : Fld := ⟨0xA0008, 0, 16⟩
/-- PGL_GRAPH0, spec/12_pergola_tracks.md R422. -/
abbrev R.PGL_GRAPH0 : Nat := 0xA000C
abbrev F.PGL_GRAPH0_NODES : Fld := ⟨0xA000C, 0, 13⟩
abbrev F.PGL_GRAPH0_EDGES : Fld := ⟨0xA000C, 16, 14⟩
/-- PGL_GRAPH1, spec/12_pergola_tracks.md R422. -/
abbrev R.PGL_GRAPH1 : Nat := 0xA0010
abbrev F.PGL_GRAPH1_CONFLICTS : Fld := ⟨0xA0010, 0, 15⟩
abbrev F.PGL_GRAPH1_CLASSES : Fld := ⟨0xA0010, 16, 5⟩
/-- PGL_WIN_USED, spec/12_pergola_tracks.md R422. -/
abbrev R.PGL_WIN_USED : Nat := 0xA0014
abbrev F.PGL_WIN_USED : Fld := ⟨0xA0014, 0, 19⟩
/-- PGL_RT, spec/12_pergola_tracks.md R422. -/
abbrev R.PGL_RT : Nat := 0xA0018
abbrev F.PGL_RT : Fld := ⟨0xA0018, 0, 32⟩
/-- PGL_LAT_MAX, spec/12_pergola_tracks.md R422. -/
abbrev R.PGL_LAT_MAX : Nat := 0xA0040
abbrev F.PGL_LAT_MAX : Fld := ⟨0xA0040, 0, 16⟩
/-- PGL_CNT_PLANS, spec/12_pergola_tracks.md R422. -/
abbrev R.PGL_CNT_PLANS : Nat := 0xA0020
abbrev F.PGL_CNT_PLANS : Fld := ⟨0xA0020, 0, 32⟩
/-- PGL_CNT_NO_PATH, spec/12_pergola_tracks.md R422. -/
abbrev R.PGL_CNT_NO_PATH : Nat := 0xA0024
abbrev F.PGL_CNT_NO_PATH : Fld := ⟨0xA0024, 0, 32⟩
/-- PGL_CNT_REPLAN, spec/12_pergola_tracks.md R422. -/
abbrev R.PGL_CNT_REPLAN : Nat := 0xA0028
abbrev F.PGL_CNT_REPLAN : Fld := ⟨0xA0028, 0, 32⟩
/-- PGL_CNT_SUPERSEDED, spec/12_pergola_tracks.md R422. -/
abbrev R.PGL_CNT_SUPERSEDED : Nat := 0xA002C
abbrev F.PGL_CNT_SUPERSEDED : Fld := ⟨0xA002C, 0, 32⟩
/-- PGL_CNT_FROZEN, spec/12_pergola_tracks.md R422. -/
abbrev R.PGL_CNT_FROZEN : Nat := 0xA0030
abbrev F.PGL_CNT_FROZEN : Fld := ⟨0xA0030, 0, 32⟩
/-- PGL_CNT_TABLES, spec/12_pergola_tracks.md R422. -/
abbrev R.PGL_CNT_TABLES : Nat := 0xA0034
abbrev F.PGL_CNT_TABLES : Fld := ⟨0xA0034, 0, 32⟩
/-- PGL_MBR_SEL, spec/12_pergola_tracks.md R422. -/
abbrev R.PGL_MBR_SEL : Nat := 0xA0100
abbrev F.PGL_MBR_SEL_MEMBER : Fld := ⟨0xA0100, 0, 8⟩
/-- PGL_MBR_STAT, spec/12_pergola_tracks.md R422. -/
abbrev R.PGL_MBR_STAT : Nat := 0xA0104
abbrev F.PGL_MBR_STAT_STATE : Fld := ⟨0xA0104, 0, 3⟩
abbrev F.PGL_MBR_STAT_OFF_GRAPH : Fld := ⟨0xA0104, 3, 1⟩
abbrev F.PGL_MBR_STAT_TASK : Fld := ⟨0xA0104, 4, 1⟩
abbrev F.PGL_MBR_STAT_ACCEL_DEFERRED : Fld := ⟨0xA0104, 5, 1⟩
abbrev F.PGL_MBR_STAT_SEG_SENT : Fld := ⟨0xA0104, 8, 8⟩
abbrev F.PGL_MBR_STAT_SEG_CONF : Fld := ⟨0xA0104, 16, 8⟩
abbrev F.PGL_MBR_STAT_PRIORITY : Fld := ⟨0xA0104, 24, 4⟩
/-- PGL_MBR_POS_E, spec/12_pergola_tracks.md R422. -/
abbrev R.PGL_MBR_POS_E : Nat := 0xA0108
abbrev F.PGL_MBR_POS_E : Fld := ⟨0xA0108, 0, 32⟩
/-- PGL_MBR_POS_N, spec/12_pergola_tracks.md R422. -/
abbrev R.PGL_MBR_POS_N : Nat := 0xA010C
abbrev F.PGL_MBR_POS_N : Fld := ⟨0xA010C, 0, 32⟩
/-- PGL_MBR_EDGE, spec/12_pergola_tracks.md R422. -/
abbrev R.PGL_MBR_EDGE : Nat := 0xA0110
abbrev F.PGL_MBR_EDGE_EDGE : Fld := ⟨0xA0110, 0, 16⟩
abbrev F.PGL_MBR_EDGE_DEV : Fld := ⟨0xA0110, 16, 16⟩
/-- PGL_MBR_GOAL, spec/12_pergola_tracks.md R422. -/
abbrev R.PGL_MBR_GOAL : Nat := 0xA0114
abbrev F.PGL_MBR_GOAL_NODE : Fld := ⟨0xA0114, 0, 16⟩
abbrev F.PGL_MBR_GOAL_STOP : Fld := ⟨0xA0114, 16, 8⟩
/-- PGL_MBR_ARRIVE, spec/12_pergola_tracks.md R422. -/
abbrev R.PGL_MBR_ARRIVE : Nat := 0xA0118
abbrev F.PGL_MBR_ARRIVE : Fld := ⟨0xA0118, 0, 32⟩
/-- PGL_EDGE_SEL, spec/12_pergola_tracks.md R422. -/
abbrev R.PGL_EDGE_SEL : Nat := 0xA0200
abbrev F.PGL_EDGE_SEL_EDGE : Fld := ⟨0xA0200, 0, 16⟩
abbrev F.PGL_EDGE_SEL_WIN : Fld := ⟨0xA0200, 16, 5⟩
/-- PGL_EDGE_STAT, spec/12_pergola_tracks.md R422. -/
abbrev R.PGL_EDGE_STAT : Nat := 0xA0204
abbrev F.PGL_EDGE_STAT_NWIN : Fld := ⟨0xA0204, 0, 6⟩
abbrev F.PGL_EDGE_STAT_PRESENT : Fld := ⟨0xA0204, 6, 1⟩
/-- PGL_WIN_START, spec/12_pergola_tracks.md R422. -/
abbrev R.PGL_WIN_START : Nat := 0xA0208
abbrev F.PGL_WIN_START : Fld := ⟨0xA0208, 0, 32⟩
/-- PGL_WIN_END, spec/12_pergola_tracks.md R422. -/
abbrev R.PGL_WIN_END : Nat := 0xA020C
abbrev F.PGL_WIN_END : Fld := ⟨0xA020C, 0, 32⟩
/-- PGL_WIN_INFO, spec/12_pergola_tracks.md R422. -/
abbrev R.PGL_WIN_INFO : Nat := 0xA0210
abbrev F.PGL_WIN_INFO_MEMBER : Fld := ⟨0xA0210, 0, 8⟩
abbrev F.PGL_WIN_INFO_KIND : Fld := ⟨0xA0210, 8, 3⟩
abbrev F.PGL_WIN_INFO_OPEN : Fld := ⟨0xA0210, 11, 1⟩
/-- GZB_STAT, spec/13_gazebo_stop.md R447. -/
abbrev R.GZB_STAT : Nat := 0x20000
abbrev F.GZB_STAT_STATE : Fld := ⟨0x20000, 0, 2⟩
abbrev F.GZB_STAT_ARMED : Fld := ⟨0x20000, 2, 1⟩
abbrev F.GZB_STAT_CH_A_RUN : Fld := ⟨0x20000, 3, 1⟩
abbrev F.GZB_STAT_CH_B_RUN : Fld := ⟨0x20000, 4, 1⟩
abbrev F.GZB_STAT_LOOP_A_CLOSED : Fld := ⟨0x20000, 5, 1⟩
abbrev F.GZB_STAT_LOOP_B_CLOSED : Fld := ⟨0x20000, 6, 1⟩
abbrev F.GZB_STAT_LOCAL_OK : Fld := ⟨0x20000, 7, 1⟩
abbrev F.GZB_STAT_PULSE_A : Fld := ⟨0x20000, 8, 1⟩
abbrev F.GZB_STAT_PULSE_B : Fld := ⟨0x20000, 9, 1⟩
abbrev F.GZB_STAT_PROVEN_A : Fld := ⟨0x20000, 10, 1⟩
abbrev F.GZB_STAT_PROVEN_B : Fld := ⟨0x20000, 11, 1⟩
abbrev F.GZB_STAT_KEY_VALID : Fld := ⟨0x20000, 12, 1⟩
abbrev F.GZB_STAT_NEXT_VALID : Fld := ⟨0x20000, 13, 1⟩
abbrev F.GZB_STAT_WORD_READY : Fld := ⟨0x20000, 14, 1⟩
abbrev F.GZB_STAT_KEYING : Fld := ⟨0x20000, 15, 1⟩
abbrev F.GZB_STAT_STOP_CNT : Fld := ⟨0x20000, 16, 16⟩
/-- GZB_CAUSE, spec/13_gazebo_stop.md R447. -/
abbrev R.GZB_CAUSE : Nat := 0x20004
abbrev F.GZB_CAUSE_CAUSE : Fld := ⟨0x20004, 0, 11⟩
abbrev F.GZB_CAUSE_FIRST : Fld := ⟨0x20004, 16, 4⟩
/-- GZB_CAUSE_NOW, spec/13_gazebo_stop.md R447. -/
abbrev R.GZB_CAUSE_NOW : Nat := 0x20008
abbrev F.GZB_CAUSE_NOW_LEVEL : Fld := ⟨0x20008, 0, 3⟩
abbrev F.GZB_CAUSE_NOW_SUPPLY_LOW : Fld := ⟨0x20008, 3, 1⟩
abbrev F.GZB_CAUSE_NOW_TCXO_LOST : Fld := ⟨0x20008, 4, 1⟩
abbrev F.GZB_CAUSE_NOW_DOM_RESET : Fld := ⟨0x20008, 5, 1⟩
/-- GZB_FAULT, spec/13_gazebo_stop.md R447. -/
abbrev R.GZB_FAULT : Nat := 0x2000C
abbrev F.GZB_FAULT_TP_SHORT : Fld := ⟨0x2000C, 0, 2⟩
abbrev F.GZB_FAULT_IN_STUCK : Fld := ⟨0x2000C, 2, 2⟩
abbrev F.GZB_FAULT_CROSS : Fld := ⟨0x2000C, 4, 1⟩
abbrev F.GZB_FAULT_REVERSED : Fld := ⟨0x2000C, 5, 2⟩
abbrev F.GZB_FAULT_COMP_MISMATCH : Fld := ⟨0x2000C, 7, 2⟩
abbrev F.GZB_FAULT_DISCREPANCY : Fld := ⟨0x2000C, 9, 1⟩
abbrev F.GZB_FAULT_CH_MISMATCH : Fld := ⟨0x2000C, 10, 1⟩
abbrev F.GZB_FAULT_TX_FAULT : Fld := ⟨0x2000C, 11, 1⟩
abbrev F.GZB_FAULT_COIL_OPEN : Fld := ⟨0x2000C, 12, 2⟩
abbrev F.GZB_FAULT_COIL_SHORT : Fld := ⟨0x2000C, 14, 2⟩
/-- GZB_STOP, spec/13_gazebo_stop.md R447. -/
abbrev R.GZB_STOP : Nat := 0x20010
abbrev F.GZB_STOP_STOP : Fld := ⟨0x20010, 0, 1⟩
abbrev F.GZB_STOP_KEY : Fld := ⟨0x20010, 16, 16⟩
/-- GZB_CTRL, spec/13_gazebo_stop.md R447. -/
abbrev R.GZB_CTRL : Nat := 0x20014
abbrev F.GZB_CTRL_FAULT_IRQ : Fld := ⟨0x20014, 0, 1⟩
/-- GZB_EDGE_FRC_LO, spec/13_gazebo_stop.md R447. -/
abbrev R.GZB_EDGE_FRC_LO : Nat := 0x20018
abbrev F.GZB_EDGE_FRC_LO : Fld := ⟨0x20018, 0, 32⟩
/-- GZB_EDGE_FRC_HI, spec/13_gazebo_stop.md R447. -/
abbrev R.GZB_EDGE_FRC_HI : Nat := 0x2001C
abbrev F.GZB_EDGE_FRC_HI : Fld := ⟨0x2001C, 0, 32⟩
/-- GZB_CLEAR_STAT, spec/13_gazebo_stop.md R447. -/
abbrev R.GZB_CLEAR_STAT : Nat := 0x20020
abbrev F.GZB_CLEAR_STAT : Fld := ⟨0x20020, 0, 8⟩
/-- GZB_CLEAR_ASN_LO, spec/13_gazebo_stop.md R447. -/
abbrev R.GZB_CLEAR_ASN_LO : Nat := 0x20024
abbrev F.GZB_CLEAR_ASN_LO : Fld := ⟨0x20024, 0, 32⟩
/-- GZB_CLEAR_ASN_HI, spec/13_gazebo_stop.md R447. -/
abbrev R.GZB_CLEAR_ASN_HI : Nat := 0x20028
abbrev F.GZB_CLEAR_ASN_HI : Fld := ⟨0x20028, 0, 8⟩
/-- GZB_CLEAR_SEQ, spec/13_gazebo_stop.md R447. -/
abbrev R.GZB_CLEAR_SEQ : Nat := 0x2002C
abbrev F.GZB_CLEAR_SEQ : Fld := ⟨0x2002C, 0, 32⟩
/-- GZB_PULSE_CNT, spec/13_gazebo_stop.md R447. -/
abbrev R.GZB_PULSE_CNT : Nat := 0x20030
abbrev F.GZB_PULSE_CNT_A : Fld := ⟨0x20030, 0, 16⟩
abbrev F.GZB_PULSE_CNT_B : Fld := ⟨0x20030, 16, 16⟩
/-- GZB_LOOP_V, spec/13_gazebo_stop.md R447. -/
abbrev R.GZB_LOOP_V : Nat := 0x20034
abbrev F.GZB_LOOP_V_IN_A : Fld := ⟨0x20034, 0, 16⟩
abbrev F.GZB_LOOP_V_IN_B : Fld := ⟨0x20034, 16, 16⟩
/-- GZB_WORDS, spec/13_gazebo_stop.md R447. -/
abbrev R.GZB_WORDS : Nat := 0x20038
abbrev F.GZB_WORDS : Fld := ⟨0x20038, 0, 32⟩
/-- GZB_CFG, spec/13_gazebo_stop.md R447. -/
abbrev R.GZB_CFG : Nat := 0x2003C
abbrev F.GZB_CFG_REL1_USED : Fld := ⟨0x2003C, 0, 1⟩
abbrev F.GZB_CFG_REL2_USED : Fld := ⟨0x2003C, 1, 1⟩
abbrev F.GZB_CFG_RFB_EN : Fld := ⟨0x2003C, 2, 1⟩
abbrev F.GZB_CFG_REGION : Fld := ⟨0x2003C, 3, 1⟩
/-- WKT_STAT, spec/14_wicket_axes.md R468. -/
abbrev R.WKT_STAT : Nat := 0xB0000
abbrev F.WKT_STAT_ENABLED : Fld := ⟨0xB0000, 0, 4⟩
abbrev F.WKT_STAT_MOVING : Fld := ⟨0xB0000, 4, 4⟩
abbrev F.WKT_STAT_FAULTED : Fld := ⟨0xB0000, 8, 4⟩
abbrev F.WKT_STAT_FAULT_SEEN : Fld := ⟨0xB0000, 16, 4⟩
abbrev F.WKT_STAT_STALL_SEEN : Fld := ⟨0xB0000, 20, 4⟩
abbrev F.WKT_STAT_DEFER_SEEN : Fld := ⟨0xB0000, 24, 4⟩
/-- WKT_CTRL, spec/14_wicket_axes.md R468. -/
abbrev R.WKT_CTRL : Nat := 0xB0004
abbrev F.WKT_CTRL_IRQ_EN : Fld := ⟨0xB0004, 0, 1⟩
/-- WKT_AXn_STAT, spec/14_wicket_axes.md R468. -/
abbrev R.WKT_AXn_STAT (n : Nat) : Nat := 0xB0100 + 0x40 * n
abbrev F.WKT_AXn_STAT_STATE (n : Nat) : Fld := ⟨0xB0100 + 0x40 * n, 0, 3⟩
abbrev F.WKT_AXn_STAT_HOMED (n : Nat) : Fld := ⟨0xB0100 + 0x40 * n, 3, 1⟩
abbrev F.WKT_AXn_STAT_PENDING (n : Nat) : Fld := ⟨0xB0100 + 0x40 * n, 4, 1⟩
abbrev F.WKT_AXn_STAT_SHARED (n : Nat) : Fld := ⟨0xB0100 + 0x40 * n, 5, 1⟩
abbrev F.WKT_AXn_STAT_REDUCED (n : Nat) : Fld := ⟨0xB0100 + 0x40 * n, 6, 1⟩
abbrev F.WKT_AXn_STAT_ACCEL_DEFERRED (n : Nat) : Fld := ⟨0xB0100 + 0x40 * n, 7, 1⟩
abbrev F.WKT_AXn_STAT_VM_HIGH_NOW (n : Nat) : Fld := ⟨0xB0100 + 0x40 * n, 8, 1⟩
abbrev F.WKT_AXn_STAT_START_LATE (n : Nat) : Fld := ⟨0xB0100 + 0x40 * n, 16, 1⟩
abbrev F.WKT_AXn_STAT_WR_IGNORED (n : Nat) : Fld := ⟨0xB0100 + 0x40 * n, 17, 1⟩
abbrev F.WKT_AXn_STAT_TABLE_DONE (n : Nat) : Fld := ⟨0xB0100 + 0x40 * n, 18, 1⟩
/-- WKT_AXn_CTRL, spec/14_wicket_axes.md R468. -/
abbrev R.WKT_AXn_CTRL (n : Nat) : Nat := 0xB0104 + 0x40 * n
abbrev F.WKT_AXn_CTRL_ENABLE (n : Nat) : Fld := ⟨0xB0104 + 0x40 * n, 0, 1⟩
abbrev F.WKT_AXn_CTRL_DISABLE (n : Nat) : Fld := ⟨0xB0104 + 0x40 * n, 1, 1⟩
abbrev F.WKT_AXn_CTRL_ZERO (n : Nat) : Fld := ⟨0xB0104 + 0x40 * n, 2, 1⟩
/-- WKT_AXn_FAULT, spec/14_wicket_axes.md R468. -/
abbrev R.WKT_AXn_FAULT (n : Nat) : Nat := 0xB0108 + 0x40 * n
abbrev F.WKT_AXn_FAULT_OC_A (n : Nat) : Fld := ⟨0xB0108 + 0x40 * n, 0, 1⟩
abbrev F.WKT_AXn_FAULT_OC_B (n : Nat) : Fld := ⟨0xB0108 + 0x40 * n, 1, 1⟩
abbrev F.WKT_AXn_FAULT_GND_A (n : Nat) : Fld := ⟨0xB0108 + 0x40 * n, 2, 1⟩
abbrev F.WKT_AXn_FAULT_GND_B (n : Nat) : Fld := ⟨0xB0108 + 0x40 * n, 3, 1⟩
abbrev F.WKT_AXn_FAULT_VM_REVERSED (n : Nat) : Fld := ⟨0xB0108 + 0x40 * n, 4, 1⟩
abbrev F.WKT_AXn_FAULT_VM_LOW (n : Nat) : Fld := ⟨0xB0108 + 0x40 * n, 5, 1⟩
abbrev F.WKT_AXn_FAULT_VM_OVER (n : Nat) : Fld := ⟨0xB0108 + 0x40 * n, 6, 1⟩
abbrev F.WKT_AXn_FAULT_SELFCHECK (n : Nat) : Fld := ⟨0xB0108 + 0x40 * n, 7, 1⟩
abbrev F.WKT_AXn_FAULT_OPEN_A (n : Nat) : Fld := ⟨0xB0108 + 0x40 * n, 8, 1⟩
abbrev F.WKT_AXn_FAULT_OPEN_B (n : Nat) : Fld := ⟨0xB0108 + 0x40 * n, 9, 1⟩
abbrev F.WKT_AXn_FAULT_STALL (n : Nat) : Fld := ⟨0xB0108 + 0x40 * n, 10, 1⟩
abbrev F.WKT_AXn_FAULT_SC_SWITCH (n : Nat) : Fld := ⟨0xB0108 + 0x40 * n, 12, 3⟩
/-- WKT_AXn_POS, spec/14_wicket_axes.md R468. -/
abbrev R.WKT_AXn_POS (n : Nat) : Nat := 0xB010C + 0x40 * n
abbrev F.WKT_AXn_POS (n : Nat) : Fld := ⟨0xB010C + 0x40 * n, 0, 32⟩
/-- WKT_AXn_VEL, spec/14_wicket_axes.md R468. -/
abbrev R.WKT_AXn_VEL (n : Nat) : Nat := 0xB0110 + 0x40 * n
abbrev F.WKT_AXn_VEL (n : Nat) : Fld := ⟨0xB0110 + 0x40 * n, 0, 32⟩
/-- WKT_AXn_CUR, spec/14_wicket_axes.md R468. -/
abbrev R.WKT_AXn_CUR (n : Nat) : Nat := 0xB0114 + 0x40 * n
abbrev F.WKT_AXn_CUR_IA (n : Nat) : Fld := ⟨0xB0114 + 0x40 * n, 0, 16⟩
abbrev F.WKT_AXn_CUR_IB (n : Nat) : Fld := ⟨0xB0114 + 0x40 * n, 16, 16⟩
/-- WKT_AXn_VMAX, spec/14_wicket_axes.md R468. -/
abbrev R.WKT_AXn_VMAX (n : Nat) : Nat := 0xB0118 + 0x40 * n
abbrev F.WKT_AXn_VMAX (n : Nat) : Fld := ⟨0xB0118 + 0x40 * n, 0, 32⟩
/-- WKT_AXn_ACC, spec/14_wicket_axes.md R468. -/
abbrev R.WKT_AXn_ACC (n : Nat) : Nat := 0xB011C + 0x40 * n
abbrev F.WKT_AXn_ACC (n : Nat) : Fld := ⟨0xB011C + 0x40 * n, 0, 32⟩
/-- WKT_AXn_DEC, spec/14_wicket_axes.md R468. -/
abbrev R.WKT_AXn_DEC (n : Nat) : Nat := 0xB0120 + 0x40 * n
abbrev F.WKT_AXn_DEC (n : Nat) : Fld := ⟨0xB0120 + 0x40 * n, 0, 32⟩
/-- WKT_AXn_EDEC, spec/14_wicket_axes.md R468. -/
abbrev R.WKT_AXn_EDEC (n : Nat) : Nat := 0xB0124 + 0x40 * n
abbrev F.WKT_AXn_EDEC (n : Nat) : Fld := ⟨0xB0124 + 0x40 * n, 0, 32⟩
/-- WKT_AXn_JERK, spec/14_wicket_axes.md R468. -/
abbrev R.WKT_AXn_JERK (n : Nat) : Nat := 0xB0128 + 0x40 * n
abbrev F.WKT_AXn_JERK (n : Nat) : Fld := ⟨0xB0128 + 0x40 * n, 0, 32⟩
/-- WKT_AXn_IRUN, spec/14_wicket_axes.md R468. -/
abbrev R.WKT_AXn_IRUN (n : Nat) : Nat := 0xB012C + 0x40 * n
abbrev F.WKT_AXn_IRUN_IRUN (n : Nat) : Fld := ⟨0xB012C + 0x40 * n, 0, 16⟩
abbrev F.WKT_AXn_IRUN_IHOLD (n : Nat) : Fld := ⟨0xB012C + 0x40 * n, 16, 16⟩
/-- WKT_AXn_LOAD, spec/14_wicket_axes.md R468. -/
abbrev R.WKT_AXn_LOAD (n : Nat) : Nat := 0xB0130 + 0x40 * n
abbrev F.WKT_AXn_LOAD_PHI (n : Nat) : Fld := ⟨0xB0130 + 0x40 * n, 0, 8⟩
abbrev F.WKT_AXn_LOAD_PEAK (n : Nat) : Fld := ⟨0xB0130 + 0x40 * n, 8, 8⟩
abbrev F.WKT_AXn_LOAD_EMF (n : Nat) : Fld := ⟨0xB0130 + 0x40 * n, 16, 16⟩
/-- WKT_AXn_CHOP, spec/14_wicket_axes.md R468. -/
abbrev R.WKT_AXn_CHOP (n : Nat) : Nat := 0xB0134 + 0x40 * n
abbrev F.WKT_AXn_CHOP_OFS_A (n : Nat) : Fld := ⟨0xB0134 + 0x40 * n, 0, 16⟩
abbrev F.WKT_AXn_CHOP_OFS_B (n : Nat) : Fld := ⟨0xB0134 + 0x40 * n, 16, 16⟩
/-- WKT_AXn_VM, spec/14_wicket_axes.md R468. -/
abbrev R.WKT_AXn_VM (n : Nat) : Nat := 0xB0138 + 0x40 * n
abbrev F.WKT_AXn_VM_VM (n : Nat) : Fld := ⟨0xB0138 + 0x40 * n, 0, 16⟩
/-- WKT_AXn_CNT, spec/14_wicket_axes.md R468. -/
abbrev R.WKT_AXn_CNT (n : Nat) : Nat := 0xB013C + 0x40 * n
abbrev F.WKT_AXn_CNT_STALLS (n : Nat) : Fld := ⟨0xB013C + 0x40 * n, 0, 16⟩
abbrev F.WKT_AXn_CNT_TON_LIMIT (n : Nat) : Fld := ⟨0xB013C + 0x40 * n, 16, 16⟩
/-- ORG_STAT, spec/15_orangery_keys.md R494. -/
abbrev R.ORG_STAT : Nat := 0xC0000
abbrev F.ORG_STAT_STORE_OPEN : Fld := ⟨0xC0000, 0, 1⟩
abbrev F.ORG_STAT_ENROLLED : Fld := ⟨0xC0000, 1, 1⟩
abbrev F.ORG_STAT_UPDATE_BUSY : Fld := ⟨0xC0000, 2, 1⟩
abbrev F.ORG_STAT_TAMPER_ACTIVE : Fld := ⟨0xC0000, 3, 1⟩
abbrev F.ORG_STAT_KEYS_WITHHELD : Fld := ⟨0xC0000, 4, 1⟩
abbrev F.ORG_STAT_SLOTS_USED : Fld := ⟨0xC0000, 8, 6⟩
abbrev F.ORG_STAT_UPDATE_DONE : Fld := ⟨0xC0000, 16, 1⟩
abbrev F.ORG_STAT_UPDATE_REFUSED : Fld := ⟨0xC0000, 17, 1⟩
abbrev F.ORG_STAT_TAMPER_SEEN : Fld := ⟨0xC0000, 18, 1⟩
abbrev F.ORG_STAT_ORPHANED : Fld := ⟨0xC0000, 19, 1⟩
abbrev F.ORG_STAT_ROLLED : Fld := ⟨0xC0000, 20, 1⟩
/-- ORG_CTRL, spec/15_orangery_keys.md R494. -/
abbrev R.ORG_CTRL : Nat := 0xC0004
abbrev F.ORG_CTRL_IRQ_EN : Fld := ⟨0xC0004, 0, 1⟩
/-- ORG_COUNTER, spec/15_orangery_keys.md R494. -/
abbrev R.ORG_COUNTER : Nat := 0xC0008
abbrev F.ORG_COUNTER : Fld := ⟨0xC0008, 0, 32⟩
/-- ORG_WIPE, spec/15_orangery_keys.md R494. -/
abbrev R.ORG_WIPE : Nat := 0xC000C
abbrev F.ORG_WIPE_EPOCH : Fld := ⟨0xC000C, 0, 7⟩
/-- ORG_TAMPER, spec/15_orangery_keys.md R494. -/
abbrev R.ORG_TAMPER : Nat := 0xC0010
abbrev F.ORG_TAMPER_NOW : Fld := ⟨0xC0010, 0, 6⟩
abbrev F.ORG_TAMPER_SEEN : Fld := ⟨0xC0010, 8, 6⟩
abbrev F.ORG_TAMPER_STATE_AT : Fld := ⟨0xC0010, 16, 3⟩
abbrev F.ORG_TAMPER_FIRST : Fld := ⟨0xC0010, 20, 3⟩
/-- ORG_TAMPER_FRC_LO, spec/15_orangery_keys.md R494. -/
abbrev R.ORG_TAMPER_FRC_LO : Nat := 0xC0014
abbrev F.ORG_TAMPER_FRC_LO : Fld := ⟨0xC0014, 0, 32⟩
/-- ORG_TAMPER_FRC_HI, spec/15_orangery_keys.md R494. -/
abbrev R.ORG_TAMPER_FRC_HI : Nat := 0xC0018
abbrev F.ORG_TAMPER_FRC_HI : Fld := ⟨0xC0018, 0, 32⟩
/-- ORG_REFUSE, spec/15_orangery_keys.md R494. -/
abbrev R.ORG_REFUSE : Nat := 0xC001C
abbrev F.ORG_REFUSE_STATUS : Fld := ⟨0xC001C, 0, 8⟩
abbrev F.ORG_REFUSE_INDEX : Fld := ⟨0xC001C, 8, 3⟩
/-- ORG_UIDk, spec/15_orangery_keys.md R494. -/
abbrev R.ORG_UIDk (k : Nat) : Nat := 0xC0020 + 0x4 * k
abbrev F.ORG_UIDk (k : Nat) : Fld := ⟨0xC0020 + 0x4 * k, 0, 32⟩
/-- ORG_SLOT_SEL, spec/15_orangery_keys.md R494. -/
abbrev R.ORG_SLOT_SEL : Nat := 0xC0100
abbrev F.ORG_SLOT_SEL_SLOT : Fld := ⟨0xC0100, 0, 6⟩
/-- ORG_SLOT_ATTR, spec/15_orangery_keys.md R494. -/
abbrev R.ORG_SLOT_ATTR : Nat := 0xC0104
abbrev F.ORG_SLOT_ATTR_CLASS : Fld := ⟨0xC0104, 0, 4⟩
abbrev F.ORG_SLOT_ATTR_VALID : Fld := ⟨0xC0104, 4, 1⟩
abbrev F.ORG_SLOT_ATTR_PERSIST : Fld := ⟨0xC0104, 5, 1⟩
abbrev F.ORG_SLOT_ATTR_EXPIRE_AT_RESET : Fld := ⟨0xC0104, 6, 1⟩
abbrev F.ORG_SLOT_ATTR_TAMPER_WIPE : Fld := ⟨0xC0104, 7, 1⟩
abbrev F.ORG_SLOT_ATTR_EXPORTABLE : Fld := ⟨0xC0104, 8, 1⟩
abbrev F.ORG_SLOT_ATTR_USE_LIMITED : Fld := ⟨0xC0104, 9, 1⟩
abbrev F.ORG_SLOT_ATTR_EXHAUSTED : Fld := ⟨0xC0104, 10, 1⟩
abbrev F.ORG_SLOT_ATTR_SEALED : Fld := ⟨0xC0104, 11, 1⟩
/-- ORG_SLOT_KEY_ID, spec/15_orangery_keys.md R494. -/
abbrev R.ORG_SLOT_KEY_ID : Nat := 0xC0108
abbrev F.ORG_SLOT_KEY_ID : Fld := ⟨0xC0108, 0, 32⟩
/-- ORG_SLOT_USES, spec/15_orangery_keys.md R494. -/
abbrev R.ORG_SLOT_USES : Nat := 0xC010C
abbrev F.ORG_SLOT_USES : Fld := ⟨0xC010C, 0, 32⟩
/-- ORG_NODE_SEL, spec/15_orangery_keys.md R494. -/
abbrev R.ORG_NODE_SEL : Nat := 0xC0200
abbrev F.ORG_NODE_SEL_NODE : Fld := ⟨0xC0200, 0, 5⟩
/-- ORG_NODE_STAT, spec/15_orangery_keys.md R494. -/
abbrev R.ORG_NODE_STAT : Nat := 0xC0204
abbrev F.ORG_NODE_STAT_STATE : Fld := ⟨0xC0204, 0, 2⟩
abbrev F.ORG_NODE_STAT_PARENT : Fld := ⟨0xC0204, 8, 5⟩
abbrev F.ORG_NODE_STAT_LABEL_LEN : Fld := ⟨0xC0204, 16, 5⟩
/-- SVC_STAT, spec/16_field_update.md R519. -/
abbrev R.SVC_STAT : Nat := 0xF0000
abbrev F.SVC_STAT_PRESENT : Fld := ⟨0xF0000, 0, 1⟩
abbrev F.SVC_STAT_RX_INV : Fld := ⟨0xF0000, 1, 1⟩
abbrev F.SVC_STAT_RATE : Fld := ⟨0xF0000, 2, 3⟩
abbrev F.SVC_STAT_PRESENT_SEEN : Fld := ⟨0xF0000, 16, 1⟩
abbrev F.SVC_STAT_CRC_SEEN : Fld := ⟨0xF0000, 17, 1⟩
/-- SVC_CNT, spec/16_field_update.md R519. -/
abbrev R.SVC_CNT : Nat := 0xF0004
abbrev F.SVC_CNT_RX_OK : Fld := ⟨0xF0004, 0, 16⟩
abbrev F.SVC_CNT_RX_BAD : Fld := ⟨0xF0004, 16, 16⟩
/-- UPD_STAT, spec/16_field_update.md R519. -/
abbrev R.UPD_STAT : Nat := 0xF0100
abbrev F.UPD_STAT_SESSION : Fld := ⟨0xF0100, 0, 3⟩
abbrev F.UPD_STAT_LOCK : Fld := ⟨0xF0100, 3, 2⟩
abbrev F.UPD_STAT_STATE : Fld := ⟨0xF0100, 8, 2⟩
abbrev F.UPD_STAT_TRIAL_BOOTS : Fld := ⟨0xF0100, 10, 2⟩
abbrev F.UPD_STAT_FW_ACTIVE : Fld := ⟨0xF0100, 12, 1⟩
abbrev F.UPD_STAT_PLAN_ACTIVE : Fld := ⟨0xF0100, 13, 1⟩
abbrev F.UPD_STAT_SVN_PENDING : Fld := ⟨0xF0100, 14, 1⟩
abbrev F.UPD_STAT_SESSION_END : Fld := ⟨0xF0100, 16, 1⟩
abbrev F.UPD_STAT_ROLLBACK_SEEN : Fld := ⟨0xF0100, 17, 1⟩
abbrev F.UPD_STAT_FALLBACK_SEEN : Fld := ⟨0xF0100, 18, 1⟩
/-- UPD_CTRL, spec/16_field_update.md R519. -/
abbrev R.UPD_CTRL : Nat := 0xF0104
abbrev F.UPD_CTRL_CONFIRM : Fld := ⟨0xF0104, 0, 1⟩
abbrev F.UPD_CTRL_ABORT : Fld := ⟨0xF0104, 1, 1⟩
abbrev F.UPD_CTRL_IRQ_EN : Fld := ⟨0xF0104, 2, 1⟩
abbrev F.UPD_CTRL_KEY : Fld := ⟨0xF0104, 16, 16⟩
/-- UPD_ERR, spec/16_field_update.md R519. -/
abbrev R.UPD_ERR : Nat := 0xF0108
abbrev F.UPD_ERR_ERROR : Fld := ⟨0xF0108, 0, 8⟩
abbrev F.UPD_ERR_PART : Fld := ⟨0xF0108, 8, 3⟩
abbrev F.UPD_ERR_RB_CAUSE : Fld := ⟨0xF0108, 16, 2⟩
/-- UPD_SVN, spec/16_field_update.md R519. -/
abbrev R.UPD_SVN : Nat := 0xF010C
abbrev F.UPD_SVN_FLOOR : Fld := ⟨0xF010C, 0, 6⟩
abbrev F.UPD_SVN_RUNNING : Fld := ⟨0xF010C, 16, 6⟩
/-- UPD_REL_A, spec/16_field_update.md R519. -/
abbrev R.UPD_REL_A : Nat := 0xF0110
abbrev F.UPD_REL_A : Fld := ⟨0xF0110, 0, 32⟩
/-- UPD_REL_B, spec/16_field_update.md R519. -/
abbrev R.UPD_REL_B : Nat := 0xF0114
abbrev F.UPD_REL_B : Fld := ⟨0xF0114, 0, 32⟩
/-- UPD_FALLBACKS, spec/16_field_update.md R519. -/
abbrev R.UPD_FALLBACKS : Nat := 0xF0118
abbrev F.UPD_FALLBACKS : Fld := ⟨0xF0118, 0, 16⟩
/-- UPD_RX_BYTES, spec/16_field_update.md R519. -/
abbrev R.UPD_RX_BYTES : Nat := 0xF011C
abbrev F.UPD_RX_BYTES : Fld := ⟨0xF011C, 0, 32⟩
/-- UPD_BUF, spec/16_field_update.md R519. -/
abbrev R.UPD_BUF (k : Nat) : Nat := 0xF1000 + 0x4 * k
abbrev F.UPD_BUF (k : Nat) : Fld := ⟨0xF1000 + 0x4 * k, 0, 32⟩
/-- VB_STAT, spec/17_records_and_test.md R535. -/
abbrev R.VB_STAT : Nat := 0xD0000
abbrev F.VB_STAT_FROZEN : Fld := ⟨0xD0000, 0, 1⟩
abbrev F.VB_STAT_WRITING : Fld := ⟨0xD0000, 1, 1⟩
abbrev F.VB_STAT_QUEUED : Fld := ⟨0xD0000, 2, 14⟩
abbrev F.VB_STAT_DROP_SEEN : Fld := ⟨0xD0000, 16, 1⟩
abbrev F.VB_STAT_OVERWRITE_SEEN : Fld := ⟨0xD0000, 17, 1⟩
abbrev F.VB_STAT_SUPPRESS_SEEN : Fld := ⟨0xD0000, 18, 1⟩
abbrev F.VB_STAT_MERGED_SEEN : Fld := ⟨0xD0000, 19, 1⟩
/-- VB_CTRL, spec/17_records_and_test.md R535. -/
abbrev R.VB_CTRL : Nat := 0xD0004
abbrev F.VB_CTRL_IRQ_EN : Fld := ⟨0xD0004, 0, 1⟩
abbrev F.VB_CTRL_SNAP : Fld := ⟨0xD0004, 1, 1⟩
/-- VB_SEQ, spec/17_records_and_test.md R535. -/
abbrev R.VB_SEQ : Nat := 0xD0008
abbrev F.VB_SEQ : Fld := ⟨0xD0008, 0, 32⟩
/-- VB_OLDEST, spec/17_records_and_test.md R535. -/
abbrev R.VB_OLDEST : Nat := 0xD000C
abbrev F.VB_OLDEST : Fld := ⟨0xD000C, 0, 32⟩
/-- VB_WR_PTR, spec/17_records_and_test.md R535. -/
abbrev R.VB_WR_PTR : Nat := 0xD0010
abbrev F.VB_WR_PTR : Fld := ⟨0xD0010, 0, 23⟩
/-- VB_BOOT, spec/17_records_and_test.md R535. -/
abbrev R.VB_BOOT : Nat := 0xD0014
abbrev F.VB_BOOT : Fld := ⟨0xD0014, 0, 16⟩
/-- VB_FREEZE_BASE, spec/17_records_and_test.md R535. -/
abbrev R.VB_FREEZE_BASE : Nat := 0xD0018
abbrev F.VB_FREEZE_BASE : Fld := ⟨0xD0018, 0, 32⟩
/-- VB_CNT_DROP, spec/17_records_and_test.md R535. -/
abbrev R.VB_CNT_DROP : Nat := 0xD0020
abbrev F.VB_CNT_DROP : Fld := ⟨0xD0020, 0, 32⟩
/-- VB_CNT_OVERWRITE, spec/17_records_and_test.md R535. -/
abbrev R.VB_CNT_OVERWRITE : Nat := 0xD0024
abbrev F.VB_CNT_OVERWRITE : Fld := ⟨0xD0024, 0, 32⟩
/-- VB_CNT_SUPPRESS, spec/17_records_and_test.md R535. -/
abbrev R.VB_CNT_SUPPRESS : Nat := 0xD0028
abbrev F.VB_CNT_SUPPRESS : Fld := ⟨0xD0028, 0, 32⟩
/-- VB_SNAP0_FRC_LO, spec/17_records_and_test.md R535. -/
abbrev R.VB_SNAP0_FRC_LO : Nat := 0xD0040
abbrev F.VB_SNAP0_FRC_LO : Fld := ⟨0xD0040, 0, 32⟩
/-- VB_SNAP0_FRC_HI, spec/17_records_and_test.md R535. -/
abbrev R.VB_SNAP0_FRC_HI : Nat := 0xD0044
abbrev F.VB_SNAP0_FRC_HI : Fld := ⟨0xD0044, 0, 32⟩
/-- VB_SNAP1_FRC_LO, spec/17_records_and_test.md R535. -/
abbrev R.VB_SNAP1_FRC_LO : Nat := 0xD0048
abbrev F.VB_SNAP1_FRC_LO : Fld := ⟨0xD0048, 0, 32⟩
/-- VB_SNAP1_FRC_HI, spec/17_records_and_test.md R535. -/
abbrev R.VB_SNAP1_FRC_HI : Nat := 0xD004C
abbrev F.VB_SNAP1_FRC_HI : Fld := ⟨0xD004C, 0, 32⟩
/-- VB_SNAP_STAT, spec/17_records_and_test.md R535. -/
abbrev R.VB_SNAP_STAT : Nat := 0xD0050
abbrev F.VB_SNAP_STAT_LAST_SEQ : Fld := ⟨0xD0050, 0, 16⟩
abbrev F.VB_SNAP_STAT_BUSY0 : Fld := ⟨0xD0050, 16, 1⟩
abbrev F.VB_SNAP_STAT_BUSY1 : Fld := ⟨0xD0050, 17, 1⟩
abbrev F.VB_SNAP_STAT_MERGED : Fld := ⟨0xD0050, 24, 8⟩
/-- VB_CODE_SEL, spec/17_records_and_test.md R535. -/
abbrev R.VB_CODE_SEL : Nat := 0xD0100
abbrev F.VB_CODE_SEL : Fld := ⟨0xD0100, 0, 8⟩
/-- VB_CODE_STAT, spec/17_records_and_test.md R535. -/
abbrev R.VB_CODE_STAT : Nat := 0xD0104
abbrev F.VB_CODE_STAT_TOKENS : Fld := ⟨0xD0104, 0, 8⟩
abbrev F.VB_CODE_STAT_ENABLE : Fld := ⟨0xD0104, 8, 1⟩
abbrev F.VB_CODE_STAT_SUPPRESSED : Fld := ⟨0xD0104, 16, 16⟩
/-- LODGE_PS_STAT, spec/17_records_and_test.md R540. -/
abbrev R.LODGE_PS_STAT : Nat := 0x10090
abbrev F.LODGE_PS_STAT_BANK : Fld := ⟨0x10090, 0, 1⟩
abbrev F.LODGE_PS_STAT_WRITING : Fld := ⟨0x10090, 1, 1⟩
abbrev F.LODGE_PS_STAT_PENDING : Fld := ⟨0x10090, 2, 6⟩
abbrev F.LODGE_PS_STAT_PS_FAIL : Fld := ⟨0x10090, 8, 1⟩
/-- LODGE_PS_SEQ, spec/17_records_and_test.md R540. -/
abbrev R.LODGE_PS_SEQ : Nat := 0x10094
abbrev F.LODGE_PS_SEQ_SEQ : Fld := ⟨0x10094, 0, 32⟩
/-- TEST_STAT, spec/17_records_and_test.md R544. -/
abbrev R.TEST_STAT : Nat := 0x100000
abbrev F.TEST_STAT_MODE : Fld := ⟨0x100000, 0, 1⟩
abbrev F.TEST_STAT_RUNNING : Fld := ⟨0x100000, 1, 1⟩
abbrev F.TEST_STAT_SYNC : Fld := ⟨0x100000, 2, 1⟩
abbrev F.TEST_STAT_LINK : Fld := ⟨0x100000, 8, 8⟩
abbrev F.TEST_STAT_DONE_SEEN : Fld := ⟨0x100000, 16, 1⟩
abbrev F.TEST_STAT_ERR_SEEN : Fld := ⟨0x100000, 17, 1⟩
/-- LODGE_TEMP, spec/18_electrical_mechanical.md R560. -/
abbrev R.LODGE_TEMP : Nat := 0x100A0
abbrev F.LODGE_TEMP_DIE : Fld := ⟨0x100A0, 0, 16⟩
abbrev F.LODGE_TEMP_HOT : Fld := ⟨0x100A0, 16, 1⟩
abbrev F.LODGE_TEMP_HOT_SEEN : Fld := ⟨0x100A0, 17, 1⟩
abbrev F.LODGE_TEMP_OVER_SEEN : Fld := ⟨0x100A0, 18, 1⟩
abbrev F.LODGE_TEMP_IRQ_EN : Fld := ⟨0x100A0, 24, 1⟩
/-- SDL_CMP_NS, spec/07_sundial_time.md R248. -/
abbrev R.SDL_CMP_NS (i : Nat) : Nat := 0x51000 + 0x20 * i
abbrev F.SDL_CMP_NS (i : Nat) : Fld := ⟨0x51000 + 0x20 * i, 0, 32⟩
/-- SDL_CMP_SEC_LO, spec/07_sundial_time.md R248. -/
abbrev R.SDL_CMP_SEC_LO (i : Nat) : Nat := 0x51004 + 0x20 * i
abbrev F.SDL_CMP_SEC_LO (i : Nat) : Fld := ⟨0x51004 + 0x20 * i, 0, 32⟩
/-- SDL_CMP_SEC_HI, spec/07_sundial_time.md R248. -/
abbrev R.SDL_CMP_SEC_HI (i : Nat) : Nat := 0x51008 + 0x20 * i
abbrev F.SDL_CMP_SEC_HI (i : Nat) : Fld := ⟨0x51008 + 0x20 * i, 0, 16⟩
/-- SDL_CMP_PERIOD, spec/07_sundial_time.md R248. -/
abbrev R.SDL_CMP_PERIOD (i : Nat) : Nat := 0x5100C + 0x20 * i
abbrev F.SDL_CMP_PERIOD (i : Nat) : Fld := ⟨0x5100C + 0x20 * i, 0, 32⟩
/-- SDL_CONV_GO, spec/07_sundial_time.md R248. -/
abbrev R.SDL_CONV_GO : Nat := 0x50200
abbrev F.SDL_CONV_GO_GO : Fld := ⟨0x50200, 0, 1⟩
/-- SDL_CONVj, spec/07_sundial_time.md R248. -/
abbrev R.SDL_CONVj (j : Nat) : Nat := 0x50204 + 0x4 * j
abbrev F.SDL_CONVj (j : Nat) : Fld := ⟨0x50204 + 0x4 * j, 0, 32⟩
/-- MBX_DATAk, spec/05_host_port_mailboxes.md R175. -/
abbrev R.MBX_DATAk (c k : Nat) : Nat := 0x30000 + 0x80 * c + 0x4 * k
abbrev F.MBX_DATAk (c k : Nat) : Fld := ⟨0x30000 + 0x80 * c + 0x4 * k, 0, 32⟩
/-- ORG_NODE_LABELk, spec/15_orangery_keys.md R494. -/
abbrev R.ORG_NODE_LABELk (k : Nat) : Nat := 0xC0208 + 0x4 * k
abbrev F.ORG_NODE_LABELk (k : Nat) : Fld := ⟨0xC0208 + 0x4 * k, 0, 32⟩
/-- TEST_ERRORS, spec/17_records_and_test.md R544. -/
abbrev R.TEST_ERRORS : Nat := 0x100004
abbrev F.TEST_ERRORS : Fld := ⟨0x100004, 0, 32⟩
/-- TEST_BITS_LO, spec/17_records_and_test.md R544. -/
abbrev R.TEST_BITS_LO : Nat := 0x100008
abbrev F.TEST_BITS_LO : Fld := ⟨0x100008, 0, 32⟩
/-- TEST_BITS_HI, spec/17_records_and_test.md R544. -/
abbrev R.TEST_BITS_HI : Nat := 0x10000C
abbrev F.TEST_BITS_HI : Fld := ⟨0x10000C, 0, 32⟩

/-- One row of the register map: `count` copies at `base + stride * i` (a second index `count2`, `stride2`), the
masks of the bits with access codes RW, W1C and RC, and whether writes through CS_NS are ignored. -/
structure RegRow where
  base : Nat
  stride : Nat
  count : Nat
  stride2 : Nat
  count2 : Nat
  rw : Nat
  w1c : Nat
  rc : Nat
  nsRo : Bool
  banked : Bool
deriving DecidableEq, Repr

def regRows_sys0 : List RegRow := [
  ⟨0x0, 0x0, 1, 0x0, 1, 0x0, 0x0, 0x0, false, false⟩, /- SYS_ID -/
  ⟨0x4, 0x0, 1, 0x0, 1, 0x0, 0x0, 0x0, false, false⟩, /- SYS_UNITS -/
  ⟨0x100, 0x0, 1, 0x0, 1, 0x0, 0x0, 0x0, false, false⟩, /- SYS_BOOT_STAT -/
  ⟨0x104, 0x0, 1, 0x0, 1, 0x0, 0x0, 0x0, false, false⟩, /- SYS_PLAN_STAT -/
  ⟨0x108, 0x0, 1, 0x0, 1, 0x0, 0x0, 0x0, false, false⟩, /- SYS_PLAN_ID -/
  ⟨0x10C, 0x0, 1, 0x0, 1, 0x0, 0x0, 0x0, false, false⟩, /- SYS_PLAN_VER -/
  ⟨0x110, 0x0, 1, 0x0, 1, 0x0, 0x0, 0x0, false, false⟩, /- SYS_PLAN_SKIP_LO -/
  ⟨0x114, 0x0, 1, 0x0, 1, 0x0, 0x0, 0x0, false, false⟩, /- SYS_PLAN_SKIP_HI -/
  ⟨0x120, 0x0, 1, 0x0, 1, 0x0, 0x0, 0x0, false, false⟩, /- SYS_SWAP_CTRL -/
  ⟨0x124, 0x0, 1, 0x0, 1, 0x0, 0x10000, 0x0, false, false⟩, /- SYS_SWAP_STAT -/
  ⟨0x128, 0x0, 1, 0x0, 1, 0x0, 0x0, 0x0, false, false⟩, /- SYS_SWAP_ASN_LO -/
  ⟨0x12C, 0x0, 1, 0x0, 1, 0x0, 0x0, 0x0, false, false⟩, /- SYS_SWAP_ASN_HI -/
  ⟨0x130, 0x0, 1, 0x0, 1, 0x0, 0x0, 0x0, false, false⟩, /- SYS_SWAP_SEQ -/
  ⟨0x140, 0x4, 12, 0x0, 1, 0x0, 0x0, 0x0, false, false⟩, /- SYS_BOOT_MEASk -/
  ⟨0x200, 0x0, 1, 0x0, 1, 0x0, 0x2EB, 0x0, false, false⟩, /- SYS_IRQ_S_STAT -/
  ⟨0x208, 0x0, 1, 0x0, 1, 0x0, 0xEB, 0x0, false, false⟩, /- SYS_IRQ_NS_STAT -/
  ⟨0x204, 0x0, 1, 0x0, 1, 0x3FE, 0x0, 0x0, false, false⟩, /- SYS_IRQ_S_EN -/
  ⟨0x20C, 0x0, 1, 0x0, 1, 0x1FE, 0x0, 0x0, false, false⟩, /- SYS_IRQ_NS_EN -/
  ⟨0x210, 0x0, 1, 0x0, 1, 0x0, 0x0, 0x0, false, false⟩, /- SYS_MAC0_LO -/
  ⟨0x214, 0x0, 1, 0x0, 1, 0x0, 0x0, 0x0, false, false⟩, /- SYS_MAC0_HI -/
  ⟨0x218, 0x0, 1, 0x0, 1, 0x0, 0x0, 0x0, false, false⟩, /- SYS_MAC1_LO -/
  ⟨0x21C, 0x0, 1, 0x0, 1, 0x0, 0x0, 0x0, false, false⟩ /- SYS_MAC1_HI -/]

def regRows_sys : List RegRow := regRows_sys0

def regRows_lodge0 : List RegRow := [
  ⟨0x10000, 0x0, 1, 0x0, 1, 0x0, 0x0, 0xF00, false, false⟩, /- LODGE_PWR_STATE -/
  ⟨0x10004, 0x0, 1, 0x0, 1, 0x0, 0x0, 0x0, true, false⟩, /- LODGE_PWR_REQ -/
  ⟨0x10010, 0x0, 1, 0x0, 1, 0x0, 0x0, 0x0, false, false⟩, /- LODGE_DOM_ON -/
  ⟨0x10014, 0x0, 1, 0x0, 1, 0x0, 0x0, 0x0, false, false⟩, /- LODGE_DOM_OFF -/
  ⟨0x10018, 0x0, 1, 0x0, 1, 0x0, 0x0, 0x0, false, false⟩, /- LODGE_DOM_STAT0 -/
  ⟨0x1001C, 0x0, 1, 0x0, 1, 0x0, 0x0, 0x0, false, false⟩, /- LODGE_DOM_STAT1 -/
  ⟨0x10020, 0x0, 1, 0x0, 1, 0x0, 0x3FFC3FFC, 0x0, false, false⟩, /- LODGE_DOM_FLAGS -/
  ⟨0x10030, 0x0, 1, 0x0, 1, 0x7F, 0x0, 0x0, false, false⟩, /- LODGE_WAKE_EN -/
  ⟨0x10034, 0x0, 1, 0x0, 1, 0x0, 0x301FF, 0x0, false, false⟩, /- LODGE_WAKE_CAUSE -/
  ⟨0x10038, 0x0, 1, 0x0, 1, 0xFFFFFFFF, 0x0, 0x0, false, false⟩, /- LODGE_WAKE_FRC_LO -/
  ⟨0x1003C, 0x0, 1, 0x0, 1, 0xFFFFFFFF, 0x0, 0x0, false, false⟩, /- LODGE_WAKE_FRC_HI -/
  ⟨0x10050, 0x0, 1, 0x0, 1, 0x0, 0x1F00, 0x0, false, false⟩, /- LODGE_CLK_STAT -/
  ⟨0x10060, 0x0, 1, 0x0, 1, 0x0, 0x0, 0x0, false, false⟩, /- LODGE_FRC_LO -/
  ⟨0x10064, 0x0, 1, 0x0, 1, 0x0, 0x0, 0x0, false, false⟩, /- LODGE_FRC_HI -/
  ⟨0x10040, 0x0, 1, 0x0, 1, 0x0, 0x3FFC00FF, 0x0, false, false⟩, /- LODGE_RST_CAUSE -/
  ⟨0x10044, 0x0, 1, 0x0, 1, 0x0, 0x0, 0x0, true, false⟩, /- LODGE_RST_REQ -/
  ⟨0x10070, 0x0, 1, 0x0, 1, 0x3F, 0x0, 0x0, false, false⟩, /- LODGE_XING_SEL -/
  ⟨0x10074, 0x0, 1, 0x0, 1, 0x0, 0x200, 0xFF, false, false⟩, /- LODGE_XING_STAT -/
  ⟨0x10080, 0x0, 1, 0x0, 1, 0x3, 0x0, 0x0, true, false⟩, /- LODGE_WUR_CTRL -/
  ⟨0x10084, 0x0, 1, 0x0, 1, 0x0, 0x100, 0xFF0000, false, false⟩, /- LODGE_WUR_STAT -/
  ⟨0x10090, 0x0, 1, 0x0, 1, 0x0, 0x100, 0x0, false, false⟩, /- LODGE_PS_STAT -/
  ⟨0x10094, 0x0, 1, 0x0, 1, 0x0, 0x0, 0x0, false, false⟩, /- LODGE_PS_SEQ -/
  ⟨0x100A0, 0x0, 1, 0x0, 1, 0x1000000, 0x60000, 0x0, false, false⟩ /- LODGE_TEMP -/]

def regRows_lodge : List RegRow := regRows_lodge0

def regRows_gzb0 : List RegRow := [
  ⟨0x20000, 0x0, 1, 0x0, 1, 0x0, 0x0, 0x0, false, false⟩, /- GZB_STAT -/
  ⟨0x20004, 0x0, 1, 0x0, 1, 0x0, 0x0, 0x0, false, false⟩, /- GZB_CAUSE -/
  ⟨0x20008, 0x0, 1, 0x0, 1, 0x0, 0x0, 0x0, false, false⟩, /- GZB_CAUSE_NOW -/
  ⟨0x2000C, 0x0, 1, 0x0, 1, 0x0, 0xFFFF, 0x0, false, false⟩, /- GZB_FAULT -/
  ⟨0x20010, 0x0, 1, 0x0, 1, 0x0, 0x0, 0x0, false, false⟩, /- GZB_STOP -/
  ⟨0x20014, 0x0, 1, 0x0, 1, 0x1, 0x0, 0x0, false, false⟩, /- GZB_CTRL -/
  ⟨0x20018, 0x0, 1, 0x0, 1, 0x0, 0x0, 0x0, false, false⟩, /- GZB_EDGE_FRC_LO -/
  ⟨0x2001C, 0x0, 1, 0x0, 1, 0x0, 0x0, 0x0, false, false⟩, /- GZB_EDGE_FRC_HI -/
  ⟨0x20020, 0x0, 1, 0x0, 1, 0x0, 0x0, 0x0, false, false⟩, /- GZB_CLEAR_STAT -/
  ⟨0x20024, 0x0, 1, 0x0, 1, 0x0, 0x0, 0x0, false, false⟩, /- GZB_CLEAR_ASN_LO -/
  ⟨0x20028, 0x0, 1, 0x0, 1, 0x0, 0x0, 0x0, false, false⟩, /- GZB_CLEAR_ASN_HI -/
  ⟨0x2002C, 0x0, 1, 0x0, 1, 0x0, 0x0, 0x0, false, false⟩, /- GZB_CLEAR_SEQ -/
  ⟨0x20030, 0x0, 1, 0x0, 1, 0x0, 0x0, 0x0, false, false⟩, /- GZB_PULSE_CNT -/
  ⟨0x20034, 0x0, 1, 0x0, 1, 0x0, 0x0, 0x0, false, false⟩, /- GZB_LOOP_V -/
  ⟨0x20038, 0x0, 1, 0x0, 1, 0x0, 0x0, 0xFFFFFFFF, false, false⟩, /- GZB_WORDS -/
  ⟨0x2003C, 0x0, 1, 0x0, 1, 0x0, 0x0, 0x0, false, false⟩ /- GZB_CFG -/]

def regRows_gzb : List RegRow := regRows_gzb0

def regRows_mbx0 : List RegRow := [
  ⟨0x30040, 0x80, 32, 0x0, 1, 0xFF7C, 0x0, 0x0, false, false⟩, /- MBX_CTRL -/
  ⟨0x30044, 0x80, 32, 0x0, 1, 0x0, 0xE, 0x0, false, false⟩, /- MBX_STAT -/
  ⟨0x31400, 0x0, 1, 0x0, 1, 0x0, 0x0, 0x0, false, false⟩, /- MBX_HRST -/
  ⟨0x31000, 0x4, 32, 0x0, 1, 0xFFFFFFFF, 0x0, 0x0, false, false⟩, /- MBX_CLAIMn -/
  ⟨0x31100, 0x4, 32, 0x0, 1, 0x0, 0x1C00, 0x0, false, false⟩, /- MBX_CLAIM_INFOn -/
  ⟨0x31200, 0x4, 32, 0x0, 1, 0xFFFFF, 0x0, 0x0, false, false⟩, /- MBX_CLAIM_LEASEn -/
  ⟨0x30000, 0x80, 32, 0x4, 16, 0xFFFFFFFF, 0x0, 0x0, false, false⟩ /- MBX_DATAk -/]

def regRows_mbx : List RegRow := regRows_mbx0

def regRows_arb0 : List RegRow := [
  ⟨0x40000, 0x0, 1, 0x0, 1, 0x0, 0x0, 0x0, false, false⟩, /- ARB_STAT -/
  ⟨0x40004, 0x0, 1, 0x0, 1, 0x0, 0x0, 0x0, false, false⟩, /- ARB_CORE_STAT -/
  ⟨0x40008, 0x0, 1, 0x0, 1, 0x0, 0x100FFFF, 0xFF0000, false, false⟩, /- ARB_FAULT -/
  ⟨0x40010, 0x0, 1, 0x0, 1, 0x0, 0x0, 0x0, false, false⟩, /- ARB_EVT_SET -/
  ⟨0x40014, 0x0, 1, 0x0, 1, 0x0, 0x0, 0x0, false, false⟩, /- ARB_EVT_CLR -/
  ⟨0x40020, 0x0, 1, 0x0, 1, 0xFF, 0x0, 0x0, false, true⟩, /- ARB_TASK_SEL -/
  ⟨0x40024, 0x0, 1, 0x0, 1, 0x0, 0x0, 0x0, false, false⟩, /- ARB_TASK_CFG -/
  ⟨0x40028, 0x0, 1, 0x0, 1, 0xFFFFFFFF, 0x0, 0x0, false, false⟩, /- ARB_TASK_MASK -/
  ⟨0x4002C, 0x0, 1, 0x0, 1, 0x0, 0x0, 0x0, false, false⟩, /- ARB_TASK_FLAGS -/
  ⟨0x40030, 0x0, 1, 0x0, 1, 0x0, 0x0, 0xFF0000, false, false⟩, /- ARB_TASK_STAT -/
  ⟨0x40040, 0x0, 1, 0x0, 1, 0x0, 0x0, 0xFFFF, false, false⟩, /- ARB_LAT_MAX -/
  ⟨0x40044, 0x0, 1, 0x0, 1, 0x0, 0x0, 0xFFFFFFFF, false, false⟩, /- ARB_BUSY_CNT -/
  ⟨0x40048, 0x0, 1, 0x0, 1, 0x0, 0x0, 0x0, false, false⟩, /- ARB_EPOCH -/
  ⟨0x4004C, 0x0, 1, 0x0, 1, 0x0, 0x0, 0x0, false, false⟩ /- ARB_QUOTA -/]

def regRows_arb : List RegRow := regRows_arb0

def regRows_sdl0 : List RegRow := [
  ⟨0x50000, 0x0, 1, 0x0, 1, 0x0, 0xF0000, 0x0, false, false⟩, /- SDL_STAT -/
  ⟨0x50004, 0x0, 1, 0x0, 1, 0x107, 0x0, 0x0, true, false⟩, /- SDL_CTRL -/
  ⟨0x50008, 0x0, 1, 0x0, 1, 0x0, 0x0, 0x0, false, false⟩, /- SDL_FREQ -/
  ⟨0x5000C, 0x0, 1, 0x0, 1, 0x0, 0x0, 0x0, false, false⟩, /- SDL_OFFSET -/
  ⟨0x50010, 0x0, 1, 0x0, 1, 0x0, 0x0, 0x0, false, false⟩, /- SDL_HOLD_TIME -/
  ⟨0x50014, 0x0, 1, 0x0, 1, 0x0, 0x0, 0x0, false, false⟩, /- SDL_HOLD_ERR -/
  ⟨0x50018, 0x0, 1, 0x0, 1, 0x0, 0x0, 0x0, false, false⟩, /- SDL_UTC -/
  ⟨0x50020, 0x0, 1, 0x0, 1, 0x0, 0x0, 0x0, false, false⟩, /- SDL_ASN_LO -/
  ⟨0x50024, 0x0, 1, 0x0, 1, 0x0, 0x0, 0x0, false, false⟩, /- SDL_ASN_HI -/
  ⟨0x50028, 0x0, 1, 0x0, 1, 0x0, 0x0, 0x0, false, false⟩, /- SDL_PTP_STAT -/
  ⟨0x5002C, 0x0, 1, 0x0, 1, 0x0, 0x0, 0x0, false, false⟩, /- SDL_PTP_OFFSET -/
  ⟨0x50030, 0x0, 1, 0x0, 1, 0x0, 0x0, 0x0, false, false⟩, /- SDL_PTP_DELAY -/
  ⟨0x50040, 0x0, 1, 0x0, 1, 0x0, 0x0, 0x0, false, false⟩, /- SDL_CAP_PPS_NS -/
  ⟨0x50044, 0x0, 1, 0x0, 1, 0x0, 0x0, 0x0, false, false⟩, /- SDL_CAP_PPS_SEC_LO -/
  ⟨0x50048, 0x0, 1, 0x0, 1, 0x0, 0x0, 0x0, false, false⟩, /- SDL_CAP_PPS_SEC_HI -/
  ⟨0x50100, 0x20, 4, 0x0, 1, 0x0, 0x0, 0x0, false, false⟩, /- SDL_TBk_NS -/
  ⟨0x50104, 0x20, 4, 0x0, 1, 0x0, 0x0, 0x0, false, true⟩, /- SDL_TBk_SEC_LO -/
  ⟨0x50108, 0x20, 4, 0x0, 1, 0x0, 0x0, 0x0, false, true⟩, /- SDL_TBk_SEC_HI -/
  ⟨0x5010C, 0x20, 4, 0x0, 1, 0x0, 0x0, 0x0, false, false⟩, /- SDL_TBk_RATE -/
  ⟨0x50110, 0x20, 4, 0x0, 1, 0x0, 0x1, 0x0, false, false⟩, /- SDL_TBk_STAT -/
  ⟨0x50114, 0x20, 4, 0x0, 1, 0x0, 0x0, 0x0, false, true⟩, /- SDL_TBk_SMP_FRC_LO -/
  ⟨0x50118, 0x20, 4, 0x0, 1, 0x0, 0x0, 0x0, false, true⟩, /- SDL_TBk_SMP_FRC_HI -/
  ⟨0x51010, 0x20, 128, 0x0, 1, 0xFFFFF37F, 0x0, 0x0, false, false⟩, /- SDL_CMP_ACT -/
  ⟨0x51014, 0x20, 128, 0x0, 1, 0xF1FFF, 0x0, 0x0, false, false⟩, /- SDL_CMP_EVT -/
  ⟨0x51018, 0x20, 128, 0x0, 1, 0x0, 0x38, 0xFF00, false, false⟩ /- SDL_CMP_CTRL -/]

def regRows_sdl1 : List RegRow := [
  ⟨0x51000, 0x20, 128, 0x0, 1, 0xFFFFFFFF, 0x0, 0x0, false, false⟩, /- SDL_CMP_NS -/
  ⟨0x51004, 0x20, 128, 0x0, 1, 0xFFFFFFFF, 0x0, 0x0, false, false⟩, /- SDL_CMP_SEC_LO -/
  ⟨0x51008, 0x20, 128, 0x0, 1, 0xFFFF, 0x0, 0x0, false, false⟩, /- SDL_CMP_SEC_HI -/
  ⟨0x5100C, 0x20, 128, 0x0, 1, 0xFFFFFFFF, 0x0, 0x0, false, false⟩, /- SDL_CMP_PERIOD -/
  ⟨0x50200, 0x0, 1, 0x0, 1, 0x0, 0x0, 0x0, false, false⟩, /- SDL_CONV_GO -/
  ⟨0x50204, 0x4, 14, 0x0, 1, 0x0, 0x0, 0x0, false, false⟩ /- SDL_CONVj -/]

def regRows_sdl : List RegRow := regRows_sdl0 ++ regRows_sdl1

def regRows_bv0 : List RegRow := [
  ⟨0x60000, 0x0, 1, 0x0, 1, 0x0, 0x1F0000, 0x0, false, false⟩, /- BV_STAT -/
  ⟨0x60004, 0x0, 1, 0x0, 1, 0x1, 0x0, 0x0, true, false⟩, /- BV_CTRL -/
  ⟨0x60008, 0x0, 1, 0x0, 1, 0x0, 0xF0, 0x0, false, false⟩, /- BV_ANT -/
  ⟨0x6000C, 0x0, 1, 0x0, 1, 0x0, 0x7F7F0000, 0x0, false, false⟩, /- BV_SYS_FLAGS -/
  ⟨0x60010, 0x0, 1, 0x0, 1, 0x0, 0x3F00, 0x0, false, false⟩, /- BV_CHECK -/
  ⟨0x60020, 0x0, 1, 0x0, 1, 0x0, 0x0, 0x0, false, false⟩, /- BV_BASE_X_LO -/
  ⟨0x60024, 0x0, 1, 0x0, 1, 0x0, 0x0, 0x0, false, false⟩, /- BV_BASE_X_HI -/
  ⟨0x60028, 0x0, 1, 0x0, 1, 0x0, 0x0, 0x0, false, false⟩, /- BV_BASE_Y_LO -/
  ⟨0x6002C, 0x0, 1, 0x0, 1, 0x0, 0x0, 0x0, false, false⟩, /- BV_BASE_Y_HI -/
  ⟨0x60030, 0x0, 1, 0x0, 1, 0x0, 0x0, 0x0, false, false⟩, /- BV_BASE_Z_LO -/
  ⟨0x60034, 0x0, 1, 0x0, 1, 0x0, 0x0, 0x0, false, false⟩, /- BV_BASE_Z_HI -/
  ⟨0x60040, 0x0, 1, 0x0, 1, 0x0, 0x0, 0x0, false, false⟩, /- BV_SURVEY_TIME -/
  ⟨0x60044, 0x0, 1, 0x0, 1, 0x0, 0x0, 0x0, false, false⟩, /- BV_SURVEY_SIGMA -/
  ⟨0x60048, 0x0, 1, 0x0, 1, 0x0, 0x0, 0x0, false, false⟩, /- BV_POS_DEV -/
  ⟨0x60050, 0x0, 1, 0x0, 1, 0x0, 0x0, 0x0, false, false⟩, /- BV_CLK_BIAS -/
  ⟨0x60054, 0x0, 1, 0x0, 1, 0x0, 0x0, 0x0, false, false⟩, /- BV_CLK_DRIFT -/
  ⟨0x60060, 0x4, 7, 0x0, 1, 0x0, 0x0, 0x0, false, false⟩, /- BV_ISBs -/
  ⟨0x6007C, 0x0, 1, 0x0, 1, 0x0, 0x0, 0x0, false, false⟩, /- BV_ISB_VALID -/
  ⟨0x60080, 0x4, 8, 0x0, 1, 0x0, 0x0, 0x0, false, false⟩, /- BV_NOISEc -/
  ⟨0x60100, 0x4, 22, 0x0, 1, 0x0, 0x0, 0x0, false, false⟩, /- BV_ALLOCn -/
  ⟨0x60158, 0x0, 1, 0x0, 1, 0x0, 0x0, 0x0, false, false⟩, /- BV_FLOAT -/
  ⟨0x60300, 0x0, 1, 0x0, 1, 0x0, 0x0, 0xFFFF0000, false, false⟩, /- BV_ACQ_STAT -/
  ⟨0x60200, 0x0, 1, 0x0, 1, 0x1FF, 0x0, 0x0, false, true⟩, /- BV_CH_SEL -/
  ⟨0x60204, 0x0, 1, 0x0, 1, 0x0, 0x0, 0x0, false, false⟩, /- BV_CH_STAT -/
  ⟨0x60208, 0x0, 1, 0x0, 1, 0x0, 0x0, 0x0, false, false⟩ /- BV_CH_CN0 -/]

def regRows_bv1 : List RegRow := [
  ⟨0x60400, 0x0, 1, 0x0, 1, 0x0, 0x30000, 0x0, false, false⟩, /- BV_RTCM_STAT -/
  ⟨0x60404, 0x0, 1, 0x0, 1, 0x0, 0x0, 0xFFFFFFFF, false, false⟩, /- BV_RTCM_CNT -/
  ⟨0x60408, 0x0, 1, 0x0, 1, 0x0, 0x0, 0xFFFFFFFF, false, false⟩ /- BV_RTCM_DROP -/]

def regRows_bv : List RegRow := regRows_bv0 ++ regRows_bv1

def regRows_slv0 : List RegRow := [
  ⟨0x70000, 0x0, 1, 0x0, 1, 0x0, 0x3F0000, 0x0, false, false⟩, /- SLV_STAT -/
  ⟨0x70004, 0x0, 1, 0x0, 1, 0x3, 0x0, 0x0, true, false⟩, /- SLV_CTRL -/
  ⟨0x70008, 0x0, 1, 0x0, 1, 0x0, 0x0, 0x0, false, false⟩, /- SLV_BUDGET -/
  ⟨0x70010, 0x0, 1, 0x0, 1, 0x0, 0x0, 0xFFFFFFFF, false, false⟩, /- SLV_CNT_FIXED -/
  ⟨0x70014, 0x0, 1, 0x0, 1, 0x0, 0x0, 0xFFFFFFFF, false, false⟩, /- SLV_CNT_FLOAT -/
  ⟨0x70018, 0x0, 1, 0x0, 1, 0x0, 0x0, 0xFFFFFFFF, false, false⟩, /- SLV_CNT_CODE -/
  ⟨0x7001C, 0x0, 1, 0x0, 1, 0x0, 0x0, 0xFFFFFFFF, false, false⟩, /- SLV_CNT_NOSOL -/
  ⟨0x70020, 0x0, 1, 0x0, 1, 0x0, 0x0, 0xFFFFFFFF, false, false⟩, /- SLV_CNT_NO_OBS -/
  ⟨0x70024, 0x0, 1, 0x0, 1, 0x0, 0x0, 0xFFFFFFFF, false, false⟩, /- SLV_CNT_NO_BASE -/
  ⟨0x70028, 0x0, 1, 0x0, 1, 0x0, 0x0, 0xFFFFFFFF, false, false⟩, /- SLV_CNT_SKIPPED -/
  ⟨0x7002C, 0x0, 1, 0x0, 1, 0x0, 0x0, 0xFFFFFFFF, false, false⟩, /- SLV_CNT_DEFERRED -/
  ⟨0x70030, 0x0, 1, 0x0, 1, 0x0, 0x0, 0xFFFFFFFF, false, false⟩, /- SLV_CNT_WRONG_FIX -/
  ⟨0x70034, 0x0, 1, 0x0, 1, 0x0, 0x0, 0xFFFFFFFF, false, false⟩, /- SLV_CNT_BAD_REC -/
  ⟨0x70040, 0x0, 1, 0x0, 1, 0x0, 0x0, 0xFFFF, false, false⟩, /- SLV_LAT_MAX -/
  ⟨0x70100, 0x0, 1, 0x0, 1, 0xFF, 0x0, 0x0, false, true⟩, /- SLV_ROV_SEL -/
  ⟨0x70104, 0x0, 1, 0x0, 1, 0x0, 0x0, 0x0, false, false⟩, /- SLV_ROV_STAT -/
  ⟨0x70108, 0x0, 1, 0x0, 1, 0x0, 0x0, 0x0, false, false⟩, /- SLV_ROV_BASELINE -/
  ⟨0x7010C, 0x0, 1, 0x0, 1, 0x0, 0x0, 0x0, false, false⟩ /- SLV_ROV_TTFF -/]

def regRows_slv : List RegRow := regRows_slv0

def regRows_bs0 : List RegRow := [
  ⟨0x80000, 0x10000, 2, 0x0, 1, 0x0, 0x3F0000, 0x0, false, false⟩, /- BS_STAT -/
  ⟨0x80004, 0x10000, 2, 0x0, 1, 0x1, 0x0, 0x0, true, false⟩, /- BS_CTRL -/
  ⟨0x80008, 0x10000, 2, 0x0, 1, 0x0, 0x0, 0x0, false, false⟩, /- BS_CFG -/
  ⟨0x8000C, 0x10000, 2, 0x0, 1, 0x3, 0x0, 0x0, true, false⟩, /- BS_RETRY -/
  ⟨0x80010, 0x10000, 2, 0x0, 1, 0x0, 0x0, 0xFFFFFFFF, false, false⟩, /- BS_CNT_RX_OK -/
  ⟨0x80014, 0x10000, 2, 0x0, 1, 0x0, 0x0, 0xFFFFFFFF, false, false⟩, /- BS_CNT_RX_BAD -/
  ⟨0x80018, 0x10000, 2, 0x0, 1, 0x0, 0x0, 0xFFFFFFFF, false, false⟩, /- BS_CNT_FILTERED -/
  ⟨0x8001C, 0x10000, 2, 0x0, 1, 0x0, 0x0, 0xFFFFFFFF, false, false⟩, /- BS_CNT_AUTH -/
  ⟨0x80020, 0x10000, 2, 0x0, 1, 0x0, 0x0, 0xFFFFFFFF, false, false⟩, /- BS_CNT_REPLAY -/
  ⟨0x80024, 0x10000, 2, 0x0, 1, 0x0, 0x0, 0xFFFFFFFF, false, false⟩, /- BS_CNT_DUP -/
  ⟨0x80028, 0x10000, 2, 0x0, 1, 0x0, 0x0, 0xFFFFFFFF, false, false⟩, /- BS_CNT_LATE -/
  ⟨0x8002C, 0x10000, 2, 0x0, 1, 0x0, 0x0, 0xFFFFFFFF, false, false⟩, /- BS_CNT_NACK_BUSY -/
  ⟨0x80030, 0x10000, 2, 0x0, 1, 0x0, 0x0, 0xFFFFFFFF, false, false⟩, /- BS_CNT_TX -/
  ⟨0x80034, 0x10000, 2, 0x0, 1, 0x0, 0x0, 0xFFFFFFFF, false, false⟩, /- BS_CNT_NO_ACK -/
  ⟨0x80038, 0x10000, 2, 0x0, 1, 0x0, 0x0, 0xFFFFFFFF, false, false⟩, /- BS_CNT_BLANKED -/
  ⟨0x80040, 0x10000, 2, 0x4, 4, 0x0, 0x0, 0x0, false, false⟩, /- BS_FILT_JOINEDk -/
  ⟨0x80050, 0x10000, 2, 0x4, 4, 0x0, 0x0, 0x0, false, false⟩, /- BS_FILT_ENABLEDk -/
  ⟨0x80060, 0x10000, 2, 0x0, 1, 0x0, 0x0, 0x0, false, false⟩, /- BS_FILT_GRP -/
  ⟨0x80070, 0x10000, 2, 0x4, 4, 0x0, 0x0, 0x0, false, false⟩, /- BS_DESYNCk -/
  ⟨0x80080, 0x10000, 2, 0x0, 1, 0xFF, 0x0, 0x0, false, true⟩, /- BS_KEY_SEL -/
  ⟨0x80084, 0x10000, 2, 0x0, 1, 0x0, 0x0, 0x0, false, false⟩, /- BS_KEY_STAT -/
  ⟨0x80088, 0x10000, 2, 0x0, 1, 0x0, 0x0, 0x0, false, false⟩, /- BS_KEY_TXCNT -/
  ⟨0x8008C, 0x10000, 2, 0x0, 1, 0x0, 0x0, 0x0, false, false⟩, /- BS_KEY_RXCNT -/
  ⟨0x80100, 0x0, 1, 0x0, 1, 0xFF, 0x0, 0x0, false, true⟩, /- BSA_PART_SEL -/
  ⟨0x80104, 0x0, 1, 0x0, 1, 0x0, 0x0, 0x0, false, false⟩, /- BSA_PART_STAT -/
  ⟨0x80108, 0x0, 1, 0x0, 1, 0x0, 0x0, 0x0, false, false⟩ /- BSA_PART_OFS -/]

def regRows_bs1 : List RegRow := [
  ⟨0x8010C, 0x0, 1, 0x0, 1, 0x0, 0x0, 0x0, false, false⟩, /- BSA_PART_DRIFT -/
  ⟨0x80110, 0x0, 1, 0x0, 1, 0x0, 0x0, 0x0, false, false⟩, /- BSA_PART_PRED -/
  ⟨0x80120, 0x0, 1, 0x0, 1, 0xFFFF, 0x0, 0x0, true, false⟩, /- BSA_DRIFT_UNC -/
  ⟨0x80124, 0x0, 1, 0x0, 1, 0x0, 0x30000, 0x0, false, false⟩, /- BSA_RESYNC -/
  ⟨0x80200, 0x0, 1, 0x0, 1, 0xFF, 0x0, 0x0, false, true⟩, /- BSA_MBR_SEL -/
  ⟨0x80204, 0x0, 1, 0x0, 1, 0x0, 0x0, 0x0, false, false⟩, /- BSA_MBR_STAT -/
  ⟨0x80208, 0x0, 1, 0x0, 1, 0x0, 0x0, 0x0, false, false⟩, /- BSA_MBR_SESSION -/
  ⟨0x8020C, 0x0, 1, 0x0, 1, 0x0, 0x0, 0x0, false, false⟩, /- BSA_MBR_JOINS -/
  ⟨0x80210, 0x0, 1, 0x0, 1, 0x77, 0x0, 0x0, true, false⟩, /- BSA_FLOOD_CFG -/
  ⟨0x80214, 0x0, 1, 0x0, 1, 0x0, 0x0, 0xFFFF, false, false⟩, /- BSA_FLOOD_STAT -/
  ⟨0x80218, 0x0, 1, 0x0, 1, 0x0, 0x0, 0xFFFFFF, false, false⟩, /- BSA_JOIN_STAT -/
  ⟨0x8021C, 0x0, 1, 0x0, 1, 0x0, 0x0, 0x0, false, false⟩ /- BSA_SESSION -/]

def regRows_bs : List RegRow := regRows_bs0 ++ regRows_bs1

def regRows_pgl0 : List RegRow := [
  ⟨0xA0000, 0x0, 1, 0x0, 1, 0x0, 0x3F0000, 0x0, false, false⟩, /- PGL_STAT -/
  ⟨0xA0004, 0x0, 1, 0x0, 1, 0x1, 0x0, 0x0, true, false⟩, /- PGL_CTRL -/
  ⟨0xA0008, 0x0, 1, 0x0, 1, 0xFFFF, 0x0, 0x0, true, false⟩, /- PGL_LEAD -/
  ⟨0xA000C, 0x0, 1, 0x0, 1, 0x0, 0x0, 0x0, false, false⟩, /- PGL_GRAPH0 -/
  ⟨0xA0010, 0x0, 1, 0x0, 1, 0x0, 0x0, 0x0, false, false⟩, /- PGL_GRAPH1 -/
  ⟨0xA0014, 0x0, 1, 0x0, 1, 0x0, 0x0, 0x0, false, false⟩, /- PGL_WIN_USED -/
  ⟨0xA0018, 0x0, 1, 0x0, 1, 0x0, 0x0, 0x0, false, false⟩, /- PGL_RT -/
  ⟨0xA0040, 0x0, 1, 0x0, 1, 0x0, 0x0, 0xFFFF, false, false⟩, /- PGL_LAT_MAX -/
  ⟨0xA0020, 0x0, 1, 0x0, 1, 0x0, 0x0, 0xFFFFFFFF, false, false⟩, /- PGL_CNT_PLANS -/
  ⟨0xA0024, 0x0, 1, 0x0, 1, 0x0, 0x0, 0xFFFFFFFF, false, false⟩, /- PGL_CNT_NO_PATH -/
  ⟨0xA0028, 0x0, 1, 0x0, 1, 0x0, 0x0, 0xFFFFFFFF, false, false⟩, /- PGL_CNT_REPLAN -/
  ⟨0xA002C, 0x0, 1, 0x0, 1, 0x0, 0x0, 0xFFFFFFFF, false, false⟩, /- PGL_CNT_SUPERSEDED -/
  ⟨0xA0030, 0x0, 1, 0x0, 1, 0x0, 0x0, 0xFFFFFFFF, false, false⟩, /- PGL_CNT_FROZEN -/
  ⟨0xA0034, 0x0, 1, 0x0, 1, 0x0, 0x0, 0xFFFFFFFF, false, false⟩, /- PGL_CNT_TABLES -/
  ⟨0xA0100, 0x0, 1, 0x0, 1, 0xFF, 0x0, 0x0, false, true⟩, /- PGL_MBR_SEL -/
  ⟨0xA0104, 0x0, 1, 0x0, 1, 0x0, 0x0, 0x0, false, false⟩, /- PGL_MBR_STAT -/
  ⟨0xA0108, 0x0, 1, 0x0, 1, 0x0, 0x0, 0x0, false, false⟩, /- PGL_MBR_POS_E -/
  ⟨0xA010C, 0x0, 1, 0x0, 1, 0x0, 0x0, 0x0, false, false⟩, /- PGL_MBR_POS_N -/
  ⟨0xA0110, 0x0, 1, 0x0, 1, 0x0, 0x0, 0x0, false, false⟩, /- PGL_MBR_EDGE -/
  ⟨0xA0114, 0x0, 1, 0x0, 1, 0x0, 0x0, 0x0, false, false⟩, /- PGL_MBR_GOAL -/
  ⟨0xA0118, 0x0, 1, 0x0, 1, 0x0, 0x0, 0x0, false, false⟩, /- PGL_MBR_ARRIVE -/
  ⟨0xA0200, 0x0, 1, 0x0, 1, 0x1FFFFF, 0x0, 0x0, false, true⟩, /- PGL_EDGE_SEL -/
  ⟨0xA0204, 0x0, 1, 0x0, 1, 0x0, 0x0, 0x0, false, false⟩, /- PGL_EDGE_STAT -/
  ⟨0xA0208, 0x0, 1, 0x0, 1, 0x0, 0x0, 0x0, false, false⟩, /- PGL_WIN_START -/
  ⟨0xA020C, 0x0, 1, 0x0, 1, 0x0, 0x0, 0x0, false, false⟩ /- PGL_WIN_END -/]

def regRows_pgl1 : List RegRow := [
  ⟨0xA0210, 0x0, 1, 0x0, 1, 0x0, 0x0, 0x0, false, false⟩ /- PGL_WIN_INFO -/]

def regRows_pgl : List RegRow := regRows_pgl0 ++ regRows_pgl1

def regRows_wkt0 : List RegRow := [
  ⟨0xB0000, 0x0, 1, 0x0, 1, 0x0, 0xFFF0000, 0x0, false, false⟩, /- WKT_STAT -/
  ⟨0xB0004, 0x0, 1, 0x0, 1, 0x1, 0x0, 0x0, false, false⟩, /- WKT_CTRL -/
  ⟨0xB0100, 0x40, 4, 0x0, 1, 0x0, 0x70000, 0x0, false, false⟩, /- WKT_AXn_STAT -/
  ⟨0xB0104, 0x40, 4, 0x0, 1, 0x0, 0x0, 0x0, false, false⟩, /- WKT_AXn_CTRL -/
  ⟨0xB0108, 0x40, 4, 0x0, 1, 0x0, 0x7FF, 0x0, false, false⟩, /- WKT_AXn_FAULT -/
  ⟨0xB010C, 0x40, 4, 0x0, 1, 0x0, 0x0, 0x0, false, false⟩, /- WKT_AXn_POS -/
  ⟨0xB0110, 0x40, 4, 0x0, 1, 0x0, 0x0, 0x0, false, false⟩, /- WKT_AXn_VEL -/
  ⟨0xB0114, 0x40, 4, 0x0, 1, 0x0, 0x0, 0x0, false, false⟩, /- WKT_AXn_CUR -/
  ⟨0xB0118, 0x40, 4, 0x0, 1, 0xFFFFFFFF, 0x0, 0x0, false, false⟩, /- WKT_AXn_VMAX -/
  ⟨0xB011C, 0x40, 4, 0x0, 1, 0xFFFFFFFF, 0x0, 0x0, false, false⟩, /- WKT_AXn_ACC -/
  ⟨0xB0120, 0x40, 4, 0x0, 1, 0xFFFFFFFF, 0x0, 0x0, false, false⟩, /- WKT_AXn_DEC -/
  ⟨0xB0124, 0x40, 4, 0x0, 1, 0xFFFFFFFF, 0x0, 0x0, false, false⟩, /- WKT_AXn_EDEC -/
  ⟨0xB0128, 0x40, 4, 0x0, 1, 0xFFFFFFFF, 0x0, 0x0, false, false⟩, /- WKT_AXn_JERK -/
  ⟨0xB012C, 0x40, 4, 0x0, 1, 0xFFFFFFFF, 0x0, 0x0, false, false⟩, /- WKT_AXn_IRUN -/
  ⟨0xB0130, 0x40, 4, 0x0, 1, 0x0, 0x0, 0xFF00, false, false⟩, /- WKT_AXn_LOAD -/
  ⟨0xB0134, 0x40, 4, 0x0, 1, 0x0, 0x0, 0x0, false, false⟩, /- WKT_AXn_CHOP -/
  ⟨0xB0138, 0x40, 4, 0x0, 1, 0x0, 0x0, 0x0, false, false⟩, /- WKT_AXn_VM -/
  ⟨0xB013C, 0x40, 4, 0x0, 1, 0x0, 0x0, 0xFFFFFFFF, false, false⟩ /- WKT_AXn_CNT -/]

def regRows_wkt : List RegRow := regRows_wkt0

def regRows_org0 : List RegRow := [
  ⟨0xC0000, 0x0, 1, 0x0, 1, 0x0, 0x1F0000, 0x0, false, false⟩, /- ORG_STAT -/
  ⟨0xC0004, 0x0, 1, 0x0, 1, 0x1, 0x0, 0x0, false, false⟩, /- ORG_CTRL -/
  ⟨0xC0008, 0x0, 1, 0x0, 1, 0x0, 0x0, 0x0, false, false⟩, /- ORG_COUNTER -/
  ⟨0xC000C, 0x0, 1, 0x0, 1, 0x0, 0x0, 0x0, false, false⟩, /- ORG_WIPE -/
  ⟨0xC0010, 0x0, 1, 0x0, 1, 0x0, 0x0, 0x0, false, false⟩, /- ORG_TAMPER -/
  ⟨0xC0014, 0x0, 1, 0x0, 1, 0x0, 0x0, 0x0, false, false⟩, /- ORG_TAMPER_FRC_LO -/
  ⟨0xC0018, 0x0, 1, 0x0, 1, 0x0, 0x0, 0x0, false, false⟩, /- ORG_TAMPER_FRC_HI -/
  ⟨0xC001C, 0x0, 1, 0x0, 1, 0x0, 0x0, 0x0, false, false⟩, /- ORG_REFUSE -/
  ⟨0xC0020, 0x4, 4, 0x0, 1, 0x0, 0x0, 0x0, false, false⟩, /- ORG_UIDk -/
  ⟨0xC0100, 0x0, 1, 0x0, 1, 0x3F, 0x0, 0x0, false, true⟩, /- ORG_SLOT_SEL -/
  ⟨0xC0104, 0x0, 1, 0x0, 1, 0x0, 0x0, 0x0, false, false⟩, /- ORG_SLOT_ATTR -/
  ⟨0xC0108, 0x0, 1, 0x0, 1, 0x0, 0x0, 0x0, false, false⟩, /- ORG_SLOT_KEY_ID -/
  ⟨0xC010C, 0x0, 1, 0x0, 1, 0x0, 0x0, 0x0, false, false⟩, /- ORG_SLOT_USES -/
  ⟨0xC0200, 0x0, 1, 0x0, 1, 0x1F, 0x0, 0x0, false, true⟩, /- ORG_NODE_SEL -/
  ⟨0xC0204, 0x0, 1, 0x0, 1, 0x0, 0x0, 0x0, false, false⟩, /- ORG_NODE_STAT -/
  ⟨0xC0208, 0x4, 4, 0x0, 1, 0x0, 0x0, 0x0, false, false⟩ /- ORG_NODE_LABELk -/]

def regRows_org : List RegRow := regRows_org0

def regRows_vb0 : List RegRow := [
  ⟨0xD0000, 0x0, 1, 0x0, 1, 0x0, 0xF0000, 0x0, false, false⟩, /- VB_STAT -/
  ⟨0xD0004, 0x0, 1, 0x0, 1, 0x1, 0x0, 0x0, false, false⟩, /- VB_CTRL -/
  ⟨0xD0008, 0x0, 1, 0x0, 1, 0x0, 0x0, 0x0, false, false⟩, /- VB_SEQ -/
  ⟨0xD000C, 0x0, 1, 0x0, 1, 0x0, 0x0, 0x0, false, false⟩, /- VB_OLDEST -/
  ⟨0xD0010, 0x0, 1, 0x0, 1, 0x0, 0x0, 0x0, false, false⟩, /- VB_WR_PTR -/
  ⟨0xD0014, 0x0, 1, 0x0, 1, 0x0, 0x0, 0x0, false, false⟩, /- VB_BOOT -/
  ⟨0xD0018, 0x0, 1, 0x0, 1, 0x0, 0x0, 0x0, false, false⟩, /- VB_FREEZE_BASE -/
  ⟨0xD0020, 0x0, 1, 0x0, 1, 0x0, 0x0, 0xFFFFFFFF, false, false⟩, /- VB_CNT_DROP -/
  ⟨0xD0024, 0x0, 1, 0x0, 1, 0x0, 0x0, 0xFFFFFFFF, false, false⟩, /- VB_CNT_OVERWRITE -/
  ⟨0xD0028, 0x0, 1, 0x0, 1, 0x0, 0x0, 0xFFFFFFFF, false, false⟩, /- VB_CNT_SUPPRESS -/
  ⟨0xD0040, 0x0, 1, 0x0, 1, 0x0, 0x0, 0x0, false, false⟩, /- VB_SNAP0_FRC_LO -/
  ⟨0xD0044, 0x0, 1, 0x0, 1, 0x0, 0x0, 0x0, false, false⟩, /- VB_SNAP0_FRC_HI -/
  ⟨0xD0048, 0x0, 1, 0x0, 1, 0x0, 0x0, 0x0, false, false⟩, /- VB_SNAP1_FRC_LO -/
  ⟨0xD004C, 0x0, 1, 0x0, 1, 0x0, 0x0, 0x0, false, false⟩, /- VB_SNAP1_FRC_HI -/
  ⟨0xD0050, 0x0, 1, 0x0, 1, 0x0, 0x0, 0xFF000000, false, false⟩, /- VB_SNAP_STAT -/
  ⟨0xD0100, 0x0, 1, 0x0, 1, 0xFF, 0x0, 0x0, false, true⟩, /- VB_CODE_SEL -/
  ⟨0xD0104, 0x0, 1, 0x0, 1, 0x0, 0x0, 0x0, false, false⟩ /- VB_CODE_STAT -/]

def regRows_vb : List RegRow := regRows_vb0

def regRows_eth0 : List RegRow := [
  ⟨0xE0000, 0x100, 2, 0x0, 1, 0x0, 0x3000000, 0x0, false, false⟩, /- ETH_Pn_STAT -/
  ⟨0xE0004, 0x100, 2, 0x0, 1, 0x3F, 0x0, 0x0, true, false⟩, /- ETH_Pn_CTRL -/
  ⟨0xE0010, 0x100, 2, 0x0, 1, 0x0, 0x0, 0xFFFFFFFF, false, false⟩, /- ETH_Pn_RX_OK -/
  ⟨0xE0014, 0x100, 2, 0x0, 1, 0x0, 0x0, 0xFFFFFFFF, false, false⟩, /- ETH_Pn_RX_FCS -/
  ⟨0xE0018, 0x100, 2, 0x0, 1, 0x0, 0x0, 0xFFFFFFFF, false, false⟩, /- ETH_Pn_RX_DROP -/
  ⟨0xE001C, 0x100, 2, 0x0, 1, 0x0, 0x0, 0xFFFFFFFF, false, false⟩, /- ETH_Pn_TX -/
  ⟨0xE0020, 0x100, 2, 0x0, 1, 0x0, 0x0, 0xFFFFFFFF, false, false⟩, /- ETH_Pn_HOST_REQ -/
  ⟨0xE0024, 0x100, 2, 0x0, 1, 0x0, 0x0, 0xFFFFFFFF, false, false⟩ /- ETH_Pn_HOST_BUSY -/]

def regRows_eth : List RegRow := regRows_eth0

def regRows_svc0 : List RegRow := [
  ⟨0xF0000, 0x0, 1, 0x0, 1, 0x0, 0x30000, 0x0, false, false⟩, /- SVC_STAT -/
  ⟨0xF0004, 0x0, 1, 0x0, 1, 0x0, 0x0, 0xFFFFFFFF, false, false⟩, /- SVC_CNT -/
  ⟨0xF0100, 0x0, 1, 0x0, 1, 0x0, 0x70000, 0x0, false, false⟩, /- UPD_STAT -/
  ⟨0xF0104, 0x0, 1, 0x0, 1, 0x4, 0x0, 0x0, true, false⟩, /- UPD_CTRL -/
  ⟨0xF0108, 0x0, 1, 0x0, 1, 0x0, 0x0, 0x0, false, false⟩, /- UPD_ERR -/
  ⟨0xF010C, 0x0, 1, 0x0, 1, 0x0, 0x0, 0x0, false, false⟩, /- UPD_SVN -/
  ⟨0xF0110, 0x0, 1, 0x0, 1, 0x0, 0x0, 0x0, false, false⟩, /- UPD_REL_A -/
  ⟨0xF0114, 0x0, 1, 0x0, 1, 0x0, 0x0, 0x0, false, false⟩, /- UPD_REL_B -/
  ⟨0xF0118, 0x0, 1, 0x0, 1, 0x0, 0x0, 0xFFFF, false, false⟩, /- UPD_FALLBACKS -/
  ⟨0xF011C, 0x0, 1, 0x0, 1, 0x0, 0x0, 0x0, false, false⟩, /- UPD_RX_BYTES -/
  ⟨0xF1000, 0x4, 1024, 0x0, 1, 0xFFFFFFFF, 0x0, 0x0, false, false⟩ /- UPD_BUF -/]

def regRows_svc : List RegRow := regRows_svc0

def regRows_test0 : List RegRow := [
  ⟨0x100000, 0x0, 1, 0x0, 1, 0x0, 0x30000, 0x0, false, false⟩, /- TEST_STAT -/
  ⟨0x100004, 0x0, 1, 0x0, 1, 0x0, 0x0, 0x0, false, false⟩, /- TEST_ERRORS -/
  ⟨0x100008, 0x0, 1, 0x0, 1, 0x0, 0x0, 0x0, false, false⟩, /- TEST_BITS_LO -/
  ⟨0x10000C, 0x0, 1, 0x0, 1, 0x0, 0x0, 0x0, false, false⟩ /- TEST_BITS_HI -/]

def regRows_test : List RegRow := regRows_test0

def regRows_strm0 : List RegRow := [
  ⟨0x1008000, 0x10000, 10, 0x0, 1, 0x0, 0xE0000, 0x0, false, false⟩, /- SYS_STRM_STAT -/
  ⟨0x1008004, 0x10000, 10, 0x0, 1, 0x0, 0x0, 0x0, false, false⟩, /- SYS_STRM_PKTS -/
  ⟨0x1008008, 0x10000, 10, 0x0, 1, 0xFFFF, 0x0, 0x0, false, false⟩, /- SYS_STRM_WM -/
  ⟨0x100800C, 0x10000, 10, 0x0, 1, 0x5, 0x0, 0x0, false, false⟩, /- SYS_STRM_CTRL -/
  ⟨0x1008010, 0x10000, 10, 0x0, 1, 0x0, 0x0, 0xFFFF, false, false⟩ /- SYS_STRM_OVERRUN -/]

def regRows_strm : List RegRow := regRows_strm0

/-- The rows of the block an address lies in, by address bits [31:16] (R16); BS_ layouts stand in both bands (R7). -/
def regRowsOf (a : Nat) : List RegRow :=
  match a / 0x10000 with
  | 0 => regRows_sys
  | 1 => regRows_lodge
  | 2 => regRows_gzb
  | 3 => regRows_mbx
  | 4 => regRows_arb
  | 5 => regRows_sdl
  | 6 => regRows_bv
  | 7 => regRows_slv
  | 8 => regRows_bs
  | 9 => regRows_bs
  | 10 => regRows_pgl
  | 11 => regRows_wkt
  | 12 => regRows_org
  | 13 => regRows_vb
  | 14 => regRows_eth
  | 15 => regRows_svc
  | 16 => regRows_test
  | _ => if 0x1000000 ≤ a ∧ a < 0x10A0000 then regRows_strm else []

/-- Does row `r` hold the address? -/
def RegRow.holds (r : RegRow) (a : Nat) : Bool :=
  let d := a - r.base
  if a < r.base then false
  else if r.count ≤ 1 then d == 0
  else if r.count2 ≤ 1 then d % r.stride == 0 && d / r.stride < r.count
  else d / r.stride < r.count && d % r.stride % r.stride2 == 0 && d % r.stride / r.stride2 < r.count2

/-- The row of a register address; none where the offset is unassigned (R11). -/
def regRow (a : Nat) : Option RegRow := (regRowsOf a).find? (·.holds a)

end Sys2Proof.Machine
end

