-- ==== Sys2Proof/Machine/Base.lean ====
section
/-! DEFINITION. What every unit reads: the units a part has (spec/00_scope.md), the state of the power domains
(spec/03), the plan sections in force (spec/04), time from FRC (spec/07 R219–R224), slots (R22, R23) and the interrupt
status bits (spec/05 R174). -/
namespace Sys2Proof.Machine

/-! ### Parts and units -/

/-- SYS_UNITS of a part (Variants table). -/
def unitsOf : Part → Nat
  | .ewg9640 => 0xFFFF
  | .ewg9630 => 0xFFDF
  | .ewg9620 => 0x7D5F

/-- SYS_ID.PART_CODE and the HWTYPE of a part. -/
def partCode : Part → Nat
  | .ewg9640 => 0x9640
  | .ewg9630 => 0x9630
  | .ewg9620 => 0x9620

/-- Bits of SYS_UNITS by unit. -/
abbrev U.GZB : Nat := 0
abbrev U.MBX : Nat := 1
abbrev U.ARB : Nat := 2
abbrev U.SDL : Nat := 3
abbrev U.BV : Nat := 4
abbrev U.SLV : Nat := 5
abbrev U.BSA : Nat := 6
abbrev U.BSB : Nat := 7
abbrev U.PGL : Nat := 8
abbrev U.WKT : Nat := 9
abbrev U.ORG : Nat := 10
abbrev U.VB : Nat := 11
abbrev U.ETH : Nat := 12
abbrev U.SVC : Nat := 13
abbrev U.TEST : Nat := 14
abbrev U.BV_E6 : Nat := 15

/-- Is the unit present on this part (R1)? -/
def State.present (s : State) (u : Nat) : Bool := (unitsOf s.part).testBit u

/-- Is a plan active (SYS_PLAN_STAT.STATE = ACTIVE)? -/
def State.planActive (s : State) : Bool := s.getF F.SYS_PLAN_STAT_STATE = 2

/-- Is the unit present and in EXPECT_UNITS (R143)? Without an active plan no section excludes a unit. -/
def State.expected (s : State) (u : Nat) : Bool :=
  s.present u && (!s.planActive || s.plan.units.testBit u)

/-- The unit of a register block, as a SYS_UNITS bit; SYS and LODGE have none. -/
def blockUnit (blk : Nat) : Option Nat :=
  match blk with
  | 2 => some U.GZB
  | 3 => some U.MBX
  | 4 => some U.ARB
  | 5 => some U.SDL
  | 6 => some U.BV
  | 7 => some U.SLV
  | 8 => some U.BSA
  | 9 => some U.BSB
  | 10 => some U.PGL
  | 11 => some U.WKT
  | 12 => some U.ORG
  | 13 => some U.VB
  | 14 => some U.ETH
  | 15 => some U.SVC
  | 16 => some U.TEST
  | _ => none

/-- Is the unit of a register block absent on this part (R3)? -/
def State.blockAbsent (s : State) (blk : Nat) : Bool :=
  match blockUnit blk with
  | some u => !s.present u
  | none => false

/-! ### Power domains -/

/-- Domain state codes (R101). -/
abbrev DS.off : Nat := 0
abbrev DS.pwrUp : Nat := 1
abbrev DS.on : Nat := 2
abbrev DS.shutdown : Nat := 3
abbrev DS.pendingOn : Nat := 4
abbrev DS.pendingOff : Nat := 5
abbrev DS.lockout : Nat := 6
abbrev DS.absent : Nat := 7

/-- The nibble of LODGE_DOM_STAT0 or LODGE_DOM_STAT1 that holds a domain's state. -/
def F.dom (d : Nat) : Fld := ⟨0x10018 + 4 * (d / 8), 4 * (d % 8), 4⟩

/-- Is the domain one of an absent unit (R101)? -/
def State.domAbsent (s : State) (d : Nat) : Bool :=
  (d = 7 && !s.present U.SLV) || (d = 9 && !s.present U.BSB) || (d = 12 && !s.present U.WKT)

/-- The state code of a domain: D0 and D1 always ON, a domain of an absent unit ABSENT (R101). -/
def State.dom (s : State) (d : Nat) : Nat :=
  if d < 2 then DS.on else if s.domAbsent d then DS.absent else s.getF (F.dom d)

/-- The domain's state written; D0, D1 and absent domains keep theirs. -/
def State.setDom (s : State) (d st : Nat) : State :=
  if d < 2 ∨ 13 < d ∨ s.domAbsent d then s else s.setF (F.dom d) st

/-- Does the domain report ON? -/
def State.isOn (s : State) (d : Nat) : Bool := s.dom d = DS.on

/-- The domains a PLL feeds (R112); D12 runs from SCLK ÷ 4 and D4 samples with CCLK ÷ 4. -/
def pllDoms : Pll → List Nat
  | .sys => [2, 3, 10, 12, 13]
  | .corr => [4, 5, 6, 7]
  | .eth => [11]
  | .bandA => [8]
  | .bandB => [9]

/-- The PLL of a domain (R112). -/
def domPll (d : Nat) : Pll :=
  if d = 11 then .eth else if d = 8 then .bandA else if d = 9 then .bandB else if 4 ≤ d ∧ d ≤ 7 then .corr else .sys

/-- Does a PLL hold its lock? The synthesizers' locks show in no register. -/
def State.pllLock (s : State) : Pll → Bool
  | .sys => s.flag F.LODGE_CLK_STAT_SYS_LOCK
  | .corr => s.flag F.LODGE_CLK_STAT_CORR_LOCK
  | .eth => s.flag F.LODGE_CLK_STAT_ETH_LOCK
  | .bandA => s.power.lockA
  | .bandB => s.power.lockB

/-- Has the domain its clock? A PLL that has lost lock gates the clocks of its domains (R114). -/
def State.clocked (s : State) (d : Nat) : Bool := d < 2 || s.pllLock (domPll d)

/-- Does the domain run: is it ON with its clock? -/
def State.domOn (s : State) (d : Nat) : Bool := s.isOn d && s.clocked d

/-- D2–D13, in rising order. -/
def allDoms : List Nat := [2, 3, 4, 5, 6, 7, 8, 9, 10, 11, 12, 13]

/-- The domain a register block needs beyond D2, if any (R564). -/
def blockDom (blk off : Nat) : Option Nat :=
  match blk with
  | 4 => if off = 0x48 then none else some 3
  | 6 => some 6
  | 7 => some 7
  | 8 => some 8
  | 9 => some 9
  | 10 => some 10
  | 11 => some 12
  | 14 => some 11
  | _ => none

/-- The unit a domain belongs to (spec/00_scope.md), for those that stay OFF when it is not expected (R143). -/
def domUnit (d : Nat) : Option Nat :=
  match d with
  | 4 => some U.BV
  | 5 => some U.BV
  | 6 => some U.BV
  | 7 => some U.SLV
  | 8 => some U.BSA
  | 9 => some U.BSB
  | 10 => some U.PGL
  | 11 => some U.ETH
  | 12 => some U.WKT
  | 13 => some U.ORG
  | _ => none

/-- Does the domain stay OFF: its unit is not expected (R143), or both plan slots have failed and it is none of D0 to D3
and D13 (R132)? -/
def State.domUnused (s : State) (d : Nat) : Bool :=
  (domUnit d).any (fun u => s.present u && !s.expected u) || (s.getF F.SYS_PLAN_STAT_STATE = 3 && 4 ≤ d && d ≤ 12)

/-- Is the module powered and out of POWER_ON? -/
def State.powered (s : State) : Bool := !s.power.off && !s.power.porHeld

/-- Is the device in Run? -/
def State.inRun (s : State) : Bool := s.getF F.LODGE_PWR_STATE_STATE = 2

/-- Is the fleet armed: Run with an active plan (R41)? -/
def State.fleetArmed (s : State) : Bool := s.inRun && s.planActive

/-- States of Gazebo (R427). -/
abbrev Gz.INIT : Nat := 0
abbrev Gz.STOPPED : Nat := 1
abbrev Gz.CLEARING : Nat := 2
abbrev Gz.RUN : Nat := 3

def State.gzState (s : State) : Nat := s.getF F.GZB_STAT_STATE

/-- Does a stop stand? In every state but RUN (R426–R428). -/
def State.stopStands (s : State) : Bool := s.gzState ≠ Gz.RUN

/-! ### Plan sections -/

/-- The body of a section in force: a swapped one before the slot's own (R157). -/
def State.sec? (s : State) (t : Nat) : Option Bytes :=
  match s.plan.live.find? (·.1 = t) with
  | some p => some p.2
  | none => (s.plan.sections.find? (·.1 = t)).map (·.2)

/-- The body of a section, empty where the plan has none. -/
def State.sec (s : State) (t : Nat) : Bytes := (s.sec? t).getD []

/-- Section type codes (R142). -/
abbrev T.SYSTEM : Nat := 0x0001
abbrev T.PINS : Nat := 0x0002
abbrev T.POWER : Nat := 0x0003
abbrev T.TASKS : Nat := 0x0004
abbrev T.RECORDER : Nat := 0x0005
abbrev T.TIME : Nat := 0x0006
abbrev T.GNSS_ACQ : Nat := 0x0010
abbrev T.GNSS_TRK : Nat := 0x0011
abbrev T.GNSS_INTEG : Nat := 0x0012
abbrev T.BASE_POS : Nat := 0x0013
abbrev T.RTCM_OUT : Nat := 0x0014
abbrev T.SOLVE : Nat := 0x0018
abbrev T.SLOTFRAME : Nat := 0x0020
abbrev T.BAND_A : Nat := 0x0021
abbrev T.BAND_B : Nat := 0x0022
abbrev T.CELL_MAP : Nat := 0x0023
abbrev T.MEMBERS : Nat := 0x0030
abbrev T.CLASSES : Nat := 0x0031
abbrev T.LANE_GRAPH : Nat := 0x0040
abbrev T.WICKET : Nat := 0x0048

/-- SYSTEM.FLAGS bits (R144). -/
def State.updViaHost (s : State) : Bool := (leAt (s.sec T.SYSTEM) 2 2).testBit 0
def State.nsPlan (s : State) : Bool := (leAt (s.sec T.SYSTEM) 2 2).testBit 1

/-- PINS.ANT_BIAS of an antenna: 0 off, 1 3.3 V, 2 5.0 V (R145). -/
def State.biasPlan (s : State) (a : Nat) : Nat := bitsOf (leAt (s.sec T.PINS) 16 1) (2 * a) 2

/-- PINS.EXT_PA: are PA_EN and LNA_EN of the band used (R145)? -/
def State.extPa (s : State) (b : Nat) : Bool := (leAt (s.sec T.PINS) 18 1).testBit b

/-- L of SLOTFRAME and its NETWORK_ID (R147). -/
def State.slotL (s : State) : Nat := leAt (s.sec T.SLOTFRAME) 0 2
def State.networkId (s : State) : Nat := leAt (s.sec T.SLOTFRAME) 2 2

/-- One record of the cell map (R149). -/
structure Cell where
  slot : Nat
  band : Nat
  chan : Nat
  role : Nat
  owner : Nat
deriving DecidableEq, Repr

/-- Cell roles (R149). -/
abbrev Role.BEACON : Nat := 1
abbrev Role.RESYNC : Nat := 2
abbrev Role.JOIN : Nat := 3
abbrev Role.CTRL : Nat := 4
abbrev Role.DL_CTRL : Nat := 5
abbrev Role.UL_OBS : Nat := 8
abbrev Role.DL_FIX : Nat := 9
abbrev Role.DL_UNI : Nat := 10
abbrev Role.UL_SHARED : Nat := 11
abbrev Role.DL_BCAST : Nat := 12

/-- Does the module transmit in a cell of this role (R25, R27)? -/
def Role.tx (r : Nat) : Bool := r = 1 ∨ r = 5 ∨ r = 9 ∨ r = 10 ∨ r = 12

/-- The cells of `n` records of a CELL_MAP body from offset `o`. -/
def cellsFrom (b : Bytes) : Nat → Nat → List Cell
  | 0, _ => []
  | n + 1, o =>
    let c := leAt b (o + 1) 1
    ⟨leAt b o 1, bitsOf c 4 1, bitsOf c 0 4, leAt b (o + 2) 1, leAt b (o + 3) 1⟩ :: cellsFrom b n (o + 4)

/-- The records of a CELL_MAP body. -/
def cellsOf (b : Bytes) : List Cell := cellsFrom b (leAt b 2 2) 8

/-- The cell map in force. -/
def State.cells (s : State) : List Cell := cellsOf (s.sec T.CELL_MAP)

/-- Has the cell map in force a band B cell? -/
def State.bandBCells (s : State) : Bool := s.cells.any (·.band = 1)

/-- One record of MEMBERS (R151). -/
structure MemberRec where
  id : Nat
  cls : Nat
  groups : Nat
  prio : Nat
  enabled : Bool
  keyRef : Nat
  device : Nat
deriving DecidableEq, Repr

def membersFrom (b : Bytes) : Nat → Nat → List MemberRec
  | 0, _ => []
  | n + 1, o =>
    ⟨leAt b o 1, leAt b (o + 1) 1, leAt b (o + 2) 2, leAt b (o + 4) 1, (leAt b (o + 5) 1).testBit 0,
      leAt b (o + 6) 2, leAt b (o + 8) 8⟩ :: membersFrom b n (o + 16)

/-- The records of a MEMBERS body. -/
def membersOf (b : Bytes) : List MemberRec := membersFrom b (leAt b 0 2) 8

/-- The members of the plan in force. -/
def State.memberRecs (s : State) : List MemberRec := membersOf (s.sec T.MEMBERS)

/-- The record of a member ID. -/
def State.memberRec? (s : State) (m : Nat) : Option MemberRec := s.memberRecs.find? (·.id = m)

/-! ### Time -/

/-- FRC as a number. -/
def State.now (s : State) : Nat := s.frc.toNat

/-- The value of a time base at FRC `f` plus `phase` sixteenths of a tick, in units of 2^-16 ns (R219, R222). -/
def TimeBase.at (t : TimeBase) (f phase : Nat) : Int :=
  t.ta + ((16 * (f : Int) + phase - 16 * t.fa) * (65536000000 + t.adj)) / (26000 * 16)

/-- Time base `k` now, in units of 2^-16 ns. -/
def State.tbRaw (s : State) (k : Nat) : Int := (s.sdl.tbs.getD k {}).at s.now 0

/-- Time base `k` at an FRC value and phase, in whole nanoseconds (R219: truncated when read). -/
def State.tbNsAt (s : State) (k f phase : Nat) : Nat := ((s.sdl.tbs.getD k {}).at f phase / 65536).toNat

/-- Time base `k` now, in whole nanoseconds. -/
def State.tbNs (s : State) (k : Nat) : Nat := s.tbNsAt k s.now 0

/-- FRC_DEGRADED (R225): TB0 in HOLDOVER with UNTRUSTED set, whatever its hold time. -/
def State.degraded (s : State) : Bool := s.flag F.LODGE_CLK_STAT_FRC_DEGRADED

/-- The counts of FRC in the last tick of LCLK (R113). -/
def State.tickLen (s : State) : Nat := if s.degraded then 794 else 1

/-- Has time base `k` reached a whole multiple of `period` ns in the present tick? -/
def State.reached (s : State) (k period : Nat) : Bool :=
  s.tbNs k / period ≠ s.tbNsAt k (s.now - s.tickLen) 0 / period

/-- Has time base `k` come to `t` ns in the present tick? -/
def State.comes (s : State) (k t : Nat) : Bool := s.tbNsAt k (s.now - s.tickLen) 0 < t && t ≤ s.tbNs k

/-- The nanoseconds and the seconds field of a time in nanoseconds (R18). -/
def nsField (t : Nat) : Nat := t % 1000000000
def secField (t : Nat) : Nat := t / 1000000000 % 2 ^ 48

/-- The ASN of a TB0 time in nanoseconds (R22). -/
def asnOf (t : Nat) : Nat := t / 2500000 % 2 ^ 40

/-- The ASN of the slot in progress, as SDL_ASN holds it. -/
def State.asn (s : State) : Nat := s.getF F.SDL_ASN_LO + 2 ^ 32 * s.getF F.SDL_ASN_HI

/-- The first slotframe boundary at or after an ASN: the next multiple of L, or ASN 0 where ASN wraps before it (R22,
R23). -/
def boundaryFrom (l asn : Nat) : Nat :=
  let r := (asn + l - 1) / l * l
  if r < 2 ^ 40 then r else 0

/-- The first slotframe boundary that begins 2.5 ms or more after now (R36, R40). -/
def State.boundary (s : State) : Nat :=
  boundaryFrom (max s.slotL 1) ((s.tbNs 0 + 2500000 + 2499999) / 2500000 % 2 ^ 40)

/-- Does the slot of an ASN begin 2.5 ms or more after now, within half the range of ASN (R36)? -/
def State.asnAhead (s : State) (asn : Nat) : Bool :=
  (asn + 2 ^ 40 - (s.tbNs 0 + 2500000 + 2499999) / 2500000 % 2 ^ 40) % 2 ^ 40 < 2 ^ 39

/-- Has the FRC-counted time of `us` microseconds passed since FRC value `f`? -/
def State.since (s : State) (f us : Nat) : Bool := f + 26 * us ≤ s.now

/-- µs of TB0 into the slot in progress. -/
def State.slotUs (s : State) : Nat := s.tbNs 0 % 2500000 / 1000

/-! ### Interrupts (R174) -/

/-- A status bit set in both groups' SYS_IRQ status. -/
def State.irq (s : State) (b : Nat) : State :=
  s.setF ⟨0x200, b, 1⟩ 1 |>.setF ⟨0x208, b, 1⟩ 1

/-- A status bit set for one group: secure, or not. -/
def State.irqGrp (s : State) (sec : Bool) (b : Nat) : State :=
  s.setF ⟨if sec then 0x200 else 0x208, b, 1⟩ 1

abbrev Irq.STOP : Nat := 0
abbrev Irq.BOOT : Nat := 1
abbrev Irq.MBX_TAKEN : Nat := 3
abbrev Irq.CLAIM : Nat := 5
abbrev Irq.SWAP : Nat := 6
abbrev Irq.DOMAIN : Nat := 7

/-- A refused non-secure access: SEC_VIOL in SYS_IRQ_S_STAT and in the HOSTSPI status word (R163). -/
def State.secViol (s : State) : State :=
  { s.setF F.SYS_IRQ_S_STAT_SEC_VIOL 1 with hspi := { s.hspi with secViol := true } }

/-- SYS_SWAP_STAT.STATE written, with the SWAP interrupt of a change (R174). -/
def State.setSwap (s : State) (st : Nat) : State :=
  if s.getF F.SYS_SWAP_STAT_STATE = st then s else (s.setF F.SYS_SWAP_STAT_STATE st).irq Irq.SWAP

/-- SYS_PLAN_STAT.STATE written, with the BOOT interrupt of a change (R174). -/
def State.setPlanState (s : State) (st : Nat) : State :=
  if s.getF F.SYS_PLAN_STAT_STATE = st then s else (s.setF F.SYS_PLAN_STAT_STATE st).irq Irq.BOOT

/-! ### Statuses of work items common to every type (R212) -/

abbrev St.OK : Nat := 0
abbrev St.BUSY : Nat := 1
abbrev St.BAD_TYPE : Nat := 2
abbrev St.BAD_TASK : Nat := 3
abbrev St.SEC_DENIED : Nat := 4
abbrev St.NO_PLAN : Nat := 5
abbrev St.ABSENT : Nat := 6
abbrev St.NOT_EXPECTED : Nat := 7
abbrev St.DOMAIN_FAULT : Nat := 8
abbrev St.MALFORMED : Nat := 9
abbrev St.BAD_ARG : Nat := 10
abbrev St.CANCELLED : Nat := 11
abbrev St.CORE_FAULT : Nat := 12
abbrev St.FROZEN : Nat := 13
abbrev St.RESTARTED : Nat := 14

/-! ### Who may run -/

/-- Is an item of work in flight (R210)? -/
def State.inFlight (s : State) : Nat := s.arb.items.length

/-- Is it the item the Isben link submitted (R509)? -/
def State.linkItem (s : State) (wid : Nat) : Bool := s.svc.submit.any (·.2 = wid)

/-- The items in flight of one group; an item of the Isben link counts as an internal producer's (R509). -/
def State.inFlightOf (s : State) (g : Grp) : Nat :=
  (s.arb.items.filter (fun i => i.grp = g && !s.linkItem i.wid)).length

/-- The work item of an ID. -/
def State.item? (s : State) (wid : Nat) : Option WItem := s.arb.items.find? (·.wid = wid)

/-- The work item of an ID that is running or waiting for its unit, of type `typ`, and not yet finished. -/
def State.active? (s : State) (wid typ : Nat) : Option WItem :=
  match s.item? wid with
  | some i =>
    if i.typ = typ ∧ i.finished = false then
      match i.phase with
      | .running _ => some i
      | .waiting _ => some i
      | _ => none
    else none
  | none => none

/-- A work item changed. -/
def State.updItem (s : State) (wid : Nat) (f : WItem → WItem) : State :=
  { s with arb := { s.arb with items := s.arb.items.map (fun i => if i.wid = wid then f i else i) } }

/-- A handler ends a work item not yet ended: the status and result its completion record will carry (R212). -/
def State.finish (s : State) (wid status : Nat) (result : Bytes := []) : State :=
  s.updItem wid (fun i => if i.finished then i else { i with finished := true, status := status, result := result })

/-- A handler releases its core while it waits for another unit (R204). -/
def State.park (s : State) (wid : Nat) : State :=
  match s.item? wid with
  | some i =>
    match i.phase with
    | .running c =>
      { s.updItem wid (fun i => { i with phase := .waiting c }) with
        arb := { (s.updItem wid (fun i => { i with phase := .waiting c })).arb with
          cores := s.arb.cores.set c 0 } }
    | _ => s
  | none => s

/-- Argument `n` of a work item. -/
def WItem.arg (i : WItem) (n : Nat) : Nat := i.args.getD n 0

def State.updPower (s : State) (f : Power → Power) : State := { s with power := f s.power }

/-- The idle time of D5 or D13 starts (R109). -/
def State.idleStart (s : State) (d : Nat) : State :=
  s.updPower (fun p => if d = 5 then { p with idle5 := s.now } else if d = 13 then { p with idle13 := s.now } else p)

/-! ### Crossings (R119–R123) -/

def State.updXing (s : State) (i : Nat) (f : Xing → Xing) : State := { s with xings := updAt i f s.xings }

/-- The domains on the two sides of a PULSE or FIFO crossing that can be off (R121). -/
def xingDoms (i : Nat) : List Nat :=
  match i with
  | 0 => [2]
  | 1 => [2]
  | 2 => [2]
  | 3 => [2, 8]
  | 4 => [2, 9]
  | 5 => [2, 6]
  | 6 => [2, 12]
  | 7 => [9, 7]
  | 8 => [7, 9]
  | 9 => [8, 3]
  | 10 => [9, 3]
  | 11 => [11, 2]
  | 13 => [3, 8]
  | 14 => [3, 9]
  | 15 => [2, 11]
  | _ => []

/-- A pulse into a PULSE crossing (R120): a round trip starts, PENDING is set, or MERGED counts. With a side not ON, or
while the sides resynchronise, it is refused (R123). -/
def State.xingPulse (s : State) (i : Nat) : State :=
  if (xingDoms i).any (fun d => !s.domOn d) ∨ (s.xings.getD i {}).resync then s
  else s.updXing i (fun x =>
    if !x.busy then { x with busy := true }
    else if !x.pending then { x with pending := true }
    else { x with merged := min (x.merged + 1) 255 })

/-- A side of a crossing has lost items it held. -/
def State.xingLoses (s : State) (i : Nat) (some' : Bool) : State :=
  if some' then s.updXing i (fun x => { x with lost := true }) else s

/-- A wake source seen by Lodge (R97). -/
def State.wakeBy (s : State) (b : Nat) : State := s.updPower (fun p => { p with wakeReq := p.wakeReq ||| 2 ^ b })

end Sys2Proof.Machine
end

