-- ==== Sys2Proof/Machine/Motion.lean ====
section
/-! DEFINITION. Hermite pieces between knots (spec/12 R408), exactly, over the rationals: position, speed,
acceleration and jerk, and the extremes of speed and position on a piece. -/
namespace Sys2Proof.Machine

/-- A piece between two knots: its length in seconds, and position and speed at both ends. -/
structure Piece where
  h : Rat
  s0 : Rat
  v0 : Rat
  s1 : Rat
  v1 : Rat
deriving DecidableEq, Repr

/-- Position at u in [0, 1] (R408). -/
def Piece.pos (p : Piece) (u : Rat) : Rat :=
  (2 * u * u * u - 3 * u * u + 1) * p.s0 + (u * u * u - 2 * u * u + u) * p.h * p.v0 +
    (-2 * u * u * u + 3 * u * u) * p.s1 + (u * u * u - u * u) * p.h * p.v1

/-- Speed at u (R408). -/
def Piece.vel (p : Piece) (u : Rat) : Rat :=
  (6 * u * u - 6 * u) * (p.s0 - p.s1) / p.h + (3 * u * u - 4 * u + 1) * p.v0 + (3 * u * u - 2 * u) * p.v1

/-- Acceleration at u (R408). -/
def Piece.acc (p : Piece) (u : Rat) : Rat :=
  (12 * u - 6) * (p.s0 - p.s1) / (p.h * p.h) + (6 * u - 4) * p.v0 / p.h + (6 * u - 2) * p.v1 / p.h

/-- Jerk, constant on the piece (R408). -/
def Piece.jerk (p : Piece) : Rat := (12 * (p.s0 - p.s1) / (p.h * p.h) + 6 * (p.v0 + p.v1) / p.h) / p.h

def ratAbs (x : Rat) : Rat := if x < 0 then -x else x

/-- The largest |v| on the piece: at an end, or where the acceleration, which is linear, is zero. -/
def Piece.maxSpeed (p : Piece) : Rat :=
  let m := max (ratAbs p.v0) (ratAbs p.v1)
  let a0 := p.acc 0
  let a1 := p.acc 1
  if a0 * a1 < 0 then max m (ratAbs (p.vel (a0 / (a0 - a1)))) else m

/-- The smallest v on the piece. -/
def Piece.minVel (p : Piece) : Rat :=
  let m := min p.v0 p.v1
  let a0 := p.acc 0
  let a1 := p.acc 1
  if a0 * a1 < 0 then min m (p.vel (a0 / (a0 - a1))) else m

/-- A number p + q√d. -/
structure Surd where
  p : Rat
  q : Rat
deriving DecidableEq, Repr

def Surd.add (x y : Surd) : Surd := ⟨x.p + y.p, x.q + y.q⟩
def Surd.scale (c : Rat) (x : Surd) : Surd := ⟨c * x.p, c * x.q⟩
def Surd.mul (d : Rat) (x y : Surd) : Surd := ⟨x.p * y.p + x.q * y.q * d, x.p * y.q + x.q * y.p⟩

/-- Is p + q√d at or below 0, for d at or above 0? -/
def Surd.nonpos (d : Rat) (x : Surd) : Bool :=
  if x.p ≤ 0 ∧ x.q ≤ 0 then true
  else if 0 < x.p ∧ 0 ≤ x.q then false
  else if x.p ≤ 0 then x.q * x.q * d ≤ x.p * x.p
  else x.p * x.p ≤ x.q * x.q * d

/-- The position at a surd u. -/
def Piece.posSurd (pc : Piece) (d : Rat) (u : Surd) : Surd :=
  let u2 := Surd.mul d u u
  let u3 := Surd.mul d u2 u
  let c3 := 2 * pc.s0 + pc.h * pc.v0 - 2 * pc.s1 + pc.h * pc.v1
  let c2 := -3 * pc.s0 - 2 * pc.h * pc.v0 + 3 * pc.s1 - pc.h * pc.v1
  ((Surd.scale c3 u3).add (Surd.scale c2 u2)).add ((Surd.scale (pc.h * pc.v0) u).add ⟨pc.s0, 0⟩)

/-- Does s stay within [lo, hi] on the whole piece: at both ends and at each turning point inside it? -/
def Piece.within (pc : Piece) (lo hi : Rat) : Bool :=
  let ends := lo ≤ pc.s0 ∧ pc.s0 ≤ hi ∧ lo ≤ pc.s1 ∧ pc.s1 ≤ hi
  let c2 := 6 * (pc.s0 - pc.s1) / pc.h + 3 * pc.v0 + 3 * pc.v1
  let c1 := -6 * (pc.s0 - pc.s1) / pc.h - 4 * pc.v0 - 2 * pc.v1
  let d := c1 * c1 - 4 * c2 * pc.v0
  let ok (u : Surd) : Bool :=
    let inside := Surd.nonpos d (Surd.scale (-1) u) ∧ Surd.nonpos d (u.add ⟨-1, 0⟩)
    let s := pc.posSurd d u
    !inside || (Surd.nonpos d (s.add ⟨-hi, 0⟩) && Surd.nonpos d (Surd.add ⟨lo, 0⟩ (Surd.scale (-1) s)))
  if c2 = 0 then ends ∧ (if c1 = 0 then true else ok ⟨-pc.v0 / c1, 0⟩)
  else if d < 0 then ends
  else ends ∧ ok ⟨-c1 / (2 * c2), 1 / (2 * c2)⟩ ∧ ok ⟨-c1 / (2 * c2), -1 / (2 * c2)⟩

/-- The pieces of a knot list, `per` seconds to a unit of t. -/
def piecesOf (per : Rat) : List Knot → List Piece
  | a :: b :: ks => ⟨(b.t - a.t : Int) * per, a.s, a.v, b.s, b.v⟩ :: piecesOf per (b :: ks)
  | _ => []

/-- Position and speed of a knot list at time `t` in its own units, with `per` seconds to a unit; before the first
knot its values, after the last its position at rest. -/
def knotsAt (per : Rat) : List Knot → Rat → Rat × Rat
  | [], _ => (0, 0)
  | [k], _ => (k.s, k.v)
  | a :: b :: ks, t =>
    if t < b.t then
      let p : Piece := ⟨(b.t - a.t : Int) * per, a.s, a.v, b.s, b.v⟩
      let u := if t ≤ a.t then 0 else (t - a.t) / ((b.t - a.t : Int) : Rat)
      (p.pos u, p.vel u)
    else knotsAt per (b :: ks) t

/-! ### Ramps (R402) -/

/-- The times in µs of the jerk phases and of the constant phase between them of a run-up to `v` (R402), rounded up. -/
def rampTimes (v : Rat) (a j : Nat) : Nat × Nat :=
  let up (x : Rat) : Nat := x.ceil.toNat
  if (a : Rat) * a ≤ v * j then
    let tj := up ((a : Rat) * 1000000 / max j 1)
    (tj, up (v * 1000000 / max a 1) - tj)
  else (max 1 (Nat.sqrt (up (v * 1000000000000 / max j 1)) + 1), 0)

/-- The distance of a run-up to `v`. -/
def rampDist (v : Rat) (t : Nat × Nat) : Rat := v * (2 * t.1 + t.2) / 2000000

/-- Time, distance and speed at the phases' ends of a run-up to `v`. -/
def rampPoints (v : Rat) (t : Nat × Nat) : List (Nat × Rat × Rat) :=
  let n : Rat := max (t.1 + t.2) 1
  let v1 := v * t.1 / (2 * n)
  let s1 := v * t.1 * t.1 / (6 * n * 1000000)
  let d := rampDist v t
  [(t.1, s1, v1), (t.1 + t.2, d - (v * t.1 / 1000000 - s1), v - v1), (2 * t.1 + t.2, d, v)]

/-- The greatest speed, in 1/1024 of a unit, that `ok` admits, between `lo` and `hi`, for an `ok` that holds up to some speed. -/
def maxSpeedBy (ok : Rat → Bool) : Nat → Nat → Nat → Nat
  | 0, lo, _ => lo
  | f + 1, lo, hi =>
    let m := (lo + hi + 1) / 2
    if ok ((m : Rat) / 1024) then maxSpeedBy ok f m hi else maxSpeedBy ok f lo (m - 1)

/-- Is T strictly increasing? -/
def tIncreasing : List Knot → Bool
  | a :: b :: ks => a.t < b.t && tIncreasing (b :: ks)
  | _ => true

end Sys2Proof.Machine
end

