-- ==== Sys2Proof/Machine/Axis.lean ====
section
/-! DEFINITION. What the state of a Wicket axis says of its motion (spec/14): the WICKET record, the state code, and
position and speed at the present FRC. -/
namespace Sys2Proof.Machine

/-- The WICKET record of axis `n` (R466). -/
def State.axRec (s : State) (n : Nat) : Bytes := slice (s.sec T.WICKET) (64 * n) 64

/-- Is the axis USED in the plan? -/
def State.axUsed (s : State) (n : Nat) : Bool := n < 4 && s.planActive && (leAt (s.axRec n) 0 1).testBit 0
def State.axStallStop (s : State) (n : Nat) : Bool := (leAt (s.axRec n) 0 1).testBit 2
def State.axSoft (s : State) (n : Nat) : Bool := (leAt (s.axRec n) 0 1).testBit 3

/-- The axis behind its registers. -/
def State.ax (s : State) (n : Nat) : Axis := s.axes.getD n {}

/-- The axis changed. -/
def State.updAx (s : State) (n : Nat) (f : Axis → Axis) : State := { s with axes := updAt n f s.axes }

/-- State codes of an axis (R455). -/
abbrev Ax.DISABLED : Nat := 0
abbrev Ax.CHECKING : Nat := 1
abbrev Ax.HOLD : Nat := 2
abbrev Ax.MOVING : Nat := 3
abbrev Ax.HOMING : Nat := 4
abbrev Ax.EMERGENCY : Nat := 5
abbrev Ax.STALLED : Nat := 6
abbrev Ax.FAULT : Nat := 7

def State.axState (s : State) (n : Nat) : Nat := s.getF (F.WKT_AXn_STAT_STATE n)

/-- Seconds from FRC value `f` to now. -/
def State.secsFrom (s : State) (f : Nat) : Rat := ((s.now : Int) - (f : Int) : Int) / (26000000 : Rat)

/-- Position and speed of a run from speed `v` at `p` braked at rate `d`, after `t` seconds (R461). -/
def brakeAt (p v d t : Rat) : Rat × Rat :=
  let sg : Rat := if v < 0 then -1 else 1
  let te := if d = 0 then 0 else ratAbs v / d
  let t' := min (max t 0) te
  (p + v * t' - sg * d * t' * t' / 2, v - sg * d * t')

/-- Where a run from speed `v` at `p`, braked at rate `d`, stops: p + v·|v| / (2d) (R461). -/
def brakeEnd (p v d : Rat) : Rat := if d = 0 then p else p + v * ratAbs v / (2 * d)

/-- Position and speed of a homing run after `t` seconds: ACC up to its speed, then constant (R464). -/
def homingAt (p acc v t : Rat) (positive : Bool) : Rat × Rat :=
  let sg : Rat := if positive then 1 else -1
  let ta := if acc = 0 then 0 else v / acc
  if t < ta then (p + sg * acc * t * t / 2, sg * acc * t)
  else (p + sg * (v * t - v * ta / 2), sg * v)

/-- The commanded position and speed of an axis now (R448). -/
def State.axSV (s : State) (n : Nat) : Rat × Rat :=
  let a := s.ax n
  let still : Rat × Rat := (s.getI (F.WKT_AXn_POS n), 0)
  let st := s.axState n
  if st = Ax.MOVING then
    match a.braking with
    | some d => brakeAt a.rampS a.rampV d (s.secsFrom a.rampFrc)
    | none =>
      match a.cur with
      | some m =>
        let r := knotsAt (1 / 1000000) m.knots (((s.now : Int) - (a.start : Int) : Int) / (26 : Rat))
        ((a.base : Rat) + r.1, r.2)
      | none => still
  else if st = Ax.HOMING then
    match a.homing, a.braking with
    | some _, some d => brakeAt a.rampS a.rampV d (s.secsFrom a.rampFrc)
    | some h, none => homingAt a.rampS h.acc h.speed (s.secsFrom a.rampFrc) h.positive
    | none, _ => still
  else if st = Ax.EMERGENCY then
    brakeAt a.rampS a.rampV (s.getF (F.WKT_AXn_EDEC n)) (s.secsFrom a.rampFrc)
  else still

/-- s and v as whole numbers, rounded down (R449). -/
def State.axS (s : State) (n : Nat) : Int := (s.axSV n).1.floor
def State.axV (s : State) (n : Nat) : Int := (s.axSV n).2.floor

end Sys2Proof.Machine
end

