-- ==== Sys2Proof/Machine/Geometry.lean ====
section
/-! DEFINITION. The lane graph and its geometry (spec/12 R386–R391): records of LANE_GRAPH and CLASSES, points on an
edge, the nearest point of an edge. Angles and ratios are fixed-point numbers of 64 binary places; a point found lies
within 1 mm (log entry 23). -/
namespace Sys2Proof.Machine

/-! ### Records -/

structure GNode where
  id : Nat
  park : Bool
  wait : Bool
  e : Int
  n : Int
  u : Int
deriving DecidableEq, Repr

structure GEdge where
  id : Nat
  src : Nat
  dst : Nat
  curv : Int
  len : Nat
  vmax : Nat
  classes : Nat
deriving DecidableEq, Repr

/-- The lane graph in force. -/
structure Graph where
  nodes : List GNode
  edges : List GEdge
  confs : List (Nat × Nat)
deriving DecidableEq, Repr

/-- The graph of a LANE_GRAPH body (R386–R389). -/
def graphOf (b : Bytes) : Graph :=
  let nn := leAt b 0 2
  let ne := leAt b 2 2
  let nc := leAt b 4 2
  let eo := 16 + 16 * nn
  let co := eo + 16 * ne
  ⟨(List.range nn).map (fun i =>
      let o := 16 + 16 * i
      ⟨leAt b o 2, (leAt b (o + 2) 2).testBit 0, (leAt b (o + 2) 2).testBit 1, leAtI b (o + 4) 4, leAtI b (o + 8) 4,
        leAtI b (o + 12) 4⟩),
    (List.range ne).map (fun i =>
      let o := eo + 16 * i
      ⟨leAt b o 2, leAt b (o + 2) 2, leAt b (o + 4) 2, leAtI b (o + 6) 2, leAt b (o + 8) 4, leAt b (o + 12) 2,
        leAt b (o + 14) 2⟩),
    (List.range nc).map (fun i => (leAt b (co + 4 * i) 2, leAt b (co + 4 * i + 2) 2))⟩

def State.graph (s : State) : Graph := graphOf (s.sec T.LANE_GRAPH)

/-- A section of the swap that has passed its checks and is not yet EFFECTIVE (R155): its bars hold from the checks on,
through the store write before the state is shown (log entry 71). -/
def State.swapBody? (s : State) (t : Nat) : Option Bytes :=
  if s.getF F.SYS_SWAP_STAT_STATE = 3 ∨ s.swap.storing then (s.swap.sections.find? (·.1 = t)).map (·.2) else none

/-- Does that swap remove or change the edge (R155)? -/
def State.edgeBarred (s : State) (e : Nat) : Bool :=
  match s.swapBody? T.LANE_GRAPH with
  | some b => (graphOf b).edges.find? (·.id = e) ≠ s.graph.edges.find? (·.id = e)
  | none => false

/-- Does that swap remove or disable the member (R155)? -/
def State.memberBarred (s : State) (m : Nat) : Bool :=
  match s.swapBody? T.MEMBERS with
  | some b => !(membersOf b).any (fun r => r.id = m && r.enabled)
  | none => false

def Graph.edge? (g : Graph) (i : Nat) : Option GEdge := g.edges.find? (·.id = i)
def Graph.node? (g : Graph) (i : Nat) : Option GNode := g.nodes.find? (·.id = i)

/-- Do two edges conflict: the same edge, or a conflict pair? -/
def Graph.meets (g : Graph) (a b : Nat) : Bool := a = b || g.confs.any (fun p => p = (a, b) || p = (b, a))

/-- The edges incident to a node. -/
def Graph.incident (g : Graph) (n : Nat) : List Nat := (g.edges.filter (fun e => e.src = n ∨ e.dst = n)).map (·.id)

/-- A CLASSES record (R391). -/
structure GClass where
  selfSolve : Bool
  vmax : Nat
  acc : Nat
  dec : Nat
  jerk : Nat
  edec : Nat
  alat : Nat
  react : Nat
  front : Nat
  rear : Nat
  tolPos : Nat
  tolT : Nat
  posStale : Nat
deriving DecidableEq, Repr

/-- Record `c` of a CLASSES body. -/
def classOf (b : Bytes) (c : Nat) : GClass :=
  let o := 8 + 32 * c
  ⟨(leAt b o 1).testBit 0, leAt b (o + 2) 2, leAt b (o + 4) 2, leAt b (o + 6) 2, leAt b (o + 8) 2, leAt b (o + 10) 2,
    leAt b (o + 12) 2, leAt b (o + 14) 2, leAt b (o + 16) 2, leAt b (o + 18) 2, leAt b (o + 20) 2, leAt b (o + 22) 2,
    leAt b (o + 24) 2⟩

def State.cls (s : State) (c : Nat) : GClass := classOf (s.sec T.CLASSES) c

/-- The class of a member of the plan in force. -/
def State.clsOf (s : State) (m : Nat) : GClass := s.cls (((s.memberRec? m).map (·.cls)).getD 0)

/-! ### Fixed-point trigonometry -/

abbrev fxOne : Int := 2 ^ 64

def fxMul (a b : Int) : Int := a * b / fxOne

/-- Terms of a power series: the term of order `k`, then those two orders up, `n` of them. -/
def fxSeries (x2 : Int) : Nat → Int → Int → Int
  | 0, _, _ => 0
  | n + 1, k, t => t + fxSeries x2 n (k + 2) (-(fxMul t x2) / ((k + 1) * (k + 2)))

def fxSin (x : Int) : Int := fxSeries (fxMul x x) 14 1 x
def fxCos (x : Int) : Int := fxSeries (fxMul x x) 14 0 fxOne

/-! ### Points on an edge -/

/-- The point of an edge at distance `q` mm from its FROM node: on the chord of the arc's first `q` mm, which the whole
chord turned by (κq − φ)/2 gives (R388). -/
def Graph.point (g : Graph) (x : GEdge) (q : Int) : Int × Int :=
  match g.node? x.src, g.node? x.dst with
  | some a, some b =>
    let de := b.e - a.e
    let dn := b.n - a.n
    let c : Int := ((de * de + dn * dn) * 2 ^ 64).toNat.sqrt
    if c = 0 then (a.e, a.n)
    else if x.curv = 0 then (a.e + de * q / max x.len 1, a.n + dn * q / max x.len 1)
    else
      let al := x.curv * (q - x.len) * fxOne / 200000000
      let r := 2 * fxSin (x.curv * q * fxOne / 200000000) * 100000000 * 2 ^ 32 / x.curv
      let ce := de * fxCos al - dn * fxSin al
      let cn := de * fxSin al + dn * fxCos al
      (a.e + r * ce / c / (fxOne * fxOne), a.n + r * cn / c / (fxOne * fxOne))
  | _, _ => (0, 0)

/-- The up coordinate at `q` mm along an edge, linear between its nodes' (R388). -/
def Graph.up (g : Graph) (x : GEdge) (q : Int) : Int :=
  match g.node? x.src, g.node? x.dst with
  | some a, some b => a.u + (b.u - a.u) * q / max x.len 1
  | _, _ => 0

def dist2 (p q : Int × Int) : Int := (p.1 - q.1) * (p.1 - q.1) + (p.2 - q.2) * (p.2 - q.2)

/-- Does the distance to `p` still fall at `q` mm: is the point 1 mm on nearer? -/
def Graph.falls (g : Graph) (x : GEdge) (p : Int × Int) (q : Int) : Bool :=
  dist2 (g.point x (q + 64)) p < dist2 (g.point x (q - 64)) p

/-- Bisection for the place where the distance stops falling. -/
def Graph.bisect (g : Graph) (x : GEdge) (p : Int × Int) : Nat → Int → Int → Int
  | 0, lo, _ => lo
  | n + 1, lo, hi =>
    let m := (lo + hi) / 2
    if g.falls x p m then g.bisect x p n m hi else g.bisect x p n lo m

/-- The nearest point of an edge to `p`: its squared distance and its place along the edge. -/
def Graph.nearest (g : Graph) (x : GEdge) (p : Int × Int) : Int × Int :=
  let m := g.bisect x p 24 0 x.len
  let c : List (Int × Int) := [m, 0, x.len].map (fun q => (dist2 (g.point x q) p, q))
  c.foldl (fun a b => if b.1 < a.1 then b else a) (c.headD (0, 0))

/-- The nearest of some edges: squared distance, edge, place; ties to the lower EDGE_ID (R393). -/
def Graph.match? (g : Graph) (es : List GEdge) (p : Int × Int) : Option (Int × GEdge × Int) :=
  es.foldl (fun best x =>
    let r := g.nearest x p
    match best with
    | none => some (r.1, x, r.2)
    | some b => if r.1 < b.1 ∨ (r.1 = b.1 ∧ x.id < b.2.1.id) then some (r.1, x, r.2) else best) none

/-! ### Distances along the graph (R412) -/

/-- One relaxation of node distances over every edge, in either direction. -/
def Graph.relax (g : Graph) (d : List (Nat × Int)) : List (Nat × Int) :=
  let look (d : List (Nat × Int)) (n : Nat) : Option Int := (d.find? (·.1 = n)).map (·.2)
  let put (d : List (Nat × Int)) (n : Nat) (v : Int) : List (Nat × Int) :=
    match look d n with
    | some o => if v < o then (n, v) :: d.filter (·.1 ≠ n) else d
    | none => (n, v) :: d
  g.edges.foldl (fun d x =>
    let d1 := match look d x.src with | some v => put d x.dst (v + x.len) | none => d
    match look d1 x.dst with | some v => put d1 x.src (v + x.len) | none => d1) d

/-- Node distances from some nodes along the graph in either direction. -/
def Graph.dists (g : Graph) (d : List (Nat × Int)) : List (Nat × Int) :=
  (List.range g.nodes.length).foldl (fun d _ => g.relax d) d

/-- The edges a body covers that reaches `r` mm past node `n` of the edge `x` it stands on: those with an end nearer than
`r` to the node (R398). -/
def Graph.past (g : Graph) (x n : Nat) (r : Int) : List Nat :=
  if r ≤ 0 then []
  else
    let h : Graph := { g with edges := g.edges.filter (·.id ≠ x) }
    let d := h.dists [(n, 0)]
    (h.edges.filter (fun y => d.any (fun p => (p.1 = y.src ∨ p.1 = y.dst) ∧ p.2 < r))).map (·.id)

/-- The edges within a distance of a place on an edge, measured along the graph in either direction. -/
def Graph.within (g : Graph) (x : GEdge) (q : Int) (dist : Int) : List Nat :=
  let d := g.dists [(x.src, q), (x.dst, (x.len : Int) - q)]
  (g.edges.filter (fun y => y.id = x.id ∨ d.any (fun p => (p.1 = y.src ∨ p.1 = y.dst) ∧ p.2 ≤ dist))).map (·.id)

end Sys2Proof.Machine
end

