-- ==== Sys2Proof/Machine/Streams.lean ====
section
/-! DEFINITION. The stream windows (spec/05_host_port_mailboxes.md R188–R194, R567): levels, packets admitted and
taken, watermarks, and the event records that every unit writes to them. -/
namespace Sys2Proof.Machine

/-- A window's row of R188: input?, fleet?, depth, non-secure group may use it? -/
structure WinCfg where
  isIn : Bool
  fleet : Bool
  depth : Nat
  ns : Bool
deriving DecidableEq, Repr

/-- The catalogue of R188; none for the unassigned windows 10–15. -/
def winCfg (w : Nat) : Option WinCfg :=
  match w with
  | 0 => some ⟨false, false, 1024, false⟩
  | 1 => some ⟨false, false, 1024, true⟩
  | 2 => some ⟨false, false, 2048, true⟩
  | 3 => some ⟨false, false, 16384, true⟩
  | 4 => some ⟨false, false, 2048, true⟩
  | 5 => some ⟨true, true, 256, false⟩
  | 6 => some ⟨false, true, 512, false⟩
  | 7 => some ⟨true, true, 256, true⟩
  | 8 => some ⟨false, true, 512, true⟩
  | 9 => some ⟨false, true, 512, false⟩
  | _ => none

/-- The windows that serve work items and records. -/
abbrev Win.EVENTS_S : Nat := 0
abbrev Win.EVENTS_NS : Nat := 1
abbrev Win.FIXES : Nat := 2
abbrev Win.RAW_OBS : Nat := 3
abbrev Win.RTCM : Nat := 4
abbrev Win.VB_READ : Nat := 9

/-- The submit and the done window of a group (R206, R212). -/
def submitWin : Grp → Nat
  | .sec => 5
  | _ => 7

def doneWin : Grp → Nat
  | .sec => 6
  | _ => 8

/-- The window's content. -/
def State.strm (s : State) (w : Nat) : Strm := s.strms.getD w {}

/-- The words a window holds. -/
def Strm.level (q : Strm) : Nat := (q.pkts.map (·.words.length)).sum

/-- The complete packets a window holds. -/
def Strm.npkts (q : Strm) : Nat := (q.pkts.filter (·.closed)).length

/-- LEVEL of an output window, SPACE of an input window (SYS_STRM_STAT.LEVEL_SPACE). -/
def State.levelSpace (s : State) (w : Nat) : Nat :=
  match winCfg w with
  | some c => if c.isIn then c.depth - (s.strm w).level else (s.strm w).level
  | none => 0

/-- Is the watermark's live bit set (R193)? A WM of 0 disables it. -/
def State.wmAbove (s : State) (w : Nat) : Bool :=
  let wm := s.getF (F.SYS_STRM_WM_WM w)
  wm ≠ 0 ∧ wm < s.levelSpace w

/-- A window's content replaced; WM_HIT is set when the level compared rises above WM (R47, R193). -/
def State.setStrm (s : State) (w : Nat) (q : Strm) : State :=
  let s' := { s with strms := s.strms.set w q }
  if s'.wmAbove w ∧ ¬ s.wmAbove w then s'.setF (F.SYS_STRM_STAT_WM_HIT w) 1 else s'

/-- The words of a packet of bytes, four to a word, the last with EOP and its BYTES (R17, R207, R212); sequence
numbers from `seq`. -/
def packWords : Nat → Nat → Bytes → List SWord
  | 0, _, _ => []
  | n + 1, seq, bs =>
    let r := bs.drop 4
    ⟨word (leNat (bs.take 4)), min bs.length 4, r.isEmpty, seq % 65536⟩ ::
      (if r.isEmpty then [] else packWords n (seq + 1) r)

/-- Has an output window room for a whole packet of `n` words? -/
def State.hasRoom (s : State) (w n : Nat) : Bool :=
  match winCfg w with
  | some c => (s.strm w).level + n ≤ c.depth
  | none => false

/-- The number of words of a packet of `n` bytes. -/
def packLen (n : Nat) : Nat := max 1 ((n + 3) / 4)

/-- A whole packet pushed into an output window with room. -/
def State.pushPkt (s : State) (w : Nat) (bs : Bytes) : State :=
  let q := s.strm w
  let ws := packWords (packLen bs.length) q.seq bs
  s.setStrm w { q with pkts := q.pkts ++ [⟨ws, true, false⟩], seq := (q.seq + ws.length) % 65536 }

/-- A packet offered to an observer window: admitted whole, or dropped and counted in OVERRUN (R49, R192). -/
def State.observe (s : State) (w : Nat) (bs : Bytes) : State :=
  if !s.domOn 2 then s
  else if s.hasRoom w (packLen bs.length) then s.pushPkt w bs
  else s.incF (F.SYS_STRM_OVERRUN_OVERRUN w)

/-- The tagged word of R17. -/
def SWord.tagged (x : SWord) : DWord :=
  BitVec.ofNat 64 (x.data.toNat + x.seq * 2 ^ 32 + (x.bytes - 1) * 2 ^ 59 + (if x.eop then 2 ^ 62 else 0))

/-- NV set, all else zero (R17). -/
def nvWord : DWord := 0x8000000000000000

/-- May a master use the window (R162, R188)? -/
def winAllowed (m : Master) (w : Nat) : Bool :=
  match winCfg w with
  | some c => m.secure || c.ns
  | none => true

/-- The head of an output window: its word, and the packets after the pop; none where nothing may be presented
(R189, R190). -/
def Strm.head? (q : Strm) (cutThrough : Bool) : Option (SWord × List Pkt) :=
  match q.pkts with
  | [] => none
  | p :: ps =>
    match p.words with
    | [] => none
    | x :: xs =>
      if p.closed ∨ cutThrough then
        some (x, if xs.isEmpty ∧ p.closed then ps else { p with words := xs } :: ps)
      else none

/-- A read of a stream window's data port: the word read, and the state after the pop (R189–R191). -/
def State.streamPop (s : State) (w : Nat) : DWord × State :=
  match winCfg w with
  | none => (nvWord, s)
  | some c =>
    if c.isIn then (nvWord, s)
    else
      match (s.strm w).head? (s.flag (F.SYS_STRM_CTRL_CUT_THROUGH w)) with
      | none => (nvWord, s)
      | some (x, ps) => (x.tagged, s.setStrm w { s.strm w with pkts := ps })

/-- The stream word of a 64-bit tagged word. -/
def sword (v : DWord) (seq : Nat) : SWord :=
  let n := v.toNat
  ⟨word n, bitsOf n 59 3 + 1, n.testBit 62, seq⟩

/-- The packets with a word put behind them: into the open packet at the end, or a new one. -/
def addWord : List Pkt → SWord → List Pkt
  | [], x => [⟨[x], x.eop, false⟩]
  | [p], x => if p.closed then [p, ⟨[x], x.eop, false⟩] else [{ p with words := p.words ++ [x], closed := x.eop }]
  | p :: ps, x => p :: addWord ps x

/-- The packets with a word of the packet in hand lost: the packet marked, and closed where the word had EOP (R191). -/
def loseWord : List Pkt → Bool → List Pkt
  | [], e => [⟨[], e, true⟩]
  | [p], e => if p.closed then [p, ⟨[], e, true⟩] else [{ p with lost := true, closed := e }]
  | p :: ps, e => p :: loseWord ps e

/-- A write to a stream window's data port (R191): an input window takes the word, with NV clear, or discards it and
sets REFUSED when full; a write to an output window or an unassigned one is ignored. -/
def State.streamPush (s : State) (w : Nat) (v : DWord) : State :=
  match winCfg w with
  | none => s
  | some c =>
    if !c.isIn then s
    else
      let q := s.strm w
      if q.level < c.depth then
        s.setStrm w { q with pkts := addWord q.pkts (sword v q.seq), seq := (q.seq + 1) % 65536 }
      else
        { s with strms := s.strms.set w { q with pkts := loseWord q.pkts (v.toNat.testBit 62) } }.setF
          (F.SYS_STRM_STAT_REFUSED w) 1

/-- FLUSH of a window: an observer window empties and restarts SEQ; a fleet window ignores it (R194). -/
def State.flush (s : State) (w : Nat) : State :=
  match winCfg w with
  | some c => if c.fleet then s else s.setStrm w { s.strm w with pkts := [], seq := 0 }
  | none => s

/-- Every window emptied when D2 leaves ON or is reset: SEQ restarts, DROPPED where words were lost (R567). -/
def State.emptyStreams (s : State) : State :=
  (List.range 10).foldl (fun s w =>
    let s' := if (s.strm w).level = 0 then s else s.setF (F.SYS_STRM_STAT_DROPPED w) 1
    { s' with strms := s'.strms.set w {} }) s

/-! ### Event records -/

/-- The 24-byte record of R385, shared by Gazebo, Bandstand, Belvedere and Wicket events: UNIT, KIND, MEMBER, INFO,
VALUE and TB0. -/
def State.eventBytes (s : State) (unit kind member info value : Nat) : Bytes :=
  [byte unit, byte kind, byte member, byte info] ++ leBytes 4 value ++ leBytes 4 (nsField (s.tbNs 0)) ++
    leBytes 6 (secField (s.tbNs 0)) ++ zeros 6

/-- A Gazebo event, to both event windows (R447). -/
def State.gzbEvent (s : State) (kind info value : Nat) (member : Nat := 0) : State :=
  let b := s.eventBytes 2 kind member info value
  (s.observe Win.EVENTS_S b).observe Win.EVENTS_NS b

/-- An event to EVENTS_NS. -/
def State.nsEvent (s : State) (unit kind member info value : Nat) : State :=
  s.observe Win.EVENTS_NS (s.eventBytes unit kind member info value)

/-- The window of a Sundial event: EVENTS_S for a compare owned SECURE, else EVENTS_NS (R242). -/
def sdlWin (secure : Bool) : Nat := if secure then Win.EVENTS_S else Win.EVENTS_NS

/-- A Sundial event record (R242). Without D2, whose windows take it, it waits for D2 (R239, log entry 74). -/
def State.sdlEvent (s : State) (kind index tb late : Nat) (t : Nat) (frc : Nat) (secure : Bool := false) : State :=
  let flags := tb + 4 * late + 8 * s.getF F.SDL_STAT_UNTRUSTED
  let bs := [byte 5, byte kind, byte index, byte flags] ++ leBytes 4 (nsField t) ++ leBytes 6 (secField t) ++ zeros 2 ++
    leBytes 8 frc
  if s.domOn 2 then s.observe (sdlWin secure) bs else { s with sdl := { s.sdl with owed := s.sdl.owed ++ [(secure, bs)] } }

/-- D2 is ON again: the Sundial records that waited are pushed, oldest first. -/
def State.sdlOwed (s : State) : State :=
  let t : State := { s with sdl := { s.sdl with owed := [] } }
  s.sdl.owed.foldl (fun u p => u.observe (sdlWin p.1) p.2) t

end Sys2Proof.Machine
end

