-- ==== Sys2Proof/Machine/ArbCore.lean ====
section
/-! DEFINITION. Events addressed to domains (spec/03 R42, R102, R103) and the scheduler's rules shared by every unit
(spec/06): the work-item catalogue, tasks and their gates, eligibility, flags, internal items. -/
namespace Sys2Proof.Machine

/-! ### Events addressed to domains -/

/-- An event held for a domain. -/
def State.hold (s : State) (d : Nat) (w : HeldWhat) : State :=
  { s with power := { s.power with held := s.power.held ++ [(d, w)] } }

/-- Has the domain an event held? -/
def State.hasHeld (s : State) (d : Nat) : Bool := s.power.held.any (·.1 = d)

/-- The start of a power-up: D2 first where the domain needs it and it is OFF (R103); D11 needs no D2 in Watch
(R110), where nothing addresses it through this operation. -/
def State.startPwrUp (s : State) (d : Nat) : State :=
  if d = 2 ∨ s.isOn 2 then s.setDom d DS.pwrUp
  else if s.dom 2 = DS.off then s.setDom 2 DS.pwrUp
  else if s.dom 2 = DS.shutdown then s.setDom 2 DS.pendingOn
  else if s.dom 2 = DS.pendingOff then s.setDom 2 DS.pwrUp
  else s

/-- An event addressed to a domain (R42, R102): an off domain powers up and the event is held until it is ON; one without
its clock takes it when the clock returns (R114). -/
def State.domEvent (s : State) (d : Nat) (w : HeldWhat) : State :=
  if !s.powered ∨ s.domUnused d then s
  else if s.dom d = DS.off then (s.hold d w).startPwrUp d
  else if s.dom d = DS.pwrUp ∨ s.dom d = DS.pendingOn then s.hold d w
  else if s.dom d = DS.shutdown then (s.hold d w).setDom d DS.pendingOn
  else if s.dom d = DS.pendingOff then (s.hold d w).setDom d DS.pwrUp
  else if s.dom d = DS.on ∧ !s.clocked d then s.hold d w
  else s

/-- Orangery's engines are called for: D13 powers up where it is not ON (R42). -/
def State.needD13 (s : State) : State := if s.domOn 13 ∨ s.hasHeld 13 then s else s.domEvent 13 .work

/-! ### The work-item catalogue (R213) -/

/-- A catalogue row: the unit (none for "—"), whether only the secure group may submit it. -/
structure CatRow where
  unit : Option Nat
  secOnly : Bool
deriving DecidableEq, Repr

abbrev W.NOP : Nat := 0x0001
abbrev W.SIGNAL : Nat := 0x0002
abbrev W.CANCEL : Nat := 0x0003
abbrev W.SDL_ARM : Nat := 0x0010
abbrev W.SDL_STEER : Nat := 0x0011
abbrev W.BV_SURVEY : Nat := 0x0020
abbrev W.BV_SEARCH : Nat := 0x0021
abbrev W.SLV_ROVER : Nat := 0x0030
abbrev W.BS_SEND : Nat := 0x0040
abbrev W.BS_MEMBER : Nat := 0x0041
abbrev W.PGL_PLAN : Nat := 0x0050
abbrev W.PGL_ASSIGN : Nat := 0x0051
abbrev W.PGL_RELEASE : Nat := 0x0052
abbrev W.WKT_MOVE : Nat := 0x0060
abbrev W.WKT_HOME : Nat := 0x0061
abbrev W.ORG_KEY_UPDATE : Nat := 0x0070
abbrev W.ORG_DERIVE : Nat := 0x0071
abbrev W.GZB_CLEAR : Nat := 0x0080
abbrev W.VB_READ : Nat := 0x0090
abbrev W.VB_MARK : Nat := 0x0091
abbrev W.TEST_RUN : Nat := 0x00B0

def catRow (t : Nat) : Option CatRow :=
  if t = W.NOP ∨ t = W.SIGNAL ∨ t = W.CANCEL then some ⟨none, false⟩
  else if t = W.SDL_ARM then some ⟨some U.SDL, false⟩
  else if t = W.SDL_STEER then some ⟨some U.SDL, true⟩
  else if t = W.BV_SURVEY then some ⟨some U.BV, true⟩
  else if t = W.BV_SEARCH then some ⟨some U.BV, false⟩
  else if t = W.SLV_ROVER then some ⟨some U.SLV, true⟩
  else if t = W.BS_SEND then some ⟨some U.BSA, false⟩
  else if t = W.BS_MEMBER then some ⟨some U.BSA, true⟩
  else if t = W.PGL_PLAN ∨ t = W.PGL_ASSIGN ∨ t = W.PGL_RELEASE then some ⟨some U.PGL, false⟩
  else if t = W.WKT_MOVE ∨ t = W.WKT_HOME then some ⟨some U.WKT, false⟩
  else if t = W.ORG_KEY_UPDATE ∨ t = W.ORG_DERIVE then some ⟨some U.ORG, true⟩
  else if t = W.GZB_CLEAR then some ⟨some U.GZB, true⟩
  else if t = W.VB_READ then some ⟨some U.VB, true⟩
  else if t = W.VB_MARK then some ⟨some U.VB, false⟩
  else if t = W.TEST_RUN then some ⟨some U.TEST, true⟩
  else none

/-- The domain a unit's tasks serve; D3 for "—" (R216). -/
def unitDom (u : Nat) : Nat :=
  if u = U.SDL then 2 else if u = U.BV then 6 else if u = U.SLV then 7
  else if u = U.BSA ∨ u = U.BSB then 8 else if u = U.PGL then 10 else if u = U.WKT then 12
  else if u = U.ORG then 13 else if u = U.GZB then 1 else if u = U.VB ∨ u = U.TEST then 0 else 3

/-- The domain a host task serves (R216): for a QUEUE task that of the unit of its TYPE, for an EVENT task that of the unit
whose routine catalogue holds its HANDLER, which the spec does not list: free (log entry 20). -/
def handlerDom (event : Bool) (h : Nat) : Nat :=
  if event then unitDom (Config.routineUnit h)
  else match (catRow h).bind (·.unit) with
    | some u => unitDom u
    | none => 3

/-! ### Tasks (R195, R196, R568) -/

/-- The priorities of the system tasks 0–15 (R195). -/
def sysPrio : List Nat := [0, 1, 2, 2, 2, 1, 4, 3, 5, 3, 6, 6, 7, 2, 15, 12]

/-- A task as the scheduler sees it: a system task under R568, or a host task of the TASKS section. -/
def State.task? (s : State) (t : Nat) : Option TaskSt :=
  if t < 16 then
    some { id := t, prio := sysPrio.getD t 15, event := false, all := false, mask := 0, handler := 0,
           conc := if t = 2 ∨ t = 14 then 2 else 1, access := 0, qmax := 512 }
  else s.arb.tasks.find? (·.id = t)

/-- The domain a task serves. -/
def TaskSt.dom (t : TaskSt) : Nat := if t.id < 16 then 3 else handlerDom t.event t.handler

/-- May a group submit to the task (ACCESS bits 0 and 1)? -/
def TaskSt.mayS (t : TaskSt) : Bool := t.access.testBit 0
def TaskSt.mayNs (t : TaskSt) : Bool := t.access.testBit 1
/-- ACCESS bits 2 to 4 (R216). -/
def TaskSt.nsEvent (t : TaskSt) : Bool := t.access.testBit 2
def TaskSt.maskRw (t : TaskSt) : Bool := t.access.testBit 3
def TaskSt.consume (t : TaskSt) : Bool := t.access.testBit 4

/-- May the group submit to the task? -/
def TaskSt.may (t : TaskSt) : Grp → Bool
  | .sec => t.mayS
  | .ns => t.mayNs
  | .int => true

/-- Does the task's gate hold (R196)? -/
def TaskSt.gate (t : TaskSt) : Bool :=
  if t.mask = 0 then !t.event
  else if t.all then (t.flags &&& t.mask) = t.mask else (t.flags &&& t.mask) ≠ 0

/-- The domains of a link under test (R542, R564). -/
def testDoms (link : Nat) : List Nat :=
  if link ≤ 1 then [11] else if link = 3 ∨ link = 5 then [8] else if link = 4 ∨ link = 6 then [9]
  else if link = 7 then [4, 6] else if link = 9 then [12] else []

/-- Is a link under test? -/
def State.testing (s : State) (link : Nat) : Bool := s.test.any (·.link = link)

/-- Does an item not yet dispatched, or an EVENT task whose gate holds, wait for the domain (R203), or does a running test power
it (R564)? -/
def State.wanted (s : State) (d : Nat) : Bool :=
  s.test.any (fun t => (testDoms t.link).contains d) ||
    s.arb.items.any (fun i => i.phase = .queued && (s.task? i.task).any (·.dom = d)) ||
    s.arb.tasks.any (fun t => t.event && t.gate && t.dom = d)

/-- The items of a task not yet dispatched, oldest first. -/
def State.queued (s : State) (t : Nat) : List WItem :=
  s.arb.items.filter (fun i => i.task = t ∧ i.phase = .queued)

/-- Is the item running on a core? -/
def WItem.onCore (i : WItem) : Bool := match i.phase with | .running _ => true | _ => false

/-- The cores a task occupies. -/
def State.taskRuns (s : State) (t : TaskSt) : Nat :=
  t.runs.length + (s.arb.items.filter (fun i => i.task = t.id ∧ i.onCore)).length

/-- Every task: the system tasks and the host tasks. -/
def State.allTasks (s : State) : List TaskSt := (List.range 16).filterMap s.task? ++ s.arb.tasks

/-- The eligible entry of a task: its ready stamp, and the item, if the task has a queue (R199). -/
def State.entry? (s : State) (t : TaskSt) : Option (Nat × Option Nat) :=
  if t.gate ∧ s.taskRuns t < t.conc ∧ s.domOn t.dom then
    if t.event then some (t.stamp, none)
    else (s.queued t.id).head?.map (fun i => (i.stamp, some i.wid))
  else none

/-- The eligible entries of a priority level: task, stamp, item. -/
def State.entriesAt (s : State) (lvl : Nat) : List (Nat × Nat × Option Nat) :=
  (s.allTasks.filter (·.prio = lvl)).filterMap (fun t => (s.entry? t).map (fun e => (t.id, e.1, e.2)))

/-- The oldest entry of a level; equal stamps in round-robin order of the level's token (R200, R48). -/
def State.oldestAt (s : State) (lvl : Nat) : Option (Nat × Nat × Option Nat) :=
  let es := s.entriesAt lvl
  let m := es.foldl (fun m e => min m e.2.1) (es.headD (0, 0, none)).2.1
  let c := es.filter (·.2.1 = m)
  (fromToken (s.arb.tokens.getD lvl 0) (c.map (·.1))).head?.bind (fun t => c.find? (·.1 = t))

/-- The idle cores. -/
def State.idleCores (s : State) : List Nat := (List.range 8).filter (fun k => s.arb.cores.getD k 0 = 0)

/-- RESERVE_CORES, RESERVE_LEVEL, QUOTA_S and QUOTA_NS of TASKS, or their defaults without a plan (R211, R216). -/
def State.reserveCores (s : State) : Nat := if s.planActive then leAt (s.sec T.TASKS) 2 1 else 0
def State.reserveLevel (s : State) : Nat := if s.planActive then leAt (s.sec T.TASKS) 3 1 else 15
def State.quota (s : State) (g : Grp) : Nat :=
  match g with
  | .sec => if s.planActive then leAt (s.sec T.TASKS) 4 2 else 224
  | .ns => if s.planActive then leAt (s.sec T.TASKS) 6 2 else 224
  | .int => 512

/-- The dispatch decision over the levels from `lvl` on (R201): the entry to start, none where it must wait. -/
def State.pick (s : State) : Nat → Nat → Option (Nat × Nat × Option Nat)
  | 0, _ => none
  | n + 1, lvl =>
    if s.reserveLevel < lvl ∧ s.idleCores.length ≤ s.reserveCores then none
    else match s.oldestAt lvl with
      | some e => some e
      | none => State.pick s n (lvl + 1)

/-- The numerically lowest level with an eligible entry (ARB_STAT.LOW_READY). -/
def State.lowReady (s : State) : Option Nat := (List.range 16).find? (fun l => (s.entriesAt l) ≠ [])

/-! ### Flags (R198, R218) -/

/-- A host task changed. -/
def State.updTask (s : State) (t : Nat) (f : TaskSt → TaskSt) : State :=
  { s with arb := { s.arb with tasks := s.arb.tasks.map (fun x => if x.id = t then f x else x) } }

/-- The task with a flag set; a flag already set counts in MERGED; a gate that comes to hold is stamped (R198, R199). -/
def TaskSt.raise (t : TaskSt) (flag stamp : Nat) : TaskSt :=
  let t' : TaskSt := if t.flags.testBit flag then { t with merged := min (t.merged + 1) 255 }
    else { t with flags := t.flags ||| 2 ^ flag }
  if t'.gate ∧ ¬ t.gate then { t' with stamp := stamp } else t'

/-- A flag of a host task set: an EVENT task whose gate now holds powers its domain (R203). -/
def State.raiseFlag (s : State) (t flag : Nat) : State :=
  let s' := { s.updTask t (·.raise flag s.arb.cycle) with
    arb := { (s.updTask t (·.raise flag s.arb.cycle)).arb with cycle := s.arb.cycle + 1 } }
  match s'.task? t with
  | some x => if x.event ∧ x.gate then s'.domEvent x.dom .flag else s'
  | none => s'

/-- A flag of a host task cleared. -/
def State.clearFlag (s : State) (t flag : Nat) : State :=
  s.updTask t (fun x => { x with flags := if x.flags.testBit flag then x.flags - 2 ^ flag else x.flags })

/-- May a master or group act on a task's flags (R218): a host task that exists; the non-secure group only with
NS_EVENT. -/
def State.mayEvent (s : State) (secure : Bool) (t : Nat) : Bool :=
  if t < 16 then false
  else match s.task? t with
    | some x => secure || x.nsEvent
    | none => false

/-- ARB_EVT_SET on one flag, or EVT_DENIED (R218). -/
def State.evtSet (s : State) (secure : Bool) (t flag : Nat) : State :=
  if s.mayEvent secure t then s.raiseFlag t (flag % 32) else s.setF F.ARB_FAULT_EVT_DENIED 1

/-! ### Items -/

/-- An item put in flight, in the acceptance cycle that stamps it (R199, R210). -/
def State.addItem (s : State) (g : Grp) (typ task : Nat) (quiet : Bool) (tag : Nat) (args : List Nat)
    (payload : Bytes) : State :=
  let i : WItem := ⟨s.arb.nextWid, g, typ, task, quiet, tag, args, payload, s.arb.cycle, .queued, false, 0, [],
    s.gzb.causes, s.stopStands, []⟩
  { s with arb := { s.arb with items := s.arb.items ++ [i], nextWid := s.arb.nextWid + 1, cycle := s.arb.cycle + 1 } }

/-- The type of internal items; the spec gives the range 0x8000–0xFFFF (R213) and names none (log entry 21). -/
abbrev W.INTERNAL : Nat := 0x8000

/-- An internal item raised into a system task's queue (R568); with 512 in flight, and while D3 does not run, its producer
waits (R42, R211). A source of work in the memories that D3 has lost raises nothing. -/
def State.raiseTask (s : State) (t : Nat) : State :=
  if s.power.boot then s
  else if s.domOn 3 ∧ s.inFlight < 512 then s.addItem .int W.INTERNAL t true 0 [] []
  else { s with arb := { s.arb with waitInternal := s.arb.waitInternal ++ [t] } }

/-- The producers that waited go on where D3 runs. -/
def State.raiseOwed (s : State) : State :=
  if s.domOn 3 then
    s.arb.waitInternal.foldl State.raiseTask { s with arb := { s.arb with waitInternal := [] } }
  else s

end Sys2Proof.Machine
end

