-- ==== Sys2Proof/Machine/UnitViews.lean ====
section
/-! DEFINITION. What the units' registers show of state held behind them, block by block: Sundial, Belvedere, SOLVE,
Bandstand and the fleet, Pergola, Orangery, Lodge's wake-up receiver; and the small readings of that state every later
file uses. -/
namespace Sys2Proof.Machine

/-! ### Words from fields -/

/-- Fields put together into a word: pairs of lowest bit and value. -/
def packW (fs : List (Nat × Nat)) : Word := word (fs.foldl (fun n f => n + f.2 * 2 ^ f.1) 0)

/-- A stored word with some fields replaced by live values: lowest bit, width, value. -/
def overlay (w : Word) (fs : List (Nat × Nat × Nat)) : Word :=
  word (fs.foldl (fun n f => putBits n f.1 f.2.1 f.2.2) w.toNat)

def b2n (b : Bool) : Nat := if b then 1 else 0

/-- TEST mode (R543). -/
def State.testMode (s : State) : Bool := s.flag F.TEST_STAT_MODE

/-- The domain of a band. -/
def bandDom (b : Nat) : Nat := 8 + b

/-- Band A, or band B. -/
def State.band (s : State) (b : Nat) : Band := if b = 0 then s.bsa else s.bsb

/-- BS_STAT.RUN: the band follows the cell map, which TEST mode forbids (R543). -/
def State.bandRun (s : State) (b : Nat) : Bool :=
  b < 2 && s.domOn (bandDom b) && s.planActive && s.flag F.SDL_STAT_SLOT_RUN && !s.testMode &&
    (b = 0 || s.bandBCells)

/-- Does Gazebo key the band's pad now (R348)? -/
def State.blanked (s : State) (b : Nat) : Bool := s.gzb.train.any (fun t => b = 0 || t.rfb)

/-- Is the band's transmitter keying its pad now (R71)? -/
def State.keying (s : State) (b : Nat) : Bool := (s.band b).tx.any (fun p => p.1 ≤ s.now ∧ s.now < p.2)

/-- Is the wake-up receiver blanked: the module transmits on band A (R346), a stop train, a frame or a wake word? -/
def State.wurBlanked (s : State) : Bool := s.blanked 0 || s.keying 0

def State.mbr? (s : State) (m : Nat) : Option Mbr := s.fleet.mbrs.find? (·.id = m)

/-- A member's entry; FREE where none is held. -/
def State.mbr (s : State) (m : Nat) : Mbr := (s.mbr? m).getD { id := m }

/-- pred(t) of R339. -/
def Mbr.pred (x : Mbr) (t : Nat) : Rat := x.ofs + x.drift * ((t : Int) - (x.te : Int) : Int) / 1000000

/-- Rounded to the nearest integer, halves away from zero. -/
def roundRat (x : Rat) : Int := if x < 0 then -((-x + 1 / 2).floor) else (x + 1 / 2).floor

/-- Fields of the TIME section (R246). -/
def State.timeF (s : State) (o n : Nat) : Nat := leAt (s.sec T.TIME) o n
def State.timeFlag (s : State) (b : Nat) : Bool := (s.timeF 1 1).testBit b

/-- States of TB0 (R227). -/
abbrev Tb.FREE : Nat := 0

/-- States of TB0 (R227). -/
abbrev Tb.LOCKING : Nat := 1

/-- States of TB0 (R227). -/
abbrev Tb.LOCKED : Nat := 2

/-- States of TB0 (R227). -/
abbrev Tb.HOLDOVER : Nat := 3

/-- Hold time in seconds (R228). -/
def State.holdTime (s : State) : Nat := if s.getF F.SDL_STAT_STATE = Tb.HOLDOVER then (s.now - s.sdl.holdFrom) / 26000000 else 0

/-- The error estimate of R228, ns; without a plan HOLD_DRIFT counts as 0 (DESIGN CHOICE, log entry 86). -/
def State.holdErr (s : State) : Nat :=
  if s.getF F.SDL_STAT_STATE = Tb.HOLDOVER then
    let t := s.holdTime
    min (s.sdl.e0 + s.sdl.func * t + s.timeF 14 2 * t * t / 200) (2 ^ 32 - 1)
  else 0

def State.alloc (s : State) (n : Nat) : Nat := leAt (s.sec T.GNSS_TRK) (16 + 2 * n) 2

def State.monCh (s : State) : Nat := leAt (s.sec T.GNSS_TRK) 11 1

/-- The first channel of a code's own: codes in order, then MON_CH, then the float pool (log entry 25). -/
def State.ownBase (s : State) (n : Nat) : Nat := ((List.range n).map s.alloc).sum

/-- The first channel of a code's own: codes in order, then MON_CH, then the float pool (log entry 25). -/
def State.floatBase (s : State) : Nat := s.ownBase 22 + s.monCh

/-- The partition whose SIG_MASK holds a code (R254, R274). -/
def State.partOf? (s : State) (sig : Nat) : Option Nat :=
  let b := s.sec T.GNSS_ACQ
  (List.range (leAt b 0 1)).find? (fun p => (leAt b (12 + 16 * p) 4).testBit sig)

/-- The active antenna: 0 or 1. -/
def State.ant (s : State) : Nat := s.getF F.BV_STAT_ANT_ACTIVE

def State.chan? (s : State) (c : Nat) : Option BvChan := s.bv.chans.find? (·.ch = c)

/-- The mean of a survey so far, 0.1 mm. -/
def Survey.mean (v : Survey) : List Int := v.sum.map (fun x => if v.t = 0 then 0 else x / v.t)

abbrev Ch.SEARCH : Nat := 1

abbrev Ch.PULL_IN : Nat := 2

abbrev Ch.CODE_LOCK : Nat := 3

abbrev Ch.PHASE_LOCK : Nat := 4

abbrev Ch.LOST : Nat := 5

/-- A slot's content; EMPTY where none is listed. -/
def State.slot (s : State) (n : Nat) : KeySlot := Sparse.read (fun _ => {}) s.org.slots n

/-- ORG_SLOT_ATTR of a slot. -/
def KeySlot.attr (k : KeySlot) : Word :=
  let b (x : Bool) : Nat := if x then 1 else 0
  packW [(0, k.cls), (4, b (k.cls ≠ 0)), (5, b k.persist), (6, b k.expire), (7, b k.wipe), (9, b k.limited),
    (10, b k.exhausted), (11, b k.isSealed)]

def State.node? (s : State) (i : Nat) : Option OrgNode := s.org.nodes.find? (·.idx = i)

/-- Are keys withheld: some sensor reads active (R492)? -/
def State.keysWithheld (s : State) : Bool := s.getF F.ORG_TAMPER_NOW ≠ 0

/-- The device UID as bytes, byte 0 first. -/
def uidBytes : Bytes := leBytes 16 Config.uid.toNat

def Band.key? (b : Band) (e : Nat) : Option BsKey := b.keys.find? (·.entry = e)

/-- RT (R396). -/
def State.rtNow (s : State) : Int := (s.asn / 4 % 2 ^ 32 : Nat)

/-- A time in RT as the nearest to the present `now` of those equal to it modulo 2^32 (R396). -/
def rtNear (now x : Int) : Int := now + ((x - now + 2 ^ 31) % 2 ^ 32 - 2 ^ 31)

/-- A window with its times taken against the present. -/
def Win.near (now : Int) (w : Win) : Win := { w with start := rtNear now w.start, stop := w.stop.map (rtNear now) }

/-- The slots from ASN `a` to ASN `b`, across the wrap of the counter at 2^40. -/
def asnDiff (a b : Nat) : Int := ((b : Int) - a + 2 ^ 39) % 2 ^ 40 - 2 ^ 39

def State.pm? (s : State) (m : Nat) : Option PMbr := s.pgl.mbrs.find? (·.id = m)

def State.pm (s : State) (m : Nat) : PMbr := (s.pm? m).getD { id := m }

/-- The table in force at an ASN: the last that has started. -/
def PMbr.tabAt (x : PMbr) (asn : Nat) : Option SegTab := (x.tabs.filter (fun t => 0 ≤ asnDiff t.asn asn)).getLast?

/-- The tables granted that have not started at an ASN and follow the one in force. -/
def PMbr.future (x : PMbr) (asn : Nat) : List SegTab := (x.tabs.reverse.takeWhile (fun t => asnDiff t.asn asn < 0)).reverse

/-- The last tick of a table. -/
def SegTab.endTick (t : SegTab) : Int := (t.knots.getLast?.map (·.t)).getD 0

/-- Position and speed on the path of a table at an ASN (R408); the table's ticks are 10 ms. -/
def SegTab.atAsn (t : SegTab) (asn : Nat) : Rat × Rat :=
  knotsAt (1 / 100) t.knots ((asnDiff t.asn asn : Rat) / 4)

/-- Is the member executing a table at an ASN: the one in force has not ended? -/
def PMbr.executing (x : PMbr) (asn : Nat) : Bool := (x.tabAt asn).any (fun t => asnDiff t.asn asn < 4 * t.endTick)

/-- The deceleration a member's table in force is in (R418): the table's number and the ASN at which its speed stops
falling. -/
def State.decelerating (s : State) (x : PMbr) : Option (Nat × Nat) :=
  match x.tabAt s.asn with
  | some t =>
    let v (k : Nat) : Rat := (t.atAsn ((s.asn + 4 * k) % 2 ^ 40)).2
    if v 1 < v 0 then
      ((List.range (t.endTick.toNat + 1)).find? (fun k => v k ≤ v (k + 1))).map (fun k => (t.seq, (s.asn + 4 * k) % 2 ^ 40))
    else none
  | none => none

/-- Is the member still in the deceleration that was deferred? -/
def State.deferredNow (s : State) (x : PMbr) : Bool :=
  match x.deferred, x.tabAt s.asn with
  | some (q, a), some t => t.seq = q && 0 < asnDiff s.asn a
  | _, _ => false

/-- The channels of a band and region (R319). -/
def bandChannels (band region : Nat) : Nat :=
  if band = 0 then (if region = 0 then 16 else if region = 1 then 64 else 0) else if region = 0 then 16 else 0

/-- The hop table of a BAND body. -/
def hopOf (b : Bytes) : List Nat := (slice b 4 (leAt b 1 1)).map (·.toNat)

/-- A member's rover; as at join where none is held. -/
def State.rover (s : State) (m : Nat) : Rover := (s.slv.rovers.find? (·.member = m)).getD { member := m }

/-- Is the member one whose fixes SOLVE computes? -/
def State.central (s : State) (m : Nat) : Bool := (s.memberRec? m).isSome && !(s.clsOf m).selfSolve

/-! ### Views -/

/-- A signed number as a 32-bit word, saturating. -/
def satWord (v : Int) : Word := word (satI32 v % 2 ^ 32).toNat

/-- A measured field: free (log entry 22). -/
def State.measured (s : State) (a width : Nat) : Nat := Config.measured a s.now % 2 ^ width

/-- SDL_PTP_STAT.clockClass: with a port a time transmitter and TB0_SRC not PTP, by TB0's state (R245); else that of the
grandmaster followed last, 0 without one (DEDUCED, log entry 70). -/
def State.clockClass (s : State) : Nat :=
  let master (n : Nat) : Bool := s.getF ⟨R.SDL_PTP_STAT, 4 * n, 4⟩ = 6
  if s.eth.ptpSlave.isSome ∨ s.timeF 0 1 = 2 ∨ !(master 0 || master 1) then s.eth.gmClass
  else if s.flag F.SDL_STAT_UNTRUSTED then 52
  else if s.getF F.SDL_STAT_STATE = Tb.LOCKED then 6
  else if s.getF F.SDL_STAT_STATE = Tb.HOLDOVER then 7 else 248

def viewSdl (s : State) (a : Nat) : Word :=
  if a = R.SDL_HOLD_TIME then word s.holdTime
  else if a = R.SDL_HOLD_ERR then word s.holdErr
  else if a = R.SDL_PTP_STAT then overlay (s.rd a) [(8, 8, s.clockClass)]
  else s.rd a

/-- The base position BV_BASE shows: the active antenna's, the running mean while SURVEYING (R268). -/
def State.basePos (s : State) : List Int :=
  match s.bv.survey with
  | some v => v.mean
  | none => (s.bv.pos.getD s.ant none).getD [0, 0, 0]

/-- SURVEY is SURVEYED or FIXED (R268, R311). -/
def State.surveyed (s : State) : Bool := s.getF F.BV_STAT_SURVEY = 2 || s.getF F.BV_STAT_SURVEY = 3

/-- BV_RTCM_STAT shows WITHHELD for as long as R311 withholds every message. -/
def viewBv (s : State) (m : Master) (a : Nat) : Word :=
  let sel := s.chan? (s.getF (F.BV_CH_SEL_CH.bank m))
  if a = R.BV_STAT then overlay (s.rd a) [(5, 1, b2n (s.bv.running ≠ []))]
  else if R.BV_BASE_X_LO ≤ a ∧ a ≤ R.BV_BASE_Z_HI then
    let i := (a - R.BV_BASE_X_LO) / 4
    word ((s.basePos.getD (i / 2) 0 % 2 ^ 64).toNat / 2 ^ (32 * (i % 2)))
  else if R.BV_ALLOCn 0 ≤ a ∧ a < R.BV_FLOAT then
    let n := (a - R.BV_ALLOCn 0) / 4
    packW [(0, s.alloc n % 512), (16, (s.bv.chans.filter (fun x => x.sig = n ∧
      (x.state = Ch.CODE_LOCK ∨ x.state = Ch.PHASE_LOCK))).length % 512)]
  else if a = R.BV_FLOAT then
    packW [(0, (320 - s.floatBase) % 512), (16, (s.bv.chans.filter (·.float)).length % 512)]
  else if a = R.BV_RTCM_STAT then
    if s.domOn 6 ∧ (s.sec? T.RTCM_OUT).isSome ∧ !s.surveyed then overlay (s.rd a) [(0, 1, 0), (1, 1, 1)] else s.rd a
  else if a = R.BV_ACQ_STAT then
    overlay (s.rd a) [(0, 4, maskOf4 (fun p => s.bv.running.any (·.1 = p))), (8, 8, min s.bv.searches.length 255)]
  else if a = R.BV_CH_STAT then
    match sel with
    | none => 0
    | some x => packW [(0, x.state), (3, x.ant), (4, x.sys), (7, b2n x.float), (8, x.svid), (16, x.sig),
        (21, b2n x.spoof), (22, b2n x.interf), (23, b2n x.excluded)]
  else if a = R.BV_CH_CN0 then
    match sel with
    | none => 0
    | some x => packW [(0, min x.cn0 65535), (16, x.elev % 256), (24, x.slips % 256)]
  else s.rd a
where
  maskOf4 (p : Nat → Bool) : Nat := ((List.range 4).map (fun i => if p i then 2 ^ i else 0)).sum

def viewSlv (s : State) (m : Master) (a : Nat) : Word :=
  let sel := s.getF (F.SLV_ROV_SEL_MEMBER.bank m)
  let r := s.rover sel
  if a = R.SLV_STAT then
    overlay (s.rd a) [(4, 4, ((List.range 4).map (fun l => if (s.slv.lanes.getD l none).isSome then 2 ^ l else 0)).sum),
      (8, 8, (s.slv.rovers.filter (fun r => s.central r.member)).length)]
  else if a = R.SLV_ROV_STAT then
    if (s.memberRec? sel).isNone then 0
    else packW [(0, r.status), (4, b2n (r.enabled && s.central sel)), (5, b2n r.search), (6, b2n r.held),
      (7, b2n (s.clsOf sel).selfSolve), (8, min r.fixes.length 255), (16, min r.ratio 255), (24, min r.consec 255)]
  else if a = R.SLV_ROV_BASELINE then word (min r.baseline (2 ^ 32 - 1))
  else if a = R.SLV_ROV_TTFF then word (min r.ttff (2 ^ 32 - 1))
  else s.rd a

/-- BS_CFG of a band, from the plan in force. -/
def State.bsCfg (s : State) (b : Nat) : Word :=
  let body := s.sec (T.BAND_A + b)
  if s.planActive ∧ body ≠ [] then
    packW [(0, bandChannels b (leAt body 0 1)), (7, leAt body 0 1 % 2), (8, leAt body 1 1), (16, if b = 0 then 4 else 8),
      (24, leAt body 2 1)]
  else 0

/-- The channel offsets of the module receive cells of the slot in progress on a band, as a mask (R334). -/
def State.rxCells (s : State) (b : Nat) : Nat :=
  maskOf (fun d => s.cells.any (fun c => c.slot = s.asn % max s.slotL 1 ∧ c.band = b ∧ c.chan = d ∧ ¬ Role.tx c.role ∧
    c.role ≠ Role.RESYNC))

def viewBs (s : State) (b : Nat) (m : Master) (a : Nat) : Word :=
  let key := (s.band b).key? (s.getF ((F.BS_KEY_SEL_ENTRY b).bank m))
  let part := s.mbr? (s.getF (F.BSA_PART_SEL_MEMBER.bank m))
  let mem := s.mbr? (s.getF (F.BSA_MBR_SEL_MEMBER.bank m))
  let us := s.tbNs 0 / 1000
  let ns (x : Rat) : Word := satWord (x * 1000).floor
  if a = R.BS_STAT b then
    overlay (s.rd a) [(0, 1, b2n (s.bandRun b)), (1, 1, b2n s.stopStands), (2, 1, b2n (s.blanked b)),
      (3, 1, b2n (b = 0 && s.flag (F.BS_STAT_WAKE_TX 0) && s.keying 0)),
      (4, 8, if s.bandRun b then s.measured a (if b = 0 then 4 else 8) &&& s.rxCells b else 0)]
  else if a = R.BS_CFG b then s.bsCfg b
  else if R.BS_DESYNCk b 0 ≤ a ∧ a ≤ R.BS_DESYNCk b 3 then
    let k := (a - R.BS_DESYNCk b 0) / 4
    word ((s.fleet.mbrs.filter (fun x => x.desync ∧ 32 * k < x.id ∧ x.id ≤ 32 * k + 32)).map
      (fun x => 2 ^ (x.id - 32 * k - 1))).sum
  else if a = R.BS_KEY_STAT b then
    match key with
    | none => 0
    | some k => packW [(0, 1), (1, b2n k.exhausted)]
  else if a = R.BS_KEY_TXCNT b then word ((key.map (·.tx)).getD 0)
  else if a = R.BS_KEY_RXCNT b then word ((key.map (·.rx)).getD 0)
  else if b = 1 then s.rd a
  else if a = R.BSA_PART_STAT then
    match part with
    | none => 0
    | some x => packW [(0, b2n x.desync), (1, b2n x.valid), (2, b2n x.queued), (8, min x.resTries 255),
        (16, if x.valid then min ((us - x.te) / 1000) 65535 else 0)]
  else if a = R.BSA_PART_OFS then (part.map (fun x => ns x.ofs)).getD 0
  else if a = R.BSA_PART_DRIFT then
    (part.map (fun x => word (((x.drift * 256).floor) % 65536).toNat)).getD 0
  else if a = R.BSA_PART_PRED then (part.map (fun x => ns (x.pred us))).getD 0
  else if a = R.BSA_RESYNC then
    overlay (s.rd a) [(0, 8, s.fleet.resyncFor.getD 0), (8, 8, s.fleet.desyncQ.length)]
  else if a = R.BSA_MBR_STAT then
    match mem with
    | none => 0
    | some x => packW [(0, x.state), (3, b2n x.silent), (4, b2n x.desync), (5, x.robot % 8), (8, x.bcnAge % 16),
        (12, min x.missed 15), (16, x.schedSeq % 256)]
  else if a = R.BSA_MBR_SESSION then word ((mem.map (·.session)).getD 0)
  else if a = R.BSA_MBR_JOINS then
    word (((s.fleet.joins.find? (·.1 = s.getF (F.BSA_MBR_SEL_MEMBER.bank m))).map (·.2)).getD 0)
  else s.rd a

/-- PGL_MBR_STAT.STATE of a member: FROZEN, POS_LOST, MOVING while it executes a table, PARKED while it holds windows,
else IDLE (log entry 36). -/
def State.pmState (s : State) (x : PMbr) : Nat :=
  if x.left ∨ (s.mbr x.id).silent then 3
  else if x.posLost then 4
  else if x.executing s.asn then 1
  else if s.pgl.wins.any (·.member = x.id) then 2 else 0

/-- Do two half-open windows overlap or touch? -/
def winTouch (a0 : Int) (a1 : Option Int) (b0 : Int) (b1 : Option Int) : Bool :=
  (match a1 with | some e => b0 ≤ e | none => true) && (match b1 with | some e => a0 ≤ e | none => true)

/-- A window put beside others: with those that `same` names and that overlap or touch it, it becomes one (R398), of the
kind that ends last. -/
def mergeWin (same : Win → Win → Bool) (ws : List Win) (w : Win) : List Win :=
  let near (x : Win) : Bool := same x w && winTouch x.start x.stop w.start w.stop
  let j := (ws.filter near).foldl (fun a x =>
    let late : Bool := match a.stop, x.stop with | some p, some q => p < q | some _, none => true | none, _ => false
    { a with
      kind := if late then x.kind else a.kind, start := min a.start x.start, stop := if late then x.stop else a.stop }) w
  ws.filter (fun x => !near x) ++ [j]

/-- Windows of one member on one edge. -/
def Win.sameEdge (a b : Win) : Bool := a.member = b.member && a.edge = b.edge

/-- Merged twice, so that a window that joins two others joins them all. -/
def mergeWins (ws : List Win) : List Win :=
  (ws.foldl (mergeWin Win.sameEdge) []).foldl (mergeWin Win.sameEdge) []

/-- The windows held, each member's on an edge merged where they overlap or touch (R398). State holds them by the table
and rule that granted them, so that R407 can release a table's own. -/
def State.windows (s : State) : List Win := mergeWins (s.pgl.wins.map (Win.near s.rtNow))

/-- The windows of an edge in ascending START (R397). -/
def State.edgeWins (s : State) (e : Nat) : List Win :=
  let put : List Win → Win → List Win := fun ws w => ws.filter (·.start ≤ w.start) ++ [w] ++ ws.filter (w.start < ·.start)
  (mergeWins ((s.pgl.wins.filter (·.edge = e)).map (Win.near s.rtNow))).foldl put []

def viewPgl (s : State) (m : Master) (a : Nat) : Word :=
  let sel := s.getF (F.PGL_MBR_SEL_MEMBER.bank m)
  let e := s.getF (F.PGL_EDGE_SEL_EDGE.bank m)
  let w := (s.edgeWins e)[s.getF (F.PGL_EDGE_SEL_WIN.bank m)]?
  let i32 (v : Int) : Word := word (v % 2 ^ 32).toNat
  if a = R.PGL_STAT then
    overlay (s.rd a) [(1, 1, b2n s.pgl.planning.isSome), (8, 8, s.pgl.store.length)]
  else if a = R.PGL_GRAPH0 then packW [(0, s.graph.nodes.length % 8192), (16, s.graph.edges.length % 16384)]
  else if a = R.PGL_GRAPH1 then
    packW [(0, s.graph.confs.length % 32768), (16, leAt (s.sec T.CLASSES) 0 1 % 32)]
  else if a = R.PGL_WIN_USED then word s.windows.length
  else if a = R.PGL_RT then i32 s.rtNow
  else if R.PGL_MBR_STAT ≤ a ∧ a ≤ R.PGL_MBR_ARRIVE then
    match s.pm? sel with
    | none => if a = R.PGL_MBR_STAT then packW [(24, ((s.memberRec? sel).map (·.prio % 16)).getD 0)] else 0
    | some x =>
      if a = R.PGL_MBR_STAT then
        packW [(0, s.pmState x), (3, b2n x.offGraph), (4, b2n x.task.isSome),
          (5, b2n (s.deferredNow x)), (8, x.segSent % 256), (16, x.segConf % 256),
          (24, ((s.memberRec? sel).map (·.prio % 16)).getD 0)]
      else if a = R.PGL_MBR_POS_E then (x.pos.map (fun p => i32 p.1)).getD 0
      else if a = R.PGL_MBR_POS_N then (x.pos.map (fun p => i32 p.2)).getD 0
      else if a = R.PGL_MBR_EDGE then packW [(0, x.edge % 65536), (16, min x.dev 65535)]
      else if a = R.PGL_MBR_GOAL then packW [(0, x.goal.getD 0 % 65536), (16, (x.task.map (·.cur)).getD 0 % 256)]
      else word x.arrive
  else if a = R.PGL_EDGE_STAT then
    packW [(0, min (s.edgeWins e).length 63), (6, b2n (s.graph.edge? e).isSome)]
  else if a = R.PGL_WIN_START then (w.map (fun x => i32 x.start)).getD 0
  else if a = R.PGL_WIN_END then (w.map (fun x => i32 (x.stop.getD 0))).getD 0
  else if a = R.PGL_WIN_INFO then
    (w.map (fun x => packW [(0, x.member % 256), (8, x.kind % 8), (11, b2n x.stop.isNone)])).getD 0
  else s.rd a

def viewOrg (s : State) (m : Master) (a : Nat) : Word :=
  let k := s.slot (s.getF (F.ORG_SLOT_SEL_SLOT.bank m))
  let i := s.getF (F.ORG_NODE_SEL_NODE.bank m)
  let label := ((s.node? i).map (·.label)).getD []
  if a = R.ORG_STAT then
    overlay (s.rd a) [(1, 1, b2n (s.org.slots.any (fun p => p.2.cls = 1))),
      (2, 1, b2n s.org.commit.isSome), (3, 1, b2n s.keysWithheld), (4, 1, b2n s.keysWithheld),
      (8, 6, s.org.slots.length)]
  else if a = R.ORG_WIPE then word s.flash.wipeFuses
  else if R.ORG_UIDk 0 ≤ a ∧ a ≤ R.ORG_UIDk 3 then word (leAt uidBytes (a - R.ORG_UIDk 0) 4)
  else if a = R.ORG_SLOT_ATTR then k.attr
  else if a = R.ORG_SLOT_KEY_ID then word k.keyId
  else if a = R.ORG_SLOT_USES then if k.limited then word k.uses else 0
  else if a = R.ORG_NODE_STAT then
    match s.node? i with
    | none => 0
    | some n => packW [(0, n.state), (8, n.parent), (16, n.label.length)]
  else if R.ORG_NODE_LABELk 0 ≤ a ∧ a ≤ R.ORG_NODE_LABELk 3 then word (leAt label (a - R.ORG_NODE_LABELk 0) 4)
  else s.rd a

/-- LODGE_WUR_STAT: the wake-up receiver listens in every state but Off and deep standby, blanked while the module
transmits on band A (R346). -/
def viewWur (s : State) : Word :=
  let on := s.powered && s.getF F.LODGE_PWR_STATE_STATE ≠ 4
  let bl := s.wurBlanked
  overlay (s.rd R.LODGE_WUR_STAT) [(0, 1, b2n (on && !bl)), (1, 1, b2n (on && bl))]

end Sys2Proof.Machine
end

