-- ==== Sys2Proof/Machine/Views.lean ====
section
/-! DEFINITION. What a register read shows: the stored word, or, where a register shows live state held elsewhere, a
view of that state. Nothing here changes the state. -/
namespace Sys2Proof.Machine

/-! ### RECORDER settings (spec/17 R529, R533) -/

/-- The settings of one Visitor book code. -/
structure VbCfg where
  enable : Bool
  snap : Bool
  incl : Bool
  ess : Bool
  nsMark : Bool
  burst : Nat
  refill : Nat
  blocks : Nat
deriving DecidableEq, Repr

/-- The fixed codes (R529). -/
def vbFixed (c : Nat) : Bool := c = 1 ∨ c = 6 ∨ c = 7 ∨ c = 0xA

/-- The system codes (R529). -/
def vbSystem : List Nat := [0x01, 0x02, 0x03, 0x04, 0x05, 0x06, 0x07, 0x08, 0x09, 0x0A, 0x10, 0x11, 0x12, 0x18, 0x20,
  0x28, 0x30, 0x38, 0x40, 0x48, 0x50, 0x51, 0x52, 0x58]

/-- The settings of a code: RECORDER's, or those without an active plan; a fixed code is always enabled and
essential, includes every block and has no rate limit (R529, R533). -/
def State.vbCfg (s : State) (c : Nat) : VbCfg :=
  let b := s.sec T.RECORDER
  let o := 16 + 8 * c
  let fl := leAt b o 1
  if vbFixed c then
    ⟨true, if s.planActive then fl.testBit 1 else false, true, true, false, 8, 0, 0x1FFFF⟩
  else if s.planActive then
    ⟨fl.testBit 0, fl.testBit 1, fl.testBit 2, fl.testBit 3, fl.testBit 4, leAt b (o + 1) 1, leAt b (o + 2) 2,
      bitsOf (leAt b (o + 4) 4) 0 17⟩
  else ⟨vbSystem.contains c, false, false, false, false, 8, 1000, 0⟩

/-- FREEZE_WHEN_FULL and RESERVE of RECORDER (R531, R533). -/
def State.vbFreezes (s : State) : Bool := s.planActive && (leAt (s.sec T.RECORDER) 0 1).testBit 0
def State.vbReserve (s : State) : Nat := if s.vbFreezes then leAt (s.sec T.RECORDER) 1 1 else 0

/-- A bucket with the tokens returned that came back by FRC value `now`, one every `ms` from the first spend since it was full
(R530). -/
def Bucket.refilled (b : Bucket) (ms now : Nat) : Bucket :=
  let n := if ms = 0 then 0 else min b.spent ((now - b.since) / (26000 * ms))
  { b with spent := b.spent - n, since := b.since + 26000 * ms * n }

/-- The bucket of a code now; full where none is listed (R530). -/
def State.bucket (s : State) (c : Nat) : Bucket :=
  ((s.vb.buckets.find? (·.code = c)).getD ⟨c, 0, 0, 0⟩).refilled (s.vbCfg c).refill s.now

/-- The tokens a code has. -/
def State.tokens (s : State) (c : Nat) : Nat := (s.vbCfg c).burst - (s.bucket c).spent

/-! ### Interrupt lines (spec/05 R174) -/

/-- A unit's interrupt condition: its enable, with any W1C bit of its status register set. -/
def State.unitCond (s : State) (en : Fld) (stat : Nat) : Bool :=
  s.flag en && (match regRow stat with
    | some r => (s.rd stat).toNat &&& r.w1c ≠ 0
    | none => false)

/-- The UNIT level for a group (R174): the conditions of the unit chapters. -/
def State.unitIrq (s : State) (sec : Bool) : Bool :=
  (s.flag F.GZB_CTRL_FAULT_IRQ && s.rd R.GZB_FAULT ≠ 0) || s.unitCond F.VB_CTRL_IRQ_EN R.VB_STAT ||
  (s.flag F.SDL_CTRL_IRQ_EN &&
    (s.flag F.SDL_STAT_STEPPED || s.flag F.SDL_STAT_STATE_CHG || s.flag F.SDL_STAT_COMP_LOST)) ||
  s.unitCond (F.ETH_Pn_CTRL_IRQ_EN 0) (R.ETH_Pn_STAT 0) || s.unitCond (F.ETH_Pn_CTRL_IRQ_EN 1) (R.ETH_Pn_STAT 1) ||
  s.unitCond F.BV_CTRL_IRQ_EN R.BV_STAT || s.unitCond F.SLV_CTRL_IRQ_EN R.SLV_STAT ||
  s.unitCond (F.BS_CTRL_IRQ_EN 0) (R.BS_STAT 0) || s.unitCond (F.BS_CTRL_IRQ_EN 1) (R.BS_STAT 1) ||
  s.unitCond F.PGL_CTRL_IRQ_EN R.PGL_STAT || s.unitCond F.WKT_CTRL_IRQ_EN R.WKT_STAT ||
  (s.flag F.LODGE_TEMP_IRQ_EN && (s.flag F.LODGE_TEMP_HOT_SEEN || s.flag F.LODGE_TEMP_OVER_SEEN)) ||
  (sec && (s.unitCond F.ORG_CTRL_IRQ_EN R.ORG_STAT || s.unitCond F.UPD_CTRL_IRQ_EN R.UPD_STAT))

/-- MBX_POST of a group: a device-to-host channel of the group has GO set. -/
def State.mbxPost (s : State) (sec : Bool) : Bool :=
  (if sec then [24, 25, 26, 27, 28, 29, 30, 31] else [8, 9, 10, 11, 12, 13, 14, 15]).any
    (fun c => s.flag (F.MBX_CTRL_GO c))

/-- STREAM of a group: WM_HIT with IRQ_EN in a window the group may read. -/
def State.streamIrq (s : State) (sec : Bool) : Bool :=
  (List.range 10).any (fun w => s.flag (F.SYS_STRM_STAT_WM_HIT w) && s.flag (F.SYS_STRM_CTRL_IRQ_EN w) &&
    (sec || (match winCfg w with | some c => c.ns | none => false)))

/-- SYS_IRQ_S_STAT or SYS_IRQ_NS_STAT, with its level bits live. -/
def State.irqStat (s : State) (sec : Bool) : Word :=
  overlay (s.rd (if sec then 0x200 else 0x208))
    [(2, 1, b2n (s.mbxPost sec)), (4, 1, b2n (s.streamIrq sec)), (8, 1, b2n (s.unitIrq sec))]

/-- Is IRQ_S or IRQ_NS asserted, that is driven low (R174)? -/
def State.irqLine (s : State) (sec : Bool) : Bool :=
  s.irqStat sec &&& s.rd (if sec then 0x204 else 0x20C) ≠ 0

/-! ### Views by block -/

def viewSys (s : State) (a : Nat) : Word :=
  if a = R.SYS_ID then packW [(0, partCode s.part), (16, s.siStep)]
  else if a = R.SYS_UNITS then word (unitsOf s.part)
  else if a = 0x200 then s.irqStat true
  else if a = 0x208 then s.irqStat false
  else if a = R.SYS_MAC0_LO then (Config.mac 0).truncate 32
  else if a = R.SYS_MAC0_HI then ((Config.mac 0).toNat / 2 ^ 32 : Nat)
  else if a = R.SYS_MAC1_LO then (Config.mac 1).truncate 32
  else if a = R.SYS_MAC1_HI then ((Config.mac 1).toNat / 2 ^ 32 : Nat)
  else if 0x140 ≤ a ∧ a < 0x170 then word (leAt s.power.measured (a - 0x140) 4)
  else s.rd a

/-- The crossing LODGE_XING_SEL selects: IDs 9–11 have two directions, held from 13 on (R121). An ID above 12 names no crossing:
LODGE_XING_STAT reads 0 for it and a write clears nothing (DESIGN CHOICE, log entry 85). -/
def xingIdx (id dir : Nat) : Nat := if 12 < id then 16 else if dir = 1 ∧ 9 ≤ id ∧ id ≤ 11 then id + 4 else id

def State.xing (s : State) (i : Nat) : Xing := s.xings.getD i {}

def viewLodge (s : State) (a : Nat) : Word :=
  if a = R.LODGE_FRC_LO then word s.now
  else if a = R.LODGE_DOM_STAT0 then packW ((List.range 8).map (fun d => (4 * d, s.dom d)))
  else if a = R.LODGE_DOM_STAT1 then packW ((List.range 6).map (fun d => (4 * d, s.dom (d + 8))))
  else if a = R.LODGE_XING_STAT then
    let x := s.xing (xingIdx (s.getF F.LODGE_XING_SEL_ID) (s.getF F.LODGE_XING_SEL_DIR))
    packW [(0, x.merged), (8, b2n x.pending), (9, b2n x.dropped), (10, b2n x.resync)]
  else if a = R.LODGE_WUR_STAT then viewWur s
  else if a = R.LODGE_CLK_STAT then
    let off (d : Nat) : Bool := s.dom d = DS.off || s.dom d = DS.lockout || s.dom d = DS.absent
    let lock (f : Fld) (ds : List Nat) : Nat := if ds.all off then 0 else s.getF f
    overlay (s.rd a) [(2, 1, lock F.LODGE_CLK_STAT_SYS_LOCK [2, 3, 10, 12, 13]),
      (3, 1, lock F.LODGE_CLK_STAT_CORR_LOCK [4, 5, 6, 7]), (4, 1, lock F.LODGE_CLK_STAT_ETH_LOCK [11])]
  else if a = R.LODGE_PS_STAT then
    overlay (s.rd a) [(1, 1, b2n (s.ps.running ≠ [])), (2, 6, min s.ps.waiting.length 63)]
  else if a = R.LODGE_PS_SEQ then word ((s.ps.sel.map (·.seq)).getD 0)
  else s.rd a

def viewGzb (s : State) (a : Nat) : Word :=
  if a = R.GZB_EDGE_FRC_LO then s.gzb.edgeFrc.truncate 32 else s.rd a

/-- Does an item of the task wait for its domain (ARB_TASK_STAT.HELD)? -/
def State.taskHeld (s : State) (t : TaskSt) : Bool := s.queued t.id ≠ [] ∧ ¬ s.domOn t.dom

/-- Arbour's registers as they read. Of an undefined task 0x0024 to 0x0030 read 0; the selector at 0x0020, which R218 names with
them, reads back what its master wrote (DESIGN CHOICE, log entry 90). -/
def viewArb (s : State) (m : Master) (a : Nat) : Word :=
  let sel := s.getF (F.ARB_TASK_SEL_TASK.bank m)
  if a = R.ARB_STAT then
    packW [(0, s.inFlight), (16, (s.idleCores.map (2 ^ ·)).sum), (24, s.lowReady.getD 0),
      (28, b2n (s.lowReady = none))]
  else if a = R.ARB_CORE_STAT then packW ((List.range 8).map (fun k => (4 * k, s.arb.cores.getD k 0)))
  else if a = R.ARB_QUOTA then packW [(0, s.inFlightOf .sec), (16, s.inFlightOf .ns)]
  else if 0x40024 ≤ a ∧ a ≤ 0x40030 then
    match s.task? sel with
    | none => 0
    | some t =>
      if a = R.ARB_TASK_CFG then
        packW [(0, t.prio), (4, b2n t.event), (5, b2n t.all), (6, b2n t.consume), (7, 1), (8, t.conc), (12, t.dom),
          (16, t.handler)]
      else if a = R.ARB_TASK_MASK then word t.mask
      else if a = R.ARB_TASK_FLAGS then word t.flags
      else packW [(0, (s.queued sel).length), (10, s.taskRuns t), (14, b2n (s.entry? t).isSome),
        (15, b2n (s.taskHeld t)), (16, t.merged)]
  else s.rd a

/-- Is a snapshot bank busy: a trigger not yet assembled includes it, or none has and its SNAP is under 2 ms old (R522)? -/
def State.bankBusy (s : State) (k : Nat) : Bool :=
  let b := s.vb.banks.getD k {}
  s.vb.trigs.any (·.bank = some k) || (b.seq ≠ 0 && !b.used && !s.since b.frc.toNat 2000)

def viewVb (s : State) (m : Master) (a : Nat) : Word :=
  let bank (k : Nat) : SnapBank := s.vb.banks.getD k {}
  if a = R.VB_STAT then
    overlay (s.rd a) [(1, 1, b2n (s.vb.queue ≠ [])), (2, 14, s.vb.queue.length)]
  else if a = R.VB_OLDEST then word ((s.vb.book.head?.map (·.seq)).getD 0)
  else if a = R.VB_WR_PTR then word (s.vb.sector * 65536 + s.vb.off)
  else if a = R.VB_SNAP0_FRC_LO then (bank 0).frc.truncate 32
  else if a = R.VB_SNAP1_FRC_LO then (bank 1).frc.truncate 32
  else if a = R.VB_SNAP_STAT then overlay (s.rd a) [(16, 1, b2n (s.bankBusy 0)), (17, 1, b2n (s.bankBusy 1))]
  else if a = R.VB_CODE_STAT then
    let c := s.getF (F.VB_CODE_SEL.bank m)
    packW [(0, s.tokens c), (8, b2n (s.vbCfg c).enable), (16, (s.bucket c).suppressed)]
  else s.rd a

def viewMbx (s : State) (a : Nat) : Word := s.rd a

def viewStrm (s : State) (a : Nat) : Word :=
  let w := a / 0x10000 - 0x100
  match winCfg w with
  | none => 0
  | some c =>
    if a = R.SYS_STRM_STAT w then
      overlay (s.rd a) [(0, 16, s.levelSpace w), (16, 1, b2n (s.wmAbove w)), (20, 1, b2n c.isIn), (21, 1, b2n c.fleet)]
    else if a = R.SYS_STRM_PKTS w then packW [(0, (s.strm w).npkts), (16, c.depth)]
    else s.rd a

def viewTest (s : State) (a : Nat) : Word :=
  if a = R.TEST_STAT then overlay (s.rd a) [(1, 1, b2n s.test.isSome)] else s.rd a

/-- The Wicket block: position, speed, the measured currents and VM, the choppers' offsets (R448–R452). -/
def viewWkt (s : State) (a : Nat) : Word :=
  let n := (a - 0xB0100) / 0x40
  if a < 0xB0100 ∨ 0xB0200 ≤ a then s.rd a
  else if a = R.WKT_AXn_STAT n then
    overlay (s.rd a) [(4, 1, b2n (s.ax n).pend.isSome), (5, 1, b2n ((s.ax n).pend.any (·.shared))),
      (7, 1, b2n ((s.ax n).decNew.isSome || (s.ax n).edecNew.isSome))]
  else if a = R.WKT_AXn_POS n then word (s.axS n % 2 ^ 32).toNat
  else if a = R.WKT_AXn_VEL n then word (s.axV n % 2 ^ 32).toNat
  else if a = R.WKT_AXn_CUR n then word (s.measured a 32)
  else if a = R.WKT_AXn_CHOP n then
    packW [(0, (((s.ax n).winds.getD 0 {}).ofs % 2 ^ 16).toNat), (16, (((s.ax n).winds.getD 1 {}).ofs % 2 ^ 16).toNat)]
  else if a = R.WKT_AXn_VM n then word (match (s.ax n).vm with | some v => (v % 65536).toNat | none => s.measured a 16)
  else s.rd a

/-- What a register address shows to a master, without the side effects of a read. -/
def State.view (s : State) (m : Master) (a : Nat) : Word :=
  match a / 0x10000 with
  | 0 => viewSys s a
  | 1 => viewLodge s a
  | 2 => viewGzb s a
  | 3 => viewMbx s a
  | 4 => viewArb s m a
  | 5 => viewSdl s a
  | 6 => viewBv s m a
  | 7 => viewSlv s m a
  | 8 => viewBs s 0 m a
  | 9 => viewBs s 1 m a
  | 10 => viewPgl s m a
  | 11 => viewWkt s a
  | 12 => viewOrg s m a
  | 13 => viewVb s m a
  | 16 => viewTest s a
  | b => if 0x100 ≤ b ∧ b < 0x10A then viewStrm s a else s.rd a

end Sys2Proof.Machine
end

