-- ==== Sys2Proof/Machine/Recorder.lean ====
section
/-! DEFINITION. The common SNAP trigger and its shadow banks (spec/17 R520–R523), and Visitor book triggers (R529,
R530): the operations every unit uses. -/
namespace Sys2Proof.Machine

/-! ### Snapshot shadows -/

/-- The domain of a block's shadow; D0 where the block has no other (R521, R564). -/
def shadowDom (blk : Nat) : Nat :=
  match blk with
  | 4 => 3
  | 6 => 6
  | 7 => 7
  | 8 => 8
  | 9 => 9
  | 10 => 10
  | 11 => 12
  | 14 => 11
  | _ => 0

/-- The shadowed words of a block in the order of R523. -/
def State.shadowWords (s : State) (blk : Nat) : List Word :=
  let v (a : Nat) : Word := s.view .csS a
  match blk with
  | 0 => [v R.SYS_PLAN_STAT, v R.SYS_SWAP_STAT, v 0x200, v 0x208]
  | 1 => [v R.LODGE_PWR_STATE, v R.LODGE_DOM_STAT0, v R.LODGE_DOM_STAT1, v R.LODGE_DOM_FLAGS, v R.LODGE_CLK_STAT,
      v R.LODGE_WAKE_CAUSE]
  | 2 => [v R.GZB_STAT, v R.GZB_CAUSE, v R.GZB_CAUSE_NOW, v R.GZB_FAULT, v R.GZB_LOOP_V, v R.GZB_EDGE_FRC_LO,
      (s.gzb.edgeFrc.toNat / 2 ^ 32 : Nat)]
  | 3 => [word (maskOf (fun c => s.flag (F.MBX_CTRL_GO c))), word (maskOf (fun n => s.flag (F.MBX_CLAIM_INFOn_HELD n)))]
  | 4 => [v R.ARB_STAT, v R.ARB_CORE_STAT, v R.ARB_FAULT, v R.ARB_QUOTA, v R.ARB_EPOCH]
  | 5 => [v R.SDL_STAT, word (nsField (s.tbNs 0)), word (secField (s.tbNs 0)), word (secField (s.tbNs 0) / 2 ^ 32),
      v R.SDL_OFFSET, v R.SDL_HOLD_ERR, v R.SDL_ASN_LO, v R.SDL_ASN_HI]
  | 6 => [v R.BV_STAT, v R.BV_ANT, v R.BV_SYS_FLAGS, v R.BV_CHECK, v R.BV_CLK_BIAS]
  | 7 => [v R.SLV_STAT, v R.SLV_BUDGET]
  | 8 => [v (R.BS_STAT 0), v (R.BS_DESYNCk 0 0), v (R.BS_DESYNCk 0 1), v (R.BS_DESYNCk 0 2), v (R.BS_DESYNCk 0 3),
      v R.BSA_RESYNC]
  | 9 => [v (R.BS_STAT 1), v (R.BS_DESYNCk 1 0), v (R.BS_DESYNCk 1 1), v (R.BS_DESYNCk 1 2), v (R.BS_DESYNCk 1 3)]
  | 10 => [v R.PGL_STAT, v R.PGL_RT, v R.PGL_WIN_USED]
  | 11 => v R.WKT_STAT ::
      [0, 1, 2, 3].flatMap (fun n => [v (R.WKT_AXn_STAT n), v (R.WKT_AXn_POS n), v (R.WKT_AXn_VEL n)])
  | 12 => [v R.ORG_STAT, v R.ORG_TAMPER]
  | 13 => [v R.VB_STAT, v R.VB_SEQ]
  | 14 => [word (bitsOf (s.rd (R.ETH_Pn_STAT 0)).toNat 0 9), word (bitsOf (s.rd (R.ETH_Pn_STAT 1)).toNat 0 9)]
  | 15 => [v R.SVC_STAT, v R.UPD_STAT]
  | 16 => [v R.TEST_STAT]
  | _ => []

/-- The address of bank `k` of a block (R523). -/
def bankBase (blk k : Nat) : Nat := blk * 0x10000 + 0xF000 + 0x40 * k

/-- The STATE codes of a bank header. -/
abbrev Snap.LATCHED : Nat := 0
abbrev Snap.LATE : Nat := 1
abbrev Snap.ABSENT : Nat := 2
abbrev Snap.PENDING : Nat := 3

/-- Words written at rising register addresses. -/
def State.wrList (s : State) (a : Nat) : List Word → State
  | [] => s
  | w :: ws => State.wrList (s.wr a w) (a + 4) ws

/-- One block's shadow written into bank `k` with a header STATE; the words of `st = PENDING` read 0. -/
def State.latchBlock (s : State) (blk k st : Nat) : State :=
  let b := s.vb.banks.getD k {}
  let ws := if st = Snap.PENDING then [] else s.shadowWords blk
  s.wrList (bankBase blk k)
    (packW [(0, b.seq), (16, st), (24, b.src)] :: (ws ++ List.replicate (15 - ws.length) 0))

/-- Every shadow latched into bank `k`: at once where the block's domain is ON, PENDING where it is not (R521). The
words are those of the state at the trigger. -/
def State.latchAll (s : State) (k : Nat) : State :=
  (List.range 17).foldl (fun t blk =>
    if s.blockAbsent blk then t
    else t.latchBlock blk k (if s.domOn (shadowDom blk) then Snap.LATCHED else Snap.PENDING)) s

/-- The shadows of a domain that was off at a SNAP latch when it reaches ON, with STATE LATE (R521, R38). -/
def State.lateLatch (s : State) (d : Nat) : State :=
  (List.range 17).foldl (fun t blk =>
    if shadowDom blk = d ∧ ¬ s.blockAbsent blk then
      [0, 1].foldl (fun t k =>
        if t.getF ⟨bankBase blk k, 16, 2⟩ = Snap.PENDING then t.latchBlock blk k Snap.LATE else t) t
    else t) s

/-- Is SNAP number `a` older than `b`, numbers wrapping from 65 535 to 1, 0 never latched (R522)? -/
def snapOlder (a b : Nat) : Bool := a ≠ b ∧ (a = 0 ∨ (b ≠ 0 ∧ (b + 65536 - a) % 65536 < 32768))

/-- The bank a SNAP takes (R522): a bank not busy, the older first, bank 0 when equal; with both busy, a stop SNAP
takes the older bank whose SNAP does not include the stop source. -/
def State.snapBank (s : State) (src : Nat) : Option Nat :=
  let b (k : Nat) : SnapBank := s.vb.banks.getD k {}
  let older (k j : Nat) : Nat := if snapOlder (b j).seq (b k).seq then j else k
  let noStop (k : Nat) : Bool := !(b k).src.testBit 2
  match s.bankBusy 0, s.bankBusy 1 with
  | false, false => some (older 0 1)
  | false, true => some 0
  | true, false => some 1
  | true, true =>
    if src.testBit 2 then
      if noStop 0 ∧ noStop 1 then some (older 0 1)
      else if noStop 0 then some 0 else if noStop 1 then some 1 else none
    else none

/-- The common SNAP trigger (R520–R522): the bank latched, if any, and the state after. -/
def State.snap (s : State) (src : Nat) : Option Nat × State :=
  match s.snapBank src with
  | none => (none, (s.incF F.VB_SNAP_STAT_MERGED).setF F.VB_STAT_MERGED_SEEN 1)
  | some k =>
    let last := s.getF F.VB_SNAP_STAT_LAST_SEQ
    let seq := if last = 65535 then 1 else last + 1
    let s1 : State := { s.setF F.VB_SNAP_STAT_LAST_SEQ seq with
      vb := { s.vb with
        banks := s.vb.banks.set k ⟨seq, src, s.frc, false⟩
        trigs := s.vb.trigs.map (fun t => if t.bank = some k then { t with bank := none, noSnap := true } else t) } }
    (some k, s1.latchAll k)

/-! ### Visitor book triggers -/

/-- The bucket of a code changed. -/
def State.setBucket (s : State) (b : Bucket) : State :=
  { s with vb := { s.vb with buckets := b :: s.vb.buckets.filter (·.code ≠ b.code) } }

/-- Has the code a token: the fixed codes and REFILL_MS 0 are unlimited (R529, R530)? -/
def State.hasToken (s : State) (c : Nat) : Bool :=
  vbFixed c || (s.vbCfg c).refill = 0 || 0 < s.tokens c

/-- A token spent; the refill time counts from the first spend after the bucket was full (R530). -/
def State.spendToken (s : State) (c : Nat) : State :=
  let b := s.bucket c
  if vbFixed c ∨ (s.vbCfg c).refill = 0 then s.setBucket { b with suppressed := 0 }
  else s.setBucket ⟨c, b.spent + 1, if b.spent = 0 then s.now else b.since, 0⟩

/-- A trigger without a token: suppressed and counted (R530). -/
def State.suppress (s : State) (c : Nat) : State :=
  let b := s.bucket c
  ((s.setBucket { b with suppressed := min (b.suppressed + 1) 65535 }).incF F.VB_CNT_SUPPRESS).setF
    F.VB_STAT_SUPPRESS_SEEN 1

/-- The most recent SNAP within 1 ms before now (R529). -/
def State.recentSnap (s : State) : Option Nat :=
  let last := s.getF F.VB_SNAP_STAT_LAST_SEQ
  [0, 1].find? (fun k => let b := s.vb.banks.getD k {}
    last ≠ 0 ∧ b.seq = last ∧ s.now ≤ b.frc.toNat + 26000)

/-- The banks with one included in a record. -/
def useBank (l : List SnapBank) : Option Nat → List SnapBank
  | some k => l.set k { l.getD k {} with used := true }
  | none => l

/-- The bank of the newest SNAP, where it was raised in this tick. -/
def State.tickSnap (s : State) : Option Nat :=
  let last := s.getF F.VB_SNAP_STAT_LAST_SEQ
  [0, 1].find? (fun k => let b := s.vb.banks.getD k {}
    last ≠ 0 ∧ b.seq = last ∧ b.frc = s.frc)

/-- A code's SNAP joins the SNAP of its tick in bank `k`: SRC bit 4 there (R520). -/
def State.snapJoin (s : State) (k : Nat) : State :=
  let b := s.vb.banks.getD k {}
  let src := b.src ||| 16
  (List.range 17).foldl (fun (t : State) blk => if t.blockAbsent blk then t else t.setF ⟨bankBase blk k, 24, 5⟩ src)
    { s with vb := { s.vb with banks := s.vb.banks.set k { b with src := src } } }

/-- The SNAP of a code with SNAP set (R520): one with the other sources of its tick; `own` as for `State.vbTrigger`. -/
def State.codeSnap (s : State) (own : Option (Option Nat)) : Option (Option Nat) × State :=
  match own with
  | some none => (own, s)
  | some (some k) => (own, s.snapJoin k)
  | none =>
    match s.tickSnap with
    | some k => (some (some k), s.snapJoin k)
    | none => let r := s.snap 16; (some r.1, r.2)

/-- A Visitor book code raised (R529, R530): suppressed without a token; else its record waits for assembly with the
bank it includes. `own` is the bank of the SNAP its own trigger raised, `none` inside where that SNAP latched
nothing. -/
def State.vbTrigger (s : State) (code : Nat) (data : Bytes) (own : Option (Option Nat) := none)
    (wid : Option Nat := none) : State :=
  let c := s.vbCfg code
  if !c.enable then s
  else if !s.hasToken code then s.suppress code
  else
    let sup := (s.bucket code).suppressed
    let s1 := s.spendToken code
    let o := if c.snap then s1.codeSnap own else (own, s1)
    let bank : Option Nat :=
      match o.1 with
      | some b => b
      | none => if c.incl then o.2.recentSnap else none
    let use := c.incl ∨ (0x50 ≤ code ∧ code ≤ 0x52)
    let t : VbTrig := ⟨code, data, s.frc, nsField (s.tbNs 0), secField (s.tbNs 0), bitsOf (s.rd R.SDL_STAT).toNat 0 4,
      sup, if use then bank else none, use ∧ o.1 = some none, wid⟩
    { o.2 with vb := { o.2.vb with trigs := o.2.vb.trigs ++ [t], banks := useBank o.2.vb.banks t.bank } }.raiseTask 12

/-- A SNAP from a source of R520 with its own code: 0x50 SNAP_IN, 0x51 a compare, 0x52 a VB_CTRL write. -/
def State.snapCode (s : State) (src code : Nat) (data : Bytes) : State :=
  let r := s.snap src
  r.2.vbTrigger code data (some r.1)

end Sys2Proof.Machine
end

