-- ==== Sys2Proof/Machine/Gate.lean ====
section
/-! DEFINITION. Which register accesses a master may make and what becomes of them: the rights of spec/05 R162 and
R163, absent units (spec/00 R3), domains that are not ON (spec/03 R42, R106, R564). -/
namespace Sys2Proof.Machine

/-- What becomes of an access: done, refused as a security violation, without effect, or held for a domain. -/
inductive Acc where
  | ok
  | viol
  | none
  | held (d : Nat)
deriving DecidableEq, Repr

/-- Is the address in the staging buffer of a swap (R153)? -/
def inStaging (a : Nat) : Bool := 0x200000 ≤ a ∧ a < 0x300000

/-- May the non-secure group not write the address (R162)? Writes to GZB, WKT, ORG, SVC/UPD and TEST, to registers
marked as ignoring CS_NS writes, to mailbox channels and claims 16–31, to stream windows it does not have, and,
without NS_PLAN, to SYS_SWAP_CTRL and the staging buffer. -/
def State.nsWriteDenied (s : State) (a : Nat) : Bool :=
  let blk := a / 0x10000
  blk = 2 ∨ blk = 11 ∨ blk = 12 ∨ blk = 15 ∨ blk = 16 ∨
    ((a = R.SYS_SWAP_CTRL ∨ inStaging a) ∧ !s.nsPlan) ∨
    (regRow a).any (·.nsRo) ∨
    (blk = 3 ∧ ((0x30800 ≤ a ∧ a < 0x31000) ∨ (0x31040 ≤ a ∧ a < 0x31080) ∨
      (0x31140 ≤ a ∧ a < 0x31180) ∨ (0x31240 ≤ a ∧ a < 0x31280))) ∨
    (0x100 ≤ blk ∧ blk < 0x10A ∧ !winAllowed .csNs (blk - 0x100))

/-- May the non-secure group not read the address (R162; the plan window needs NS_PLAN, R152)? -/
def State.nsReadDenied (s : State) (a : Nat) : Bool :=
  let blk := a / 0x10000
  (0x200000 ≤ a ∧ a < 0x400000 ∧ !s.nsPlan) ∨ (blk = 3 ∧ ((0x30800 ≤ a ∧ a < 0x31000) ∨ (0x31040 ≤ a ∧ a < 0x31080) ∨
      (0x31140 ≤ a ∧ a < 0x31180) ∨ (0x31240 ≤ a ∧ a < 0x31280))) ∨
    (0x100 ≤ blk ∧ blk < 0x10A ∧ !winAllowed .csNs (blk - 0x100))

/-- What a domain makes of an access: done when ON; nothing in LOCKOUT, when absent or not expected (R143), or while the
module is off; else held. -/
def State.domAcc (s : State) (d : Nat) : Acc :=
  if s.domOn d then .ok
  else if s.dom d = DS.lockout ∨ s.dom d = DS.absent ∨ s.domUnused d ∨ !s.powered then .none else .held d

/-- What becomes of an access to an address, by the domains it needs (R42, R106, R564). -/
def State.reach (s : State) (a : Nat) : Acc :=
  match s.domAcc 2 with
  | .ok =>
    match blockDom (a / 0x10000) (a % 0x10000) with
    | some d => s.domAcc d
    | .none => .ok
  | x => x

/-- Does the recovery ROM not serve the access: a host reads the SYS and SVC/UPD blocks, the service tool also LODGE and
GZB; writes are ignored (R509, R519)? -/
def State.romDenied (s : State) (m : Master) (a : Nat) (write : Bool) : Bool :=
  s.flag F.SYS_BOOT_STAT_RECOVERY && !m.isCore &&
    (write || !(a / 0x10000 = 0 || a / 0x10000 = 15 || (m = .tool && (a / 0x10000 = 1 || a / 0x10000 = 2))))

/-- What becomes of a write of master `m` (R3, R162, R163, R519). -/
def State.wrAcc (s : State) (m : Master) (a : Nat) : Acc :=
  if s.blockAbsent (a / 0x10000) ∨ s.romDenied m a true then .none
  else if !m.secure ∧ s.nsWriteDenied a then .viol
  else s.reach a

/-- What becomes of a read of master `m`. -/
def State.rdAcc (s : State) (m : Master) (a : Nat) : Acc :=
  if s.blockAbsent (a / 0x10000) ∨ s.romDenied m a false then .none
  else if !m.secure ∧ s.nsReadDenied a then .viol
  else s.reach a

/-- A write of master `m`, with its effect where the write reaches its register; `v` is what is written
again once the domain is ON. -/
def State.guardW (s : State) (m : Master) (a v : Nat) (k : State → State) : State :=
  match s.wrAcc m a with
  | .ok => k s
  | .viol => s.secViol
  | .none => s
  | .held d => s.domEvent d (.regWrite m a (BitVec.ofNat 64 v))

end Sys2Proof.Machine
end

