-- ==== Sys2Proof/Machine/Wicket.lean ====
section
/-! DEFINITION. Wicket's yard axes (spec/14_wicket_axes.md): enabling and its checks, tables, target moves, homing,
emergency ramps, stalls, faults, standstill and the limit registers. -/
namespace Sys2Proof.Machine

/-! ### Registers and records -/

/-- A signed value as the 32-bit VALUE of an event. -/
def u32 (v : Int) : Nat := (v % 2 ^ 32).toNat

/-- Does axis `n` run: Wicket present and D12 ON? Without WCLK it runs from LCLK (spec/14, The SYS PLL loses lock). -/
def State.wktOn (s : State) (n : Nat) : Bool := n < 4 && s.present U.WKT && s.isOn 12

/-- A limit register's ceiling in the WICKET record (R466, R467): VMAX, ACC, DEC, EDEC, JERK by their offset. -/
def State.axCeil (s : State) (n off : Nat) : Nat := leAt (s.axRec n) off 4

/-- The limit and current registers of an axis loaded from its WICKET record (R466, R467). -/
def State.wktLoad (s : State) (n : Nat) : State :=
  ((((((s.setF (F.WKT_AXn_VMAX n) (s.axCeil n 28)).setF (F.WKT_AXn_ACC n) (s.axCeil n 32)).setF
    (F.WKT_AXn_DEC n) (s.axCeil n 36)).setF (F.WKT_AXn_EDEC n) (s.axCeil n 40)).setF
    (F.WKT_AXn_JERK n) (s.axCeil n 44)).setF (F.WKT_AXn_IRUN_IRUN n) (leAt (s.axRec n) 4 2)).setF
    (F.WKT_AXn_IRUN_IHOLD n) (leAt (s.axRec n) 6 2)

/-- A Wicket event (R468). -/
def State.wktEvent (s : State) (kind n info : Nat) (value : Int) : State := s.nsEvent 0x0B kind n info (u32 value)

/-- One bit of a four-axis mask. -/
def State.setMask (s : State) (f : Fld) (n : Nat) (b : Bool) : State := if b then s.setBit f n else s.clrBit f n

/-- The axis state written, with WKT_STAT's masks and the STATE event of a change (R455, R468). -/
def State.setAx (s : State) (n st : Nat) : State :=
  if s.axState n = st then s
  else
    ((((s.setF (F.WKT_AXn_STAT_STATE n) st).setMask F.WKT_STAT_ENABLED n (st ≠ Ax.DISABLED ∧ st ≠ Ax.FAULT)).setMask
      F.WKT_STAT_MOVING n (st = Ax.MOVING ∨ st = Ax.HOMING ∨ st = Ax.EMERGENCY)).setMask
      F.WKT_STAT_FAULTED n (st = Ax.FAULT)).wktEvent 1 n st (s.getI (F.WKT_AXn_POS n))

/-- A deferred deceleration takes effect (R463). -/
def State.applyDeferred (s : State) (n : Nat) : State :=
  let a := s.ax n
  let s1 := match a.decNew with | some v => s.setF (F.WKT_AXn_DEC n) v | none => s
  let s2 := match a.edecNew with | some v => s1.setF (F.WKT_AXn_EDEC n) v | none => s1
  s2.updAx n (fun a => { a with decNew := none, edecNew := none })

/-- An axis comes to rest in HOLD at position `p` with i_set = IRUN (R453, R455, R456, R461). -/
def State.enterHold (s : State) (n : Nat) (p : Int) : State :=
  let s1 := (s.setI (F.WKT_AXn_POS n) p).setF (F.WKT_AXn_STAT_REDUCED n) 0
  ((s1.updAx n (fun a => { a with
    cur := none, homing := none, braking := none, ending := [], iset := s.getF (F.WKT_AXn_IRUN_IRUN n),
    holdFrc := s.now, reducing := false })).applyDeferred n).setAx n Ax.HOLD

/-- An item of the axis completes with 4 bytes, s at completion (R465). -/
def State.axFinish (s : State) (n : Nat) (wid st : Nat) : State := s.finish wid st (leBytesI 4 (s.axS n))

/-- The items of an axis: of the move in force, the homing run, the ramp. -/
def Axis.inForce (a : Axis) : List Nat :=
  (a.cur.map (·.wid)).toList ++ (a.homing.map (·.wid)).toList ++ a.ending

/-- A move that ran ends with a status: its item, and a table's TABLE_END event (R465, R468). -/
def State.axEnd (s : State) (n wid st : Nat) (p : Int) : State :=
  let t := s.axFinish n wid st
  if (s.item? wid).any (·.typ = W.WKT_MOVE) then t.wktEvent 6 n st p else t

/-- The pending table discarded with a status. -/
def State.dropPend (s : State) (n st : Nat) : State :=
  match (s.ax n).pend with
  | some m => (s.axFinish n m.wid st).updAx n (fun a => { a with pend := none })
  | none => s

/-! ### Limits (R458) -/

/-- The acceleration limit at one end of a piece: ACC where a × v > 0, DEC otherwise. -/
def accOk (acc dec a v : Rat) : Bool := if 0 < a * v then ratAbs a ≤ acc else ratAbs a ≤ dec

/-- Does a knot list keep the limit registers now in force, and the soft limits where asked? -/
def State.tableOk (s : State) (n : Nat) (ks : List Knot) (soft : Bool) : Bool :=
  let vmax : Rat := s.getF (F.WKT_AXn_VMAX n)
  let acc : Rat := s.getF (F.WKT_AXn_ACC n)
  let dec : Rat := s.getF (F.WKT_AXn_DEC n)
  let jerk : Rat := s.getF (F.WKT_AXn_JERK n)
  let lo : Rat := leAtI (s.axRec n) 48 4
  let hi : Rat := leAtI (s.axRec n) 52 4
  let ps := piecesOf (1 / 1000000) ks
  (ks.head?.map (·.t)) = some 0 ∧ tIncreasing ks ∧ (ks.head?.map (·.v)) = some 0 ∧
    (ks.getLast?.map (·.v)) = some 0 ∧
    ps.all (fun p => p.maxSpeed ≤ vmax ∧ ratAbs p.jerk ≤ jerk ∧ accOk acc dec (p.acc 0) p.v0 ∧
      accOk acc dec (p.acc 1) p.v1 ∧ (!soft || p.within lo hi))

/-- The knots of a TABLE payload (R457); none where its layout is not kept. -/
def wktKnots (b : Bytes) : Option (List Knot) :=
  let k := leAt b 0 1
  if 2 ≤ k ∧ k ≤ 64 ∧ b.length = 4 + 12 * k ∧ leAt b 1 3 = 0 then
    some ((List.range k).map (fun i => ⟨leAt b (4 + 12 * i) 4, leAtI b (8 + 12 * i) 4, leAtI b (12 + 12 * i) 4⟩))
  else none

/-! ### Tables (R459, R460) -/

/-- Quotients rounded up. -/
def ceilDiv (a b : Nat) : Nat := (a + b - 1) / max b 1

/-- The least number up to `hi` from which `ok` holds. -/
def leastBy (ok : Nat → Bool) : Nat → Nat → Nat → Nat
  | 0, _, hi => hi
  | f + 1, lo, hi =>
    let m := (lo + hi) / 2
    if ok m then leastBy ok f lo m else leastBy ok f (m + 1) hi

/-- A piece of a profile: its µs, its distance and its end speed. -/
structure Stretch where
  us : Nat
  dist : Nat
  v : Nat
deriving DecidableEq, Repr

/-- A piece in which the acceleration runs between 0 and a value at JERK, over a change of speed `dv`, with `w` the speed at its
still end twice and the other once: whole microsteps first, then the time they take (log entry 84). -/
def jerkPiece (dv w v a j extra : Nat) : Stretch :=
  let h := max (ceilDiv (2000000 * dv) a) (Nat.sqrt (ceilDiv (2000000000000 * dv) j) + 1)
  let d := ceilDiv (w * h) 3000000 + extra
  ⟨ceilDiv (3000000 * d) w, d, v⟩

/-- A piece of constant acceleration. -/
def flatPiece (v w a extra : Nat) : Stretch :=
  let d := ceilDiv (w * w - v * v) (2 * a) + extra
  ⟨ceilDiv (2000000 * d) (v + w), d, w⟩

/-- A run-up from rest to `v` (R402), `extra` microsteps longer than it need be. -/
def runUp (v a j extra : Nat) : List Stretch :=
  let q := min (a * a / max (2 * j) 1) (v / 2)
  if v = 0 then []
  else if q = 0 then [flatPiece 0 v a extra]
  else if 2 * q + 1 < v then [jerkPiece q q q a j 0, flatPiece q (v - q) a extra, jerkPiece q (3 * v - q) v a j 0]
  else [jerkPiece q q q a j 0, jerkPiece (v - q) (q + 2 * v) v a j extra]

def stretchLen (xs : List Stretch) : Nat := (xs.map (·.dist)).foldl (· + ·) 0

/-- A run-up reversed, from `v` to rest. -/
def runDown (v : Nat) (xs : List Stretch) : List Stretch :=
  (xs.zip (0 :: xs.map (·.v))).reverse.map (fun (x, w) => ⟨x.us, x.dist, if w = v then 0 else w⟩)

/-- The knots of some pieces from rest at `p`, with `sg` the direction. -/
def stretchKnots (sg : Int) : List Stretch → Nat → Int → List Knot
  | [], _, _ => []
  | x :: xs, t, p => ⟨(t + x.us : Nat), p + sg * x.dist, sg * x.v⟩ :: stretchKnots sg xs (t + x.us) (p + sg * x.dist)

/-- The µs of a move over `d` microsteps in one piece, from rest to rest. -/
def shortUs (vmax acc dec jerk d : Nat) : Nat :=
  leastBy (fun h => decide (6 * d * 1000000000000 ≤ min acc dec * h * h) && decide (12 * d * 1000000000000000000 ≤ jerk * h * h * h) &&
    decide (3 * d * 1000000 ≤ 2 * vmax * h)) 40 1 (2 ^ 32)

/-- The fastest profile from rest at `p` to rest at `goal` within VMAX, ACC, DEC and JERK, in at most 8 knots (R402, R460): the
greatest top speed from which it can stop, with the distance left cruised, or taken into the run-up where a cruise of it would
be too short for whole µs; its knots are whole µs, microsteps and microsteps/s (log entry 84). -/
def fastProfile (vmax acc dec jerk : Nat) (p goal : Int) : List Knot :=
  let d := (goal - p).natAbs
  let sg : Int := if goal < p then -1 else 1
  let need (v : Nat) : Nat := stretchLen (runUp v acc jerk 0) + stretchLen (runUp v dec jerk 0)
  let v := leastBy (fun v => decide (d < need (v + 1))) 33 0 vmax
  let start : Knot := ⟨0, p, 0⟩
  if v = 0 ∨ d < need v then [start, ⟨max 1 (shortUs vmax acc dec jerk d), goal, 0⟩]
  else
    let left := d - need v
    let us := left * 1000000 / v
    let long : Bool := 300 * v ≤ min acc dec * us * us / 1000000 && 600 * v ≤ jerk * us * us * us / 1000000000000
    let up := runUp v acc jerk (if long then 0 else left)
    let down := runDown v (runUp v dec jerk 0)
    start :: stretchKnots sg (up ++ (if long then [⟨ceilDiv (left * 1000000) v, left, v⟩] else []) ++ down) 0 p

/-- A move starts with the knots given: an absolute table whose first S is not s is discarded (R459). -/
def State.startTable (s : State) (n : Nat) (m : WktMove) (ks : List Knot) : State :=
  let p := s.getI (F.WKT_AXn_POS n)
  let s0 := s.updAx n (fun a => { a with pend := none })
  if m.rel = false ∧ (ks.head?.map (·.s)) ≠ some p then
    let s1 := s0.axFinish n m.wid 0x88
    if s.axState n = Ax.HOLD then s1 else s1.enterHold n p
  else
    let base : Int := if m.rel ∧ m.target.isNone then p else 0
    let s1 := (s0.applyDeferred n).setF (F.WKT_AXn_STAT_REDUCED n) 0
    ((s1.updAx n (fun a => { a with
      cur := some { m with knots := ks }, start := s.now, base := base, braking := none, stallRun := 0,
      iset := s.getF (F.WKT_AXn_IRUN_IRUN n), reducing := false })).setAx n Ax.MOVING).wktEvent 5 n
        (if m.shared then 1 else 0) p

/-- The knots a move starts with: its table's, or those of a TARGET move's profile (R460). -/
def State.moveKnots (s : State) (n : Nat) (m : WktMove) : List Knot :=
  match m.target with
  | none => m.knots
  | some t =>
    let p := s.getI (F.WKT_AXn_POS n)
    fastProfile (s.getF (F.WKT_AXn_VMAX n)) (s.getF (F.WKT_AXn_ACC n)) (s.getF (F.WKT_AXn_DEC n)) (s.getF (F.WKT_AXn_JERK n))
      p (if m.rel then p + t else t)

/-- A pending move starts where it may: NEXT, or SHARED and due, on an axis at rest (R459). -/
def State.tryStart (s : State) (n : Nat) : State :=
  match (s.ax n).pend with
  | some m =>
    if (!m.shared || m.due) ∧ (s.axState n = Ax.HOLD ∨ (s.axState n = Ax.MOVING ∧ (s.ax n).cur.isNone)) then
      let t := s.applyDeferred n
      t.startTable n m (t.moveKnots n m)
    else s
  | none => s

/-- A compare with WKT_START names an axis (R235, R459): a pending SHARED table starts, or, on an axis still moving,
becomes due with START_LATE. -/
def State.sharedStart (s : State) (n : Nat) : State :=
  match (s.ax n).pend with
  | some m =>
    if m.shared ∧ !m.due then
      let s1 := s.updAx n (fun a => { a with pend := some { m with due := true } })
      if s.axState n = Ax.HOLD then s1.tryStart n else s1.setF (F.WKT_AXn_STAT_START_LATE n) 1
    else s
  | none => s

/-- The axes of a mask. -/
def axesOf (mask : Nat) : List Nat := [0, 1, 2, 3].filter mask.testBit

/-- The WKT_START action of a compare. -/
def State.wktStart (s : State) (mask : Nat) : State :=
  s.each (axesOf mask) (fun s n => if s.wktOn n then s.sharedStart n else s)

/-! ### The stop line (R461, R462) -/

/-- The emergency ramp of one axis. -/
def State.axStop (s : State) (n : Nat) : State :=
  let st := s.axState n
  if st = Ax.MOVING ∨ st = Ax.HOMING then
    let sv := s.axSV n
    let s1 := s.dropPend n 0x84
    ((s1.setI (F.WKT_AXn_POS n) sv.1.floor).updAx n (fun a => { a with
      ending := a.inForce, cur := none, homing := none, braking := none, rampS := sv.1, rampV := sv.2,
      rampFrc := s.now })).setAx n Ax.EMERGENCY
  else if st = Ax.HOLD then s.dropPend n 0x84
  else s

/-- Every axis on a rising stop line. -/
def State.wktStop (s : State) : State :=
  if s.present U.WKT ∧ s.isOn 12 then s.each [0, 1, 2, 3] State.axStop else s

/-- Is an axis in EMERGENCY (R64)? -/
def State.anyEmergency (s : State) : Bool := [0, 1, 2, 3].any (fun n => s.axState n = Ax.EMERGENCY)

/-- Is an axis in a state other than DISABLED (R41, R94)? -/
def State.anyAxis (s : State) : Bool := [0, 1, 2, 3].any (fun n => s.axState n ≠ Ax.DISABLED)

/-! ### Faults (R452, R455) -/

/-- The lowest set bit of a mask. -/
def lowestBit (m : Nat) : Nat := ((List.range 32).find? m.testBit).getD 0

/-- FAULT bits set: gates off, tables discarded, the axis coasts; `vm` is WKTn_VM in 10 mV. -/
def State.axFault (s : State) (n bits : Nat) (vm : Int) : State :=
  let old := s.getF ⟨R.WKT_AXn_FAULT n, 0, 11⟩
  let new := bits - (bits &&& old)
  let p := s.axS n
  let s1 := ((s.ax n).inForce).foldl (fun t w => t.axEnd n w 0x83 p) (s.dropPend n 0x83)
  let s2 := (((s1.setF ⟨R.WKT_AXn_FAULT n, 0, 11⟩ (old ||| bits)).setBit F.WKT_STAT_FAULT_SEEN n).setI
    (F.WKT_AXn_POS n) p).updAx n (fun a => { a with
      cur := none, homing := none, braking := none, ending := [], reducing := false, vm := some vm })
  let s3 := (s2.applyDeferred n).setAx n Ax.FAULT
  let s4 := if new = 0 then s3 else s3.wktEvent 2 n (lowestBit new) vm
  if s.axState n = Ax.FAULT then s4
  else s4.vbTrigger 0x48 (s3.eventBytes 0x0B 2 n (lowestBit bits) (u32 vm))

/-- WKTn_VM limits of the record, in 10 mV. -/
def State.vmMin (s : State) (n : Nat) : Int := 10 * leAt (s.axRec n) 18 2
def State.vmMax (s : State) (n : Nat) : Int := 10 * leAt (s.axRec n) 20 2

/-! ### The limit registers (R463, R467) -/

/-- The acceleration of a knot list at time `t`. -/
def knotsAcc (per : Rat) : List Knot → Rat → Rat
  | a :: b :: ks, t =>
    if t < b.t then
      let p : Piece := ⟨(b.t - a.t : Int) * per, a.s, a.v, b.s, b.v⟩
      p.acc (if t ≤ a.t then 0 else (t - a.t) / ((b.t - a.t : Int) : Rat))
    else knotsAcc per (b :: ks) t
  | _, _ => 0

/-- The target of a TARGET move that is braking now, if the axis runs one. -/
def State.brakingTo (s : State) (n : Nat) : Option Int :=
  match (s.ax n).cur with
  | some m =>
    if s.axState n = Ax.MOVING ∧ m.target.isSome then
      let a := knotsAcc (1 / 1000000) m.knots (((s.now : Int) - ((s.ax n).start : Int) : Int) / (26 : Rat))
      if (s.ax n).braking.isSome ∨ a * (s.axSV n).2 < 0 then m.knots.getLast?.map (·.s) else none
    else none
  | none => none

/-- A limit write ignored. -/
def State.limIgnored (s : State) (n : Nat) : State := s.setF (F.WKT_AXn_STAT_WR_IGNORED n) 1

/-- The deferral of a write: bit, event (R463). -/
def State.deferred (s : State) (n info v : Nat) : State :=
  (s.setBit F.WKT_STAT_DEFER_SEEN n).wktEvent 7 n info v

/-- A write to DEC. -/
def State.writeDec (s : State) (n v : Nat) : State :=
  let old := s.getF (F.WKT_AXn_DEC n)
  match s.brakingTo n with
  | none => (s.updAx n (fun a => { a with decNew := none })).setF (F.WKT_AXn_DEC n) v
  | some t =>
    let sv := s.axSV n
    let d := ratAbs ((t : Rat) - sv.1)
    if v < old ∧ d * (2 * v) < sv.2 * sv.2 then
      (s.updAx n (fun a => { a with decNew := some v })).deferred n 0 v
    else if d = 0 then (s.updAx n (fun a => { a with decNew := none })).setF (F.WKT_AXn_DEC n) v
    else
      (s.updAx n (fun a => { a with
        braking := some (sv.2 * sv.2 / (2 * d)), rampS := sv.1, rampV := sv.2, rampFrc := s.now, decNew := none })).setF
          (F.WKT_AXn_DEC n) v

/-- A write to EDEC. -/
def State.writeEdec (s : State) (n v : Nat) : State :=
  if s.axState n = Ax.EMERGENCY then
    if v < s.getF (F.WKT_AXn_EDEC n) then (s.updAx n (fun a => { a with edecNew := some v })).deferred n 1 v
    else
      let sv := s.axSV n
      (s.updAx n (fun a => { a with rampS := sv.1, rampV := sv.2, rampFrc := s.now, edecNew := none })).setF
        (F.WKT_AXn_EDEC n) v
  else s.setF (F.WKT_AXn_EDEC n) v

/-- A write to a limit or current register at offset `off` of the axis: accepted within its ceiling, else ignored; IRUN and
IHOLD, which share a register, each by itself. -/
def State.limitWrite (s : State) (n off v : Nat) : State :=
  let r := s.axRec n
  let a := s.ax n
  let dec := max (s.getF (F.WKT_AXn_DEC n)) (a.decNew.getD 0)
  let edec := min (s.getF (F.WKT_AXn_EDEC n)) (a.edecNew.getD (2 ^ 32))
  if off = 0x18 then
    if 1 ≤ v ∧ v ≤ leAt r 28 4 then s.setF (F.WKT_AXn_VMAX n) v else s.limIgnored n
  else if off = 0x1C then
    if 1 ≤ v ∧ v ≤ leAt r 32 4 then s.setF (F.WKT_AXn_ACC n) v else s.limIgnored n
  else if off = 0x20 then
    if 1 ≤ v ∧ v ≤ 2 * leAt r 36 4 ∧ v ≤ edec then s.writeDec n v else s.limIgnored n
  else if off = 0x24 then
    if 1 ≤ v ∧ v ≤ 2 * leAt r 40 4 ∧ dec ≤ v then s.writeEdec n v else s.limIgnored n
  else if off = 0x28 then
    if 1 ≤ v ∧ v ≤ leAt r 44 4 then s.setF (F.WKT_AXn_JERK n) v else s.limIgnored n
  else if off = 0x2C then
    let lo := v % 65536
    let hi := v / 65536
    let okLo : Bool := 1 ≤ lo && lo ≤ leAt r 4 2
    let okHi : Bool := 1 ≤ hi && hi ≤ leAt r 6 2
    let s1 := if okLo then s.setF (F.WKT_AXn_IRUN_IRUN n) lo else s
    let s2 := if okHi then s1.setF (F.WKT_AXn_IRUN_IHOLD n) hi else s1
    let s3 := s2.updAx n (fun a => { a with
      iset := if s.flag (F.WKT_AXn_STAT_REDUCED n) ∨ s.axState n = Ax.STALLED then s2.getF (F.WKT_AXn_IRUN_IHOLD n)
        else s2.getF (F.WKT_AXn_IRUN_IRUN n) })
    if okLo && okHi then s3 else s3.limIgnored n
  else s

/-! ### CTRL and FAULT writes -/

/-- ENABLE: a USED axis in DISABLED enters CHECKING; the chopper offsets and FAULT state start afresh (R455, R456). -/
def State.axEnable (s : State) (n : Nat) : State :=
  if s.axUsed n ∧ s.axState n = Ax.DISABLED then (s.updAx n (fun a => { a with
    winds := [{}, {}], checkFrc := s.now })).setAx n Ax.CHECKING else s

/-- DISABLE (R455): ignored in motion; else it clears HOMED, and an axis in HOLD or STALLED is turned off. CHECKING ends by its
checks and FAULT by its bits. -/
def State.axDisable (s : State) (n : Nat) : State :=
  let st := s.axState n
  if st = Ax.MOVING ∨ st = Ax.HOMING ∨ st = Ax.EMERGENCY then s.limIgnored n
  else if st = Ax.HOLD ∨ st = Ax.STALLED then
    (((s.dropPend n 0x88).setF (F.WKT_AXn_STAT_HOMED n) 0).setF (F.WKT_AXn_STAT_REDUCED n) 0).updAx n
      (fun a => { a with reducing := false }) |>.setAx n Ax.DISABLED
  else s.setF (F.WKT_AXn_STAT_HOMED n) 0

/-- ZERO (WKT_AXn_CTRL). -/
def State.axZero (s : State) (n : Nat) : State :=
  let st := s.axState n
  if st = Ax.HOLD then (s.setI (F.WKT_AXn_POS n) 0).setF (F.WKT_AXn_STAT_HOMED n) 1
  else if st = Ax.STALLED then (s.setF (F.WKT_AXn_STAT_HOMED n) 1).enterHold n 0
  else s

/-- A write of WKT_AXn_CTRL. -/
def State.axCtrl (s : State) (n v : Nat) : State :=
  let s1 := if v.testBit 0 then s.axEnable n else s
  let s2 := if v.testBit 1 then s1.axDisable n else s1
  if v.testBit 2 then s2.axZero n else s2

/-- A W1C write of WKT_AXn_FAULT: bits whose condition is absent clear; clearing the last moves FAULT to DISABLED. -/
def State.axFaultClear (s : State) (n mask absent : Nat) : State :=
  let f : Fld := ⟨R.WKT_AXn_FAULT n, 0, 11⟩
  let old := s.getF f
  let new := old - (old &&& mask &&& absent)
  let s1 := s.setF f new
  if old ≠ 0 ∧ new = 0 ∧ s.axState n = Ax.FAULT then s1.setAx n Ax.DISABLED else s1

/-! ### Items (R465) -/

/-- The axis an item names. -/
def WItem.axis (i : WItem) : Nat := bitsOf (i.arg 0) 0 2

/-- The status that turns a WKT_MOVE away, if one does. -/
def State.moveRefused (s : State) (i : WItem) (ks : Option (List Knot)) : Option Nat :=
  let n := i.axis
  let a0 := i.arg 0
  let st := s.axState n
  let target := (bitsOf a0 4 2) = 1
  let rel := a0.testBit 12
  let bad := bitsOf a0 2 2 ≠ 0 ∨ 1 < bitsOf a0 4 2 ∨ bitsOf a0 6 2 ≠ 0 ∨ 1 < bitsOf a0 8 2 ∨ bitsOf a0 10 2 ≠ 0 ∨
    bitsOf a0 13 19 ≠ 0 ∨ (if target then i.payload ≠ [] else ks.isNone ∨ i.arg 1 ≠ 0)
  let soft := s.axSoft n ∧ s.flag (F.WKT_AXn_STAT_HOMED n)
  if s.stopStands ∨ i.stopped then some St.FROZEN
  else if bad then some St.BAD_ARG
  else if !s.axUsed n then some 0x89
  else if st ≠ Ax.HOLD ∧ st ≠ Ax.MOVING then some 0x80
  else if (target ∨ !rel) ∧ !s.flag (F.WKT_AXn_STAT_HOMED n) then some 0x81
  else if (if target then
      !rel ∧ soft ∧ !(leAtI (s.axRec n) 48 4 ≤ leAtI (leBytes 4 (i.arg 1)) 0 4 ∧
        leAtI (leBytes 4 (i.arg 1)) 0 4 ≤ leAtI (s.axRec n) 52 4)
    else !s.tableOk n (ks.getD []) (soft ∧ !rel)) then some 0x82
  else if (s.ax n).pend.isSome then some 0x85
  else none

/-- WKT_MOVE accepted or refused; an accepted item waits without a core, and a NEXT table on an axis in HOLD starts at
once. -/
def State.wktMove (s : State) (i : WItem) : State :=
  let n := i.axis
  let a0 := i.arg 0
  let ks := wktKnots i.payload
  match s.moveRefused i ks with
  | some st => s.axFinish n i.wid st
  | none =>
    let m : WktMove := { wid := i.wid, knots := ks.getD [], shared := bitsOf a0 8 2 = 1, rel := a0.testBit 12,
                         target := if bitsOf a0 4 2 = 1 then some (leAtI (leBytes 4 (i.arg 1)) 0 4) else none }
    ((s.park i.wid).updAx n (fun a => { a with pend := some m })).tryStart n

/-- WKT_HOME accepted or refused (R464, R465). -/
def State.wktHome (s : State) (i : WItem) : State :=
  let n := i.axis
  let a0 := i.arg 0
  let st := s.axState n
  let sw := a0.testBit 8
  let bad := bitsOf a0 2 6 ≠ 0 ∨ bitsOf a0 11 21 ≠ 0 ∨ i.payload ≠ [] ∨ i.arg 1 = 0 ∨
    (sw ∧ leAt (s.axRec n) 1 1 = 0xFF)
  let fin (st : Nat) : State := s.axFinish n i.wid st
  if s.stopStands ∨ i.stopped then fin St.FROZEN
  else if bad then fin St.BAD_ARG
  else if !s.axUsed n then fin 0x89
  else if st ≠ Ax.HOLD ∧ st ≠ Ax.STALLED then fin 0x80
  else if s.getF (F.WKT_AXn_VMAX n) < i.arg 1 then fin 0x82
  else
    let h : Homing := {
      wid := i.wid, switch := sw, positive := a0.testBit 9, level := a0.testBit 10, speed := i.arg 1
      home := leAtI (leBytes 4 (i.arg 2)) 0 4, travel := i.arg 3, acc := s.getF (F.WKT_AXn_ACC n) }
    (((s.park i.wid).setF (F.WKT_AXn_STAT_REDUCED n) 0).updAx n (fun a => { a with
      homing := some h, braking := none, rampS := (s.getI (F.WKT_AXn_POS n) : Int), rampFrc := s.now, reducing := false, stallRun := 0,
      iset := s.getF (F.WKT_AXn_IRUN_IRUN n) })).setAx n Ax.HOMING

/-! ### Commands -/

def execWktEnable (m : Master) (n : Nat) (s : State) : Host.Outcome State Fault Refusal :=
  .next (if 3 < n then s else s.guardW m (R.WKT_AXn_CTRL n) 1 (·.axEnable n))

/-- The FAULT bits of the first check of R456 that fails, 0 for none: the supply `vm` in 10 mV, the self-check with the switch it
names, the currents the windings reached, in mA. -/
def State.checkFaults (s : State) (n : Nat) (sc : Option Nat) (ia ib : Nat) (vm : Int) : Nat :=
  if vm < -300 then 0x10
  else if vm < s.vmMin n then 0x20
  else if s.vmMax n < vm then 0x40
  else if sc.isSome then 0x80
  else
    let open_ (i : Nat) : Bool := 10 * i < s.getF (F.WKT_AXn_IRUN_IRUN n)
    0x100 * b2n (open_ ia) + 0x200 * b2n (open_ ib)

/-- The checks of R456 end. -/
def execWktCheckDone (n : Nat) (sc : Option Nat) (ia ib : Nat) (vm : Int) (s : State) : Host.Outcome State Fault Refusal :=
  .next (
    if s.wktOn n ∧ s.axState n = Ax.CHECKING then
      let bits := s.checkFaults n sc ia ib vm
      if bits = 0 then (s.updAx n (fun a => { a with vm := some vm })).enterHold n (s.getI (F.WKT_AXn_POS n))
      else if bits = 0x80 then (s.setF (F.WKT_AXn_FAULT_SC_SWITCH n) (sc.getD 0)).axFault n 0x80 vm
      else s.axFault n bits vm
    else s)

def execWktDisable (m : Master) (n : Nat) (s : State) : Host.Outcome State Fault Refusal :=
  .next (if 3 < n then s else s.guardW m (R.WKT_AXn_CTRL n) 2 (·.axDisable n))

def execWktZero (m : Master) (n : Nat) (s : State) : Host.Outcome State Fault Refusal :=
  .next (if 3 < n then s else s.guardW m (R.WKT_AXn_CTRL n) 4 (·.axZero n))

def execWktMoveTable (wid : Nat) (s : State) : Host.Outcome State Fault Refusal :=
  .next (match s.active? wid W.WKT_MOVE with
    | some i => if bitsOf (i.arg 0) 4 2 = 1 then s else s.wktMove i
    | none => s)

def execWktMoveTarget (wid : Nat) (s : State) : Host.Outcome State Fault Refusal :=
  .next (match s.active? wid W.WKT_MOVE with
    | some i => if bitsOf (i.arg 0) 4 2 = 1 then s.wktMove i else s
    | none => s)

def execWktHomeStall (wid : Nat) (s : State) : Host.Outcome State Fault Refusal :=
  .next (match s.active? wid W.WKT_HOME with
    | some i => if (i.arg 0).testBit 8 then s else s.wktHome i
    | none => s)

def execWktHomeSwitch (wid : Nat) (s : State) : Host.Outcome State Fault Refusal :=
  .next (match s.active? wid W.WKT_HOME with
    | some i => if (i.arg 0).testBit 8 then s.wktHome i else s
    | none => s)

/-- A pending move starts, in the WCLK cycle after the table in force or the compare that named the axis (R459). -/
def execWktTableStart (n : Nat) (s : State) : Host.Outcome State Fault Refusal :=
  .next (if s.wktOn n then s.tryStart n else s)

/-- Has the move in force run to its end: the last knot's time, or v = 0 on a braking rebuilt under R463? -/
def State.moveOver (s : State) (n : Nat) (m : WktMove) : Bool :=
  let a := s.ax n
  match a.braking with
  | some d => ratAbs a.rampV ≤ d * s.secsFrom a.rampFrc
  | none => (a.start : Int) + 26 * (m.knots.getLast?.map (·.t)).getD 0 ≤ s.now

/-- The last knot is reached (R459, R465). -/
def execWktTableEnd (n : Nat) (s : State) : Host.Outcome State Fault Refusal :=
  .next (match (s.ax n).cur with
    | some m =>
      if s.wktOn n ∧ s.axState n = Ax.MOVING ∧ s.moveOver n m then
        let p := (s.ax n).base + ((m.knots.getLast?.map (·.s)).getD 0)
        let s1 := (s.setI (F.WKT_AXn_POS n) p).updAx n (fun a => { a with cur := none, braking := none })
        let s2 := ((s1.setF (F.WKT_AXn_STAT_TABLE_DONE n) 1).axFinish n m.wid St.OK).wktEvent 6 n St.OK p
        match (s2.ax n).pend with
        | some q => if !q.shared || q.due then s2.tryStart n else s2.enterHold n p
        | none => s2.enterHold n p
      else s
    | none => s)

/-- v reaches 0 on an emergency ramp (R461, R462). -/
def execWktRampEnd (n : Nat) (s : State) : Host.Outcome State Fault Refusal :=
  .next (
    let a := s.ax n
    if s.wktOn n ∧ s.axState n = Ax.EMERGENCY ∧ ratAbs a.rampV ≤ s.getF (F.WKT_AXn_EDEC n) * s.secsFrom a.rampFrc then
      let p := (brakeEnd a.rampS a.rampV (s.getF (F.WKT_AXn_EDEC n))).floor
      let s1 := (s.setI (F.WKT_AXn_POS n) p).enterHold n p
      a.ending.foldl (fun t w => t.axEnd n w 0x84 p) s1
    else s)

/-- Have STALL_STEPS consecutive zero crossings shown a load angle of STALL_DEG or more (R454)? -/
def State.stallSeen (s : State) (n : Nat) : Bool := max (leAt (s.axRec n) 23 1) 1 ≤ (s.ax n).stallRun

/-- A homing run ends at rest at `p` with a status; home found, the axis is HOMED (R464). -/
def State.homeEnd (s : State) (n wid st : Nat) (p : Int) : State :=
  let s1 := s.enterHold n p
  (if st = St.OK then s1.setF (F.WKT_AXn_STAT_HOMED n) 1 else s1).axFinish n wid st

/-- A homing run brakes at DEC from `p` and ends with a status. -/
def State.homeBrake (s : State) (n : Nat) (h : Homing) (p v : Rat) (st : Nat) : State :=
  s.updAx n (fun a => { a with
    homing := some { h with ended := some st }, braking := some (s.getF (F.WKT_AXn_DEC n)), rampS := p, rampV := v
    rampFrc := s.now })

/-- A homing run that brakes has come to rest. -/
def State.homeStep (s : State) (n : Nat) : State :=
  let a := s.ax n
  match a.homing, a.braking with
  | some h, some d =>
    match h.ended with
    | some st =>
      if s.axState n = Ax.HOMING ∧ ratAbs a.rampV ≤ d * s.secsFrom a.rampFrc then
        s.homeEnd n h.wid st (brakeEnd a.rampS a.rampV d).floor
      else s
    | none => s
  | _, _ => s

/-- Home is found, by a stall or by an edge of HOME_GPIO to `level`: s becomes ARG2, and the axis brakes at DEC, or stops at once
after a stall (R464). -/
def execWktHomeFound (n : Nat) (level : Bool) (s : State) : Host.Outcome State Fault Refusal :=
  .next (match (s.ax n).homing with
    | some h =>
      if s.wktOn n ∧ s.axState n = Ax.HOMING ∧ h.ended = none ∧ (if h.switch then level = h.level else s.stallSeen n) then
        let s1 := s.wktEvent 4 n (if h.switch then 1 else 0) (s.axS n)
        if h.switch then s1.homeBrake n h h.home (s.axSV n).2 St.OK else s1.homeEnd n h.wid St.OK h.home
      else s
    | none => s)

/-- The homing travel is exhausted: the axis brakes and the item completes with NOT_FOUND (R464). -/
def execWktHomeNotFound (n : Nat) (s : State) : Host.Outcome State Fault Refusal :=
  .next (match (s.ax n).homing with
    | some h =>
      if s.wktOn n ∧ s.axState n = Ax.HOMING ∧ h.ended = none ∧
          (h.travel : Rat) ≤ ratAbs ((s.axSV n).1 - (s.ax n).rampS) then
        s.homeBrake n h (s.axSV n).1 (s.axSV n).2 0x86
      else s
    | none => s)

/-- A stall is declared (R454), with the load angle of the last zero crossing. -/
def execWktStall (n : Nat) (s : State) : Host.Outcome State Fault Refusal :=
  let a := s.ax n
  let st := s.axState n
  let moving := st = Ax.MOVING ∨ st = Ax.HOMING ∨ st = Ax.EMERGENCY
  let homeStall := a.homing.any (fun h => !h.switch)
  .next (
    if s.wktOn n ∧ moving ∧ ¬ homeStall ∧ s.stallSeen n then
      let p := s.axS n
      let s1 := (((((s.setF (F.WKT_AXn_FAULT_STALL n) 1).setBit F.WKT_STAT_FAULT_SEEN n).setBit
        F.WKT_STAT_STALL_SEEN n).incF (F.WKT_AXn_CNT_STALLS n)).setF (F.WKT_AXn_STAT_HOMED n) 0)
      let s2 := (s1.wktEvent 3 n (s.getF (F.WKT_AXn_LOAD_PHI n)) p).updAx n (fun a => { a with stallRun := 0 })
      if s.axStallStop n then
        let s3 := a.inForce.foldl (fun t w => t.axEnd n w 0x87 p) (s2.dropPend n 0x87)
        (((s3.setI (F.WKT_AXn_POS n) p).updAx n (fun a => { a with
          cur := none, homing := none, braking := none, ending := [],
          iset := s.getF (F.WKT_AXn_IRUN_IHOLD n) })).applyDeferred n).setAx n Ax.STALLED
      else s2
    else s)

/-- OC of an axis, in mA (R466). -/
def State.axOc (s : State) (n : Nat) : Nat := leAt (s.axRec n) 8 2

/-- A shunt current of `i` mA in winding A or B, above OC (R452, R83). -/
def execWktOvercurrent (n : Nat) (b : Bool) (i : Nat) (vm : Int) (s : State) : Host.Outcome State Fault Refusal :=
  .next (if s.wktOn n ∧ s.axUsed n ∧ s.axOc n < i then s.axFault n (if b then 2 else 1) vm else s)

/-- WKTn_VM read (R452). -/
def State.vmRead (s : State) (n : Nat) (vm : Int) : State := s.updAx n (fun a => { a with vm := some vm })

def execWktVmLow (n : Nat) (vm : Int) (s : State) : Host.Outcome State Fault Refusal :=
  .next (if s.wktOn n ∧ s.axUsed n ∧ vm < s.vmMin n then s.axFault n 0x20 vm else s)

def execWktVmOver (n : Nat) (vm : Int) (s : State) : Host.Outcome State Fault Refusal :=
  .next (if s.wktOn n ∧ s.axUsed n ∧ 6300 < vm then s.axFault n 0x40 vm else s)

def execWktVmHigh (n : Nat) (vm : Int) (s : State) : Host.Outcome State Fault Refusal :=
  .next (if s.wktOn n ∧ s.axUsed n ∧ s.vmMax n < vm then (s.vmRead n vm).setF (F.WKT_AXn_STAT_VM_HIGH_NOW n) 1 else s)

def execWktVmHighEnd (n : Nat) (vm : Int) (s : State) : Host.Outcome State Fault Refusal :=
  .next (if s.wktOn n ∧ vm ≤ s.vmMax n - 100 then (s.vmRead n vm).setF (F.WKT_AXn_STAT_VM_HIGH_NOW n) 0 else s)

def execWktVmReversed (n : Nat) (vm : Int) (s : State) : Host.Outcome State Fault Refusal :=
  .next (if s.wktOn n ∧ s.axUsed n ∧ vm < -300 then s.axFault n 0x10 vm else s)

/-- STANDSTILL of an axis, in µs. -/
def State.standstillUs (s : State) (n : Nat) : Nat := 1000 * leAt (s.axRec n) 16 2

/-- i_set now: while it falls, on the line from IRUN to IHOLD over 64 ms (R453). -/
def State.isetNow (s : State) (n : Nat) : Nat :=
  let a := s.ax n
  if s.axState n = Ax.HOLD ∧ a.reducing then
    let us := min ((s.now - (a.holdFrc + 26 * s.standstillUs n)) / 26) 64000
    let r := s.getF (F.WKT_AXn_IRUN_IRUN n)
    r - (r - s.getF (F.WKT_AXn_IRUN_IHOLD n)) * us / 64000
  else a.iset

/-- STANDSTILL ms in HOLD have passed: i_set begins to fall (R453). -/
def execWktStandstillExpiry (n : Nat) (s : State) : Host.Outcome State Fault Refusal :=
  .next (if s.wktOn n ∧ s.axState n = Ax.HOLD ∧ ¬ s.flag (F.WKT_AXn_STAT_REDUCED n) ∧
      s.since (s.ax n).holdFrc (s.standstillUs n) then
    s.updAx n (fun a => { a with reducing := true }) else s)

/-- The 64 ms fall ends (R453). -/
def execWktReduceDone (n : Nat) (s : State) : Host.Outcome State Fault Refusal :=
  .next (if s.wktOn n ∧ s.axState n = Ax.HOLD ∧ (s.ax n).reducing ∧ s.since (s.ax n).holdFrc (s.standstillUs n + 64000) then
    (s.updAx n (fun a => { a with reducing := false, iset := s.getF (F.WKT_AXn_IRUN_IHOLD n) })).setF
      (F.WKT_AXn_STAT_REDUCED n) 1 else s)

/-- A write of DEC, or of EDEC where `e` (R463, R467). -/
def execWktDecelWrite (m : Master) (n : Nat) (e : Bool) (v : Word) (s : State) : Host.Outcome State Fault Refusal :=
  let a := if e then R.WKT_AXn_EDEC n else R.WKT_AXn_DEC n
  .next (if 3 < n then s else s.guardW m a v.toNat (·.limitWrite n (if e then 0x24 else 0x20) v.toNat))

/-- A write of the limit or current register at offset 0x18 to 0x2C of an axis (R467). -/
def execWktLimitWrite (m : Master) (n off : Nat) (v : Word) (s : State) : Host.Outcome State Fault Refusal :=
  .next (if 3 < n ∨ off < 0x18 ∨ 0x2C < off ∨ off % 4 ≠ 0 then s
    else s.guardW m (0xB0100 + 0x40 * n + off) v.toNat (·.limitWrite n off v.toNat))

/-- A W1C write of WKT_AXn_FAULT; `absent` are the bits whose condition is absent. -/
def execWktFaultClear (m : Master) (n : Nat) (mask : Word) (absent : Nat) (s : State) :
    Host.Outcome State Fault Refusal :=
  .next (if 3 < n then s else s.guardW m (R.WKT_AXn_FAULT n) mask.toNat (·.axFaultClear n mask.toNat absent))

end Sys2Proof.Machine
end

