-- ==== Sys2Proof/Machine/StopCore.lean ====
section
/-! DEFINITION. What every unit calls: a request to the persistent store (spec/17 R538), the end of a link test (R542),
Gazebo's stop words and trains (spec/13 R429–R433), a stop cause and the new stop it begins (R37, R425–R428), a fault
of the self-test. -/
namespace Sys2Proof.Machine

/-! ### The persistent store -/

/-- The slot list with one slot written. -/
def putSlot (sl : List (Nat × KeySlot)) (n : Nat) (k : KeySlot) : List (Nat × KeySlot) :=
  Sparse.write (fun _ => {}) sl n k

/-- Slots changed by a key update written over a list; of the store's list the persistent ones stay. -/
def mergeSlots (persist : Bool) (ch sl : List (Nat × KeySlot)) : List (Nat × KeySlot) :=
  ch.foldl (fun l p => putSlot l p.1 (if persist && !p.2.persist then {} else p.2)) sl

/-- One change applied to an image (R536). -/
def PsImage.apply (im : PsImage) : PsChange → PsImage
  | .upd r => { im with upd := some r }
  | .org ch c => { im with org := some (mergeSlots true ch ((im.org.map (·.1)).getD []), c) }
  | .orgUse n => { im with org := im.org.map (fun o =>
      (o.1.map (fun p => if p.1 = n then (n, { p.2 with uses := p.2.uses - 1 }) else p), o.2)) }
  | .clearSeq n => { im with clearSeq := some n }
  | .swapSeq p n => { im with swapSeq := some (p, n) }
  | .session c => { im with session := some c }
  | .survey a v => { im with survey := some (((im.survey.getD []).filter (·.1 ≠ a)) ++ [(a, v)]) }
  | .vbFreeze p b => { im with vbFreeze := some (p, b) }
  | .stopRadio r n f => { im with stopRadio := some (r, n, f) }

/-- The entry ID a change touches (R536). -/
def PsChange.entry : PsChange → Nat
  | .upd _ => 1
  | .org _ _ => 2
  | .orgUse _ => 2
  | .clearSeq _ => 3
  | .swapSeq _ _ => 4
  | .session _ => 5
  | .survey _ _ => 6
  | .vbFreeze _ _ => 7
  | .stopRadio _ _ _ => 8

/-- A change requested: the write starts at once, or joins the next write (R538). -/
def State.psRequest (s : State) (who : PsWho) (ch : PsChange) : State :=
  if s.ps.running = [] then { s with ps := { s.ps with running := [⟨who, ch⟩], tries := 0 } }
  else { s with ps := { s.ps with waiting := s.ps.waiting ++ [⟨who, ch⟩] } }

/-- The image selected, with no entries where none is. -/
def State.psImage (s : State) : PsImage := s.ps.sel.getD {}

/-! ### Link tests -/

/-- The 16-byte result of a test (R544). -/
def State.testResult (s : State) (t : LinkTest) : Bytes :=
  leBytes 4 (s.rd R.TEST_BITS_LO).toNat ++ leBytes 4 (s.rd R.TEST_BITS_HI).toNat ++
    leBytes 4 (s.rd R.TEST_ERRORS).toNat ++ leBytes 2 (min t.chk.loss 65535) ++ leBytes 2 t.value

/-- The running test ends with a status (R542, R544). -/
def State.endTest (s : State) (st : Nat) : State :=
  match s.test with
  | none => s
  | some t =>
    let s1 := { (s.finish t.wid st (s.testResult t)).setF F.TEST_STAT_DONE_SEEN 1 with test := none }
    if st = 0x83 ∨ s.rd R.TEST_ERRORS ≠ 0 then s1.setF F.TEST_STAT_ERR_SEEN 1 else s1

/-! ### Stop words (R431–R433) -/

/-- The value of STOP_CNT after `c`: 0 is skipped when it wraps (R427). -/
def nextCnt (c : Nat) : Nat := if c = 65535 then 1 else c + 1

/-- A keyed stop word: NETWORK_ID, STOP_CNT, and the CCM tag over both (R431). -/
def stopWord (key : Bytes) (net cnt : Nat) : Nat :=
  let nonce := [byte 4] ++ leBytes 2 net ++ [byte 0, byte 0xFF] ++ leBytes 4 cnt ++ leBytes 4 0
  net * 2 ^ 48 + cnt * 2 ^ 32 + beNat (ccmTag key nonce (leBytes 2 net ++ leBytes 2 cnt) [] 4)

/-- Both words recomputed, with WORD_READY (R433): none without a key or before the NETWORK_ID is known. -/
def State.stopWords (s : State) : State :=
  match s.gzb.curKey, s.gzb.radio with
  | some k, some (_, net, _) =>
    let c := s.getF F.GZB_STAT_STOP_CNT
    { s.setF F.GZB_STAT_WORD_READY 1 with
      gzb := { s.gzb with word := stopWord k net c, nextWord := stopWord k net (nextCnt c) } }
  | _, _ => s.setF F.GZB_STAT_WORD_READY 0

/-- Do trains carry the keyed word: in no state but INIT, and only with KEY_VALID (R433)? -/
def State.keyed (s : State) : Bool := s.gzState ≠ Gz.INIT ∧ s.gzb.curKey.isSome

/-- The word the standing stop's trains carry: keyed, or NETWORK_ID with STOP_CNT 0 and MIC 0. -/
def State.airWord (s : State) : Nat :=
  if s.keyed then s.gzb.word
  else match s.gzb.radio with
    | some (_, net, _) => net * 2 ^ 48
    | none => 0

/-! ### Stop trains (R429, R430, R435) -/

/-- Air time of a train in µs (R429): 16 units initially, 2 in a repeat. -/
def Train.us (t : Train) : Nat := if t.initial then 544 else 68

/-- A train of `us` µs keys a band's pad from FRC `now` on: a frame not yet sent whole is cut off and left without a retry
(R348). -/
def Band.cut (b : Band) (now us : Nat) : Band :=
  let t := { b with keyed := some (now, now + 26 * us) }
  if b.tx.any (fun p => now < p.2) then { t with wait := b.wait.map (fun f => { f with tries := 255 }), tx := none } else t

/-- The level LNA_EN_x rests at while its PA_EN_x is low (R57): band A's is high while the wake-up receiver listens, from
step 9 on in every state but deep standby (R346, log entry 67); band B's while D9 runs under a plan. A plan that uses the
pads of a band in its EXT_PA, or no plan, is needed for either (R145). -/
def State.lnaRest (s : State) (b : Nat) : Bool :=
  (if b = 0 then s.gzb.train.isNone && s.getF F.LODGE_PWR_STATE_STATE ≠ 4
    else s.domOn 9 && s.planActive && !s.gzb.train.any (·.rfb)) &&
    (!s.planActive || s.extPa b)

/-- Gazebo keys its pads: an initial train of 16 units on RFA, and on RFB where band B is used, or a repeat of 2 units
on RFA. Without a carrier region known no train is sent (R430). -/
def State.startTrain (s : State) (initial : Bool) : State :=
  match s.gzb.radio with
  | none => s
  | some (_, _, rfb) =>
    let b := initial ∧ rfb ≠ 0
    let p := { s.pads with paEnA := true, lnaEnA := false }
    let t : Train := ⟨s.now, initial, b, s.keyed⟩
    { (s.setF F.GZB_STAT_KEYING 1) with
      gzb := { s.gzb with train := some t }
      pads := if b then { p with paEnB := true, lnaEnB := false } else p
      bsa := s.bsa.cut s.now t.us
      bsb := if b then s.bsb.cut s.now t.us else s.bsb }

/-! ### A new stop (R37, R427) -/

/-- Pergola's part of a stop (R415): PATH windows become FREEZE, stored requests complete FROZEN, the path in progress
is abandoned. -/
def State.pglFreeze (s : State) : State :=
  if !s.domOn 10 then s
  else
    let reqs := s.pgl.store ++ s.pgl.planning.toList
    let s1 := reqs.foldl (fun t r => match r.wid with
      | some w => t.finish w St.FROZEN
      | none => t) s
    ({ s1 with pgl := { s1.pgl with
      store := [], planning := none
      wins := s.pgl.wins.map (fun (w : Win) => if w.kind = 0 then { w with kind := 3, stop := none } else w) } }.setF
        F.PGL_STAT_FROZEN 1).incF F.PGL_CNT_FROZEN reqs.length

/-- The steps of R37 for cause `bit` as a new stop: latches and relays, trains, ramps, freeze, SNAP, record, interrupt,
event, wake. -/
def State.newStop (s : State) (bit member : Nat) : State :=
  let cnt := nextCnt (s.getF F.GZB_STAT_STOP_CNT)
  let s1 := (((((s.setF F.GZB_STAT_STATE Gz.STOPPED).setF F.GZB_STAT_CH_A_RUN 0).setF F.GZB_STAT_CH_B_RUN 0).setF
    F.GZB_STAT_STOP_CNT cnt).setF F.GZB_CAUSE_FIRST bit).setF F.GZB_CAUSE_CAUSE
      (2 ^ bit ||| s.getF F.GZB_CAUSE_NOW_LEVEL)
  let s2 : State := { s1 with
    gzb := { s1.gzb with edgeFrc := s.frc }
    pads := { s1.pads with rel1 := false, rel2 := false }
    power := { s1.power with wakeReq := s1.power.wakeReq ||| 2 ^ 7 } }
  let s3 := ((s2.stopWords.startTrain true).wktStop).pglFreeze
  let r := s3.snap 4
  let s4 := r.2.vbTrigger 1 (leBytes 2 cnt ++ [byte bit, byte 0]) (some r.1)
  (((s4.irq Irq.STOP).gzbEvent 1 bit cnt member).endTest 0x83).raiseTask 0

/-- A cause added to a standing stop (R426): an event and a record only where its bit is new. -/
def State.addCause (s : State) (bit : Nat) : State :=
  if s.bit F.GZB_CAUSE_CAUSE bit then s
  else
    let c := s.getF F.GZB_STAT_STOP_CNT
    ((s.setBit F.GZB_CAUSE_CAUSE bit).gzbEvent 2 bit c).vbTrigger 2 ([byte bit, byte 0] ++ leBytes 2 c)

/-- A cause of R425 arrives: a new stop in RUN and CLEARING, an added cause otherwise. A level cause has its bit in
GZB_CAUSE_NOW already; an event cause is counted for the checks of R444. -/
def State.raiseCause (s : State) (bit : Nat) (member : Nat := 0) : State :=
  let s0 : State := if bit < 3 then s else { s with gzb := { s.gzb with causes := s.gzb.causes + 1 } }
  if s.gzState = Gz.RUN ∨ s.gzState = Gz.CLEARING then s0.newStop bit member else s0.addCause bit

/-- The causes of R425. -/
abbrev Cause.LOOP_A : Nat := 0
abbrev Cause.LOOP_B : Nat := 1
abbrev Cause.LOCAL : Nat := 2
abbrev Cause.HOST : Nat := 3
abbrev Cause.ROBOT : Nat := 4
abbrev Cause.SUPPLY_LOSS : Nat := 5
abbrev Cause.CLOCK_FAIL : Nat := 6
abbrev Cause.DOMAIN_RESET : Nat := 7
abbrev Cause.POWER_ON : Nat := 8
abbrev Cause.SELFTEST : Nat := 9
abbrev Cause.TAMPER : Nat := 10

/-- The GZB_LOOP_V sample as an event's VALUE. -/
def State.loopV (s : State) : Nat := (s.rd R.GZB_LOOP_V).toNat

/-- A GZB_FAULT bit latched: its record and event where new, and the cause SELFTEST (R425, R438–R441, R447). The event of
COMP_MISMATCH carries the sample that decided it, that of any other fault waits for the next. -/
def State.gzbFault (s : State) (bit : Nat) : State :=
  let f : Fld := ⟨R.GZB_FAULT, 0, 16⟩
  let s1 := if s.bit f bit then s
    else
      let t := s.setBit f bit
      let u := if bit = 7 ∨ bit = 8 then t.gzbEvent 6 bit t.loopV
        else { t with gzb := { t.gzb with faultDue := t.gzb.faultDue ++ [bit] } }
      u.vbTrigger 5 (leBytes 4 (u.rd R.GZB_FAULT).toNat)
  s1.raiseCause Cause.SELFTEST

/-- Reset of D2, D3, D8, D9 or D10 while Gazebo is armed raises DOMAIN_RESET (R118). -/
def State.domResetStop (s : State) : State :=
  if s.gzState = Gz.INIT then s else s.raiseCause Cause.DOMAIN_RESET

end Sys2Proof.Machine
end

