-- ==== Sys2Proof/Machine/Keys.lean ====
section
/-! DEFINITION. Orangery's keys as other units use them (spec/15_orangery_keys.md): slots and their use counters, the
derivation tree, and the loads of the Bandstand key caches and Gazebo's key registers. -/
namespace Sys2Proof.Machine

/-- The unique device secret (R474). -/
def udsBytes : Bytes := beBytes 32 (Config.deviceSecret 0)

/-! ### Slots (R469–R472) -/

abbrev Cls.EMPTY : Nat := 0
abbrev Cls.KEY_AUTH : Nat := 1
abbrev Cls.WRAP : Nat := 2
abbrev Cls.PLAN_SIGN : Nat := 3
abbrev Cls.FLEET_ROOT : Nat := 4
abbrev Cls.JOIN : Nat := 5
abbrev Cls.CLEAR_AUTH : Nat := 6
abbrev Cls.HOST_HMAC : Nat := 7

def State.setSlot (s : State) (n : Nat) (k : KeySlot) : State :=
  { s with org := { s.org with slots := putSlot s.org.slots n k } }

/-- Uses of a persistent slot whose count is being written to the store (R471). -/
def State.usesPending (s : State) (n : Nat) : Nat :=
  ((s.ps.running ++ s.ps.waiting).filter (·.change = .orgUse n)).length

/-- Has the slot a use left (R471)? -/
def State.slotHasUse (s : State) (n : Nat) : Bool := !(s.slot n).limited || s.usesPending n < (s.slot n).uses

/-- Does the slot serve operations of class `c`? -/
def State.slotServes (s : State) (n c : Nat) : Bool := (s.slot n).cls = c && !(s.slot n).isSealed && s.slotHasUse n

/-- A refused use of a slot whose counter reads 0 sets EXHAUSTED (R471). -/
def State.slotDenied (s : State) (n : Nat) : State :=
  if (s.slot n).limited ∧ ¬ s.slotHasUse n then s.setSlot n { s.slot n with exhausted := true } else s

/-- One permitted operation with a slot (R471): a counter in the retention array falls at once, that of a persistent
slot with the store write, which `who` waits for. -/
def State.slotUse (s : State) (n : Nat) (who : PsWho) : State :=
  let k := s.slot n
  if !k.limited then s
  else if k.persist then s.psRequest who (.orgUse n)
  else s.setSlot n { k with uses := k.uses - 1 }

/-- Does a use of the slot wait for the store? -/
def KeySlot.waits (k : KeySlot) : Bool := k.limited && k.persist

/-- The slots of a class, by slot number. -/
def State.slotsOf (s : State) (c : Nat) : List Nat := (s.org.slots.filter (·.2.cls = c)).map (·.1)

/-- The first slot of a class that serves. -/
def State.slotFor? (s : State) (c : Nat) : Option Nat := (s.slotsOf c).find? (fun n => s.slotServes n c)

/-- A check by each slot of a list in turn, until one verifies: does one, and the state with the uses counted. No answer yet
where a use waits for the store (R471). -/
def State.tryKeys (s : State) (what : KeyCheck) (ok : Bytes → Bool) : List Nat → Option Bool × State
  | [] => (some false, s)
  | n :: ns =>
    let k := s.slot n
    if k.isSealed then s.tryKeys what ok ns
    else if !s.slotHasUse n then (s.slotDenied n).tryKeys what ok ns
    else if k.waits then (none, s.slotUse n (.keyCount what n ns))
    else if ok k.key then (some true, s.slotUse n (.keyCount what n ns))
    else (s.slotUse n (.keyCount what n ns)).tryKeys what ok ns

/-- The check goes on once the use of slot `n` is counted, or its write has failed, which fails the check by it. -/
def State.moreKeys (s : State) (what : KeyCheck) (ok : Bytes → Bool) (n : Nat) (ns : List Nat) (counted : Bool) :
    Option Bool × State :=
  if counted && ok (s.slot n).key then (some true, s) else s.tryKeys what ok ns

/-! ### Derivation tree (R473–R476) -/

abbrev Nd.FREE : Nat := 0
abbrev Nd.VALID : Nat := 1
abbrev Nd.INVALID : Nat := 2
abbrev Nd.ORPHAN : Nat := 3

def State.nodeState (s : State) (i : Nat) : Nat := ((s.node? i).map (·.state)).getD Nd.FREE

/-- The key of node `i`, recomputed from its parents (R474, R475). -/
def State.nodeKey (s : State) : Nat → Nat → Bytes
  | 0, _ => []
  | f + 1, i =>
    if i = 0 then kdf udsBytes (ascii "EWG-ROOT") s.power.measured 256
    else match s.node? i with
      | some nd => kdf (s.nodeKey f nd.parent) nd.label uidBytes 256
      | none => []

/-- The fixed nodes of a start path (R474): 0x01 normal, 0x02 recovery, 0x03 TEST. -/
def fixedNodes (path : Nat) : List OrgNode :=
  ⟨0, Nd.VALID, 0, ascii "EWG-ROOT"⟩ ::
    (if path = 1 then [⟨1, Nd.VALID, 0, ascii "FW"⟩, ⟨2, Nd.VALID, 1, ascii "ATTEST"⟩]
     else if path = 3 then [⟨3, Nd.VALID, 0, ascii "TEST"⟩]
     else [⟨4, Nd.VALID, 0, ascii "RECOVERY"⟩])

/-! ### Key caches and Gazebo's registers (R432, R479, R480, R492) -/

def Band.putKey (b : Band) (k : BsKey) : Band := { b with keys := k :: b.keys.filter (·.entry ≠ k.entry) }

def Band.updKey (b : Band) (e : Nat) (f : BsKey → BsKey) : Band :=
  { b with keys := b.keys.map (fun k => if k.entry = e then f k else k) }

def Band.dropKey (b : Band) (e : Nat) : Band := { b with keys := b.keys.filter (·.entry ≠ e) }

/-- Both bands changed, each where its domain is ON. -/
def State.bands (s : State) (f : Band → Band) : State :=
  { s with bsa := if s.domOn 8 then f s.bsa else s.bsa, bsb := if s.domOn 9 then f s.bsb else s.bsb }

/-- A key loaded into an entry of both bands. -/
def State.loadKey (s : State) (e : Nat) (key : Bytes) (session : Nat) : State :=
  if s.keysWithheld then s else s.bands (·.putKey { entry := e, key := key, session := session })

/-- A NEXT key loaded into an entry of both bands. -/
def State.loadNext (s : State) (e : Nat) (key : Bytes) : State :=
  if s.keysWithheld then s else s.bands (·.updKey e (fun k => { k with next := some key }))

/-- Gazebo behind its registers changed. -/
def State.updGzb (s : State) (f : Gzb → Gzb) : State := { s with gzb := f s.gzb }

/-- Gazebo's CURRENT and NEXT written, with their valid bits, and both words recomputed (R432, R433). -/
def State.setStopKeys (s : State) (cur nxt : Option Bytes) : State :=
  (((s.setF F.GZB_STAT_KEY_VALID (if cur.isSome then 1 else 0)).setF F.GZB_STAT_NEXT_VALID
    (if nxt.isSome then 1 else 0)).updGzb (fun g => { g with curKey := cur, nextKey := nxt })).stopWords

/-- Task 11 loads CURRENT, or NEXT, from key entry 0xFF (R432, R492). -/
def State.stopKeyLoad (s : State) (next : Bool) : State :=
  match s.bsa.key? 0xFF with
  | none => s
  | some k =>
    if s.keysWithheld then s
    else if next then
      match k.next with
      | some x => s.setStopKeys s.gzb.curKey (some x)
      | none => s
    else s.setStopKeys (some k.key) s.gzb.nextKey

/-- Gazebo switches from CURRENT to NEXT, where NEXT holds a key (R432). -/
def State.stopKeySwitch (s : State) : State :=
  match s.gzb.nextKey with
  | some k => s.setStopKeys (some k) none
  | none => s

end Sys2Proof.Machine
end

