-- ==== Sys2Proof/Machine/Gazebo.lean ====
section
/-! DEFINITION. Gazebo's commands (spec/13_gazebo_stop.md): level causes, self-test, stop trains, the host's stop
write, the first key and the clear. -/
namespace Sys2Proof.Machine

/-- Does Gazebo run: not Off, and POWER_ON released? -/
def State.gzOn (s : State) : Bool := !s.power.off && !s.power.porHeld

/-! ### Level causes (R74, R77, R423–R426) -/

/-- The GZB_STAT bit of a level input reading good: loop A, loop B, STOP_IN_LOCAL. -/
def gzInput (i : Nat) : Fld := ⟨R.GZB_STAT, 5 + i, 1⟩

/-- The test pulse and PROVEN bits of a loop. -/
def gzPulse (i : Nat) : Fld := ⟨R.GZB_STAT, 8 + i, 1⟩
def gzProven (i : Nat) : Fld := ⟨R.GZB_STAT, 10 + i, 1⟩

/-- The self-test of loop A, or of loop B. -/
def Gzb.test (g : Gzb) (i : Nat) : LoopTest := if i = 0 then g.testA else g.testB

/-- The self-test of a loop changed. -/
def State.updTest (s : State) (i : Nat) (f : LoopTest → LoopTest) : State :=
  s.updGzb (fun g => if i = 0 then { g with testA := f g.testA } else { g with testB := f g.testB })

/-- An input reads as a stop demand outside its own pulse: the level cause is active, PROVEN clears (R425, R438). -/
def State.levelCause (s : State) (i : Nat) : State :=
  let s1 := s.setBit F.GZB_CAUSE_NOW_LEVEL i
  let s2 := if i < 2 then s1.setF (gzProven i) 0 else s1
  if s.bit F.GZB_CAUSE_NOW_LEVEL i then s2 else s2.raiseCause i

/-- Is the other loop in its pulse, between two times in µs after its TP fell? -/
def State.inOther (s : State) (i lo hi : Nat) : Bool :=
  let f := (s.gzb.test (1 - i)).tpFrc
  i < 2 && s.flag (gzPulse (1 - i)) && f + 26 * lo ≤ s.now && s.now ≤ f + 26 * hi

/-- The FRC since which the loops read differently, after an input changed (R440). -/
def State.loopDiff (s : State) : State :=
  s.updGzb (fun g => { g with diffFrc := if s.flag (gzInput 0) = s.flag (gzInput 1) then none else some (g.diffFrc.getD s.now) })

/-- A loop's edge outside its own pulse: during it its channel ignores the opening (R438, R440). -/
def State.loopEdge (s : State) (i : Nat) : State := if i < 2 ∧ s.flag (gzPulse i) then s else s.loopDiff

/-- Input `i` (0 loop A, 1 loop B, 2 STOP_IN_LOCAL) comes to read as a stop demand. Nothing but Gazebo's being without power
or held keeps a loop's opening from its cause: no register, plan field or state disables a loop (R76). Within 50 µs after the other loop's TP
fell an opening is the first half of CROSS (R438). -/
def execStopInputEdge (i : Nat) (s : State) : Host.Outcome State Fault Refusal :=
  .next (
    if s.gzOn ∧ i < 3 ∧ s.flag (gzInput i) then
      let s1 := (s.setF (gzInput i) 0).loopEdge i
      let s2 := if s.inOther i 0 50 then s1.updTest (1 - i) (fun t => { t with otherFell := true }) else s1
      if i < 2 ∧ s.flag (gzPulse i) then s2 else s2.levelCause i
    else s)

/-- Input `i` reads good again; the level cause ends. Within 50 µs after the other loop's TP rose, 300 µs after its fall, it
is the second half of CROSS (R438). -/
def execLoopReadsClosed (i : Nat) (s : State) : Host.Outcome State Fault Refusal :=
  .next (
    if s.gzOn ∧ i < 3 then
      let s1 := ((s.setF (gzInput i) 1).clrBit F.GZB_CAUSE_NOW_LEVEL i).loopEdge i
      if s.inOther i 300 350 then s1.updTest (1 - i) (fun t => { t with otherRose := true }) else s1
    else s)

/-! ### Self-test (R438–R442) -/

/-- Is a loop's pulse due: 100 ms after its last and 50 ms after the other loop's, where there was one? -/
def State.pulseDue (s : State) (i : Nat) : Bool :=
  let ok (f us : Nat) : Bool := f = 0 || s.since f us
  ok (s.gzb.test i).tpFrc 100000 && ok (s.gzb.test (1 - i)).tpFrc 50000

/-- TP of a loop falls for its test pulse of 300 µs (R438). -/
def execTestPulse (i : Nat) (s : State) : Host.Outcome State Fault Refusal :=
  .next (
    if s.gzOn ∧ i < 2 ∧ s.pulseDue i ∧ ¬ s.flag (gzPulse 0) ∧ ¬ s.flag (gzPulse 1) then
      (s.setF (gzPulse i) 1).updTest i (fun t => { t with
        tpFrc := s.now, fallFail := false, otherFell := false, otherRose := false, crossFail := false })
    else s)

/-- 50 µs after TP fell: a comparator still reading closed fails with IN_STUCK (R438). -/
def execFallJudgement (i : Nat) (s : State) : Host.Outcome State Fault Refusal :=
  .next (
    if s.gzOn ∧ i < 2 ∧ s.flag (gzPulse i) ∧ s.flag (gzInput i) ∧ s.since (s.gzb.test i).tpFrc 50 then
      (s.updTest i (fun t => { t with fallFail := true })).gzbFault (2 + i)
    else s)

/-- PROVEN set and the pulse counted, wrapping (R438). -/
def State.pulsePassed (s : State) (i : Nat) : State :=
  let f : Fld := ⟨R.GZB_PULSE_CNT, 16 * i, 16⟩
  (s.setF (gzProven i) 1).setF f (s.getF f + 1)

/-- 50 µs after TP rose: the pulse is judged (R438). -/
def execRiseJudgement (i : Nat) (s : State) : Host.Outcome State Fault Refusal :=
  .next (
    if s.gzOn ∧ i < 2 ∧ s.flag (gzPulse i) ∧ s.since (s.gzb.test i).tpFrc 350 then
      let t := s.gzb.test i
      let cross := t.otherFell ∧ t.otherRose
      let closed := s.flag (gzInput i)
      let pass := ¬ t.fallFail ∧ ¬ cross ∧ closed ∧ ¬ t.tpLimit ∧ ¬ t.reversed
      let s1 := ((s.setF (gzPulse i) 0).updTest i (fun t => { t with crossFail := cross, lastPassed := pass })).loopDiff
      let s2 := if cross then s1.gzbFault 4 else s1
      let s3 := if closed then s2 else s2.levelCause i
      if pass then s3.pulsePassed i else s3
    else s)

/-- TP of a loop held at its 40 mA limit for 1 ms (R438). -/
def execTpShortDetect (i : Nat) (s : State) : Host.Outcome State Fault Refusal :=
  .next (if s.gzOn ∧ i < 2 then (s.updTest i (fun t => { t with tpLimit := true })).gzbFault i else s)

/-- IN of a loop below −3 V for 1 ms (R438). -/
def execLoopReverseDetect (i : Nat) (s : State) : Host.Outcome State Fault Refusal :=
  .next (if s.gzOn ∧ i < 2 then (s.updTest i (fun t => { t with reversed := true })).gzbFault (5 + i) else s)

/-- A sample ends the conditions of R438 it disproves: IN reversed at −3 V or above; TP at its limit where the loop reads
closed at 10 V or above outside its pulse, since a TP held at its limit cannot drive it there (DEDUCED, log entry 88). -/
def State.padsRight (s : State) (i : Nat) (v : Int) : State :=
  s.updTest i (fun t => { t with
    reversed := t.reversed && v < -300
    tpLimit := t.tpLimit && !(s.flag (gzInput i) && !s.flag (gzPulse i) && 1000 ≤ v) })

/-- One comparator checked against a sample in 10 mV (R439): the third consecutive mismatch of one kind is the
fault. -/
def State.monitor (s : State) (i : Nat) (v : Int) : State :=
  let closed := s.flag (gzInput i)
  let t := s.gzb.test i
  let lo := if closed ∧ v ≤ 500 then t.mismatch + 1 else 0
  let hi := if ¬ closed ∧ 1500 ≤ v then t.mmOpen + 1 else 0
  let s1 := s.updTest i (fun t => { t with mismatch := min lo 4, mmOpen := min hi 4 })
  if lo = 3 ∨ hi = 3 then s1.gzbFault (7 + i) else s1

/-- The events of the faults that waited for a sample (R447). -/
def State.faultEvents (s : State) : State :=
  s.gzb.faultDue.foldl (fun t b => t.gzbEvent 6 b t.loopV) (s.updGzb (fun g => { g with faultDue := [] }))

/-- Both IN pads sampled, in 10 mV (R439). -/
def execMonitorSample (a b : Int) (s : State) : Host.Outcome State Fault Refusal :=
  .next (if s.gzOn then
    ((((((s.setI F.GZB_LOOP_V_IN_A a).setI F.GZB_LOOP_V_IN_B b).padsRight 0 a).padsRight 1 b).monitor 0 a).monitor 1
      b).faultEvents else s)

/-- One channel's latch set and the other's clear for more than 1 µs (R440). -/
def execChMismatchDetect (s : State) : Host.Outcome State Fault Refusal :=
  .next (if s.gzOn then s.gzbFault 10 else s)

/-- One loop open and the other closed for more than 500 ms (R440). -/
def execDiscrepancyDetect (s : State) : Host.Outcome State Fault Refusal :=
  .next (if s.gzOn ∧ s.gzb.diffFrc.any (fun f => s.since f 500000) then s.gzbFault 9 else s)

/-- The limit of the RF self-test in 0.1 dBm: TX_PWR of BAND_A, +10 dBm before a plan, less 3 dB (R429, R441). -/
def State.rfLimit (s : State) : Int :=
  10 * (if s.planActive then leAtI (s.sec T.BAND_A) 2 1 else 10) - 30

/-- Is it phase 25 ms of Gazebo's 100 ms, whose phase 0 is loop A's last test pulse (R438, R441)? -/
def State.rfPhase (s : State) : Bool :=
  let f := (s.gzb.test 0).tpFrc
  f = 0 || (650000 ≤ (s.now - f) % 2600000 && (s.now - f) % 2600000 < 650000 + max 26 s.tickLen)

/-- The synthesizer measured into its load: power in 0.1 dBm, frequency off the wake channel in 0.1 ppm. Skipped while
Gazebo keys a pad (R441). -/
def execRfSelfTest (power off : Int) (s : State) : Host.Outcome State Fault Refusal :=
  .next (
    if s.gzOn ∧ s.gzb.train.isNone ∧ s.rfPhase then
      let ok : Bool := s.rfLimit ≤ power ∧ -200 ≤ off ∧ off ≤ 200
      let fail2 := s.gzb.rfResults.head? = some false ∧ ok = false
      let s1 := s.updGzb (fun g => { g with rfResults := [ok] })
      if fail2 then s1.gzbFault 11 else s1
    else s)

/-- Is relay driver `k` marked USED, and on? -/
def State.relUsed (s : State) (k : Nat) : Bool := s.flag ⟨R.GZB_CFG, k, 1⟩
def State.relOn (s : State) (k : Nat) : Bool := if k = 0 then s.pads.rel1 else s.pads.rel2

/-- A relay driver turned off. -/
def State.relOff (s : State) (k : Nat) : State :=
  { s with pads := if k = 0 then { s.pads with rel1 := false } else { s.pads with rel2 := false } }

/-- A USED driver above 700 mA while on: COIL_SHORT, and off (R79). -/
def execCoilShortDetect (k : Nat) (s : State) : Host.Outcome State Fault Refusal :=
  .next (if s.gzOn ∧ k < 2 ∧ s.relUsed k ∧ s.relOn k then (s.relOff k).gzbFault (14 + k) else s)

/-- A USED driver below 5 mA for 1 ms, from 20 ms after it turned on: COIL_OPEN (R79). -/
def execCoilOpenDetect (k : Nat) (s : State) : Host.Outcome State Fault Refusal :=
  .next (if s.gzOn ∧ k < 2 ∧ s.relUsed k ∧ s.relOn k ∧ s.since s.gzb.relFrc 20000 then s.gzbFault (12 + k) else s)

/-- Does the condition of a GZB_FAULT bit still hold (R442)? `absent` are the bits of TP_SHORT and REVERSED whose
condition the pads no longer show. -/
def State.faultHolds (s : State) (bit absent : Nat) : Bool :=
  if bit < 2 then (s.gzb.test bit).tpLimit && !absent.testBit bit
  else if bit = 5 ∨ bit = 6 then (s.gzb.test (bit - 5)).reversed && !absent.testBit bit
  else if bit = 2 ∨ bit = 3 then !(s.gzb.test (bit - 2)).lastPassed
  else if bit = 4 then !((s.gzb.test 0).lastPassed && (s.gzb.test 1).lastPassed)
  else if bit = 7 ∨ bit = 8 then (s.gzb.test (bit - 7)).mismatch ≠ 0 || (s.gzb.test (bit - 7)).mmOpen ≠ 0
  else if bit = 9 then !(s.flag (gzInput 0) && s.flag (gzInput 1))
  else if bit = 10 then s.flag F.GZB_STAT_CH_A_RUN ≠ s.flag F.GZB_STAT_CH_B_RUN
  else if bit = 11 then s.gzb.rfResults.head? ≠ some true
  else s.relOn (bit % 2)

/-- A W1C write of GZB_FAULT (R442). -/
def State.gzbFaultClear (s : State) (mask absent : Nat) : State :=
  let f : Fld := ⟨R.GZB_FAULT, 0, 16⟩
  (List.range 16).foldl (fun t b =>
    if mask.testBit b ∧ ¬ s.faultHolds b absent then
      let t1 := t.clrBit f b
      if b < 2 then t1.updTest b (fun x => { x with tpLimit := false })
      else if b = 5 ∨ b = 6 then t1.updTest (b - 5) (fun x => { x with reversed := false }) else t1
    else t) s

def execGzbFaultClear (m : Master) (mask : Word) (absent : Nat) (s : State) : Host.Outcome State Fault Refusal :=
  .next (s.guardW m R.GZB_FAULT mask.toNat (·.gzbFaultClear mask.toNat absent))

/-! ### Trains (R429, R435) -/

/-- Is it a slot start, to 1 µs or the last tick of LCLK: Sundial's while D2 is ON and SLOT_RUN is set, else a multiple of 65 000 FRC ticks (R429)? -/
def State.trainSlot (s : State) : Bool :=
  if s.domOn 2 && s.flag F.SDL_STAT_SLOT_RUN then s.slotUs = 0 || s.reached 0 2500000
  else s.now % 65000 < max 26 s.tickLen

/-- A slot start with no train on air while a stop stands (R429). -/
def execStopTrainRepeat (s : State) : Host.Outcome State Fault Refusal :=
  .next (if s.gzOn ∧ s.stopStands ∧ s.gzb.train.isNone ∧ s.trainSlot then s.startTrain false else s)


/-- A train ends: the words are counted and the pads go back to Bandstand (R429, R435). -/
def execStopTrainEnd (s : State) : Host.Outcome State Fault Refusal :=
  .next (match s.gzb.train with
    | none => s
    | some t =>
      if ¬ s.since t.frc t.us then s
      else
      let s1 := (s.setF F.GZB_STAT_KEYING 0).incF F.GZB_WORDS (if t.initial then 16 else 2)
      let s2 := s1.updGzb (fun g => { g with train := none })
      let p := { s.pads with paEnA := false, lnaEnA := s2.lnaRest 0 }
      { s2 with pads := if t.rfb then { p with paEnB := false, lnaEnB := s2.lnaRest 1 } else p })

/-! ### GZB_STOP and the first key (R425, R427, R432) -/

/-- A write of GZB_STOP (R425, R426). -/
def execGzbStopWrite (m : Master) (v : Word) (s : State) : Host.Outcome State Fault Refusal :=
  .next (s.guardW m R.GZB_STOP v.toNat (fun t =>
    if v.toNat.testBit 0 ∧ bitsOf v.toNat 16 16 = 0xC3A5 then t.raiseCause Cause.HOST else t))

/-- INIT is left for STOPPED (R427). -/
def execGzbInitExit (s : State) : Host.Outcome State Fault Refusal :=
  .next (
    if s.gzState = Gz.INIT ∧ s.flag F.GZB_STAT_KEY_VALID ∧ s.flag F.GZB_STAT_WORD_READY then
      (((s.setF F.GZB_STAT_STATE Gz.STOPPED).setF F.GZB_STAT_ARMED 1).setF F.GZB_STAT_STOP_CNT 1).stopWords
    else s)

/-- Task 11 loads the stop key, as CURRENT or as NEXT (R432). -/
def execStopKeyLoad (next : Bool) (s : State) : Host.Outcome State Fault Refusal :=
  .next (if s.gzOn ∧ s.domOn 8 then s.stopKeyLoad next else s)

/-! ### The clear (R443–R445) -/

/-- The bytes a clear's TAG authenticates (R443). -/
def clearMsg (cnt seq : Nat) : Bytes := ascii "EWG-CLEAR" ++ uidBytes ++ leBytes 2 cnt ++ leBytes 4 seq

/-- Checks 1, 2 and 5 of R444, repeated in R445. -/
def State.clearAgain (s : State) (cnt mark : Nat) : Option Nat :=
  if s.gzState ≠ Gz.STOPPED then some 0x80
  else if cnt ≠ s.getF F.GZB_STAT_STOP_CNT then some 0x81
  else if s.getF F.GZB_CAUSE_NOW_LEVEL ≠ 0 ∨ s.gzb.causes ≠ mark then some 0x84
  else none

/-- Checks 5 to 8 of R444. -/
def State.clearLate (s : State) (mark : Nat) : Option Nat :=
  if s.getF F.GZB_CAUSE_NOW_LEVEL ≠ 0 ∨ s.gzb.causes ≠ mark then some 0x84
  else if s.rd R.GZB_FAULT ≠ 0 then some 0x85
  else if !s.flag F.GZB_STAT_PROVEN_A || !s.flag F.GZB_STAT_PROVEN_B then some 0x86
  else if !s.flag F.GZB_STAT_KEY_VALID || !s.flag F.GZB_STAT_WORD_READY || !s.flag F.SDL_STAT_SLOT_RUN ||
      !s.domOn 8 || (s.bandBCells && !s.domOn 9) then some 0x87
  else none

/-- A clear refused: GZB_CLEAR_STAT, the CLEAR_REFUSED event and its record, the item's status (R444). -/
def State.clearRefuse (s : State) (wid st seq : Nat) : State :=
  (((s.setF F.GZB_CLEAR_STAT st).gzbEvent 5 st seq).vbTrigger 4 ([byte st] ++ zeros 3 ++ leBytes 4 seq)).finish wid st

/-- Does a key verify a clear's TAG (R443)? -/
def clearTagOk (i : WItem) (k : Bytes) : Bool :=
  decide ((hmacSha256 k (clearMsg (bitsOf (i.arg 0) 0 16) (i.arg 1))).take 16 = i.payload)

/-- Check 4 has its answer, or waits for a use to be counted; a clear that passes requests its store write (R444, R445). -/
def State.clearSigned (s : State) (i : WItem) (ok : Option Bool) : State :=
  match ok with
  | none => s.park i.wid
  | some false => s.clearRefuse i.wid 0x83 (i.arg 1)
  | some true =>
    match s.clearLate i.mark with
    | some st => s.clearRefuse i.wid st (i.arg 1)
    | none => (s.psRequest (.clear i.wid (bitsOf (i.arg 0) 0 16) (i.arg 1) i.mark) (.clearSeq (i.arg 1))).park i.wid

/-- A clear checked (R444); the TAG is Orangery's to verify, in D13, which powers up for it (R42). -/
def State.gzbClear (s : State) (i : WItem) : State :=
  let seq := i.arg 1
  if i.payload.length ≠ 16 then (s.setF F.GZB_CLEAR_STAT St.BAD_ARG).finish i.wid St.BAD_ARG
  else if s.gzState ≠ Gz.STOPPED then s.clearRefuse i.wid 0x80 seq
  else if bitsOf (i.arg 0) 0 16 ≠ s.getF F.GZB_STAT_STOP_CNT then s.clearRefuse i.wid 0x81 seq
  else if seq ≤ s.getF F.GZB_CLEAR_SEQ then s.clearRefuse i.wid 0x82 seq
  else if !s.domOn 13 then s.needD13
  else
    let r := (s.idleStart 13).tryKeys (.clear i.wid) (clearTagOk i) (s.slotsOf Cls.CLEAR_AUTH)
    r.2.clearSigned i r.1

/-- A use of a CLEAR_AUTH slot is counted, or could not be: check 4 goes on, where the item still stands. -/
def State.clearGoOn (s : State) (wid n : Nat) (ns : List Nat) (counted : Bool) : State :=
  match s.item? wid with
  | some i => if i.finished then s else
      let r := s.moreKeys (.clear wid) (clearTagOk i) n ns counted
      r.2.clearSigned i r.1
  | none => s

def execGzbClear (wid : Nat) (s : State) : Host.Outcome State Fault Refusal :=
  .next (match s.active? wid W.GZB_CLEAR with
    | some i =>
      match i.phase with
      | .running _ => s.gzbClear i
      | _ => s
    | none => s)

/-- A clear is accepted: CLEARING, with CLEAR_ASN at the boundary of R40, the causes left their levels, the event and the
record (R445). -/
def State.clearAccept (s : State) (wid cnt seq : Nat) : State :=
  let b := s.boundary
  let s1 := ((s.setF F.GZB_CAUSE_CAUSE (bitsOf (s.getF F.GZB_CAUSE_CAUSE) 0 3)).setF F.GZB_STAT_STATE Gz.CLEARING).setF
    F.GZB_CLEAR_STAT St.OK
  let s2 := (s1.setF F.GZB_CLEAR_ASN_LO b).setF F.GZB_CLEAR_ASN_HI (b / 2 ^ 32)
  ((s2.gzbEvent 3 0 (b % 2 ^ 32)).vbTrigger 3 (leBytes 2 cnt ++ zeros 2 ++ leBytes 4 seq ++ leBytes 5 b)).finish wid St.OK

/-- Checks 1, 2 and 5 again once the clear's CLEAR_SEQ is stored: refused, or accepted (R445). -/
def State.clearRecheck (s : State) (wid cnt seq mark : Nat) : State :=
  match s.clearAgain cnt mark with
  | some st => s.clearRefuse wid st seq
  | none => s.clearAccept wid cnt seq

/-- The store write of a clear is complete: GZB_CLEAR_SEQ, and the checks again, whatever has become of the item (R445). -/
def State.clearStored (s : State) (wid cnt seq mark : Nat) : State :=
  (s.setF F.GZB_CLEAR_SEQ seq).clearRecheck wid cnt seq mark

/-- CLEAR_ASN is reached in CLEARING: RUN, relays on, Pergola unfrozen (R40, R427, R445). -/
def State.gzbRun (s : State) : State :=
  let s1 := ((s.setF F.GZB_STAT_STATE Gz.RUN).setF F.GZB_STAT_CH_A_RUN 1).setF F.GZB_STAT_CH_B_RUN 1
  ({ s1.updGzb (fun g => { g with relFrc := s.now }) with
    pads := { s1.pads with rel1 := true, rel2 := true } }).gzbEvent 4 0 (s.getF F.GZB_STAT_STOP_CNT)

end Sys2Proof.Machine
end

