-- ==== Sys2Proof/Machine/Book.lean ====
section
/-! DEFINITION. The Visitor book's records, its flash rings, VB_READ and VB_MARK, the SNAP commands and the TEST unit
(spec/17_records_and_test.md). -/
namespace Sys2Proof.Machine

/-- Is a member joined: in SETUP or ACTIVE (R366)? -/
def State.anyJoined (s : State) : Bool := s.fleet.mbrs.any (fun m => m.state = 2 || m.state = 3)

/-- Serial-number order (R537): is `a` newer than `b`? -/
def serialNewer (a b : Nat) : Bool := let d := (a + 2 ^ 32 - b % 2 ^ 32) % 2 ^ 32; 1 ≤ d ∧ d < 2 ^ 31

/-! ### SNAP commands (R520) -/

/-- Sources of one tick raise one SNAP; a pin edge, a compare and a write of VB_CTRL each raise their own code. -/
def execSnapTrigger (src tb idx : Nat) (m : Master) (s : State) : Host.Outcome State Fault Refusal :=
  .next (
    if src % 32 = 0 ∨ s.power.off then s
    else
      let r := s.snap (src % 32)
      let s1 := if src.testBit 0 then r.2.vbTrigger 0x50 [] (some r.1) else r.2
      let s2 := if src.testBit 1 then s1.vbTrigger 0x51 [byte tb, byte idx] (some r.1) else s1
      if src.testBit 3 then s2.vbTrigger 0x52 [byte m.id] (some r.1) else s2)

/-- A word written to VB_CTRL: IRQ_EN stored, SNAP raised (R520). -/
def State.vbCtrlWrite (s : State) (m : Master) (v : Nat) : State :=
  let s1 := s.setF F.VB_CTRL_IRQ_EN v
  if v.testBit 1 then s1.snapCode 8 0x52 [byte m.id] else s1

def execVbSnapWrite (m : Master) (v : Word) (s : State) : Host.Outcome State Fault Refusal :=
  .next (s.guardW m R.VB_CTRL v.toNat (·.vbCtrlWrite m v.toNat))

/-! ### Assembly (R525, R526, R528) -/

/-- One snapshot entry of a record, from bank `k` of a block (R526). -/
def State.snapEntry (s : State) (k blk : Nat) : Bytes :=
  if s.blockAbsent blk then [byte blk, byte 0, byte Snap.ABSENT, byte 0]
  else
    let st := s.getF ⟨bankBase blk k, 16, 2⟩
    if st = Snap.PENDING then [byte blk, byte 0, byte st, byte 0]
    else
      let n := (s.shadowWords blk).length
      [byte blk, byte n, byte st, byte 0] ++
        (List.range n).flatMap (fun j => leBytes 4 (s.rd (bankBase blk k + 4 + 4 * j)).toNat)

/-- Is a block of a bank not LATCHED? -/
def State.entryLate (s : State) (k blk : Nat) : Bool :=
  s.blockAbsent blk || s.getF ⟨bankBase blk k, 16, 2⟩ ≠ Snap.LATCHED

/-- The bytes of a record with number `seq` (R525). -/
def State.recordBytes (s : State) (t : VbTrig) (seq : Nat) : Bytes :=
  let blks := (List.range 17).filter (s.vbCfg t.code).blocks.testBit
  let snap : Bytes := match t.bank with
    | some k => blks.flatMap (s.snapEntry k)
    | none => []
  let late := match t.bank with
    | some k => blks.any (s.entryLate k)
    | none => false
  let flags := b2n t.bank.isSome + 2 * b2n t.noSnap + 4 * b2n late
  let snapSeq := match t.bank with
    | some k => (s.vb.banks.getD k {}).seq
    | none => 0
  let data := padTo 4 t.data
  let len := 40 + data.length + snap.length + 4
  let body := leBytes 2 len ++ [byte t.code, byte flags] ++ leBytes 4 seq ++ leBytes 2 (s.getF F.VB_BOOT) ++
    leBytes 2 t.data.length ++ leBytes 8 t.frc.toNat ++ leBytes 4 t.tbNs ++ leBytes 6 t.tbSec ++
    leBytes 2 t.suppressed ++ leBytes 2 snapSeq ++ [byte t.tbState, byte 0] ++ data ++ snap
  leBytes 4 0x4B524256 ++ body ++ leBytes 4 (crc32c body)

/-- A record dropped and counted (R528, R531); a VB_MARK item that waits for it completes NOT_RECORDED. -/
def State.vbDrop (s : State) (wid : Option Nat) : State :=
  let s1 := (s.incF F.VB_CNT_DROP).setF F.VB_STAT_DROP_SEEN 1
  match wid with
  | some w => s1.finish w 0x85
  | none => s1

/-- A trigger's record assembled into the 64 KB queue: its last 8 KB are for the fixed codes, and only ESSENTIAL codes
pass while FROZEN (R528, R531). -/
def State.assemble (s : State) (t : VbTrig) : State :=
  let seq := s.getF F.VB_SEQ
  let b := s.recordBytes t seq
  let held := (s.vb.queue.map (·.bytes.length)).sum
  if (s.flag F.VB_STAT_FROZEN ∧ ¬ (s.vbCfg t.code).ess) ∨
      (if vbFixed t.code then 65536 else 57344) < held + b.length then s.vbDrop t.wid
  else
    let r : VbRec := {
      seq := seq, code := t.code, boot := s.getF F.VB_BOOT
      bytes := b, ess := (s.vbCfg t.code).ess, wid := t.wid }
    { s.setF F.VB_SEQ (seq + 1) with vb := { s.vb with queue := s.vb.queue ++ [r] } }

/-- Has every block a trigger's record includes latched, or are its 20 ms over (R528)? -/
def State.trigReady (s : State) (t : VbTrig) : Bool :=
  s.since t.frc.toNat 20000 || (match t.bank with
    | some k => (List.range 17).all (fun b => !(s.vbCfg t.code).blocks.testBit b || s.blockAbsent b ||
        s.getF ⟨bankBase b k, 16, 2⟩ ≠ Snap.PENDING)
    | none => true)

/-- The trigger at place `k` of those waiting is assembled, once it is ready (R528). -/
def execVbRecordAssemble (k : Nat) (s : State) : Host.Outcome State Fault Refusal :=
  .next (match s.vb.trigs[k]? with
    | some t => if s.trigReady t then ({ s with vb := { s.vb with trigs := s.vb.trigs.eraseIdx k } }).assemble t else s
    | none => s)

/-! ### The flash rings (R524, R527, R531) -/

/-- The records of a sector. -/
def State.inSector (s : State) (x : Nat) : List VbRec := s.vb.book.filter (·.sector = x)

/-- A sector erased, its records counted as overwritten. -/
def State.vbErase (s : State) (x : Nat) : State :=
  let n := (s.inSector x).length
  let s1 : State := { s with vb := { s.vb with book := s.vb.book.filter (·.sector ≠ x) } }
  if n = 0 then s1 else (s1.incF F.VB_CNT_OVERWRITE n).setF F.VB_STAT_OVERWRITE_SEEN 1

/-- The sectors of the main ring. -/
def State.mainSectors (s : State) : Nat := 128 - s.vbReserve

/-- Would the erase that keeps the sector after the write sector free destroy a record at or above VB_FREEZE_BASE? None is
while that base is still to be written. -/
def State.wouldFreeze (s : State) (x : Nat) : Bool :=
  s.vbFreezes && !s.vb.basePending && (s.inSector x).any (fun r => r.seq = s.getF F.VB_FREEZE_BASE || serialNewer r.seq (s.getF F.VB_FREEZE_BASE))

/-- A record programmed at a place; a record of VB_MARK completes its item. -/
def State.vbPut (s : State) (r : VbRec) (sector off : Nat) : State :=
  let s1 : State := { s with vb := { s.vb with
    book := s.vb.book ++ [{ r with sector := sector, off := off, mark := true, wid := none }] } }
  let s2 := match r.wid with
    | some w => s1.finish w St.OK
    | none => s1
  if s2.vb.basePending then
    ({ s2.setF F.VB_FREEZE_BASE r.seq with vb := { s2.vb with basePending := false } }).psRequest .freeze
      (.vbFreeze (s2.rd R.SYS_PLAN_ID).toNat r.seq)
  else s2

/-- The next place, on a multiple of 8. -/
def nextOff (off len : Nat) : Nat := (off + len + 7) / 8 * 8

/-- A record into the essential ring, which always wraps (R531). -/
def State.putEssential (s : State) (r : VbRec) : State :=
  let lo := s.mainSectors
  let n := s.vbReserve
  if n = 0 then s.vbDrop r.wid
  else if s.vb.essOff + r.bytes.length ≤ 65536 then
    let s1 := s.vbPut r s.vb.essSector s.vb.essOff
    { s1 with vb := { s1.vb with essOff := nextOff s.vb.essOff r.bytes.length } }
  else
    let x := lo + (s.vb.essSector - lo + 1) % n
    let s1 := (s.vbErase (lo + (x - lo + 1) % n)).vbPut r x 0
    { s1 with vb := { s1.vb with essSector := x, essOff := nextOff 0 r.bytes.length } }

/-- A record into the main ring: at the write pointer, or in the next sector with the one after it erased; where that
erase may not be, the ring freezes (R531). -/
def State.putMain (s : State) (r : VbRec) : State :=
  let n := s.mainSectors
  if s.vb.off + r.bytes.length ≤ 65536 then
    let s1 := s.vbPut r s.vb.sector s.vb.off
    { s1 with vb := { s1.vb with off := nextOff s.vb.off r.bytes.length } }
  else
    let x := (s.vb.sector + 1) % n
    let y := (x + 1) % n
    if s.wouldFreeze y then
      let s1 := s.setF F.VB_STAT_FROZEN 1
      if r.ess then s1.putEssential r else s1.vbDrop r.wid
    else
      let s1 := (s.vbErase y).vbPut r x 0
      { s1 with vb := { s1.vb with sector := x, off := nextOff 0 r.bytes.length } }

/-- The record at the head of the queue is in flash, MARK last (R527, R531). -/
def execVbRecordProgrammed (s : State) : Host.Outcome State Fault Refusal :=
  .next (match s.vb.queue with
    | [] => s
    | r :: q =>
      let s1 : State := { s with vb := { s.vb with queue := q } }
      if s1.flag F.VB_STAT_FROZEN then (if r.ess then s1.putEssential r else s1.vbDrop r.wid) else s1.putMain r)

/-- The tokens whose REFILL_MS are over return to a code's bucket (R530). -/
def execVbTokenRefill (c : Nat) (s : State) : Host.Outcome State Fault Refusal := .next (s.setBucket (s.bucket c))

/-! ### VB_READ and VB_MARK (R534, R535) -/

/-- The records at or after a SEQ, oldest first. -/
def State.recsFrom (s : State) (seq : Nat) : List VbRec := s.vb.book.filter (fun r => r.seq = seq || serialNewer r.seq seq)

/-- Has the record `seq` been overwritten: is every record held newer than it? -/
def State.overwritten (s : State) (seq : Nat) : Bool :=
  match s.vb.book with
  | [] => false
  | r :: _ => serialNewer r.seq seq

/-- Records pushed into window 9 while it has room: how many more, and what has been sent (count, first, next). -/
def State.pushRecs : State → Nat → List VbRec → Nat × Nat × Nat → State × Nat × Nat × Nat × Bool
  | s, 0, _, (n, f, x) => (s, n, f, x, true)
  | s, _, [], (n, f, x) => (s, n, f, x, true)
  | s, k + 1, r :: rs, (n, f, x) =>
    if s.hasRoom Win.VB_READ (packLen r.bytes.length) then
      (s.pushPkt Win.VB_READ r.bytes).pushRecs k rs (n + 1, if n = 0 then r.seq else f, (r.seq + 1) % 2 ^ 32)
    else (s, n, f, x, false)

/-- A VB_READ goes on from `prog` (count, first, next, gap): it ends, or waits for the window (R534). -/
def State.vbReadStep (s : State) (i : WItem) : State :=
  let p (k : Nat) : Nat := i.prog.getD k 0
  let gap := p 3 ≠ 0 ∨ s.overwritten (p 2)
  let r := s.pushRecs (i.arg 1 - p 0) (s.recsFrom (p 2)) (p 0, p 1, p 2)
  let res := leBytes 4 r.2.1 ++ leBytes 4 r.2.2.1 ++ leBytes 4 r.2.2.2.1
  if r.2.2.2.2 then r.1.finish i.wid (if r.2.1 = 0 then 0x81 else if gap then 0x80 else St.OK) res
  else (r.1.updItem i.wid (fun i => { i with prog := [r.2.1, r.2.2.1, r.2.2.2.1, b2n gap] })).park i.wid

def execVbRead (wid : Nat) (s : State) : Host.Outcome State Fault Refusal :=
  .next (match s.active? wid W.VB_READ with
    | some i =>
      if i.arg 1 = 0 ∨ 65535 < i.arg 1 then s.finish wid St.BAD_ARG
      else if i.prog ≠ [] then s
      else s.vbReadStep { i with prog := [0, 0, i.arg 0, 0] }
    | none => s)

/-- VB_MARK (R535): the item waits for its record's MARK. -/
def execVbMark (wid : Nat) (s : State) : Host.Outcome State Fault Refusal :=
  .next (match s.active? wid W.VB_MARK with
    | some i =>
      match i.phase with
      | .running _ =>
        let c := bitsOf (i.arg 0) 0 8
        if 256 < i.payload.length then s.finish wid St.BAD_ARG
        else if c < 0x80 then s.finish wid 0x84
        else if !(s.vbCfg c).enable ∨ (i.grp = .ns ∧ !(s.vbCfg c).nsMark) then s.finish wid 0x83
        else if !s.hasToken c then (s.suppress c).finish wid 0x82
        else (s.vbTrigger c i.payload none (some wid)).park wid
      | _ => s
    | none => s)

/-! ### The TEST unit (R541–R544) -/

/-- Are PATTERN and LOOP valid for a link (R542)? -/
def testForm (link pat loop : Nat) : Bool :=
  if link ≤ 1 then pat ≤ 7 && (loop = 0 || loop = 2)
  else if link = 2 then pat ≤ 3 && loop = 2
  else if link ≤ 4 then pat ≤ 3 && loop = 0
  else if link ≤ 6 then pat ≤ 3 && loop = 1
  else if link = 7 then loop = 1
  else true

/-- The bit rates of the Isben link, by SVC_STAT.RATE (R507). -/
def linkRates : List Nat := [115200, 921600, 3000000, 6000000, 12000000]

/-- Is ARG2 one the link has: a rate, a channel of the band and region, a GNSS chain, an axis (R507, R319, R542)? -/
def State.testSub (s : State) (link arg2 : Nat) : Bool :=
  if link = 2 then linkRates.contains arg2
  else if link = 5 then arg2 < bandChannels 0 (leAt (s.sec T.BAND_A) 0 1)
  else if link = 6 then arg2 < bandChannels 1 (leAt (s.sec T.BAND_B) 0 1)
  else if link = 7 then arg2 ≤ 7
  else if link = 9 then arg2 ≤ 3
  else true

/-- Is the unit of a link absent on this part? -/
def State.linkAbsent (s : State) (link : Nat) : Bool :=
  ((link = 4 || link = 6) && !s.present U.BSB) || (link = 9 && !s.present U.WKT)

/-- Is the test permitted (R542)? The Ethernet ports carry no secure master, so they always are. -/
def State.testPermitted (s : State) (wid link arg2 : Nat) : Bool :=
  if link = 2 then s.testMode || (match s.svc.submit with | some (_, w) => w ≠ wid | none => true)
  else if 3 ≤ link ∧ link ≤ 6 then !s.anyJoined || s.testMode
  else if link = 7 then (leAt (s.sec T.TIME) 0 1 ≠ 0 && !s.anyJoined) || s.testMode
  else if link = 9 then s.axState arg2 = Ax.DISABLED
  else true

/-- The pulses passed on both loops, as GZB_PULSE_CNT holds them. -/
def State.pulses (s : State) : Nat := s.getF F.GZB_PULSE_CNT_A + s.getF F.GZB_PULSE_CNT_B

/-- The two taps of a PRBS pattern: x^n + x^m + 1 (R541). -/
def prbsTaps (pat : Nat) : Nat × Nat := [(7, 6), (15, 14), (23, 18), (31, 28)].getD pat (7, 6)

/-- The bit that follows the bits of a register, the newest in bit 0. -/
def prbsBit (pat reg : Nat) : Bool := reg.testBit ((prbsTaps pat).1 - 1) != reg.testBit ((prbsTaps pat).2 - 1)

/-- A register with one bit more. -/
def prbsPut (pat reg : Nat) (b : Bool) : Nat := (2 * reg + b2n b) % 2 ^ (prbsTaps pat).1

/-- The checker takes a bit out of sync: it seeds itself from the received bits; 64 in a row as expected are sync. -/
def PrbsChk.seed (k : PrbsChk) (pat : Nat) (b : Bool) : PrbsChk :=
  let n := (prbsTaps pat).1
  let good := if k.fill < n ∨ prbsBit pat k.reg ≠ b then 0 else k.good + 1
  let sync := decide (64 ≤ good)
  { k with
    reg := prbsPut pat k.reg b, fill := min (k.fill + 1) n, good := good, sync := sync, ever := k.ever || sync, window := [] }

/-- The checker takes a bit in sync, runs on by its own bits, and loses sync at 16 errors within 64 bits. -/
def PrbsChk.check (k : PrbsChk) (pat : Nat) (b : Bool) : PrbsChk :=
  let p := prbsBit pat k.reg
  let w := ((p != b) :: k.window).take 64
  let k1 := { k with reg := prbsPut pat k.reg p, window := w, bits := k.bits + 1, errors := k.errors + b2n (p != b) }
  if 16 ≤ w.count true then { k1 with sync := false, window := [], fill := 0, good := 0, loss := k.loss + 1 } else k1

def PrbsChk.take (k : PrbsChk) (pat : Nat) (b : Bool) : PrbsChk := if k.sync then k.check pat b else k.seed pat b

/-- The generator sends its next bit, and the checker receives it, flipped by the link or not. -/
def LinkTest.bit (t : LinkTest) (flip : Bool) : LinkTest :=
  let b := prbsBit t.pattern t.gen
  { t with gen := prbsPut t.pattern t.gen b, chk := t.chk.take t.pattern (b != flip) }

/-- Has the test a generator and a checker: PATTERN 0–3 of LINK 0–6? -/
def LinkTest.prbs (t : LinkTest) : Bool := t.link ≤ 6 && t.pattern ≤ 3

/-- The live counts of a test (R544). -/
def State.testShow (s : State) (t : LinkTest) : State :=
  { (((s.wr R.TEST_BITS_LO (word t.chk.bits)).wr R.TEST_BITS_HI (word (t.chk.bits / 2 ^ 32))).wr R.TEST_ERRORS
      (word (min t.chk.errors (2 ^ 32 - 1)))).setF F.TEST_STAT_SYNC (b2n t.chk.sync) with test := some t }

def execTestRun (wid : Nat) (s : State) : Host.Outcome State Fault Refusal :=
  .next (match s.active? wid W.TEST_RUN with
    | some i =>
      match i.phase with
      | .running _ =>
        let link := bitsOf (i.arg 0) 0 8
        let pat := bitsOf (i.arg 0) 8 4
        let loop := bitsOf (i.arg 0) 12 4
        if 9 < link ∨ i.arg 1 = 0 ∨ 60000 < i.arg 1 ∨ !s.testSub link (i.arg 2) then
          s.finish wid St.BAD_ARG
        else if s.linkAbsent link then s.finish wid St.ABSENT
        else if !testForm link pat loop then s.finish wid 0x84
        else if !s.testPermitted wid link (i.arg 2) then s.finish wid 0x80
        else if s.test.isSome then s.finish wid 0x81
        else
          let t : LinkTest := {
            wid := wid, link := link, pattern := pat, loop := loop, ms := i.arg 1, arg2 := i.arg 2, arg3 := i.arg 3
            start := s.pulses, frc := s.now, gen := 2 ^ (prbsTaps pat).1 - 1 }
          (testDoms link).foldl (fun x d => x.domEvent d .work) (((s.setF F.TEST_STAT_LINK link).testShow t).park wid)
      | _ => s
    | none => s)

/-- The bits the link carried since the last such command, `true` where it flipped one, pass through the running test, once its
domains are ON; and the test ends if its duration is past: NO_SYNC where its checker never reached sync. `value` is the link
value of LINK 7 and 9 (R544). -/
def execTestDurationExpiry (flips : List Bool) (value : Nat) (s : State) : Host.Outcome State Fault Refusal :=
  .next (match s.test with
    | none => s
    | some t0 =>
      let t := if t0.prbs ∧ (testDoms t0.link).all s.domOn then flips.foldl LinkTest.bit t0 else t0
      if !s.since t.frc (1000 * t.ms) then s.testShow t
      else
        let v := if t.link = 8 then (s.pulses + 131072 - t.start) % 65536
          else if t.link = 7 ∨ t.link = 9 then value else 0
        (s.testShow { t with value := v }).endTest (if t.prbs ∧ ¬ t.chk.ever then 0x82 else St.OK))

end Sys2Proof.Machine
end

