-- ==== Sys2Proof/Machine/Queues.lean ====
section
/-! DEFINITION. The queues of the fleet path (spec/01 R44–R48): their depths, what they hold, a push and a pop of one
cycle. Every item of these queues is pushed whole, with its end mark, so a queue's packet count is its length and its
sink never starts a packet before its end (R45). -/
namespace Sys2Proof.Machine

/-- The queues of R44; the downlink and receive queues of band A (0) or B (1). -/
inductive FleetQ where
  | obsIn
  | base
  | fix
  | planReq
  | seg
  | dl (b : Nat)
  | rx (b : Nat)
  | items
deriving DecidableEq, Repr

/-- Their depths (R44). -/
def FleetQ.depth : FleetQ → Nat
  | .obsIn => 32
  | .base => 16
  | .fix => 128
  | .planReq => 64
  | .seg => 64
  | .dl b => if b = 0 then 64 else 256
  | .rx b => if b = 0 then 64 else 128
  | .items => 512

/-- The packets a queue holds, each complete (R45). A frame that awaits its IACK keeps its place in its downlink queue. -/
def State.packets (s : State) : FleetQ → Nat
  | .obsIn => s.slv.obsIn.length
  | .base => s.bv.baseQ.length
  | .fix => s.slv.fixQ.length
  | .planReq => s.pgl.queue.length
  | .seg => min s.pgl.seg.length 64
  | .dl b => (s.band b).dl.length + b2n (s.band b).wait.isSome
  | .rx b => (s.band b).rx.length
  | .items => s.inFlight

/-- Is there room for `n` more? -/
def State.qRoom (s : State) (q : FleetQ) (n : Nat := 1) : Bool := s.packets q + n ≤ q.depth

/-- A push and, with `pop`, a pop of one queue in one cycle (R46). Both see the queue as it stood before: the push is taken
or refused by its depth then, a pop of a queue then empty returns nothing, any other takes the item then oldest. -/
def State.pushPop (s : State) (q : FleetQ) (pop : Bool) (push take : State → State) : State :=
  let t := push s
  if pop && s.packets q ≠ 0 then take t else t

end Sys2Proof.Machine
end

