-- ==== Sys2Proof/Machine/Radio.lean ====
section
/-! DEFINITION. Frames of Bandstand (spec/10 R321–R338, spec/11 R350–R353, R377): check sequences, sealing, the downlink
queues, the cells of a slot, and the sending of one frame. -/
namespace Sys2Proof.Machine

/-! ### Check sequences (R323, R343) -/

/-- One bit of a CRC processed most significant bit first, `w` bits wide. -/
def crcMsbBit (w poly r : Nat) : Nat := if 2 ^ (w - 1) ≤ r then (2 * r % 2 ^ w) ^^^ poly else 2 * r

def crcMsbByte (w poly r : Nat) (b : Byte) : Nat :=
  Nat.rec (r ^^^ (b.toNat * 2 ^ (w - 8))) (fun _ x => crcMsbBit w poly x) 8

/-- A CRC of `w` bits processed most significant bit first. -/
def crcMsb (w poly init : Nat) (bs : Bytes) : Nat := bs.foldl (crcMsbByte w poly) init

/-- The FCS of a PSDU's earlier bytes, on band `b` (R323). -/
def fcsOf (b net : Nat) (bs : Bytes) : Bytes :=
  if b = 0 then leBytes 2 (crcMsb 16 0x1021 net bs)
  else leBytes 4 (bs.foldl (crcByte 0xEDB88320) (0xFFFFFFFF ^^^ (net * 0x10001)) ^^^ 0xFFFFFFFF)

/-- Length of an FCS, and of a MIC, on band `b`. -/
def fcsLen (b : Nat) : Nat := if b = 0 then 2 else 4
def micLen (b : Nat) : Nat := if b = 0 then 4 else 8

/-- The wake word of address `a` (R343). -/
def wakeWord (net a : Nat) : Nat :=
  net * 65536 + a * 256 + crcMsb 8 0x07 0 [byte net, byte (net / 256), byte a]

/-! ### What goes on air (R321, R322, R342) -/

/-- The PHR of a PSDU of `n` bytes: LEN, zeros, even parity in the top bit. -/
def phrOf (b n : Nat) : Nat :=
  let w := if b = 0 then 8 else 16
  n + 2 ^ (w - 1) * (((List.range (w - 1)).filter n.testBit).length % 2)

/-- A PPDU: preamble, shorter for an acknowledgement, SFD, PHR with its low byte first (DEDUCED, log entry 52), PSDU. -/
def ppdu (b : Nat) (ack : Bool) (psdu : Bytes) : Bytes :=
  List.replicate ((if ack then 2 else 4) * (b + 1)) (byte (if b = 0 then 0x55 else 0x33)) ++
    (if b = 0 then [0x0B, 0xE5] else [0xA7, 0x3D]) ++ leBytes (b + 1) (phrOf b psdu.length) ++ psdu

/-- A wake transmission as its half-bits, most significant first: the preamble 0b1010 and the wake word, each 1 carrier then
none, each 0 the reverse; 72 half-bits in 9 bytes. -/
def wakeAir (w : Nat) : Bytes :=
  let bits := [true, false, true, false] ++ (List.range 32).map (fun i => w.testBit (31 - i))
  (leBytes 9 (bits.foldl (fun a x => 4 * a + (if x then 2 else 1)) 0)).reverse

/-! ### Bands -/

def State.updBand (s : State) (b : Nat) (f : Band → Band) : State :=
  if b = 0 then { s with bsa := f s.bsa } else { s with bsb := f s.bsb }

/-- Does a downlink queue take frames: its band's domain ON, its crossing not resynchronising; else a push is refused as
back-pressure (R123)? -/
def State.dlOpen (s : State) (b : Nat) : Bool := s.domOn (bandDom b) && !(s.xings.getD (13 + b) {}).resync

/-- Is there room in a downlink queue, with no frame held before it? -/
def State.dlRoom (s : State) (b : Nat) (n : Nat := 1) : Bool :=
  s.dlOpen b && (s.band b).held.isEmpty && s.qRoom (.dl b) n

/-- A frame put at the end of a downlink queue; while that is full or refuses it its producer holds it (R44, R123). -/
def State.dlPush (s : State) (b : Nat) (f : DlFrame) : State :=
  if s.dlRoom b then s.updBand b (fun x => { x with dl := x.dl ++ [f] })
  else s.updBand b (fun x => { x with held := x.held ++ [f] })

/-- A frame put at the head of a downlink queue: a new one where the queue has room, or one that kept its place. -/
def State.dlHead (s : State) (b : Nat) (f : DlFrame) : State := s.updBand b (fun x => { x with dl := f :: x.dl })

/-- Does the band's queue hold a frame for `dst` (PENDING, and MORE over both bands, R373)? -/
def State.dlHas (s : State) (b dst : Nat) : Bool := (s.band b).dl.any (·.dst = dst)

/-- The band that carries unicast downlink to members: B, or A on parts without band B (R373). -/
def State.downBand (s : State) : Nat := if s.expected U.BSB ∧ s.bandBCells then 1 else 0

/-! ### Cells of the slot in progress -/

/-- Slot index within the slotframe. -/
def State.slotIdx (s : State) : Nat := s.asn % max s.slotL 1

/-- The cells of a slot index on a band. -/
def State.cellsAt (s : State) (slot b : Nat) : List Cell := s.cells.filter (fun c => c.slot = slot ∧ c.band = b)

/-- The channel of a cell at channel offset `c` in the slot in progress: hop_table[(ASN + c) mod hop_len] (R24). -/
def State.cellChan (s : State) (b c : Nat) : Nat :=
  let h := hopOf (s.sec (T.BAND_A + b))
  h.getD ((s.asn + c) % max h.length 1) 0

/-- The lowest channel of band A's 1.6 MHz window: the lowest of the slot's receive cells, lowered to the region's top
channel less 3 where it would exceed that (R334). -/
def State.windowA (s : State) : Nat :=
  let cs := ((s.cellsAt s.slotIdx 0).filter (fun x => ¬ Role.tx x.role ∧ x.role ≠ Role.RESYNC)).map (fun x => s.cellChan 0 x.chan)
  min (cs.foldl min (cs.headD 0)) (bandChannels 0 (leAt (s.sec T.BAND_A) 0 1) - 4)

/-- Is demodulator `c` tuned to its cell's channel: on band A within the window, on band B anywhere (R334)? -/
def State.tuned (s : State) (b c : Nat) : Bool :=
  if b = 0 then s.windowA ≤ s.cellChan 0 c && s.cellChan 0 c ≤ s.windowA + 3 else true

/-- The receive cell of the slot in progress at channel offset `c`, which demodulator `c` receives on the cell's channel. -/
def State.rxCell? (s : State) (b c : Nat) : Option Cell :=
  if s.tuned b c then (s.cellsAt s.slotIdx b).find? (fun x => x.chan = c ∧ ¬ Role.tx x.role ∧ x.role ≠ Role.RESYNC) else none

/-- Is a UL_SHARED cell a relay cell: owned by a group (R379)? -/
def Cell.relay (c : Cell) : Bool := c.role = Role.UL_SHARED && 0xF0 ≤ c.owner && c.owner < 0xFF

/-- The wake pair's second slot: two consecutive slots, each with one band A DL_CTRL cell and no other, that precede
the RESYNC slot (R333). -/
def State.resyncSlot (s : State) : Nat :=
  ((s.cells.find? (fun c => c.band = 0 ∧ c.role = Role.RESYNC)).map (·.slot)).getD 0

/-- Is a slot index fit to be half of the wake pair? -/
def State.wakeHalf (s : State) (slot : Nat) : Bool :=
  let cs := s.cellsAt slot 0
  cs.length = 1 && cs.all (·.role = Role.DL_CTRL)

/-- The first slot of the wake pair: the last pair before the RESYNC slot, counting cyclically. -/
def State.wakePair? (s : State) : Option Nat :=
  let l := max s.slotL 1
  ((List.range l).map (fun k => (s.resyncSlot + l - 2 - k % l + l) % l)).find? (fun x =>
    s.wakeHalf x && s.wakeHalf ((x + 1) % l))

/-! ### Sealing (R324, R337, R352, R359) -/

/-- The nonce of R337: direction 0 from the module, 1 to it. -/
def ccmNonce (b dir net src dst fcnt session : Nat) : Bytes :=
  [byte (b + 2 * dir)] ++ leBytes 2 net ++ [byte src, byte dst] ++ leBytes 4 fcnt ++ leBytes 4 session

/-- The flood header: MSG_ID, then TTL and HOPS 0. -/
def floodHdr (id ttl : Nat) : Bytes := leBytes 2 id ++ [byte (ttl % 8)]

/-- A secured PSDU from the module: header, flood header, type-specific header, encrypted part, MIC, FCS. -/
def sealPsdu (b net : Nat) (key : Bytes) (fc dst seq fcnt session : Nat) (flood tsh enc : Bytes) : Bytes :=
  let hdr := [byte fc, byte dst, byte 0, byte seq] ++ leBytes 2 fcnt
  let aad := hdr ++ (if flood.isEmpty then [] else flood.take 2 ++ [byte 0]) ++ tsh
  let r := ccmSeal key (ccmNonce b 0 net 0 dst fcnt session) aad enc (micLen b)
  let body := hdr ++ flood ++ tsh ++ r.1 ++ r.2
  body ++ fcsOf b net body

/-- FC of a secured frame. -/
def fcByte (ftype : Nat) (ack more flood : Bool) : Nat :=
  ftype + 16 + 32 * b2n ack + 64 * b2n more + 128 * b2n flood

/-! ### Sending one frame -/

/-- The next MSG_ID of the module, and the counter advanced (R377). -/
def State.nextMsg (s : State) : Nat × State :=
  let n := s.getF F.BSA_FLOOD_STAT_MSG_ID
  (n, s.setF F.BSA_FLOOD_STAT_MSG_ID (n + 1))

/-- The initial TTL of a frame: BEACON_TTL for beacons and STOP frames, DATA_TTL for DATA (R354, R377, R436). -/
def State.ttl (s : State) (ftype : Nat) : Nat :=
  if ftype = 7 then s.getF F.BSA_FLOOD_CFG_DATA_TTL else s.getF F.BSA_FLOOD_CFG_BEACON_TTL

/-- The channel offset of the transmit cell of the slot in progress on a band (R26). -/
def State.txOfs (s : State) (b : Nat) : Nat :=
  (((s.cellsAt s.slotIdx b).find? (fun c => Role.tx c.role ∨ c.role = Role.RESYNC)).map (·.chan)).getD 0

/-- Air time in µs of a frame with a PSDU of `n` bytes, and of an acknowledgement (R321). -/
def airUs (b n : Nat) : Nat := if b = 0 then (7 + n) * 40 else (12 + n) * 4
def ackUs (b n : Nat) : Nat := if b = 0 then (5 + n) * 40 else (8 + n) * 4

/-- The transmitter will key its pad for a transmission of `us` µs that begins `from_` µs from now: PA_EN_x rises 2 µs before
it and falls with its end (R71). -/
def State.keyPad (s : State) (b from_ us : Nat) : State :=
  s.updBand b (fun x => { x with tx := some (s.now + 26 * (from_ - 2), s.now + 26 * (from_ + us)) })

/-- A frame sent on a band (R332, R336–R338): none where its key entry may not send. The frame sent, with its SEQ and
its transmissions counted, and the state after. It goes on air at TX_OFFSET, a RESYNC frame at 700 µs, on the channel of
the slot's transmit cell (R24, R325). -/
def State.txFrame (s : State) (b : Nat) (f : DlFrame) : Option (DlFrame × State) :=
  match (s.band b).key? f.dst with
  | none => none
  | some k =>
    if k.exhausted then none
    else
      let seq := f.seq.getD (s.band b).seq
      let s1 := if f.seq.isSome then s else s.updBand b (fun x => { x with seq := (x.seq + 1) % 256 })
      let m := match f.flood, f.msgId with
        | true, none => s1.nextMsg
        | _, some i => (i, s1)
        | false, none => (0, s1)
      let flood := if f.flood then floodHdr m.1 (s.ttl f.ftype) else []
      let fc := fcByte f.ftype f.ack (s.dlHas 0 f.dst || s.dlHas 1 f.dst) f.flood
      let psdu := sealPsdu b s.networkId k.key fc f.dst seq k.tx k.session flood f.tsh f.enc
      let full := 0xFFFFFFFF ≤ k.tx + 1
      let s2 := ((m.2.updBand b (fun x => { (x.updKey f.dst (fun k => { k with
        tx := k.tx + 1, exhausted := full })) with air := x.air ++ [⟨some (s.cellChan b (s.txOfs b)), ppdu b false psdu⟩] })).incF (F.BS_CNT_TX b))
      let s3 := if full then s2.setF (F.BS_STAT_FCNT_EXHAUSTED b) 1 else s2
      some ({ f with seq := some seq, msgId := if f.flood then some m.1 else none, tries := f.tries + 1 },
        s3.keyPad b (if f.tag = .resync then 700 else 300) (airUs b psdu.length))

/-- The frame a downlink cell takes: a retransmission first, then the highest priority, first in first out (R35,
R332), among those the cell may carry. -/
def pickFrame (ok : DlFrame → Bool) (q : List DlFrame) : Option DlFrame :=
  let c := q.filter ok
  match c.find? (·.seq.isSome) with
  | some f => some f
  | none =>
    let m := c.foldl (fun m f => min m f.prio) 16
    c.find? (·.prio ≤ m)

/-! ### Fleet events (R385) -/

/-- A fleet event; SILENT, SILENT_END, LEFT and JOIN_REFUSED also raise code 0x30 of the Visitor book (R529). -/
def State.fleetEvent (s : State) (kind member info value : Nat) (data : Bytes := []) : State :=
  let b := s.eventBytes 8 kind member info value
  let s1 := s.observe Win.EVENTS_NS (b ++ data)
  if kind = 2 ∨ kind = 4 ∨ kind = 5 ∨ kind = 6 then s1.vbTrigger 0x30 b else s1

/-! ### The member table -/

/-- A member's entry written. -/
def State.setMbr (s : State) (x : Mbr) : State :=
  { s with fleet := { s.fleet with mbrs := s.fleet.mbrs.filter (·.id ≠ x.id) ++ [x] } }

def State.updMbr (s : State) (m : Nat) (f : Mbr → Mbr) : State := s.setMbr (f (s.mbr m))

abbrev Ms.FREE : Nat := 0
abbrev Ms.KEYING : Nat := 1
abbrev Ms.SETUP : Nat := 2
abbrev Ms.ACTIVE : Nat := 3

/-- Is the member in SETUP or ACTIVE? -/
def State.joined (s : State) (m : Nat) : Bool := (s.mbr m).state = Ms.SETUP || (s.mbr m).state = Ms.ACTIVE

/-- The schedule number in force (R354). -/
def State.schedSeq (s : State) : Nat := s.fleet.schedSeq

/-- CLASSES record of a class (spec/12), and its SELF_SOLVE flag. -/
def State.classRec (s : State) (c : Nat) : Bytes := slice (s.sec T.CLASSES) (8 + 32 * c) 32

end Sys2Proof.Machine
end

