-- ==== Sys2Proof/Machine/Pergola.lean ====
section
/-! DEFINITION. Pergola's shared operations (spec/12): reservation time and windows, segment tables and their framing,
planning requests, positions, forced windows, members out of step, stop and clear. -/
namespace Sys2Proof.Machine

/-! ### Time and members -/

/-- Pergola acts: D10 is ON. -/
def State.pglOn (s : State) : Bool := s.domOn 10

/-- Is R415 in force? -/
def State.pglFrozen (s : State) : Bool := s.flag F.PGL_STAT_FROZEN

def State.updPgl (s : State) (f : Pgl → Pgl) : State := { s with pgl := f s.pgl }

def State.setPm (s : State) (x : PMbr) : State :=
  s.updPgl (fun p => { p with mbrs := p.mbrs.filter (·.id ≠ x.id) ++ [x] })

def State.updPm (s : State) (m : Nat) (f : PMbr → PMbr) : State := s.setPm (f (s.pm m))

/-- A Pergola event (R422). -/
def State.pglEvent (s : State) (kind m info value : Nat) : State := s.nsEvent 0x0A kind m info (value % 2 ^ 32)

/-! ### Windows (R397–R399) -/

/-- Do two half-open windows overlap in time? -/
def winOverlap (a0 : Int) (a1 : Option Int) (b0 : Int) (b1 : Option Int) : Bool :=
  (match a1 with | some e => b0 < e | none => true) && (match b1 with | some e => a0 < e | none => true)

/-- The other members' windows that meet a window on an edge. -/
def State.clashes (s : State) (m e : Nat) (start : Int) (stop : Option Int) : List Win :=
  let g := s.graph
  (s.pgl.wins.map (Win.near s.rtNow)).filter (fun w => w.member ≠ m ∧ g.meets w.edge e ∧
    winOverlap w.start w.stop (rtNear s.rtNow start) (stop.map (rtNear s.rtNow)))

/-- Windows of one member on one edge that one table, or one rule, granted as one kind. -/
def Win.sameGrant (a b : Win) : Bool := a.sameEdge b && a.kind = b.kind && a.seq = b.seq

/-- A window granted, beside those of the same grant one with those it overlaps or touches (R398). -/
def State.grant (s : State) (w : Win) : State :=
  s.updPgl (fun p => { p with wins := mergeWin Win.sameGrant (p.wins.map (Win.near s.rtNow)) (w.near s.rtNow) })

/-- Does the edge of a window hold it as one of at most 32 (R399)? -/
def State.edgeTakes (s : State) (w : Win) : Bool :=
  (mergeWin Win.sameEdge (s.edgeWins w.edge) (w.near s.rtNow)).length ≤ 32

/-- A window that no path planned granted, where its edge has a place for it (log entry 24). -/
def State.grantForced (s : State) (w : Win) : State := if s.edgeTakes w then s.grant w else s

/-- The windows of a member removed; how many. -/
def State.dropWins (s : State) (ok : Win → Bool) : State :=
  s.updPgl (fun p => { p with wins := p.wins.filter (fun w => !ok w) })

/-! ### Tables (R405–R408) -/

/-- The edge and the place along it at path distance `q`. -/
def alongPath (g : Graph) : List Nat → Int → Option (GEdge × Int)
  | [], _ => none
  | [e], q => (g.edge? e).map (fun x => (x, q))
  | e :: es, q =>
    match g.edge? e with
    | some x => if q ≤ x.len then some (x, q) else alongPath g es (q - x.len)
    | none => none

/-- Each edge of a path with the path distances of its ends. -/
def pathSpans (g : Graph) : List Nat → Int → List (Nat × Int × Int)
  | [], _ => []
  | e :: es, o =>
    match g.edge? e with
    | some x => (e, o, o + x.len) :: pathSpans g es (o + x.len)
    | none => []

/-- d of R398 at a speed. -/
def stopDist (c : GClass) (v : Rat) : Rat :=
  v * c.react / 1000 + (if c.edec = 0 then 0 else v * v / (2 * c.edec))

/-- TOL_T in ticks, rounded up. -/
def GClass.tolTicks (c : GClass) : Int := (c.tolT + 9) / 10

/-- Position, along the first table's path, and speed of the tables of one plan, each in force until the next starts, at a
tick from the first one's start (R406). -/
def chainAt : List SegTab → Rat → Rat × Rat
  | [], _ => (0, 0)
  | [t], k => knotsAt (1 / 100) t.knots k
  | t :: u :: ts, k =>
    let ku : Rat := (asnDiff t.asn u.asn : Rat) / 4
    if k < ku then knotsAt (1 / 100) t.knots k
    else
      let r := chainAt (u :: ts) (k - ku)
      ((knotsAt (1 / 100) t.knots ku).1 - ((u.knots.head?.map (·.s)).getD 0 : Int) + r.1, r.2)

/-- The tick at which the last of them ends. -/
def chainEnd : List SegTab → Int
  | [] => 0
  | [t] => t.endTick
  | t :: u :: ts => asnDiff t.asn u.asn / 4 + chainEnd (u :: ts)

/-- The window of one edge, from path distance `lo` to `hi`, under the tables of a plan (R398): its first tick, its END, none
where the span never leaves it. Times are taken at ticks; none where the span never reaches the edge. -/
def edgeWin (c : GClass) (ts : List SegTab) (lo hi : Int) : Option (Int × Option Int) :=
  let n := (chainEnd ts).toNat + 1
  let head (k : Nat) : Rat := (chainAt ts k).1 + c.front + stopDist c (chainAt ts k).2
  let tail (k : Nat) : Rat := (chainAt ts k).1 - c.rear
  match (List.range n).find? (fun k => (lo : Rat) ≤ head k) with
  | none => none
  | some k =>
    let first : Int := if k = 0 ∨ head k = lo then k else (k : Int) - 1
    let out := (List.range n).find? (fun k => (hi : Rat) ≤ tail k)
    some (first, out.map (fun (k : Nat) => (k : Int)))

/-- The ticks a member takes from rest until it has gone `d` mm. -/
def GClass.departTicks (c : GClass) (d : Int) : Int :=
  let v : Rat := (maxSpeedBy (fun v => rampDist v (rampTimes v c.acc c.jerk) ≤ (max d 0 : Int)) 30 0 (1024 * c.vmax) : Rat) / 1024
  let t := rampTimes v c.acc c.jerk
  let rest : Rat := if v = 0 then 0 else ((max d 0 : Int) - rampDist v t) * 1000000 / v
  (((2 * t.1 + t.2 : Nat) : Rat) / 10000 + rest / 10000).ceil

/-- The windows a table needs, the tables of its plan that follow it given (R398, R401): PATH windows, and PARK windows where
the plan's span stays at its end; at a task stop before the last, with its DWELL in ticks, these end with the dwell and the
departure (R410, log entry 24). -/
def State.tabWins (s : State) (m : Nat) (t : SegTab) (rest : List SegTab) (dwell : Option Int) : List Win :=
  let c := s.cls t.cls
  let ts := t :: rest
  let t0 : Int := t.asn / 4
  let n := chainEnd ts
  (pathSpans s.graph t.edges 0).filterMap (fun p =>
    match edgeWin c ts p.2.1 p.2.2 with
    | none => none
    | some (a, stop) =>
      let start := t0 + a - c.tolTicks
      match stop, dwell with
      | some e, _ => some ⟨m, p.1, 0, start, some (t0 + e + c.tolTicks), some t.seq⟩
      | none, none => some ⟨m, p.1, 1, start, none, some t.seq⟩
      | none, some d =>
        let go := c.departTicks (p.2.2 - ((chainAt ts n).1 - c.rear).floor)
        some ⟨m, p.1, 0, start, some (t0 + n + d + (min (max (s.getF F.PGL_LEAD_LEAD_MS) 50) 2000 + 9) / 10 + go + c.tolTicks),
          some t.seq⟩)

/-- Three bytes, signed. -/
def le3 (v : Int) : Bytes := leBytesI 3 v

/-- The bytes of a table (R405). -/
def State.tabBytes (s : State) (t : SegTab) : Bytes :=
  let g := s.graph
  let node (n : Nat) : Int × Int := match g.node? n with | some x => (x.e, x.n) | none => (0, 0)
  let first := match t.edges.head?.bind g.edge? with | some x => node x.src | none => (0, 0)
  [byte t.seq, byte t.flags, byte t.edges.length, byte t.knots.length] ++ leBytes 5 t.asn ++ [byte t.cls] ++
    le3 first.1 ++ le3 first.2 ++ leBytes 4 t.task ++ zeros 4 ++
    t.edges.flatMap (fun e => match g.edge? e with
      | some x => leBytes 2 e ++ leBytesI 2 x.curv ++ le3 (node x.dst).1 ++ le3 (node x.dst).2 ++ zeros 2
      | none => []) ++
    t.knots.flatMap (fun k => leBytesI 2 k.t ++ le3 k.s ++ leBytesI 2 k.v ++ [byte 0])

/-- The parts of a message in pieces of `n` bytes; one empty piece for an empty message. -/
def pieces (n : Nat) : Nat → Bytes → List Bytes
  | 0, b => [b]
  | f + 1, b => if b.length ≤ n then [b] else b.take n :: pieces n f (b.drop n)

/-- The band of a member's unicast messages (R406): B where the part, the plan and its CAPS have band B. -/
def State.mbrBand (s : State) (m : Nat) : Nat := if s.downBand = 1 ∧ (s.mbr m).caps.testBit 0 then 1 else 0

/-- DATA frames of a unicast message with ACK_REQ on a port (R353, R373). -/
def dataFrames (b dst port prio : Nat) (msg : Bytes) (tag : Bool → FrameTag) : List DlFrame :=
  let ps := pieces (if b = 0 then 17 else 431) 32 msg
  (List.range ps.length).map (fun i => {
    dst := dst, ftype := 7, tsh := [byte port, byte (i + 16 * (ps.length - 1))], enc := ps.getD i [], ack := true
    prio := prio, tag := tag (i + 1 = ps.length) })

/-- The frames of a table at the head of SEG and their band, stop tables at priority 0 (R406). -/
def State.segHead? (s : State) : Option (Nat × List DlFrame) :=
  s.pgl.seg.head?.map (fun (m, t) => (s.mbrBand m,
    dataFrames (s.mbrBand m) m 1 (if t.flags.testBit 2 then 0 else 1) (s.tabBytes t) (fun last => .seg t.seq last)))

/-- The place in DL_B of the correction builder's next frame: it goes out behind every other frame (R52), and its content is
formed when it does (R313, R374). -/
def corrPlace : DlFrame := { dst := 0xFF, ftype := 8, tsh := [], enc := [], prio := 16, tag := .corr }

/-- One grant of the merge into a band's downlink queue (R44, R48): Arbour's producers (0) ask while one holds a frame and
one frame has room, SEG (1) while its first table has room, the correction builder (2) on band B while it has messages and
no frame in the queue; the first that asks from the token on is served, and the token moves past it. -/
def State.dlGrant (s : State) (b : Nat) : State :=
  let seg : Option (List DlFrame) := s.segHead?.bind (fun p => if p.1 = b ∧ s.qRoom (.dl b) p.2.length then some p.2 else none)
  let held : Option DlFrame := if s.qRoom (.dl b) then (s.band b).held.head? else none
  let corr : Bool := b = 1 && s.slv.corr ≠ [] && s.qRoom (.dl 1) && !s.bsb.dl.any (·.tag = .corr)
  let ask (k : Nat) : Bool := if k = 0 then held.isSome else if k = 1 then seg.isSome else corr
  let tok := (s.band b).token
  if !s.dlOpen b then s
  else match [tok % 3, (tok + 1) % 3, (tok + 2) % 3].find? ask with
    | none => s
    | some 0 => s.updBand b (fun x => { x with dl := x.dl ++ held.toList, held := x.held.drop 1, token := 1 })
    | some 1 =>
      (s.updPgl (fun p => { p with seg := p.seg.drop 1 })).updBand b (fun x => { x with dl := x.dl ++ seg.getD [], token := 2 })
    | some _ => s.updBand b (fun x => { x with dl := x.dl ++ [corrPlace], token := 0 })

/-- A downlink queue filled while producers wait for it. -/
def State.dlFill (s : State) (b : Nat) : State :=
  (List.range ((s.band b).held.length + s.pgl.seg.length + 1)).foldl (fun t _ => t.dlGrant b) s

/-- Tables leave SEG for the downlink queues while these have room (R44, R406). -/
def State.segDrain (s : State) : State := (s.dlFill 0).dlFill 1

/-- A table enters SEG, counted and numbered (R405). -/
def State.enterSeg (s : State) (m : Nat) (t : SegTab) : State :=
  (((s.updPm m (fun x => { x with tabs := x.tabs ++ [t], segSent := t.seq })).updPgl (fun p => { p with
    seg := p.seg ++ [(m, t)] })).incF F.PGL_CNT_TABLES).segDrain |>.raiseTask 7

/-- The tables of a plan enter SEG, each with its windows beside those it replaces (R407); none is granted on an edge that
a swap removes or changes (R155). -/
def State.sendTabs (m : Nat) (dwell : Option Int) : List SegTab → State → State
  | [], s => s
  | t :: ts, s =>
    let ws := (s.tabWins m t ts dwell).filter (fun w => !s.edgeBarred w.edge)
    State.sendTabs m dwell ts ((ws.foldl (fun u w => u.grant w) s).enterSeg m t)

/-- START_ASN of a table planned now (R406). -/
def State.startAsn (s : State) : Nat :=
  let lead := min (max (s.getF F.PGL_LEAD_LEAD_MS) 50) 2000
  let t := s.tbNs 0 + lead * 1000000
  (t + 9999999) / 10000000 * 4 % 2 ^ 40

/-- The number of a member's next table. -/
def PMbr.nextSeq (x : PMbr) : Nat := (x.segSent + 1) % 256

/-- TASK_ID of a member's task in force, or 0 (R405). -/
def PMbr.taskId (x : PMbr) : Nat := (x.task.map (·.id)).getD 0

/-- The knots of a stop from (s, v) at deceleration `d` (R403): one piece. -/
def stopKnots (q : Int) (v : Int) (d : Nat) : List Knot :=
  let t := max 1 (if d = 0 then 1 else (100 * v + d - 1) / d)
  [⟨0, q, v⟩, ⟨t, q + (v * t + 199) / 200, 0⟩]

/-- Do the member's windows hold a window of a table that stands still from tick `last` on? -/
def State.covers (s : State) (w : Win) (last : Int) : Bool :=
  let w := w.near s.rtNow
  let last := rtNear s.rtNow last
  let stop : Int := match w.stop with | some e => min e last | none => last
  (s.edgeWins w.edge).any (fun x => x.member = w.member && x.start ≤ w.start &&
    (match x.stop with | some e => stop ≤ e | none => true))

/-! ### Requests (R394, R400) -/

/-- A request of an internal producer enters PLAN_REQ, or waits for room in it (R44). -/
def State.planPush (s : State) (r : PReq) : State :=
  if s.qRoom .planReq ∧ s.pgl.waitReq = [] then s.updPgl (fun p => { p with queue := p.queue ++ [r] })
  else s.updPgl (fun p => { p with waitReq := p.waitReq ++ [r] })

/-- The request of a member: towards its goal; one of a member without a goal names no node, and ends BAD_GOAL when it is
taken (log entry 24). -/
def State.ownReq (s : State) (m why dev : Nat) (prio : Option Nat) : PReq := {
  member := m, prio := prio.getD (((s.memberRec? m).map (·.prio)).getD 0), goal := (s.pm m).goal.getD 0xFFFF
  why := why, dev := dev }

/-- An internal planning request, with its REPLAN event (R394, R400, R422). -/
def State.replan (s : State) (m why dev : Nat) (prio : Option Nat := none) : State :=
  ((s.planPush (s.ownReq m why dev prio)).incF F.PGL_CNT_REPLAN).pglEvent 3 m why dev |>.raiseTask 8

/-- A request completes: its item, if it has one. -/
def State.endReq (s : State) (r : PReq) (st : Nat) (res : Bytes := []) : State :=
  match r.wid with
  | some w => s.finish w st res
  | none => s

/-- A member's stored requests complete with a status. -/
def State.endStored (s : State) (m st : Nat) : State :=
  let rs := s.pgl.store.filter (·.member = m)
  rs.foldl (fun t r => t.endReq r st) (s.updPgl (fun p => { p with store := p.store.filter (·.member ≠ m) }))

/-! ### Spans, stop tables and forced windows (R403, R411) -/

/-- The edges a standing member covers: its matched edge, and those its span reaches past an end of it, at each node in either
direction (R390, R398). -/
def State.spanEdges (s : State) (m : Nat) : List Nat :=
  let x := s.pm m
  let c := s.clsOf m
  let g := s.graph
  match g.edge? x.edge with
  | none => []
  | some e =>
    (e.id :: (g.past e.id e.src (c.rear - x.along) ++ g.past e.id e.dst (x.along + c.front - e.len))).eraseDups

/-- The edges a member covers now: along the path of the table it executes, from s − REAR to s + FRONT + d (R398), or those
it stands on. -/
def State.spanNow (s : State) (m : Nat) : List Nat :=
  let x := s.pm m
  match x.tabAt s.asn with
  | some t =>
    if x.executing s.asn then
      let c := s.cls t.cls
      let sv := t.atAsn s.asn
      ((pathSpans s.graph t.edges 0).filter (fun p =>
        (p.2.1 : Rat) ≤ sv.1 + c.front + stopDist c sv.2 && sv.1 - c.rear ≤ (p.2.2 : Rat))).map (·.1)
    else s.spanEdges m
  | none => s.spanEdges m

/-- The members whose windows meet a window of another on `e`. -/
def State.overlapped (s : State) (m e : Nat) (start : Int) (stop : Option Int) : List Nat :=
  ((s.clashes m e start stop).map (·.member)).eraseDups

/-- Every one of them is replanned at priority 0, with ENV_CONFLICT_SEEN and an event (R411). -/
def State.tellOverlap (s : State) (m e : Nat) (start : Int) (stop : Option Int := none) : State :=
  (s.overlapped m e start stop).foldl (fun t o =>
    ((t.setF F.PGL_STAT_ENV_CONFLICT_SEEN 1).pglEvent 8 m o e).replan o 1 0 (some 0)) s

/-- Tables that no plan found enter SEG. Where the member goes and comes to stand it does, whatever has been granted there:
their windows are granted, and those of other members they meet are resolved, as forced windows are (log entry 24). -/
def State.sendForced (m : Nat) : List SegTab → State → State
  | [], s => s
  | t :: ts, s =>
    let ws := (s.tabWins m t ts none).filter (fun w => !s.edgeBarred w.edge)
    State.sendForced m ts ((ws.foldl (fun u w => (u.grantForced w).tellOverlap m w.edge w.start w.stop) s).enterSeg m t)

/-- A stop table (R403), for a member in motion or one with tables still to start: from its state at START in the table then
in force, at DEC where its windows hold it, else at EDEC. Its edges are those of a table sent before it and its knots two, so
that it keeps R406's sizes. -/
def State.stopTable (s : State) (m : Nat) : State :=
  let x := s.pm m
  let a := s.startAsn
  match (x.tabAt a).or (x.future a).head? with
  | none => s
  | some t =>
    let sv := t.atAsn a
    let v := sv.2.ceil
    if ¬ x.executing a ∧ x.future a = [] then s
    else
      let c := s.cls t.cls
      let mk (d : Nat) : SegTab := {
        seq := x.nextSeq, flags := b2n (x.tabAt a).isSome + 4, cls := t.cls, asn := a, edges := t.edges
        knots := stopKnots sv.1.floor (max v 0) d, task := x.taskId }
      let d := mk c.dec
      let within := (s.tabWins m d [] none).all (fun w => s.covers w ((a / 4 : Nat) + d.endTick))
      State.sendForced m [if within then d else mk c.edec] s

/-- A forced window on `e`: the members it overlaps are replanned, and one whose own span meets it gets a stop table
(R411). -/
def State.forceOut (s : State) (m e : Nat) (start : Int) : State :=
  ((s.overlapped m e start none).filter (fun o => (s.spanNow o).any (fun y => s.graph.meets y e))).foldl State.stopTable
    (s.tellOverlap m e start)

/-- Forced windows of a kind for a member on edges (R411), none on an edge that a swap removes or changes (R155). -/
def State.force (s : State) (m kind : Nat) (es : List Nat) : State :=
  (es.filter (fun e => !s.edgeBarred e)).foldl (fun t e => (t.grantForced ⟨m, e, kind, t.rtNow, none, none⟩).forceOut m e t.rtNow) s

/-- Forced PARK windows on the member's span (R411). -/
def State.parkSpan (s : State) (m : Nat) : State :=
  (s.updPm m (fun x => { x with fresh := false, anchor := x.pos })).force m 1 (s.spanEdges m)

/-- The member's windows replaced by forced PARK windows on its span (R413, R414, R416). -/
def State.parkHere (s : State) (m : Nat) : State :=
  ((s.dropWins (·.member = m)).updPm m (fun x => { x with tabs := [], thaw := false })).parkSpan m

/-- The member's PARK windows, those of tables `ts` apart, end where the path of `ts` leaves their edges (R398); off the path,
when its rear has left the first node (log entry 24). They go on as windows of the first of `ts`. -/
def State.closeParks (s : State) (m : Nat) (ts : List SegTab) : State :=
  match ts with
  | [] => s
  | t :: _ =>
    let c := s.cls t.cls
    let t0 : Int := t.asn / 4
    let sp := pathSpans s.graph t.edges 0
    let out (e : Nat) : Option Int :=
      let hi := ((sp.find? (·.1 = e)).map (·.2.2)).getD 0
      ((List.range ((chainEnd ts).toNat + 1)).find? (fun (k : Nat) => (hi : Rat) ≤ (chainAt ts k).1 - c.rear)).map
        (fun (k : Nat) => t0 + k + c.tolTicks)
    s.updPgl (fun p => { p with wins := p.wins.map (fun (w : Win) =>
      if w.member = m ∧ w.kind = 1 ∧ ts.all (fun t => w.seq ≠ some t.seq) then { w with stop := out w.edge, seq := some t.seq }
      else w) })

/-- A parked member's PARK windows rebased to its new span (R394); those of tables that have still to start stay. -/
def State.rebase (s : State) (m : Nat) : State :=
  let ts := (s.pm m).future s.asn
  ((((s.dropWins (fun w => w.member = m && w.kind = 1 && ts.all (fun t => w.seq ≠ some t.seq))).updPm m (fun x => { x with
    tabs := ts })).parkSpan m).closeParks m ts)

/-! ### Positions (R392–R395, R410) -/

/-- The node of the stop a member's task is serving. -/
def PMbr.stop? (x : PMbr) : Option (PTask × Nat × Nat × Nat) := x.task.bind (fun t => (t.stops[t.cur]?).map (fun p => (t, p)))

/-- Is a stop reached (R410): the position within TOL_POS of its node, v = 0 in the table in force? -/
def State.stopReached (s : State) (m : Nat) : State :=
  let x := s.pm m
  match x.stop?, x.pos with
  | some (t, st), some p =>
    match s.graph.node? st.1 with
    | none => s
    | some n =>
      let tol : Int := (s.clsOf m).tolPos
      if t.dwell.isNone ∧ dist2 (n.e, n.n) p ≤ tol * tol ∧ ¬ x.executing s.asn then
        (s.updPm m (fun x => { x with task := some { t with dwell := some s.now } })).pglEvent 9 m t.cur t.id
      else s
  | _, _ => s

/-- Where a parked member stands by its table's end, or where its PARK windows were granted. -/
def State.parkedAt (s : State) (m epoch : Nat) : Option (Int × Int) :=
  let x := s.pm m
  match x.tabAt epoch with
  | some t => (alongPath s.graph t.edges (t.atAsn epoch).1.floor).map (fun p => s.graph.point p.1 p.2)
  | none => x.anchor

/-- The deviation check of R394: of the matched position from the table executed, or of a parked member's position from where
it stands, which rebases it. While a stop stands it is recorded (R415). -/
def State.deviation (s : State) (m : Nat) (matched : Int × Int) (epoch : Nat) : State :=
  let x := s.pm m
  let tol : Int := (s.clsOf m).tolPos
  let here := if x.executing epoch then some matched else x.pos
  match s.parkedAt m epoch, here with
  | some a, some p =>
    let d2 := dist2 a p
    let dev := d2.toNat.sqrt
    let s1 := s.updPm m (fun x => { x with dev := min dev 65535 })
    if d2 ≤ tol * tol then s1
    else if x.executing epoch then s1.replan m 0 dev
    else if s1.pglFrozen then s1 else s1.rebase m
  | _, _ => s

/-- The member's FREEZE and HOLD windows replaced by PARK windows, a suspended task planned again (R413, R416). -/
def State.thawMember (s : State) (m : Nat) : State :=
  let n := (s.windows.filter (fun w => w.member = m ∧ 2 ≤ w.kind)).length
  let s1 := ((s.parkHere m).pglEvent 7 m 0 n)
  if (s1.pm m).task.isSome then s1.replan m 3 0 else s1

/-- A usable position at `(e, n)` mm with its epoch's ASN: matched, checked, recorded (R392–R394), with the windows that wait
for one (R411, R413). -/
def State.pglPosition (s : State) (m : Nat) (e n : Int) (epoch : Nat) : State :=
  if !s.pglOn then s
  else
    let g := s.graph
    let x := s.pm m
    let on := match x.tabAt epoch with
      | some t => t.edges.filterMap g.edge?
      | none => g.edges
    match g.match? on (e, n) with
    | none => s
    | some (d2, y, q) =>
      let tol : Int := (s.clsOf m).tolPos
      let off : Bool := tol * tol < d2
      let s1 := s.updPm m (fun x => { x with
        pos := some (e, n), posAsn := epoch, posFrc := s.now, edge := y.id, along := q, offGraph := off, posLost := false })
      let s2 := if off ∧ ¬ x.offGraph then (s1.setF F.PGL_STAT_OFF_GRAPH_SEEN 1).pglEvent 5 m 1 d2.toNat.sqrt
        else if ¬ off ∧ x.offGraph then s1.pglEvent 5 m 0 d2.toNat.sqrt else s1
      let s3 := if x.posLost then s2.pglEvent 4 m 0 0 else s2
      (if x.held ∨ x.left then s3
        else if x.thaw ∧ ¬ s3.pglFrozen then s3.thawMember m
        else if x.fresh then (if s3.pglFrozen then s3 else s3.parkSpan m)
        else s3.deviation m (g.point y q) epoch).stopReached m

/-- The full ASN of an EPOCH: the latest at or before now with those low 16 bits (R392). -/
def State.epochAsn (s : State) (ep : Nat) : Nat := (s.asn + 2 ^ 40 - (s.asn + 65536 - ep % 65536) % 65536) % 2 ^ 40

/-- A fix record's position goes to Pergola where it is usable (R392): STATUS FIXED or FLOAT and 2^q ≤ TOL_POS. -/
def State.pglFix (s : State) (m : Nat) (rec : Bytes) : State :=
  let st := leAt rec 1 1
  let q := bitsOf (leAt rec 13 1) 0 4
  let pos := leAt rec 4 9
  let sx (lo w : Nat) : Int := (BitVec.ofNat w (bitsOf pos lo w)).toInt
  if st ≤ 1 ∧ q < 15 ∧ 2 ^ q ≤ (s.clsOf m).tolPos then
    s.pglPosition m (sx 0 26) (sx 26 26) (s.epochAsn (leAt rec 2 2))
  else s

/-! ### Members out of step (R412–R414) -/

/-- env of R412. -/
def GClass.env (c : GClass) : Int :=
  (c.tolPos + c.front + c.vmax * c.react / 1000 + c.vmax * c.vmax / (2 * max c.edec 1) + 1 : Nat)

/-- A member's windows frozen and its HOLD envelope granted (R412). -/
def State.holdMember (s : State) (m info : Nat) : State :=
  let n := (s.windows.filter (fun w => w.member = m)).length
  let s1 := s.updPgl (fun p => { p with
    wins := p.wins.map (fun (w : Win) => if w.member = m ∧ w.kind ≠ 2 then { w with kind := 3, stop := none } else w) })
  let s2 := (s1.endStored m 0x86).pglEvent 6 m info n
  match (s2.pm m).pos, s2.graph.edge? (s2.pm m).edge with
  | some _, some e => s2.force m 2 (s2.graph.within e (s2.pm m).along (s2.clsOf m).env)
  | _, _ => s2

/-- A member becomes SILENT, or is held as SILENT (R366, R412); while a stop stands the windows wait for the clear. -/
def State.pglSilent (s : State) (m : Nat) : State :=
  if !s.pglOn then s
  else
    let s1 := s.updPm m (fun x => { x with held := true, task := x.task.map (fun t => { t with suspended := true }) })
    if s.pglFrozen then s1 else s1.holdMember m 0

/-- SILENT ends (R413). -/
def State.pglSilentEnd (s : State) (m : Nat) : State :=
  if !s.pglOn then s
  else
    let s1 := s.updPm m (fun x => { x with
      held := false, thaw := true, task := x.task.map (fun t => { t with suspended := false }) })
    if s.pglFrozen ∨ (s1.pm m).posLost then s1 else s1.thawMember m

/-- A member that has left (R414): REQUESTED, its windows become PARK windows on its span, else they are held. -/
def State.leftMember (s : State) (m : Nat) : State := if (s.pm m).leftWhy = 0 then s.parkHere m else s.holdMember m 1

/-- A member leaves with a reason of R367 (R414); while a stop stands its windows wait for the clear. -/
def State.pglLeave (s : State) (m reason : Nat) : State :=
  if !s.pglOn then s
  else
    let s1 := s.updPm m (fun x => { x with goal := none, task := none, held := false, left := true, leftWhy := reason })
    if s.pglFrozen then s1 else s1.leftMember m

/-- A member becomes ACTIVE (R411): its PARK windows come with its first usable position, beside those that remain from before
it left (R414). -/
def State.pglActive (s : State) (m : Nat) : State :=
  s.updPm m (fun x => { x with fresh := true, held := false, left := false, segSent := 0, segConf := 0, tabs := [] })

/-- Tables of a member dropped with their windows, and the request of R407; one that stands takes up its PARK windows again. -/
def State.dropTabs (s : State) (m : Nat) (gone : List Nat) : State :=
  let s1 := (s.updPm m (fun x => { x with tabs := x.tabs.filter (fun t => !gone.contains t.seq) })).dropWins
    (fun w => w.member = m && (match w.seq with | some z => gone.contains z | none => false))
  let x := s1.pm m
  (if x.executing s.asn ∨ x.pos.isNone then s1 else s1.parkSpan m).replan m 4 0

/-- A CTRL frame reports SEG_SEQ (R407): the tables before it go, with their windows where it replaced them (others end by
their END); tables after it not taken at their start are dropped. -/
def State.segReport (s : State) (m q : Nat) : State :=
  if !s.pglOn then s
  else
    let x := s.pm m
    let s1 := s.updPm m (fun x => { x with segConf := q })
    if s.pglFrozen then s1
    else
      match x.tabs.findIdx? (·.seq = q) with
      | none => s1
      | some i =>
        let old := (x.tabs.take i).map (·.seq)
        let replaced : Bool := (x.tabs[i]?).any (fun t => t.flags.testBit 0)
        let late : Bool := (x.tabs.drop (i + 1)).any (fun t => 0 < asnDiff t.asn s.asn)
        let s2 := (s1.updPm m (fun x => { x with tabs := x.tabs.filter (fun t => !old.contains t.seq) })).dropWins
          (fun w => replaced && w.member = m && (match w.seq with | some z => old.contains z | none => false))
        if late then s2.dropTabs m ((x.tabs.drop (i + 1)).map (·.seq)) else s2

/-- A table's frames were dropped under R332 (R407). -/
def State.segDropped (s : State) (m q : Nat) : State := if s.pglFrozen then s else s.dropTabs m [q]

/-! ### A step of TB0 (R419) -/

/-- A step of TB0 in ns in ticks of RT, halves away from zero. -/
def stepTicks (d : Int) : Int :=
  let n : Int := (2 * (d.natAbs : Int) + 10000000) / 20000000
  if d < 0 then -n else n

/-- Every window moves by a step of TB0. -/
def State.moveWins (s : State) (d : Int) : State :=
  s.updPgl (fun p => { p with wins := p.wins.map (fun (w : Win) =>
    { w with start := w.start + stepTicks d, stop := w.stop.map (· + stepTicks d) }) })

/-- The replacement tables with STEPPED set of a member in motion: of the table in force at the new START from the member's
state there, and of those that follow it, each at the ASN it has now, rounded up to a multiple of 4 (log entry 24). -/
def State.steppedTable (s : State) (m : Nat) : State :=
  let x := s.pm m
  let a := s.startAsn
  match x.tabAt a with
  | some tab =>
    if x.executing a then
      let k : Int := asnDiff tab.asn a / 4
      let sv := tab.atAsn a
      let flags (t : SegTab) : Nat := 3 + 4 * b2n (t.flags.testBit 2) + 8 * b2n (t.flags.testBit 3)
      let ks := (tab.knots.filter (fun n => k < n.t)).map (fun n => { n with t := n.t - k })
      let first : SegTab := { tab with
        seq := x.nextSeq, flags := flags tab, asn := a, knots := ⟨0, sv.1.floor, sv.2.floor⟩ :: ks }
      State.sendForced m (first :: ((x.future a).zipIdx.map (fun (t, i) => { t with
        seq := (x.nextSeq + 1 + i) % 256, flags := flags t, asn := (t.asn + 3) / 4 * 4 % 2 ^ 40 }))) s
    else s
  | none => s

/-- TB0 was stepped by `d` ns, its ASN by `slots`: the tables held follow the ASN, the windows move, members in motion get a
table with STEPPED set (R419). While a stop stands the windows wait for its clearing (R415). -/
def State.pglStep (s : State) (d slots : Int) : State :=
  if !s.pglOn then s
  else
    let s1 := s.updPgl (fun p => { p with
      mbrs := p.mbrs.map (fun (x : PMbr) => { x with
        tabs := x.tabs.map (fun (t : SegTab) => { t with asn := (((t.asn : Int) + slots) % 2 ^ 40).toNat }) }) })
    if s.pglFrozen then s1.updPgl (fun p => { p with stepOwed := p.stepOwed + d })
    else (s1.pgl.mbrs.map (·.id)).foldl State.steppedTable (s1.moveWins d)

/-! ### Stop and clear (R416) -/

/-- One member at the boundary of R40. -/
def State.clearMember (s : State) (m : Nat) : State :=
  let x := s.pm m
  if x.held then s.holdMember m 0
  else if x.left then s.leftMember m
  else if (s.mbr m).state = 0 then s
  else if x.pos.isSome ∧ s.gzb.edgeFrc.toNat ≤ x.posFrc then s.parkHere m
  else (s.updPm m (fun x => { x with posLost := true, thaw := true })).setF F.PGL_STAT_POS_LOST_SEEN 1 |>.pglEvent 4 m 1 0

/-- Members by MEMBERS PRIORITY, then ID. -/
def State.byPriority (s : State) : List Nat :=
  (List.range 256).flatMap (fun p => ((s.memberRecs.filter (·.prio = p)).map (·.id)))

/-- Pergola resumes: a step of TB0 during the stop moves the windows, they are rebased in ascending member ID, then every ACTIVE member with a goal replanned (R416). -/
def State.pglClear (s : State) : State :=
  if !s.pglOn then s
  else
    let s1 := ((s.setF F.PGL_STAT_FROZEN 0).moveWins s.pgl.stepOwed).updPgl (fun p => { p with stepOwed := 0 })
    let ids := (List.range 129).filter (fun m => (s.pm? m).isSome)
    let s2 := ids.foldl (fun t m => t.clearMember m) s1
    s2.byPriority.foldl (fun t m =>
      if (t.mbr m).state = 3 ∧ (t.pm m).goal.isSome ∧ ¬ (t.pm m).held then t.replan m 3 0 else t) s2

end Sys2Proof.Machine
end

