-- ==== Sys2Proof/Machine/Route.lean ====
section
/-! DEFINITION. The planner's search (spec/12 R401, R402): the fastest profile of a leg, the routes of a request with their
stops and departures, and the best of them. The spec fixes which path wins and not how it is found: what is searched, and how
a profile is composed, is log entry 91. -/
namespace Sys2Proof.Machine

/-! ### The fastest profile (R402) -/

/-- A stretch of a leg under one speed limit. -/
structure Run where
  len : Rat
  cap : Nat
deriving DecidableEq, Repr

/-- The speed limit of an edge for a class: its VMAX, the edge's, and sqrt(ALAT / |CURV × 10^-5|). -/
def edgeCap (c : GClass) (e : GEdge) : Nat :=
  min (min c.vmax e.vmax) (if e.curv = 0 then c.vmax else (c.alat * 100000000 / e.curv.natAbs).sqrt)

/-- The phase times of a ramp between two speeds. -/
def rampT (v w : Rat) (a j : Nat) : Nat × Nat := if v = w then (0, 0) else rampTimes (ratAbs (w - v)) a j

/-- The µs and the distance of a ramp between two speeds. -/
def rampUs (v w : Rat) (a j : Nat) : Nat := 2 * (rampT v w a j).1 + (rampT v w a j).2
def rampLen (v w : Rat) (a j : Nat) : Rat := (v + w) * rampUs v w a j / 2000000

/-- The greatest speed, up to a limit, between which and `v` a ramp fits in `len`. -/
def reachSpeed (v len : Rat) (cap a j : Nat) : Rat :=
  (maxSpeedBy (fun p => p ≤ v ∨ rampLen v p a j ≤ len) 34 0 (1024 * cap) : Rat) / 1024

/-- The greatest speed at the start of some runs from which their end is reached at rest. -/
def entrySpeed (c : GClass) : List Run → Rat
  | [] => 0
  | r :: rs => reachSpeed (min (entrySpeed c rs) r.cap) r.len r.cap c.dec c.jerk

/-- Times in µs, distances and speeds at the ends of the phases of a profile over some runs: in each, a ramp to its top speed, a
cruise and a ramp to the speed it is left with. -/
def runPoints (c : GClass) : List Run → Rat → Nat → Rat → List (Nat × Rat × Rat)
  | [], _, _, _ => []
  | r :: rs, v, t, s =>
    let e := min (min (r.cap : Rat) (entrySpeed c rs)) (max v (reachSpeed v r.len r.cap c.acc c.jerk))
    let p := max (max v e) ((maxSpeedBy (fun p => p ≤ max v e ∨ rampLen v p c.acc c.jerk + rampLen p e c.dec c.jerk ≤ r.len)
      34 0 (1024 * r.cap) : Rat) / 1024)
    let left := r.len - rampLen v p c.acc c.jerk - rampLen p e c.dec c.jerk
    let up := (rampPoints (p - v) (rampT v p c.acc c.jerk)).map (fun (q : Nat × Rat × Rat) =>
      (t + q.1, s + v * q.1 / 1000000 + q.2.1, v + q.2.2))
    let t1 := t + rampUs v p c.acc c.jerk
    let t2 := t1 + (if p = 0 ∨ left ≤ 0 then 0 else (left * 1000000 / p).ceil.toNat)
    let t3 := t2 + rampUs p e c.dec c.jerk
    let down := (rampPoints (p - e) (rampT p e c.dec c.jerk)).reverse.map (fun (q : Nat × Rat × Rat) =>
      (t3 - q.1, s + r.len - e * q.1 / 1000000 - q.2.1, e + q.2.2))
    (if v = p then [] else up) ++ (if p = e then [] else down) ++ [(t3, s + r.len, e)] ++ runPoints c rs e t3 (s + r.len)

/-- Runs taken together: those of one limit always, others or not, under the lower limit. -/
def groupings : List Run → List (List Run)
  | [] => [[]]
  | r :: rs => (groupings rs).flatMap (fun g => match g with
    | [] => [[r]]
    | h :: t =>
      if r.cap = h.cap then [⟨r.len + h.len, r.cap⟩ :: t] else [r :: h :: t, ⟨r.len + h.len, min r.cap h.cap⟩ :: t])

/-- Runs without their first `d`. -/
def dropLen : List Run → Rat → List Run
  | [], _ => []
  | r :: rs, d => if d < r.len then { r with len := r.len - d } :: rs else dropLen rs (d - r.len)

/-- The phases of the fastest profile over some runs from speed `v` and acceleration `a`, which first falls to 0 at JERK; none
where the end cannot be reached at rest. -/
def legPoints (c : GClass) (rs : List Run) (v a : Rat) : Option (List (Nat × Rat × Rat)) :=
  let t : Rat := ratAbs a / max c.jerk 1
  let w := max 0 (v + a * t / 2)
  let d := max 0 (v * t + a * t * t / 3)
  let us := (t * 1000000).ceil.toNat
  let cs := (groupings (dropLen rs d)).filterMap (fun g =>
    if w ≤ entrySpeed c g ∨ (w = 0 ∧ g = []) then some (runPoints c g w us d) else none)
  let last (p : List (Nat × Rat × Rat)) : Nat := (p.getLast?.map (·.1)).getD us
  (cs.foldl (fun b p => match b with
    | none => some p
    | some q => if last p < last q then some p else some q) none).map (fun p =>
      (0, 0, v) :: (if us = 0 then p else (us, d, w) :: p))

/-- Its knots, to the nearest tick, mm and mm/s, of those on one tick the last, with the path distance `s` at the first. -/
def legKnots (s : Int) (ps : List (Nat × Rat × Rat)) : List Knot :=
  (ps.foldl (fun (acc : List Knot) (q : Nat × Rat × Rat) =>
    let t : Int := ((q.1 + 5000) / 10000 : Nat)
    let k (t : Int) : Knot := ⟨t, s + (q.2.1 + 1 / 2).floor, (q.2.2 + 1 / 2).floor⟩
    match acc with
    | [] => [k t]
    | [a] => [k (max t (a.t + 1)), a]
    | b :: as => if t ≤ b.t then k b.t :: as else k t :: acc) []).reverse

/-! ### Routes (R401) -/

/-- Where a plan of a member may start at ASN `a`: an edge, the place along it, speed and acceleration. In motion, its state in
the table then in force; at rest, its place on its edge or, within TOL_POS of a node, the start of an edge from that node. -/
def State.starts (s : State) (m a : Nat) : List (GEdge × Int × Rat × Rat) :=
  let x := s.pm m
  let g := s.graph
  let tol : Int := (s.clsOf m).tolPos
  let rest (e : GEdge) (q : Int) : List (GEdge × Int × Rat × Rat) :=
    (e, q, 0, 0) :: ((if (e.len : Int) - q ≤ tol then g.edges.filter (·.src = e.dst) else []) ++
      (if q ≤ tol then g.edges.filter (fun y => y.src = e.src ∧ y.id ≠ e.id) else [])).map (fun y => (y, 0, 0, 0))
  match x.tabAt a with
  | some t =>
    let sv := t.atAsn a
    match alongPath g t.edges sv.1.floor with
    | some (e, q) =>
      if x.executing a then [(e, q, sv.2, knotsAcc (1 / 100) t.knots ((asnDiff t.asn a : Rat) / 4))] else rest e q
    | none => []
  | none => match g.edge? x.edge with
    | some e => rest e x.along
    | none => []

/-- The paths from an edge to a goal node that pass no node twice, over edges that admit class `k`. -/
def Graph.routes (g : Graph) (k goal : Nat) : Nat → GEdge → List Nat → List (List GEdge)
  | 0, _, _ => []
  | f + 1, e, seen =>
    if e.dst = goal then [[e]]
    else (g.edges.filter (fun y => y.src = e.dst ∧ y.classes.testBit k ∧ ¬ seen.contains y.dst)).flatMap (fun y =>
      (g.routes k goal f y (y.dst :: seen)).map (e :: ·))

/-- A path cut into legs at any of its nodes with WAIT. -/
def Graph.legs (g : Graph) : List GEdge → List (List (List GEdge))
  | [] => [[]]
  | [e] => [[[e]]]
  | e :: es => (g.legs es).flatMap (fun ls => match ls with
    | l :: ls => ((e :: l) :: ls) :: (if (g.node? e.dst).any (·.wait) then [[e] :: l :: ls] else [])
    | [] => [])

/-- A leg's knots from path distance `s` and distance `q` along its first edge; the path distance of its end. -/
def legOf (c : GClass) (es : List GEdge) (q s : Int) (v a : Rat) : Option (List Knot × Int) :=
  let len : Int := (es.map (fun e => (e.len : Int))).foldl (· + ·) 0 - q
  let rs := dropLen (es.map (fun e => ⟨e.len, edgeCap c e⟩)) q
  (legPoints c rs v a).map (fun p => (legKnots s p, s + len))

/-- The knots of each leg of a path, at rest between them. -/
def legsOf (c : GClass) : List (List GEdge) → Int → Int → Rat → Rat → Option (List (List Knot))
  | [], _, _, _, _ => some []
  | l :: ls, q, s, v, a =>
    match legOf c l q s v a with
    | none => none
    | some (k, s') => (legsOf c ls 0 s' 0 0).map (k :: ·)

/-! ### Departures and windows -/

/-- A timed path: its edges and knots from START. -/
structure Timed where
  edges : List Nat
  knots : List Knot
deriving DecidableEq, Repr

/-- The ticks by which a leg may be delayed until one of the windows it needs begins where another's ends. -/
def State.delays (s : State) (m : Nat) (ws : List Win) : List Int :=
  let g := s.graph
  let now := s.rtNow
  let others := (s.pgl.wins.map (Win.near now)).filter (·.member ≠ m)
  ((0 : Int) :: ws.flatMap (fun w => others.filterMap (fun x =>
    match x.stop with
    | some e =>
      let d := e - rtNear now w.start
      if g.meets x.edge w.edge ∧ 0 < d ∧ d ≤ 65535 then some d else none
    | none => none))).eraseDups

/-- Every timing of legs: each departs at once or, from rest, after one of those delays. -/
def State.timings (s : State) (m : Nat) (wins : List Knot → List Win) :
    List (List Knot) → Bool → List Knot → List (List Knot)
  | [], _, acc => [acc]
  | l :: ls, wait, acc =>
    let t0 := (acc.getLast?.map (·.t)).getD 0
    let shift (d : Int) : List Knot := l.map (fun k => { k with t := k.t + t0 + d })
    let go (d : Int) : List Knot :=
      if d = 0 then acc ++ (if acc = [] then shift 0 else (shift 0).drop 1)
      else (if acc = [] then l.take 1 else acc) ++ shift d
    (if wait then s.delays m (wins (go 0)) else [0]).flatMap (fun d => s.timings m wins ls true (go d))

/-- The table a timed path would be, whole. -/
def Timed.tab (x : Timed) (cls asn : Nat) : SegTab :=
  { seq := 256, flags := 0, cls := cls, asn := asn, edges := x.edges, knots := x.knots, task := 0 }

/-- Are the windows of a plan free of other members', on no edge an accepted swap changes, and within 65 535 ticks (R155,
R397, R399)? -/
def State.winsFree (s : State) (m : Nat) (ws : List Win) : Bool :=
  ws.all (fun w => s.clashes m w.edge w.start w.stop = [] && !s.edgeBarred w.edge &&
    (match w.stop with | some e => rtNear s.rtNow e ≤ s.rtNow + 65535 | none => true))

/-- Does no edge need a 33rd window, the member's own from START on set aside (R399, R401)? -/
def State.winsFit (s : State) (m : Nat) (start : Int) (ws : List Win) : Bool :=
  let now := s.rtNow
  let keep := (s.pgl.wins.map (Win.near now)).filter (fun (x : Win) =>
    x.member ≠ m || (match x.stop with | some e => e ≤ rtNear now start | none => false))
  ws.all (fun w => (mergeWins ((keep ++ ws.map (Win.near now)).filter (·.edge = w.edge))).length ≤ 32)

/-! ### The best path -/

/-- The ticks a member stays at a task stop before its last, once it is reached (R410). -/
def PMbr.dwellTicks (x : PMbr) : Option Int :=
  x.task.bind (fun t => if t.cur + 1 < t.stops.length then (t.stops[t.cur]?).map (fun p => ((p.2.1 + 9) / 10 : Nat)) else none)

/-- START_ASN of a request's plan: the earliest R406 allows, or its departure. -/
def State.planStart (s : State) (r : PReq) : Nat :=
  let dep : Int := rtNear s.rtNow r.dep
  if r.dep = 0 ∨ dep ≤ s.rtNow then s.startAsn
  else
    let d := (s.asn / 4 * 4 + 4 * (dep - s.rtNow).toNat) % 2 ^ 40
    if 0 < asnDiff s.startAsn d then d else s.startAsn

/-- The timed paths of a request whose windows are free. -/
def State.timedPaths (s : State) (r : PReq) : List Timed :=
  let g := s.graph
  let c := s.clsOf r.member
  let k := ((s.memberRec? r.member).map (·.cls)).getD 0
  let a := s.planStart r
  let dwell := (s.pm r.member).dwellTicks
  let goalOk : Bool := (g.node? r.goal).any (fun n => n.park || (dwell.isSome && n.wait))
  if !goalOk then []
  else (s.starts r.member a).flatMap (fun st =>
    if !st.1.classes.testBit k then []
    else (g.routes k r.goal (g.nodes.length + 1) st.1 [st.1.src, st.1.dst]).flatMap (fun es =>
      let ids := es.map (·.id)
      let wins (ks : List Knot) : List Win := s.tabWins r.member ((⟨ids, ks⟩ : Timed).tab k a) [] dwell
      (g.legs es).flatMap (fun ls =>
        match legsOf c ls st.2.1 st.2.1 st.2.2.1 st.2.2.2 with
        | none => []
        | some ks => ((s.timings r.member wins ks (decide (st.2.2.1 = (0 : Rat))) []).filter (fun q => s.winsFree r.member (wins q))).map
            (fun q => ⟨ids, q⟩))))

/-- Is a list of numbers lexicographically lower? -/
def lexLt : List Nat → List Nat → Bool
  | a :: as, b :: bs => a < b || (a = b && lexLt as bs)
  | [], _ :: _ => true
  | _, [] => false

/-- Arrival, in ticks from START, and length. -/
def Timed.arrive (x : Timed) : Int := (x.knots.getLast?.map (·.t)).getD 0
def Timed.len (x : Timed) : Int := (x.knots.getLast?.map (·.s)).getD 0 - (x.knots.head?.map (·.s)).getD 0

/-- Is a path before another in R401's order: earlier, shorter, of fewer edges, of lower EDGE_IDs? -/
def Timed.before (x y : Timed) : Bool :=
  x.arrive < y.arrive || (x.arrive = y.arrive && (x.len < y.len || (x.len = y.len &&
    (x.edges.length < y.edges.length || (x.edges.length = y.edges.length && lexLt x.edges y.edges)))))

/-- The best of the paths whose windows also fit, and whether the limit of 32 windows blocked one (R399, R401). -/
def State.search (s : State) (r : PReq) : Option Timed × Bool :=
  let k := ((s.memberRec? r.member).map (·.cls)).getD 0
  let a := s.planStart r
  let fits (x : Timed) : Bool :=
    s.winsFit r.member ((a / 4 : Nat)) (s.tabWins r.member (x.tab k a) [] (s.pm r.member).dwellTicks)
  let ps := s.timedPaths r
  ((ps.filter fits).foldl (fun b x => match b with
    | none => some x
    | some y => if x.before y then some x else some y) none, ps.any (fun x => !fits x))

end Sys2Proof.Machine
end

