-- ==== Sys2Proof/Machine/Planner.lean ====
section
/-! DEFINITION. Pergola's commands and work items (spec/12): intake, the planner, plans granted, stale positions,
ticks, tasks, releases. -/
namespace Sys2Proof.Machine

/-! ### Intake and take (R400) -/

/-- The request at the head of PLAN_REQ goes to the store; older requests of its member complete SUPERSEDED, and while
R415 is in force it completes FROZEN. -/
def State.planIntake (s : State) : State :=
  match s.pgl.queue with
    | [] => s
    | r :: q =>
      if ¬ s.pglOn ∨ 64 ≤ s.pgl.store.length then s
      else
        let s1 := s.updPgl (fun p => { p with queue := q ++ p.waitReq.take 1, waitReq := p.waitReq.drop 1 })
        if s.pglFrozen then (s1.endReq r St.FROZEN).incF F.PGL_CNT_FROZEN
        else
          let n := (s1.pgl.store.filter (·.member = r.member)).length
          ((s1.endStored r.member 0x83).incF F.PGL_CNT_SUPERSEDED n).updPgl (fun p => { p with store := p.store ++ [r] })

def execPlanRequestIntake (s : State) : Host.Outcome State Fault Refusal := .next s.planIntake

/-- Why a member cannot be planned for, if it cannot (R393, R395, R412). -/
def State.planBar (s : State) (m : Nat) : Option Nat :=
  let x := s.pm m
  if (s.mbr m).state ≠ Ms.ACTIVE ∨ x.offGraph then some 0x80
  else if x.held ∨ x.left then some 0x86
  else if x.posLost ∨ x.pos.isNone then some 0x84 else none

/-- The stored request of numerically lowest priority, the oldest first. -/
def State.nextReq (s : State) : Option PReq :=
  let m := s.pgl.store.foldl (fun m r => min m r.prio) 15
  s.pgl.store.find? (·.prio ≤ m)

/-- The planner takes a request, unless it is stalled with SEG full (R44); one whose goal is gone or whose member may not be planned for completes at once
(R393, R395, R417). -/
def execPlannerTake (s : State) : Host.Outcome State Fault Refusal :=
  .next (match s.nextReq with
    | none => s
    | some r =>
      if ¬ s.pglOn ∨ s.pglFrozen ∨ s.pgl.planning.isSome ∨ ¬ s.qRoom .seg then s
      else
        let s1 := s.updPgl (fun p => { p with store := p.store.erase r })
        match s1.planBar r.member with
        | some st => s1.endReq r st
        | none =>
          if (s.graph.node? r.goal).isNone then s1.endReq r 0x82
          else s1.updPgl (fun p => { p with planning := some r, takeFrc := s.now }))

/-! ### Is an outcome one R401 and R406 allow? -/

/-- Within 1 % (R408). -/
def within1 (x lim : Rat) : Bool := x ≤ lim * 101 / 100

/-- Do a table's edges exist, join, and admit class `k`? -/
def edgesOk (g : Graph) (k : Nat) : List Nat → Bool
  | [] => true
  | [e] => match g.edge? e with | some x => x.classes.testBit k | none => false
  | e :: f :: es =>
    (match g.edge? e, g.edge? f with
      | some x, some y => x.classes.testBit k && x.dst = y.src
      | _, _ => false) && edgesOk g k (f :: es)

/-- Is the acceleration continuous from piece to piece, from `a` before the first on, within 1 % of the limits on either side
(R402, R408)? -/
def accJoins (tol : Rat) : Rat → List Piece → Bool
  | a, p :: ps => ratAbs (p.acc 0 - a) ≤ tol && accJoins tol (p.acc 1) ps
  | a, [] => ratAbs a ≤ tol

/-- Do the knots keep R405 and R406 and the class limits of R402, from acceleration `a` on? -/
def knotsOk (c : GClass) (a : Rat) (ks : List Knot) : Bool :=
  accJoins ((max c.acc c.dec : Nat) * 2 / 100) a (piecesOf (1 / 100) ks) && ks.all (fun k => k.t < 65536 && k.s < 16777216) &&
  (ks.head?.map (·.t)) = some 0 && tIncreasing ks && (ks.getLast?.map (·.v)) = some 0 && 2 ≤ ks.length && ks.length ≤ 64 &&
    (piecesOf (1 / 100) ks).all (fun p =>
      p.s0 ≤ p.s1 ∧ 0 ≤ p.minVel ∧ within1 p.maxSpeed c.vmax ∧ within1 (ratAbs p.jerk) c.jerk ∧
        accOk (c.acc * 101 / 100) (c.dec * 101 / 100) (p.acc 0) p.v0 ∧
        accOk (c.acc * 101 / 100) (c.dec * 101 / 100) (p.acc 1) p.v1)

/-- At every tick, is the speed within the limits of the edge the reference point is on (R402)? -/
def edgeSpeedOk (g : Graph) (c : GClass) (t : SegTab) : Bool :=
  (List.range (t.endTick.toNat + 1)).all (fun (k : Nat) =>
    let sv := knotsAt (1 / 100) t.knots k
    match alongPath g t.edges sv.1.floor with
    | some (e, _) =>
      within1 sv.2 e.vmax && within1 (sv.2 * sv.2 * (e.curv.natAbs : Rat)) ((c.alat : Rat) * 100000000 * 101 / 100)
    | none => false)

/-- Does the table stop between its ends only at nodes with WAIT (R401)? -/
def waitsOk (g : Graph) (t : SegTab) : Bool :=
  (t.knots.drop 1).dropLast.all (fun k => k.v ≠ 0 ||
    (pathSpans g t.edges 0).any (fun p => p.2.2 = k.s &&
      (match (g.edge? p.1).bind (fun e => g.node? e.dst) with | some n => n.wait | none => false)))

/-- Does a first table begin where the member is at START: with its table in force, or where it stands (R401, R406)? -/
def State.startOk (s : State) (m : Nat) (t : SegTab) : Bool :=
  let x := s.pm m
  let tol : Int := (s.clsOf m).tolPos
  match t.knots.head? with
  | none => false
  | some k =>
    match alongPath s.graph t.edges k.s with
    | none => false
    | some (e, q) =>
      if x.executing t.asn then
        match x.tabAt t.asn with
        | some o =>
          let sv := o.atAsn t.asn
          match alongPath s.graph o.edges sv.1.floor with
          | some (e', q') => e.id = e'.id && (q - q').natAbs ≤ 1 && ratAbs (sv.2 - k.v) ≤ 1
          | none => false
        | none => false
      else k.v = 0 && (match x.pos with
        | some p => dist2 (s.graph.point e q) p ≤ 4 * tol * tol
        | none => false)

/-- The node a path ends at, with its last knot there. -/
def pathEnd (g : Graph) (t : SegTab) : Option GNode :=
  match (pathSpans g t.edges 0).getLast?, t.knots.getLast? with
  | some p, some k => if p.2.2 = k.s then (g.edge? p.1).bind (fun e => g.node? e.dst) else none
  | _, _ => none

/-- Does each table of a plan replace the one before it from its place and speed, before its final braking begins (R406)? -/
def chainOk (g : Graph) : List SegTab → Bool
  | t :: u :: ts =>
    let k : Int := asnDiff t.asn u.asn / 4
    let sv := t.atAsn u.asn
    0 < k && t.knots.any (fun n => k < n.t && sv.2 ≤ n.v) &&
      (match alongPath g t.edges sv.1.floor, u.knots.head?.bind (fun n => (alongPath g u.edges n.s).map (fun p => (p, n.v))) with
        | some (e, q), some ((e', q'), v) => e.id = e'.id && (q - q').natAbs ≤ 1 && ratAbs (sv.2 - v) ≤ 1
        | _, _ => false) && chainOk g (u :: ts)
  | _ => true

/-- The tables of a plan as they enter SEG: numbers, flags and starts filled in (R405, R406). -/
def State.fillTabs (s : State) (r : PReq) : List PlanTab → Nat → Nat → List SegTab
  | [], _, _ => []
  | p :: ps, q, i =>
    let x := s.pm r.member
    let a0 := s.planStart r
    { seq := q, flags := b2n (0 < i || x.executing a0) + 8 * b2n ps.isEmpty
      cls := ((s.memberRec? r.member).map (·.cls)).getD 0, asn := (a0 + 4 * p.off) % 2 ^ 40, edges := p.edges, knots := p.knots
      task := x.taskId } :: s.fillTabs r ps ((q + 1) % 256) (i + 1)

/-- The edges of the tables of one plan as one path. -/
def chainEdges (g : Graph) : List SegTab → List Nat
  | [] => []
  | [t] => t.edges
  | t :: u :: ts =>
    let q := (t.atAsn u.asn).1
    (((pathSpans g t.edges 0).takeWhile (fun p => (p.2.2 : Rat) < q)).map (·.1)) ++ chainEdges g (u :: ts)

/-- Are the tables the best path there is: its edges, and its arrival within 1 % and the rounding of the knots to ticks (log
entry 91)? -/
def isBest (g : Graph) (best : Option Timed) (ts : List SegTab) : Bool :=
  best.any (fun b => chainEdges g ts = b.edges &&
    100 * chainEnd ts ≤ 101 * b.arrive + 100 * ((ts.map (·.knots.length)).foldl (· + ·) 0 : Nat))

/-- Is the whole outcome allowed? -/
def State.planOk (s : State) (r : PReq) (best : Option Timed) (ts : List SegTab) : Bool :=
  let g := s.graph
  let c := s.clsOf r.member
  let k := ((s.memberRec? r.member).map (·.cls)).getD 0
  let x := s.pm r.member
  let before (t : SegTab) (prev : Option SegTab) : Rat := match prev with
    | some o => knotsAcc (1 / 100) o.knots ((asnDiff o.asn t.asn : Rat) / 4)
    | none => 0
  let inForce := (ts.head?.bind (fun t => if x.executing t.asn then x.tabAt t.asn else none))
  (ts.head?.map (fun t => t.asn = s.planStart r && s.startOk r.member t)).getD false &&
    (ts.zip (inForce :: ts.map some)).all (fun (t, o) => knotsOk c (before t o) t.knots) &&
    ts.all (fun t => t.edges ≠ [] && t.edges.length ≤ 32 && edgesOk g k t.edges &&
      edgeSpeedOk g c t && waitsOk g t && (s.mbrBand r.member = 1 || (s.tabBytes t).length ≤ 272)) &&
    (match (ts.getLast?).bind (pathEnd g) with
      | some n => n.id = r.goal && (n.park || (x.dwellTicks.isSome && n.wait))
      | none => false) &&
    chainOk g ts && isBest g best ts &&
    (let ws := (ts.zipIdx).flatMap (fun (t, i) => s.tabWins r.member t (ts.drop (i + 1)) x.dwellTicks)
     s.winsFree r.member ws && s.winsFit r.member ((s.planStart r / 4 : Nat)) ws)

/-! ### Plans granted (R401, R406, R410, R420) -/

/-- The task assignment message of port 0x02 (R410). -/
def taskMsg (t : PTask) : Bytes :=
  leBytes 4 t.id ++ [byte t.stops.length, byte t.cur, byte 0, byte 0] ++
    t.stops.flatMap (fun p => leBytes 2 p.1 ++ leBytes 2 p.2.1 ++ leBytes 2 p.2.2 ++ zeros 2)

/-- The assignment goes to the robot before its first table and again with each new CUR. -/
def State.sendTask (s : State) (m : Nat) : State :=
  match (s.pm m).task with
  | none => s
  | some t =>
    let b := s.mbrBand m
    if t.sent = some t.cur then s
    else (dataFrames b m 2 1 (taskMsg t) (fun _ => .none)).foldl (fun u f => u.dlPush b f)
      (s.updPm m (fun x => { x with task := some { t with sent := some t.cur } }))

/-- The result of the item a request served (R409, R420). -/
def planResult (r : PReq) (typ : Nat) (ts : List SegTab) (arrive : Nat) (len : Int) : Bytes :=
  if typ = W.PGL_ASSIGN then leBytes 4 r.member
  else
    let t := ts.head?
    [byte ((ts.map (·.edges.length)).sum), byte ts.length, byte ((t.map (·.seq)).getD 0), byte 0] ++
      leBytes 4 (((t.map (·.asn)).getD 0) / 4) ++ leBytes 4 arrive ++ leBytesI 4 len

/-- A plan granted. -/
def State.grantPlan (s : State) (r : PReq) (ts : List SegTab) : State :=
  let m := r.member
  let s2 := State.sendTabs m (s.pm m).dwellTicks ts ((s.closeParks m ts).sendTask m)
  let arrive := match ts.getLast? with
    | some t => ((t.asn / 4 + t.endTick.toNat) % 2 ^ 32)
    | none => 0
  let len := ((chainAt ts (chainEnd ts)).1 - ((ts.head?.bind (·.knots.head?)).map (·.s)).getD 0).floor
  let typ := ((r.wid.bind s.item?).map (·.typ)).getD 0
  (((s2.updPm m (fun x => { x with arrive := arrive })).incF F.PGL_CNT_PLANS).pglEvent 1 m
    ((ts.head?.map (·.seq)).getD 0) arrive).endReq r St.OK (planResult r typ ts arrive len)

/-- Can the table of a member in motion not go on: the member is off it, its path no longer admits the member, or other
members' windows meet its own (R403, log entry 24)? -/
def State.tableBroken (s : State) (r : PReq) : Bool :=
  let x := s.pm r.member
  let ts := (x.tabAt s.asn).toList ++ x.future s.asn
  (x.executing s.asn || x.future s.asn ≠ []) && (r.why = 0 ||
    ts.any (fun t => !edgesOk s.graph (((s.memberRec? r.member).map (·.cls)).getD 0) t.edges) ||
    (ts.zipIdx).any (fun (t, i) => (s.tabWins r.member t (ts.drop (i + 1)) none).any (fun w =>
      (match w.stop with | some e => s.rtNow < rtNear s.rtNow e | none => true) &&
        s.clashes r.member w.edge (max (rtNear s.rtNow w.start) s.rtNow) w.stop ≠ [])))

/-- A request ends without a path (R403). -/
def State.noPath (s : State) (r : PReq) (st : Nat) : State :=
  let s1 := (((s.incF F.PGL_CNT_NO_PATH).setF F.PGL_STAT_NO_PATH_SEEN 1).pglEvent 2 r.member st r.goal).endReq r st
  if s.tableBroken r then s1.stopTable r.member else s1

/-- The planner's µs on the request it works on. -/
def State.planUs (s : State) : Nat := (s.now - s.pgl.takeFrc) / 26

/-- The planner lets its request go, with its time in PGL_LAT_MAX. -/
def State.planEnd (s : State) : State :=
  (s.updPgl (fun p => { p with planning := none })).maxF F.PGL_LAT_MAX (min s.planUs 65535)

/-- The planner's outcome: tables, or none for NO_PATH, which there is where the search finds no path (R399, R401, R403). An
outcome after 2 ms, or one that R401 or R406 does not allow, changes nothing. -/
def execPlanDone (tabs : List PlanTab) (s : State) : Host.Outcome State Fault Refusal :=
  .next (match s.pgl.planning with
    | none => s
    | some r =>
      if ¬ s.pglOn ∨ s.pglFrozen ∨ 2000 < s.planUs then s
      else
        let q := s.search r
        let s1 := if q.2 then s.planEnd.setF F.PGL_STAT_EDGE_FULL_SEEN 1 else s.planEnd
        let ts := s.fillTabs r tabs (s.pm r.member).nextSeq 0
        if tabs = [] then (if q.1.isNone then s1.noPath r 0x81 else s)
        else if s.planOk r q.1 ts then s1.grantPlan r ts
        else s)

/-- The planner reaches 2 ms or its expansions (R403). -/
def execPlanExhausted (s : State) : Host.Outcome State Fault Refusal :=
  .next (match s.pgl.planning with
    | none => s
    | some r => if ¬ s.pglOn ∨ s.pglFrozen then s else s.planEnd.noPath r 0x85)

/-! ### Time (R395, R399, R410) -/

def execPosStaleExpiry (m : Nat) (s : State) : Host.Outcome State Fault Refusal :=
  .next (
    let x := s.pm m
    if s.pglOn ∧ (s.pm? m).isSome ∧ ¬ x.posLost ∧ x.executing s.asn ∧ s.since x.posFrc (1000 * (s.clsOf m).posStale) then
      let s1 := ((s.updPm m (fun x => { x with posLost := true })).setF F.PGL_STAT_POS_LOST_SEEN 1).pglEvent 4 m 1 0
      if s.pglFrozen then s1 else s1.stopTable m
    else s)

/-- A reservation tick: windows whose END has passed go, except while frozen (R399, R415). -/
def execRtTick (s : State) : Host.Outcome State Fault Refusal :=
  .next (if s.pglOn ∧ ¬ s.pglFrozen then
    s.dropWins (fun w => match w.stop with | some e => rtNear s.rtNow e ≤ s.rtNow | none => false) else s)

/-- A dwell ends: the next stop is planned, or the task is done (R410). -/
def execTaskDwellExpiry (m : Nat) (s : State) : Host.Outcome State Fault Refusal :=
  .next (match (s.pm m).task with
    | none => s
    | some t =>
      if ¬ s.pglOn ∨ s.pglFrozen ∨ t.suspended ∨
          ¬ t.dwell.any (fun f => s.since f (1000 * ((t.stops[t.cur]?).map (·.2.1)).getD 0)) then s
      else match t.stops[t.cur + 1]? with
        | some st =>
          let s1 := s.updPm m (fun x => { x with
            goal := some st.1, task := some { t with cur := t.cur + 1, dwell := none } })
          (s1.planPush {
            member := m, prio := ((s.memberRec? m).map (·.prio)).getD 0, goal := st.1, why := 10 }).incF F.PGL_CNT_REPLAN
        | none => (s.updPm m (fun x => { x with task := none })).pglEvent 10 m 0 t.id)

/-! ### Work items (R409, R420, R421) -/

/-- A request of an item enters PLAN_REQ, or waits for room in it (R44). -/
def State.pglQueue (s : State) (wid : Nat) (r : PReq) : State :=
  if s.qRoom .planReq ∧ s.pgl.waitReq = [] then
    ((s.updPgl (fun p => { p with queue := p.queue ++ [r] })).updItem wid (fun i => { i with prog := [] })).park wid
  else (s.updItem wid (fun i => { i with prog := [1] })).park wid

/-- PGL_PLAN (R420). -/
def State.pglPlan (s : State) (i : WItem) : State :=
  let m := bitsOf (i.arg 0) 0 8
  let goal := bitsOf (i.arg 1) 0 16
  if s.stopStands then (s.finish i.wid St.FROZEN).incF F.PGL_CNT_FROZEN
  else match s.planBar m with
    | some st => s.finish i.wid st
    | none =>
      match s.graph.node? goal with
      | none => s.finish i.wid 0x82
      | some n =>
        if !n.park then s.finish i.wid 0x82
        else
          let p := if (i.arg 0).testBit 12 then bitsOf (i.arg 0) 8 4 else ((s.memberRec? m).map (·.prio)).getD 0
          (s.updPm m (fun x => { x with goal := some goal, task := none })).pglQueue i.wid
            { member := m, prio := p, goal := goal, dep := i.arg 2, wid := some i.wid }

/-- Is an item at its start, or waiting for PLAN_REQ? -/
def WItem.fresh (i : WItem) : Bool := i.onCore || i.prog = [1]

/-- PGL_PLAN; with `pop` the intake takes a request in the cycle in which its request is pushed (R46). -/
def execPglPlan (wid : Nat) (pop : Bool) (s : State) : Host.Outcome State Fault Refusal :=
  .next (match s.active? wid W.PGL_PLAN with
    | some i => if i.fresh then s.pushPop .planReq pop (·.pglPlan i) State.planIntake else s
    | none => s)

/-- The stops of a PGL_ASSIGN payload. -/
def stopsOf (n : Nat) (b : Bytes) : List (Nat × Nat × Nat) :=
  (List.range n).map (fun k => (leAt b (8 * k) 2, leAt b (8 * k + 2) 2, leAt b (8 * k + 4) 2))

/-- May the member take a task as one of a group (R409)? One that R393 bars from planning, or without a position, may not (log entry 91). -/
def State.qualifies (s : State) (grp m : Nat) : Bool :=
  (s.memberRec? m).any (fun r => r.groups.testBit (grp - 0xF0)) && (s.planBar m).isNone && (s.pm m).task.isNone

/-- The member of a group with the earliest planned arrival at a node, the lower ID on a tie; one without a path comes after
those with one (R409). -/
def State.groupPick? (s : State) (grp goal : Nat) : Option Nat :=
  let ms := (s.memberRecs.map (·.id)).filter (s.qualifies grp)
  let arrival (m : Nat) : Option Int := (s.search { member := m, prio := 0, goal := goal }).1.map Timed.arrive
  ms.foldl (fun b m => match b with
    | none => some m
    | some n =>
      match arrival m, arrival n with
      | some p, some q => if p < q ∨ (p = q ∧ m < n) then some m else some n
      | some _, none => some m
      | none, some _ => some n
      | none, none => some (min m n)) none

/-- PGL_ASSIGN (R409); `again` is the member chosen already, of an item that waited for PLAN_REQ. -/
def State.pglAssign (s : State) (i : WItem) (again : Option Nat) : State :=
  let who := bitsOf (i.arg 0) 0 8
  let n := bitsOf (i.arg 0) 8 8
  let grp := 0xF0 ≤ who ∧ who < 0xFF
  let g := s.graph
  let stops := stopsOf n i.payload
  let goal := ((stops.head?).map (·.1)).getD 0
  let pick := if grp then again.or (s.groupPick? who goal) else some who
  let bad : Bool := stops.any (fun p => match g.node? p.1 with | some x => !(x.park || x.wait) | none => true)
  let endBad : Bool := match stops.getLast?.bind (fun p => g.node? p.1) with | some x => !x.park | none => true
  if n = 0 ∨ 8 < n ∨ i.payload.length ≠ 8 * n ∨ i.arg 1 = 0 then s.finish i.wid St.BAD_ARG
  else if s.stopStands then (s.finish i.wid St.FROZEN).incF F.PGL_CNT_FROZEN
  else if bad ∨ endBad then s.finish i.wid 0x82
  else match pick with
  | none => s.finish i.wid 0x87
  | some m =>
    match s.planBar m with
    | some st => s.finish i.wid st
    | none =>
      (s.updPm m (fun x => { x with goal := some goal, task := some { id := i.arg 1, stops := stops, wid := some i.wid } })).pglQueue
        i.wid { member := m, prio := ((s.memberRec? m).map (·.prio)).getD 0, goal := goal, wid := some i.wid }

def execPglAssign (wid : Nat) (pop : Bool) (s : State) : Host.Outcome State Fault Refusal :=
  .next (match s.active? wid W.PGL_ASSIGN with
    | some i => if i.fresh then s.pushPop .planReq pop (·.pglAssign i none) State.planIntake else s
    | none => s)

/-- A member's requests, in PLAN_REQ, in the store or being planned, complete with a status. -/
def State.cancelReqs (s : State) (m st : Nat) : State :=
  let mine (r : PReq) : Bool := r.member = m
  let p := s.pgl
  let rs := (p.queue ++ p.waitReq ++ p.store ++ p.planning.toList).filter mine
  rs.foldl (fun t r => t.endReq r st) (s.updPgl (fun p => { p with
    queue := p.queue.filter (fun r => !mine r), waitReq := p.waitReq.filter (fun r => !mine r)
    store := p.store.filter (fun r => !mine r), planning := if p.planning.any mine then none else p.planning }))

/-- The windows of a member beyond the span of its last table, a stop, released: on the edges of its path that the span does not
reach, and those that later tables of its path brought (R421). -/
def State.releaseBeyond (s : State) (m : Nat) (later : List Nat) : State :=
  match (s.pm m).tabs.getLast? with
  | none => s
  | some t =>
    let reach : Rat := (t.atAsn (t.asn + 4 * t.endTick.toNat)).1 + (s.cls t.cls).front
    let far := ((pathSpans s.graph t.edges 0).filter (fun p => reach < (p.2.1 : Rat))).map (·.1)
    s.dropWins (fun w => w.member = m && w.seq ≠ some t.seq && (far.contains w.edge ||
      (!t.edges.contains w.edge && w.seq.any later.contains)))

/-- PGL_RELEASE mode FUTURE (R421). -/
def State.releaseFuture (s : State) (wid m : Nat) : State :=
  if s.stopStands then s.finish wid St.FROZEN
  else if (s.mbr m).state ≠ Ms.ACTIVE then s.finish wid 0x88
  else
    let later := ((s.pm m).future s.startAsn).map (·.seq)
    let s1 := ((s.updPm m (fun x => { x with goal := none, task := none })).cancelReqs m 0x83).stopTable m
    (if (s1.pm m).tabs.length = (s.pm m).tabs.length then s1 else s1.releaseBeyond m later).finish wid St.OK

/-- PGL_RELEASE mode ALL (R421): the machine is out of the lanes, so a member that left is no longer handled under R414. -/
def State.releaseAll (s : State) (wid m : Nat) : State :=
  if s.stopStands then s.finish wid St.FROZEN
  else if (s.mbr m).state ≠ Ms.FREE ∧ ¬ (s.mbr m).silent then s.finish wid 0x88
  else ((s.dropWins (·.member = m)).updPm m (fun x => { x with left := false })).finish wid St.OK

/-- A running PGL_RELEASE: mode 0 by PGL_RELEASE_FUTURE, mode 1 by PGL_RELEASE_ALL, any other refused. -/
def execPglReleaseFuture (wid : Nat) (s : State) : Host.Outcome State Fault Refusal :=
  .next (match s.active? wid W.PGL_RELEASE with
    | some i =>
      if i.arg 1 = 0 then s.releaseFuture wid (bitsOf (i.arg 0) 0 8)
      else if i.arg 1 = 1 then s else s.finish wid St.BAD_ARG
    | none => s)

def execPglReleaseAll (wid : Nat) (s : State) : Host.Outcome State Fault Refusal :=
  .next (match s.active? wid W.PGL_RELEASE with
    | some i =>
      if i.arg 1 = 1 then s.releaseAll wid (bitsOf (i.arg 0) 0 8)
      else if i.arg 1 = 0 then s else s.finish wid St.BAD_ARG
    | none => s)

end Sys2Proof.Machine
end

