-- ==== Sys2Proof/Machine/Belvedere.lean ====
section
/-! DEFINITION. Belvedere (spec/08_belvedere_gnss.md): antennas, acquisition, channels, base epochs and records, the
time solution with its integrity checks, survey-in, and the BV work items. -/
namespace Sys2Proof.Machine

/-! ### Signals (R249, R250) -/

/-- System of each signal code. -/
def sigSys : List Nat := [0, 0, 0, 0, 2, 2, 2, 2, 3, 3, 3, 3, 3, 1, 1, 4, 4, 4, 4, 4, 5, 6]
/-- RF chain of each signal code: 0 L1, 1 L2, 2 L5, 3 E6. -/
def sigChain : List Nat := [0, 0, 1, 2, 0, 2, 2, 3, 0, 0, 2, 2, 3, 0, 1, 0, 0, 1, 2, 3, 2, 0]
/-- Primary code period of each signal code, ms. -/
def sigCode : List Nat := [1, 10, 20, 1, 4, 1, 1, 1, 1, 10, 1, 1, 1, 1, 1, 1, 10, 20, 1, 4, 1, 1]
/-- Chips in the primary code of each signal code: chip rate times period. -/
def sigChips : List Nat := [1023, 10230, 20460, 10230, 4092, 10230, 10230, 5115, 2046, 10230, 10230, 10230, 10230, 511, 511,
  1023, 10230, 20460, 10230, 20460, 1023, 1023]
/-- Carrier of each signal code in kHz; GLONASS at k = 0. -/
def sigCarrier : List Nat := [1575420, 1575420, 1227600, 1176450, 1575420, 1176450, 1207140, 1278750, 1561098, 1575420,
  1176450, 1207140, 1268520, 1602000, 1246000, 1575420, 1575420, 1227600, 1176450, 1278750, 1176450, 1575420]
/-- The signals with a pilot component. -/
def sigPilot (c : Nat) : Bool := [1, 2, 3, 4, 5, 6, 7, 9, 10, 16, 17, 18].contains c
/-- The first SVID of each system and their count (R250). -/
def sysSvids : List (Nat × Nat) := [(1, 32), (1, 24), (1, 36), (1, 63), (1, 10), (1, 14), (120, 39)]

/-- Is the SVID one of the system's? -/
def svidOk (sys svid : Nat) : Bool :=
  let r := sysSvids.getD sys (0, 0)
  r.1 ≤ svid && svid < r.1 + r.2

/-- Is it a signal code of the system, on a satellite the system has (R249, R250)? -/
def satSigOk (sys svid sig : Nat) : Bool := sigSys.getD sig 7 = sys && svidOk sys svid

/-- TAI less the time of a system, in ns (R251): 19 s, BeiDou 33 s, GLONASS TAI − UTC less 3 h. -/
def State.sysLag (s : State) (sys : Nat) : Int :=
  if sys = 3 then 33000000000
  else if sys = 1 then (s.getI F.SDL_UTC_TAI_UTC - 10800) * 1000000000
  else 19000000000

/-- The time of a system at a TB0 time in ns (R251). -/
def State.sysTime (s : State) (sys : Nat) (tb : Int) : Int := tb - s.sysLag sys

/-! ### State -/

def State.updBv (s : State) (f : Bv → Bv) : State := { s with bv := f s.bv }

/-- Belvedere answers: D6 is ON. -/
def State.bvOn (s : State) : Bool := s.domOn 6

def State.bvRole (s : State) : Nat := leAt (s.sec T.GNSS_TRK) 0 1
def State.elevMask (s : State) : Nat := leAt (s.sec T.GNSS_TRK) 1 1
def State.obsInterval (s : State) : Nat := leAt (s.sec T.GNSS_TRK) 2 2

/-- A channel as it stands now; a change of its state takes place at this FRC (R259). -/
def State.setChan (s : State) (x : BvChan) : State :=
  let y := if (s.chan? x.ch).any (fun o => o.state = x.state) then x else { x with since := s.now }
  s.updBv (fun b => { b with chans := b.chans.filter (·.ch ≠ x.ch) ++ [y] })

/-- A channel back in IDLE. -/
def State.idleChan (s : State) (c : Nat) : State := s.updBv (fun b => { b with chans := b.chans.filter (·.ch ≠ c) })

/-- A Belvedere event and its Visitor book record (R273, R280). -/
def State.bvEvent (s : State) (kind index value : Nat) : State :=
  let b := s.eventBytes 6 kind (index % 256) (index / 256) (value % 2 ^ 32)
  (s.observe Win.EVENTS_NS b).vbTrigger 0x20 b

/-- The RF chain a channel hears (R249). -/
def BvChan.chain (x : BvChan) : Nat := 4 * x.ant + sigChain.getD x.sig 0

/-- Is the channel's chain under test, its tracking suspended (R542)? -/
def State.suspended (s : State) (x : BvChan) : Bool := s.test.any (fun t => t.link = 7 && t.arg2 = x.chain)

/-! ### Antennas (R68, R69, R253) -/

def antState (a : Nat) : Fld := ⟨R.BV_ANT, 2 * a, 2⟩
def antMa (a : Nat) : Fld := ⟨R.BV_ANT, 16 + 8 * a, 8⟩

/-- An input's bias state: the flag of OPEN and SHORT, the event of a change (R68, R273). -/
def State.antSet (s : State) (a st ma : Nat) : State :=
  let s1 := (s.setF (antMa a) (min ma 255)).setF (antState a) st
  let s2 := if 2 ≤ st then s1.setF ⟨R.BV_ANT, 4 + 2 * a + (st - 2), 1⟩ 1 else s1
  let s3 := if 2 ≤ st ∧ s.getF (antState a) < 2 then s2.updBv (fun b => { b with antFrc := b.antFrc.set a s.now }) else s2
  if s.getF (antState a) = st then s3 else s3.bvEvent 1 (a + 1) st

/-- Is bias supplied to an input, in full or folded back? -/
def State.biasOn (s : State) (a : Nat) : Bool := s.domOn 4 && s.pads.antBias.getD a 0 ≠ 0

def State.setBias (s : State) (a v : Nat) : State := { s with pads := { s.pads with antBias := s.pads.antBias.set a v } }

def execAntBiasOpen (a ma : Nat) (s : State) : Host.Outcome State Fault Refusal :=
  .next (if a < 2 ∧ s.biasOn a ∧ ma < 2 then (s.antSet a 2 ma).setBias a (s.biasPlan a) else s)

def execAntBiasShort (a ma : Nat) (s : State) : Host.Outcome State Fault Refusal :=
  .next (if a < 2 ∧ s.biasOn a ∧ 120 < ma then
      let t := (s.antSet a 3 ma).setBias a 3
      { t with pads := { t.pads with biasFrc := t.pads.biasFrc.set a s.now } }
    else s)

def execAntBiasNormal (a ma : Nat) (s : State) : Host.Outcome State Fault Refusal :=
  .next (if a < 2 ∧ s.biasOn a ∧ 2 ≤ ma ∧ ma ≤ 120 then (s.antSet a 1 ma).setBias a (s.biasPlan a) else s)

/-- A shorted input tries full bias again, 1 s after it folded back (R68). -/
def execAntBiasRetry (a : Nat) (s : State) : Host.Outcome State Fault Refusal :=
  .next (if a < 2 ∧ s.biasOn a ∧ s.getF (antState a) = 3 ∧ s.since (s.pads.biasFrc.getD a 0) 1000000 then
      s.setBias a (s.biasPlan a)
    else s)

/-- A survey-in ends with a state, SURVEYED or FAILED unless it is aborted (R269, R278). -/
def State.endSurvey (s : State) (st : Nat) (abort : Bool := false) : State :=
  let s1 := (s.setF F.BV_STAT_SURVEY st).updBv (fun b => { b with survey := none })
  let s2 := if abort then s1 else s1.setF F.BV_STAT_SURVEY_DONE 1
  s2.bvEvent 5 0 (st + 256 * min (s.getF F.BV_SURVEY_SIGMA) (2 ^ 24 - 1))

/-- The active antenna changes: every channel moves, every entry of the next record carries SLIP, a survey-in fails (R253,
R270). -/
def State.switchAnt (s : State) (a : Nat) : State :=
  let s1 := (s.setF F.BV_STAT_ANT_ACTIVE a).setF F.BV_STAT_ANT_SWITCHED 1
  let s2 := s1.updBv (fun b => { b with switched := true, chans := b.chans.map (fun (x : BvChan) =>
    if x.ant = s.ant then { x with ant := a, slip := true } else x) })
  let s3 := if s.getF F.BV_STAT_SURVEY = 1 then s2.endSurvey 4 else s2
  s3.bvEvent 6 (a + 1) 0

/-- GNSS_ANT1 has reported OPEN or SHORT for 1 s (R253). -/
def execAntSwitch (s : State) : Host.Outcome State Fault Refusal :=
  .next (
    if s.bvOn ∧ s.bvRole = 1 ∧ s.ant = 0 ∧ 2 ≤ s.getF (antState 0) ∧ s.getF (antState 1) = 1 ∧
        (s.bv.pos.getD 1 none).isSome ∧ s.since (s.bv.antFrc.getD 0 0) 1000000 then s.switchAnt 1
    else s)

/-! ### Channels (R252, R256, R258) -/

/-- Is the antenna the MONITOR antenna? -/
def State.monitors (s : State) (ant : Nat) : Bool := s.bvRole = 2 && ant = 1

/-- Is an elevation known and at least ELEV_MASK? -/
def State.aboveMask (s : State) (elev : Nat) : Bool := elev ≠ 255 && s.elevMask ≤ elev

/-- A free channel for a signal code on an antenna, for a satellite at an elevation (255 unknown): on the MONITOR antenna
one of MON_CH; else one of the code's own, then, above the mask, one of the float pool (R252, R258). -/
def State.freeChan? (s : State) (ant n elev : Nat) : Option (Nat × Bool) :=
  let free (c : Nat) : Bool := (s.chan? c).isNone
  let span (o k : Nat) : Option Nat := ((List.range k).map (o + ·)).find? free
  if s.monitors ant then (span (s.ownBase 22) s.monCh).map (fun c => (c, false))
  else match span (s.ownBase n) (s.alloc n) with
    | some c => some (c, false)
    | none => if s.aboveMask elev then (span s.floatBase (320 - s.floatBase)).map (fun c => (c, true)) else none

/-- The channel of a satellite's signal on an antenna. -/
def State.onSat? (s : State) (ant sys svid sig : Nat) : Option BvChan :=
  s.bv.chans.find? (fun x => x.sys = sys ∧ x.svid = svid ∧ x.sig = sig ∧ x.ant = ant)

/-- A satellite's signal put on a free channel in a state; none free leaves things as they are. -/
def State.assign (s : State) (ant sys svid sig elev st : Nat) : State :=
  match s.freeChan? ant sig elev with
  | some (c, f) =>
    s.setChan { ch := c, state := st, ant := ant, sys := sys, svid := svid, sig := sig, float := f, elev := elev }
  | none => s

/-- The searches of a channel are pending no longer; one that runs serves nobody (R259). -/
def State.dropSearch (s : State) (c : Nat) : State :=
  (s.updBv (fun b => { b with
    searches := b.searches.filter (·.ch ≠ some c)
    running := b.running.map (fun r => if r.2.ch = some c then (r.1, { r.2 with ch := none }) else r) })).idleStart 5

/-- A satellite's signal starts in PULL_IN without a bank search: on its channel where that searches, or has lost a code that
no partition searches for; on a free channel where it has none (R256; log entry 25). -/
def State.handTo (s : State) (ant sys svid sig elev : Nat) : State :=
  match s.onSat? ant sys svid sig with
  | some x =>
    if x.state = Ch.SEARCH ∨ (x.state = Ch.LOST ∧ (s.partOf? sig).isNone) then
      (s.setChan { x with state := Ch.PULL_IN }).dropSearch x.ch
    else s
  | none => s.assign ant sys svid sig elev Ch.PULL_IN

/-- A satellite with one signal in PHASE_LOCK: its other signals with allocated channels (R256). -/
def State.handover (s : State) (x : BvChan) : State :=
  (List.range 22).foldl (fun t n =>
    if sigSys.getD n 7 = x.sys ∧ n ≠ x.sig ∧ 0 < t.alloc n then t.handTo x.ant x.sys x.svid n x.elev else t) s

/-- The handover for every satellite with a signal in PHASE_LOCK, in descending elevation (R256, R258). -/
def State.handoverAll (s : State) : State :=
  let locked := s.bv.chans.filter (·.state = Ch.PHASE_LOCK)
  let known := (List.range 91).reverse.flatMap (fun e => locked.filter (·.elev = e))
  (known ++ locked.filter (90 < ·.elev)).foldl State.handover s

/-- A channel goes to IDLE; a satellite that waits for one takes it. -/
def State.releaseChan (s : State) (c : Nat) : State := ((s.idleChan c).dropSearch c).handoverAll

/-! ### Searches (R254, R255, R257, R259) -/

/-- A field of a partition's record (R274). -/
def State.partF (s : State) (p o n : Nat) : Nat := leAt (s.sec T.GNSS_ACQ) (8 + 16 * p + o) n

/-- The antenna a partition searches on (R252, R274). -/
def State.partAnt (s : State) (p : Nat) : Nat := if s.bvRole = 2 ∧ s.partF p 1 1 = 1 then 1 else s.ant

/-- COH_MS and NONCOH of a search in a partition: its own, or the partition's. -/
def State.cohOf (s : State) (p : Nat) (q : BvSearch) : Nat := if q.coh = 0 then s.partF p 2 1 else q.coh
def State.noncohOf (s : State) (p : Nat) (q : BvSearch) : Nat := if q.noncoh = 0 then s.partF p 3 1 else q.noncoh

/-- Half the width of a search's Doppler window, Hz: AID_HZ when aided, the item's, or DOPP_SPAN. -/
def State.spanOf (s : State) (p : Nat) (q : BvSearch) : Nat :=
  if q.aided then leAt (s.sec T.GNSS_ACQ) 4 2 else if q.span = 0 then s.partF p 8 2 else q.span

/-- The half-chip bins of a search: the whole code, or AID_CHIPS to each side of the predicted phase. -/
def State.binsOf (s : State) (q : BvSearch) : Nat :=
  if q.aided then 4 * leAt (s.sec T.GNSS_ACQ) 2 1 else 2 * sigChips.getD q.sig 0

/-- The time of a search in a partition, in ms (R254), for every SVID of the system where it names none. -/
def State.searchMs (s : State) (p : Nat) (q : BvSearch) : Nat :=
  let coh := s.cohOf p q
  let dopp := ceilDiv (2 * s.spanOf p q * coh) 500
  let passes := ceilDiv (s.binsOf q * dopp) (1024 * max 1 (s.partF p 0 1))
  passes * coh * s.noncohOf p q * (if q.svid = 0 then (sysSvids.getD q.sys (0, 1)).2 else 1)

/-- A search queued; D5 powers up for it (R257). -/
def State.queueSearch (s : State) (q : BvSearch) : State :=
  (s.updBv (fun b => { b with searches := b.searches ++ [q] })).domEvent 5 .work

/-- The ephemeris held of a satellite. -/
def State.eph? (s : State) (sys svid : Nat) : Option Eph := s.bv.ephem.find? (fun e => e.sys = sys ∧ e.svid = svid)

/-- A satellite's elevation as a channel on it or a prediction tells it, 255 where neither does. -/
def State.elevOf (s : State) (sys svid : Nat) : Nat :=
  match s.bv.chans.find? (fun x => x.sys = sys ∧ x.svid = svid ∧ x.elev ≠ 255) with
  | some x => x.elev
  | none => ((s.bv.sky.find? (fun a => a.sys = sys ∧ a.svid = svid ∧ a.elev.isSome)).bind (·.elev)).getD 255

/-- The Doppler predicted for a signal, where one is told. -/
def State.predDoppler (s : State) (sys svid sig : Nat) : Option Int :=
  (s.bv.sky.find? (fun a => a.sys = sys ∧ a.svid = svid ∧ a.sig = sig)).bind (·.doppler)

/-- Predictions taken, each in place of the one before for its signal. -/
def State.noteSky (s : State) (l : List SkyAim) : State :=
  s.updBv (fun b => { b with
    sky := b.sky.filter (fun a => !l.any (fun x => x.sys = a.sys && x.svid = a.svid && x.sig = a.sig)) ++ l })

/-- Is a satellite's search aided: a valid time solution, and its ephemeris or almanac held (R255)? -/
def State.aids (s : State) (sys svid : Nat) : Bool :=
  s.flag F.BV_STAT_TIME_VALID && ((s.eph? sys svid).isSome || s.bv.alm.contains (sys, svid))

/-- A channel's satellite searched for: a search of a class in its partition; a code of none is acquired by handover only,
so there is nothing to search (R256, R257). -/
def State.searchFor (s : State) (cls : Nat) (x : BvChan) : Option BvSearch :=
  if (s.partOf? x.sig).isNone then none else some { cls := cls, sys := x.sys, svid := x.svid, sig := x.sig, ch := some x.ch }

/-- The class of a sky search: aided and, as far as is known, above the mask, or not (R257). -/
def State.skyCls (s : State) (sys svid : Nat) : Nat := if s.aids sys svid ∧ s.aboveMask (s.elevOf sys svid) then 3 else 4

/-- The class a pending search has now: a reacquisition's and an item's stand, a sky search's follows what is known of its
satellite. -/
def State.clsNow (s : State) (q : BvSearch) : Nat := if q.cls ≤ 2 then q.cls else s.skyCls q.sys q.svid

/-- The next pending search a partition can serve: by class, first in first out (R257). -/
def State.nextSearch (s : State) (p : Nat) : Option BvSearch :=
  let c := s.bv.searches.filter (fun q => s.partOf? q.sig = some p)
  [1, 2, 3, 4].findSome? (fun k => c.find? (fun q => s.clsNow q = k))

/-- The Doppler of a signal corrected by FREQ, Hz: the TCXO's error shifts it by that share of the carrier (R255;
log entry 25). -/
def State.freqShift (s : State) (sig : Nat) : Int := roundRat ((s.getI F.SDL_FREQ * sigCarrier.getD sig 0 : Int) / (65536000 : Rat))

/-- The centre of a search's Doppler window (R255): an item's own; else the predicted Doppler, or 0 where the search is not
aided, corrected by FREQ; an aided search whose prediction the model was not told has a window it leaves open (log entry 89). -/
def State.centreOf (s : State) (q : BvSearch) : Option Int :=
  if q.wid.isSome then q.centre
  else match s.predDoppler q.sys q.svid q.sig with
    | some d => some (d + s.freqShift q.sig)
    | none => if s.aids q.sys q.svid then none else some (s.freqShift q.sig)

/-- A search begins in a partition, aided or not and with its Doppler window as things stand now (R255). -/
def State.runSearch (s : State) (p : Nat) (q : BvSearch) : State :=
  let r := { q with cls := s.clsNow q, aided := q.wid.isNone && s.aids q.sys q.svid, centre := s.centreOf q, start := s.now }
  s.updBv (fun b => { b with running := b.running ++ [(p, r)] })

/-- May a satellite at an elevation take a float channel: none that waits for one on the antenna is predicted higher (R258)? -/
def State.floatTurn (s : State) (ant elev : Nat) : Bool :=
  !s.bv.sky.any (fun a => a.elev.any (fun e => elev < e && s.aboveMask e) && (s.partOf? a.sig).isSome &&
    (s.onSat? ant a.sys a.svid a.sig).isNone && (s.freeChan? ant a.sig 255).isNone)

/-- A sky search: the satellite's channel goes to SEARCH (R255, R257–R259). -/
def State.skySearch (s : State) (p : Nat) (aim : SkyAim) : State :=
  let a := s.partAnt p
  let elev := s.elevOf aim.sys aim.svid
  if s.partOf? aim.sig ≠ some p ∨ !satSigOk aim.sys aim.svid aim.sig ∨ (s.onSat? a aim.sys aim.svid aim.sig).isSome then s
  else match s.freeChan? a aim.sig elev with
    | none => s
    | some (c, float) =>
      if float ∧ ¬ s.floatTurn a elev then s
      else
        let s1 := s.assign a aim.sys aim.svid aim.sig elev Ch.SEARCH
        let q : BvSearch := { cls := 4, sys := aim.sys, svid := aim.svid, sig := aim.sig, ch := some c }
        if s.domOn 5 then s1.runSearch p q else s1.queueSearch q

/-- Partition `p` starts its next search; with none pending, a sky search for the satellite signal given, with what is
predicted of it. -/
def execSearchStart (p : Nat) (sky : Option SkyAim) (s : State) : Host.Outcome State Fault Refusal :=
  .next (
    if ¬ s.bvOn ∨ s.bv.running.any (·.1 = p) then s
    else match s.nextSearch p, sky with
      | some q, _ =>
        if s.domOn 5 then (s.updBv (fun b => { b with searches := b.searches.erase q })).runSearch p q
        else s.domEvent 5 .work
      | none, some aim => (s.noteSky [aim]).skySearch p aim
      | none, none => s)

/-- The result of a BV_SEARCH (R279). -/
def searchResult (ds : List Detection) : Bytes :=
  [byte ds.length, byte 0, byte 0, byte 0] ++
    ds.flatMap (fun d => [byte d.svid, byte d.peak] ++ leBytes 2 d.bin ++ leBytesI 2 d.doppler ++ zeros 2)

/-- Can a search detect this: the satellite searched, a peak over the noise by ACQ_THR, in its windows (R254, R255)? -/
def State.detects (s : State) (p : Nat) (q : BvSearch) (d : Detection) : Bool :=
  svidOk q.sys d.svid && (q.svid = 0 || d.svid = q.svid) && leAt (s.sec T.GNSS_ACQ) 1 1 < d.peak && d.bin < s.binsOf q &&
    (match q.centre with
    | some c => (d.doppler - c).natAbs ≤ s.spanOf p q
    | none => true)

/-- A satellite detected by a search without a channel of its own: PULL_IN on its channel if that searches, or on a free one
(R259, R279). -/
def State.detected (s : State) (ant sys svid sig : Nat) : State :=
  match s.onSat? ant sys svid sig with
  | some x => if x.state = Ch.SEARCH ∨ x.state = Ch.LOST then (s.setChan { x with state := Ch.PULL_IN }).dropSearch x.ch else s
  | none => s.assign ant sys svid sig (s.elevOf sys svid) Ch.PULL_IN

/-- A partition's search ends, its time past, with its detections (R254, R259, R279). -/
def execSearchDone (p : Nat) (ds : List Detection) (s : State) : Host.Outcome State Fault Refusal :=
  .next (match s.bv.running.find? (·.1 = p) with
    | none => s
    | some (_, q) =>
      if !ds.all (s.detects p q) ∨ !(ds.map (·.svid)).Nodup ∨ !s.since q.start (1000 * s.searchMs p q) then s
      else
        let s1 := ((s.updBv (fun b => { b with running := b.running.filter (·.1 ≠ p) })).incF F.BV_ACQ_STAT_DONE).idleStart 5
        match q.ch, q.wid with
        | some c, _ =>
          match s1.chan? c with
          | none => s1
          | some x =>
            if ds ≠ [] then s1.setChan { x with state := Ch.PULL_IN }
            else if x.state = Ch.LOST then s1.queueSearch q
            else (s1.idleChan c).handoverAll
        | none, some w =>
          (ds.foldl (fun t d => t.detected (s.partAnt p) q.sys d.svid q.sig) s1).finish w St.OK (searchResult ds)
        | none, none => s1)

/-- The first free satellite of a system for a signal, by SVID, put in SEARCH and queued; as often as the code has channels of
its own (R259; the order: log entry 25). -/
def State.skyFill (s : State) (p sig : Nat) : State :=
  let sys := sigSys.getD sig 7
  let r := sysSvids.getD sys (0, 0)
  (List.range r.2).foldl (fun t k =>
    let v := r.1 + k
    if ((List.range (t.alloc sig)).any (fun c => (t.chan? (t.ownBase sig + c)).isNone)) ∧
        (t.onSat? (t.partAnt p) sys v sig).isNone then
      let t1 := t.assign (t.partAnt p) sys v sig (t.elevOf sys v) Ch.SEARCH
      match t1.onSat? (t.partAnt p) sys v sig with
      | some x => (t1.searchFor 4 x).elim t1 t1.queueSearch
      | none => t1
    else t) s

/-- Acquisition starts (R126 step 10): the sky searches of every partition's signals are queued. -/
def State.skyStart (s : State) : State :=
  (List.range 22).foldl (fun t n => match t.partOf? n with
    | some p => if t.partAnt p = t.ant then t.skyFill p n else t
    | none => t) s

/-! ### A channel's state (R259, R260) -/

/-- A channel in a state moves, unless its tracking is suspended. -/
def State.chanIn (s : State) (c : Nat) (ok : BvChan → Bool) (k : BvChan → State) : State :=
  match s.chan? c with
  | some x => if s.bvOn && !s.suspended x && ok x then k x else s
  | none => s

def execChPullInLock (c : Nat) (s : State) : Host.Outcome State Fault Refusal :=
  .next (s.chanIn c (·.state = Ch.PULL_IN) (fun x => s.setChan { x with state := Ch.CODE_LOCK }))

/-- 1 s in PULL_IN without lock: SEARCH again; a code no partition searches for goes to IDLE (R256, R259; log entry 25). -/
def State.pullInLost (s : State) (x : BvChan) : State :=
  match s.searchFor 4 x with
  | some q => (s.setChan { x with state := Ch.SEARCH }).queueSearch q
  | none => s.idleChan x.ch

def execChPullInTimeout (c : Nat) (s : State) : Host.Outcome State Fault Refusal :=
  .next (s.chanIn c (fun x => x.state = Ch.PULL_IN && s.since x.since 1000000) s.pullInLost)

/-- PHASE_LOCK, and the satellite's other signals with allocated channels start in PULL_IN (R256, R259). -/
def execChPhaseLock (c : Nat) (s : State) : Host.Outcome State Fault Refusal :=
  .next (s.chanIn c (·.state = Ch.CODE_LOCK) (fun x =>
    (s.setChan { x with state := Ch.PHASE_LOCK, lockFrc := some s.now }).handover x))

/-- A slip counted, wrapping (R265). -/
def BvChan.slipped (x : BvChan) : BvChan := { x with slip := true, slips := (x.slips + 1) % 256 }

def execChPhaseSlip (c : Nat) (s : State) : Host.Outcome State Fault Refusal :=
  .next (s.chanIn c (·.state = Ch.PHASE_LOCK) (fun x =>
    s.setChan { x.slipped with state := Ch.CODE_LOCK, lockFrc := none }))

/-- A lock to a side peak on E1, L1C or B1C: the code is re-centred, SLIP set (R260). -/
def execChSidePeak (c : Nat) (s : State) : Host.Outcome State Fault Refusal :=
  .next (s.chanIn c (fun x => [1, 4, 9, 16].contains x.sig && (x.state = Ch.CODE_LOCK || x.state = Ch.PHASE_LOCK))
    (fun x => s.setChan x.slipped))

/-- A track lost: LOST, and a reacquisition is queued where a partition searches for the code (R257, R259). -/
def State.trackLost (s : State) (x : BvChan) : State :=
  let s1 := s.setChan { x with state := Ch.LOST, lockFrc := none }
  match s.searchFor 1 x with
  | some q => s1.queueSearch q
  | none => s1

/-- C/N0 below LOSS_CN0 for 1 s. -/
def execChLost (c : Nat) (s : State) : Host.Outcome State Fault Refusal :=
  .next (s.chanIn c (fun x => x.state = Ch.CODE_LOCK || x.state = Ch.PHASE_LOCK) s.trackLost)

/-- REACQ_S has passed in LOST (R259). -/
def execChReacqExpiry (c : Nat) (s : State) : Host.Outcome State Fault Refusal :=
  .next (s.chanIn c (fun x => x.state = Ch.LOST && s.since x.since (1000000 * leAt (s.sec T.GNSS_TRK) 10 1))
    (fun _ => s.releaseChan c))

/-- A float channel whose satellite has been below the mask for 60 s (R258). -/
def execFloatChRelease (c : Nat) (s : State) : Host.Outcome State Fault Refusal :=
  .next (s.chanIn c (fun x => x.float && x.elev < s.elevMask && x.lowFrc.any (fun f => s.since f 60000000))
    (fun _ => s.releaseChan c))

/-! ### Base epochs (R262–R265) -/

/-- Is the slot after ASN `a`, counted modulo 2^40 (R22), one with a UL_OBS cell? -/
def State.ulEpoch (s : State) (a : Nat) : Bool :=
  s.cells.any (fun c => c.role = Role.UL_OBS ∧ c.slot = (a + 1) % 2 ^ 40 % max s.slotL 1)

/-- Is a TB0 time in ns a UL_OBS epoch: a slot start one slot before a UL_OBS cell, while SLOT_RUN is set (R29, R262)? -/
def State.isUl (s : State) (tb : Nat) : Bool := tb % 2500000 = 0 && s.flag F.SDL_STAT_SLOT_RUN && s.ulEpoch (asnOf tb)

/-- Is it a whole multiple of OBS_INTERVAL? -/
def State.isMult (s : State) (tb : Nat) : Bool := s.obsInterval ≠ 0 && tb % (s.obsInterval * 1000000) = 0

/-- FLAGS of a base record, but for the UL_OBS bit (R264). -/
def State.baseFlags (s : State) : Nat :=
  s.getF F.BV_STAT_TIME_VALID + 2 * b2n (s.getF F.BV_STAT_SURVEY = 1) + 8 * b2n (s.getF F.SDL_STAT_STATE ≠ 2)

/-- TB0 comes to an epoch at `tb` ns, which is latched with what the record tells of it; a UL_OBS epoch that finds BASE full is
kept only for its other sinks (R44, R253, R262, R264). -/
def execBaseEpochLatch (tb : Nat) (s : State) : Host.Outcome State Fault Refusal :=
  .next (
    let ul := s.isUl tb
    let mult := s.isMult tb
    let full : Bool := s.domOn 7 && 16 ≤ s.bv.baseQ.length
    if ¬ s.bvOn ∨ ¬ (ul ∨ mult) ∨ ¬ s.comes 0 tb ∨ s.bv.lastTb = some tb then s
    else
      let s1 := s.xingPulse 5
      let s2 := if ul ∧ full then s1.setF F.BV_STAT_BASE_SKIP 1 else s1
      if full ∧ ¬ mult then s2.updBv (fun b => { b with lastTb := some tb })
      else s2.updBv (fun b => { b with
        lastTb := some tb
        latched := some {
          tb := tb, ul := ul, base := ul && s.domOn 7 && !full, multiple := mult, ant := s.ant
          flags := s.baseFlags + 4 * b2n ul, bias := (s.rd R.BV_CLK_BIAS).toNat, frc := s.now
          chans := if b.switched then b.chans.map (fun (x : BvChan) => { x with slip := true }) else b.chans }
        switched := false
        chans := b.chans.map (fun (x : BvChan) => { x with slip := false }) }))

/-- A step of TB0 from `t0` to `t1` ns: a forward one misses the epochs it passes over; the CLOCK check skips the evaluation in
which it falls (R262, R271). -/
def State.bvStepped (s : State) (t0 t1 : Nat) : State :=
  let i := s.obsInterval * 1000000
  let mult : Bool := i ≠ 0 && t0 / i < (t1 - 1) / i
  let n := min ((t1 - 1) / 2500000 - t0 / 2500000) (max s.slotL 1)
  let ul := (List.range n).any (fun k => s.isUl ((t0 / 2500000 + 1 + k) * 2500000))
  if !s.bvOn then s
  else
    let s1 := s.updBv (fun b => { b with lastBias := none, stepped := true })
    if t0 < t1 ∧ (mult ∨ ul) then s1.setF F.BV_STAT_EPOCH_MISSED 1 else s1

/-- Are observations in ascending order of system, SVID and signal (R264)? -/
def obsSorted : List BvObs → Bool
  | a :: b :: r =>
    (a.sys < b.sys || (a.sys = b.sys && (a.svid < b.svid || (a.svid = b.svid && a.sig < b.sig)))) && obsSorted (b :: r)
  | _ => true

/-- Is an observation one a signal can give: a signal and satellite of its system, k of GLONASS from −7 to +6 (R249)? -/
def BvObs.ok (o : BvObs) : Bool := satSigOk o.sys o.svid o.sig && (o.sys ≠ 1 || (-7 ≤ o.glo && o.glo ≤ 6))

/-- The channel that puts an observation into the record, if one does (R263), as it stood at the epoch. -/
def State.obsChan? (s : State) (e : BvLatch) (o : BvObs) : Option BvChan :=
  e.chans.find? (fun x => x.sys = o.sys ∧ x.svid = o.svid ∧ x.sig = o.sig ∧ x.ant = e.ant ∧
    (x.state = Ch.CODE_LOCK ∨ x.state = Ch.PHASE_LOCK) ∧ s.aboveMask x.elev ∧ !s.suspended x)

/-- The pseudorange of a signal at an epoch, in 2^-10 m: c times the time from its transmission to the epoch, in its system's
time (R251, R263). -/
def State.pseudorange (s : State) (tb : Nat) (o : BvObs) : Nat :=
  let fs : Int := s.sysTime o.sys tb * 1000000 - o.ttx
  (roundRat ((299792458 * 1024 * fs : Int) / (1000000000000000 : Rat))).toNat

/-- One signal entry (R265). -/
def State.obsEntry (s : State) (e : BvLatch) (o : BvObs) (x : BvChan) : Bytes :=
  let cp := x.state = Ch.PHASE_LOCK
  let lock := match x.lockFrc with
    | some f => min ((e.frc - f) / 26000) (2 ^ 24 - 1)
    | none => 0
  let flags := b2n cp + 2 * b2n o.half + 4 * b2n x.slip + 8 * b2n x.spoof + 16 * b2n x.interf +
    32 * b2n (o.pilot && sigPilot o.sig)
  [byte (o.sys + 16 * (if o.sys = 1 then (o.glo + 8).toNat else 0)), byte o.svid, byte o.sig, byte flags] ++
    leBytes 5 (s.pseudorange e.tb o) ++ leBytesI 6 o.cp ++ leBytesI 3 o.doppler ++ leBytes 2 o.cn0 ++ leBytes 3 lock ++
    [byte x.slips]

/-- Does a double difference rest on one of these signals? -/
def DD.on (d : DD) (rs : List SigId) : Bool := rs.contains d.sig || rs.contains { d.sig with svid := d.ref }

/-- The signals of a base record whose entries carry SLIP. -/
def BaseEpoch.slips (e : BaseEpoch) : List SigId :=
  (List.range (leAt e.body 2 2)).filterMap (fun k =>
    let o := 24 + 24 * k
    if (leAt e.body (o + 3) 1).testBit 2 then some ⟨bitsOf (leAt e.body o 1) 0 4, leAt e.body (o + 1) 1, leAt e.body (o + 2) 1⟩
    else none)

/-- Slips the base tells of: the search of a rover with an ambiguity on them is due, and its first record at or after the epoch
resets them (R294). -/
def Rover.baseSlips (v : Rover) (asn : Nat) (ids : List SigId) : Rover :=
  match v.flt with
  | some f =>
    let hit := f.keys.any (fun k => match k with | .amb d => d.on ids | _ => false)
    { v with slips := v.slips ++ ids.map (fun i => (i, asn)), search := v.search || hit }
  | none => v

/-- SOLVE takes the records of BASE into its base store of 16 epochs, each held until the deadline of its epoch, 35 ms
after it (R289). -/
def State.slvBase (s : State) : State :=
  if !s.domOn 7 then s
  else
    let keep := s.slv.store.filter (fun e => s.tbNs 0 ≤ e.tb + 35000000)
    let n := 16 - keep.length
    let take := s.bv.baseQ.take n
    let rov (v : Rover) : Rover := take.foldl (fun v e => v.baseSlips (asnOf e.tb) e.slips) v
    { s with
      slv := { s.slv with store := keep ++ take, rovers := s.slv.rovers.map rov }
      bv := { s.bv with baseQ := s.bv.baseQ.drop n } }

/-- The record of the latched epoch is complete: into BASE where it is a UL_OBS epoch with room, to RAW_OBS and the correction
builder (R262, R264). A slip not yet told in a record stays due. -/
def execBaseRecordComplete (obs : List BvObs) (s : State) : Host.Outcome State Fault Refusal :=
  .next (match s.bv.latched with
    | none => s
    | some e =>
      if !obsSorted obs ∨ !obs.all BvObs.ok then s
      else
        let es := obs.filterMap (fun o => (s.obsChan? e o).map (fun x => (s.obsEntry e o x, x.ch)))
        let body := [byte 1, byte (e.ant + 1)] ++ leBytes 2 es.length ++ leBytes 4 (nsField e.tb) ++
          leBytes 6 (secField e.tb) ++ leBytes 2 s.bv.seq ++ leBytes 4 e.bias ++
          [byte e.flags, byte 0, byte 0, byte 0] ++ es.flatMap (·.1)
        let r : BaseEpoch := { tb := e.tb, ul := e.ul, multiple := e.multiple, body := body }
        let due (x : BvChan) : Bool := !(es.map (·.2)).contains x.ch &&
          e.chans.any (fun y => y.ch = x.ch && y.svid = x.svid && y.sig = x.sig && y.slip)
        (s.updBv (fun b => { b with
          latched := none, seq := (b.seq + 1) % 65536
          baseQ := if e.base then b.baseQ ++ [r] else b.baseQ, rtcmIn := b.rtcmIn ++ [r]
          chans := b.chans.map (fun (x : BvChan) => { x with slip := x.slip || due x })
          })).observe Win.RAW_OBS body |>.slvBase |>.raiseTask 9)

/-! ### Integrity (R271–R273) -/

def State.integ (s : State) (o n : Nat) : Nat := leAt (s.sec T.GNSS_INTEG) o n
def State.checkEn (s : State) (b : Nat) : Bool := (s.integ 3 1).testBit b
def State.flagHold (s : State) : Nat := s.integ 26 2

/-- A channel after one evaluation: SPOOF's checks failing or all passing, INTERF's likewise (R272). An evaluation in which a
check did not run ends a run of failures or of passes (DESIGN CHOICE, log entry 77). -/
def BvChan.evalFlags (x : BvChan) (hold : Nat) (sf sp nf np : Bool) : BvChan :=
  let f (i : Nat) : Nat := x.fails.getD i 0
  let a := if sf then f 0 + 1 else 0
  let b := if nf then f 1 + 1 else 0
  let c := if sp ∧ ¬ sf then f 2 + 1 else 0
  let d := if np ∧ ¬ nf then f 3 + 1 else 0
  { x with
    fails := [a, b, c, d]
    spoof := if 2 ≤ a then true else if x.spoof ∧ hold ≤ c then false else x.spoof
    interf := if 2 ≤ b then true else if x.interf ∧ hold ≤ d then false else x.interf }

/-- A channel with new flags: an event where they changed (R273, R280). -/
def State.putFlags (s : State) (old new : BvChan) (checks : Nat) : State :=
  let s1 := s.setChan { new with excluded := new.spoof || new.interf || !s.aboveMask new.elev }
  if old.spoof = new.spoof ∧ old.interf = new.interf then s1
  else s1.bvEvent 2 new.ch (b2n new.spoof + 2 * b2n new.interf + 256 * checks + 65536 * new.svid + 2 ^ 24 * new.sig)

/-- Is the channel tracking, and above the mask? -/
def State.tracks (s : State) (x : BvChan) : Bool := (x.state = Ch.CODE_LOCK || x.state = Ch.PHASE_LOCK) &&
  s.aboveMask x.elev && !s.suspended x

/-- C/N0 less what CN0_EXP and CN0_OFS expect, in 2^-4 dB (R271, check 2). -/
def State.cn0Diff (s : State) (x : BvChan) : Int :=
  (x.cn0 : Int) - 16 * s.integ (32 + min (x.elev / 10) 9) 1 - 4 * leAtI (s.sec T.GNSS_INTEG) (42 + x.sig) 1

/-- The checks of one signal in a second (R271): which ran of RESID, CODECARR and CN0EL, which of them failed towards SPOOF,
and whether CN0EL failed towards INTERF. `jump` is the largest change of its satellite's geometry-free code minus carrier. -/
def State.sigChecks (s : State) (e : SigEval) (x : BvChan) (jump : Option Nat) : List Bool × List Bool × Bool :=
  let en (b : Nat) : Bool := s.checkEn b
  let beyond (v : Option Nat) (lim : Nat) : Bool := v.any (lim < ·)
  let cc := if x.state = Ch.PHASE_LOCK then e.ccRate else none
  let ran := [e.resid.isSome, cc.isSome, true]
  let fail := [en 0 && beyond e.resid (s.integ 4 2), en 1 && (beyond cc (s.integ 8 2) || beyond jump (s.integ 10 2)),
    en 2 && (8 * s.integ 12 1 : Int) < s.cn0Diff x]
  (ran, fail, en 2 && s.cn0Diff x < -(8 * s.integ 13 1 : Int))

/-- A mask of booleans, bit 0 first. -/
def boolMask (l : List Bool) : Nat := maskOf (fun i => l.getD i false)

/-- The largest change of the geometry-free code minus carrier over a satellite's signals in PHASE_LOCK, on two bands or more;
a flagged signal takes part in no other's check (R271, R273). -/
def State.satJump (s : State) (sigs : List SigEval) (x : BvChan) : Option Nat :=
  let same := s.bv.chans.filter (fun y => y.sys = x.sys ∧ y.svid = x.svid ∧ y.ant = x.ant ∧ y.state = Ch.PHASE_LOCK ∧
    (y.ch = x.ch ∨ ¬ (y.spoof || y.interf)))
  if ((same.map BvChan.chain).eraseDups).length < 2 then none
  else (sigs.filter (fun e => same.any (·.ch = e.ch))).foldl (fun m e => match m, e.gfJump with
    | some a, some b => some (max a b)
    | none, v => v
    | v, none => v) none

/-- One signal's evaluation of a second: its C/N0 and elevation, and above the mask its checks and flags (R258, R271, R272). -/
def State.evalSig (s : State) (sigs : List SigEval) (e : SigEval) : State :=
  match s.chan? e.ch with
  | none => s
  | some x0 =>
    let x := { x0 with
      cn0 := e.cn0, elev := e.elev
      lowFrc := if e.elev < s.elevMask then some (x0.lowFrc.getD s.now) else none }
    if !s.tracks x then s.setChan { x with excluded := x.spoof || x.interf || !s.aboveMask x.elev }
    else
      let r := s.sigChecks e x (s.satJump sigs x)
      let en (b : Nat) : Bool := s.checkEn b
      let sf := r.2.1.any id
      let allRan := [0, 1, 2].all (fun b => !en b || r.1.getD b false)
      let noisy := 100 ≤ s.bv.noiseMs.getD x.chain 0 && en 5
      s.putFlags x (x.evalFlags s.flagHold sf (allRan && !sf) r.2.2 (!r.2.2 && !noisy))
        (boolMask r.2.1 ||| 4 * b2n r.2.2 ||| 32 * b2n noisy)

/-- The signals tracked of a system, above the mask. -/
def State.sysChans (s : State) (y : Nat) : List BvChan := s.bv.chans.filter (fun x => x.sys = y ∧ s.tracks x)

/-- The registers and the event of a system's flags; `checks` are those that fail (R273, R280). -/
def State.putSys (s : State) (y : Nat) (newS newN : Bool) (checks : Nat) : State :=
  let fS : Fld := ⟨R.BV_SYS_FLAGS, y, 1⟩
  let fN : Fld := ⟨R.BV_SYS_FLAGS, 8 + y, 1⟩
  let s1 := (s.setF fS (b2n newS)).setF fN (b2n newN)
  let s2 := if newS then s1.setF ⟨R.BV_SYS_FLAGS, 16 + y, 1⟩ 1 else s1
  let s3 := if newN then s2.setF ⟨R.BV_SYS_FLAGS, 24 + y, 1⟩ 1 else s2
  let s4 := (s3.setF F.BV_STAT_SPOOF_ANY (b2n (s3.getF F.BV_SYS_FLAGS_SPOOF ≠ 0))).setF F.BV_STAT_INTERF_ANY
    (b2n (s3.getF F.BV_SYS_FLAGS_INTERF ≠ 0))
  if s.flag fS = newS ∧ s.flag fN = newN then s4
  else (s4.setF F.BV_STAT_INTEG_CHG 1).bvEvent 3 y (b2n newS + 2 * b2n newN + 256 * checks)

/-- Do more than half of a system's tracked signals carry INTERF (R272)? -/
def State.sysNoisy (s : State) (y : Nat) : Bool :=
  (s.sysChans y).length < 2 * ((s.sysChans y).filter (·.interf)).length

/-- A system's SPOOF and INTERF after a second's evaluation; `raised` are the system-level checks that fail, `checks` all that
fail on it (R272). -/
def State.evalSys (s : State) (y raised checks : Nat) : State :=
  let cs := s.sysChans y
  let sp := (cs.filter (·.spoof)).length
  let condS : Bool := raised ≠ 0 || 3 ≤ sp || (cs.length < 3 && 0 < cs.length && sp = cs.length)
  let condN := s.sysNoisy y
  let cntS := if condS then 0 else s.bv.sysPass.getD y 0 + 1
  let cntN := if condN then 0 else s.bv.sysPass.getD (7 + y) 0 + 1
  let newS := if condS then true else if s.flagHold ≤ cntS then false else s.flag ⟨R.BV_SYS_FLAGS, y, 1⟩
  let newN := if condN then true else if s.flagHold ≤ cntN then false else s.flag ⟨R.BV_SYS_FLAGS, 8 + y, 1⟩
  (s.updBv (fun b => { b with sysPass := (b.sysPass.set y cntS).set (7 + y) cntN })).putSys y newS newN checks

/-! ### Survey-in (R268, R269) -/

/-- The position in force for an antenna. -/
def State.setPos (s : State) (a : Nat) (p : Option (List Int)) : State :=
  s.updBv (fun b => { b with pos := b.pos.set a p })

/-- The square of sigma in (0.1 mm)², times the counts that make it whole: the sum of the sample variances, times
60 / max(T, 60). -/
def Survey.var (v : Survey) : Rat :=
  if v.t ≤ 1 then 0
  else
    let n : Rat := v.t
    (((v.sum.zip v.sq).map (fun p => ((p.2 : Rat) - (p.1 : Rat) * p.1 / n) / (n - 1))).foldl (· + ·) 0) * 60 / max n 60

/-- The least whole number whose square is at least `x`. -/
def ceilSqrt (x : Rat) : Nat :=
  let n := x.ceil.toNat
  if n.sqrt * n.sqrt < n then n.sqrt + 1 else n.sqrt

/-- sigma in mm, rounded up. -/
def Survey.sigma (v : Survey) : Nat := (ceilSqrt v.var + 9) / 10

/-- One second of a survey-in with a standalone position (R269). -/
def State.surveySecond (s : State) (p : List Int) : State :=
  match s.bv.survey with
  | none => s
  | some v =>
    let w := { v with
      t := v.t + 1, sum := v.sum.zipWith (· + ·) p, sq := v.sq.zipWith (· + ·) (p.map (fun x => x * x)) }
    let s1 := ((s.updBv (fun b => { b with survey := some w })).wr R.BV_SURVEY_TIME (word w.t)).wr R.BV_SURVEY_SIGMA
      (word (min w.sigma (2 ^ 32 - 1)))
    if w.minT ≤ w.t ∧ w.sigma ≤ w.acc then
      ((s1.setPos s.ant (some w.mean)).psRequest .survey (.survey s.ant w.mean)).endSurvey 2
    else if w.maxT ≤ w.t then s1.endSurvey 4 else s1

/-- A survey-in starts with its limits. -/
def State.startSurvey (s : State) (minT maxT acc : Nat) : State :=
  let b := s.getF F.BV_STAT_SURVEY
  (((s.updBv (fun x => { x with survey := some { minT := minT, maxT := maxT, acc := acc, before := b } })).setF
    F.BV_STAT_SURVEY 1).wr R.BV_SURVEY_TIME 0).wr R.BV_SURVEY_SIGMA 0

/-- The three coordinates of a section at an offset. -/
def xyz (b : Bytes) (o : Nat) : List Int := [leAtI b o 8, leAtI b (o + 8) 8, leAtI b (o + 16) 8]

/-- The positions and the SURVEY state of R268. Without coordinates in the section GNSS_ANT2's position is the one stored for it in
every MODE (DESIGN CHOICE, log entry 89). -/
def State.bvPlace (s : State) : State :=
  let b := s.sec T.BASE_POS
  let mode := leAt b 0 1
  let stored (a : Nat) : Option (List Int) := ((s.psImage.survey.getD []).find? (·.1 = a)).map (·.2)
  let p2 := if (leAt b 1 1).testBit 0 then some (xyz b 40) else stored 1
  if (s.sec? T.BASE_POS).isNone then s
  else if mode = 0 then ((s.setPos 0 (some (xyz b 16))).setPos 1 p2).setF F.BV_STAT_SURVEY 3
  else match mode, stored 0 with
    | 2, some p => ((s.setPos 0 (some p)).setPos 1 p2).setF F.BV_STAT_SURVEY 2
    | _, _ => (((s.setPos 0 none).setPos 1 p2).setF F.BV_STAT_SURVEY 0).startSurvey (leAt b 4 4) (leAt b 8 4) (leAt b 12 4)

/-- Belvedere at D6 reaching ON: its position, and acquisition begins (R126 step 10, R268). -/
def State.bvStart (s : State) : State := s.bvPlace.skyStart

/-! ### The second's solution (R266, R267, R271) -/

/-- Failing seconds in a row of an antenna's position check; a second with no data, or with no position SURVEYED or FIXED,
leaves them (R271). -/
def State.posCheck (s : State) (a : Nat) (fail : Option Bool) : State :=
  match (if s.surveyed then fail else none) with
  | some f => s.updBv (fun b => { b with posFails := b.posFails.set a (if f then b.posFails.getD a 0 + 1 else 0) })
  | none => s

/-- The square of the deviation of a position from a base position along the vertical there, and across it, in (0.1 mm)²; the
vertical is the normal of the WGS 84 ellipsoid (PRESUMED, log entry 78). -/
def posDev (base p : List Int) : Rat × Rat :=
  let up : List Rat := base.zipWith (fun (b : Int) k => (b : Rat) * k) [1, 1, 1 + 673949674227643 / 100000000000000000]
  let d : List Rat := p.zipWith (fun (x y : Int) => ((x - y : Int) : Rat)) base
  let dot (a b : List Rat) : Rat := (a.zipWith (· * ·) b).foldl (· + ·) 0
  let v := if dot up up = 0 then 0 else dot d up * dot d up / dot up up
  (v, dot d d - v)

/-- A standalone position, which takes as many satellites as it has unknowns: three and a clock for each system (DEDUCED, log
entry 89); the satellites are those of signals without a flag (R269, R273). -/
def standalone (sats : List (Nat × Nat)) (p : Option (List Int)) : Option (List Int) :=
  if 3 + ((sats.map (·.1)).eraseDups).length ≤ sats.length then p.filter (·.length = 3) else none

/-- Does a standalone position fail against an antenna's base position (R271, check 4)? None with no data. -/
def State.posFails (s : State) (a : Nat) (p : Option (List Int)) : Option Bool :=
  match s.bv.pos.getD a none, p with
  | some b, some q =>
    let r := posDev b q
    let lim (o : Nat) : Rat := ((1000 * s.integ o 2 : Nat) : Rat)
    some (lim 22 * lim 22 < r.1 || lim 20 * lim 20 < r.2)
  | _, _ => none

/-- A deviation in 0.1 m from its square in (0.1 mm)². -/
def devUnits (x : Rat) : Nat := min (ceilSqrt x / 1000) 65535

/-- Is the channel's signal used in an antenna's solution: tracked on it above the mask, its ephemeris held, without a flag
(R266)? -/
def State.inSolOf (s : State) (ant : Nat) (x : BvChan) : Bool :=
  s.tracks x && x.ant = ant && (s.eph? x.sys x.svid).isSome && !x.spoof && !x.interf

/-- Is it used in that of the active antenna? -/
def State.inSol (s : State) (x : BvChan) : Bool := s.inSolOf s.ant x

/-- The satellites of an antenna's solution. -/
def State.satsOf (s : State) (ant : Nat) : List (Nat × Nat) :=
  ((s.bv.chans.filter (s.inSolOf ant)).map (fun x => (x.sys, x.svid))).eraseDups

/-- The satellites of the solution. -/
def State.solSats (s : State) : List (Nat × Nat) := s.satsOf s.ant

/-- Has a system a satellite among these? -/
def hasSys (l : List (Nat × Nat)) (y : Nat) : Bool := l.any (·.1 = y)

/-- A system's RMS residual exceeds RESID_SYS, with at least 3 signals of it in use (R271, check 0). -/
def State.residSys (s : State) (r : TimeSol) (y : Nat) : Bool :=
  let use := r.sigs.filterMap (fun e => match s.chan? e.ch with
    | some x => if x.sys = y ∧ s.inSol x then e.resid else none
    | none => none)
  3 ≤ use.length && s.integ 6 2 * s.integ 6 2 * use.length < (use.map (fun v => v * v)).sum

/-- The spread of C/N0 over a system's unflagged signals is below CN0_FLAT, with at least CN0_FLAT_N satellites (R271,
check 2). -/
def State.cn0Flat (s : State) (r : TimeSol) (y : Nat) : Bool :=
  let xs := r.sigs.filterMap (fun e => (s.chan? e.ch).bind (fun x0 =>
    let x := { x0 with cn0 := e.cn0, elev := e.elev }
    if x.sys = y ∧ s.tracks x ∧ ¬ x.spoof ∧ ¬ x.interf then some x else none))
  let d : List Rat := xs.map (fun x => ((s.cn0Diff x : Int) : Rat))
  let n : Rat := d.length
  let sum := d.foldl (· + ·) 0
  let var := ((d.map (fun v => v * v)).foldl (· + ·) 0 - sum * sum / n) / n
  let lim : Rat := ((16 * s.integ 14 1 : Nat) : Rat) / 10
  s.integ 15 1 ≤ ((xs.map (·.svid)).eraseDups).length && d ≠ [] && var < lim * lim

/-- The CLOCK check, with TB0 LOCKED or HOLDOVER and no step of it since the second before (R271, check 3): the bias against that of the second before and SLEW_0, the
drift against what FREQ implies (log entry 78). -/
def State.clockFails (s : State) (r : TimeSol) : Bool :=
  let st := s.getF F.SDL_STAT_STATE
  let step := match s.bv.lastBias with
    | some b => ((10 * s.integ 16 2 : Nat) : Rat) < ratAbs (((r.bias - b : Int) : Rat) - (s.sdl.slew0 * 10000 : Int) / (65536 : Rat))
    | none => false
  let drift := ((100 * s.integ 18 2 : Nat) : Rat) <
    ratAbs (((r.drift : Int) : Rat) + (s.getI F.SDL_FREQ * 100000 : Int) / (65536 : Rat))
  (st = Tb.LOCKED || st = Tb.HOLDOVER) && !s.bv.stepped && (step || drift)

/-- Has an antenna's position failed in POS_TIME seconds in a row, with SURVEY SURVEYED or FIXED? -/
def State.posBad (s : State) (a : Nat) : Bool :=
  s.surveyed && s.integ 24 1 ≤ s.bv.posFails.getD a 0

/-- The system-level checks that raise SPOOF on a system in this second; `sats` are the satellites of the solution (R271). -/
def State.sysRaised (s : State) (r : TimeSol) (sats : List (Nat × Nat)) (y : Nat) : Nat :=
  let mon := s.bv.chans.any (fun x => x.sys = y ∧ s.tracks x ∧ s.monitors x.ant)
  let bit (b : Nat) (p : Bool) : Nat := if s.checkEn b ∧ p then 2 ^ b else 0
  bit 0 (s.residSys r y) + bit 2 (s.cn0Flat r y) + bit 3 (s.clockFails r && hasSys sats y) +
    bit 4 ((s.posBad 0 && hasSys sats y) || (s.posBad 1 && mon))

/-- The checks that fail on a signal of a system in this second. -/
def State.sigFailing (s : State) (r : TimeSol) (ok : BvChan → Bool) : Nat :=
  r.sigs.foldl (fun m e => match s.chan? e.ch with
    | some x0 =>
      let x := { x0 with cn0 := e.cn0, elev := e.elev }
      if ok x ∧ s.tracks x then
        let c := s.sigChecks e x (s.satJump r.sigs x)
        m ||| boolMask c.2.1 ||| 4 * b2n c.2.2
      else m
    | none => m) 0

/-- The chains whose noise has exceeded its limit for 100 ms (R271, check 5). -/
def State.noisyChain (s : State) (c : Nat) : Bool := s.checkEn 5 && 100 ≤ s.bv.noiseMs.getD c 0

/-- Is the solution TIME_VALID (R266)? -/
def State.solValid (s : State) (r : TimeSol) (sats : List (Nat × Nat)) (clock : Bool) : Bool :=
  let sysMask := bitsOf (s.integ 0 1) 0 6
  s.integ 2 1 ≤ (sats.filter (fun p => sysMask.testBit p.1)).length && r.tdop ≤ 600 &&
    (s.getF F.BV_SYS_FLAGS_SPOOF ||| s.getF F.BV_SYS_FLAGS_INTERF) &&& sysMask = 0 && !clock

/-- What navigation data gave this second (R224, R261): SDL_UTC, ephemerides and almanacs of satellites there are. -/
def State.navData (s : State) (r : TimeSol) : State :=
  let eph := r.eph.filter (fun e => svidOk e.sys e.svid && e.pos.length = 3 && e.vel.length = 3 && e.acc.length = 3)
  let alm (l : List (Nat × Nat)) : List (Nat × Nat) := l ++ (r.alm.filter (fun p => svidOk p.1 p.2 ∧ ¬ l.contains p)).eraseDups
  let s1 := (s.updBv (fun b => { b with
    ephem := eph.foldl (fun l e => l.filter (fun o => !(o.sys = e.sys && o.svid = e.svid)) ++ [e]) b.ephem
    alm := alm b.alm })).noteSky r.sky
  match r.utc with
  | some (off, pend, neg) => (((s1.setI F.SDL_UTC_TAI_UTC off).setF F.SDL_UTC_VALID 1).setF F.SDL_UTC_LEAP_PEND
      (b2n pend)).setF F.SDL_UTC_LEAP_NEG (b2n neg)
  | none => s1

/-- The system of TIME_REF. -/
def State.timeRef (s : State) : Nat := s.integ 1 1

/-- One system's offset from TIME_REF (R267): the estimate smoothed over 60 s while the solution has two of its satellites,
else the one broadcast, else none. That of TIME_REF's own system is 0. -/
def State.isbStep (s : State) (r : TimeSol) (sats : List (Nat × Nat)) (y : Nat) : State :=
  let own := y = s.timeRef
  let isb : Rat := if own then 0 else ((r.isb.getD y 0 : Int) : Rat)
  let est : Option Rat := if 2 ≤ (sats.filter (·.1 = y)).length then
      some (match s.bv.isbAvg.getD y none with
        | some a => if own then 0 else a + (isb - a) / 60
        | none => isb)
    else none
  let bc := if own then (r.bcast.getD y none).map (fun _ => 0) else r.bcast.getD y none
  let s1 := s.updBv (fun b => { b with isbAvg := b.isbAvg.set y est })
  let val : Int := match est, bc with
    | some a, _ => roundRat a
    | none, some v => v
    | none, none => 0
  ((s1.setI (F.BV_ISBs y) val).setF ⟨R.BV_ISB_VALID, y, 1⟩ (b2n (est.isSome || bc.isSome))).setF ⟨R.BV_ISB_VALID, 8 + y, 1⟩
    (b2n (est.isNone && bc.isSome))

/-- The registers of a second's solution. -/
def State.solShow (s : State) (r : TimeSol) (sats : List (Nat × Nat)) : State :=
  let dev := match s.bv.pos.getD s.ant none, standalone sats r.pos with
    | some b, some q => some (posDev b q)
    | _, _ => none
  let s1 := s.setF F.BV_STAT_NSV (min sats.length 255)
  let s2 := if sats = [] then s1 else (s1.setI F.BV_CLK_BIAS r.bias).setI F.BV_CLK_DRIFT r.drift
  let s3 := match dev with
    | some (v, h) => (s2.setF F.BV_POS_DEV_HORIZONTAL (devUnits h)).setF F.BV_POS_DEV_VERTICAL (devUnits v)
    | none => s2
  (List.range 7).foldl (fun t y => t.isbStep r sats y) s3

/-- TIME_VALID of the second, and its measurement for Sundial where it is valid (R266). -/
def State.solEnd (s : State) (r : TimeSol) (ok : Bool) : State :=
  let s1 := s.updBv (fun b => { b with meas := if ok then some (roundRat ((r.bias : Int) / (10 : Rat))) else none })
  if s1.flag F.BV_STAT_TIME_VALID = ok then s1
  else ((s1.setF F.BV_STAT_TIME_VALID (b2n ok)).setF F.BV_STAT_INTEG_CHG 1).bvEvent 4 0 (b2n ok)

/-- The position checks of a TB0 second, on the antenna in use and on ANT2 where its role is MONITOR (R271). -/
def State.posChecks (s : State) (r : TimeSol) (sats : List (Nat × Nat)) : State :=
  (s.posCheck 0 (s.posFails s.ant (standalone sats r.pos))).posCheck 1
    (if s.bvRole = 2 then s.posFails 1 (standalone (s.satsOf 1) r.monPos) else none)

/-- The checks that fail, and the flags of every signal and system after them (R271, R272). -/
def State.solFlags (s : State) (r : TimeSol) (sats : List (Nat × Nat)) : State :=
  let raised (y : Nat) : Nat := s.sysRaised r sats y
  let noisy (ok : BvChan → Bool) : Nat := 32 * b2n (s.bv.chans.any (fun x => ok x && s.noisyChain x.chain))
  let fails (y : Nat) : Nat := raised y ||| s.sigFailing r (·.sys = y) ||| noisy (·.sys = y)
  let fm := (List.range 7).foldl (fun m y => m ||| fails y) (32 * b2n ((List.range 8).any s.noisyChain))
  let s2 := (s.setF F.BV_CHECK_FAIL fm).setF F.BV_CHECK_FAIL_SEEN (s.getF F.BV_CHECK_FAIL_SEEN ||| fm)
  let s3 := r.sigs.foldl (fun t e => t.evalSig r.sigs e) s2
  (List.range 7).foldl (fun t y => t.evalSys y (raised y) (fails y)) s3

/-- The survey-in takes the second's standalone position where there is one (R269). -/
def State.surveyTake (s : State) (r : TimeSol) : State :=
  match standalone s.solSats r.pos with
  | some p => s.surveySecond p
  | none => s

/-- Each TB0 second: the navigation data, the checks, the flags, then validity, the survey-in, and the handovers that wait for a
channel (R256, R266–R273). -/
def execTimeSolution (r : TimeSol) (s : State) : Host.Outcome State Fault Refusal :=
  .next (
    if ¬ s.bvOn then s
    else
      let s0 := s.navData r
      let sats := s0.solSats
      let clock := s0.checkEn 3 && s0.clockFails r
      let s4 := (s0.posChecks r sats).solFlags r sats
      let s5 := (s4.solShow r sats).solEnd r (s4.solValid r sats clock)
      let s6 := s5.updBv (fun b => { b with lastBias := if sats = [] then none else some r.bias, stepped := false })
      (s6.surveyTake r).handoverAll)

/-- A signal of a chain whose noise fails, in one evaluation (R271 check 5, R272; its evaluations each count towards setting
INTERF, clearing counts seconds: DESIGN CHOICE, log entry 77). -/
def State.noiseSig (s : State) (x : BvChan) : State :=
  let b := x.fails.getD 1 0 + 1
  s.putFlags x { x with fails := (x.fails.set 1 b).set 3 0, interf := x.interf || 2 ≤ b } 32

/-- A system after a noise evaluation: its INTERF rises; its SPOOF is not evaluated. -/
def State.noiseSys (s : State) (y : Nat) : State :=
  if s.sysNoisy y then
    (s.updBv (fun b => { b with sysPass := b.sysPass.set (7 + y) 0 })).putSys y (s.flag ⟨R.BV_SYS_FLAGS, y, 1⟩) true 32
  else s

/-- Chain `c` measured `noise` above its floor, in 0.01 dB (R271, check 5). -/
def execNoiseCheck (c : Nat) (noise : Int) (s : State) : Host.Outcome State Fault Refusal :=
  .next (
    if ¬ s.domOn 4 ∨ ¬ s.bvOn ∨ 7 < c then s
    else
      let ms := if (50 * s.integ 25 1 : Nat) < noise then s.bv.noiseMs.getD c 0 + 10 else 0
      let s1 := (s.setI (F.BV_NOISEc c) noise).updBv (fun b => { b with noiseMs := b.noiseMs.set c ms })
      if s1.noisyChain c then
        let s2 := (s1.setBit F.BV_CHECK_FAIL 5).setBit F.BV_CHECK_FAIL_SEEN 5
        let cs := s2.bv.chans.filter (fun x => x.chain = c ∧ s2.tracks x)
        ((cs.map (·.sys)).eraseDups).foldl State.noiseSys (cs.foldl State.noiseSig s2)
      else s1)

/-! ### Work items (R278, R279) -/

/-- Does R270 hold modes 0, 1 and 3 back? -/
def State.fleetBars (s : State) : Bool := s.anyJoined && !s.stopStands

def State.surveyItem (s : State) (wid mode : Nat) (k : WItem → State) : State :=
  match s.active? wid W.BV_SURVEY with
  | some i =>
    if 3 < i.arg 0 then s.finish wid St.BAD_ARG
    else if i.arg 0 ≠ mode then s
    else if mode ≠ 2 ∧ s.fleetBars then s.finish wid 0x83
    else k i
  | none => s

/-- START. Limits outside the ranges of BASE_POS complete BAD_ARG (DESIGN CHOICE, log entry 79). -/
def execBvSurveyStart (wid : Nat) (s : State) : Host.Outcome State Fault Refusal :=
  .next (s.surveyItem wid 0 (fun i =>
    let b := s.sec T.BASE_POS
    let pick (n o : Nat) : Nat := if i.arg n = 0 then leAt b o 4 else i.arg n
    let lo := pick 1 4
    let hi := pick 2 8
    let acc := pick 3 12
    if s.getF F.BV_STAT_SURVEY = 1 then s.finish wid 0x80
    else if lo < 60 ∨ 86400 < lo ∨ hi < lo ∨ 604800 < hi ∨ acc < 5 ∨ 10000 < acc then s.finish wid St.BAD_ARG
    else ((s.startSurvey lo hi acc).bvEvent 5 0 1).finish wid St.OK))

def execBvSurveySet (wid : Nat) (s : State) : Host.Outcome State Fault Refusal :=
  .next (s.surveyItem wid 1 (fun i =>
    if s.getF F.BV_STAT_SURVEY = 1 then s.finish wid 0x80
    else if i.payload.length ≠ 24 then s.finish wid St.BAD_ARG
    else (((s.setPos s.ant (some (xyz i.payload 0))).setF F.BV_STAT_SURVEY 3).bvEvent 5 0 3).finish wid St.OK))

def execBvSurveyAbort (wid : Nat) (s : State) : Host.Outcome State Fault Refusal :=
  .next (s.surveyItem wid 2 (fun _ =>
    match s.bv.survey with
    | some v => (s.endSurvey v.before true).finish wid St.OK
    | none => s.finish wid St.OK))

def execBvSurveySelectAnt (wid : Nat) (s : State) : Host.Outcome State Fault Refusal :=
  .next (s.surveyItem wid 3 (fun i =>
    let a := i.arg 1 - 1
    if i.arg 1 = 0 ∨ 2 < i.arg 1 ∨ s.bvRole ≠ 1 then s.finish wid St.BAD_ARG
    else if (s.bv.pos.getD a none).isNone then s.finish wid 0x81
    else if s.getF (antState a) ≠ 1 then s.finish wid 0x82
    else if s.ant = a then s.finish wid St.OK
    else (s.switchAnt a).finish wid St.OK))

/-- Is a coherent time valid for a code (R254, R274)? 0 takes the partition's. -/
def cohOk (sig coh : Nat) : Bool := coh = 0 || ([1, 2, 4, 8, 10, 20].contains coh && sigCode.getD sig 21 ≤ coh)

/-- BV_SEARCH. A SVID or a signal code that is not of the system, and NONCOH above 64, complete BAD_ARG (DESIGN CHOICE, log
entry 79), as an invalid COH_MS does. -/
def execBvSearch (wid : Nat) (s : State) : Host.Outcome State Fault Refusal :=
  .next (match s.active? wid W.BV_SEARCH with
    | some i =>
      match i.phase with
      | .running _ =>
        let sys := bitsOf (i.arg 0) 0 3
        let sig := bitsOf (i.arg 0) 16 5
        let coh := bitsOf (i.arg 3) 0 8
        let svid := bitsOf (i.arg 0) 8 8
        if 21 < sig ∨ sigSys.getD sig 7 ≠ sys ∨ (svid ≠ 0 ∧ ¬ svidOk sys svid) ∨ ¬ cohOk sig coh ∨ 64 < bitsOf (i.arg 3) 8 8
        then s.finish wid St.BAD_ARG
        else if (s.partOf? sig).isNone then s.finish wid 0x84
        else (s.queueSearch {
          cls := 2, sys := sys, svid := svid, sig := sig, wid := some wid
          centre := some (BitVec.ofNat 32 (i.arg 1)).toInt, span := i.arg 2, coh := coh, noncoh := bitsOf (i.arg 3) 8 8 }).park wid
      | _ => s
    | none => s)

end Sys2Proof.Machine
end

