-- ==== Sys2Proof/Machine/Filter.lean ====
section
/-! DEFINITION. The solution of one rover record (spec/09_corrections_central_solve.md R283–R285, R287, R292–R297): the signals of
a record and of its base record, double differences, the float filter, the resets of ambiguities, the integer search. -/
namespace Sys2Proof.Machine

/-! ### Matrices, by rows -/

abbrev Vec := List Rat
abbrev Mat := List Vec

def Vec.at (v : Vec) (i : Nat) : Rat := v.getD i 0
def Mat.at (m : Mat) (i j : Nat) : Rat := Vec.at (m.getD i []) j
def vecDot (a b : Vec) : Rat := (a.zipWith (· * ·) b).foldl (· + ·) 0
def vecAdd (a b : Vec) : Vec := a.zipWith (· + ·) b
def vecSub (a b : Vec) : Vec := a.zipWith (· - ·) b
def matVec (m : Mat) (v : Vec) : Vec := m.map (vecDot · v)
def matAdd (a b : Mat) : Mat := a.zipWith vecAdd b
def matSub (a b : Mat) : Mat := a.zipWith vecSub b
/-- The transpose of a matrix of `n` columns. -/
def matT (n : Nat) (m : Mat) : Mat := (List.range n).map (fun j => m.map (Vec.at · j))
/-- The product with a matrix of `n` columns. -/
def matMul (n : Nat) (a b : Mat) : Mat := a.map (fun r => (matT n b).map (vecDot r))
/-- A diagonal matrix. -/
def matDiag (v : Vec) : Mat := (List.range v.length).map (fun i => (List.range v.length).map (fun j => if i = j then v.at i else 0))

/-- Column `i` cleared but for its pivot; a row without pivot becomes 0. -/
def pivot (i : Nat) (m : Mat) : Mat :=
  let p := m.at i i
  let r : Vec := (m.getD i []).map (fun x => if p = 0 then 0 else x / p)
  (List.range m.length).map (fun k => let q := m.getD k []; if k = i then r else q.zipWith (fun x y => x - q.at i * y) r)

/-- The solution X of S X = B, S symmetric and not negative. -/
def matSolve (s b : Mat) : Mat :=
  ((List.range s.length).foldl (fun m i => pivot i m) (s.zipWith (· ++ ·) b)).map (·.drop s.length)

/-! ### The filter (R293) -/

/-- The place of a state in the filter. -/
def Flt.idx (f : Flt) (k : FKey) : Nat := f.keys.findIdx (· = k)
def Flt.has (f : Flt) (k : FKey) : Bool := f.keys.contains k
def Flt.val (f : Flt) (k : FKey) : Rat := f.x.getD (f.idx k) 0
def Flt.cov (f : Flt) (k l : FKey) : Rat := Mat.at f.p (f.idx k) (f.idx l)

/-- A linear form of the states. -/
abbrev Form := List (FKey × Rat)

def Form.row (a : Form) (ks : List FKey) : Vec := ks.map (fun k => ((a.filter (·.1 = k)).map (·.2)).foldl (· + ·) 0)

/-- One measurement: a form of the states, its value, its place in the covariance of all. -/
structure Meas where
  form : Form
  z : Rat

/-- The measurement update with measurements of covariance `r`. -/
def Flt.update (f : Flt) (ms : List Meas) (r : Mat) : Flt :=
  let n := f.keys.length
  let h : Mat := ms.map (fun m => m.form.row f.keys)
  let hp := matMul n h f.p
  let g := matSolve (matAdd (matMul h.length hp (matT n h)) r) hp
  let nu := vecSub (ms.map (·.z)) (matVec h f.x)
  { f with x := vecAdd f.x (matVec (matT n g) nu), p := matSub f.p (matMul n (matT n hp) g) }

/-- States held at values. -/
def Flt.constrain (f : Flt) (fs : List (FKey × Rat)) : Flt :=
  let on := fs.filter (fun p => f.has p.1)
  f.update (on.map (fun p => ⟨[(p.1, 1)], p.2⟩)) (on.map (fun _ => on.map (fun _ => 0)))

/-- The filter over other states, each a form of the old ones, or new with a value and a variance. -/
def Flt.recombine (f : Flt) (ks : List FKey) (comb : FKey → Form) (new : FKey → Rat × Rat) : Flt :=
  let c : Mat := ks.map (fun k => Form.row (comb k) f.keys)
  let n := f.keys.length
  let isNew (k : FKey) : Bool := (comb k).isEmpty
  { f with
    keys := ks
    x := vecAdd (matVec c f.x) (ks.map (fun k => if isNew k then (new k).1 else 0))
    p := matAdd (matMul ks.length (matMul n c f.p) (matT n c)) (matDiag (ks.map (fun k => if isNew k then (new k).2 else 0))) }

/-- What the time update adds to a state's variance in a second. -/
def FKey.noise : FKey → Nat
  | .pos _ => Config.filterVar 3
  | .vel _ => Config.filterVar 4
  | .amb _ => 0
  | .iono _ => Config.filterVar 5

/-- The time update to a later epoch; STATIC holds the velocity at zero. -/
def Flt.advance (f : Flt) (asn : Nat) (static : Bool) : Flt :=
  let dt : Rat := (((asn + 2 ^ 40 - f.asn) % 2 ^ 40 : Nat) : Rat) / 400
  let t := f.recombine f.keys (fun k => match k with
    | .pos i => [(.pos i, 1), (.vel i, dt)]
    | _ => [(k, 1)]) (fun _ => (0, 0))
  let u := { t with p := matAdd t.p (matDiag (f.keys.map (fun k => (k.noise : Rat) * dt))), asn := asn }
  let still (k : FKey) : Bool := static && (match k with | .vel _ => true | _ => false)
  if !static then u
  else { u with
    x := (u.keys.zip u.x).map (fun p => if still p.1 then 0 else p.2)
    p := (u.keys.zip u.p).map (fun r => (u.keys.zip r.2).map (fun q => if still r.1 ∨ still q.1 then 0 else q.2)) }

/-- A filter at a point, with nothing known but that. -/
def Flt.start (pt : List Int) (asn : Nat) : Flt :=
  { keys := [.pos 0, .pos 1, .pos 2, .vel 0, .vel 1, .vel 2]
    x := pt.map (fun (v : Int) => (v : Rat)) ++ [0, 0, 0]
    p := matDiag ((List.replicate 3 (Config.filterVar 0 : Rat)) ++ List.replicate 3 (Config.filterVar 1 : Rat)), asn := asn }

/-! ### Observables (R263–R265, R283–R285) -/

def obsNsat (p : Bytes) : Nat := leAt p 1 1
def obsNsig (p : Bytes) : Nat := leAt p 2 1
def obsSat (p : Bytes) (i : Nat) : Nat := leAt p (8 + 4 * i) 4
def obsSig (p : Bytes) (j : Nat) : Nat := leAt p (8 + 4 * obsNsat p + 7 * j) 7
/-- FLAGS of the header: STATIC and CLK_JUMP. -/
def obsStatic (p : Bytes) : Bool := (leAt p 3 1).testBit 0
def obsClkJump (p : Bytes) : Bool := (leAt p 3 1).testBit 1
/-- LATCH_OFS in seconds. -/
def obsOfs (p : Bytes) : Rat := (leAtI p 6 2 : Rat) / 100000000

/-- A field of bits as a signed number. -/
def bitsI (x lo w : Nat) : Int := (BitVec.ofNat w (bitsOf x lo w)).toInt

/-- Light travels this many mm in a ms. -/
def lightMs : Rat := 299792458

/-- One side's observation of a signal: pseudorange and phase range in mm where given, C/N0 in 2^-4 dB-Hz, whether the phase can be
used, the LOCK or the lock time in ms, a slip, a flag of the base. -/
structure SigObs where
  id : SigId
  glo : Int
  pr : Option Rat
  cp : Option Rat
  cn0 : Nat
  lock : Nat
  slip : Bool
  flagged : Bool

/-- Wavelength of a signal in mm; GLONASS L1 and L2 by the frequency number (R249). -/
def wavelength (sig : Nat) (k : Int) : Rat :=
  let step : Rat := if sig = 13 then 1125 / 2 else if sig = 14 then 875 / 2 else 0
  299792458 / ((sigCarrier.getD sig 1575420 : Rat) + step * k)

/-- A rover's signal entry `j` (R284, R285). A phase without lock or with a half-cycle unresolved is not used. -/
def rovObs (p : Bytes) (j : Nat) : SigObs :=
  let g := obsSig p j
  let t := obsSat p (bitsOf g 0 4)
  let rough : Rat := (bitsOf t 13 19 : Rat) / 1024
  let lock := bitsOf g 45 4
  { id := ⟨bitsOf t 0 3, bitsOf t 3 6, bitsOf g 4 5⟩
    glo := (bitsOf t 9 4 : Int) - 8
    pr := if bitsI g 9 15 = -16384 then none else some ((rough + (bitsI g 9 15 : Rat) / 16777216) * lightMs)
    cp := if bitsI g 24 21 = -1048576 ∨ lock = 0 ∨ bitsOf g 49 1 = 0 then none
      else some ((rough + (bitsI g 24 21 : Rat) / 1073741824) * lightMs)
    cn0 := 16 * bitsOf g 50 6, lock := lock, slip := false, flagged := false }

/-- A base record's signal entry `k` (R265). -/
def baseObs (b : Bytes) (k : Nat) : SigObs :=
  let o := 24 + 24 * k
  let f := leAt b (o + 3) 1
  let glo : Int := (bitsOf (leAt b o 1) 4 4 : Int) - 8
  let sig := leAt b (o + 2) 1
  { id := ⟨bitsOf (leAt b o 1) 0 4, leAt b (o + 1) 1, sig⟩
    glo := glo
    pr := some ((leAt b (o + 4) 5 : Rat) * 1000 / 1024)
    cp := if f.testBit 0 ∧ f.testBit 1 then some ((leAtI b (o + 9) 6 : Rat) / 4096 * wavelength sig glo) else none
    cn0 := leAt b (o + 18) 2, lock := leAt b (o + 20) 3, slip := f.testBit 2, flagged := f.testBit 3 || f.testBit 4 }

def baseSigs (b : Bytes) : List SigObs := (List.range (leAt b 2 2)).map (baseObs b)
def rovSigs (p : Bytes) : List SigObs := (List.range (obsNsig p)).map (rovObs p)

/-! ### Where satellites stand (R281, R287, R292, R293) -/

/-- A square root to 2^-64. -/
def sqrtRat (x : Rat) : Rat := ((x * 4 ^ 64).floor.toNat.sqrt : Rat) / 2 ^ 64

/-- A vector of length 1. -/
def unitVec (v : Vec) : Vec := let n := sqrtRat (vecDot v v); v.map (fun x => if n = 0 then 0 else x / n)

def ratVec (v : List Int) : Vec := v.map (fun (x : Int) => (x : Rat))

/-- East, north and up at an earth-centred point. Up is the normal of the WGS 84 ellipsoid below it (PRESUMED, log entry 78). -/
def axesAt (q : Vec) : Mat :=
  let up := unitVec [q.at 0, q.at 1, q.at 2 * (1 + 673949674227643 / 100000000000000000)]
  let east := unitVec [-(q.at 1), q.at 0, 0]
  let north : Vec := [up.at 1 * east.at 2 - up.at 2 * east.at 1, up.at 2 * east.at 0 - up.at 0 * east.at 2,
    up.at 0 * east.at 1 - up.at 1 * east.at 0]
  [east, north, up]

/-- An earth-centred point in mm of the site frame whose origin is `o`, both in 0.1 mm (R281). -/
def siteOf (o p : List Int) : Vec :=
  matVec (axesAt (ratVec o)) (p.zipWith (fun (x y : Int) => ((x - y : Int) : Rat) / 10) o)

/-- The earth-centred point in mm of a point of the site frame whose origin is `o` in 0.1 mm. -/
def siteToEarth (o : List Int) (x : Vec) : Vec :=
  vecAdd ((ratVec o).map (· / 10)) (matVec (matT 3 (axesAt (ratVec o))) x)

/-- A position in whole mm. -/
def posMm (p : Vec) : List Int := p.map roundRat

/-- The sine of a whole number of degrees up to 90. -/
def sinDeg (n : Nat) : Rat :=
  let x : Rat := n * 3141592653589793 / 180000000000000000
  let q := x * x
  x * (1 - q / 6 * (1 - q / 20 * (1 - q / 42 * (1 - q / 72 * (1 - q / 110)))))

/-- A satellite's earth-fixed position in mm and velocity in mm/s at a TB0 time in ns, from its ephemeris. -/
def ephPos (e : Eph) (t : Rat) : Vec :=
  let dt := (t - e.tb) / 1000000000
  vecAdd (ratVec e.pos) (vecAdd ((ratVec e.vel).map (· * dt)) ((ratVec e.acc).map (· * (dt * dt / 2000))))
def ephVel (e : Eph) (t : Rat) : Vec :=
  vecAdd (ratVec e.vel) ((ratVec e.acc).map (· * ((t - e.tb) / 1000000000000)))

/-- Where a satellite stood that a point sees at a time, in the earth-fixed axes of that time: the signal's travel found in three
steps, the earth turned meanwhile (WGS 84's rate: PRESUMED, log entry 81). -/
def ephSeen (e : Eph) (p : Vec) (t : Rat) : Vec :=
  let at_ (tau : Rat) : Vec :=
    let x := ephPos e (t - tau * 1000000000)
    let w := tau * 72921151467 / 1000000000000000
    [x.at 0 + w * x.at 1, x.at 1 - w * x.at 0, x.at 2]
  let step (tau : Rat) : Rat := let d := vecSub (at_ tau) p; sqrtRat (vecDot d d) / (lightMs * 1000)
  at_ (step (step (step (3 / 40))))

/-- What a satellite's place gives a record (R287, R292, R293): the sines of its elevations at the base and at the rover; the unit
vector to it in the site frame; its range from the rover less that from the base with the troposphere, in mm; its range rate from
the rover in mm/s. -/
structure SatView where
  sinB : Rat
  sinR : Rat
  los : Vec
  pred : Rat
  rate : Rat

/-- The troposphere's delay at a point for the sine of an elevation, in mm. -/
def tropoMm (p : Vec) (sinE : Rat) : Rat := (Config.tropo (posMm p) (sinE * 1073741824).floor : Rat) / 1024

/-- A satellite from the base at `b` and the rover at `p`, earth-centred in mm, at a TB0 time, in the site frame with origin `o`. -/
def ephView (e : Eph) (o : List Int) (b p : Vec) (t : Rat) : SatView :=
  let db := vecSub (ephSeen e b t) b
  let dp := vecSub (ephSeen e p t) p
  let sinOf (q d : Vec) : Rat := vecDot (unitVec d) ((axesAt q).getD 2 [])
  let sinB := sinOf b db
  let sinR := sinOf p dp
  { sinB := sinB, sinR := sinR, los := matVec (axesAt (ratVec o)) (unitVec dp)
    pred := sqrtRat (vecDot dp dp) - sqrtRat (vecDot db db) + tropoMm p sinR - tropoMm b sinB
    rate := vecDot (unitVec dp) (ephVel e t) }

/-! ### Signals brought into the solution (R287, R293, R307) -/

/-- A signal in the solution: what the rover and the base observe, the rover's less the base's code and phase less the predicted
difference in mm, its satellite's place, and the variances of both. -/
structure Sd where
  rov : SigObs
  base : SigObs
  geo : SatView
  code : Option Rat
  phase : Option Rat
  varC : Rat
  varP : Rat

/-- 10^(n / 160), the root to twelve digits. -/
def tenthPow (n : Nat) : Rat := (1014495208069 / 1000000000000 : Rat) ^ n

/-- The variance of an undifferenced observation of a kind with `a` mm (R293). -/
def obsVar (a : Rat) (sinE : Rat) (cn0 : Nat) : Rat :=
  (a * a + (if sinE = 0 then 0 else a * a / (sinE * sinE))) * (if cn0 < 720 then tenthPow (720 - cn0) else 1)

/-- Does the base's side exclude a signal: its flags, or its system's (R307)? -/
def State.baseFlagged (s : State) (o : SigObs) : Bool :=
  o.flagged || s.bit F.BV_SYS_FLAGS_SPOOF o.id.sys || s.bit F.BV_SYS_FLAGS_INTERF o.id.sys

/-- A rover's observation differenced with the base's, the rover's corrected by `ofs` seconds of range rate. -/
def sdOf (r b : SigObs) (g : SatView) (ofs : Rat) : Sd :=
  let diff (x y : Option Rat) : Option Rat := match x, y with
    | some u, some v => some (u - ofs * g.rate - v - g.pred)
    | _, _ => none
  { rov := r, base := b, geo := g, code := diff r.pr b.pr, phase := diff r.cp b.cp
    varC := obsVar 300 g.sinR r.cn0 + obsVar 300 g.sinB b.cn0, varP := obsVar 3 g.sinR r.cn0 + obsVar 3 g.sinB b.cn0 }

/-- The places of the satellites whose ephemerides are held, about a rover at a point of the site frame in mm, for a base record:
none where the record's antenna has no position (DESIGN CHOICE, log entry 81). -/
def State.views (s : State) (e : BaseEpoch) (pt : List Int) : List (Nat × Nat × SatView) :=
  let o := xyz (s.sec T.SOLVE) 8
  match s.bv.pos.getD (leAt e.body 1 1 - 1) none with
  | some b => s.bv.ephem.map (fun x =>
      (x.sys, x.svid, ephView x o ((ratVec b).map (· / 10)) (siteToEarth o (ratVec pt)) (e.tb : Rat)))
  | none => []

/-- The signals a record brings into the solution: of both sides, with ephemeris, neither below MASK nor excluded, corrected for
LATCH_OFS and `clk` seconds of the rover's clock. -/
def State.sds (s : State) (p base : Bytes) (vs : List (Nat × Nat × SatView)) (clk : Rat) : List Sd :=
  let mask := sinDeg (leAt (s.sec T.SOLVE) 3 1)
  (rovSigs p).filterMap (fun o =>
    match (baseSigs base).find? (·.id = o.id), vs.find? (fun g => g.1 = o.id.sys ∧ g.2.1 = o.id.svid) with
    | some b, some (_, _, g) =>
      if s.baseFlagged b ∨ g.sinB < mask ∨ g.sinR < mask then none else some (sdOf o b g (obsOfs p + clk))
    | _, _ => none)

/-- The rover's clock error in seconds, from the code: the mean code difference (R287). -/
def clockErr (l : List Sd) : Rat :=
  let c := l.filterMap (·.code)
  if c = [] then 0 else c.foldl (· + ·) 0 / c.length / (lightMs * 1000)

/-- The same signals with the rover's clock error corrected. -/
def State.sdsOf (s : State) (p base : Bytes) (vs : List (Nat × Nat × SatView)) : List Sd :=
  s.sds p base vs (clockErr (s.sds p base vs 0))

/-- The satellites in the solution. -/
def sdSats (l : List Sd) : List (Nat × Nat) := (l.map (fun a => (a.rov.id.sys, a.rov.id.svid))).eraseDups

/-! ### Double differences (R293) -/

/-- A double difference with the observations of both satellites. -/
structure DdObs where
  dd : DD
  sat : Sd
  ref : Sd

/-- The reference of a signal code: its signal of highest elevation, the first of equals. -/
def refOf (l : List Sd) (sig : Nat) : Option Sd :=
  (l.filter (·.rov.id.sig = sig)).foldl (fun m a => match m with
    | some b => if b.geo.sinR < a.geo.sinR then some a else m
    | none => some a) none

def ddsOf (l : List Sd) : List DdObs :=
  l.filterMap (fun a => match refOf l a.rov.id.sig with
    | some b => if b.rov.id.svid = a.rov.id.svid then none else some ⟨⟨a.rov.id, b.rov.id.svid⟩, a, b⟩
    | none => none)

def DdObs.code (d : DdObs) : Option Rat := d.sat.code.bind (fun a => d.ref.code.map (a - ·))
def DdObs.phase (d : DdObs) : Option Rat := d.sat.phase.bind (fun a => d.ref.phase.map (a - ·))
def DdObs.wl (d : DdObs) : Rat := wavelength d.dd.sig.sig d.sat.rov.glo

/-- The rate of the double-differenced range with the rover's position, and what it is at the point of the geometry. -/
def DdObs.geo (d : DdObs) : Form :=
  [0, 1, 2].map (fun i => (.pos i, d.ref.geo.los.at i - d.sat.geo.los.at i))

def Form.atPt (a : Form) (pt : List Int) : Rat := vecDot (a.map (·.2)) (pt.map (fun (v : Int) => (v : Rat)))

/-- The measurement of a double difference's code or phase, with its ionospheric delay where that is estimated. -/
def DdObs.meas (d : DdObs) (pt : List Int) (iono phase : Bool) : Option Meas :=
  let g := d.geo
  let i : Form := if iono then [(.iono d.dd, if phase then -1 else 1)] else []
  if phase then d.phase.map (fun z => ⟨g ++ i ++ [(.amb d.dd, d.wl)], z + g.atPt pt⟩)
  else d.code.map (fun z => ⟨g ++ i, z + g.atPt pt⟩)

/-- The covariance of two double differences of one kind: the reference's variance between those of a signal code. -/
def ddCov (phase : Bool) (a b : DdObs) : Rat :=
  let v (x : Sd) : Rat := if phase then x.varP else x.varC
  (if a.dd = b.dd then v a.sat else 0) + (if a.dd.sig.sig = b.dd.sig.sig ∧ a.dd.ref = b.dd.ref then v a.ref else 0)

/-- The measurement update of a record: code, then phase. -/
def Flt.observe (f : Flt) (ds : List DdObs) (pt : List Int) (iono : Bool) : Flt :=
  let kind (f : Flt) (phase : Bool) : Flt :=
    let on := ds.filter (fun d => (if phase then d.phase else d.code).isSome)
    f.update (on.filterMap (fun d => d.meas pt iono phase)) (on.map (fun a => on.map (ddCov phase a)))
  kind (kind f false) true

/-- The phase residual of a double difference, in mm. -/
def Flt.resid (f : Flt) (pt : List Int) (iono : Bool) (d : DdObs) : Rat :=
  match d.meas pt iono true with
  | some m => ratAbs (m.z - vecDot (m.form.row f.keys) f.x)
  | none => 0

/-! ### Ambiguities (R294) -/

/-- The geometry-free phases of the satellites seen on two bands: the difference of two signals' phases, in mm. -/
def gfOf (l : List Sd) : List (SigId × SigId × Rat) :=
  l.flatMap (fun a => l.filterMap (fun b =>
    if a.rov.id.sys = b.rov.id.sys ∧ a.rov.id.svid = b.rov.id.svid ∧ a.rov.id.sig < b.rov.id.sig ∧
        sigChain.getD a.rov.id.sig 0 ≠ sigChain.getD b.rov.id.sig 0 then
      a.phase.bind (fun x => b.phase.map (fun y => (a.rov.id, b.rov.id, x - y)))
    else none))

/-- The signals whose ambiguities a record resets: those the rover's records or the base's have told of up to it, a jump of the
geometry-free phase over 5 cm. -/
def Rover.resets (v : Rover) (l : List Sd) (asn : Nat) : List SigId :=
  let gf := gfOf l
  let jump (i : SigId) : Bool := gf.any (fun g => (g.1 = i ∨ g.2.1 = i) ∧
    v.gf.any (fun h => h.1 = g.1 ∧ h.2.1 = g.2.1 ∧ 50 < ratAbs (g.2.2 - h.2.2)))
  (l.filter (fun a => a.base.slip || jump a.rov.id || v.slips.any (fun k => k.1 = a.rov.id && k.2 ≤ asn))).map (·.rov.id)

/-- A record of the rover heard, whatever becomes of it: a signal whose LOCK is 1 or less, or lower than in the record before, has
its ambiguity reset by the first solution at or after it (R294). -/
def Rover.heard (v : Rover) (p : Bytes) (asn : Nat) : Rover :=
  let sigs := rovSigs p
  let low := sigs.filter (fun a => a.lock ≤ 1 || v.locks.any (fun k => k.1 = a.id && a.lock < k.2))
  { v.baseSlips asn (low.map (·.id)) with locks := sigs.map (fun a => (a.id, a.lock)) }

/-- A double difference from those of the epoch before: itself, or over another reference; none where it is new or reset. -/
def DD.from (d : DD) (old : DD → Bool) (rs : List SigId) : List (DD × Int) :=
  if d.on rs then []
  else if old d then [(d, 1)]
  else
    let back : DD := ⟨{ d.sig with svid := d.ref }, d.sig.svid⟩
    if old back then [(back, -1)]
    else
      let via (r : Nat) : Bool := old ⟨d.sig, r⟩ && old ⟨{ d.sig with svid := d.ref }, r⟩
      match (List.range 64).find? via with
      | some r => [(⟨d.sig, r⟩, 1), (⟨{ d.sig with svid := d.ref }, r⟩, -1)]
      | none => []

/-- The fixed ambiguities over the double differences of a record. -/
def carryFixes (fs : List AmbFix) (ds : List DD) (rs : List SigId) : List AmbFix :=
  ds.filterMap (fun d =>
    match d.from (fun o => fs.any (·.dd = o)) rs with
    | [] => none
    | c =>
      let on := c.filterMap (fun q => (fs.find? (·.dd = q.1)).map (fun f => (f, q.2)))
      some { dd := d, int := (on.map (fun q => q.1.int * q.2)).sum, conf := (on.map (·.1.conf)).foldl min (2 ^ 32) })

/-- The filter over a record's double differences. A new ambiguity starts where phase and code agree; a new ionospheric delay
starts with its prior, 0.5 mm per km of baseline. -/
def Flt.carry (f : Flt) (ds : List DdObs) (rs : List SigId) (iono : Bool) (km : Rat) : Flt :=
  let ph := ds.filter (·.phase.isSome)
  let base := f.keys.filter (fun k => match k with | .pos _ => true | .vel _ => true | _ => false)
  let ks := base ++ ph.map (fun d => .amb d.dd) ++ (if iono then ds.map (fun d => .iono d.dd) else [])
  f.recombine ks
    (fun k => match k with
      | .amb d => (d.from (fun o => f.has (.amb o)) rs).map (fun q => (.amb q.1, (q.2 : Rat)))
      | .iono d => (d.from (fun o => f.has (.iono o)) []).map (fun q => (.iono q.1, (q.2 : Rat)))
      | _ => [(k, 1)])
    (fun k => match k with
      | .amb d => match ph.find? (·.dd = d) with
        | some o => ((o.phase.getD 0 - o.code.getD (o.phase.getD 0)) / o.wl, (Config.filterVar 2 : Rat))
        | none => (0, (Config.filterVar 2 : Rat))
      | .iono _ => (0, km * km / 4)
      | _ => (0, 0))

/-- The filter without some ambiguities' values: reset, they start again. -/
def Flt.dropAmbs (f : Flt) : Flt :=
  f.recombine (f.keys.filter (fun k => match k with | .amb _ => false | _ => true)) (fun k => [(k, 1)]) (fun _ => (0, 0))

/-! ### The integer search (R295, R296) -/

/-- Float ambiguities with their covariance under a unimodular change of variables, and the transpose of its inverse. -/
structure Decor where
  a : Vec
  q : Mat
  inv : Mat

/-- Row and column `i` less the nearest whole multiple of `j` that their covariance holds. -/
def Decor.reduce (d : Decor) (i j : Nat) : Decor :=
  let mu : Rat := if i = j ∨ d.q.at j j = 0 then 0 else roundRat (d.q.at i j / d.q.at j j)
  if mu = 0 then d
  else
    let sub (m : Mat) : Mat := m.set i (vecSub (m.getD i []) ((m.getD j []).map (· * mu)))
    let n := d.q.length
    { a := d.a.set i (d.a.at i - mu * d.a.at j)
      q := matT n (sub (matT n (sub d.q)))
      inv := d.inv.set j (vecAdd (d.inv.getD j []) ((d.inv.getD i []).map (· * mu))) }

/-- The ambiguities decorrelated by whole-numbered combinations, pair by pair, in as many rounds as there are of them. -/
def decorrelate (a : Vec) (q : Mat) : Decor :=
  let n := a.length
  (List.range n).foldl (fun d _ => (List.range n).foldl (fun d i => (List.range n).foldl (fun d j => d.reduce i j) d) d)
    ⟨a, q, matDiag (List.replicate n 1)⟩

/-- The inverse covariance as weights `w i` and factors: the squared norm is the sum of `w i` (z_i − c_i)², with c_i the float value
less the factors' share of the errors after it. -/
def choleskyRows (q : Mat) : List (Rat × Vec) :=
  let n := q.length
  let inv := matSolve q (matDiag (List.replicate n 1))
  ((List.range n).foldl (fun (r : List (Rat × Vec) × Mat) i =>
    let w := r.2.at i i
    let row : Vec := (r.2.getD i []).map (fun x => if w = 0 then 0 else x / w)
    (r.1 ++ [(w, row)], (List.range n).map (fun k => (List.range n).map (fun l =>
      if k ≤ i ∨ l ≤ i then r.2.at k l else r.2.at k l - w * row.at k * row.at l)))) ([], inv)).1

/-- The `k`-th whole number by its distance from `c`, 0 the nearest. -/
def nearest (c : Rat) (k : Nat) : Int :=
  let r := roundRat c
  let up : Int := if k % 2 = 1 then ((k + 1) / 2 : Nat) else -((k / 2 : Nat) : Int)
  if (r : Rat) ≤ c then r + up else r - up

/-- A place of the search: the ambiguity it settles, the values of those after it, their squared norm, the centre of this one, how
many of its values have been tried. -/
structure Place where
  i : Nat
  zs : List Int
  n : Rat
  c : Rat
  k : Nat

/-- The search under way: its places, deepest first, the two best vectors with their norms, the candidates weighed. -/
structure Hunt where
  stack : List Place
  best : List (Rat × List Int)
  count : Nat

/-- The centre of ambiguity `i` with those after it at `zs`. -/
def centreAt (a : Vec) (rows : List (Rat × Vec)) (i : Nat) (zs : List Int) : Rat :=
  let row := ((rows.getD i (0, [])).2).drop (i + 1)
  a.at i - vecDot row (vecSub (ratVec zs) (a.drop (i + 1)))

/-- A candidate put among the two best. -/
def putBest (b : List (Rat × List Int)) (x : Rat × List Int) : List (Rat × List Int) :=
  match b with
  | [] => [x]
  | y :: r => if x.1 < y.1 then [x, y] else [y, match r.head? with
    | some z => if x.1 < z.1 then x else z
    | none => x]

/-- One step, depth first: a value beyond the second best ends its place, a last one is a candidate, of which there are at most
16 384 (R296). -/
def Hunt.step (h : Hunt) (a : Vec) (rows : List (Rat × Vec)) : Hunt :=
  match h.stack with
  | [] => h
  | p :: rest =>
    let z := nearest p.c p.k
    let n := p.n + (rows.getD p.i (0, [])).1 * ((z : Rat) - p.c) * ((z : Rat) - p.c)
    if 16384 ≤ h.count then { h with stack := [] }
    else if 2 ≤ h.best.length ∧ h.best.all (·.1 ≤ n) then { h with stack := rest }
    else
      let zs := z :: p.zs
      let on := { p with k := p.k + 1 } :: rest
      if p.i = 0 then { stack := on, best := putBest h.best (n, zs), count := h.count + 1 }
      else { h with stack := ⟨p.i - 1, zs, n, centreAt a rows (p.i - 1) zs, 0⟩ :: on }

def huntOn (a : Vec) (rows : List (Rat × Vec)) : Nat → Hunt → Hunt
  | 0, h => h
  | k + 1, h => if h.stack.isEmpty then h else huntOn a rows k (h.step a rows)

/-- The best and the second-best integer vectors of some ambiguities, with their squared norms in the metric of the float
covariance (R296). The steps besides candidates are bounded too, by 64 for each that may be weighed (DESIGN CHOICE, log
entry 81). -/
def Flt.best2 (f : Flt) (as : List DD) : Option ((Rat × List Int) × Rat) :=
  let d := decorrelate (as.map (fun x => f.val (.amb x))) (as.map (fun x => as.map (fun y => f.cov (.amb x) (.amb y))))
  let n := as.length
  let rows := choleskyRows d.q
  let h := huntOn d.a rows (16384 * 64) ⟨[⟨n - 1, [], 0, d.a.at (n - 1), 0⟩], [], 0⟩
  let back (z : List Int) : List Int := (matVec (matT n d.inv) (ratVec z)).map roundRat
  match h.best with
  | [x, y] => some ((x.1, back x.2), y.1)
  | _ => none

/-- A search over ambiguities: its ratio in 0.1, saturating, and its best vector where the ratio is `lim` or more. -/
def Flt.searchOver (f : Flt) (as : List DD) (lim : Nat) : Option (Nat × Option (List Int)) :=
  if as = [] then none
  else (f.best2 as).map (fun r =>
    let ratio := if r.1.1 ≤ 0 then 255 else min (10 * r.2 / r.1.1).floor.toNat 255
    (ratio, if (lim : Rat) * r.1.1 ≤ 10 * r.2 then some r.1.2 else none))

/-! ### A record's signals (R292) -/

/-- The base antenna in the site frame: the antenna of a base record. -/
def State.baseAt (s : State) (base : Bytes) : Option Vec :=
  (s.bv.pos.getD (leAt base 1 1 - 1) none).map (siteOf (xyz (s.sec T.SOLVE) 8))

def Flt.posOf (f : Flt) : Vec := [0, 1, 2].map (fun i => f.val (.pos i))

/-- The point of the site frame in mm about which a record is solved: where the rover's filter expects it, else the base antenna
(DESIGN CHOICE, log entry 81). -/
def State.ptOf (s : State) (v : Rover) (x : ObsRec) (base : Bytes) : List Int :=
  match v.flt with
  | some f => posMm (f.advance x.asn (obsStatic x.payload)).posOf
  | none => posMm ((s.baseAt base).getD [0, 0, 0])

/-- The signals a record brings into the solution, with its base record. -/
def State.recSds (s : State) (x : ObsRec) (e : Option BaseEpoch) : List Sd :=
  match e with
  | some b => s.sdsOf x.payload b.body (s.views b (s.ptOf (s.rover x.member) x b.body))
  | none => []

end Sys2Proof.Machine
end

