-- ==== Sys2Proof/Machine/Rtcm.lean ====
section
/-! DEFINITION. RTCM 3 messages (spec/09_corrections_central_solve.md R308–R310, R312), as RTCM 10403 lays them out: the spec names
the standard and does not restate it (PRESUMED, log entry 26). -/
namespace Sys2Proof.Machine

/-- Fields of bits, each a width and a value, most significant first, padded to whole bytes. -/
def rtcmPack (fs : List (Nat × Int)) : Bytes :=
  let n := (fs.map (·.1)).sum
  let v := fs.foldl (fun a f => a * 2 ^ f.1 + (f.2 % 2 ^ f.1).toNat) 0
  beBytes ((n + 7) / 8) (v * 2 ^ ((n + 7) / 8 * 8 - n))

/-- CRC-24Q of a byte string (R312). -/
def crc24q (bs : Bytes) : Nat := crcMsb 24 0x864CFB 0 bs

/-- A transport frame: the preamble, ten bits of length, the message, its CRC. -/
def rtcmFrame (msg : Bytes) : Bytes :=
  let h := [byte 0xD3, byte (msg.length / 256), byte msg.length] ++ msg
  h ++ beBytes 3 (crc24q h)

/-- The number of a message: its first 12 bits. -/
def rtcmNum (msg : Bytes) : Nat := beNat (msg.take 2) / 16

def State.rtcmOut (s : State) (o n : Nat) : Nat := leAt (s.sec T.RTCM_OUT) o n
def State.rtcmFlag (s : State) (b : Nat) : Bool := (s.rtcmOut 2 1).testBit b
def State.msmSys (s : State) (y : Nat) : Bool := (s.rtcmOut 3 1).testBit y

/-! ### Station messages (R308) -/

/-- A counted string: its length, at most 31, and its characters up to the first 0. -/
def rtcmText (b : Bytes) : List (Nat × Int) :=
  let t := (b.takeWhile (· ≠ byte 0)).take 31
  (8, t.length) :: t.map (fun c => (8, (c.toNat : Int)))

/-- A byte string in upper-case hexadecimal. -/
def hexText (b : Bytes) : Bytes :=
  b.flatMap (fun c => [c.toNat / 16, c.toNat % 16].map (fun d => byte (if d < 10 then 48 + d else 55 + d)))

def msg1005 (s : State) : Bytes :=
  let p (i : Nat) : Int := ((s.bv.pos.getD s.ant none).getD []).getD i 0
  rtcmPack [(12, 1005), (12, s.rtcmOut 0 2), (6, 0), (1, b2n (s.msmSys 0)), (1, b2n (s.msmSys 1)), (1, b2n (s.msmSys 2)), (1, 0),
    (38, p 0), (1, 1), (1, 0), (38, p 1), (2, 0), (38, p 2)]

/-- The receiver type names the part; the text of the firmware version is free. -/
def msg1033 (s : State) : Bytes :=
  let b := s.sec T.BASE_POS
  rtcmPack ([(12, 1033), (12, (s.rtcmOut 0 2 : Int))] ++ rtcmText (slice b 68 32) ++ [(8, (leAt b 64 1 : Int))] ++
    rtcmText (slice b 100 32) ++
    rtcmText (ascii "SVETXIA EWG" ++ (hexText (beBytes 2 (partCode s.part)))) ++
    rtcmText (Config.firmwareText (s.getF F.UPD_STAT_FW_ACTIVE)) ++ rtcmText (hexText (beBytes 12 Config.uid.toNat)))

def msg1230 (s : State) : Bytes :=
  let b := s.sec T.RTCM_OUT
  rtcmPack [(12, 1230), (12, s.rtcmOut 0 2), (1, 0), (3, 0), (4, 10), (16, leAtI b 32 2), (16, leAtI b 34 2)]

/-- A station message by its number. -/
def staMsg (s : State) (n : Nat) : Bytes := if n = 1005 then msg1005 s else if n = 1033 then msg1033 s else msg1230 s

/-- The station messages of a record: those due in its second, with the first record of that second (R308); message `i`
of `n` is due where the second modulo STA_EVERY is i × STA_EVERY / n (log entry 26). -/
def State.staDue (s : State) (tb : Nat) : List Nat :=
  let ms := [1005, 1033] ++ (if s.msmSys 1 then [1230] else [])
  let every := max (s.rtcmOut 6 2) 1
  if nsField tb < s.obsInterval * 1000000 then
    (List.range ms.length).filterMap (fun i =>
      if secField tb % every = i * every / ms.length then ms[i]? else none)
  else []

/-! ### MSM (R309, R310) -/

/-- MSM number of a system under the MSM4 flag. -/
def State.msmNum (s : State) (y : Nat) : Nat :=
  [1070, 1080, 1090, 1120, 1110, 1130].getD y 0 + (if s.rtcmFlag 2 then 4 else 7)

/-- The MSM signal ID of each signal code's observation code (R309): 1C 2, 1X 32, 2X 17, 5X 24 of GPS; 1X 5, 5X 24, 7X 16, 6X 11 of
Galileo; 2I 2, 1X 32, 5X 24, 6I 8 of BeiDou; 1C 2, 2C 8 of GLONASS; 1C 2, 1X 32, 2X 17, 5X 24 of QZSS; 5A 22 of NavIC. -/
def msmSig (sig : Nat) : Option Nat :=
  ([some 2, some 32, some 17, some 24, some 5, some 24, some 16, some 11, some 2, some 32, some 24, none, some 8, some 2, some 8,
    some 2, some 32, some 17, some 24, none, some 22, none] : List (Option Nat)).getD sig none

/-- A signal of a base record as an MSM takes it: its base observation, its entry's CP, DOPPLER and HALF_CYC. -/
structure MsmCell where
  obs : SigObs
  msm : Nat
  cp : Option Int
  doppler : Int
  half : Bool

/-- Entry `k` of a base record for an MSM: not flagged, of a signal that is output, and with a carrier phase in MSM7. -/
def State.msmCell? (s : State) (b : Bytes) (k : Nat) : Option MsmCell :=
  let o := 24 + 24 * k
  let f := leAt b (o + 3) 1
  let x := baseObs b k
  if s.baseFlagged x ∨ (¬ f.testBit 0 ∧ ¬ s.rtcmFlag 2) then none
  else (msmSig x.id.sig).map (fun n =>
    { obs := x, msm := n, cp := if f.testBit 0 then some (leAtI b (o + 9) 6) else none, doppler := leAtI b (o + 15) 3
      half := f.testBit 1 })

/-- The cells of a system in a base record, in the order of R264. -/
def State.msmCells (s : State) (b : Bytes) (y : Nat) : List MsmCell :=
  ((List.range (leAt b 2 2)).filterMap (s.msmCell? b)).filter (fun c => c.obs.id.sys = y)

def MsmCell.prMs (c : MsmCell) : Rat := c.obs.pr.getD 0 / lightMs
def MsmCell.wl (c : MsmCell) : Rat := wavelength c.obs.id.sig c.obs.glo

/-- The rate of the phase range, m/s. -/
def MsmCell.rate (c : MsmCell) : Rat := -((c.doppler : Rat) / 64 * c.wl / 1000)

/-- The phase range in ms of light, with `n` whole cycles put to it. -/
def MsmCell.cpMs (c : MsmCell) (n : Int) : Option Rat := c.cp.map (fun v => ((v : Rat) / 4096 + n) * c.wl / lightMs)

/-- The whole cycles that bring a phase range next to its pseudorange. -/
def MsmCell.align (c : MsmCell) : Int := roundRat ((c.prMs * lightMs) / c.wl - ((c.cp.getD 0 : Int) : Rat) / 4096)

/-- The whole cycles in force for a signal: kept while no slip breaks its phase and it stays within 1 µs of light of the
pseudorange (log entry 26). -/
def State.msmCyc (s : State) (c : MsmCell) : Int :=
  match s.slv.cyc.find? (·.1 = c.obs.id) with
  | some (_, n) =>
    if c.obs.slip then c.align
    else match c.cpMs n with
      | some v => if ratAbs (v - c.prMs) < 1 / 1000 then n else c.align
      | none => n
  | none => c.align

/-- Rough range of a satellite in 2^-10 ms, from its first cell; rough rate in m/s. -/
def MsmCell.rough (c : MsmCell) : Int := roundRat (c.prMs * 1024)

/-- A value in a field of `w` bits, or the field's invalid value. -/
def msmField (w : Nat) (v : Option Int) : Nat × Int :=
  (w, match v with
    | some x => if -(2 ^ (w - 1)) < x ∧ x < 2 ^ (w - 1) then x else -(2 ^ (w - 1))
    | none => -(2 ^ (w - 1)))

/-- The extended lock time indicator of MSM7 and the 4-bit one of MSM4, from a lock time in ms. -/
def lockInd7 (t : Nat) : Nat :=
  if t < 64 then t else let k := t.log2 - 6; min (64 + 32 * k + (t - 2 ^ (k + 6)) / 2 ^ (k + 1)) 704
def lockInd4 (t : Nat) : Nat := if t < 32 then 0 else min (t.log2 - 4) 15

/-- The epoch time of a system (R251, R310): the time of week in ms; for GLONASS the day of the week and the time of day. -/
def State.msmEpoch (s : State) (y : Nat) (tb : Nat) : Int :=
  let ms := s.sysTime y tb / 1000000
  if y = 1 then ((ms / 86400000 + 4) % 7) * 2 ^ 27 + ms % 86400000 else (ms - 259200000) % 604800000

def msmSats (cs : List MsmCell) : List Nat := (cs.map (·.obs.id.svid)).eraseDups
def msmSigs (cs : List MsmCell) : List Nat := (List.range 33).filter (fun n => cs.any (·.msm = n))

/-- One MSM over some cells; `more` is its multiple-message bit. -/
def State.msmMsg (s : State) (e : BaseEpoch) (y : Nat) (more : Bool) (cs : List MsmCell) : Bytes :=
  let m4 := s.rtcmFlag 2
  let sats := msmSats cs
  let sigs := msmSigs cs
  let one (v : Nat) : List MsmCell := cs.filter (·.obs.id.svid = v)
  let first (v : Nat) : Option MsmCell := (one v).head?
  let rough (v : Nat) : Int := ((first v).map (·.rough)).getD 0
  let rrate (v : Nat) : Int := ((first v).map (fun c => roundRat c.rate)).getD 0
  let glo (v : Nat) : Int := if y = 1 then ((first v).map (fun c => c.obs.glo + 7)).getD 15 else 0
  let rc (c : MsmCell) : Rat := (rough c.obs.id.svid : Rat) / 1024
  let scaled (c : MsmCell) (v : Option Rat) (n : Nat) : Option Int := v.map (fun x => roundRat ((x - rc c) * 2 ^ n))
  let ord := sats.flatMap (fun v => sigs.filterMap (fun g => (one v).find? (·.msm = g)))
  let ref10 : Bool := s.timeFlag 1 && s.flag F.SDL_STAT_REF10_OK
  rtcmPack (
    [(12, (s.msmNum y : Int)), (12, s.rtcmOut 0 2), (30, s.msmEpoch y e.tb), (1, b2n more), (3, 0), (7, 0),
      (2, b2n (s.getF F.SDL_STAT_STATE = Tb.LOCKED)), (2, b2n ref10), (1, 0), (3, 0),
      (64, ((sats.map (fun v => 2 ^ (64 - v))).sum : Nat)), (32, ((sigs.map (fun g => 2 ^ (32 - g))).sum : Nat))] ++
    sats.flatMap (fun v => sigs.map (fun g => (1, (b2n ((one v).any (·.msm = g)) : Int)))) ++
    sats.map (fun v => (8, if rough v / 1024 ≤ 254 then rough v / 1024 else 255)) ++
    (if m4 then [] else sats.map (fun v => (4, glo v))) ++
    sats.map (fun v => (10, rough v % 1024)) ++
    (if m4 then [] else sats.map (fun v => msmField 14 (some (rrate v)))) ++
    ord.map (fun c => msmField (if m4 then 15 else 20) (scaled c (some c.prMs) (if m4 then 24 else 29))) ++
    ord.map (fun c => msmField (if m4 then 22 else 24) (scaled c (c.cpMs (s.msmCyc c)) (if m4 then 29 else 31))) ++
    ord.map (fun c => if m4 then (4, (lockInd4 c.obs.lock : Int)) else (10, (lockInd7 c.obs.lock : Int))) ++
    ord.map (fun c => (1, (b2n !c.half : Int))) ++
    ord.map (fun c => if m4 then (6, roundRat (c.obs.cn0 / 16)) else (10, (c.obs.cn0 : Int))) ++
    (if m4 then [] else ord.map (fun c =>
      msmField 15 (some (roundRat ((c.rate - rrate c.obs.id.svid) * 10000))))))

/-- Bytes of the encrypted part of a CORR frame (R353, R374). -/
def corrLen (b : Nat) : Nat := if b = 0 then 26 else 460

/-- May some cells stand in one message: 64 cells of the mask, the transport frame's length, the payload of a correction frame
(R310)? -/
def State.msmFits (s : State) (e : BaseEpoch) (y : Nat) (cs : List MsmCell) : Bool :=
  let n := (s.msmMsg e y false cs).length
  (msmSats cs).length * (msmSigs cs).length ≤ 64 && n ≤ 1023 &&
    n + 6 ≤ corrLen (if s.expected U.BSB ∧ s.bandBCells then 1 else 0)

/-- Cells split by satellite into messages that fit; a satellite that does not fit alone makes its own. -/
def splitSats (fits : List MsmCell → Bool) : List (List MsmCell) → List MsmCell → List (List MsmCell)
  | [], cur => if cur = [] then [] else [cur]
  | x :: r, cur =>
    if cur.isEmpty || fits (cur ++ x) then splitSats fits r (cur ++ x) else cur :: splitSats fits r x

/-- The messages' cells of a system. -/
def State.msmSplit (s : State) (e : BaseEpoch) (y : Nat) : List (List MsmCell) :=
  let cs := s.msmCells e.body y
  splitSats (s.msmFits e y) ((msmSats cs).map (fun v => cs.filter (·.obs.id.svid = v))) []

/-- The MSM set of a base record: the systems of MSM_SYS, in rising message number, the multiple-message bit on all but the last. -/
def State.msmSet (s : State) (e : BaseEpoch) : List Bytes :=
  let parts := ([0, 1, 2, 4, 3, 5].filter s.msmSys).flatMap (fun y => (s.msmSplit e y).map (fun cs => (y, cs)))
  (List.range parts.length).filterMap (fun i => parts[i]?.map (fun p => s.msmMsg e p.1 (i + 1 < parts.length) p.2))

/-- The whole cycles in force after a set. -/
def State.msmCycs (s : State) (e : BaseEpoch) : List (SigId × Int) :=
  ((List.range 6).filter s.msmSys).flatMap (fun y => (s.msmCells e.body y).filterMap (fun c =>
    c.cp.map (fun _ => (c.obs.id, s.msmCyc c))))

end Sys2Proof.Machine
end

