-- ==== Sys2Proof/Machine/Solve.lean ====
section
/-! DEFINITION. SOLVE and the correction builder (spec/09_corrections_central_solve.md): intake, the budget pass, lanes,
fix records and their delivery, SLV_ROVER, RTCM 3 messages, FIX frames. -/
namespace Sys2Proof.Machine

/-! ### Rovers, records and their times -/

def State.updSlv (s : State) (f : Slv → Slv) : State := { s with slv := f s.slv }

/-- SOLVE works: D7 is ON. -/
def State.slvOn (s : State) : Bool := s.domOn 7

def State.setRover (s : State) (r : Rover) : State :=
  s.updSlv (fun v => { v with rovers := v.rovers.filter (·.member ≠ r.member) ++ [r] })

/-- A filter cleared: no ambiguities, its search due, the time to first fix counted from now (R318). -/
def Rover.clear (r : Rover) (now : Nat) : Rover :=
  { r with
    search := true, held := false, fixedOnce := false, clearFrc := now, filter := true, flt := none, fixes := [], fixed := false
    part := false, ratio := 0, baseline := 0, ttff := 0, locks := [], gf := [], slips := [] }

/-- TB0 time in ns of the start of the slot nearest now with an ASN. -/
def State.asnTime (s : State) (a : Nat) : Int :=
  let n := s.tbNs 0 / 2500000
  (n : Int) * 2500000 + (((a + 2 ^ 40 - n % 2 ^ 40 + 2 ^ 39) % 2 ^ 40 : Nat) - (2 ^ 39 : Int)) * 2500000

/-- The fields of the SOLVE section (R316). -/
def State.slvRatio (s : State) : Nat := leAt (s.sec T.SOLVE) 0 1
def State.fixConfirm (s : State) : Nat := leAt (s.sec T.SOLVE) 1 1
def State.maxSkip (s : State) : Nat := leAt (s.sec T.SOLVE) 4 1
def State.minFix (s : State) : Nat := leAt (s.sec T.SOLVE) 2 1
def State.slvFlag (s : State) (b : Nat) : Bool := (leAt (s.sec T.SOLVE) 5 1).testBit b

/-- Pairs in ascending order, none equal. -/
def ascending : List (Nat × Nat) → Bool
  | a :: b :: r => (a.1 < b.1 || (a.1 = b.1 && a.2 < b.2)) && ascending (b :: r)
  | _ => true

/-- Is a payload accepted (R283, R286)? SAT names a satellite entry there is. -/
def obsOk (p : Bytes) : Bool :=
  let ns := obsNsat p
  let ng := obsNsig p
  let sats := (List.range ns).map (obsSat p)
  let sigs := (List.range ng).map (obsSig p)
  p.length ≤ 272 && leAt p 0 1 = 1 && 1 ≤ ns && ns ≤ 16 && 1 ≤ ng && ng ≤ 32 && 8 + 4 * ns + 7 * ng = p.length &&
    ascending (sats.map (fun x => (bitsOf x 0 3, bitsOf x 3 6))) &&
    ascending (sigs.map (fun x => (bitsOf x 0 4, bitsOf x 4 5))) &&
    (List.range ns).all (fun i => sigs.any (fun x => bitsOf x 0 4 = i)) && sigs.all (fun x => bitsOf x 0 4 < ns)

/-- The base record of an epoch. -/
def State.baseOf? (s : State) (epoch : Nat) : Option BaseEpoch :=
  s.slv.store.find? (fun e => asnOf e.tb % 65536 = epoch % 65536)

/-- Does a record lose a signal to the base's flags (R307)? -/
def State.excludes (s : State) (p base : Bytes) : Bool :=
  (rovSigs p).any (fun o => s.bit F.BV_SYS_FLAGS_SPOOF o.id.sys || s.bit F.BV_SYS_FLAGS_INTERF o.id.sys ||
    (baseSigs base).any (fun b => b.id = o.id && b.flagged))

/-! ### Delivery (R304–R306, R314) -/

/-- The counter of a status. -/
def statusCnt (st : Nat) : Option Fld :=
  match st with
  | 0 => some F.SLV_CNT_FIXED
  | 1 => some F.SLV_CNT_FLOAT
  | 2 => some F.SLV_CNT_CODE
  | 3 => some F.SLV_CNT_NOSOL
  | 4 => some F.SLV_CNT_NO_OBS
  | 5 => some F.SLV_CNT_NO_BASE
  | 6 => some F.SLV_CNT_SKIPPED
  | 8 => some F.SLV_CNT_NOSOL
  | 9 => some F.SLV_CNT_BAD_REC
  | _ => none

/-- µs from an epoch to now. -/
def State.sinceEpoch (s : State) (epoch : Nat) : Nat := (((s.tbNs 0 : Int) - s.asnTime epoch) / 1000).toNat

/-- A fix record of a member enters FIX: its status, counters and SEEN bits, the FIXES packet, Pergola's position, an
internal item for task 4. Statuses 3 to 9 carry the last position, SIGMA 0xFF and NSV 0. -/
def State.slvDeliver (s : State) (m epoch status : Nat) (pos : Bytes) (sigma nsv flags nsig : Nat) : State :=
  let v := s.rover m
  let solved := status ≤ 2
  let pos := if solved then pos else v.pos
  let consec := if status = 6 ∨ flags.testBit 1 then min (v.consec + 1) 255
    else if status ≤ 3 ∨ status = 8 then 0 else v.consec
  let body := [byte m, byte status] ++ leBytes 2 epoch ++ pos ++
    [byte (if solved then sigma else 0xFF), byte (if solved then min nsv 63 else 0), byte flags]
  let us := s.sinceEpoch epoch
  let s1 := s.setRover { v with
    status := status, pos := pos, consec := consec, gf := if solved ∨ status = 8 then v.gf else [] }
  let s2 := match statusCnt status with
    | some f => s1.incF f
    | none => s1
  let s3 := if status = 6 then s2.setF F.SLV_STAT_SKIP_SEEN 1
    else if status = 5 then s2.setF F.SLV_STAT_NO_BASE_SEEN 1 else s2
  let s4 := (s3.maxF F.SLV_LAT_MAX_LAT us).updSlv (fun x => { x with
    fixQ := x.fixQ ++ [⟨m, body⟩] })
  ((s4.observe Win.FIXES (body ++ leBytes 4 (min us (2 ^ 32 - 1)) ++ [byte (min v.ratio 255), byte (min v.fixes.length 255),
    byte nsig, byte 0])).pglFix m body).raiseTask 4

/-- Room in FIX: its sink, Bandstand B, is ON, it holds fewer than 128 records (R44, R123), and no completion waits for it. -/
def State.fixRoom (s : State) : Bool := s.domOn 9 && s.qRoom .fix && s.slv.owed.isEmpty

/-- A completion without a solution: it enters FIX, or waits for room in it (R44). -/
def State.slvComplete (s : State) (m epoch status late : Nat) : State :=
  if s.fixRoom then s.slvDeliver m epoch status [] 0 0 late 0
  else s.updSlv (fun v => { v with owed := v.owed ++ [(m, epoch, status, late)] })

/-- The completions that waited enter FIX while it has room. -/
def State.payOwed (s : State) : State :=
  s.slv.owed.foldl (fun t p =>
    if t.domOn 9 ∧ t.qRoom .fix then
      (t.updSlv (fun v => { v with owed := v.owed.drop 1 })).slvDeliver p.1 p.2.1 p.2.2.1 [] 0 0 p.2.2.2 0
    else t) s

/-! ### The budget pass (R299–R301) -/

/-- A record the pass weighs: its member and epoch, its deadline and arrival in ns, its signals, whether it is pending,
its search due, skipped. -/
structure Weighed where
  member : Nat
  epoch : Nat
  dl : Int
  arr : Int
  n : Nat
  pend : Bool
  search : Bool
  skip : Bool
deriving DecidableEq, Repr

def routineNs (n : Nat) : Int := 40000 + 8000 * n
def searchNs (n : Nat) : Int := 40000 + 58000 * n

def Weighed.cost (w : Weighed) : Int := if w.skip then 0 else if w.search then searchNs w.n else routineNs w.n

/-- Does the member hold a reservation at an epoch? -/
def State.reservedAt (s : State) (m epoch : Nat) : Bool :=
  let rt : Int := epoch / 4
  (s.pgl.wins.map (Win.near rt)).any (fun w =>
    w.member = m && w.start ≤ rt && (match w.stop with | some e => rt < e | none => true))

/-- Place in the skip order of R300: the smallest is the first to be deferred or skipped. -/
def State.skipRank (s : State) (m epoch : Nat) : Nat :=
  let c := (s.rover m).consec
  let p := ((s.memberRec? m).map (·.prio)).getD 0
  ((((b2n (s.maxSkip ≤ c) * 2 + b2n (!(s.mbr m).silent)) * 2 + b2n (s.reservedAt m epoch)) * 256 + (255 - p)) * 256 +
    min c 255) * 256 + (255 - m)

/-- The first of some records in the skip order. -/
def State.firstSkip (s : State) (ws : List Weighed) : Option Weighed :=
  ws.foldl (fun (a : Option Weighed) w => match a with
    | none => some w
    | some x => if s.skipRank w.member w.epoch < s.skipRank x.member x.epoch then some w else some x) none

/-- The decision taken for a record, if any: skipped (true) or deferred (false). -/
def State.decision? (s : State) (m epoch : Nat) : Option Bool :=
  (s.slv.decided.find? (fun d => d.1 = m ∧ d.2.1 = epoch)).map (·.2.2)

def State.weigh (s : State) (m epoch n : Nat) (pend : Bool) : Weighed :=
  let d := s.decision? m epoch
  { member := m, epoch := epoch, dl := s.asnTime epoch + 35000000, arr := s.asnTime epoch + 5000000, n := n, pend := pend
    search := (s.rover m).search && d.isNone, skip := d = some true }

/-- The number n of R292: the signals a record brings into the solution; of one whose base record is not there yet, as many as its
member's last brought. -/
def State.brought (s : State) (x : ObsRec) : Nat :=
  match s.baseOf? x.asn with
  | some e => (s.recSds x (some e)).length
  | none => (s.rover x.member).nsig

/-- Every record pending, or expected from the cell map in this slotframe, not yet taken by a lane. -/
def State.weighed (s : State) : List Weighed :=
  let a := s.asn
  let pend := s.slv.pend.map (fun r => s.weigh r.member r.asn (s.brought r) true)
  let inq := s.slv.obsIn.map (fun r => s.weigh r.member r.asn (s.brought r) false)
  let cells := s.cells.filter (fun c => c.role = Role.UL_OBS ∧ s.slotIdx ≤ c.slot ∧ s.joined c.owner ∧
    s.central c.owner ∧ (s.rover c.owner).enabled ∧ ¬ (c.slot = s.slotIdx ∧ s.slv.done.contains c.owner))
  pend ++ inq ++ cells.map (fun c => s.weigh c.owner ((a + (c.slot - s.slotIdx) + 2 ^ 40 - 1) % 2 ^ 40)
    (s.rover c.owner).nsig false)

def putWeighed (w : Weighed) (ws : List Weighed) : List Weighed :=
  ws.map (fun x => if x.member = w.member ∧ x.epoch = w.epoch then w else x)

/-- One deadline group: searches deferred, then records skipped, while the work exceeds the capacity. -/
def State.budgetGroup (s : State) (busy : Int) (lanes : Nat) (t0 d : Int) : Nat → List Weighed → List Weighed
  | 0, ws => ws
  | k + 1, ws =>
    let g := ws.filter (·.dl ≤ d)
    let need := busy + (g.map (·.cost)).sum - lanes * (d - t0)
    if need ≤ 0 then ws
    else match s.firstSkip (g.filter (fun w => w.search && !w.skip)) with
      | some w => s.budgetGroup busy lanes t0 d k (putWeighed { w with search := false } ws)
      | none =>
        match s.firstSkip (g.filter (fun w => !w.skip)) with
        | some w => s.budgetGroup busy lanes t0 d k (putWeighed { w with skip := true } ws)
        | none => ws

/-- Lane work left on the records in progress. -/
def State.laneBusy (s : State) : Int :=
  (s.slv.lanes.filterMap id).foldl (fun t r =>
    let n := s.brought r
    let c := if (s.rover r.member).search && !r.deferred then searchNs n else routineNs n
    t + max 0 (c - ((s.now - r.frc) * 1000 / 26 : Nat))) 0

/-- Ascending, without repeats. -/
def insertInt (x : Int) : List Int → List Int
  | [] => [x]
  | y :: ys => if x < y then x :: y :: ys else if x = y then y :: ys else y :: insertInt x ys

/-- The budget pass: the records with their decisions. -/
def State.budget (s : State) (ws : List Weighed) : List Weighed :=
  let now : Int := s.tbNs 0
  let arr := (ws.filter (fun w => !w.pend)).map (·.arr)
  let t0 := match arr with
    | [] => now
    | a :: as => max now (as.foldl min a)
  let lanes := ((List.range 4).filter (s.bit F.SLV_STAT_LANE_OK)).length
  (ws.foldl (fun l w => insertInt w.dl l) []).foldl
    (fun ws d => s.budgetGroup s.laneBusy lanes t0 d (2 * ws.length) ws) ws

/-- The decisions of a pass recorded; a pending record skipped completes at once. How many were deferred and skipped,
and the lane work left, in ns. -/
def State.budgetPass (s : State) : State × Nat × Nat × Int :=
  let old := s.weighed
  let new := s.budget old
  let chg := (old.zip new).filter (fun p => p.1 ≠ p.2)
  let skips := (chg.filter (·.2.skip)).map (·.2)
  let defers := (chg.filter (fun p => !p.2.skip)).map (·.2)
  let hit (r : ObsRec) (ws : List Weighed) : Bool := ws.any (fun w => w.member = r.member ∧ w.epoch = r.asn)
  let s1 := s.updSlv (fun v => { v with
    decided := v.decided ++ skips.map (fun w => (w.member, w.epoch, true)) ++
      defers.map (fun w => (w.member, w.epoch, false))
    pend := (v.pend.filter (fun r => !hit r skips)).map (fun r => if hit r defers then { r with deferred := true } else r) })
  let s2 := if defers = [] then s1
    else (s1.incF F.SLV_CNT_DEFERRED defers.length).setF F.SLV_STAT_DEFER_SEEN 1
  let s3 := (skips.filter (·.pend)).foldl (fun t w => t.slvComplete w.member w.epoch 6 1) s2
  (s3, defers.length, skips.length, s.laneBusy + (new.map (·.cost)).sum)

/-- The pass at a slotframe boundary, shown in SLV_BUDGET; decisions on epochs past are forgotten. -/
def State.budgetBoundary (s : State) : State :=
  if !s.slvOn then s
  else
    let s0 := s.updSlv (fun v => { v with
      decided := v.decided.filter (fun d => (s.tbNs 0 : Int) < s.asnTime d.2.1 + 35000000) })
    let r := s0.budgetPass
    ((r.1.setF F.SLV_BUDGET_LOAD (min ((r.2.2.2 + 9999) / 10000).toNat 65535)).setF F.SLV_BUDGET_DEFERRED
      (min r.2.1 255)).setF F.SLV_BUDGET_SKIPPED (min r.2.2.1 255)

/-! ### Intake and lanes (R289–R292, R302, R303) -/

/-- OBS_IN's oldest record is taken in: completed at once as BAD_RECORD, DISABLED, NO_BASE or, where the pass skipped it,
SKIPPED; else pending, after a budget pass. -/
def State.obsIntake (s : State) : State :=
  match s.slv.obsIn with
    | [] => s
    | r :: q =>
      if !s.slvOn ∨ !s.fixRoom then s.payOwed
      else
        let s0 := (s.updSlv (fun v => { v with obsIn := q })).slvBase
        let s1 := if s.flag F.SLV_CTRL_RAW_ROVERS then
            s0.observe Win.RAW_OBS ([byte 2, byte r.member] ++ leBytes 2 r.payload.length ++ leBytes 4 (r.frc % 2 ^ 32) ++
              r.payload)
          else s0
        let ep := if 6 ≤ r.payload.length then s.epochAsn (leAt r.payload 4 2) else r.asn
        if !obsOk r.payload then s1.slvDeliver r.member r.asn 9 [] 0 0 0 0
        else
        let sh := s1.setRover ((s1.rover r.member).heard r.payload ep)
        if !(s.rover r.member).enabled then sh.slvDeliver r.member ep 7 [] 0 0 0 0
        else if (s1.baseOf? ep).isNone then sh.slvDeliver r.member ep 5 [] 0 0 0 0
        else
          let s2 := sh.setRover { sh.rover r.member with nsig := sh.brought { r with asn := ep }, filter := true }
          if s.decision? r.member ep = some true then s2.slvDeliver r.member ep 6 [] 0 0 1 0
          else
            let x := { r with asn := ep, deferred := s.decision? r.member ep = some false }
            (s2.updSlv (fun v => { v with pend := v.pend ++ [x] })).budgetPass.1

def execObsIntake (s : State) : Host.Outcome State Fault Refusal := .next s.obsIntake

/-- Is a lane in service and idle? -/
def State.laneIdle (s : State) (l : Nat) : Bool := s.bit F.SLV_STAT_LANE_OK l && (s.slv.lanes.getD l none).isNone

/-- Does record `a` come before `b` for a lane: the earlier deadline, and of equals the later in the skip order? -/
def State.laneBefore (s : State) (a b : ObsRec) : Bool :=
  let da := s.asnTime a.asn
  let db := s.asnTime b.asn
  da < db || (da = db && s.skipRank b.member b.asn < s.skipRank a.member a.asn)

/-- An idle lane takes a pending record; lanes that request together are served in round-robin order (R48, R291). -/
def execLaneTake (s : State) : Host.Outcome State Fault Refusal :=
  .next (
    match (fromToken s.slv.token ([0, 1, 2, 3].filter s.laneIdle)).head?, s.slv.pend with
    | some l, r :: q =>
      if !s.slvOn then s
      else
        let x := q.foldl (fun a b => if s.laneBefore b a then b else a) r
        s.updSlv (fun v => { v with
          pend := v.pend.erase x, lanes := v.lanes.set l (some { x with frc := s.now }), token := (l + 1) % 4 })
    | _, _ => s)

/-- A record out of its lane. -/
def State.laneFree (s : State) (l : Nat) : State := s.updSlv (fun v => { v with lanes := v.lanes.set l none })

/-- The record a lane works on, with D7 ON. -/
def State.lane? (s : State) (l : Nat) : Option ObsRec := if s.slvOn then s.slv.lanes.getD l none else none

/-! ### The solution (R281, R292–R297) -/

/-- A position's distance from the base, in mm. -/
def State.baselineOf (s : State) (base : Bytes) (p : Vec) : Rat :=
  match s.baseAt base with
  | some b => sqrtRat (vecDot (vecSub p b) (vecSub p b))
  | none => 0

/-- What a record's solution gives: the rover after it, the status, NEW_FIX, a wrong fix, the position and its variances. -/
structure Solved where
  rover : Rover
  status : Nat
  newFix : Bool
  wrong : Bool
  pos : Vec
  varH : Rat
  varV : Rat

/-- The float update of a record over its signals (R293, R294): the filter, the fixed ambiguities carried over, and whether an
ambiguity was reset. -/
structure Floated where
  flt : Flt
  fixes : List AmbFix
  iono : Bool
  reset : Bool
  cleared : Bool

def State.floatUpdate (s : State) (v : Rover) (x : ObsRec) (base : Bytes) (l : List Sd) : Floated :=
  let pt := s.ptOf v x base
  let rs := v.resets l x.asn
  let f0 := (v.flt.getD (Flt.start pt x.asn)).advance x.asn (obsStatic x.payload)
  let km := s.baselineOf base f0.posOf / 1000000
  let iono := decide ((leAt (s.sec T.SOLVE) 6 2 : Rat) ≤ km)
  let ds := ddsOf l
  let ph := ds.filter (·.phase.isSome)
  let f1 := (f0.carry ds rs iono km).observe ds pt iono
  let jump : Bool := obsClkJump x.payload && ph.any (fun d => 100 < f1.resid pt iono d)
  { flt := if jump then f1.dropAmbs else f1, fixes := if jump then [] else carryFixes v.fixes (ph.map (·.dd)) rs, iono := iono
    reset := jump || f0.keys.any (fun k => match k with | .amb d => d.on rs | _ => false), cleared := jump }

def fixVals (fs : List AmbFix) : List (FKey × Rat) := fs.map (fun a => (.amb a.dd, (a.int : Rat)))

/-- The ambiguities of a filter that a search may fix: float, and GLONASS ones only with GLO_AR (R293). -/
def State.searchable (s : State) (f : Flt) (fs : List AmbFix) : List DD :=
  f.keys.filterMap (fun k => match k with
    | .amb d => if fs.any (·.dd = d) ∨ (d.sig.sys = 1 ∧ ¬ s.slvFlag 1) then none else some d
    | _ => none)

/-- Is a search due by its ambiguities: MIN_FIX of variance below 0.25 cycle² (R295)? -/
def State.searchDue (s : State) (f : Flt) (fs : List AmbFix) : Bool :=
  s.minFix ≤ ((s.searchable f fs).filter (fun d => f.cov (.amb d) (.amb d) < 1 / 4)).length

/-- Does an ambiguity stand in the partial search: satellites above 25°, locks of at least 10 s (R296; LOCK 10 says 16.4 s)? -/
def DdObs.strong (d : DdObs) : Bool :=
  let ok (a : Sd) : Bool := sinDeg 25 < a.geo.sinR && sinDeg 25 < a.geo.sinB && 10 ≤ a.rov.lock && 10000 ≤ a.base.lock
  ok d.sat && ok d.ref

/-- The search of a record (R296): the ratio of the last one run, the ambiguities it fixes, whether in part. -/
def State.searchRec (s : State) (f : Flt) (fs : List AmbFix) (ds : List DdObs) : Option Nat × List AmbFix × Bool :=
  let as := s.searchable f fs
  let sub := as.filter (fun a => ds.any (fun d => d.dd = a && d.strong))
  let put (as : List DD) (z : List Int) : List AmbFix := (as.zip z).map (fun p => { dd := p.1, int := p.2 })
  match f.searchOver as s.slvRatio with
  | some (n, some z) => (some n, put as z, false)
  | o =>
    let p := if s.slvFlag 0 ∧ s.minFix ≤ sub.length then f.searchOver sub s.slvRatio else none
    match p with
    | some (n, some z) => (some n, put sub z, true)
    | some (n, none) => (some n, [], false)
    | none => (o.map (·.1), [], false)

/-- Are the fixed ambiguities a fix: MIN_FIX of them confirmed (R297; log entry 81)? -/
def State.isFix (s : State) (fs : List AmbFix) : Bool := s.minFix ≤ (fs.filter (s.fixConfirm ≤ ·.conf)).length

/-- The solution of a record with at least 4 satellites (R293–R297). A deferred one is delivered as FLOAT (R301): an ambiguity
it would confirm fixes no position yet. -/
def State.solveRec (s : State) (v : Rover) (x : ObsRec) (base : Bytes) (l : List Sd) : Solved :=
  let pt := s.ptOf v x base
  let u := s.floatUpdate v x base l
  let ds := ddsOf l
  let code : Bool := (ds.filter (·.phase.isSome)).length < 4
  let sol := u.flt.constrain (fixVals u.fixes)
  let fail := u.fixes.any (fun a => ds.any (fun d => d.dd = a.dd && 40 ≤ sol.resid pt u.iono d))
  let wrong := fail && v.fixed
  let fs := if fail then [] else u.fixes.map (fun a => { a with conf := a.conf + 1 })
  let fixed := s.isFix fs
  let conf := fixVals (fs.filter (s.fixConfirm ≤ ·.conf))
  let f := if wrong then u.flt.dropAmbs else if fixed ∧ s.slvFlag 2 then u.flt.constrain conf else u.flt
  let q := if v.search ∧ ¬ x.deferred then s.searchRec f fs ds else (none, [], false)
  let told := fixed && !x.deferred && !code
  let out := if told then u.flt.constrain conf else f
  { rover := { v with
      filter := true, flt := some f, fixes := fs ++ q.2.1, fixed := fixed && (told || v.fixed), held := fixed && s.slvFlag 2
      part := if q.2.1 ≠ [] then q.2.2 else v.part && fs ≠ [], ratio := q.1.getD v.ratio
      search := (x.deferred && v.search) || ((u.reset || wrong) && q.2.1.isEmpty) || s.searchDue f (fs ++ q.2.1)
      baseline := min ((s.baselineOf base out.posOf) + 1 / 2).floor.toNat (2 ^ 32 - 1)
      gf := gfOf l, slips := v.slips.filter (fun k => x.asn < k.2) }
    status := if x.deferred then 1 else if code then 2 else if fixed then 0 else 1
    newFix := told && !v.fixed, wrong := wrong, pos := out.posOf
    varH := out.cov (.pos 0) (.pos 0) + out.cov (.pos 1) (.pos 1), varV := out.cov (.pos 2) (.pos 2) }

/-- Does a position fit POS (R304)? -/
def posFits (p : Vec) : Bool :=
  let c (i : Nat) : Int := (posMm p).getD i 0
  let within (v : Int) (n : Nat) : Bool := -(2 ^ n) ≤ v && v < 2 ^ n
  within (c 0) 25 && within (c 1) 25 && within (c 2) 19

def posBytes (p : Vec) : Bytes :=
  let c (i : Nat) : Int := (posMm p).getD i 0
  leBytes 9 ((c 0 % 2 ^ 26).toNat + (c 1 % 2 ^ 26).toNat * 2 ^ 26 + (c 2 % 2 ^ 20).toNat * 2 ^ 52)

/-- SIGMA's code of a variance in mm²: the least q with 1σ at most 2^q mm, 15 where there is none (R304). -/
def sigmaCode (v : Rat) : Nat := ((List.range 15).find? (fun q => v ≤ 4 ^ q)).getD 15

/-- A lane reaches its record's deadline: SKIPPED and LATE (R302). -/
def State.abandon (s : State) (l : Nat) (x : ObsRec) : State :=
  ((s.laneFree l).setF F.SLV_STAT_ABORT_SEEN 1).slvComplete x.member x.asn 6 1

/-- Has the deadline of a record passed: 35 ms after its epoch (R30)? -/
def State.pastDue (s : State) (x : ObsRec) : Bool := s.asnTime x.asn + 35000000 < s.tbNs 0

/-- Has a lane spent the time a record of `n` signals takes (R292)? -/
def State.laneDone (s : State) (x : ObsRec) (n : Nat) : Bool :=
  (if (s.rover x.member).search ∧ ¬ x.deferred then searchNs n else routineNs n) * 26 ≤ ((s.now - x.frc) * 1000 : Nat)

/-- A rover whose fix stands first since its filter was cleared: its time to first fix. -/
def Rover.firstFix (v : Rover) (st now : Nat) : Rover :=
  if st = 0 ∧ ¬ v.fixedOnce then { v with fixedOnce := true, ttff := min ((now - v.clearFrc) / 26000) (2 ^ 32 - 1) } else v

/-- The fix of a lane's record from its signals (R292–R297, R304–R307): fewer than 4 satellites are NO_SOLUTION, a position
outside POS is OUT_OF_RANGE. -/
def State.deliverFix (s : State) (x : ObsRec) (l : List Sd) : State :=
  let base := ((s.baseOf? x.asn).map (·.body)).getD []
  let v := s.rover x.member
  let flags := 2 * b2n x.deferred + 8 * b2n (s.excludes x.payload base) + 16 * b2n ((leAt base 20 1).testBit 3) +
    32 * b2n (leAt base 1 1 = 2)
  if (sdSats l).length < 4 then s.slvDeliver x.member x.asn 3 [] 0 0 flags 0
  else
    let o := s.solveRec v x base l
    let st := if posFits o.pos then o.status else 8
    let s1 := s.setRover (o.rover.firstFix o.status s.now)
    let s2 := if o.wrong then (s1.incF F.SLV_CNT_WRONG_FIX).setF F.SLV_STAT_WRONG_FIX_SEEN 1 else s1
    s2.slvDeliver x.member x.asn st (posBytes o.pos) (sigmaCode o.varH + 16 * sigmaCode o.varV) (sdSats l).length
      (flags + 4 * b2n o.newFix + 128 * b2n (o.rover.part && o.rover.fixes ≠ [])) (min l.length 255)

/-- A lane ends its record, and the fix is delivered; with no room in FIX the lane stalls, and past the record's deadline the
record is abandoned in place of its fix (R30, R302). -/
def execFixDelivery (l : Nat) (s : State) : Host.Outcome State Fault Refusal :=
  .next (match s.lane? l with
    | none => s
    | some x =>
      let sds := s.recSds x (s.baseOf? x.asn)
      if !s.fixRoom then s
      else if s.pastDue x then s.abandon l x
      else if !s.laneDone x sds.length then s
      else (s.laneFree l).deliverFix x sds)

def execLaneDeadlineAbandon (l : Nat) (s : State) : Host.Outcome State Fault Refusal :=
  .next (match s.lane? l with
    | some x => if s.asnTime x.asn + 35000000 ≤ s.tbNs 0 then s.abandon l x else s
    | none => s)

/-- A lane goes out of service; its record returns to the pending store before its deadline, else it is abandoned. -/
def execLaneFault (l : Nat) (s : State) : Host.Outcome State Fault Refusal :=
  .next (
    if !s.slvOn ∨ 3 < l ∨ !s.bit F.SLV_STAT_LANE_OK l then s
    else
      let s1 := ((s.clrBit F.SLV_STAT_LANE_OK l).setF F.SLV_STAT_LANE_FAULT 1).vbTrigger 0x28 [byte l]
      match s.lane? l with
      | none => s1
      | some x =>
        if (s.tbNs 0 : Int) < s.asnTime x.asn + 35000000 then
          (s1.laneFree l).updSlv (fun v => { v with pend := v.pend ++ [x] })
        else s1.abandon l x)

/-- NO_OBS for each joined, enabled central-solve member whose cell of the UL_OBS slot that ends brought no accepted
record (R290). -/
def State.noObs (s : State) (slot epoch : Nat) : State :=
  if !s.slvOn then s
  else
    ((s.cells.filter (fun c => c.role = Role.UL_OBS ∧ c.slot = slot ∧ s.joined c.owner ∧ s.central c.owner ∧
      (s.rover c.owner).enabled ∧ ¬ s.slv.done.contains c.owner)).foldl
        (fun t c => t.slvComplete c.owner epoch 4 0) s).updSlv (fun v => { v with done := [] })

/-! ### SLV_ROVER (R318) -/

/-- SLV_ROV_STAT of a member. -/
def State.rovStat (s : State) (m : Nat) : Word :=
  let v := s.rover m
  packW [(0, v.status), (4, b2n v.enabled), (5, b2n v.search), (6, b2n v.held), (7, b2n (s.clsOf m).selfSolve),
    (8, min v.fixes.length 255), (16, min v.ratio 255), (24, v.consec)]

/-- An SLV_ROVER item of a mode: its refusals, then its effect. -/
def State.roverItem (s : State) (wid mode : Nat) (k : Nat → State) : State :=
  match s.active? wid W.SLV_ROVER with
  | some i =>
    let m := i.arg 1
    if 3 < i.arg 0 then s.finish wid St.BAD_ARG
    else if i.arg 0 ≠ mode ∨ !s.slvOn then s
    else if (s.memberRec? m).isNone then s.finish wid 0x80
    else if (s.clsOf m).selfSolve then s.finish wid 0x81
    else k m
  | none => s

def execSlvRoverReset (wid : Nat) (s : State) : Host.Outcome State Fault Refusal :=
  .next (s.roverItem wid 0 (fun m => (s.setRover ((s.rover m).clear s.now)).finish wid St.OK))

def execSlvRoverDisable (wid : Nat) (s : State) : Host.Outcome State Fault Refusal :=
  .next (s.roverItem wid 1 (fun m => (s.setRover { s.rover m with enabled := false }).finish wid St.OK))

def execSlvRoverEnable (wid : Nat) (s : State) : Host.Outcome State Fault Refusal :=
  .next (s.roverItem wid 2 (fun m =>
    (s.setRover { (s.rover m).clear s.now with enabled := true }).finish wid St.OK))

def execSlvRoverQuery (wid : Nat) (s : State) : Host.Outcome State Fault Refusal :=
  .next (s.roverItem wid 3 (fun m =>
    let v := s.rover m
    s.finish wid St.OK (leBytes 4 (s.rovStat m).toNat ++ leBytes 4 v.baseline ++ leBytes 4 v.ttff ++ leBytes 4 v.status)))

/-! ### The correction builder (R308–R313) -/

/-- Does the correction builder take part in fleets with a SELF_SOLVE member joined, over the radio (R313)? -/
def State.corrRadio (s : State) : Bool :=
  s.rtcmFlag 1 && s.fleet.mbrs.any (fun m => s.joined m.id ∧ (s.clsOf m.id).selfSolve)

/-- The correction builder takes the oldest base record and forms its messages: the station messages due, and one MSM set every
MSM_EVERY records. They go to the RTCM stream and wait for correction frames (R308–R313). -/
def execRtcmBuild (s : State) : Host.Outcome State Fault Refusal :=
  .next (match s.bv.rtcmIn with
    | [] => s
    | e :: q =>
      let s0 := s.updBv (fun b => { b with rtcmIn := q })
      if !s.bvOn ∨ (s.sec? T.RTCM_OUT).isNone then s
      else if !e.multiple then s0
      else if !s.surveyed then (s0.setF F.BV_RTCM_STAT_WITHHELD 1).setF F.BV_RTCM_STAT_ACTIVE 0
      else
        let msm : Bool := s.slv.sets % max (s.rtcmOut 4 1) 1 = 0
        let set := if msm then s.msmSet e else []
        let nums := set.map rtcmNum
        let fs := ((s.staDue e.tb).map (staMsg s) ++ set).map rtcmFrame
        let s1 := (((s0.setF F.BV_RTCM_STAT_WITHHELD 0).setF F.BV_RTCM_STAT_ACTIVE 1).incF F.BV_RTCM_CNT fs.length).updSlv
          (fun v => { v with sets := v.sets + 1, cyc := if msm then s.msmCycs e else v.cyc })
        let s2 := if msm then s1.setF F.BV_RTCM_STAT_SYS_OUT (maskOf (fun y => y < 6 && nums.contains (s.msmNum y))) else s1
        let s3 := if (nums.zip (nums.drop 1)).any (fun p => p.1 = p.2) then s2.setF F.BV_RTCM_STAT_SPLIT_SEEN 1 else s2
        let s4 := if s.rtcmFlag 0 then fs.foldl (fun t f => t.observe Win.RTCM f) s3 else s3
        if s.corrRadio then (s4.updSlv (fun v => { v with corr := v.corr ++ fs.map (fun f => ⟨e.tb, f⟩) })).dlFill 1 else s4)

/-- Messages not on air within CORR_AGE_MAX s of their epoch are dropped (R313). -/
def execCorrAgeExpiry (s : State) : Host.Outcome State Fault Refusal :=
  .next (
    let old (c : CorrMsg) : Bool := c.tb + s.rtcmOut 5 1 * 1000000000 ≤ s.tbNs 0
    let n := (s.slv.corr.filter old).length
    if n = 0 then s
    else
      let gone : Bool := (s.slv.corr.head?.map old).getD false
      ((s.updSlv (fun v => { v with
        corr := v.corr.filter (fun c => !old c), corrOff := if gone then 0 else v.corrOff })).incF F.BV_RTCM_DROP n).setF
        F.BV_RTCM_STAT_DROP_SEEN 1)

/-! ### FIX frames (R31, R32, R372) -/

/-- Records put in by rising member, those of one member in order. -/
def insertFix (f : FixRec) : List FixRec → List FixRec
  | [] => [f]
  | x :: r => if f.member < x.member then f :: x :: r else x :: insertFix f r

/-- The fix builder of Bandstand B reads FIX, which gives nothing while a side of its crossing is not ON or resynchronises
(R31, R123). -/
def State.fixPull (s : State) : State :=
  if !s.domOn 7 ∨ !s.domOn 9 ∨ (s.xings.getD 8 {}).resync then s
  else { s.updSlv (fun v => { v with fixQ := [] }) with bsb := { s.bsb with fixes := s.bsb.fixes ++ s.slv.fixQ } }

/-- A slotframe's boundary: what its cells could not send is not sent in the next one (log entry 72). -/
def State.fixLapse (s : State) : State :=
  let t := s.fixPull
  if s.domOn 9 then { t with bsb := { t.bsb with fixes := [] } } else s

/-- A FIX frame of the fixes of the lowest-numbered members, up to 26 records, and these records (R31). -/
def State.fixFrame (s : State) (last : Bool) : DlFrame × List FixRec :=
  let fs := (s.bsb.fixes.foldl (fun l f => insertFix f l) []).take 26
  let pend := ((List.range 128).map (fun i => if s.dlHas 1 (i + 1) then 2 ^ i else 0)).sum
  ({ dst := 0xFF, ftype := 6, tsh := [byte fs.length, byte (b2n last)] ++ leBytes 16 pend, enc := fs.flatMap (·.body) }, fs)

/-- Fixes sent. -/
def State.fixesSent (s : State) (fs : List FixRec) : State :=
  { s with bsb := { s.bsb with fixes := s.bsb.fixes.filter (fun f => !fs.contains f) } }

/-- Slots of the slotframe with a DL_FIX cell on band B. -/
def State.fixSlots (s : State) : List Nat :=
  (List.range (max s.slotL 1)).filter (fun x => (s.cellsAt x 1).any (·.role = Role.DL_FIX))

/-- The frame of the DL_FIX cell in the next slot is assembled, 500 µs before that slot. -/
def execDlFixAssemble (s : State) : Host.Outcome State Fault Refusal :=
  .next (
    let next := (s.slotIdx + 1) % max s.slotL 1
    if !s.bandRun 1 ∨ s.stopStands ∨ !s.fixSlots.contains next ∨ s.bsb.fix.isSome ∨ s.slotUs < 2000 then s
    else
      let t := s.fixPull
      let r := t.fixFrame (s.fixSlots.getLast? = some next)
      (t.fixesSent r.2).updBand 1 (fun b => { b with fix := some r.1 }))

end Sys2Proof.Machine
end

