-- ==== Sys2Proof/Machine/Fleet.lean ====
section
/-! DEFINITION. The fleet's members (spec/11_fleet_protocol.md R358–R367, R381, R382, spec/10 R339–R341): joining, SETUP
frames, leaving, key rolls, what the acknowledgement or loss of a downlink frame brings about, DESYNC, BS_SEND and
BS_MEMBER. -/
namespace Sys2Proof.Machine

def State.updFleet (s : State) (f : Fleet → Fleet) : State := { s with fleet := f s.fleet }

/-- Is ASN `a` at or after `b`, both taken modulo 2^40? -/
def asnReached (a b : Nat) : Bool := (a + 2 ^ 40 - b % 2 ^ 40) % 2 ^ 40 < 2 ^ 39

/-! ### Partner timing (R339–R341) -/

/-- Nominal preamble start of a cell of the slot in progress, in µs of TB0. -/
def State.tNom (s : State) : Nat := s.tbNs 0 / 2500000 * 2500 + 300

/-- B of R340 at a cell's nominal preamble start; UNC in 2^-8 ppm, at most 25 600. -/
def State.bound (s : State) (x : Mbr) (t : Nat) : Rat :=
  ratAbs (x.pred t) + ((min (s.getF F.BSA_DRIFT_UNC_UNC) 25600 : Nat) : Rat) / 256 * ((t : Int) - (x.te : Int) : Int) / 1000000

/-- The window shift of a cell of an owner: none for a DESYNC member, a member without an estimate, a shared cell. -/
def State.shift (s : State) (owner : Nat) : Int :=
  match s.mbr? owner with
  | some x => if x.valid ∧ ¬ x.desync then roundRat (x.pred s.tNom) else 0
  | none => 0

/-- A member marked DESYNC: behind the others in the queue for the RESYNC cell. -/
def State.markDesync (s : State) (m : Nat) : State :=
  let s1 := (s.updMbr m (fun x => { x with desync := true, queued := true })).setF (F.BS_STAT_DESYNC_SEEN 0) 1
  if s.fleet.desyncQ.contains m then s1 else s1.updFleet (fun f => { f with desyncQ := f.desyncQ ++ [m] })

/-- A member leaves DESYNC; the member of the current wake pair stays in the queue until its RESYNC slot (R345). -/
def State.endDesync (s : State) (m : Nat) : State :=
  if (s.mbr m).desync then
    let s1 := s.updMbr m (fun x => { x with desync := false })
    if s.fleet.resyncFor = some m then s1
    else (s1.updMbr m (fun x => { x with queued := false })).updFleet (fun f => { f with desyncQ := f.desyncQ.filter (· ≠ m) })
  else s

/-- TCORR in its units for an offset e in µs (R331). -/
def tcorr (b : Nat) (e : Int) : Int :=
  if b = 0 then max (-16) (min 15 (roundRat (-(e : Rat) / 8))) else max (-127) (min 127 (-e))

/-- TCORR in µs. -/
def tcorrUs (b : Nat) (e : Int) : Int := if b = 0 then 8 * tcorr 0 e else tcorr 1 e

/-- The estimate of a member moves with an accepted frame (R339); `corr` is TCORR in µs, 0 without an entry. -/
def State.partner (s : State) (m : Nat) (e corr : Int) : State :=
  let t := s.tNom
  s.updMbr m (fun x =>
    if !x.valid then { x with valid := true, ofs := e + corr, drift := 0, te := t }
    else
      let dt : Rat := ((t : Int) - (x.te : Int) : Int)
      let r : Rat := e - (x.ofs + x.drift * dt / 1000000)
      { x with drift := max (-100) (min 100 (x.drift + r * 1000000 / max dt 8000000)), ofs := ((e + corr : Int) : Rat), te := t })

/-! ### Schedules (R364, R365) -/

/-- A cell as a schedule lists it: its ROLE byte, slot and channel offset. -/
structure Sched where
  role : Nat
  slot : Nat
  chan : Nat
deriving DecidableEq, Repr

/-- Entries of 4 bytes for slots with one mask, runs of equal masks joined, at most 255 slots each. -/
def schedRuns (role : Nat) : List (Nat × Nat) → Option (Nat × Nat × Nat) → List Bytes
  | [], none => []
  | [], some (f, n, k) => [[byte f, byte n, byte role, byte k]]
  | (x, k) :: r, none => if k = 0 then schedRuns role r none else schedRuns role r (some (x, 1, k))
  | (x, k) :: r, some (f, n, j) =>
    if k = j ∧ n < 255 then schedRuns role r (some (f, n + 1, j))
    else [byte f, byte n, byte role, byte j] :: schedRuns role r (if k = 0 then none else some (x, 1, k))

/-- The entries of a list of cells, by rising ROLE byte, then slot. -/
def schedEntries (l : Nat) (cs : List Sched) : List Bytes :=
  ((List.range 128).filter (fun r => cs.any (·.role = r))).flatMap (fun r =>
    schedRuns r ((List.range l).map (fun x => (x, maskOf (fun c => cs.any (· = ⟨r, x, c⟩))))) none)

def Cell.role8 (c : Cell) : Nat := c.role + 16 * c.band

/-- SCHED_OWN of a member under a cell map: its cells and its groups' cells, relay cells marked RELAY for a relay-capable
member (log entry 27). -/
def State.ownSched (s : State) (map : Bytes) (m : Nat) : List Bytes :=
  let g := ((s.memberRec? m).map (·.groups)).getD 0
  let mine (c : Cell) : Bool := c.owner = m || (0xF0 ≤ c.owner && c.owner < 0xFF && g.testBit (c.owner - 0xF0))
  schedEntries (max s.slotL 1) (((cellsOf map).filter mine).map (fun c =>
    ⟨c.role8 + (if c.relay ∧ (s.mbr m).caps.testBit 1 then 64 else 0), c.slot, c.chan⟩))

/-- SCHED_COMMON under a cell map: the cells owned by 0xFF, and every relay cell, marked LISTEN (log entry 27). -/
def State.commonSched (s : State) (map : Bytes) : List Bytes :=
  schedEntries (max s.slotL 1) (((cellsOf map).filter (fun c => c.owner = 0xFF ∨ c.relay)).map (fun c =>
    ⟨c.role8 + (if c.relay then 32 else 0), c.slot, c.chan⟩))

/-- Parts of `n` entries each: KIND, INDEX, SCHED_SEQ with the entries. -/
def schedParts (kind n seq : Nat) (es : List Bytes) : List (Bytes × Bytes) :=
  let k := max 1 ((es.length + n - 1) / n)
  (List.range k).map (fun i =>
    ([byte kind, byte (i + 16 * (k - 1))], byte seq :: ((es.drop (n * i)).take n).flatten))

/-- Entries of a unicast part, and of a broadcast part, on a band (R353, R364). -/
def ownPer (b : Nat) : Nat := if b = 0 then 4 else 107
def commonPer (b : Nat) : Nat := if b = 0 then 6 else 114

/-! ### SETUP frames (R364) -/

/-- SITE_XYZ of the plan, from SOLVE or RTCM_OUT (R282). -/
def State.siteXyz (s : State) : List Int :=
  match s.sec? T.SOLVE with
  | some b => xyz b 8
  | none => xyz (s.sec T.RTCM_OUT) 8

/-- A KEY frame's header and content; none where the entry holds no such key. -/
def State.keyPart? (s : State) (e : Nat) (next : Bool) : Option (Bytes × Bytes) :=
  match s.bsa.key? e with
  | none => none
  | some k =>
    if next then k.next.map (fun x => ([byte 0, byte e], x ++ [byte 1])) else some ([byte 0, byte e], k.key ++ [byte 0])

/-- The key entries of a member's scope: 0xFF and its groups. -/
def State.scope (s : State) (m : Nat) : List Nat :=
  let g := ((s.memberRec? m).map (·.groups)).getD 0
  0xFF :: ((List.range 15).filter g.testBit).map (· + 0xF0)

/-- The SETUP frames of a member, in order: SCHED_OWN, SCHED_COMMON, KEY for 0xFF and its groups, SITE. The schedule parts
stay as the join began with them, whatever a swap changes. -/
def State.setupParts (s : State) (m : Nat) : List SetupPart :=
  let map := s.sec T.CELL_MAP
  (schedParts 2 (ownPer 0) s.schedSeq (s.ownSched map m) ++
    schedParts 3 (ownPer 0) s.schedSeq (s.commonSched map)).map (fun p => .sched p.1 p.2) ++
    ((s.scope m).filter (fun e => (s.keyPart? e false).isSome)).map .key ++ [.site]

/-- The type-specific header and content of a SETUP frame; none for a key that its entry no longer holds. -/
def State.setupFrame? (s : State) : SetupPart → Option (Bytes × Bytes)
  | .sched tsh enc => some (tsh, enc)
  | .key e => s.keyPart? e false
  | .site => some ([byte 1, byte 0], (s.siteXyz).flatMap (leBytesI 5))

/-- A unicast frame of the module with ACK_REQ. -/
def uniFrame (m ftype : Nat) (tsh enc : Bytes) (tag : FrameTag) : DlFrame :=
  { dst := m, ftype := ftype, tsh := tsh, enc := enc, ack := true, tag := tag }

/-- The next SETUP frame of a member into DL_A; with none left the member's setup is done. -/
def State.nextSetup (s : State) (m : Nat) : State :=
  match (s.mbr m).setupLeft.dropWhile (fun p => (s.setupFrame? p).isNone) with
  | [] => s.updMbr m (fun x => { x with setupLeft := [], setupDone := true })
  | p :: ps =>
    let f := (s.setupFrame? p).getD ([], [])
    (s.updMbr m (fun x => { x with setupLeft := p :: ps })).dlPush 0 (uniFrame m 3 f.1 f.2 (.setup ps.length))

/-! ### Leaving (R366, R367) -/

/-- A dropped frame of a member whose session ends: its item, if it has one, ends. -/
def State.dropFrame (s : State) (f : DlFrame) : State :=
  match f.tag with
  | .data w _ => s.finish w 0x80
  | .leave _ (some w) => s.finish w St.OK
  | _ => s

/-- The downlink frames of a member that `p` picks removed from both bands (R123, R366). -/
def State.dropFrames (s : State) (m : Nat) (p : DlFrame → Bool := fun _ => true) : State :=
  let mine (f : DlFrame) : Bool := f.dst = m && p f
  let all (b : Band) : List DlFrame := (b.dl ++ b.held ++ b.wait.toList).filter mine
  let fs := all s.bsa ++ all s.bsb
  let clean (b : Band) : Band := { b with
    dl := b.dl.filter (!mine ·), held := b.held.filter (!mine ·), wait := b.wait.filter (!mine ·) }
  fs.foldl State.dropFrame { s with bsa := clean s.bsa, bsb := clean s.bsb }

/-- The switch of an entry is fixed once no KEY frame of it is outstanding: the first slotframe boundary at least four
slotframes later (R382). -/
def State.fixSwitch (s : State) (e : Nat) : State :=
  if s.fleet.mbrs.any (fun x => x.keyPend.contains e) then s
  else
    let l := max s.slotL 1
    let at_ := (s.asn + 4 * l + l - 1) / l * l
    s.updFleet (fun f => { f with keySwitch := f.keySwitch.map (fun p =>
      if p.1 = e ∧ p.2 = none then (e, some (at_ % 2 ^ 40)) else p) })

/-- A member no longer awaits KEY frames: the switches that waited for it alone are fixed. -/
def State.fixSwitches (s : State) : State :=
  (s.fleet.keySwitch.filter (·.2.isNone)).foldl (fun t p => t.fixSwitch p.1) s

/-- A member reaches FREE: its keys, estimate and frames go; Pergola holds what R414 says. `info` is the LEFT event's. -/
def State.makeFree (s : State) (m info : Nat) : State :=
  let x := s.mbr m
  if x.state = Ms.FREE then s
  else
    let s1 := ((s.dropFrames m).bands (·.dropKey m)).setMbr { id := m }
    let s2 := s1.updFleet (fun f => { f with
      desyncQ := f.desyncQ.filter (· ≠ m), joining := f.joining.filter (· ≠ m)
      leaving := f.leaving.filter (·.src ≠ m) }) |>.fixSwitches
    let s3 := if x.state = Ms.KEYING then s2 else s2.pglLeave m info
    let s4 := s3.updSlv (fun v => { v with rovers := v.rovers.map (fun (r : Rover) =>
      if r.member = m then { r with filter := false } else r) })
    s4.fleetEvent 4 m info 0

/-! ### Joining (R361–R363, R477, R478) -/

/-- Task 6 takes a session value for a member, or waits for a higher ceiling; with fewer than 64 left it asks for the
raise. -/
def State.joinStart (s : State) (m : Nat) : State :=
  let next := s.getF F.BSA_SESSION_NEXT
  let ceil := s.fleet.ceiling
  let asked := (s.ps.running ++ s.ps.waiting).any (fun r => r.who = .session)
  let ask (t : State) (n : Nat) : State :=
    if ceil - n < 64 ∧ ¬ asked then t.psRequest .session (.session (ceil + 256)) else t
  if next < ceil then
    let r := s.random 32
    let s1 := (r.2.setF F.BSA_SESSION_NEXT (next + 1)).updMbr m (fun x => { x with
      session := next, nonceM := leBytes 4 r.1, keyAsk := true })
    ((ask s1 (next + 1)).fleetEvent 1 m 0 next).domEvent 13 .work
  else (ask s next).updFleet (fun f => { f with joining := f.joining.filter (· ≠ m) ++ [m] })

/-- The session key of a member (R362, R477). -/
def State.sessionKey (s : State) (m : Nat) (root : Bytes) : Bytes :=
  let x := s.mbr m
  let r := s.memberRec? m
  let dev := leBytes 8 ((r.map (·.device)).getD 0)
  let rootM := kdf root (ascii "EWG-MEMBER") (leBytes 2 ((r.map (·.keyRef)).getD 0) ++ dev) 128
  kdf rootM (ascii "EWG-SESSION") (dev ++ x.nonceR ++ x.nonceM ++ leBytes 4 x.session) 128

/-- The member's CTRL cell: the first it owns. -/
def State.ctrlCell (s : State) (m : Nat) : Nat × Nat :=
  ((s.cells.find? (fun c => c.role = Role.CTRL ∧ c.owner = m)).map (fun c => (c.slot, c.chan))).getD (0, 0)

/-- The derivation is complete: task 11 loads the session key into entry m of both bands, JOIN_RSP goes to the head of DL_A
(R362, R568); the idle time of D13 starts (R109). -/
def State.joinFinish (s : State) (m : Nat) (key : Bytes) : State :=
  let x := s.mbr m
  let s1 := (s.loadKey m key x.session).bands (·.updKey m (fun k => { k with rx := 0xFFFFFFFF }))
  let r := s.memberRec? m
  let c := s.ctrlCell m
  let parts := s.setupParts m
  let enc := [byte ((r.map (·.cls)).getD 0), byte (b2n (s.clsOf m).selfSolve)] ++ leBytes 2 ((r.map (·.groups)).getD 0) ++
    [byte s.schedSeq, byte c.1, byte c.2, byte parts.length]
  (s1.updMbr m (fun x => { x with
    keyAsk := false, setupLeft := parts, setupDone := false })).dlHead 0
    (uniFrame m 2 (x.nonceM ++ leBytes 4 x.session) enc .joinRsp)
  |>.raiseTask 11 |>.idleStart 13

/-- Orangery has derived a member's keys: a use of FLEET_ROOT, which waits for the store where the slot is limited
(R471). -/
def execJoinKeyDone (m : Nat) (s : State) : Host.Outcome State Fault Refusal :=
  .next (
    let x := s.mbr m
    if x.state ≠ Ms.KEYING ∨ !x.keyAsk ∨ s.keysWithheld ∨ !s.dlRoom 0 then s
    else if !s.domOn 13 then s.needD13
    else match s.slotFor? Cls.FLEET_ROOT with
      | some n =>
        let key := s.sessionKey m (s.slot n).key
        if (s.slot n).waits then (s.updMbr m (fun x => { x with keyAsk := false })).slotUse n (.joinUse m x.session key)
        else (s.joinFinish m key).slotUse n (.joinUse m x.session key)
      | none => (s.slotsOf Cls.FLEET_ROOT).foldl State.slotDenied s)

/-! ### Group and broadcast keys (R382, R479) -/

/-- The groups MEMBERS uses. -/
def State.usedGroups (s : State) : List Nat :=
  ((List.range 15).filter (fun g => s.memberRecs.any (fun r => r.groups.testBit g))).map (· + 0xF0)

/-- A key drawn for an entry and loaded into both bands with SESSION 0. -/
def State.drawKey (s : State) (e : Nat) : State :=
  let r := s.random 128
  r.2.loadKey e (leBytes 16 r.1) 0

/-- Keys drawn for 0xFF and every group MEMBERS uses, Gazebo's CURRENT loaded, JOIN's key in entry 0x00 (R479, R480);
not while a sensor reads active. -/
def State.drawKeys (s : State) : State :=
  if s.keysWithheld then s
  else (((0xFF :: s.usedGroups).foldl State.drawKey s).stopKeyLoad false).idleStart 13

/-- The key of JOIN slot `n` goes into entry 0x00 of both bands, by task 11 (R480, R568). -/
def State.joinKeyIn (s : State) (n : Nat) : State := (s.loadKey 0 (s.slot n).key 0).raiseTask 11

/-- The JOIN slot into entry 0x00 of both bands (R480): a use of it, which waits for the store where the slot is limited
(R471). -/
def State.loadJoinKey (s : State) : State :=
  match s.slotFor? Cls.JOIN with
  | some n => if s.keysWithheld then s
    else if (s.slot n).waits then s.slotUse n (.joinKey n) else (s.joinKeyIn n).slotUse n (.joinKey n)
  | none => ((s.slotsOf Cls.JOIN).foldl State.slotDenied s).bands (·.dropKey 0)

/-- A KEY frame with NEXT set to a member (R382). -/
def State.sendNextKey (s : State) (m e : Nat) : State :=
  match s.keyPart? e true with
  | some p => (s.updMbr m (fun x => { x with keyPend := x.keyPend ++ [e] })).dlPush (s.mbrBand m) (uniFrame m 3 p.1 p.2 (.key e))
  | none => s

/-- Does an entry hold a NEXT key? -/
def State.nextHeld (s : State) (e : Nat) : Bool := (s.bsa.key? e).any (·.next.isSome)

/-- A roll of an entry (R479): its NEXT key in both bands, in Gazebo for 0xFF, KEY frames to the members in its scope. -/
def State.rollKey (s : State) (e : Nat) : State :=
  if s.keysWithheld ∨ (s.bsa.key? e).isNone ∨ s.nextHeld e then s
  else
    let r := s.random 128
    let s1 := (r.2.loadNext e (leBytes 16 r.1)).setF F.ORG_STAT_ROLLED 1
    let s2 := if e = 0xFF then s1.stopKeyLoad true else s1
    let s3 := s2.updFleet (fun f => { f with keySwitch := f.keySwitch.filter (·.1 ≠ e) ++ [(e, none)] })
    let ms := (s.fleet.mbrs.filter (fun x => s.joined x.id ∧ (s.scope x.id).contains e)).map (·.id)
    (((ms.foldl (fun t m => t.sendNextKey m e) s3).fixSwitch e).raiseTask 11).idleStart 13

/-- Is a roll of an entry of a band due: a group or broadcast entry whose counter has reached 0xF000_0000 (R479)? -/
def BsKey.rollDue (k : BsKey) : Bool := 0xF0 ≤ k.entry && 0xF0000000 ≤ k.tx && k.next.isNone

/-- The rolls due, by Orangery in D13, which they power up (R42, R479). -/
def State.rollsDue (s : State) : State :=
  let es := ((s.bsa.keys ++ s.bsb.keys).filter BsKey.rollDue).map (·.entry)
  if es = [] ∨ s.keysWithheld then s else if s.domOn 13 then es.foldl State.rollKey s else s.needD13

/-- The switches due at a boundary: the NEXT key becomes current with SESSION one above, and members that did not
acknowledge it become FREE. -/
def State.keySwitches (s : State) : State :=
  let due := (s.fleet.keySwitch.filter (fun p => p.2.any (asnReached s.asn))).map (·.1)
  due.foldl (fun t e =>
    let sw (b : Band) : Band := b.updKey e (fun k => match k.next with
      | some x => { k with key := x, session := k.session + 1, tx := 0, exhausted := false, next := none }
      | none => k)
    let t1 := (t.bands sw).updFleet (fun f => { f with keySwitch := f.keySwitch.filter (·.1 ≠ e) })
    let t2 := if e = 0xFF then t1.stopKeySwitch else t1
    ((t.fleet.mbrs.filter (fun x => x.keyPend.contains e || x.keyPend.contains (e + 256))).map (·.id)).foldl
      (fun u m => u.makeFree m 7) t2) s

/-! ### What an acknowledgement, or a loss, brings about -/

/-- While the fleet is armed a centrally solved member in SETUP or MEMBER holds D7 on (R41). -/
def State.solveFor (s : State) (m : Nat) : State :=
  if s.fleetArmed ∧ s.expected U.SLV ∧ s.central m then s.domEvent 7 .work else s

/-- A frame acknowledged, or sent where it asks no acknowledgement. A member that a swap removes or disables does not reach
SETUP (R155): its session ends as where its JOIN_RSP is lost. -/
def State.frameDone (s : State) (f : DlFrame) : State :=
  let m := f.dst
  match f.tag with
  | .joinRsp =>
    if (s.mbr m).state ≠ Ms.KEYING then s
    else if s.memberBarred m then s.makeFree m 4
    else
      let s1 := (s.updMbr m (fun x => { x with state := Ms.SETUP })).solveFor m |>.nextSetup m
      ((s1.scope m).filter s1.nextHeld).foldl (fun t e => t.sendNextKey m e) s1
  | .setup i =>
    if (s.mbr m).setupLeft.length = i + 1 then
      (s.updMbr m (fun x => { x with setupLeft := x.setupLeft.drop 1 })).nextSetup m
    else s
  | .schedOwn => s.updMbr m (fun x => { x with schedLeft := x.schedLeft - 1 })
  | .key e => (s.updMbr m (fun x => { x with keyPend := x.keyPend.filter (· ≠ e) })).fixSwitch e
  | .leave r w => let s1 := s.makeFree m r
    match w with
    | some i => s1.finish i St.OK
    | none => s1
  | .data w true => s.finish w St.OK
  | .resync => s
  | _ => s

/-- A frame dropped after TRIES transmissions, or cut off (R332, R348, R366, R367). -/
def State.frameLost (s : State) (f : DlFrame) : State :=
  let m := f.dst
  match f.tag with
  | .joinRsp => s.makeFree m 4
  | .setup _ => s.makeFree m 4
  | .key e => (s.updMbr m (fun x => { x with keyPend := x.keyPend.map (fun k => if k = e then e + 256 else k) })).fixSwitch e
  | .leave _ _ => s.frameDone f
  | .seg q _ => s.segDropped m q
  | .data w _ => s.finish w 0x80
  | _ => s

/-- An IACK within the wait window: it answers the frame that waits on its band where its SEQ matches (R329). `t` is its
preamble start in µs after the frame's last bit. -/
def execIackRx (b : Nat) (psdu : Bytes) (t : Nat) (s : State) : Host.Outcome State Fault Refusal :=
  .next (
    let body := psdu.take 2
    match (s.band b).wait with
    | none => s
    | some f =>
      if 1 < b ∨ s.blanked b ∨ t < 182 ∨ 272 < t ∨ psdu.length ≠ 2 + fcsLen b ∨ psdu.drop 2 ≠ fcsOf b s.networkId body ∨
          leAt body 0 1 ≠ 0x0E ∨ some (leAt body 1 1) ≠ f.seq then s
      else
        let s1 := s.updBand b (fun x => { x with wait := none })
        if f.tag = .resync then
          let s2 := s1.updMbr f.dst (fun x => { x with
            desync := false, queued := false, ofs := ((t : Int) - 192 : Int), te := s.tNom + 400 })
          (s2.updFleet (fun z => { z with
            desyncQ := z.desyncQ.filter (· ≠ f.dst), resyncFor := none })).setF F.BSA_RESYNC_DONE_SEEN 1
        else s1.frameDone f)

/-- TRIES of a band; 0 acts as 1. -/
def State.triesMax (s : State) (b : Nat) : Nat := max 1 (s.getF (F.BS_RETRY_TRIES b))

/-- No IACK came: a RESYNC frame's member goes to the back of the queue; another frame is sent again, or dropped after
TRIES transmissions; a frame cut off by a stop is left without a retry (R332, R341, R348). -/
def State.ackTimeout (s : State) (b : Nat) : State :=
  match (s.band b).wait with
  | none => s
  | some f =>
    let s1 := s.updBand b (fun x => { x with wait := none })
    if f.tag = .resync then
      ((s1.updMbr f.dst (fun x => { x with resTries := min (x.resTries + 1) 255 })).updFleet (fun z => { z with
        desyncQ := z.desyncQ.filter (· ≠ f.dst) ++ [f.dst], resyncFor := none })).setF F.BSA_RESYNC_FAIL_SEEN 1
    else if f.tries = 255 then s1.frameLost f
    else if f.tries < s.triesMax b then s1.dlHead b f
    else ((s1.incF (F.BS_CNT_NO_ACK b)).setF (F.BS_STAT_NO_ACK_SEEN b) 1).frameLost f

/-- Is the wait window of an IACK over, 272 µs after the last bit sent (R325)? -/
def State.ackOver (s : State) (b : Nat) : Bool := (s.band b).tx.all (fun p => p.2 + 26 * 272 ≤ s.now)

def execIackTimeout (b : Nat) (s : State) : Host.Outcome State Fault Refusal :=
  .next (if 1 < b ∨ !s.ackOver b then s else s.ackTimeout b)

/-! ### BS_SEND and BS_MEMBER (R383, R384) -/

/-- Data bytes of one DATA fragment (R353, R377). -/
def fragLen (b : Nat) (ack flood : Bool) : Nat :=
  if b = 0 then (if flood then 11 else if ack then 17 else 26) else (if flood then 415 else if ack then 431 else 460)

/-- The fragments of an item enter the downlink queue together, in consecutive places, once it has room for all of them;
`prog` is then 2, and 1 while the item waits (R44, R373). -/
def State.sendFrags (s : State) (i : WItem) (b : Nat) (fs : List DlFrame) : State :=
  if s.dlRoom b fs.length then
    ((fs.foldl (fun t f => t.dlPush b f) s).updItem i.wid (fun x => { x with prog := [2] })).park i.wid
  else (s.updItem i.wid (fun x => { x with prog := [1] })).park i.wid

/-- BS_SEND: its refusals, FROZEN for an item submitted while a stop stood, then its fragments in order. -/
def State.bsSend (s : State) (i : WItem) : State :=
  let a := i.arg 0
  let dst := bitsOf a 0 8
  let b := bitsOf a 8 1
  let uni : Bool := 1 ≤ dst ∧ dst ≤ 128
  let ack := a.testBit 9
  let flood := a.testBit 10
  let port := bitsOf (i.arg 1) 0 8
  let ps := pieces (fragLen b ack flood) 1024 i.payload
  if i.prog = [2] then s
  else if i.prog = [] ∧ ((!uni ∧ dst < 0xF0) ∨ (ack ∧ !uni) ∨ (flood ∧ uni)) then s.finish i.wid St.BAD_ARG
  else if i.prog = [] ∧ port < 0x80 then s.finish i.wid 0x83
  else if uni ∧ !s.joined dst then s.finish i.wid 0x81
  else if i.prog = [] ∧ 16 < ps.length then s.finish i.wid 0x82
  else if i.prog = [] ∧ i.stopped then s.finish i.wid St.FROZEN
  else
    let fs := (List.range ps.length).map (fun k => ({
      dst := dst, ftype := 7, tsh := [byte port, byte (k + 16 * (ps.length - 1))], enc := ps.getD k [], flood := flood
      ack := ack, prio := bitsOf a 12 4, tag := .data i.wid (k + 1 = ps.length) } : DlFrame))
    s.sendFrags i b fs

def execBsSend (wid : Nat) (s : State) : Host.Outcome State Fault Refusal :=
  .next (match s.active? wid W.BS_SEND with
    | some i => if i.onCore ∧ s.domOn (bandDom (bitsOf (i.arg 0) 8 1)) then s.bsSend i else s
    | none => s)

/-- A BS_MEMBER item of a mode: its refusals, then its effect. -/
def State.memberItem (s : State) (wid mode : Nat) (k : WItem → Nat → State) : State :=
  match s.active? wid W.BS_MEMBER with
  | some i =>
    if 1 < i.arg 0 then s.finish wid St.BAD_ARG
    else if i.arg 0 ≠ mode ∨ !s.domOn 8 then s
    else if !s.joined (i.arg 1) then s.finish wid 0x80
    else k i (i.arg 1)
  | none => s

/-- EXPEL: a LEAVE with REASON 1 into DL_A, or the item waits for room in it; a member that became FREE meanwhile ends it. -/
def State.expel (s : State) (wid m : Nat) : State :=
  if (s.mbr m).state = Ms.FREE then s.finish wid St.OK
  else if s.dlRoom 0 then
    ((s.dlPush 0 (uniFrame m 0xC [] [byte 1] (.leave 1 (some wid)))).updItem wid (fun x => { x with prog := [2] })).park wid
  else (s.updItem wid (fun x => { x with prog := [1] })).park wid

def execBsMemberExpel (wid : Nat) (s : State) : Host.Outcome State Fault Refusal :=
  .next (s.memberItem wid 0 (fun i m => if i.prog = [] then s.expel wid m else s))

def execBsMemberResync (wid : Nat) (s : State) : Host.Outcome State Fault Refusal :=
  .next (s.memberItem wid 1 (fun _ m => (s.markDesync m).finish wid St.OK))

end Sys2Proof.Machine
end

