-- ==== Sys2Proof/Machine/Uplink.lean ====
section
/-! DEFINITION. Frames the module receives (spec/10 R321–R338, spec/11 R358–R380): the checks in their order, the
acceptance with its acknowledgement entry, and what each frame type does; the slot acknowledgement; the wake-up
receiver. -/
namespace Sys2Proof.Machine

/-! ### The checks -/

/-- A frame that has passed the filter, key, counter and MIC checks: its band, channel offset, cell, addresses, its
full counter and key entry, its parts, its offset e. -/
structure RxIn where
  b : Nat
  c : Nat
  cell : Cell
  src : Nat
  dst : Nat
  seq : Nat
  ftype : Nat
  ack : Bool
  msg : Option Nat
  entry : Nat
  fcnt : Nat
  tsh : Bytes
  plain : Bytes
  e : Int
deriving DecidableEq, Repr

/-- What the checks make of a frame: the state after a discard, or the frame. -/
inductive RxOut where
  | gone (s : State)
  | ok (x : RxIn)

/-- Length of the type-specific header of a robot's frame (R358, R368–R371, R376). -/
def tshLen (ftype : Nat) : Nat := if ftype = 4 then 1 else if ftype = 5 ∨ ftype = 0xD then 2 else 0

/-- May a cell of a role carry the type (R350)? -/
def roleCarries (role ftype : Nat) : Bool :=
  match ftype with
  | 1 => role = Role.JOIN
  | 4 => role = Role.CTRL
  | 5 => role = Role.UL_OBS
  | 0xB => role = Role.CTRL ∨ role = Role.UL_OBS ∨ role = Role.UL_SHARED
  | 0xC => role = Role.CTRL ∨ role = Role.UL_SHARED
  | 0xD => role = Role.UL_SHARED
  | _ => false

/-- A bit of the 128-bit member list at a band's first filter register. -/
def memberBit (f : Nat → Nat → Fld) (s : State) (b m : Nat) : Bool :=
  1 ≤ m && m ≤ 128 && s.bit (f b ((m - 1) / 32)) ((m - 1) % 32)

/-- The filter of R335, by the filter registers. -/
def State.filterOk (s : State) (b : Nat) (c : Cell) (src dst : Nat) : Bool :=
  let joined := memberBit F.BS_FILT_JOINEDk_MEMBERS s b src
  if c.role = Role.JOIN then memberBit F.BS_FILT_ENABLEDk_MEMBERS s b src && dst = 0
  else if (c.role = Role.UL_OBS ∨ c.role = Role.CTRL) ∧ c.owner ≤ 128 then joined && src = c.owner && dst = 0
  else joined && (dst = 0 || (0xF0 ≤ dst && dst < 0xFF && s.bit (F.BS_FILT_GRP_GRP b) (dst - 0xF0)) ||
    (dst = 0xFF && s.flag (F.BS_FILT_GRP_BCAST b)))

/-- The full counter of a received frame and whether it is accepted (R338, R359): entry 0x00 takes the cell counter;
group and broadcast entries are not checked, their upper half being 0 (log entry 28). -/
def State.rxCounter (s : State) (k : BsKey) (c lo : Nat) : Nat × Bool :=
  if k.entry = 0 then
    let f := 4 * (s.asn % 2 ^ 30) + c
    (f, f % 65536 = lo)
  else if k.entry ≤ 0x80 then
    let c0 := k.rx / 65536 * 65536 + lo
    let c1 := if c0 ≤ k.rx then (c0 + 65536) % 2 ^ 32 else c0
    let d := (c1 + 2 ^ 32 - k.rx) % 2 ^ 32
    (c1, 1 ≤ d ∧ d ≤ 32768)
  else (lo, true)

def State.cntAuth (s : State) (b : Nat) : State := (s.incF (F.BS_CNT_AUTH b)).setF (F.BS_STAT_AUTH_SEEN b) 1

/-- Largest and smallest PSDU of a frame (R321). -/
def psduOk (b n : Nat) : Bool := if b = 0 then 4 ≤ n && n ≤ 40 else 6 ≤ n && n ≤ 480

/-- Has the last bit of a frame arrived by the SACK start less 192 µs (R325, R327)? -/
def inTime (b n : Nat) (e : Int) : Bool :=
  if b = 0 then 300 + e + (7 + n) * 40 ≤ 1768 else 300 + e + (12 + n) * 4 ≤ 2152

/-- Does a preamble `e` µs after TX_OFFSET fall into the window of the receive cell at channel offset `c` (R325, R340)? -/
def State.inWindow (s : State) (b c : Nat) (e : Int) : Bool :=
  s.bandRun b && 0 ≤ 300 + e && (s.rxCell? b c).any (fun cell => (e - s.shift cell.owner).natAbs ≤ 200)

/-- Did Gazebo key the pad at some instant of a frame's reception (R348)? -/
def State.rxCut (s : State) (b n : Nat) (e : Int) : Bool :=
  let at_ : Int := (s.now : Int) - 26 * s.slotUs + 26 * (300 + e)
  s.blanked b || (s.band b).keyed.any (fun k => (k.1 : Int) < at_ + 26 * airUs b n && at_ < k.2)

/-- Is a flood frame that passes its MIC under a counter already seen in the seen-cache (R378)? The counter is the one the
frame was sent with, whether or not R338 would still accept it (DEDUCED, log entry 28). -/
def State.seenFlood (s : State) (b : Nat) (k : BsKey) (src dst lo : Nat) (id : Nat) (aad ct mic : Bytes) : Bool :=
  s.fleet.seen.contains (src, id) &&
    [k.rx / 65536 * 65536 + lo, k.rx / 65536 * 65536 - 65536 + lo, lo].any (fun f =>
      (ccmOpen k.key (ccmNonce b 1 s.networkId src dst f k.session) aad ct mic).isSome)

/-- A PSDU in the receive cell at channel offset `c` of the slot in progress, its preamble `e` µs after TX_OFFSET: the
checks of R327, R348, R323, R351, R335, R336, R338, R337 and, for a flood frame, R378, in that order; a repeat of a flood
frame is known before its counter is refused (R378). -/
def State.rxCheck (s : State) (b c : Nat) (psdu : Bytes) (e : Int) : RxOut :=
  match s.rxCell? b c with
  | none => .gone s
  | some cell =>
    let n := psdu.length
    let body := psdu.take (n - fcsLen b)
    let fc := leAt psdu 0 1
    let dst := leAt psdu 1 1
    let src := leAt psdu 2 1
    let ftype := bitsOf fc 0 4
    let flood := fc.testBit 7
    if !s.inWindow b c e then .gone s
    else if s.rxCut b n e then .gone (s.incF (F.BS_CNT_BLANKED b))
    else if !psduOk b n then .gone (s.incF (F.BS_CNT_RX_BAD b))
    else if !inTime b n e then .gone (s.incF (F.BS_CNT_LATE b))
    else if psdu.drop (n - fcsLen b) ≠ fcsOf b s.networkId body then .gone (s.incF (F.BS_CNT_RX_BAD b))
    else if !fc.testBit 4 then .gone (s.incF (F.BS_CNT_AUTH b))
    else if !s.filterOk b cell src dst ∨ !roleCarries cell.role ftype then .gone (s.incF (F.BS_CNT_FILTERED b))
    else match (s.band b).key? (if dst ≠ 0 then dst else if ftype = 1 then 0 else src) with
      | none => .gone (s.cntAuth b)
      | some k =>
        let r := s.rxCounter k c (leAt psdu 4 2)
        let fl := if flood then slice body 6 3 else []
        let id := leAt fl 0 2
        let o := 6 + fl.length
        let t := tshLen ftype
        let ct := slice body (o + t) (body.length - (o + t + micLen b))
        let mic := body.drop (body.length - micLen b)
        let aad := slice body 0 6 ++ (if flood then fl.take 2 ++ [byte 0] else []) ++ slice body o t
        if flood ∧ o + t + micLen b ≤ body.length ∧ s.seenFlood b k src dst (leAt psdu 4 2) id aad ct mic then
          .gone (s.incF F.BSA_FLOOD_STAT_DUP)
        else if !r.2 then .gone ((s.incF (F.BS_CNT_REPLAY b)).setF (F.BS_STAT_REPLAY_SEEN b) 1)
        else
          if body.length < o + t + micLen b then .gone (s.cntAuth b)
          else match ccmOpen k.key (ccmNonce b 1 s.networkId src dst r.1 k.session) aad ct mic with
            | none => .gone (s.cntAuth b)
            | some pt =>
              if flood ∧ s.fleet.seen.contains (src, id) then .gone (s.incF F.BSA_FLOOD_STAT_DUP)
              else .ok ⟨b, c, cell, src, dst, leAt psdu 3 1, ftype, fc.testBit 5, if flood then some id else none,
                k.entry, r.1, slice body o t, pt, e⟩

/-! ### Acceptance (R331, R332, R338, R339) -/

/-- A frame's acknowledgement entry; none in a relay cell or with ACK_REQ clear (R331, R379). -/
def State.entry (s : State) (x : RxIn) (busy : Bool) : State :=
  if x.cell.relay ∨ !x.ack then s
  else s.updBand x.b (fun z => { z with sack := z.sack ++ [⟨x.c, x.src, !busy, busy, x.e, x.seq⟩] })

/-- The flood frame's pair into the seen-cache of 64 entries, the oldest replaced (R378). -/
def State.seenAdd (s : State) (x : RxIn) : State :=
  match x.msg with
  | none => s
  | some id => s.updFleet (fun f => { f with seen := (f.seen ++ [(x.src, id)]).drop (f.seen.length + 1 - 64) })

/-- A frame that passed the checks: refused BUSY where its queue has no room, acknowledged and counted where it repeats
the last SEQ accepted, else accepted and handed to `k`; with another frame accepted a LEAVE of its sender that was not
acknowledged has lapsed (R367). -/
def State.rxAccept (s : State) (x : RxIn) (room : Bool) (k : State → State) : State :=
  let s0 := s.seenAdd x
  let dup := ((s.band x.b).lastSeq.find? (·.1 = x.src)).any (·.2 = x.seq)
  let corr := if x.cell.relay ∨ !x.ack then 0 else tcorrUs x.b x.e
  if !dup ∧ !room then s0.entry x true
  else
    let s1 := (s0.updBand x.b (fun z => { (z.updKey x.entry (fun q => if x.entry ≤ 0x80 then { q with rx := x.fcnt } else q))
      with lastSeq := (x.src, x.seq) :: z.lastSeq.filter (·.1 ≠ x.src) })).entry x false
    let s2 := (s1.partner x.src x.e corr).endDesync x.src
    if dup then s2.incF (F.BS_CNT_DUP x.b) 
    else k ((s2.incF (F.BS_CNT_RX_OK x.b)).updFleet (fun f => { f with leaving := f.leaving.filter (·.src ≠ x.src) }))

/-- Room in RX_A or RX_B; pushes are refused while D3 is not ON (R44, R123). -/
def State.rxRoom (s : State) (b : Nat) : Bool := s.domOn 3 && s.qRoom (.rx b)

/-- A frame into RX_A or RX_B, with the internal item of its task (R195). -/
def State.rxPush (s : State) (x : RxIn) : State :=
  (s.updBand x.b (fun z => { z with rx := z.rx ++ [⟨x.src, x.ftype, x.tsh, x.plain⟩] })).raiseTask (if x.b = 0 then 3 else 2)

/-- A PSDU of type `t` received: with another type in its header the command names no such frame. Demodulator `c` receives
the first preamble within its window, and any other frame of the cell is lost (R334). -/
def State.rxOf (s : State) (t b c : Nat) (psdu : Bytes) (e : Int) (k : State → RxIn → State) : State :=
  if 1 < b ∨ bitsOf (leAt psdu 0 1) 0 4 ≠ t ∨ (s.inWindow b c e ∧ (s.band b).demod.contains c) then s
  else
    let s0 := if s.inWindow b c e then s.updBand b (fun x => { x with demod := c :: x.demod }) else s
    match s0.rxCheck b c psdu e with
    | .gone s1 => s1
    | .ok x => k s0 x

/-- A PPDU whose PHR parity, length or FCS fails is discarded and counted (R322, R323). -/
def execFrameRxBad (b c phr : Nat) (psdu : Bytes) (s : State) : Host.Outcome State Fault Refusal :=
  .next (
    let w := if b = 0 then 8 else 16
    let odd := ((List.range w).filter phr.testBit).length % 2 = 1
    let len := bitsOf phr 0 (if b = 0 then 6 else 9)
    let body := psdu.take (psdu.length - fcsLen b)
    let bad := odd ∨ ¬ psduOk b len ∨ psdu.drop (psdu.length - fcsLen b) ≠ fcsOf b s.networkId body
    if 1 < b ∨ !s.bandRun b ∨ (s.rxCell? b c).isNone ∨ (s.band b).demod.contains c then s
    else if s.blanked b then s.incF (F.BS_CNT_BLANKED b)
    else if bad then (s.incF (F.BS_CNT_RX_BAD b)).updBand b (fun x => { x with demod := c :: x.demod })
    else s)

/-! ### Joining (R358–R361) -/

/-- An accepted JOIN_REQ (R361, R366), which discards the unsent JOIN_RSP and SETUP frames of an old session; a member that may not join (R151, R155) is refused as R361 refuses. -/
def State.joinReq (s : State) (x : RxIn) : State :=
  let m := x.src
  let dev := leAt x.plain 0 8
  let s0 := (s.incF F.BSA_JOIN_STAT_REQS).rxPush x
  if x.plain.length ≠ 13 then s0
  else if (s.memberRec? m).all (fun r => r.device ≠ dev || !r.enabled) ∨ s.memberBarred m then
    (s0.incF F.BSA_JOIN_STAT_REFUSED).fleetEvent 2 m 0 (dev % 2 ^ 32)
  else
    let t := s0.dropFrames m (fun f => f.ftype = 2 || f.ftype = 3)
    let s1 := if s.joined m then (t.pglSilent m).fleetEvent 4 m 5 0 else t
    let s2 := s1.setMbr { (s1.mbr m) with
      state := Ms.KEYING, silent := false, desync := false, queued := false, valid := true, ofs := 0, drift := 0
      te := s.tNom, missed := 0, caps := leAt x.plain 12 1
      nonceR := slice x.plain 8 4, setupLeft := [], setupDone := false, joinFrames := 0, ctrlSeen := false
      schedSent := false, schedQ := [], schedLeft := 0, keyPend := [], keyAsk := false }
    let s2' := s2.fixSwitches.updFleet (fun f => { f with joins :=
      (m, min (((f.joins.find? (·.1 = m)).map (·.2)).getD 0 + 1) (2 ^ 32 - 1)) :: f.joins.filter (·.1 ≠ m) })
    let s3 := if s.central m then s2'.setRover ((s2'.rover m).clear s.now) else s2'
    (s3.raiseTask 6).joinStart m

def execJoinReqRx (c : Nat) (psdu : Bytes) (e : Int) (s : State) : Host.Outcome State Fault Refusal :=
  .next (s.rxOf 1 0 c psdu e (fun s x => s.rxAccept x (s.rxRoom 0) (fun t => t.joinReq x)))

/-! ### CTRL and OBS (R288, R366, R368–R370, R380) -/

/-- The status byte of an accepted frame: the last BCN_AGE and STATE, a ROBOT_STATE event where STATE changes. -/
def State.robotStat (s : State) (m st : Nat) : State :=
  let r := bitsOf st 4 3
  let s1 := s.updMbr m (fun x => { x with bcnAge := bitsOf st 0 4, robot := r })
  if (s.mbr m).robot = r then s1 else s1.fleetEvent 7 m r 0

/-- A self-solve report (R51, R288): to the FIXES stream and to Pergola; one that breaks R288 is counted. -/
def State.selfReport (s : State) (m : Nat) (rec : Bytes) (epoch : Option Nat) : State :=
  let ok : Bool := rec.length = 16 && (s.clsOf m).selfSolve && leAt rec 0 1 = m && leAt rec 1 1 ≤ 3 && (leAt rec 15 1).testBit 6 &&
    bitsOf (leAt rec 14 1) 6 2 = 0 &&
    (match epoch with | some a => leAt rec 2 2 = a % 65536 | none => true)
  if !ok then (if s.slvOn then s.incF F.SLV_CNT_BAD_REC else s)
  else (s.observe Win.FIXES (rec ++ leBytes 4 (min (s.sinceEpoch (s.epochAsn (leAt rec 2 2))) (2 ^ 32 - 1)) ++ zeros 4)).pglFix
    m rec

/-- A CTRL frame with BCN_AGE 0: the count of R380 returns to 0 and SILENT ends. -/
def State.beaconSeen (s : State) (m : Nat) : State :=
  let s1 := s.updMbr m (fun x => { x with ctrlSeen := true, missed := 0, silent := false })
  if (s.mbr m).silent then (s1.fleetEvent 6 m 0 0).pglSilentEnd m else s1

/-- SETUP to ACTIVE (R366). -/
def State.activate (s : State) (m : Nat) : State :=
  (((s.updMbr m (fun x => { x with state := Ms.ACTIVE })).fleetEvent 3 m 0 (s.mbr m).session).incF
    F.BSA_JOIN_STAT_ACTIVATED).pglActive m

/-- An accepted CTRL frame. A FAULT other than the last one reported is passed to the host in an RX_DATA event of PORT 0
(DESIGN CHOICE, log entry 87). -/
def State.ctrl (s : State) (x : RxIn) : State :=
  let m := x.src
  let st := leAt x.tsh 0 1
  let age0 := bitsOf st 0 4 = 0
  let s1 := (s.rxPush x).robotStat m st
  let s2 := if age0 then s1.beaconSeen m else s1
  if st.testBit 7 then s2.selfReport m (byte m :: x.plain) none
  else if x.plain.length ≠ 5 then s2
  else
    let q := leAt x.plain 0 1
    let fault := leAt x.plain 2 2
    let s3' := s2.updMbr m (fun z => { z with schedSeq := q, fault := fault, batt := leAt x.plain 4 1 })
    let s3 := if (s.mbr m).fault = fault then s3' else s3'.fleetEvent 8 m 0 2 (leBytes 2 fault)
    let s4 := if (s.mbr m).state = Ms.SETUP ∧ (s.mbr m).setupDone ∧ age0 ∧ q = s.schedSeq then s3.activate m else s3
    s4.segReport m (leAt x.plain 1 1)

def execCtrlRx (b c : Nat) (psdu : Bytes) (e : Int) (s : State) : Host.Outcome State Fault Refusal :=
  .next (s.rxOf 4 b c psdu e (fun s x => s.rxAccept x (s.rxRoom b) (fun t => t.ctrl x)))

/-- An accepted OBS frame: observables into OBS_IN, a report to the FIXES stream and Pergola. -/
def State.obs (s : State) (x : RxIn) : State :=
  let m := x.src
  let s1 := s.robotStat m (leAt x.tsh 1 1)
  let ep := (s.asn + 2 ^ 40 - 1) % 2 ^ 40
  if leAt x.tsh 0 1 = 0 ∧ s.central m then
    s1.updSlv (fun v => { v with obsIn := v.obsIn ++ [⟨m, ep, x.plain, s.now, false⟩], done := m :: v.done })
  else if leAt x.tsh 0 1 = 1 then s1.selfReport m x.plain (some ep)
  else s1.selfReport m [] none

/-- Room in OBS_IN: 32 records, and D7 ON (R44, R123). -/
def State.obsRoom (s : State) : Bool := s.slvOn && s.qRoom .obsIn

/-- An OBS frame; with `pop` SOLVE's intake takes a record of OBS_IN in the same cycle (R46). -/
def execObsRx (b c : Nat) (psdu : Bytes) (e : Int) (pop : Bool) (s : State) : Host.Outcome State Fault Refusal :=
  .next (s.pushPop .obsIn pop (fun s => s.rxOf 5 b c psdu e (fun s x =>
    s.rxAccept x (leAt x.tsh 0 1 ≠ 0 || !s.central x.src || s.obsRoom) (fun t => t.obs x))) State.obsIntake)

/-! ### STOP_REQ, LEAVE, STATUS (R367, R371, R376) -/

/-- An accepted STOP_REQ raises Gazebo's cause ROBOT; it takes no receive queue. -/
def execStopReqRx (b c : Nat) (psdu : Bytes) (e : Int) (s : State) : Host.Outcome State Fault Refusal :=
  .next (s.rxOf 0xB b c psdu e (fun s x => s.rxAccept x true (fun t => t.raiseCause Cause.ROBOT x.src)))

/-- An accepted LEAVE takes effect with the SACK that carries its ACK. -/
def execLeaveRx (b c : Nat) (psdu : Bytes) (e : Int) (s : State) : Host.Outcome State Fault Refusal :=
  .next (s.rxOf 0xC b c psdu e (fun s x => s.rxAccept x (s.rxRoom b) (fun t =>
    (t.rxPush x).updFleet (fun f => { f with leaving := f.leaving ++ [⟨x.src, leAt x.plain 0 1, x.b, x.seq⟩] }))))

/-- An accepted STATUS frame is passed to the host as an RX_DATA event (R385). -/
def State.status (s : State) (x : RxIn) : State :=
  (s.rxPush x).fleetEvent 8 x.src (leAt x.tsh 0 1) x.plain.length x.plain

def execStatusRx (b c : Nat) (psdu : Bytes) (e : Int) (s : State) : Host.Outcome State Fault Refusal :=
  .next (s.rxOf 0xD b c psdu e (fun s x => s.rxAccept x (s.rxRoom b) (fun t => t.status x)))

/-- A flood frame: discarded where the seen-cache holds it, else inserted and, a STOP_REQ, accepted as one. -/
def execFloodFrameRx (b c : Nat) (psdu : Bytes) (e : Int) (s : State) : Host.Outcome State Fault Refusal :=
  .next (
    if !(leAt psdu 0 1).testBit 7 then s
    else s.rxOf (bitsOf (leAt psdu 0 1) 0 4) b c psdu e (fun s x =>
      if x.ftype = 0xB then s.rxAccept x true (fun t => t.raiseCause Cause.ROBOT x.src)
      else s.rxAccept x true (fun t => t)))

/-! ### The slot acknowledgement (R330, R331) -/

/-- The bytes of one entry. -/
def State.sackEntry (s : State) (b c : Nat) : Bytes :=
  match (s.band b).sack.find? (·.c = c) with
  | none => zeros (b + 1)
  | some x =>
    let f := b2n x.ack + 2 * b2n x.busy + 4 * b2n (s.dlHas b x.src)
    let t := tcorr b x.e
    if b = 0 then [byte (f + 8 * (t % 32).toNat)] else [byte f, byte (t % 256).toNat]

/-- Has the SACK's assembly come, 20 µs before it starts (R325, R331)? -/
def State.sackDue (s : State) (b : Nat) : Bool := (if b = 0 then 1940 else 2324) ≤ s.slotUs

/-- The SACK of a slot: sent where some entry is nonzero and Gazebo does not key the pad; a LEAVE it acknowledges takes
effect, any other waits for a SACK of its retransmission. -/
def execSackSend (b : Nat) (s : State) : Host.Outcome State Fault Refusal :=
  .next (
    let es := (List.range (if b = 0 then 4 else 8)).flatMap (s.sackEntry b)
    let s1 := s.updBand b (fun z => { z with sack := [] })
    if 1 < b ∨ (s.band b).sack = [] ∨ !s.sackDue b then s
    else if !s.bandRun b ∨ s.blanked b ∨ allZero es then s1
    else
      let p := [byte 0x0F, byte s.asn] ++ es
      let nb := ((s.band b).sack.filter (·.busy)).length
      let s2 := (s1.updBand b (fun z => { z with
        air := z.air ++ [⟨some (s.cellChan b 0), ppdu b true (p ++ fcsOf b s.networkId p)⟩] })).keyPad b 20 (ackUs b (4 + b * 18 + 4 * (1 - b)))
      let s3 := if nb = 0 then s2 else (s2.incF (F.BS_CNT_NACK_BUSY b) nb).setF (F.BS_STAT_BUSY_NACK_SEEN b) 1
      let acked (q : LeaveRx) : Bool := q.band = b && (s.band b).sack.any (fun x => x.src = q.src ∧ x.ack ∧ x.seq = q.seq)
      (s.fleet.leaving.filter acked).foldl (fun t q => t.makeFree q.src (min q.reason 3)) s3)

/-! ### The wake-up receiver (R346) -/

/-- Bits in which two words differ. -/
def hamming (a b : Nat) : Nat := ((List.range 32).filter (fun i => a.testBit i ≠ b.testBit i)).length

/-- The NETWORK_ID known: the plan's, or that of the stop-radio entry. -/
def State.knownNet (s : State) : Option Nat :=
  if s.planActive then some s.networkId else s.gzb.radio.map (fun r => r.2.1)

/-- The receiver hears a word on the wake channel: its own word, within TOL bits, is wake source 0 in Watch and BASE_WORD
elsewhere; a word heard while Watch is being entered is a wake event of it (R100). -/
def execWurWordRx (w : Nat) (s : State) : Host.Outcome State Fault Refusal :=
  .next (
    let tol := min (s.getF F.LODGE_WUR_CTRL_TOL) 1
    let st := s.getF F.LODGE_PWR_STATE_STATE
    match s.knownNet with
    | none => s
    | some net =>
      if s.power.off ∨ st = 4 ∨ s.wurBlanked ∨ tol < hamming w (wakeWord net 0) then s
      else
        let s1 := s.incF F.LODGE_WUR_STAT_WORDS
        if st = 3 ∨ (st = 5 ∧ s.power.entering = 3) then s1.wakeBy 0
        else s1.setF F.LODGE_WUR_STAT_BASE_WORD 1)

end Sys2Proof.Machine
end

