-- ==== Sys2Proof/Machine/Orangery.lean ====
section
/-! DEFINITION. Orangery's work items (spec/15_orangery_keys.md): key-update messages with their checks and commands,
derivation, attestation, HMAC, rolls; the redraw of keys after a tamper. -/
namespace Sys2Proof.Machine

def State.updOrg (s : State) (f : Org → Org) : State := { s with org := f s.org }

/-- Are the persistent slots unsealed (R472)? -/
def State.storeOpen (s : State) : Bool := s.flag F.ORG_STAT_STORE_OPEN

/-! ### Key-update messages (R481–R488) -/

/-- One command of a message (R482). -/
structure KuCmd where
  head : Bytes
  data : Bytes
deriving DecidableEq, Repr

def KuCmd.op (c : KuCmd) : Nat := leAt c.head 0 1
def KuCmd.slot (c : KuCmd) : Nat := leAt c.head 1 1
def KuCmd.keyId (c : KuCmd) : Nat := leAt c.head 4 4
def KuCmd.attr (c : KuCmd) : Nat := leAt c.head 8 4
def KuCmd.uses (c : KuCmd) : Nat := leAt c.head 12 4
def KuCmd.cls (c : KuCmd) : Nat := bitsOf c.attr 0 4

/-- The commands of a message body; none where they do not fill it. -/
def kuCmds : Nat → Bytes → Option (List KuCmd)
  | 0, b => if b = [] then some [] else none
  | n + 1, b =>
    let len := leAt b 2 2
    if b.length < 16 + len then none
    else (kuCmds n (b.drop (16 + len))).map (⟨b.take 16, slice b 16 len⟩ :: ·)

/-- Key length, public key?, largest number of slots of a class (R470). -/
def clsRow (c : Nat) : Nat × Bool × Nat :=
  match c with
  | 1 => (97, true, 2)
  | 2 => (32, false, 2)
  | 3 => (97, true, 4)
  | 4 => (32, false, 1)
  | 5 => (16, false, 1)
  | 6 => (32, false, 2)
  | _ => (32, false, 16)

/-- The slots as a message changes them, and the item's standing: ENROL or not, its COUNTER, the fuses blown. -/
structure KuCtx where
  enrol : Bool
  counter : Nat
  fuses : Nat
deriving DecidableEq, Repr

def slotIn (sl : List (Nat × KeySlot)) (n : Nat) : KeySlot := Sparse.read (fun _ => {}) sl n

/-- May a class carry TAMPER_WIPE now (R490)? -/
def wipeOk (x : KuCtx) (cls : Nat) (wipe : Bool) : Bool := !wipe || (cls ≠ 1 && cls ≠ 2 && x.fuses < 64)

/-- The key an INSTALL carries: in clear for a public class and in ENROL, else unwrapped (R483, R486), with the WRAP
slot used. -/
def kuKey (x : KuCtx) (sl : List (Nat × KeySlot)) (c : KuCmd) : Option (Bytes × List (Nat × KeySlot)) :=
  let row := clsRow c.cls
  if row.2.1 ∨ x.enrol then (if c.data.length = row.1 then some (c.data, sl) else none)
  else
    let w := c.keyId / 2 ^ 24 % 64
    let k := slotIn sl w
    let nonce := [byte 8] ++ leBytes 4 x.counter ++ [byte c.slot] ++ uidBytes.take 7
    if c.data.length ≠ row.1 + 8 ∨ k.cls ≠ Cls.WRAP ∨ k.isSealed ∨ (k.limited ∧ k.uses = 0) then none
    else (ccmOpen k.key nonce c.head (c.data.take row.1) (c.data.drop row.1)).map (fun p =>
      (p, if k.limited then putSlot sl w { k with uses := k.uses - 1 } else sl))

/-- INSTALL (R470, R472, R482). -/
def kuInstall (x : KuCtx) (sl : List (Nat × KeySlot)) (c : KuCmd) : Option (List (Nat × KeySlot)) :=
  let a := c.attr
  let cls := c.cls
  let old := slotIn sl c.slot
  let persist := a.testBit 5
  let others := (sl.filter (fun p => p.2.cls = cls ∧ p.1 ≠ c.slot)).length
  if 63 < c.slot ∨ cls = 0 ∨ 7 < cls ∨ (old.cls ≠ 0 ∧ old.cls ≠ cls) ∨ (cls ≠ 7 ∧ !persist) ∨ (persist ∧ a.testBit 6) ∨
      a.testBit 8 ∨ 2 ^ 12 ≤ a ∨ !wipeOk x cls (a.testBit 7) ∨ (!a.testBit 9 ∧ c.uses ≠ 0) ∨
      (clsRow cls).2.2 ≤ others then none
  else (kuKey x sl c).map (fun r => putSlot r.2 c.slot {
    cls := cls, keyId := c.keyId, persist := persist, expire := a.testBit 6, wipe := a.testBit 7, limited := a.testBit 9
    uses := c.uses, epoch := x.fuses, key := r.1 })

/-- One command; none where it is not valid. -/
def kuApply (x : KuCtx) (sl : List (Nat × KeySlot)) (c : KuCmd) : Option (List (Nat × KeySlot)) :=
  let k := slotIn sl c.slot
  if c.op = 1 then kuInstall x sl c
  else if c.op = 2 then
    if 63 < c.slot ∨ k.cls = 0 ∨ k.keyId ≠ c.keyId ∨ c.data ≠ [] then none else some (putSlot sl c.slot {})
  else if c.op = 3 then
    let a := c.attr
    if 63 < c.slot ∨ k.cls = 0 ∨ k.keyId ≠ c.keyId ∨ c.data ≠ [] ∨ c.cls ≠ k.cls ∨ a.testBit 5 ≠ k.persist ∨
        a.testBit 6 ≠ k.expire ∨ (k.wipe ∧ !a.testBit 7) ∨ (k.limited ∧ !a.testBit 9) ∨ a.testBit 8 ∨ 2 ^ 12 ≤ a ∨
        (!k.wipe ∧ !wipeOk x k.cls (a.testBit 7)) ∨ (!a.testBit 9 ∧ c.uses ≠ 0) ∨ (k.limited ∧ k.uses < c.uses) then none
    else some (putSlot sl c.slot { k with wipe := a.testBit 7, limited := a.testBit 9, uses := c.uses, epoch := x.fuses })
  else if c.op = 4 then
    if c.slot ≠ 0 ∨ c.data ≠ [] then none else some (sl.filter (fun p => !p.2.persist))
  else none

/-- The commands in order: the slots after them, or the index of the first that is not valid. -/
def kuAll (x : KuCtx) : List KuCmd → Nat → List (Nat × KeySlot) → Except Nat (List (Nat × KeySlot))
  | [], _, sl => .ok sl
  | c :: cs, i, sl =>
    match kuApply x sl c with
    | some sl' => kuAll x cs (i + 1) sl'
    | none => .error i

/-- Does some slot hold a class? -/
def hasCls (sl : List (Nat × KeySlot)) (c : Nat) : Bool := sl.any (·.2.cls = c)

/-- The slots with one use of slot `n` counted. -/
def countUse (sl : List (Nat × KeySlot)) (n : Nat) : List (Nat × KeySlot) :=
  let k := slotIn sl n
  if k.limited then putSlot sl n { k with uses := k.uses - 1 } else sl

/-- The checks of R484 in their order: the slots and COUNTER to commit, or the status and command index of the refusal.
The uses of the KEY_AUTH and WRAP slots are counted in the record committed (log entry 29). -/
def State.kuCheck (s : State) (wid : Nat) (p : Bytes) : Except (Nat × Nat) (List (Nat × KeySlot) × Nat) :=
  let ncmd := leAt p 32 2
  let clen := leAt p 34 2
  let counter := leAt p 24 4
  let auth := leAt p 28 4
  let cmds := kuCmds ncmd (slice p 40 clen)
  let cs := cmds.getD []
  let ops := cs.map (fun c => (c.op, c.cls))
  let enrol : Bool := auth = 0 ∧ (ops = [(1, 1), (1, 2)] ∨ ops = [(1, 2), (1, 1)])
  let sl := s.org.slots
  let signer := (s.slotsOf Cls.KEY_AUTH).find? (fun n => (s.slot n).keyId = auth ∧ !(s.slot n).isSealed)
  let key := if enrol then ((cs.find? (fun c => c.cls = 1)).map (·.data)).getD []
    else (signer.map (fun n => (s.slot n).key)).getD []
  let msg := p.take (p.length - 96)
  let sig := p.drop (p.length - 96)
  if leAt p 0 4 ≠ 0x5559454B ∨ leAt p 4 2 ≠ 1 ∨ ncmd = 0 ∨ 8 < ncmd ∨ 136 + clen ≠ p.length then .error (0x80, 0)
  else if leAt p 6 2 ≠ partCode s.part then .error (0x81, 0)
  else if slice p 8 16 ≠ uidBytes then .error (0x82, 0)
  else if enrol ∧ (hasCls sl Cls.KEY_AUTH ∨ !s.storeOpen ∨ !s.svc.held ∨ ¬ s.svc.submit.any (·.2 = wid)) then
    .error (0x87, 0)
  else if !enrol ∧ (!s.storeOpen ∨ signer.all (fun n => !s.slotHasUse n)) then .error (0x83, 0)
  else if !p384.verify key (sha384 msg) (beNat (sig.take 48)) (beNat (sig.drop 48)) then .error (0x84, 0)
  else if counter ≤ s.getF F.ORG_COUNTER then .error (0x85, 0)
  else
    let decom := cs.any (·.op = 4)
    let sl1 := if enrol then sl else countUse sl (signer.getD 0)
    if cmds.isNone then .error (0x86, 0)
    else if decom ∧ cs.length ≠ 1 then .error (0x86, (cs.findIdx? (·.op = 4)).getD 0)
    else match kuAll ⟨enrol, counter, s.flash.wipeFuses⟩ cs 0 sl1 with
      | .error i => .error (0x86, i)
      | .ok sl2 =>
        if !decom ∧ !(hasCls sl2 Cls.KEY_AUTH && hasCls sl2 Cls.WRAP) then .error (0x86, ncmd - 1)
        else .ok (sl2, counter)

/-- A refusal: ORG_REFUSE, UPDATE_REFUSED, a record, the item's status. -/
def State.kuRefuse (s : State) (wid : Nat) (p : Bytes) (st idx : Nat) : State :=
  ((((s.setF F.ORG_REFUSE_STATUS st).setF F.ORG_REFUSE_INDEX idx).setF F.ORG_STAT_UPDATE_REFUSED 1).vbTrigger 0x38
    (leBytes 4 (leAt p 24 4) ++ [byte st])).finish wid st

/-- The slots two lists differ in, as the second holds them. -/
def slotDiff (old new : List (Nat × KeySlot)) : List (Nat × KeySlot) :=
  ((List.range 64).filter (fun n => slotIn new n ≠ slotIn old n)).map (fun n => (n, slotIn new n))

/-- Stage A of an item, and the request of stage B: the record that will hold every persistent slot differs from the selected
one in the slots the message changes. -/
def State.kuStart (s : State) (i : WItem) : State :=
  match s.kuCheck i.wid i.payload with
  | .error e => s.kuRefuse i.wid i.payload e.1 e.2
  | .ok r =>
    ((s.updOrg (fun o => { o with commit := some i.wid })).psRequest (.keyUpdate i.wid)
      (.org (slotDiff s.org.slots r.1) r.2)).park i.wid

/-- The next item that waits for a commit starts (R488); `fuel` bounds the refusals on the way. -/
def State.kuNext : Nat → State → State
  | 0, s => s
  | n + 1, s =>
    match s.org.commit, s.org.waiting with
    | none, w :: ws =>
      let s1 := s.updOrg (fun o => { o with waiting := ws })
      match s1.active? w W.ORG_KEY_UPDATE with
      | some i => State.kuNext n (s1.kuStart i)
      | none => State.kuNext n s1
    | _, _ => s

/-- ORG_KEY_UPDATE: it starts, or waits for the one that commits without occupying a core. -/
def execOrgKeyUpdate (wid : Nat) (s : State) : Host.Outcome State Fault Refusal :=
  .next (match s.active? wid W.ORG_KEY_UPDATE with
    | some i =>
      if !i.onCore then s
      else if !s.domOn 13 then s.needD13
      else if s.org.commit.isSome then (s.updOrg (fun o => { o with waiting := o.waiting ++ [wid] })).park wid
      else s.kuStart i
    | none => s)

/-! ### ORG_DERIVE (R475, R476, R494) -/

/-- An ORG_DERIVE item of a mode. -/
def State.deriveItem (s : State) (wid mode : Nat) (k : WItem → State) : State :=
  match s.active? wid W.ORG_DERIVE with
  | some i =>
    if 4 < i.arg 0 then s.finish wid St.BAD_ARG
    else if i.arg 0 ≠ mode ∨ !i.onCore then s
    else if !s.domOn 13 then s.needD13
    else k i
  | none => s

/-- NODE: a node under node 1 or a created node. -/
def execOrgDeriveNode (wid : Nat) (s : State) : Host.Outcome State Fault Refusal :=
  .next (s.deriveItem wid 0 (fun i =>
    let p := i.arg 1
    let free := (List.range 24).map (· + 8) |>.find? (fun n => s.nodeState n = Nd.FREE)
    if (p ≠ 1 ∧ (p < 8 ∨ 31 < p)) ∨ s.nodeState p ≠ Nd.VALID then s.finish wid 0x80
    else match free with
      | none => s.finish wid 0x81
      | some n =>
        if i.payload = [] ∨ 16 < i.payload.length ∨ s.org.nodes.any (fun x => x.parent = p ∧ x.idx ≠ 0 ∧ x.label = i.payload) then
          s.finish wid 0x82
        else (s.updOrg (fun o => { o with nodes := o.nodes ++ [⟨n, Nd.VALID, p, i.payload⟩] })).finish wid St.OK
          (leBytes 4 n)))

/-- Is node `a` an ancestor of node `n`? -/
def State.under (s : State) (a : Nat) : Nat → Nat → Bool
  | 0, _ => false
  | f + 1, n =>
    match s.node? n with
    | some x => n ≠ 0 && (x.parent = a || s.under a f x.parent)
    | none => false

/-- INVALIDATE: the node INVALID and every descendant ORPHAN. -/
def execOrgDeriveInvalidate (wid : Nat) (s : State) : Host.Outcome State Fault Refusal :=
  .next (s.deriveItem wid 1 (fun i =>
    let n := i.arg 1
    let orph := (s.org.nodes.filter (fun x => s.under n 32 x.idx)).map (·.idx)
    if n < 2 ∨ s.nodeState n ≠ Nd.VALID then s.finish wid 0x80
    else
      let s1 := s.updOrg (fun o => { o with nodes := o.nodes.map (fun (x : OrgNode) =>
        if x.idx = n then { x with state := Nd.INVALID }
        else if orph.contains x.idx then { x with state := Nd.ORPHAN } else x) })
      (if orph = [] then s1 else s1.setF F.ORG_STAT_ORPHANED 1).finish wid St.OK (leBytes 4 orph.length)))

/-- ROLL: a new key as NEXT. -/
def execOrgDeriveRoll (wid : Nat) (s : State) : Host.Outcome State Fault Refusal :=
  .next (s.deriveItem wid 2 (fun i =>
    let e := i.arg 1
    if e < 0xF0 ∨ 0xFF < e then s.finish wid St.BAD_ARG
    else if s.nextHeld e then s.finish wid 0x83
    else if s.keysWithheld then s.finish wid 0x85
    else if (s.bsa.key? e).isNone then s.finish wid St.BAD_ARG
    else (s.rollKey e).finish wid St.OK))

/-- ATTEST: an ECDSA P-256 signature with the node's attestation key over "EWG-ATTEST", UID, M and the nonce. -/
def execOrgDeriveAttest (wid : Nat) (s : State) : Host.Outcome State Fault Refusal :=
  .next (s.deriveItem wid 3 (fun i =>
    let n := i.arg 1
    if (n ≠ 2 ∧ (n < 8 ∨ 31 < n)) ∨ s.nodeState n ≠ Nd.VALID then s.finish wid 0x80
    else if i.payload.length < 16 ∨ 64 < i.payload.length then s.finish wid St.BAD_ARG
    else
      let r := s.random 256
      let d := p256.scalar (kdf (s.nodeKey 33 n) (ascii "P256") uidBytes 256)
      let digest := sha256 (ascii "EWG-ATTEST" ++ uidBytes ++ s.power.measured ++ i.payload)
      r.2.finish wid St.OK (p256.sign d digest r.1 ++ p256.pub d)))

/-- HMAC with a HOST_HMAC slot; a limited persistent slot's result waits for the store. -/
def execOrgDeriveHmac (wid : Nat) (s : State) : Host.Outcome State Fault Refusal :=
  .next (s.deriveItem wid 4 (fun i =>
    let n := i.arg 1
    if i.payload = [] ∨ 960 < i.payload.length then s.finish wid St.BAD_ARG
    else if !s.slotServes n Cls.HOST_HMAC then
      (if (s.slot n).cls = Cls.HOST_HMAC ∧ !(s.slot n).isSealed then s.slotDenied n else s).finish wid 0x84
    else
      let mac := hmacSha256 (s.slot n).key i.payload
      if (s.slot n).waits then (s.slotUse n (.keyUse wid mac)).park wid
      else (s.slotUse n (.keyUse wid mac)).finish wid St.OK mac))

/-! ### After a tamper (R491) -/

/-- Firmware draws and loads group and broadcast keys again once no sensor is active. -/
def execTamperKeyRedraw (s : State) : Host.Outcome State Fault Refusal :=
  .next (if s.org.redraw ∧ !s.keysWithheld ∧ s.domOn 8 then
      if s.domOn 13 then (s.drawKeys.loadJoinKey).updOrg (fun o => { o with redraw := false }) else s.needD13
    else s)

end Sys2Proof.Machine
end

