-- ==== Sys2Proof/Machine/Content.lean ====
section
/-! DEFINITION. The content rules of each section of a plan image (spec/04 R140 check 14, R144–R151; R217, R246,
R274–R277, R282, R316, R317, R333, R355, R390, R391, R466, R511, R533) and the cell timing rules of check 15 (R26, R33).
A reserved byte that is not 0 and a body of another length than its layout break a section's rules (log entry 34). -/
namespace Sys2Proof.Machine

/-- What a section is checked against: the sections by type, the part's units. -/
structure PCtx where
  units : Nat
  secs : List (Nat × Bytes)

def PCtx.sec? (x : PCtx) (t : Nat) : Option Bytes := (x.secs.find? (·.1 = t)).map (·.2)
def PCtx.sec (x : PCtx) (t : Nat) : Bytes := (x.sec? t).getD []

/-- SYSTEM.EXPECT_UNITS. -/
def PCtx.expect (x : PCtx) : Nat := leAt (x.sec T.SYSTEM) 0 2

/-- Does an unsigned field of `n` bytes lie in a range? -/
def fldIn (b : Bytes) (o n lo hi : Nat) : Bool := lo ≤ leAt b o n && leAt b o n ≤ hi

/-- Are `n` reserved bytes 0? -/
def resv (b : Bytes) (o n : Nat) : Bool := allZero (slice b o n)

/-! ### SYSTEM, PINS, POWER, SLOTFRAME, BAND (R144–R148) -/

def okSystem (_ : PCtx) (b : Bytes) : Bool :=
  b.length = 16 && fldIn b 2 2 0 3 && fldIn b 4 1 2 16 && resv b 5 3 && resv b 12 4

def okPins (_ : PCtx) (b : Bytes) : Bool :=
  b.length = 24 && (List.range 16).all (fun i => fldIn b i 1 0 4) && bitsOf (leAt b 16 1) 0 2 ≤ 2 &&
    bitsOf (leAt b 16 1) 2 2 ≤ 2 && fldIn b 16 1 0 15 && fldIn b 17 1 0 3 && fldIn b 18 1 0 3 && resv b 19 5

def okPower (_ : PCtx) (b : Bytes) : Bool :=
  b.length = 24 && fldIn b 0 2 1 1000 && fldIn b 2 2 1 1000 && fldIn b 18 1 0 1 && resv b 19 5

def okSlotframe (_ : PCtx) (b : Bytes) : Bool := b.length = 8 && fldIn b 0 2 16 256 && resv b 4 4

def okBand (band : Nat) (_ : PCtx) (b : Bytes) : Bool :=
  b.length = (4 + leAt b 1 1 + 7) / 8 * 8 && fldIn b 1 1 1 128 && leAtI b 2 1 ≤ 20 && resv b 3 1 &&
    0 < bandChannels band (leAt b 0 1) && (hopOf b).all (· < bandChannels band (leAt b 0 1)) &&
    allZero (b.drop (4 + leAt b 1 1))

/-! ### CELL_MAP (R149, R150, R333, R355) -/

def Role.known (r : Nat) : Bool := (1 ≤ r && r ≤ 5) || (8 ≤ r && r ≤ 12)

/-- Does the module receive in a cell of this role? -/
def Role.rx (r : Nat) : Bool := r = 3 || r = 4 || r = 8 || r = 11

def ownerOk (o : Nat) : Bool := (1 ≤ o && o ≤ 128) || 0xF0 ≤ o

/-- No two cells of one slot, band and offset. -/
def cellsDistinct : List Cell → Bool
  | [] => true
  | c :: cs => cs.all (fun d => d.slot ≠ c.slot || d.band ≠ c.band || d.chan ≠ c.chan) && cellsDistinct cs

def cntOf (p : Cell → Bool) (cs : List Cell) : Nat := (cs.filter p).length

/-- R150 for the members: one CTRL cell each, one UL_OBS cell each that is not SELF_SOLVE. -/
def memberCells (x : PCtx) (cs : List Cell) : Bool :=
  (membersOf (x.sec T.MEMBERS)).all (fun m =>
    cntOf (fun c => c.role = Role.CTRL && c.owner = m.id) cs = 1 &&
      ((classOf (x.sec T.CLASSES) m.cls).selfSolve || cntOf (fun c => c.role = Role.UL_OBS && c.owner = m.id) cs = 1))

/-- R333 checks 1 and 2 for a slot's receive offsets: at most `n`, below `n`; distinct channels at every hop position
they can use, on band A within three channels. -/
def rxSlotOk (hop : List Nat) (l slot n : Nat) (spread : Option Nat) (ofs : List Nat) : Bool :=
  let h := hop.length
  let g := Nat.gcd l h
  ofs.length ≤ n && ofs.all (· < n) &&
    (List.range (h / max g 1)).all (fun j =>
      let ch := ofs.map (fun c => hop.getD ((slot + c + g * j) % max h 1) 0)
      ch.Nodup && (match spread with
        | some k => ch.all (fun p => ch.all (fun q => p ≤ q + k))
        | none => true))

def rxOk (hop : List Nat) (l n : Nat) (spread : Option Nat) (cs : List Cell) : Bool :=
  (List.range l).all (fun sl =>
    let ofs := (cs.filter (fun c => c.slot = sl && Role.rx c.role)).map (·.chan)
    ofs = [] || (hop ≠ [] && rxSlotOk hop l sl n spread ofs))

/-- A slot of the wake pair: exactly one band A DL_CTRL cell, no band A receive cell (R333 check 3, log entry 34). -/
def pairSlot (a : List Cell) (sl : Nat) : Bool :=
  let here := a.filter (·.slot = sl)
  cntOf (fun c => c.role = Role.DL_CTRL) here = 1 && here.all (fun c => !Role.rx c.role)

/-- From slot `k` on, up to the RESYNC slot, do only BEACON cells lie on band A? -/
def onlyBeacon (a : List Cell) (l resync : Nat) : Nat → Nat → Bool
  | 0, _ => true
  | n + 1, k =>
    k = resync || ((a.filter (·.slot = k)).all (·.role = Role.BEACON) && onlyBeacon a l resync n ((k + 1) % max l 1))

/-- The first slot of a wake pair that R333 check 3 accepts, if there is one. -/
def wakePairOf (l : Nat) (a : List Cell) : Option Nat :=
  let r := ((a.find? (·.role = Role.RESYNC)).map (·.slot)).getD 0
  (List.range l).find? (fun p =>
    pairSlot a p && pairSlot a ((p + 1) % max l 1) && onlyBeacon a l r l ((p + 2) % max l 1))

/-- The channel offsets of a slot's cells, rising. -/
def ofsAt (cs : List Cell) (sl : Nat) : List Nat :=
  (List.range 16).filter (fun c => cs.any (fun x => x.slot = sl && x.chan = c))

/-- R355: cells in at most 16 consecutive slots, counted cyclically (log entry 34), with the same offsets in each; for
DL_CTRL one offset. -/
def runOk (l : Nat) (single : Bool) (cs : List Cell) : Bool :=
  let used := (List.range l).filter (fun sl => cs.any (·.slot = sl))
  match used with
  | [] => true
  | f :: _ =>
    used.length ≤ 16 && (used.filter (fun sl => !used.contains ((sl + l - 1) % max l 1))).length ≤ 1 &&
      used.all (fun sl => ofsAt cs sl = ofsAt cs f) && (!single || (ofsAt cs f).length = 1)

def okCellMap (x : PCtx) (b : Bytes) : Bool :=
  let cs := cellsOf b
  let l := leAt b 0 2
  let a := cs.filter (·.band = 0)
  let bb := cs.filter (·.band = 1)
  let hopB := match x.sec? T.BAND_B with | some h => hopOf h | none => []
  b.length = 8 + 4 * leAt b 2 2 && l = leAt (x.sec T.SLOTFRAME) 0 2 && fldIn b 2 2 1 4096 && resv b 4 4 &&
    (List.range (leAt b 2 2)).all (fun k => leAt b (9 + 4 * k) 1 < 32) &&
    cs.all (fun c => c.slot < l && Role.known c.role && ownerOk c.owner) &&
    cellsDistinct cs && (bb = [] || (x.units.testBit U.BSB && x.expect.testBit U.BSB)) &&
    cntOf (·.role = Role.BEACON) a = 1 && cntOf (·.role = Role.RESYNC) a = 1 && memberCells x cs &&
    rxOk (hopOf (x.sec T.BAND_A)) l 4 (some 3) a && rxOk hopB l 8 none bb &&
    (wakePairOf l a).isSome &&
    (a.filter (·.slot = ((a.find? (·.role = Role.RESYNC)).map (·.slot)).getD 0)).length = 1 &&
    runOk l false (a.filter (·.role = Role.JOIN)) && runOk l true (a.filter (·.role = Role.DL_CTRL))

/-- Check 15: at most one channel per band in a slot the module transmits in, and no receive cell there (R26); the epoch
of every UL_OBS cell plus 37.5 ms no later than the start of the last band B slot the module transmits in (R33). -/
def cellTiming (b : Bytes) : Bool :=
  let cs := cellsOf b
  let tx := cs.filter (fun c => Role.tx c.role)
  let last := (tx.filter (·.band = 1)).map (·.slot)
  tx.all (fun c => cntOf (fun d => d.band = c.band && d.slot = c.slot) tx = 1 &&
    cs.all (fun d => d.band ≠ c.band || d.slot ≠ c.slot || !Role.rx d.role)) &&
  (last = [] || (cs.filter (·.role = Role.UL_OBS)).all (fun c => c.slot + 14 ≤ last.foldl max 0))

/-! ### TASKS (R216, R217, R511) -/

def okTasks (x : PCtx) (b : Bytes) : Bool :=
  let n := leAt b 0 2
  let rec' (k : Nat) : Nat := 48 + 16 * k
  let ids := (List.range n).map (fun k => leAt b (rec' k) 1)
  let nsEv (t : Nat) : Bool := (List.range n).any (fun k => leAt b (rec' k) 1 = t && (leAt b (rec' k + 11) 1).testBit 2)
  b.length = 48 + 16 * n && n ≤ 240 && fldIn b 2 1 0 4 && fldIn b 3 1 0 15 && leAt b 4 2 + leAt b 6 2 ≤ 448 &&
    resv b 8 8 && ids.all (16 ≤ ·) && (List.range (n - 1)).all (fun k => ids.getD k 0 < ids.getD (k + 1) 0) &&
    (List.range n).all (fun k =>
      let o := rec' k
      fldIn b (o + 1) 1 0 15 && fldIn b (o + 2) 1 0 1 && fldIn b (o + 3) 1 0 1 && fldIn b (o + 10) 1 1 8 &&
        fldIn b (o + 11) 1 0 31 && resv b (o + 14) 2 &&
        (if leAt b (o + 2) 1 = 0 then fldIn b (o + 12) 2 1 512 && (catRow (leAt b (o + 8) 2)).isSome
          else leAt b (o + 12) 2 = 0)) &&
    (List.range 16).all (fun j =>
      let e := leAt b (16 + 2 * j) 2
      let t := e % 256
      e < 8192 && (t = 0 || (t = 15 && j = 8) || (16 ≤ t && ids.contains t && (8 ≤ j || nsEv t)))) &&
    (!(leAt (x.sec T.SYSTEM) 2 2).testBit 0 || leAt b 32 1 = 15)

/-! ### TIME (R246) -/

def okTime (_ : PCtx) (b : Bytes) : Bool :=
  b.length = 64 && fldIn b 0 1 0 2 && fldIn b 1 1 0 63 && fldIn b 2 2 1 65535 && fldIn b 4 2 10 1000 && fldIn b 6 1 0 3 &&
    resv b 7 1 && fldIn b 8 4 1 500000 && fldIn b 16 1 0 3 && fldIn b 17 1 0 3 && fldIn b 18 1 0 127 && fldIn b 19 1 0 1 &&
    (leAt b 16 1 ≠ 3 || (leAt b 18 1 = 0 && leAt b 19 1 = 0)) && -4 ≤ leAtI b 22 1 && leAtI b 22 1 ≤ 1 &&
    fldIn b 23 1 0 2 && leAt b 32 1 = 0 &&
    (List.range 128).all (fun i => bitsOf (leAt b (32 + i / 4) 1) (2 * (i % 4)) 2 ≠ 3) &&
    (leAt b 0 1 ≠ 2 || (leAt b 16 1 ≠ 0 && leAt b 23 1 ≠ 1))

/-! ### Belvedere (R249, R274–R277) -/

/-- Primary code period of a signal code in ms (R249). -/
def primaryMs (c : Nat) : Nat :=
  if c = 1 ∨ c = 9 ∨ c = 16 then 10 else if c = 2 ∨ c = 17 then 20 else if c = 4 ∨ c = 19 then 4 else 1

/-- Has the signal a pilot component (R249)? -/
def hasPilot (c : Nat) : Bool := [1, 2, 3, 4, 5, 6, 7, 9, 10, 16, 17, 18].contains c

/-- The signals of the E6/B3I/L6 chain (R249). -/
def e6Codes : List Nat := [7, 12, 19]

def okAcq (x : PCtx) (b : Bytes) : Bool :=
  let n := leAt b 0 1
  let ps := List.range n
  let o (p : Nat) : Nat := 8 + 16 * p
  let mask (p : Nat) : Nat := leAt b (o p + 4) 4
  b.length = 8 + 16 * n && 1 ≤ n && n ≤ 4 && fldIn b 1 1 32 96 && fldIn b 2 1 1 100 && resv b 3 1 &&
    fldIn b 4 2 50 2000 && resv b 6 2 &&
    ps.all (fun p =>
      fldIn b (o p) 1 1 32 && fldIn b (o p + 1) 1 0 1 && [1, 2, 4, 8, 10, 20].contains (leAt b (o p + 2) 1) &&
        fldIn b (o p + 3) 1 1 64 && mask p < 2 ^ 22 && fldIn b (o p + 8) 2 500 10000 && resv b (o p + 10) 6 &&
        (List.range 22).all (fun c => !(mask p).testBit c || primaryMs c ≤ leAt b (o p + 2) 1) &&
        ps.all (fun q => q = p || mask p &&& mask q = 0) &&
        (leAt b (o p + 1) 1 = 0 || leAt (x.sec T.GNSS_TRK) 0 1 = 2)) &&
    (ps.map (fun p => leAt b (o p) 1)).sum = 32

def okTrk (_ : PCtx) (b : Bytes) : Bool :=
  let alloc (c : Nat) : Nat := leAt b (16 + 2 * c) 2
  b.length = 64 && fldIn b 0 1 0 2 && fldIn b 1 1 0 30 && fldIn b 2 2 100 1000 && leAt b 2 2 % 100 = 0 &&
    fldIn b 4 1 2 30 && fldIn b 5 1 2 20 && fldIn b 6 1 2 200 && fldIn b 7 1 5 100 && fldIn b 8 1 1 100 &&
    (List.range 22).all (fun c => !hasPilot c || alloc c = 0 || leAt b 8 1 % primaryMs c = 0) &&
    fldIn b 9 1 15 30 && fldIn b 10 1 1 60 && fldIn b 11 1 0 64 && (leAt b 11 1 = 0 || leAt b 0 1 = 2) &&
    resv b 12 4 && resv b 60 4 && ((List.range 22).map alloc).sum + leAt b 11 1 ≤ 320

def okInteg (_ : PCtx) (b : Bytes) : Bool :=
  let ref := leAt b 1 1
  b.length = 64 && fldIn b 0 1 0 63 && (ref = 0 || ref = 2 || ref = 3) && (leAt b 0 1).testBit ref && fldIn b 2 1 4 12 &&
    fldIn b 3 1 0 63 && fldIn b 15 1 4 20 && fldIn b 24 1 1 60 && fldIn b 26 2 2 3600 && resv b 28 4

def okBasePos (x : PCtx) (b : Bytes) : Bool :=
  let mode := leAt b 0 1
  b.length = 136 && mode ≤ 2 && fldIn b 1 1 0 1 && resv b 2 2 && fldIn b 4 4 60 86400 && leAt b 4 4 ≤ leAt b 8 4 &&
    leAt b 8 4 ≤ 604800 && fldIn b 12 4 5 10000 && resv b 65 3 && resv b 132 4 &&
    (mode ≠ 0 || !allZero (slice b 16 24)) &&
    (leAt (x.sec T.GNSS_TRK) 0 1 = 0 || (leAt b 1 1).testBit 0 || mode ≠ 0)

/-! ### Corrections (R282, R316, R317) -/

/-- Do SOLVE and RTCM_OUT, where both stand, agree on SITE_XYZ? -/
def sitesAgree (x : PCtx) : Bool :=
  match x.sec? T.SOLVE, x.sec? T.RTCM_OUT with
  | some p, some q => slice p 8 24 = slice q 8 24
  | _, _ => true

def okRtcm (x : PCtx) (b : Bytes) : Bool :=
  b.length = 40 && fldIn b 0 2 0 4095 && fldIn b 2 1 0 7 && fldIn b 3 1 0 63 && fldIn b 4 1 1 60 && fldIn b 5 1 1 30 &&
    fldIn b 6 2 1 300 && resv b 36 4 && sitesAgree x

def okSolve (x : PCtx) (b : Bytes) : Bool :=
  b.length = 48 && fldIn b 0 1 15 100 && fldIn b 1 1 1 10 && fldIn b 2 1 4 20 && fldIn b 3 1 5 30 && fldIn b 4 1 1 10 &&
    fldIn b 5 1 0 7 && fldIn b 6 2 1 50 && resv b 32 16 && sitesAgree x

/-! ### MEMBERS, CLASSES, LANE_GRAPH (R151, R386–R391) -/

def okMembers (x : PCtx) (b : Bytes) : Bool :=
  let ms := membersOf b
  let solo (m : MemberRec) : Bool := (classOf (x.sec T.CLASSES) m.cls).selfSolve
  b.length = 8 + 16 * leAt b 0 2 && leAt b 0 2 ≤ 128 && resv b 2 6 &&
    (List.range (ms.length - 1)).all (fun k => (ms.map (·.id)).getD k 0 < (ms.map (·.id)).getD (k + 1) 0) &&
    (List.range ms.length).all (fun k => fldIn b (13 + 16 * k) 1 0 1) &&
    ms.all (fun m => 1 ≤ m.id && m.id ≤ 128 && m.groups < 2 ^ 15 && m.prio ≤ 15 && m.cls < leAt (x.sec T.CLASSES) 0 1) &&
    (ms.all solo || (x.sec? T.SOLVE).isSome) &&
    (ms.all (fun m => !solo m) || (match x.sec? T.RTCM_OUT with | some r => (leAt r 2 1).testBit 1 | none => false))

def okClasses (_ : PCtx) (b : Bytes) : Bool :=
  let n := leAt b 0 1
  b.length = 8 + 32 * n && 1 ≤ n && n ≤ 16 && resv b 1 7 &&
    (List.range n).all (fun c =>
      let o := 8 + 32 * c
      let k := classOf b c
      fldIn b o 1 0 1 && resv b (o + 1) 1 && resv b (o + 26) 6 && k.vmax ≠ 0 && k.acc ≠ 0 && k.dec ≠ 0 && k.jerk ≠ 0 &&
        k.edec ≠ 0 && k.alat ≠ 0 && k.dec ≤ k.edec && 10 ≤ k.tolPos && k.tolPos ≤ 5000 && k.tolT ≤ 2000 &&
        100 ≤ k.posStale && k.posStale ≤ 5000)

def rising (xs : List Nat) : Bool := (List.range (xs.length - 1)).all (fun k => xs.getD k 0 < xs.getD (k + 1) 0)

/-- π/2 in the fixed point of Geometry. -/
def fxHalfPi : Int := 28976077832308491369

/-- The chord of an arc of `q` mm at curvature `curv`, in units of 2^-64 mm (R388). -/
def chordOf (curv q : Int) : Int :=
  let a := curv * q * fxOne / 200000000
  2 * fxSin a * 100000000 / curv

/-- R390: is |CURV| × 10^-5 × chord at most 2, and LENGTH within 1 mm of the minor arc's length? The chord of an arc
grows with its length up to half a turn, so LENGTH − 1 and LENGTH + 1 enclose it. -/
def lengthOk (curv : Int) (len c2 : Nat) : Bool :=
  let k : Int := curv.natAbs
  let d2 : Int := c2
  if curv = 0 then decide (((len : Int) - 1) * ((len : Int) - 1) ≤ d2 ∧ d2 ≤ ((len : Int) + 1) * ((len : Int) + 1))
  else
    let lo := chordOf k ((len : Int) - 1)
    let hi := chordOf k ((len : Int) + 1)
    let half (q : Int) : Bool := k * q * fxOne / 200000000 ≤ fxHalfPi
    decide (k * k * d2 ≤ 40000000000000000) && half ((len : Int) - 1) && decide (lo * lo ≤ d2 * fxOne * fxOne) &&
      (!half ((len : Int) + 1) || decide (d2 * fxOne * fxOne ≤ hi * hi))

/-- R390's last check: no edge not incident to a PARK or WAIT node nearer to it than the largest FRONT or REAR. -/
def parkClear (g : Graph) (reach : Nat) : Bool :=
  g.nodes.all (fun n => !(n.park || n.wait) || g.edges.all (fun e => e.src = n.id || e.dst = n.id ||
    decide ((reach * reach : Nat) ≤ (g.nearest e (n.e, n.n)).1)))

def okGraph (x : PCtx) (b : Bytes) : Bool :=
  let g := graphOf b
  let nn := leAt b 0 2
  let ne := leAt b 2 2
  let nc := leAt b 4 2
  let cls := x.sec T.CLASSES
  let reach := (List.range (leAt cls 0 1)).foldl (fun m c => max m (max (classOf cls c).front (classOf cls c).rear)) 0
  b.length = 16 + 16 * nn + 16 * ne + 4 * nc && 1 ≤ nn && nn ≤ 4096 && 1 ≤ ne && ne ≤ 8192 && nc ≤ 16384 && resv b 6 10 &&
    rising (g.nodes.map (·.id)) && rising (g.edges.map (·.id)) && rising (g.confs.map (fun p => 65536 * p.1 + p.2)) &&
    g.nodes.all (·.id ≠ 0xFFFF) && g.edges.all (·.id ≠ 0xFFFF) &&
    (List.range nn).all (fun i => fldIn b (16 + 16 * i + 2) 2 0 3) &&
    g.confs.all (fun p => p.1 < p.2 && (g.edge? p.1).isSome && (g.edge? p.2).isSome) &&
    g.edges.all (fun e =>
      e.src ≠ e.dst && 1 ≤ e.len && e.len ≤ 16777215 &&
        (match g.node? e.src, g.node? e.dst with
          | some p, some q => lengthOk e.curv e.len (dist2 (p.e, p.n) (q.e, q.n)).toNat
          | _, _ => false) &&
        g.edges.all (fun f => !(f.src = e.dst && f.dst = e.src) || g.meets e.id f.id)) &&
    parkClear g reach

/-! ### WICKET, RECORDER (R466, R533) -/

def okAxis (x : PCtx) (b : Bytes) : Bool :=
  let f (o n : Nat) : Nat := leAt b o n
  let hg := f 1 1
  fldIn b 0 1 0 15 &&
    (if !(f 0 1).testBit 0 then allZero (b.drop 1)
    else
      (hg = 0xFF || (hg < 16 && (leAt (x.sec T.PINS) hg 1 = 0 || leAt (x.sec T.PINS) hg 1 = 4))) && fldIn b 2 2 10 1000 &&
        f 6 2 ≤ f 4 2 && f 4 2 < f 8 2 && f 8 2 * f 2 2 ≤ 2500000 && fldIn b 10 2 20 1000 && fldIn b 12 2 500 20000 &&
        fldIn b 14 2 100 2000 && fldIn b 16 2 10 5000 && fldIn b 18 2 120 600 && f 18 2 < f 20 2 && f 20 2 ≤ 600 &&
        fldIn b 22 1 30 90 && fldIn b 23 1 1 64 && f 28 4 ≠ 0 && f 32 4 ≠ 0 && f 36 4 ≠ 0 && f 36 4 ≤ f 40 4 &&
        f 44 4 ≠ 0 && leAtI b 48 4 < leAtI b 52 4 && f 56 2 ≠ 0 && resv b 58 6)

def okWicket (x : PCtx) (b : Bytes) : Bool :=
  b.length = 256 && (List.range 4).all (fun n => okAxis x (slice b (64 * n) 64))

def okRecorder (_ : PCtx) (b : Bytes) : Bool :=
  b.length = 2064 && fldIn b 0 1 0 1 && (if leAt b 0 1 = 1 then fldIn b 1 1 2 8 else leAt b 1 1 = 0) && resv b 2 14 &&
    (List.range 256).all (fun c =>
      let o := 16 + 8 * c
      let fl := leAt b o 1
      fl < 32 && fldIn b (o + 1) 1 1 255 && leAt b (o + 4) 4 < 2 ^ 17 && (!vbFixed c || fl.testBit 0) &&
        (128 ≤ c || (!fl.testBit 4 && (vbSystem.contains c || fl = 0))) && (c < 0x50 || 0x52 < c || !fl.testBit 1))

/-! ### All sections -/

/-- The content rule of a section type (check 14 of R140). -/
def contentRule (t : Nat) : PCtx → Bytes → Bool :=
  if t = T.SYSTEM then okSystem else if t = T.PINS then okPins else if t = T.POWER then okPower
  else if t = T.TASKS then okTasks else if t = T.RECORDER then okRecorder else if t = T.TIME then okTime
  else if t = T.GNSS_ACQ then okAcq else if t = T.GNSS_TRK then okTrk else if t = T.GNSS_INTEG then okInteg
  else if t = T.BASE_POS then okBasePos else if t = T.RTCM_OUT then okRtcm else if t = T.SOLVE then okSolve
  else if t = T.SLOTFRAME then okSlotframe else if t = T.BAND_A then okBand 0 else if t = T.BAND_B then okBand 1
  else if t = T.CELL_MAP then okCellMap else if t = T.MEMBERS then okMembers else if t = T.CLASSES then okClasses
  else if t = T.LANE_GRAPH then okGraph else okWicket

/-- The sections whose rules a changed section enters (R154: a swap is checked with the swapped sections in place). -/
def relatedTo (t : Nat) : List Nat :=
  if t = T.CLASSES then [T.MEMBERS, T.LANE_GRAPH, T.CELL_MAP] else if t = T.MEMBERS then [T.CELL_MAP] else []

/-- Does a section of an image meet its content rules, and those of the running plan's sections it enters? -/
def contentOk (x : PCtx) (inImage : List Nat) (t : Nat) : Bool :=
  contentRule t x (x.sec t) && (relatedTo t).all (fun u => inImage.contains u || contentRule u x (x.sec u))

end Sys2Proof.Machine
end

