-- ==== Sys2Proof/Machine/Sundial.lean ====
section
/-! DEFINITION. Sundial (spec/07_sundial_time.md): rates, steps and slews of the time bases, TB0's discipline and state,
compares, conversions, captures, PPS_OUT, SDL_ARM and SDL_STEER. -/
namespace Sys2Proof.Machine

def State.updSdl (s : State) (f : Sdl → Sdl) : State := { s with sdl := f s.sdl }

/-- TB0_SRC (R246). -/
def State.tb0Src (s : State) : Nat := s.timeF 0 1

/-! ### Rates (R219–R221) -/

/-- ADJ of a time base as the sum of its parts, clamped to ±500 ppm (R220). With D11 off TB1 holds the servo's last rate and
still follows FREQ (R245; DESIGN CHOICE, log entry 86). -/
def State.adjOf (s : State) (k : Nat) : Int :=
  let freq := s.getI F.SDL_FREQ
  let part := match k with
    | 0 => s.sdl.slew0
    | 1 => if s.eth.ptpSlave.isSome then s.eth.ptpRate else s.sdl.slew0
    | 2 => 0
    | _ => s.sdl.userAdj + s.sdl.slew3
  max (-32768000) (min 32768000 (freq + part))

/-- A time base anchored at now with a new rate: it does not jump (R221). -/
def State.retime (s : State) (k : Nat) (adj : Int) : State :=
  if (s.sdl.tbs.getD k {}).adj = adj then s
  else s.updSdl (fun d => { d with tbs := d.tbs.set k ⟨s.now, s.tbRaw k, adj⟩ })

/-- Every time base at the rate its parts give, SLEWING and the RATE registers with them. -/
def State.retimeAll (s : State) : State :=
  let s1 := [0, 1, 2, 3].foldl (fun (t : State) k => (t.retime k (t.adjOf k)).setI (F.SDL_TBk_RATE k) (t.adjOf k)) s
  let z := b2n (s.sdl.slew0 ≠ 0)
  let z1 := if s.eth.ptpSlave.isSome then b2n (s.eth.ptpRate ≠ 0) else z
  (((s1.setF F.SDL_STAT_SLEWING z).setF (F.SDL_TBk_STAT_SLEWING 0) z).setF (F.SDL_TBk_STAT_SLEWING 1) z1).setF
    (F.SDL_TBk_STAT_SLEWING 3) (b2n (s.sdl.slew3 ≠ 0))

/-- Does TB1 copy TB0: not a PTP time receiver, and TB0 does not follow TB1 (R220, R245)? -/
def State.tb1Copies (s : State) : Bool := s.eth.ptpSlave.isNone && s.tb0Src ≠ 2

/-- TB1 follows TB0 where it copies it. -/
def State.copyTb1 (s : State) : State :=
  if s.tb1Copies then s.updSdl (fun d => { d with tbs := d.tbs.set 1 (d.tbs.getD 0 {}) }) else s

/-- The first FRC value at which time base `k` reaches `t` ns. -/
def State.frcOf (s : State) (k t : Nat) : Nat :=
  let b := s.sdl.tbs.getD k {}
  let n : Int := (65536 * (t : Int) - b.ta) * 26000
  let d : Int := 65536000000 + b.adj
  ((b.fa : Int) + (n + d - 1) / d).toNat

/-! ### Compares (R233–R238) -/

/-- Owner of compare `i` of time base `k`. -/
def State.cmpOwner (s : State) (k i : Nat) : Nat := s.getF (F.SDL_CMP_CTRL_OWNER (32 * k + i))

/-- Does the owner permit an arm by firmware, a secure master, a non-secure one (R233)? -/
def State.cmpMay (s : State) (k i : Nat) (core secure : Bool) : Bool :=
  match s.cmpOwner k i with
  | 0 => core
  | 1 => secure
  | _ => true

/-- The target of a compare, ns. -/
def State.cmpTarget (s : State) (x : Nat) : Nat :=
  (s.getF (F.SDL_CMP_SEC_LO x) + 2 ^ 32 * s.getF (F.SDL_CMP_SEC_HI x)) * 1000000000 + s.getF (F.SDL_CMP_NS x)

def State.setCmpTarget (s : State) (x t : Nat) : State :=
  ((s.setF (F.SDL_CMP_NS x) (nsField t)).setF (F.SDL_CMP_SEC_LO x) (secField t)).setF (F.SDL_CMP_SEC_HI x)
    (secField t / 2 ^ 32)

/-- GPIO function of a pin (R145). -/
def State.gpioFn (s : State) (n : Nat) : Nat := leAt (s.sec T.PINS) n 1

/-- The PIN action on a GPIO with function 3; a PULSE lasts `us` µs, 0 acting as 1. -/
def State.pinAction (s : State) (n op us : Nat) : State :=
  if s.gpioFn n ≠ 3 then s
  else
    let lvl := s.pads.gpio.getD n false
    let rest := s.sdl.pulses.filter (·.1 ≠ n)
    let pul := s.sdl.pulses.any (·.1 = n)
    let v := match op with
      | 0 => true
      | 1 => false
      | 2 => !lvl
      | _ => if pul then lvl else !lvl
    { s with
      pads := { s.pads with gpio := s.pads.gpio.set n v }
      sdl := { s.sdl with pulses := if op = 3 then (n, s.now + 26 * max us 1) :: rest else rest } }

/-- FRC value `f` and all four time bases there latched into the conversion registers (R235). -/
def State.convertAt (s : State) (f : Nat) : State :=
  s.wrList (R.SDL_CONVj 0) ([word f, word (f / 2 ^ 32)] ++ [0, 1, 2, 3].flatMap (fun k =>
    let t := s.tbNsAt k f 0
    [word (nsField t), word (secField t), word (secField t / 2 ^ 32)]))

def State.convert (s : State) : State := s.convertAt s.now

/-- The FRC value of a compare's target: the tick in which its time base reaches it (R235, R236; DEDUCED, log entry 75). -/
def State.cmpFrc (s : State) (x : Nat) : Nat := s.frcOf (x / 32) (s.cmpTarget x)

/-- A SNAP or WAKE action is an event towards Lodge, a pulse of crossing 1 (R120; DEDUCED, log entry 73). The actions of
compare `i` of time base `k`, its FIRED flag and record (R235, R242), at its target or, late, now. -/
def State.cmpActions (s : State) (k i : Nat) (late : Bool) : State :=
  let x := 32 * k + i
  let act (f : Nat → Fld) : Bool := s.flag (f x)
  let frc := if late then s.now else s.cmpFrc x
  let s1 := if act F.SDL_CMP_ACT_PIN then
      s.pinAction (s.getF (F.SDL_CMP_ACT_GPIO x)) (s.getF (F.SDL_CMP_ACT_PIN_OP x)) (s.getF (F.SDL_CMP_ACT_PULSE_US x))
    else s
  let s2 := if act F.SDL_CMP_ACT_EVENT then
      (s1.raiseFlag (s.getF (F.SDL_CMP_EVT_TASK x)) (s.getF (F.SDL_CMP_EVT_FLAG x))).raiseTask 13
    else s1
  let s3 := if act F.SDL_CMP_ACT_WKT_START then (s2.xingPulse 6).wktStart (s.getF (F.SDL_CMP_EVT_AXES x)) else s2
  let s3l := if act F.SDL_CMP_ACT_SNAP ∨ act F.SDL_CMP_ACT_WAKE then s3.xingPulse 1 else s3
  let s4 := if act F.SDL_CMP_ACT_SNAP then s3l.snapCode 2 0x51 [byte k, byte i] else s3l
  let s5 := if act F.SDL_CMP_ACT_CONVERT then s4.convertAt frc else s4
  let s6 := s5.setF (F.SDL_CMP_CTRL_FIRED x) 1
  let s7 := if late then s6.setF (F.SDL_CMP_CTRL_LATE x) 1 else s6
  if act F.SDL_CMP_ACT_EVENT ∨ act F.SDL_CMP_ACT_PIN then
    s7.sdlEvent 2 i k (b2n late) (if late then s.tbNs k else s.cmpTarget x) frc (s.cmpOwner k i = 1)
  else s7

/-- A compare evaluated at the present (R234): it waits, fires late, or is missed; a periodic one goes to its next target
in the future. 0 waits, 1 fired late, 2 missed. -/
def State.cmpEval (s : State) (k i : Nat) : Nat × State :=
  let x := 32 * k + i
  let t := s.cmpTarget x
  let now := s.tbNs k
  let p := s.getF (F.SDL_CMP_PERIOD x)
  if now < t then (0, s.setF (F.SDL_CMP_CTRL_ARMED x) 1)
  else
    let miss := s.flag (F.SDL_CMP_ACT_DISCARD_IF_LATE x)
    let s1 := if miss then s.setF (F.SDL_CMP_CTRL_MISSED x) 1 else s.cmpActions k i true
    let j := if p = 0 then 0 else (now - t) / p + 1
    let s2 := if p = 0 then s1.setF (F.SDL_CMP_CTRL_ARMED x) 0
      else ((s1.setCmpTarget x (t + j * p)).incF (F.SDL_CMP_CTRL_SKIPPED x) (j - 1)).setF (F.SDL_CMP_CTRL_ARMED x) 1
    (if miss then 2 else 1, s2)

/-- Is an arm aimed at a task it may not signal (R235)? -/
def State.badTarget (s : State) (x : Nat) (secure : Bool) : Bool :=
  s.flag (F.SDL_CMP_ACT_EVENT x) && !s.mayEvent secure (s.getF (F.SDL_CMP_EVT_TASK x))

/-- Every armed compare of a time base re-evaluated after a step (R238). -/
def State.cmpStep (s : State) (k : Nat) : State :=
  (List.range 32).foldl (fun (t : State) i =>
    if t.flag (F.SDL_CMP_CTRL_ARMED (32 * k + i)) then (t.cmpEval k i).2 else t) s

/-- Is an index that of a compare? -/
def cmpIdx (k i : Nat) : Bool := k < 4 && i < 32

/-- A write of ARM to SDL_CMP_CTRL; with DISARM written too, DISARM wins. -/
def State.cmpArm (s : State) (m : Master) (k i : Nat) (disarm : Bool) : State :=
  let x := 32 * k + i
  if !s.cmpMay k i m.isCore m.secure then (if m.secure then s else s.secViol)
  else if disarm then s.setF (F.SDL_CMP_CTRL_ARMED x) 0
  else if s.badTarget x m.secure then s
  else (s.cmpEval k i).2

def State.cmpDisarm (s : State) (m : Master) (k i : Nat) : State :=
  if !s.cmpMay k i m.isCore m.secure then (if m.secure then s else s.secViol)
  else s.setF (F.SDL_CMP_CTRL_ARMED (32 * k + i)) 0

def execCmpArm (m : Master) (k i : Nat) (disarmToo : Bool) (s : State) : Host.Outcome State Fault Refusal :=
  .next (if cmpIdx k i then s.guardW m (R.SDL_CMP_CTRL (32 * k + i)) (1 + 2 * b2n disarmToo) (·.cmpArm m k i disarmToo)
    else s)

def execCmpDisarm (m : Master) (k i : Nat) (s : State) : Host.Outcome State Fault Refusal :=
  .next (if cmpIdx k i then s.guardW m (R.SDL_CMP_CTRL (32 * k + i)) 2 (·.cmpDisarm m k i) else s)

/-- Has an armed compare's time base reached its target? -/
def State.cmpDue (s : State) (x : Nat) : Bool := s.flag (F.SDL_CMP_CTRL_ARMED x) && s.cmpFrc x ≤ s.now

/-- A compare fires at its target: its actions; a periodic one waits for its next target. -/
def State.cmpHit (s : State) (x : Nat) : State :=
  let p := s.getF (F.SDL_CMP_PERIOD x)
  let s1 := s.cmpActions (x / 32) (x % 32) false
  if p = 0 then s1.setF (F.SDL_CMP_CTRL_ARMED x) 0 else s1.setCmpTarget x (s.cmpTarget x + p)

/-- An armed compare's time base reaches its target: every compare whose target falls in that FRC tick fires, by time base,
then by index (R234, R236). -/
def execCmpFire (k i : Nat) (s : State) : Host.Outcome State Fault Refusal :=
  .next (
    let x := 32 * k + i
    if !cmpIdx k i ∨ !s.domOn 2 ∨ !s.cmpDue x then s
    else ((List.range 128).filter (fun y => s.cmpDue y && s.cmpFrc y = s.cmpFrc x)).foldl State.cmpHit s)

/-- A compare's pulse ends after its PULSE_US: the GPIO returns to its level. -/
def execCmpPulseEnd (gpio : Nat) (s : State) : Host.Outcome State Fault Refusal :=
  .next (if s.sdl.pulses.any (fun p => p.1 = gpio && p.2 ≤ s.now) then { s with
      pads := { s.pads with gpio := s.pads.gpio.set gpio (!s.pads.gpio.getD gpio false) }
      sdl := { s.sdl with pulses := s.sdl.pulses.filter (·.1 ≠ gpio) } }
    else s)

def execConvGo (m : Master) (s : State) : Host.Outcome State Fault Refusal :=
  .next (s.guardW m R.SDL_CONV_GO 1 State.convert)

/-! ### Reads of a time base (R223) -/

/-- A sample of time base `k` for a master: the nanoseconds; the seconds and FRC latched for that master. -/
def State.tbSample (s : State) (m : Master) (k : Nat) : Word × State :=
  let t := s.tbNs k
  let put (s : State) (a v : Nat) : State := s.wr (bankAddr m a) (word v)
  (word (nsField t), put (put (put (put s (R.SDL_TBk_SEC_LO k) (secField t)) (R.SDL_TBk_SEC_HI k) (secField t / 2 ^ 32))
    (R.SDL_TBk_SMP_FRC_LO k) s.now) (R.SDL_TBk_SMP_FRC_HI k) (s.now / 2 ^ 32))

/-- A read of SDL_TBk_NS. -/
def execTbNsRead (m : Master) (k : Nat) (s : State) : Host.Outcome State Fault Refusal :=
  .next (
    let a := R.SDL_TBk_NS k
    if 3 < k then s
    else match s.rdAcc m a with
      | .ok =>
        let r := s.tbSample m k
        { r.2 with bus := [r.1.setWidth 64] }
      | .viol => { s.secViol with bus := [0] }
      | .none => { s with bus := [0] }
      | .held d => s.domEvent d (.regRead m a))

/-! ### TB0's state (R225–R232) -/

/-- The slot timeline runs (R231); see also `slotRunDue`. -/
def State.setSlotRun (s : State) : State := s.setF F.SDL_STAT_SLOT_RUN 1

/-- STATE written, with STATE_CHG and the STATE event of a change. -/
def State.tbState (s : State) (st : Nat) : State :=
  if s.getF F.SDL_STAT_STATE = st then s
  else
    let s1 := (s.setF F.SDL_STAT_STATE st).setF F.SDL_STAT_STATE_CHG 1
    let s2 := if st = Tb.LOCKED then (s1.setF F.SDL_STAT_UNTRUSTED 0).setSlotRun else s1
    s2.sdlEvent 3 st 0 0 (s.tbNs 0) s.now

def State.untrusted (s : State) : State :=
  let s1 := (s.setF F.SDL_STAT_UNTRUSTED 1).setF F.SDL_STAT_UNTRUSTED_SEEN 1
  if s.timeFlag 3 then { s1 with pads := { s1.pads with ppsOut := false } } else s1

/-- Is TB0's source valid now? -/
def State.srcValid (s : State) : Bool :=
  match s.tb0Src with
  | 0 => s.domOn 6 && s.flag F.BV_STAT_TIME_VALID
  | 1 => s.flag F.SDL_STAT_PPS_IN_OK && s.sdl.todGiven
  | _ => s.eth.ptpSlave.isSome && s.eth.ptpLocked

/-- TB1 copies TB0; where it stood elsewhere until now, a jump to TB0, which is a step of TB1 (R221, R238, R245; DEDUCED,
log entry 75). -/
def State.joinTb1 (s : State) : State :=
  if !s.tb1Copies ∨ s.tbRaw 1 = s.tbRaw 0 then s.copyTb1
  else (s.copyTb1.setF (F.SDL_TBk_STAT_STEPPED 1) 1).cmpStep 1

def State.enterHoldover (s : State) : State :=
  ((s.updSdl (fun d => { d with slew0 := 0 })).retimeAll.joinTb1).tbState Tb.HOLDOVER

/-- TB0 is stepped by `d` ns (R230, R232, R238): TB1 with it where it copies TB0; the first whole slot of the new timeline
starts next; STEPPED, the STEP event, a record; the members' estimates start again at that slot, beacons carry STEPPED for
three slotframes; Belvedere misses the epochs passed over (R262); Pergola's windows move (R419). A measurement of the present second moves with
TB0 (DEDUCED, log entry 75); the record carries TB0's time after the step (DESIGN CHOICE, log entry 86). -/
def State.stepTb0 (s : State) (d : Int) : State :=
  let old := s.sdl.tbs.getD 0 {}
  let was := s.tbRaw 0 / 65536
  let s1 := (s.updSdl (fun z => { z with
    tbs := z.tbs.set 0 ⟨s.now, s.tbRaw 0 + d * 65536, old.adj⟩, stepBy := none, stepItem := false
    extOff := z.extOff.map (· + d) })).copyTb1
  let s2 := ((s1.setF F.SDL_STAT_STEPPED 1).setF (F.SDL_TBk_STAT_STEPPED 0) 1).setF F.SDL_STAT_STEP_PEND 0
  let s3 := if s.tb1Copies then s2.setF (F.SDL_TBk_STAT_STEPPED 1) 1 else s2
  let first := (s3.tbNs 0 + 2499999) / 2500000 * 2500
  let s4 := (s3.updFleet (fun f => { f with
    steppedLeft := 4, mbrs := f.mbrs.map (fun (x : Mbr) => { x with ofs := 0, te := first }) })).updSdl (fun z => { z with
    lastSlot := if s3.tbNs 0 % 2500000 = 0 then none else some (asnOf (s3.tbNs 0)) })
  let s5 := (s4.sdlEvent 4 0 0 0 (s4.tbNs 0) (d % 2 ^ 64).toNat).vbTrigger 0x18 (leBytesI 8 d)
  let s6 := s5.cmpStep 0
  ((if s.tb1Copies then s6.cmpStep 1 else s6).bvStepped was.toNat (was + d).toNat).pglStep d ((was + d) / 2500000 - was / 2500000)

/-- SLEW_0 that removes min(|offset|, 250 ns) over a second: 65.536 units for each ns/s. -/
def slewFor (off : Int) : Int :=
  let n : Int := min (Int.natAbs off : Int) 250
  let u := n * 65536 / 1000
  if 0 < off then -u else u

/-- The offset of TB0 from its source: that of Belvedere's solution of this second, of an EXT source's edge in this
second, from TB1 as a PTP receiver. -/
def State.tb0Offset (s : State) : Option Int :=
  match s.tb0Src with
  | 0 => s.bv.meas
  | 1 => s.sdl.extOff
  | _ => some ((s.tbRaw 0 - s.tbRaw 1) / 65536)

/-- A valid measurement (R227, R230). An offset over 1 ms is stepped where STEP_ALLOWED permits, any other slewed, and a step
that waited for an earlier one lapses; a step an SDL_STEER item asked for stays (R248). -/
def State.measured0 (s : State) (off : Int) (est : Nat) : State :=
  let st := s.getF F.SDL_STAT_STATE
  let near := Int.natAbs off ≤ 20
  let s0 := (s.updSdl (fun d => { d with holdFrom := s.now })).setI F.SDL_OFFSET (satI32 off)
  if st = Tb.FREE then (s0.stepTb0 (-off)).tbState Tb.LOCKING
  else
    let nst := if st = Tb.LOCKED then (if 100 < Int.natAbs off then Tb.LOCKING else Tb.LOCKED)
      else if near then Tb.LOCKED else Tb.LOCKING
    let far := 1000000 < Int.natAbs off ∧ s.flag F.SDL_CTRL_STEP_ALLOWED
    let s1 := s0.tbState nst
    let s2 := if nst = Tb.LOCKED then s1.updSdl (fun d => { d with e0 := est }) else s1
    let s3 := s2.updSdl (fun d => { d with
      stepBy := if d.stepItem then d.stepBy else if far then some (-off) else none
      slew0 := if far then 0 else slewFor off })
    (s3.setF F.SDL_STAT_STEP_PEND (b2n s3.sdl.stepBy.isSome)).retimeAll.joinTb1

/-! ### The PTP instance's ports (R243) -/

/-- PTP_PORTS names the port (R246). -/
def State.ptpPort (s : State) (n : Nat) : Bool := s.planActive && s.timeF 16 1 ≠ 0 && (s.timeF 17 1).testBit n

/-- The state a port of the PTP instance is in. -/
def State.ptpState (s : State) (n : Nat) : Nat := s.getF ⟨R.SDL_PTP_STAT, 4 * n, 4⟩

/-- A port's state; the clients of a port that is no longer MASTER are forgotten. -/
def State.ptpSet (s : State) (n st : Nat) : State :=
  let s1 := s.setF ⟨R.SDL_PTP_STAT, 4 * n, 4⟩ st
  if st = 6 then s1
  else { s1 with eth := { s1.eth with ptpClients := s1.eth.ptpClients.filter (·.1 ≠ n) } }

/-- The instance's time-receiver port: TB1 runs on at the rate its parts now give; TB1 that copies TB0 again joins it
(R220, R221, R245). -/
def State.ptpFollow (s : State) (p : Option Nat) : State :=
  if s.eth.ptpSlave = p then s
  else ({ s with eth := { s.eth with ptpSlave := p, ptpLocked := false, ptpRate := 0 } } : State).retimeAll.joinTb1

/-- A port that has heard no event message for 6 s: it becomes MASTER, or LISTENING where ROLE makes it a time receiver only
(PRESUMED, log entry 70). -/
def State.ptpSilent (s : State) (n : Nat) : State :=
  let st := if s.timeF 23 1 = 2 then 4 else 6
  if s.ptpPort n ∧ s.flag (F.ETH_Pn_STAT_PTP n) ∧ s.domOn 3 ∧ s.domOn 11 ∧ !s.testing n ∧ s.ptpState n ≠ st ∧
      s.since (s.eth.ptpRx.getD n 0) 6000000 then
    (s.ptpSet n st).ptpFollow (if s.eth.ptpSlave = some n then none else s.eth.ptpSlave)
  else s

/-- A TB0 second has begun (R226–R231): the measurement against the source, FREQ as firmware adjusts it, the frequency uncertainty
`func` up to the loss. With REF10_IN measured, FREQ follows it in HOLDOVER too (DESIGN CHOICE, log entry 76: R226 against
R228). Without a plan there is no source. -/
def execTb0Second (freq : Int) (est func : Nat) (s : State) : Host.Outcome State Fault Refusal :=
  .next (
    if s.power.off ∨ !s.reached 0 1000000000 then s
    else
      let s := [0, 1].foldl State.ptpSilent s
      let src : Bool := s.planActive && s.srcValid
      let ok := src && !s.degraded && s.tb0Offset.isSome
      let ref := s.planActive && s.timeFlag 1 && s.flag F.SDL_STAT_REF10_OK
      let st := s.getF F.SDL_STAT_STATE
      let s0 := (s.setF F.SDL_STAT_SRC_OK (b2n src)).updSdl (fun d =>
        if st = Tb.HOLDOVER then d else { d with func := func })
      let s1 := if ok ∨ ref then (s0.setI F.SDL_FREQ (max (-32768000) (min 32768000 freq))).retimeAll.joinTb1 else s0
      let s2 := ((if src ∧ s.tb0Src ≠ 0 then s1.setSlotRun else s1).updBv (fun b => { b with meas := none })).updSdl
        (fun d => { d with extOff := none })
      if ok then s2.measured0 (s.tb0Offset.getD 0) est
      else if st = Tb.LOCKING ∨ st = Tb.LOCKED then s2.enterHoldover
      else s2)

/-- HOLD_LIMIT in s; 60 where no plan gives it (R228). -/
def State.holdLimit (s : State) : Nat := if s.planActive then s.timeF 2 2 else 60

def execHoldLimitExpiry (s : State) : Host.Outcome State Fault Refusal :=
  .next (if s.getF F.SDL_STAT_STATE = Tb.HOLDOVER ∧ s.holdLimit ≤ s.holdTime then s.untrusted else s)

/-- Is a TB0 step due in this tick: at a slotframe boundary while SLOT_RUN is set, else at a TB0 second (R230)? -/
def State.stepDue (s : State) : Bool :=
  if s.flag F.SDL_STAT_SLOT_RUN then s.reached 0 2500000 && asnOf (s.tbNs 0) % max s.slotL 1 = 0
  else s.reached 0 1000000000

/-- A pending step is applied when it is due; one that STEP_ALLOWED no longer permits lapses, but where an SDL_STEER item was
granted it (R230, R248). -/
def execTb0StepApply (s : State) : Host.Outcome State Fault Refusal :=
  .next (match s.sdl.stepBy with
    | some d =>
      if !s.stepDue then s
      else if s.sdl.stepItem ∨ s.flag F.SDL_CTRL_STEP_ALLOWED then s.stepTb0 d
      else (s.updSdl (fun z => { z with stepBy := none })).setF F.SDL_STAT_STEP_PEND 0
    | none => s)

def execRef10OkSet (s : State) : Host.Outcome State Fault Refusal :=
  .next (if s.power.off then s else s.setF F.SDL_STAT_REF10_OK 1)

def execRef10Loss (s : State) : Host.Outcome State Fault Refusal :=
  .next (s.setF F.SDL_STAT_REF10_OK 0)

/-! ### Captures and PPS (R239, R240) -/

/-- A CAPTURE record of an edge `phase` sixteenths of a tick after FRC. -/
def State.capture (s : State) (index phase : Nat) : State :=
  s.sdlEvent 1 index 0 0 (s.tbNsAt 0 s.now (phase % 16)) s.now

/-- Are three edges 1 s ± 1 µs apart, newest first? -/
def ppsSteady : List Nat → Bool
  | a :: b :: c :: _ => 999999000 ≤ a - b && a - b ≤ 1000001000 && 999999000 ≤ b - c && b - c ≤ 1000001000
  | _ => false

/-- An edge of PPS_IN: a capture, and a wake source (R97, R239). -/
def execPpsInEdge (phase : Nat) (s : State) : Host.Outcome State Fault Refusal :=
  .next (
    if s.power.off then s
    else
      let t := s.tbNsAt 0 s.now (phase % 16)
      let c := ((t : Int) - leAtI (s.sec T.TIME) 12 2).toNat
      let edges := (t :: s.sdl.ppsEdges).take 3
      let s1 := (s.wakeBy 4).capture 0 phase
      let s2 := ((s1.setF F.SDL_CAP_PPS_NS (nsField c)).setF F.SDL_CAP_PPS_SEC_LO (secField c)).setF F.SDL_CAP_PPS_SEC_HI
        (secField c / 2 ^ 32)
      let sec : Option Nat := match s.sdl.todAt with | some x => some x | none => s.sdl.extSec.map (· + 1)
      let s3 := s2.updSdl (fun d => { d with
        ppsEdges := edges, ppsInFrc := s.now
        extSec := sec, extOff := sec.map (fun x => (c : Int) - 1000000000 * (x : Int))
        todAt := none, todGiven := d.todGiven || d.todAt.isSome })
      if ppsSteady edges then s3.setF F.SDL_STAT_PPS_IN_OK 1 else s3)

/-- 1.1 s without an edge: the time of day given is no longer known (log entry 30). -/
def execPpsInLoss (s : State) : Host.Outcome State Fault Refusal :=
  .next (if s.since s.sdl.ppsInFrc 1100000 then
      (s.setF F.SDL_STAT_PPS_IN_OK 0).updSdl (fun d => { d with
        ppsEdges := [], todGiven := false, extSec := none, extOff := none })
    else s)

/-- An edge of SNAP_IN: a capture, a SNAP, and a wake source (R97, R239, R520). -/
def execSnapInEdge (phase : Nat) (s : State) : Host.Outcome State Fault Refusal :=
  .next (if s.power.off then s else ((s.wakeBy 5).capture 1 phase).snapCode 1 0x50 [])

def execGpioCaptureEdge (pin phase : Nat) (s : State) : Host.Outcome State Fault Refusal :=
  .next (if s.power.off ∨ 15 < pin ∨ s.gpioFn pin ≠ 4 then s else s.capture (16 + pin) phase)

/-- PPS_WIDTH_US; the default without a plan (R246). -/
def State.ppsWidth (s : State) : Nat := if s.planActive then s.timeF 8 4 else 100000

/-- PPS_OUT rises at a whole second of the time base PPS_OUT_TB, unless it is off, or squelched (R229, R240). -/
def execPpsOutPulse (s : State) : Host.Outcome State Fault Refusal :=
  .next (
    let squelch := s.timeFlag 3 ∧ (s.flag F.SDL_STAT_UNTRUSTED ∨ s.getF F.SDL_STAT_STATE = Tb.FREE)
    if s.power.off ∨ !s.flag F.SDL_CTRL_PPS_OUT_EN ∨ squelch ∨ !s.reached (s.timeF 6 1) 1000000000 then s
    else { s with pads := { s.pads with ppsOut := true }, sdl := { s.sdl with ppsFrc := s.now } })

/-- PPS_OUT falls after its width. -/
def execPpsOutFall (s : State) : Host.Outcome State Fault Refusal :=
  .next (if s.pads.ppsOut ∧ s.since s.sdl.ppsFrc s.ppsWidth then { s with pads := { s.pads with ppsOut := false } } else s)

/-- PPS_OUT stays low while PPS_OUT_EN is clear (R240). -/
def State.ppsGate (s : State) : State :=
  if s.flag F.SDL_CTRL_PPS_OUT_EN then s else { s with pads := { s.pads with ppsOut := false } }

/-! ### Work items (R247, R248) -/

def execSdlArm (wid : Nat) (s : State) : Host.Outcome State Fault Refusal :=
  .next (match s.active? wid W.SDL_ARM with
    | none => s
    | some i =>
      let k := bitsOf (i.arg 0) 0 2
      let n := bitsOf (i.arg 0) 8 5
      let x := 32 * k + n
      let secure : Bool := i.grp ≠ .ns
      if !s.domOn 2 then s
      else if i.payload.length ≠ 8 then s.finish wid St.BAD_ARG
      else if !s.cmpMay k n (i.grp = .int) secure then s.finish wid 0x82
      else if (i.arg 0).testBit 16 then (s.setF (F.SDL_CMP_CTRL_ARMED x) 0).finish wid St.OK
      else
        let act := leAt i.payload 0 4
        let evt := leAt i.payload 4 4
        if act.testBit 1 ∧ !s.mayEvent secure (bitsOf evt 0 8) then s.finish wid 0x83
        else
          let s1 := (((s.setF (F.SDL_CMP_NS x) (i.arg 1)).setF (F.SDL_CMP_SEC_LO x) (i.arg 2)).setF (F.SDL_CMP_SEC_HI x)
            (i.arg 3)).setF (F.SDL_CMP_PERIOD x) (i.arg 4)
          let s2 := (s1.wr (R.SDL_CMP_ACT x) (word (act &&& 0xFFFFF37F))).wr (R.SDL_CMP_EVT x) (word (evt &&& 0xF1FFF))
          let r := s2.cmpEval k n
          r.2.finish wid (if r.1 = 1 then 0x80 else if r.1 = 2 then 0x81 else St.OK))

/-- An SDL_STEER item of a mode; another time base than the mode permits completes REFUSED. -/
def State.steerItem (s : State) (wid mode : Nat) (ok : WItem → Bool) (k : WItem → State) : State :=
  match s.active? wid W.SDL_STEER with
  | some i =>
    if 3 < i.arg 1 then s.finish wid 0x84
    else if i.arg 1 ≠ mode then s
    else if !ok i then s.finish wid 0x84
    else k i
  | none => s

def execSdlSteerRate (wid : Nat) (s : State) : Host.Outcome State Fault Refusal :=
  .next (s.steerItem wid 0 (fun i => bitsOf (i.arg 0) 0 2 = 3) (fun i =>
    ((s.updSdl (fun d => { d with userAdj := (BitVec.ofNat 32 (i.arg 2)).toInt })).retimeAll).finish wid St.OK))

def execSdlSteerSlew (wid : Nat) (s : State) : Host.Outcome State Fault Refusal :=
  .next (s.steerItem wid 1 (fun i => bitsOf (i.arg 0) 0 2 = 3) (fun i =>
    let off := (BitVec.ofNat 32 (i.arg 2)).toInt
    let r : Int := i.arg 3
    if i.arg 3 = 0 ∨ 500000 < i.arg 3 then s.finish wid St.BAD_ARG
    else
      let u := r * 65536 / 1000
      let v := if off = 0 then 0 else if 0 < off then -u else u
      ((s.updSdl (fun d => { d with slew3 := v, slew3Left := off, slew3Frc := s.now })).retimeAll).finish wid St.OK))

/-- Has TB3's slew of SLEW/65 536 ppm removed its offset? The time is that of the slew's own rate, whether or not the clamp of
R220 limits ADJ_3 (DESIGN CHOICE, log entry 86). -/
def State.slewOver (s : State) : Bool :=
  s.sdl.slew3Left.natAbs * (26000 * 65536) ≤ (s.now - s.sdl.slew3Frc) * s.sdl.slew3.natAbs

/-- TB3's slew has removed its offset. -/
def execTbSlewDone (s : State) : Host.Outcome State Fault Refusal :=
  .next (if s.sdl.slew3 = 0 ∨ !s.slewOver then s
    else (s.updSdl (fun d => { d with slew3 := 0, slew3Left := 0 })).retimeAll)

def execSdlSteerStep (wid : Nat) (s : State) : Host.Outcome State Fault Refusal :=
  .next (s.steerItem wid 2
    (fun i => bitsOf (i.arg 0) 0 2 = 3 ||
      (bitsOf (i.arg 0) 0 2 = 0 && s.tb0Src = 1 && s.flag F.SDL_CTRL_STEP_ALLOWED))
    (fun i =>
      let t : Int := ((i.arg 3 + 2 ^ 32 * bitsOf (i.arg 4) 0 16) * 1000000000 + i.arg 2 : Nat)
      if bitsOf (i.arg 0) 0 2 = 0 then
        ((s.updSdl (fun d => { d with stepBy := some (t - s.tbRaw 0 / 65536), stepItem := true })).setF F.SDL_STAT_STEP_PEND 1).finish wid St.OK
      else
        let old := s.sdl.tbs.getD 3 {}
        let s1 := (s.updSdl (fun d => { d with tbs := d.tbs.set 3 ⟨s.now, t * 65536, old.adj⟩ })).setF (F.SDL_TBk_STAT_STEPPED 3) 1
        (s1.cmpStep 3).finish wid St.OK))

def execSdlSteerTod (wid : Nat) (s : State) : Host.Outcome State Fault Refusal :=
  .next (s.steerItem wid 3 (fun i => bitsOf (i.arg 0) 0 2 = 0 && s.tb0Src = 1) (fun i =>
    (s.updSdl (fun d => { d with todAt := some (i.arg 3 + 2 ^ 32 * bitsOf (i.arg 4) 0 16) })).finish wid St.OK))

end Sys2Proof.Machine
end

