-- ==== Sys2Proof/Machine/Done.lean ====
section
/-! DEFINITION. How work items end (spec/06_arbour_scheduler.md R203, R210–R215): completion records and their windows,
items completed together, the loss of D3. -/
namespace Sys2Proof.Machine

/-- The bytes of a completion record (R212). -/
def recordOf (typ task status tag : Nat) (result : Bytes) (core frc : Nat) : Bytes :=
  leBytes 2 typ ++ [byte task, byte status] ++ leBytes 4 tag ++ leBytes 2 result.length ++ [byte core, byte 0] ++
    leBytes 4 frc ++ result

def State.updArb (s : State) (f : Arb → Arb) : State := { s with arb := f s.arb }

/-- The records of a group held on its WI_DONE window's side (R215). -/
def State.waits (s : State) (g : Grp) : List Bytes := match g with | .sec => s.arb.waitS | _ => s.arb.waitNs

def State.setWaits (s : State) (g : Grp) (w : List Bytes) : State :=
  s.updArb (fun a => match g with
    | .sec => { a with waitS := w }
    | _ => { a with waitNs := w })

def Phase.isDone : Phase → Bool
  | .done _ => true
  | _ => false

/-- The core a completion record names; 255 where none ran the item. -/
def Phase.core : Phase → Nat
  | .running c => c
  | .waiting c => c
  | .done c => c
  | .queued => 255

/-- The completed items of a group that wait for their window, oldest first (R210). -/
def State.doneWaiting (s : State) (g : Grp) : List WItem :=
  s.arb.items.filter (fun i => i.grp = g && i.phase.isDone)

/-- May a record of `n` bytes be pushed at once: D2 on, nothing of the group waiting, room? -/
def State.canPush (s : State) (g : Grp) (n : Nat) : Bool :=
  s.domOn 2 && (s.waits g).isEmpty && (s.doneWaiting g).isEmpty && s.hasRoom (doneWin g) (packLen n)

/-- A packet of the Isben link sent and kept (R508): the reply to a command. -/
def State.svcReply (s : State) (cmd seq status : Nat) (data : Bytes := []) : State :=
  let body := leBytes 2 (1 + data.length) ++ [byte (cmd + 0x80), byte seq, byte status] ++ data
  let p := byte 0xA5 :: (body ++ leBytes 4 (crc32c body))
  { s with svc := { s.svc with keptSeq := some seq, kept := p, sent := p } }

/-- A done item's completion record; its `stamp` holds the FRC of its completion. -/
def WItem.record (i : WItem) : Bytes := recordOf i.typ i.task i.status i.tag i.result i.phase.core (i.stamp % 2 ^ 32)

/-- An item completes (R210, R212): its core is idle again; its record is pushed, or waits with the item in flight; a QUIET
item with OK and an internal item leave none; an item of the Isben link is answered there (R509). -/
def State.complete (s : State) (wid : Nat) : State :=
  match s.item? wid with
  | none => s
  | some i =>
    let i' : WItem := { i with phase := .done i.phase.core, stamp := s.now, finished := true }
    let org : Bool := i.typ = W.ORG_KEY_UPDATE || i.typ = W.ORG_DERIVE
    let s1 := (if org then s.idleStart 13 else s).updArb (fun a => { a with
      items := a.items.filter (·.wid ≠ wid)
      cores := match i.phase with
        | .running c => a.cores.set c 0
        | _ => a.cores })
    if s.linkItem wid then
      let seq := (s.svc.submit.map (·.1)).getD 0
      { s1 with svc := { s1.svc with submit := none } }.svcReply 5 seq 0 i'.record
    else if i.grp = .int ∨ (i.quiet ∧ i.status = St.OK) then s1
    else if s1.canPush i.grp i'.record.length then s1.pushPkt (doneWin i.grp) i'.record
    else s1.updArb (fun a => { a with items := a.items ++ [i'] })

/-- Items ended with a status and completed. -/
def State.completeAll (s : State) (wids : List Nat) (status : Nat) : State :=
  wids.foldl (fun t w => (t.finish w status).complete w) s

/-- A record of a refusal (R209, R215): pushed at once, or held on the window's side. -/
def State.pushRefusal (s : State) (g : Grp) (b : Bytes) : State :=
  if s.canPush g b.length then s.pushPkt (doneWin g) b else s.setWaits g (s.waits g ++ [b])

/-- The undispatched items of the QUEUE tasks that serve a domain; they complete DOMAIN_FAULT in LOCKOUT (R203). -/
def State.lockoutItems (s : State) (d : Nat) : State :=
  s.completeAll ((s.arb.items.filter (fun i => i.phase = .queued &&
    (s.task? i.task).any (fun t => t.dom = d))).map (·.wid)) St.DOMAIN_FAULT

/-- The epoch record of a new epoch (R212, R215). -/
def State.epochRecord (s : State) : Bytes := recordOf 0xFFFF 0 St.RESTARTED (s.getF F.ARB_EPOCH_EPOCH) [] 255 (s.now % 2 ^ 32)

/-- Is a waiting record an epoch record: TYPE 0xFFFF and STATUS RESTARTED, which no refusal carries (R209, R215)? -/
def isEpoch (b : Bytes) : Bool := leAt b 0 2 = 0xFFFF && leAt b 3 1 = St.RESTARTED

/-- The host-to-device mailbox channels (R175). -/
def h2dChannels : List Nat := [0, 1, 2, 3, 4, 5, 6, 7, 16, 17, 18, 19, 20, 21, 22, 23]

/-- D3 leaves ON or is reset (R215): every item and flag is lost, ARB_EPOCH rises, an epoch record becomes due in each
window behind the refusals that wait and the records of earlier losses, of which each has its own (DESIGN CHOICE, log entry 85);
posted messages of host-to-device channels are due again (R179). -/
def State.loseD3 (s : State) : State :=
  let e := (s.getF F.ARB_EPOCH_EPOCH + 1) % 65536
  let s1 := s.setF F.ARB_EPOCH_EPOCH e
  let due := h2dChannels.filter (fun c => s.flag (F.MBX_CTRL_GO c))
  { s1.updArb (fun a => { a with
      items := [], tasks := [], cores := List.replicate 8 0, waitInternal := [], repost := due, coreFaults := []
      waitS := a.waitS ++ [s1.epochRecord]
      waitNs := a.waitNs ++ [s1.epochRecord] }) with
    svc := { s1.svc with submit := none }
    power := { s1.power with held := s1.power.held.filter (fun h => match h.2 with
      | .go _ => false
      | _ => true) } }

end Sys2Proof.Machine
end

