-- ==== Sys2Proof/Machine/Mailbox.lean ====
section
/-! DEFINITION. Mailboxes, claims and stream windows as masters use them (spec/05_host_port_mailboxes.md R175–R194). -/
namespace Sys2Proof.Machine

/-- A session of the update controller ends with a code (spec/16 R503, R505); an activation under way is not ended. -/
def State.updEnd (s : State) (code part : Nat) : State :=
  if s.getF F.UPD_STAT_LOCK = 0 ∨ s.getF F.UPD_STAT_SESSION = 4 then s
  else
    { ((((s.setF F.UPD_STAT_SESSION 0).setF F.UPD_STAT_LOCK 0).setF F.UPD_STAT_SESSION_END 1).setF F.UPD_ERR_ERROR
        code).setF F.UPD_ERR_PART part with upd := {} }

/-- The lock of a source released without an activation: the session ends ABORTED (R505). -/
def State.updRelease (s : State) (lock : Nat) : State :=
  if s.getF F.UPD_STAT_LOCK = lock then s.updEnd 0x30 0 else s

/-! ### Mailboxes -/

/-- Is the channel host to device (R175)? -/
def chanH2d (c : Nat) : Bool := h2dChannels.contains c

/-- May the side of the master send on the channel? -/
def chanSender (m : Master) (c : Nat) : Bool := chanH2d c != m.isCore

/-- The task and flag a host-to-device channel maps to; none where it is unmapped (R211, R217). -/
def State.mbxMap? (s : State) (c : Nat) : Option (Nat × Nat) :=
  let e := leAt (s.sec T.TASKS) (16 + 2 * (if c < 8 then c else c - 8)) 2
  if s.planActive ∧ chanH2d c ∧ bitsOf e 0 8 ≠ 0 then some (bitsOf e 0 8, bitsOf e 8 5) else none

/-- The wake of a posted host-to-device message raised: a flag, or an internal item of task 15 (R177, R568). -/
def State.mbxWake (s : State) (c : Nat) : State :=
  match s.mbxMap? c with
  | none => s
  | some (t, f) => if t = 15 then s.raiseTask 15 else s.raiseFlag t f

/-- A GO accepted (R176, R177). -/
def State.mbxPostMsg (s : State) (c : Nat) : State :=
  let s1 := (((s.setF (F.MBX_CTRL_GO c) 1).setF (F.MBX_STAT_POSTED c) 1).setF (F.MBX_STAT_POSTS c)
    (s.getF (F.MBX_STAT_POSTS c) + 1)).setF (F.MBX_STAT_DIRTY c) 0
  let s2 : State := { s1 with mbxDirty := s1.mbxDirty.filter (· ≠ c) }
  if !chanH2d c then s2
  else if s2.domOn 3 then s2.mbxWake c
  else s2.domEvent 3 (.go c)

/-- A word written to MBX_CTRL (R176–R178, R217). A write with TAKE alone writes no LEN and no TAG (log entry 31). -/
def State.mbxCtrlWrite (s : State) (m : Master) (c v : Nat) : State :=
  let send := chanSender m c
  if s.flag (F.MBX_CTRL_GO c) then
    if v.testBit 1 ∧ !send then
      let s1 := (s.setF (F.MBX_CTRL_GO c) 0).setF (F.MBX_STAT_POSTED c) 0
      if chanH2d c then s1.irqGrp (16 ≤ c) Irq.MBX_TAKEN else s1
    else s.setF (F.MBX_STAT_WR_IGNORED c) 1
  else if v.testBit 1 ∧ !v.testBit 0 then s
  else
    let s1 := (s.setF (F.MBX_CTRL_LEN c) (min (bitsOf v 2 5) 16)).setF (F.MBX_CTRL_TAG c) (bitsOf v 8 8)
    let s2 : State := { s1 with mbxDirty := c :: s1.mbxDirty.filter (· ≠ c) }
    if !v.testBit 0 ∨ !send then s2
    else if chanH2d c ∧ (s.mbxMap? c).isNone then s2.setF (F.MBX_STAT_WR_IGNORED c) 1
    else s2.mbxPostMsg c

/-- A word written to a data register (R178). -/
def State.mbxDataWrite (s : State) (c k v : Nat) : State :=
  if s.flag (F.MBX_CTRL_GO c) then s.setF (F.MBX_STAT_WR_IGNORED c) 1
  else (s.wr (0x30000 + 0x80 * c + 4 * k) (word v)).setBit (F.MBX_STAT_DIRTY c) k

/-- A reset of the sender of a channel: without a posted message, what was written since the last GO reads 0 and
DISCARDED is set (R180); DIRTY stays until a GO. -/
def State.senderReset (s : State) (c : Nat) : State :=
  if s.flag (F.MBX_CTRL_GO c) then s
  else
    let d := s.getF (F.MBX_STAT_DIRTY c)
    let ctl := s.mbxDirty.contains c
    let s1 := (List.range 16).foldl (fun t k => if d.testBit k then t.wr (0x30000 + 0x80 * c + 4 * k) 0 else t) s
    let s2 := if ctl then (s1.setF (F.MBX_CTRL_LEN c) 0).setF (F.MBX_CTRL_TAG c) 0 else s1
    if d = 0 ∧ !ctl then s
    else s2.setF (F.MBX_STAT_DISCARDED c) 1

/-- The device-to-host channels of a group (R175). -/
def d2hOf (sec : Bool) : List Nat := if sec then [24, 25, 26, 27, 28, 29, 30, 31] else [8, 9, 10, 11, 12, 13, 14, 15]
def h2dOf (sec : Bool) : List Nat := if sec then [16, 17, 18, 19, 20, 21, 22, 23] else [0, 1, 2, 3, 4, 5, 6, 7]

/-- The device side of every channel reset with D3 (R180): its unposted device-to-host messages are discarded. -/
def State.mbxDeviceReset (s : State) : State := (d2hOf false ++ d2hOf true).foldl State.senderReset s

/-! ### Claims -/

/-- CLAIM of the groups that may use the claim (R162, R174). -/
def State.claimIrq (s : State) (n : Nat) : State :=
  if n < 16 then s.irq Irq.CLAIM else s.irqGrp true Irq.CLAIM

/-- A lease started at acquisition or renewal with the length then in force (R185). -/
def State.leaseStart (s : State) (n : Nat) : State :=
  let us := max 1 (min (s.getF (F.MBX_CLAIM_LEASEn_LEASE_US n)) 1000000)
  { s with leases := s.leases.set n { us := us, start := s.now } }

/-- The claim free. -/
def State.claimFree (s : State) (n : Nat) : State :=
  { ((s.setF (F.MBX_CLAIM_INFOn_OWNER n) 0).setF (F.MBX_CLAIM_INFOn_HELD n) 0).setF (F.MBX_CLAIM_INFOn_TROUBLE n) 0 with
    leases := s.leases.set n {} }

/-- Lodge releases the claim of an owner in trouble (R186). -/
def State.claimForce (s : State) (n : Nat) : State := ((s.claimFree n).setF (F.MBX_CLAIM_INFOn_FORCED n) 1).claimIrq n

/-- One claim of an owner that falls into trouble (R186). -/
def State.claimTroubleAt (s : State) (id n : Nat) : State :=
  if s.flag (F.MBX_CLAIM_INFOn_HELD n) ∧ s.getF (F.MBX_CLAIM_INFOn_OWNER n) = id then
    if (s.leases.getD n {}).expired then s.claimForce n else s.setF (F.MBX_CLAIM_INFOn_TROUBLE n) 1
  else s

/-- An owner falls into trouble (R186). -/
def State.claimTrouble (s : State) (m : Master) : State :=
  (List.range 32).foldl (fun t n => t.claimTroubleAt m.id n) s

/-- A read of MBX_CLAIMn (R182): the value, and the state after. -/
def State.claimRead (s : State) (m : Master) (n : Nat) : Word × State :=
  if !s.flag (F.MBX_CLAIM_INFOn_HELD n) then
    (0, ((s.setF (F.MBX_CLAIM_INFOn_HELD n) 1).setF (F.MBX_CLAIM_INFOn_OWNER n) m.id).leaseStart n)
  else if s.getF (F.MBX_CLAIM_INFOn_OWNER n) = m.id then (word (0x40000000 + m.id), s)
  else (word (0x80000000 + s.getF (F.MBX_CLAIM_INFOn_OWNER n)), s)

/-- A word written to MBX_CLAIMn (R184). -/
def State.claimWrite (s : State) (m : Master) (n v : Nat) : State :=
  if s.flag (F.MBX_CLAIM_INFOn_HELD n) ∧ s.getF (F.MBX_CLAIM_INFOn_OWNER n) = m.id ∧ v < 2 then
    if v = 0 then s.claimFree n else s.leaseStart n
  else s.setF (F.MBX_CLAIM_INFOn_BAD_WRITE n) 1

/-- A word written to MBX_CLAIM_LEASEn (R185). -/
def State.leaseWrite (s : State) (m : Master) (n v : Nat) : State :=
  if !s.flag (F.MBX_CLAIM_INFOn_HELD n) ∨ s.getF (F.MBX_CLAIM_INFOn_OWNER n) = m.id then
    s.setF (F.MBX_CLAIM_LEASEn_LEASE_US n) v
  else s.setF (F.MBX_CLAIM_INFOn_BAD_WRITE n) 1

/-- What a refused or void read shows: all ones for claims 16–31 refused to a non-secure master, else 0 (R163). That "a read
of claims 16–31" is one of MBX_CLAIMn, and not of MBX_CLAIM_INFOn or MBX_CLAIM_LEASEn, is a DESIGN CHOICE (log entry
73). -/
def refusedRead (a : Nat) : DWord := if 0x31040 ≤ a ∧ a < 0x31080 then 0xFFFFFFFF else 0

/-- A read of master `m` with the effect `k` where it reaches its register. -/
def State.guardR (s : State) (m : Master) (a : Nat) (k : State → DWord × State) : DWord × State :=
  match s.rdAcc m a with
  | .ok => k s
  | .viol => (refusedRead a, s.secViol)
  | .none => (0, s)
  | .held d => (0, s.domEvent d (.regRead m a))

/-- The value of a read put on the bus. -/
def State.onBus (r : DWord × State) : State := { r.2 with bus := [r.1] }

/-! ### Mailbox commands -/

def execMbxGo (m : Master) (c : Nat) (v : Word) (s : State) : Host.Outcome State Fault Refusal :=
  .next (if c < 32 then s.guardW m (R.MBX_CTRL c) (v ||| 1).toNat (·.mbxCtrlWrite m c (v ||| 1).toNat) else s)

def execMbxTake (m : Master) (c : Nat) (v : Word) (s : State) : Host.Outcome State Fault Refusal :=
  .next (if c < 32 then s.guardW m (R.MBX_CTRL c) (v ||| 2).toNat (·.mbxCtrlWrite m c (v ||| 2).toNat) else s)

def execMbxDataWrite (m : Master) (c k : Nat) (v : Word) (s : State) : Host.Outcome State Fault Refusal :=
  .next (if c < 32 ∧ k < 16 then
      s.guardW m (0x30000 + 0x80 * c + 4 * k) v.toNat (·.mbxDataWrite c k v.toNat)
    else s)

/-- A reset of the writing master declared (R181): its group's channels, its claims, and the host route's update session
(R505). -/
def State.hostReset (s : State) (m : Master) (v : Nat) : State :=
  if bitsOf v 16 16 ≠ 0xC3A5 ∨ !v.testBit 0 then s
  else
    let s1 := (h2dOf m.secure).foldl State.senderReset s
    let s2 := (d2hOf m.secure).foldl (fun t c =>
      if t.flag (F.MBX_CTRL_GO c) then t.setF (F.MBX_STAT_REPOSTED c) 1 else t) s1
    let s3 := s2.claimTrouble m
    if m.secure then s3.updRelease 2 else s3

def execMbxHostReset (m : Master) (key : Nat) (s : State) : Host.Outcome State Fault Refusal :=
  .next (
    let v := key % 65536 * 65536 + 1
    s.guardW m R.MBX_HRST v (·.hostReset m v))

/-- The wake of a message posted before Arbour was reset is raised again once its task table is loaded, where the channel is
mapped to one (R179). -/
def execMbxRepost (c : Nat) (s : State) : Host.Outcome State Fault Refusal :=
  .next (
    if s.arb.repost.contains c ∧ s.domOn 3 ∧ !s.power.boot ∧ 9 ≤ s.getF F.SYS_BOOT_STAT_STEP then
      let s1 := s.updArb (fun a => { a with repost := a.repost.filter (· ≠ c) })
      if s1.flag (F.MBX_CTRL_GO c) ∧ (s.mbxMap? c).isSome then (s1.setF (F.MBX_STAT_REPOSTED c) 1).mbxWake c else s1
    else s)

/-! ### Claim commands -/

/-- Masters put in rising order of their IDs (R183). -/
def putMaster (m : Master) : List Master → List Master
  | [] => [m]
  | x :: xs => if m.id ≤ x.id then m :: x :: xs else x :: putMaster m xs

/-- Reads of one claim in one cycle, lowest master ID first (R183); the values stand on the bus in that order. -/
def execClaimAcquire (ms : List Master) (n : Nat) (s : State) : Host.Outcome State Fault Refusal :=
  .next (
    if 32 ≤ n then s
    else
      let r := (ms.foldr putMaster []).foldl (fun (r : List DWord × State) m =>
        let x := r.2.guardR m (R.MBX_CLAIMn n) (fun t => let y := t.claimRead m n; (y.1.setWidth 64, y.2))
        (r.1 ++ [x.1], x.2)) ([], s)
      { r.2 with bus := r.1 })

def execClaimRelease (m : Master) (n : Nat) (s : State) : Host.Outcome State Fault Refusal :=
  .next (if n < 32 then s.guardW m (R.MBX_CLAIMn n) 0 (·.claimWrite m n 0) else s)

def execClaimRenew (m : Master) (n : Nat) (s : State) : Host.Outcome State Fault Refusal :=
  .next (if n < 32 then s.guardW m (R.MBX_CLAIMn n) 1 (·.claimWrite m n 1) else s)

def execClaimBadWrite (m : Master) (n : Nat) (v : Word) (s : State) : Host.Outcome State Fault Refusal :=
  .next (if n < 32 then s.guardW m (R.MBX_CLAIMn n) v.toNat (·.claimWrite m n v.toNat) else s)

def execClaimLeaseWrite (m : Master) (n : Nat) (v : Word) (s : State) : Host.Outcome State Fault Refusal :=
  .next (if n < 32 then s.guardW m (R.MBX_CLAIM_LEASEn n) v.toNat (·.leaseWrite m n v.toNat) else s)

/-- Has the lease of a claim run out, to 1 µs (R185, R186)? -/
def State.leaseOver (s : State) (n : Nat) : Bool :=
  let l := s.leases.getD n {}
  s.since l.start (l.us - 1)

/-- A lease runs out (R186, R187). -/
def execClaimLeaseExpiry (n : Nat) (s : State) : Host.Outcome State Fault Refusal :=
  .next (
    if 32 ≤ n ∨ !s.flag (F.MBX_CLAIM_INFOn_HELD n) ∨ (s.leases.getD n {}).expired ∨ !s.leaseOver n then s
    else if s.flag (F.MBX_CLAIM_INFOn_TROUBLE n) then s.claimForce n
    else
      ({ s with leases := updAt n (fun l => { l with expired := true }) s.leases }.setF (F.MBX_CLAIM_INFOn_EXPIRED n)
        1).claimIrq n)

def execClaimOwnerTrouble (m : Master) (s : State) : Host.Outcome State Fault Refusal :=
  .next (s.claimTrouble m)

/-! ### Stream windows -/

/-- A word written to an input window; a packet of a submit window that ends is work for D3 (R42). -/
def State.streamWrite (s : State) (w : Nat) (v : DWord) : State :=
  let s1 := s.streamPush w v
  if (w = 5 ∨ w = 7) ∧ v.toNat.testBit 62 ∧ !s1.domOn 3 then s1.domEvent 3 .work else s1

/-- A word written to SYS_STRM_CTRL (R190, R194). -/
def State.strmCtrlWrite (s : State) (w v : Nat) : State :=
  let s1 := (s.setF (F.SYS_STRM_CTRL_CUT_THROUGH w) v).setF (F.SYS_STRM_CTRL_IRQ_EN w) (v / 4)
  if v.testBit 1 then s1.flush w else s1

/-- The data port of a window. -/
def strmPort (w : Nat) : Nat := 0x1000000 + 0x10000 * w

/-- A window's read granted to a master: the token moves past it. -/
def State.strmGrant (s : State) (w : Nat) (m : Master) : State :=
  { s with strms := updAt w (fun x => { x with token := m.id + 1 }) s.strms }

/-- Reads of one data port in one tick, granted in round-robin order by the window's token (R48, R189); the words stand on
the bus in that order. -/
def execStreamRead (ms : List Master) (w : Nat) (s : State) : Host.Outcome State Fault Refusal :=
  .next (
    if 16 ≤ w then s
    else
      let order := (fromToken ((s.strms.getD w {}).token) ((ms.foldr putMaster []).map Master.id)).map masterOf
      let r := order.foldl (fun (r : List DWord × State) m =>
        let x := (r.2.strmGrant w m).guardR m (strmPort w) (·.streamPop w)
        (r.1 ++ [x.1], x.2)) ([], s)
      { r.2 with bus := r.1 })

def execStreamWrite (m : Master) (w : Nat) (v : DWord) (s : State) : Host.Outcome State Fault Refusal :=
  .next (if w < 16 then s.guardW m (strmPort w) v.toNat (·.streamWrite w v) else s)

def execStreamFlush (m : Master) (w : Nat) (s : State) : Host.Outcome State Fault Refusal :=
  .next (if w < 10 then
      let v := (s.rd (R.SYS_STRM_CTRL w)).toNat ||| 2
      s.guardW m (R.SYS_STRM_CTRL w) v (·.strmCtrlWrite w v)
    else s)

end Sys2Proof.Machine
end

