-- ==== Sys2Proof/Machine/Domains.lean ====
section
/-! DEFINITION. Power domains and resets (spec/03_power_clocks_crossings.md): what a domain loses when it leaves ON or is
reset, ON and OFF requests, the reset sources, the device power states. -/
namespace Sys2Proof.Machine


/-! ### What a domain loses (R107, R123, R215, R567) -/

/-- What stands in the host port's FIFO is flushed (R123): the posted writes, the windows' packets with them (R215), a read
behind them, and the requests of the Ethernet channel that had not reached the fabric. -/
def State.hostFlush (s : State) : State :=
  let t := (s.hspi.queue.filter (·.stream)).foldl (fun (t : State) p =>
    t.setF (F.SYS_STRM_STAT_DROPPED (p.addr / 0x10000 % 16)) 1) s
  { t.xingLoses 0 (s.hspi.queue ≠ []) with
    hspi := { t.hspi with queue := [], waiting := if t.hspi.ahead = 0 then t.hspi.waiting else none, ahead := 0 }
    eth := { t.eth with opened := t.eth.opened.filter (fun r => r.cmd = 3 && r.ahead = 0) } }

/-- D2 (R564, R567): the stream windows, the compare and conversion registers, the staging buffer, UPD_BUF, the GPIO
pads; what had been posted through the host port and had not arrived (R123); epoch records stay due (R215). -/
def State.loseD2 (s : State) : State :=
  let s1 := (((s.resetRange 0x51000 0x52000).resetRange 0x50200 0x50300).resetRange 0xF1000 0xF2000)
  let s2 := (s1.resetRange 0x1000000 0x1100000).emptyStreams
  let s3 := s2.hostFlush
  { s3.updArb (fun a => { a with waitS := a.waitS.filter isEpoch, waitNs := a.waitNs.filter isEpoch }) with
    plan := { s3.plan with staging := [] }
    pads := { s3.pads with gpio := List.replicate 16 false }
    sdl := { s3.sdl with pulses := [] } }

/-- The member entries of a band's key cache, 1–128, dropped with the frames of their sessions (log entry 32). -/
def Band.noMembers (b : Band) : Band :=
  { b with
    keys := b.keys.filter (fun k => k.entry = 0 || 128 < k.entry)
    dl := b.dl.filter (fun f => f.dst = 0 || 128 < f.dst)
    held := b.held.filter (fun f => f.dst = 0 || 128 < f.dst)
    wait := b.wait.filter (fun f => f.dst = 0 || 128 < f.dst) }

/-- Arbour's own registers at their reset values, with every master's copy of ARB_TASK_SEL; ARB_EPOCH is held in D0. -/
def State.arbRegs (s : State) : State :=
  let s1 := ((s.resetRange R.ARB_FAULT (R.ARB_FAULT + 4)).resetRange R.ARB_LAT_MAX (R.ARB_BUSY_CNT + 4))
  { s1 with regs := s1.regs.filter (fun p => p.1 % 2 ^ 32 ≠ R.ARB_TASK_SEL) }

/-- D3 lost with its memories (R133, R157, R180, R186, R215, R261, R505, and log entry 32 for the fleet's
state, which Arbour's firmware holds). -/
def State.loseArbour (s : State) : State :=
  let s1 := (s.loseD3).mbxDeviceReset
  let s2 := (List.range 8).foldl (fun t k => t.claimTrouble (.core k)) s1.arbRegs
  let st := s2.getF F.SYS_SWAP_STAT_STATE
  let s3 := (if st = 1 ∨ st = 2 ∨ st = 3 then s2.setSwap 0 else s2).updRelease 2
  let s4 := (s3.setF F.SYS_BOOT_STAT_MEAS_LOCK 0).bands Band.noMembers
  { s4 with
    plan := { s4.plan with live := [] }
    swap := {}
    power := { s4.power with measured := zeros 48, boot := true }
    fleet := { ceiling := s4.fleet.ceiling, joins := s4.fleet.joins }
    bv := { s4.bv with ephem := [], alm := [], sky := [] }
    slv := { s4.slv with corr := [], corrOff := 0, decided := [], sets := 0, cyc := [] }
    org := { s4.org with commit := none, waiting := [] } }

/-- The Isben link at 115 200 bit/s (R507). -/
def State.linkSlow (s : State) : State := { s.setF F.SVC_STAT_RATE 0 with svc := { s.svc with rateProven := true } }

/-- The items of a band's frames that its domain takes with it end as for frames dropped (log entry 25). -/
def State.bandLoses (s : State) (b : Nat) : State :=
  let x := s.band b
  (x.dl ++ x.held ++ x.wait.toList).foldl (fun t f => match f.tag with
    | .data _ _ => t.frameLost f
    | .leave _ _ => t.frameLost f
    | .seg _ _ => t.frameLost f
    | _ => t) s

/-- A reset of D3 or D13 empties the volatile slots with EXPIRE_AT_RESET (R472), one of D3 the node table (R475). -/
def State.expireSlots (s : State) (doms : List Nat) : State :=
  if doms.contains 3 ∨ doms.contains 13 then
    { s with org := { s.org with
      slots := s.org.slots.filter (fun p => !p.2.expire), nodes := if doms.contains 3 then [] else s.org.nodes } }
  else s

/-- What domain `d` loses when it leaves ON or is reset. With `retain` Arbour's memories stay (R96). Searches that ran in D5 are
pending again; items whose work D6, D8, D9, D10 or D12 takes with it end (DESIGN CHOICE, log entry 25). -/
def State.loseDom (s : State) (d : Nat) (retain : Bool := false) : State :=
  let low (t : State) (blk : Nat) : State := t.resetRange (blk * 0x10000) (blk * 0x10000 + 0xF000)
  match d with
  | 2 => s.loseD2
  | 3 => if retain then s else s.loseArbour
  | 4 => { s with pads := { s.pads with antBias := [0, 0] } }
  | 5 => s.updBv (fun b => { b with running := [], searches := b.running.map (fun r => { r.2 with start := 0 }) ++ b.searches })
  | 6 =>
    let wids := (s.bv.running.map (·.2) ++ s.bv.searches).filterMap (·.wid)
    let s1 := wids.foldl (fun t w => t.finish w St.OK (searchResult [])) (low s 6)
    { s1 with bv := { ephem := s.bv.ephem, alm := s.bv.alm, sky := s.bv.sky } }
  | 7 =>
    let s1 := low s 7
    { s1.xingLoses 7 (s.slv.obsIn ≠ []) with
      slv := {
        fixQ := s.slv.fixQ, corr := s.slv.corr, corrOff := s.slv.corrOff, cseq := s.slv.cseq, sets := s.slv.sets
        cyc := s.slv.cyc } }
  | 8 =>
    let s1 := ((low (s.bandLoses 0) 8).xingLoses 9 (s.bsa.rx ≠ [])).xingLoses 13 (s.bsa.dl ≠ [])
    { s1 with bsa := {}, pads := { s1.pads with
      paEnA := s1.pads.paEnA && s1.gzb.train.isSome, lnaEnA := if s1.keying 0 then s1.lnaRest 0 else s1.pads.lnaEnA } }
  | 9 =>
    let s1 := (((low (s.bandLoses 1) 9).xingLoses 10 (s.bsb.rx ≠ [])).xingLoses 14 (s.bsb.dl ≠ [])).xingLoses 8 (s.slv.fixQ ≠ [])
    { s1 with
      bsb := {}, slv := { s1.slv with fixQ := [] }
      pads := { s1.pads with paEnB := s1.pads.paEnB && s1.gzb.train.any (·.rfb), lnaEnB := false } }
  | 10 =>
    let rs := s.pgl.queue ++ s.pgl.waitReq ++ s.pgl.store ++ s.pgl.planning.toList
    let s1 := rs.foldl (fun t r => t.endReq r St.FROZEN) (low s 10)
    { s1.xingLoses 14 (s.pgl.seg ≠ []) with pgl := {} }
  | 11 =>
    let up := s.flag (F.ETH_Pn_STAT_LINK s.eth.lastPort)
    let s1 := (low s 14).xingLoses 11 (s.eth.watchBuf ≠ [])
    let s2 : State := { s1 with eth := { s1.eth with watchBuf := [], opened := [], ptpLocked := false } }
    if up then s2.claimTrouble .eth else s2
  | 12 =>
    let s1 := s.each [0, 1, 2, 3] (fun t n => (t.ax n).inForce.foldl (fun u w => u.axFinish n w 0x88) (t.dropPend n 0x88))
    { low s1 11 with axes := [{}, {}, {}, {}] }
  | _ => s

/-! ### Requests (R41, R101–R104) -/

/-- Is the domain held on while the fleet is armed (R41)? -/
def State.heldOn (s : State) (d : Nat) : Bool :=
  s.fleetArmed && (match d with
    | 2 => true
    | 3 => true
    | 4 => s.expected U.BV
    | 6 => s.expected U.BV
    | 7 => s.expected U.SLV && s.fleet.mbrs.any (fun m => s.joined m.id && s.central m.id)
    | 8 => s.expected U.BSA
    | 9 => s.expected U.BSB && s.bandBCells
    | 10 => s.expected U.PGL
    | 11 => s.expected U.ETH && (s.flag (F.ETH_Pn_CTRL_EN 0) || s.flag (F.ETH_Pn_CTRL_EN 1))
    | 12 => s.expected U.WKT && s.anyAxis
    | _ => false)

/-- Is the domain OFF, in LOCKOUT or ABSENT? -/
def State.domDown (s : State) (d : Nat) : Bool := s.dom d = DS.off || s.dom d = DS.lockout || s.dom d = DS.absent

/-- Does D11 run without D2: in Watch with the plan keeping it on (R110)? -/
def State.watchD11 (s : State) : Bool := s.planActive && (leAt (s.sec T.POWER) 18 1).testBit 0

/-- Is an OFF request for the domain refused (R103, R104)? -/
def State.offRefused (s : State) (d : Nat) : Bool :=
  s.heldOn d || (d = 3 && s.inFlight ≠ 0) ||
    (d = 2 && [3, 4, 5, 6, 7, 8, 9, 10, 11, 12, 13].any (fun x => !s.domDown x &&
      !(x = 11 && s.getF F.LODGE_PWR_STATE_STATE = 3 && s.watchD11)))

/-- A domain leaves ON for SHUTDOWN; on the way to Watch Arbour's memories stay (R96). -/
def State.shutdown (s : State) (d : Nat) : State := (s.loseDom d (s.power.entering = 3)).setDom d DS.shutdown

/-- A domain that leaves whatever it was doing for OFF: what an OFF request that is not refused does (R102). -/
def State.domLeave (s : State) (d : Nat) : State :=
  if s.isOn d then s.shutdown d
  else if s.dom d = DS.pwrUp then s.setDom d DS.pendingOff
  else if s.dom d = DS.pendingOn ∧ !s.hasHeld d then s.setDom d DS.shutdown
  else s

/-- An ON request (R102), which is no event: nothing is held for the domain, except where it waits OFF for D2 (R103). A
domain that stays OFF under R132 or R143 ignores it. -/
def State.domOnReq (s : State) (d : Nat) : State :=
  if d < 2 ∨ 13 < d ∨ !s.powered ∨ s.domUnused d then s
  else if s.dom d = DS.off then
    if d = 2 ∨ s.isOn 2 then s.setDom d DS.pwrUp else if s.hasHeld d then s.startPwrUp d else s.domEvent d .wake
  else if s.dom d = DS.shutdown then s.setDom d DS.pendingOn
  else if s.dom d = DS.pendingOff then s.setDom d DS.pwrUp
  else s

/-- A wake event addressed to a domain (R42, R98). -/
def State.domWake (s : State) (d : Nat) : State := if s.isOn d ∨ s.hasHeld d then s else s.domEvent d .wake

/-- An OFF request (R102–R104). -/
def State.domOffReq (s : State) (d : Nat) : State :=
  let refuse := s.setBit F.LODGE_DOM_FLAGS_REFUSED (d - 2)
  if d < 2 ∨ 13 < d ∨ !s.powered then s
  else if s.isOn d ∨ s.dom d = DS.pwrUp then if s.offRefused d then refuse else s.domLeave d
  else if s.dom d = DS.pendingOn then if s.offRefused d ∨ s.hasHeld d then refuse else s.domLeave d
  else s

def execDomOnRequest (m : Master) (d : Nat) (s : State) : Host.Outcome State Fault Refusal :=
  .next (s.guardW m R.LODGE_DOM_ON (2 ^ d) (·.domOnReq d))

def execDomOffRequest (m : Master) (d : Nat) (s : State) : Host.Outcome State Fault Refusal :=
  .next (s.guardW m R.LODGE_DOM_OFF (2 ^ d) (·.domOffReq d))

/-- GZB_CAUSE_NOW.DOM_RESET from the domains that keep it at 1 (R566). -/
def State.domResetNow (s : State) (ds : List Nat) : State :=
  (s.updPower (fun p => { p with domReset := ds })).setF F.GZB_CAUSE_NOW_DOM_RESET (b2n (!ds.isEmpty))

/-- Domain `d` keeps DOM_RESET at 1 no more. -/
def State.domResetOver (s : State) (d : Nat) : State :=
  if s.power.domReset.contains d then s.domResetNow (s.power.domReset.filter (· ≠ d)) else s

/-- Is a domain that is OFF to be powered: an event is held for it, it is held on, or an item waits for it (R41, R42, R203)? Not
one that stays OFF under R132 or R143. -/
def State.needed (s : State) (d : Nat) : Bool := !s.domUnused d && (s.hasHeld d || s.heldOn d || s.wanted d)

/-- The domain reaches OFF: an event held for it powers it up again, an item that waits for it (R203), and its being
held on (R41, R102, R108, R566). -/
def State.reachOff (s : State) (d : Nat) : State :=
  let s1 := (s.setDom d DS.off).domResetOver d
  if s1.powered ∧ s1.needed d then s1.startPwrUp d else s1

/-- The domains held on that are not ON are powered (R41): called where a condition of R41 may have come to hold. -/
def State.holdUp (s : State) : State :=
  (allDoms.filter (fun d => s.heldOn d && !s.isOn d)).foldl State.domOnReq s

def execDomShutdownDone (d : Nat) (s : State) : Host.Outcome State Fault Refusal :=
  .next (
    if s.dom d = DS.pendingOn then ((s.setDom d DS.off).domResetOver d).startPwrUp d
    else if s.dom d = DS.shutdown then s.reachOff d
    else s)

/-- The idle timeout of D5 or D13 in ms: the plan's, or the default of R109. -/
def State.idleMs (s : State) (d : Nat) : Nat :=
  if s.planActive then leAt (s.sec T.POWER) (if d = 5 then 0 else 2) 2 else 20

/-- Has D5 or D13 work: searches; key operations, a key update that commits, keys to be drawn? -/
def State.idleBusy (s : State) (d : Nat) : Bool :=
  if d = 5 then s.bv.searches ≠ [] || s.bv.running ≠ []
  else s.org.commit.isSome || s.org.redraw || s.fleet.joining ≠ [] || s.fleet.mbrs.any (·.keyAsk) ||
    s.arb.items.any (fun i => (i.typ = W.ORG_KEY_UPDATE || i.typ = W.ORG_DERIVE) && !i.phase.isDone)

/-- The FRC at which the last work of D5 or D13 completed. -/
def State.idleFrom (s : State) (d : Nat) : Nat := if d = 5 then s.power.idle5 else s.power.idle13

/-- D5 and D13 idle for their timeout since their last work: they switch off, which the bookkeeping of task 14
follows (R109, R568). Nothing else raises an item for it: what statistics it gathers and when is not given, and none of its items
changes any state (DESIGN CHOICE, log entry 90). -/
def execDomIdleTimeout (d : Nat) (s : State) : Host.Outcome State Fault Refusal :=
  .next (
    if (d = 5 ∨ d = 13) ∧ s.domOn d ∧ ¬ s.hasHeld d ∧ ¬ s.wanted d ∧ ¬ s.idleBusy d ∧
      s.since (s.idleFrom d) (1000 * s.idleMs d) then (s.raiseTask 14).shutdown d
    else s)

/-- A FAULT bit cleared: LOCKOUT ends and the count of rail faults starts afresh (R108). -/
def State.domFaultClear (s : State) (d : Nat) : State :=
  if d < 2 ∨ 13 < d ∨ !s.bit F.LODGE_DOM_FLAGS_FAULT (d - 2) then s
  else
    let s1 := (s.clrBit F.LODGE_DOM_FLAGS_FAULT (d - 2)).updPower (fun p => { p with
      railFaults := p.railFaults.filter (·.1 ≠ d) })
    if s1.dom d = DS.lockout then s1.reachOff d else s1

def execDomFaultClear (m : Master) (d : Nat) (s : State) : Host.Outcome State Fault Refusal :=
  .next (s.guardW m R.LODGE_DOM_FLAGS (2 ^ (d + 16)) (·.domFaultClear d))

/-! ### Resets (R116–R118, R565, R566) -/

/-- The bit of LODGE_RST_CAUSE of a source. -/
def rstBit : ResetSrc → Nat
  | .powerOn => 0
  | .resetPin => 1
  | .swReset => 2
  | .wdtSys => 3
  | .tamper => 4
  | .update => 5
  | .pllLoss => 6
  | .domBrownout => 7

/-- The domains whose reset raises a stop (R118, R566). -/
def stopDom (d : Nat) : Bool := d = 2 || d = 3 || d = 8 || d = 9 || d = 10

/-- A domain of the scope held in reset: what it holds is lost and it reports PWR_UP (R566). -/
def State.holdReset (s : State) (d : Nat) : State :=
  if s.domDown d then s else (s.loseDom d).setDom d DS.pwrUp

/-- Lodge's non-persistent registers at their reset values (R565). -/
def State.lodgeReset (s : State) : State :=
  let s1 := (((s.resetRange 0x10030 0x10040).resetRange 0x10070 0x10078).resetRange 0x10080 0x10088)
  let s2 := (((s1.setF F.LODGE_CLK_STAT_TCXO_FAIL 0).setF F.LODGE_CLK_STAT_XO32_FAIL 0).setF F.LODGE_CLK_STAT_UNLOCKED
    0).setF ⟨R.LODGE_TEMP, 17, 8⟩ 0
  { s2.setF F.LODGE_DOM_FLAGS_REFUSED 0 with
    xings := s2.xings.map (fun x => { busy := x.busy, lost := x.lost : Xing })
    power := { s2.power with wakeArmed := false, wakeSaved := none } }

/-- A reset of a source over domains (R116, R118, R215): the stop, what the domains lose, the hold; with D3 in the scope
start-up goes on from the firmware load once D3 is ON again (log entry 33). -/
def State.resetDoms (s : State) (src : ResetSrc) (doms : List Nat) : State :=
  if !s.powered then s
  else
    let s1 := s.setBit F.LODGE_RST_CAUSE_CAUSE (rstBit src)
    let s2 := if src = .pllLoss then doms.foldl (fun t d => t.setBit F.LODGE_RST_CAUSE_DOMAINS (d - 2)) s1 else s1
    let s3 := (if doms.any stopDom then s2.domResetStop else s2).expireSlots doms
    let held := doms.filter (fun d => !s.domDown d)
    let fw := doms.contains 3
    let s4 := doms.foldl State.holdReset (if fw ∧ s3.domDown 3 ∧ !s3.power.boot then s3.loseArbour else s3)
    let due := held.filter stopDom ++ (if fw then [2, 3].filter (fun d => !held.contains d) else [])
    let s5 := s4.domResetNow (s4.power.domReset.filter (fun d => !due.contains d) ++ due)
    let s6 := if doms.contains 2 then s5.setF F.SDL_STAT_SLOT_RUN 0 else s5
    (if fw then (s6.setSwap 0).linkSlow else s6).updPower (fun p => { p with
      resetHolds := p.resetHolds ++ [⟨src, held⟩]
      entering := if fw then 0 else p.entering
      quiet := if fw then false else p.quiet })

/-- A reset of the whole scope of RESET_PIN (R116, R565). -/
def State.resetAll (s : State) (src : ResetSrc) : State := if s.powered then (s.lodgeReset).resetDoms src allDoms else s

/-- RESET_N low for `lowNs` so far: from 10 µs on a reset; between 1 µs and 10 µs one only if `taken` (R117). -/
def execResetPinAssert (lowNs : Nat) (taken : Bool) (s : State) : Host.Outcome State Fault Refusal :=
  .next (
    if s.power.resetPinLow ∨ !s.powered ∨ lowNs < 1000 ∨ (lowNs < 10000 ∧ !taken) then s
    else (s.resetAll .resetPin).updPower (fun p => { p with resetPinLow := true }))

/-- The hold of a source ends (R566): its domains go on with PWR_UP, unless another source still holds them; start-up that
is due powers D2 and D3 (R126, step 4). -/
def State.holdEnd (s : State) (src : ResetSrc) : State :=
  let s1 := s.updPower (fun p => { p with resetHolds := p.resetHolds.filter (·.src ≠ src) })
  if s1.power.boot then (s1.domOnReq 2).domOnReq 3 else s1

def execResetPinRelease (s : State) : Host.Outcome State Fault Refusal :=
  .next (
    if s.power.resetPinLow then
      (s.updPower (fun p => { p with resetPinLow := false })).holdEnd .resetPin
    else s)

/-- 10 µs of SW_RESET, WDT_SYS, TAMPER or UPDATE are over; other sources end with their own commands. -/
def execResetHoldEnd (src : ResetSrc) (s : State) : Host.Outcome State Fault Refusal :=
  .next (
    if (src = .swReset ∨ src = .wdtSys ∨ src = .tamper ∨ src = .update) ∧ s.power.resetHolds.any (·.src = src) then
      s.holdEnd src
    else s)

/-- A word written to LODGE_RST_REQ (R116). -/
def State.rstReq (s : State) (v : Nat) : State :=
  if bitsOf v 16 16 ≠ 0xC3A5 then s
  else if v.testBit 0 then s.resetAll .swReset
  else
    let ds := allDoms.filter v.testBit
    if ds = [] then s else s.resetDoms .swReset ds

def execSwResetAll (m : Master) (key : Nat) (s : State) : Host.Outcome State Fault Refusal :=
  .next (
    let v := key % 65536 * 65536 + 1
    s.guardW m R.LODGE_RST_REQ v (·.rstReq v))

def execSwResetDomains (m : Master) (key doms : Nat) (s : State) : Host.Outcome State Fault Refusal :=
  .next (
    let v := key % 65536 * 65536 + doms % 16384 / 4 * 4
    s.guardW m R.LODGE_RST_REQ v (·.rstReq v))

/-- Is the domain held in reset by a source? -/
def State.resetHeld (s : State) (d : Nat) : Bool := s.power.resetHolds.any (fun h => h.doms.contains d)

/-! ### Clocks (R112–R115) -/

/-- The lock bit of LODGE_CLK_STAT and the bit of UNLOCKED; the synthesizers have none. -/
def pllLockBit : Pll → Option (Fld × Nat)
  | .sys => some (F.LODGE_CLK_STAT_SYS_LOCK, 0)
  | .corr => some (F.LODGE_CLK_STAT_CORR_LOCK, 1)
  | .eth => some (F.LODGE_CLK_STAT_ETH_LOCK, 2)
  | _ => none

/-- Is the PLL locked? It runs while one of its domains does. -/
def State.pllLocked (s : State) (p : Pll) : Bool := (pllDoms p).any (fun d => !s.domDown d) && s.pllLock p

/-- Has the PLL lost a lock that a domain that is ON needs? -/
def State.pllLost (s : State) (p : Pll) : Bool := (pllDoms p).any s.isOn && !s.pllLock p

def State.setLock (s : State) (p : Pll) (v : Bool) : State :=
  match p with
  | .bandA => s.updPower (fun x => { x with lockA := v })
  | .bandB => s.updPower (fun x => { x with lockB := v })
  | _ => match pllLockBit p with
    | some b => s.setF b.1 (b2n v)
    | none => s

/-- A PLL loses lock (R114): the clocks of its domains are gated, so that none of them runs (`State.domOn`). -/
def State.pllLose (s : State) (p : Pll) : State :=
  if !s.pllLocked p then s
  else
    let s1 := s.setLock p false
    match pllLockBit p with
    | some b => s1.setBit F.LODGE_CLK_STAT_UNLOCKED b.2
    | none => s1

def execPllLockLoss (p : Pll) (s : State) : Host.Outcome State Fault Refusal := .next (s.pllLose p)

def allPlls : List Pll := [.sys, .corr, .eth, .bandA, .bandB]

/-- A PLL not relocked within 100 µs: its domains that are not OFF take a PLL_LOSS reset (R114). -/
def execPllLossReset (p : Pll) (s : State) : Host.Outcome State Fault Refusal :=
  .next (
    let ds := (pllDoms p).filter (fun d => !s.domDown d)
    if s.pllLocked p ∨ ds = [] ∨ s.power.resetHolds.any (fun h => h.src = .pllLoss && h.doms = ds) then s
    else s.resetDoms .pllLoss ds)

/-- The TCXO fails (R113): FRC counts on XCLK, TB0 has lost its reference (R224), the PLLs lose lock, CLOCK_FAIL. -/
def execTcxoFail (s : State) : Host.Outcome State Fault Refusal :=
  .next (
    if !s.flag F.LODGE_CLK_STAT_TCXO_OK ∨ s.power.off then s
    else
      let s1 := (((s.setF F.LODGE_CLK_STAT_TCXO_OK 0).setF F.LODGE_CLK_STAT_TCXO_FAIL 1).setF
        F.LODGE_CLK_STAT_FRC_DEGRADED 1).setF F.GZB_CAUSE_NOW_TCXO_LOST 1
      (allPlls.foldl State.pllLose ((s1.enterHoldover).untrusted)).raiseCause Cause.CLOCK_FAIL)

/-- The TCXO present for 10 ms without a gap (R113). -/
def execTcxoRestore (s : State) : Host.Outcome State Fault Refusal :=
  .next (
    if s.flag F.LODGE_CLK_STAT_TCXO_OK ∨ s.power.off then s
    else ((s.setF F.LODGE_CLK_STAT_TCXO_OK 1).setF F.LODGE_CLK_STAT_FRC_DEGRADED 0).setF F.GZB_CAUSE_NOW_TCXO_LOST 0)

def execXo32Fail (s : State) : Host.Outcome State Fault Refusal :=
  .next (if s.power.off then s else (s.setF F.LODGE_CLK_STAT_XO32_OK 0).setF F.LODGE_CLK_STAT_XO32_FAIL 1)

/-! ### Crossings (R119–R123) -/

/-- Is the crossing a PULSE crossing (R121)? -/
def xingPulse (i : Nat) : Bool := 1 ≤ i && i ≤ 6

/-- A round trip completes (R120). -/
def execPulseRoundtripDone (id : Nat) (s : State) : Host.Outcome State Fault Refusal :=
  .next (
    if Sys2Proof.Machine.xingPulse id then
      s.updXing id (fun x => if x.pending then { x with pending := false } else { x with busy := false })
    else s)

/-- What stands in a FIFO crossing and is flushed with it (R121, R123): OBS_IN, FIX, RX_A, DL_A, RX_B, DL_B and SEG, the
Ethernet frames held. The host port's was flushed as D2 was lost, and what was posted since is held for D2 under R42. -/
def State.xingItems (s : State) (i : Nat) : Bool × State :=
  match i with
  | 7 => (s.slv.obsIn ≠ [], s.updSlv (fun v => { v with obsIn := [] }))
  | 8 => (s.slv.fixQ ≠ [], s.updSlv (fun v => { v with fixQ := [] }))
  | 9 => (s.bsa.rx ≠ [], s.updBand 0 (fun b => { b with rx := [] }))
  | 10 => (s.bsb.rx ≠ [], s.updBand 1 (fun b => { b with rx := [] }))
  | 11 => (s.eth.watchBuf ≠ [], { s with eth := { s.eth with watchBuf := [] } })
  | 13 => (s.bsa.dl ≠ [], s.updBand 0 (fun b => { b with dl := [] }))
  | 14 => (s.bsb.dl ≠ [] ∨ s.pgl.seg ≠ [],
      (s.updBand 1 (fun b => { b with dl := [] })).updPgl (fun p => { p with seg := [] }))
  | _ => (false, s)

/-- The handshake after one side of a PULSE or FIFO crossing has left reset or reached ON: the pointers resynchronise, and
what was not delivered is flushed as DROPPED; a flush of the host port's FIFO reaches the windows (R215). -/
def execXingResync (id dir : Nat) (s : State) : Host.Outcome State Fault Refusal :=
  .next (
    let i := xingIdx id dir
    if 12 ≤ id ∨ !(s.xing i).resync then s
    else
      let r := s.xingItems i
      r.2.updXing i (fun x => { x with
        busy := false, pending := false, resync := false, lost := false
        dropped := x.dropped || x.pending || x.busy || x.lost || r.1 }))

/-- A domain has reached ON: the crossings whose sides now are all ON start to resynchronise (R123). -/
def State.xingsUp (s : State) (d : Nat) : State :=
  (List.range 16).foldl (fun (t : State) i =>
    if (xingDoms i).contains d ∧ (xingDoms i).all s.isOn then t.updXing i (fun x => { x with resync := true }) else t) s

/-! ### Device power states (R93–R100) -/

/-- Is a key update or an update activation in progress (R94, R506)? -/
def State.updating (s : State) : Bool :=
  s.getF F.UPD_STAT_LOCK ≠ 0 || s.org.commit.isSome ||
    s.arb.items.any (fun i => i.typ = W.ORG_KEY_UPDATE && !i.phase.isDone)

/-- Why Watch or deep standby is refused (R94, LODGE_PWR_STATE.REFUSE); 0 where it is not. Where several reasons hold the lowest
code is shown (DESIGN CHOICE, log entry 85). -/
def State.sleepRefusal (s : State) : Nat :=
  if s.anyJoined then 1
  else if (List.range 32).any (fun c => s.flag (F.MBX_CTRL_GO c)) then 2
  else if s.getF F.SYS_SWAP_STAT_STATE = 3 then 3
  else if s.updating then 4
  else if s.anyAxis then 6
  else if s.inFlight ≠ 0 ∨ [5, 6, 7, 8, 9].any (fun w => (s.strm w).level ≠ 0) then 7
  else 0

/-- A word written to LODGE_PWR_REQ (R93–R95): KEY before TARGET. -/
def State.pwrReq (s : State) (v : Nat) : State :=
  let t := bitsOf v 0 3
  let st := s.getF F.LODGE_PWR_STATE_STATE
  if bitsOf v 16 16 ≠ 0xC3A5 then s.setF F.LODGE_PWR_STATE_REFUSE 5
  else if !(t = 3 ∨ t = 4) ∨ !(st = 2 ∨ (st = 3 ∧ t = 4)) then s
  else if s.sleepRefusal ≠ 0 then s.setF F.LODGE_PWR_STATE_REFUSE s.sleepRefusal
  else (s.setF F.LODGE_PWR_STATE_STATE 5).updPower (fun p => { p with entering := t, quiet := false, wakeReq := 0 })

def execPwrReqWatch (m : Master) (key : Nat) (s : State) : Host.Outcome State Fault Refusal :=
  .next (
    let v := key % 65536 * 65536 + 3
    s.guardW m R.LODGE_PWR_REQ v (·.pwrReq v))

def execPwrReqDeep (m : Master) (key : Nat) (s : State) : Host.Outcome State Fault Refusal :=
  .next (
    let v := key % 65536 * 65536 + 4
    s.guardW m R.LODGE_PWR_REQ v (·.pwrReq v))

/-- LODGE_WAKE_FRC's value, bits [62:0]. -/
def State.wakeFrc (s : State) : Nat :=
  s.getF F.LODGE_WAKE_FRC_LO_WAKE_FRC + 2 ^ 32 * (s.getF F.LODGE_WAKE_FRC_HI_WAKE_FRC % 2 ^ 31)

/-- FRC_CMP fires (R97, R111). -/
def State.frcFire (s : State) : State :=
  ((s.wakeBy 3).updPower (fun p => { p with wakeArmed := false })).xingPulse 2

/-- LODGE_WAKE_FRC_HI written: the compare arms, fires late, or is missed (R111). -/
def State.wakeArm (s : State) (hi : Nat) : State :=
  let s1 := s.setF F.LODGE_WAKE_FRC_HI_WAKE_FRC hi
  if s1.now < s1.wakeFrc then s1.updPower (fun p => { p with wakeArmed := true })
  else if hi.testBit 31 then (s1.setF F.LODGE_WAKE_CAUSE_FRC_MISSED 1).updPower (fun p => { p with wakeArmed := false })
  else (s1.setF F.LODGE_WAKE_CAUSE_FRC_LATE 1).frcFire

def execWakeFrcArm (m : Master) (hi : Word) (s : State) : Host.Outcome State Fault Refusal :=
  .next (s.guardW m R.LODGE_WAKE_FRC_HI hi.toNat (·.wakeArm hi.toNat))

def execFrcCmpMatch (s : State) : Host.Outcome State Fault Refusal :=
  .next (if s.power.wakeArmed ∧ s.wakeFrc ≤ s.now then s.frcFire else s)

/-- The armed compares, as 32 × time base + index. -/
def State.armedCmps (s : State) : List Nat := (List.range 128).filter (fun x => s.flag (F.SDL_CMP_CTRL_ARMED x))

/-- Firmware saves the armed compares for Watch, and puts the earliest WAKE target, less 1 ms, into LODGE_WAKE_FRC where
that is below the host's value (R237). -/
def State.saveCompares (s : State) : State :=
  let xs := s.armedCmps
  let s1 := s.updSdl (fun d => { d with saved := xs.map (fun x =>
    (x, (List.range 7).map (fun j => (s.rd (R.SDL_CMP_NS x + 4 * j)).toNat))) })
  let ts := (xs.filter (fun x => s.flag (F.SDL_CMP_ACT_WAKE x))).map (fun x => s.frcOf (x / 32) (s.cmpTarget x) - 26000)
  match ts with
  | [] => s1
  | t :: rest =>
    let e := rest.foldl min t
    if e < s.wakeFrc then
      let old := s.getF F.LODGE_WAKE_FRC_LO_WAKE_FRC + 2 ^ 32 * s.getF F.LODGE_WAKE_FRC_HI_WAKE_FRC
      let fired := !s.power.wakeArmed && decide (s.wakeFrc ≤ s.now)
      ((s1.updPower (fun p => { p with wakeSaved := some (old, fired) })).setF F.LODGE_WAKE_FRC_LO_WAKE_FRC e).wakeArm (e / 2 ^ 32)
    else s1

/-- Firmware, resumed from Watch, writes back the host's LODGE_WAKE_FRC unless it has fired, so that one passed since
fires late or is missed (R111), and re-arms the saved compares (R237). -/
def State.restoreCompares (s : State) : State :=
  let s0 := s.updPower (fun p => { p with wakeSaved := none })
  let s1 := match s.power.wakeSaved with
    | some (w, fired) => if fired then s0 else (s0.setF F.LODGE_WAKE_FRC_LO_WAKE_FRC w).wakeArm (w / 2 ^ 32)
    | none => s
  let s2 := s.sdl.saved.foldl (fun t p =>
    (t.wrList (R.SDL_CMP_NS p.1) (p.2.map word)).setF (F.SDL_CMP_CTRL_ARMED p.1) 0) s1
  let s3 := s.sdl.saved.foldl (fun t p => (t.cmpEval (p.1 / 32) (p.1 % 32)).2) s2
  s3.updSdl (fun d => { d with saved := [] })

/-- An entry into Watch or deep standby that a wake event stops (R100): the device is in Run, and what is OFF stays OFF until
something addresses it. The compares that D2 still holds need no arming again, and firmware, where it runs, writes the host's
LODGE_WAKE_FRC back (R237). -/
def State.entryStop (s : State) : State :=
  let s1 := (s.setF F.LODGE_PWR_STATE_STATE 2).updPower (fun p => { p with entering := 0, quiet := false })
  let s2 := if s.isOn 2 then s1.updSdl (fun d => { d with saved := [] }) else s1
  if s.isOn 3 then s2.restoreCompares else s2

/-- A swap being announced is abandoned with CANCELLED (R159), and so is one being verified (DESIGN CHOICE, log
entry 71). -/
def State.swapCancel (s : State) : State :=
  let st := s.getF F.SYS_SWAP_STAT_STATE
  if st = 1 ∨ st = 2 then
    let t := (s.setSwap 5).setF F.SYS_SWAP_STAT_ERROR 26
    { t.vbTrigger 0x12 (leBytes 4 (t.rd R.SYS_SWAP_STAT).toNat ++ leBytes 4 s.swap.seq) with
      swap := { effectiveOnce := s.swap.effectiveOnce } }
  else s

/-- The domains that an entry shuts down before D2: D13 to D3, but D11 in Watch where the plan keeps it (R95, R110). -/
def State.entryDoms (s : State) : List Nat :=
  [13, 12, 11, 10, 9, 8, 7, 6, 5, 4, 3].filter (fun d => !(d = 11 && s.power.entering = 3 && s.watchD11))

/-- Every write is done: a swap is abandoned, for Watch the compares are saved, TB1 loses its PTP instance, and the
shutdowns begin (R95, R110, R159, R237). -/
def State.entryBegin (s : State) : State :=
  let s1 := if s.power.entering = 3 then s.swapCancel.saveCompares else s.swapCancel.updSdl (fun d => { d with saved := [] })
  let s2 : State := { s1.updPower (fun p => { p with quiet := true }) with eth := { s1.eth with ptpLocked := false } }
  s.entryDoms.foldl State.domLeave s2

/-- D2 is OFF: the state is reached (R95, R96). Deep standby loses what Watch would have kept. -/
def State.entryDone (s : State) : State :=
  let t := s.power.entering
  let s1 := (s.setF F.LODGE_PWR_STATE_STATE t).updPower (fun p => { p with entering := 0, quiet := false })
  if t = 3 then s1.updArb (fun a => { a with cores := List.replicate 8 3 })
  else
    let s2 : State := { (s1.setF F.SDL_STAT_SLOT_RUN 0).setF F.SDL_STAT_COMP_LOST 1 with pads := { s1.pads with vaux := false, lnaEnA := false } }
    -- from Watch, Arbour's retained memories are lost only now
    if s.power.boot then s2 else s2.loseArbour

/-- The next part of an entry into Watch or deep standby that is due (R95): once every store and Visitor book write is
done, the shutdowns of D13 to D3; once those are OFF, that of D2, with which deep standby loses the compares (R237); once D2 is
OFF, the state. -/
def execPowerStateEntry (s : State) : Host.Outcome State Fault Refusal :=
  .next (
    if s.power.entering = 0 ∨ s.ps.running ≠ [] ∨ s.ps.waiting ≠ [] ∨ s.vb.queue ≠ [] ∨ s.vb.trigs ≠ [] then s
    else if !s.power.quiet then s.entryBegin
    else if s.entryDoms.any (fun d => !s.domDown d) then s.entryDoms.foldl State.domLeave s
    else if !s.domDown 2 then (if s.power.entering = 4 ∧ s.isOn 2 then s.setF F.SDL_STAT_COMP_LOST 1 else s).domLeave 2
    else s.entryDone)

/-- The domains a wake source powers, beside D2 and D3 (R146, R446). -/
def State.wakeSet (s : State) (b : Nat) : List Nat :=
  if 7 ≤ b then [8, 10, 13] ++ (if s.expected U.BSB ∧ s.bandBCells then [9] else [])
  else if s.planActive then
    (List.range 14).filter (fun d => 4 ≤ d && (leAt (s.sec T.POWER) (4 + 2 * b) 2).testBit d)
  else []

/-- The wake sources that may wake now: enabled, and in deep standby neither the wake word nor Ethernet (R97). -/
def State.wakeBits (s : State) (deep : Bool) : List Nat :=
  (List.range 9).filter (fun b => s.power.wakeReq.testBit b &&
    (s.rd R.LODGE_WAKE_EN).toNat.testBit b && !(deep && (b = 0 || b = 2)))

/-- The wake events that fell together wake the device once (R97–R100): entry stops and the device is in Run, or D2 powers
up with D3 and the wake sets. -/
def execWakeEvent (s : State) : Host.Outcome State Fault Refusal :=
  .next (
    let st := s.getF F.LODGE_PWR_STATE_STATE
    let bits := s.wakeBits (st = 4 || (st = 5 && s.power.entering = 4))
    let s0 := s.updPower (fun p => { p with wakeReq := 0 })
    if !s.powered then s
    else if bits = [] then s0
    else
      let cause (t : State) : State := (bits.foldl (fun u b => u.setBit F.LODGE_WAKE_CAUSE_CAUSE b) t).xingPulse 2
      if st = 5 then (cause s0).entryStop
      else if st = 3 ∨ st = 4 ∨ st = 6 then
        let s1 := (cause s0).setF F.LODGE_PWR_STATE_STATE 6
        let s2 := if st = 4 then s1.updPower (fun p => { p with boot := true }) else s1
        (2 :: 3 :: (bits.map s.wakeSet).flatten).foldl State.domWake s2
      else s0)

/-! ### Mains (R64, R65, R91, R92, R125) -/

/-- The module Off: what survives is the part, the flash and the fuses, the store's banks but the one a write has erased
(R538, R539), the Visitor book with a
record perhaps left without its MARK (R532), and the commands waiting. -/
def State.powerOff (s : State) (mains : Bool) : State :=
  let cut := s.ps.running ≠ []
  let b1 := s.ps.sel.isNone || s.flag F.LODGE_PS_STAT_BANK
  { State.reset with
    part := s.part, siStep := s.siStep, pending := s.pending, freeCtr := s.freeCtr, flash := s.flash
    ps := { bank0 := if cut ∧ b1 then none else s.ps.bank0, bank1 := if cut ∧ !b1 then none else s.ps.bank1 }
    vb := { book := s.vb.book, torn := s.vb.queue ≠ [] }
    power := { off := !mains, porHeld := true, mains := mains } }

/-- Mains rises through the start threshold; with `stays` POWER_ON may be released, else the release is withdrawn. -/
def execMainsApply (stays : Bool) (s : State) : Host.Outcome State Fault Refusal :=
  .next (if s.power.porHeld then s.powerOff stays else s)

/-- Domains switched off at once by a loss of supply, whatever holds them on. -/
def State.shedDom (s : State) (d : Nat) : State :=
  if s.domDown d then s else (if s.isOn d then s.loseDom d else s).setDom d DS.off

def execSupplyLossDeclare (s : State) : Host.Outcome State Fault Refusal :=
  .next (
    if !s.powered ∨ !s.power.mains then s
    else
      let s1 := (s.updPower (fun p => { p with mains := false })).setF F.GZB_CAUSE_NOW_SUPPLY_LOW 1
      let s2 := (s1.raiseCause Cause.SUPPLY_LOSS).vbTrigger 0x06 []
      ([4, 5, 6, 7, 11, 13].foldl State.shedDom s2).updPower (fun p => { p with shed := some s.now }))

/-- The rest of the shedding: the records up to the declaration are in flash and no axis is in EMERGENCY (R64). -/
def execDeferredShed (s : State) : Host.Outcome State Fault Refusal :=
  .next (match s.power.shed with
    | some f =>
      if s.vb.trigs.any (fun t => t.frc.toNat ≤ f) ∨ s.vb.queue.any (fun r => leAt r.bytes 16 8 ≤ f) ∨ s.anyEmergency then s
      else ([12, 10, 9, 8, 3, 2].foldl State.shedDom s).updPower (fun p => { p with shed := none })
    | none => s)

/-- The input has returned (R65): what is not yet shed stays powered, and a shed domain that an event or an item waits for powers
up under R42. -/
def execSupplyReturn (s : State) : Host.Outcome State Fault Refusal :=
  .next (
    if !s.powered ∨ s.power.mains then s
    else
      let s1 := (s.updPower (fun p => { p with mains := true, shed := none })).setF F.GZB_CAUSE_NOW_SUPPLY_LOW 0
      allDoms.foldl (fun (t : State) d =>
        if t.dom d = DS.off ∧ !t.domUnused d ∧ (t.hasHeld d ∨ t.wanted d) then t.startPwrUp d else t) s1)

def execHoldupExpiry (s : State) : Host.Outcome State Fault Refusal :=
  .next (if s.powered ∧ !s.power.mains then s.powerOff false else s)

/-- A rail of D0 or D1 low for 2 µs restarts the module as from Off (R92). -/
def execCoreRailFault (d : Nat) (s : State) : Host.Outcome State Fault Refusal :=
  .next (if d < 2 ∧ !s.power.off then s.powerOff s.power.mains else s)

end Sys2Proof.Machine
end

