-- ==== Sys2Proof/Machine/Plan.lean ====
section
/-! DEFINITION. Plan images (spec/04): the header, the directory, the checks of R140 in their order, the sections a
check leaves out, and live section swaps with the checks of R154. -/
namespace Sys2Proof.Machine

/-! ### Image layout (R136, R138, R139) -/

/-- A directory entry. -/
structure DirEnt where
  typ : Nat
  optional : Bool
  off : Nat
  len : Nat
  crc : Nat
deriving DecidableEq, Repr

def dirOf (b : Bytes) : List DirEnt :=
  (List.range (leAt b 36 2)).map (fun k =>
    let o := 80 + 16 * k
    ⟨leAt b o 2, (leAt b (o + 2) 2).testBit 0, leAt b (o + 4) 4, leAt b (o + 8) 4, leAt b (o + 12) 4⟩)

def planLen (b : Bytes) : Nat := leAt b 12 4
def planId (b : Bytes) : Nat := leAt b 16 4
def planSigOff (b : Bytes) : Nat := leAt b 40 4
def planIsSwap (b : Bytes) : Bool := (leAt b 10 2).testBit 0

/-- The section types of R142: unit bit, whether required, whether live. -/
def secRow (t : Nat) : Option (Option Nat × Bool × Bool) :=
  if t = T.SYSTEM ∨ t = T.PINS ∨ t = T.POWER then some (none, true, false)
  else if t = T.TASKS then some (some U.ARB, true, false)
  else if t = T.RECORDER then some (some U.VB, true, false)
  else if t = T.TIME then some (some U.SDL, true, false)
  else if t = T.GNSS_ACQ ∨ t = T.GNSS_TRK ∨ t = T.GNSS_INTEG ∨ t = T.BASE_POS then some (some U.BV, true, false)
  else if t = T.RTCM_OUT then some (some U.BV, false, false)
  else if t = T.SOLVE then some (some U.SLV, false, false)
  else if t = T.SLOTFRAME ∨ t = T.BAND_A then some (some U.BSA, true, false)
  else if t = T.BAND_B then some (some U.BSB, false, false)
  else if t = T.CELL_MAP then some (some U.BSA, true, true)
  else if t = T.MEMBERS ∨ t = T.CLASSES ∨ t = T.LANE_GRAPH then some (some U.PGL, true, true)
  else if t = T.WICKET then some (some U.WKT, false, false)
  else none

/-- The types a full image must hold. -/
def requiredTypes : List Nat :=
  [T.SYSTEM, T.PINS, T.POWER, T.TASKS, T.RECORDER, T.TIME, T.GNSS_ACQ, T.GNSS_TRK, T.GNSS_INTEG, T.BASE_POS,
    T.SLOTFRAME, T.BAND_A, T.CELL_MAP, T.MEMBERS, T.CLASSES, T.LANE_GRAPH]

/-! ### The checks (R140) -/

/-- ERR_INDEX where no section is named. -/
def noIndex : Nat := 0x7F

/-- Does a section configure an absent unit, or the absent E6/B3I/L6 chain (R4, R5)? -/
def secAbsent (units : Nat) (t : Nat) (b : Bytes) : Bool :=
  (match secRow t with | some (some u, _, _) => !units.testBit u | _ => false) ||
  (!units.testBit U.BV_E6 &&
    ((t = T.GNSS_ACQ && (List.range (min 4 (leAt b 0 1))).any (fun p => e6Codes.any (fun c =>
        (leAt b (12 + 16 * p) 4).testBit c))) ||
      (t = T.GNSS_TRK && e6Codes.any (fun c => leAt b (16 + 2 * c) 2 ≠ 0))))

/-- The first failing check of 1–8: its code and directory index; an overlap or a repeated TYPE is the later section's, a
DIR_OFF other than 80 fails check 7, and padding and reserved bits are not looked at (DESIGN CHOICE, log entry 34). `held`
is the count of bytes the image stands in. -/
def imageFault (part : Part) (b : Bytes) (held : Nat) : Option (Nat × Nat) :=
  let n := planLen b
  let so := planSigOff b
  let cnt := leAt b 36 2
  let ds := dirOf b
  let dend := 80 + 16 * cnt
  let idx (p : DirEnt → Bool) : Option Nat := ds.findIdx? p
  let bad7 (i : Nat) (e : DirEnt) : Bool := e.len < 8 || e.off < dend || so < e.off + e.len ||
    (ds.take i).any (fun f => f.typ = e.typ || (f.off < e.off + e.len && e.off < f.off + f.len))
  if leAt b 0 4 ≠ 0x4E414C50 then some (1, noIndex)
  else if leAt b 4 2 ≠ 1 ∨ leAt b 6 2 ≠ 80 then some (2, noIndex)
  else if crc32c (b.take 76) ≠ leAt b 76 4 ∨ b.length < 80 then some (3, noIndex)
  else if leAt b 8 2 ≠ partCode part then some (4, noIndex)
  else if (leAt b 10 2).testBit 1 ∧ slice b 48 16 ≠ uidBytes then some (5, noIndex)
  else if 1048576 < n ∨ held < n ∨ n ≠ so + 104 ∨ so % 8 ≠ 0 then some (6, noIndex)
  else match idx (fun e => e.off % 8 ≠ 0) with
    | some i => some (6, i)
    | none =>
      if cnt = 0 ∨ 64 < cnt ∨ leAt b 32 4 ≠ 80 ∨ so < dend then some (7, noIndex)
      else match (List.range ds.length).find? (fun i => (ds[i]?).any (bad7 i)) with
        | some i => some (7, i)
        | none => (idx (fun e => crc32c (slice b e.off e.len) ≠ e.crc)).map (fun i => (8, i))

/-- Is an image's signature valid under a key (R139)? -/
def planKeyOk (b k : Bytes) : Bool :=
  let so := planSigOff b
  p384.verify k (sha384 (b.take so)) (beNat (slice b (so + 8) 48)) (beNat (slice b (so + 56) 48))

/-- Check 9: is the KEY_ID a PLAN_SIGN slot's that serves, and the signature valid? The state with the use counted; no
answer while the count goes to the store (R471). Orangery verifies in D13, which powers up for it (R42); its time to do so is
not counted (DESIGN CHOICE, log entry 4). -/
def State.planSigned (s : State) (what : KeyCheck) (b : Bytes) : Option Bool × State :=
  let so := planSigOff b
  let slots := (s.slotsOf Cls.PLAN_SIGN).filter (fun n => (s.slot n).keyId = leAt b so 4)
  if leAt b (so + 4) 2 ≠ 2 then (some false, s)
  else (s.needD13.idleStart 13).tryKeys what (planKeyOk b) slots

/-- What an image that passes gives: its sections by type, and the directory entries left out (R141). -/
structure PlanParts where
  secs : List (Nat × Bytes)
  skipped : List (Nat × Nat)
deriving DecidableEq, Repr

/-- Checks 10–15; a swap image (`base` the running plan's sections) is spared 12 and 13, and its sections are checked
with the running plan's. A required section that is marked OPTIONAL and left out under R4 does not count as present for check 12
(DESIGN CHOICE, log entry 90). -/
def imageParts (units : Nat) (b : Bytes) (base : Option (List (Nat × Bytes))) : Except (Nat × Nat) PlanParts :=
  let ds := dirOf b
  let body (e : DirEnt) : Bytes := slice b e.off e.len
  let unknown (e : DirEnt) : Bool := (secRow e.typ).isNone
  let out (e : DirEnt) : Bool := unknown e || secAbsent units e.typ (body e)
  let live := ds.filter (fun e => !out e)
  let types := live.map (·.typ)
  let own := live.map (fun e => (e.typ, body e))
  let x : PCtx := ⟨units, own ++ (base.getD []).filter (fun p => !types.contains p.1)⟩
  let at' (t : Nat) : Nat := (ds.findIdx? (·.typ = t)).getD noIndex
  match ds.findIdx? (fun e => unknown e && !e.optional) with
  | some i => .error (10, i)
  | none =>
    match ds.findIdx? (fun e => !unknown e && out e && !e.optional) with
    | some i => .error (11, i)
    | none =>
      if base.isNone ∧ requiredTypes.any (fun t => !types.contains t) then .error (12, noIndex)
      else if base.isNone ∧ x.expect &&& units ≠ x.expect then .error (13, at' T.SYSTEM)
      else match live.find? (fun e => !contentOk x types e.typ) with
        | some e => .error (14, at' e.typ)
        | none =>
          if types.contains T.CELL_MAP ∧ !cellTiming (x.sec T.CELL_MAP) then .error (15, at' T.CELL_MAP)
          else .ok ⟨own, ((List.range ds.length).filterMap (fun i => (ds[i]?).bind (fun e =>
            if out e then some (i, e.typ) else none)))⟩

/-- Checks 9–15 with check 9 answered. -/
def partsSigned (units : Nat) (b : Bytes) (base : Option (List (Nat × Bytes))) (ok : Bool) : Except (Nat × Nat) PlanParts :=
  if ok then imageParts units b base else .error (9, noIndex)

/-- The checks 1–15 of R140 on an image that stands in `b`: the failure, or its parts; the state with a use of the
signing key counted; no answer while that waits for the store. -/
def State.checkImage (s : State) (what : KeyCheck) (b : Bytes) (base : Option (List (Nat × Bytes))) :
    Option (Except (Nat × Nat) PlanParts) × State :=
  match imageFault s.part b b.length with
  | some e => (some (.error e), s)
  | none =>
    let r := s.planSigned what b
    (r.1.map (partsSigned (unitsOf s.part) b base), r.2)

/-- Check 9 goes on once a use of slot `n` is counted, or could not be. -/
def State.moreImage (s : State) (what : KeyCheck) (b : Bytes) (base : Option (List (Nat × Bytes))) (n : Nat) (ns : List Nat)
    (counted : Bool) : Option (Except (Nat × Nat) PlanParts) × State :=
  let r := s.moreKeys what (planKeyOk b) n ns counted
  (r.1.map (partsSigned (unitsOf s.part) b base), r.2)

/-! ### Swaps (R153–R159) -/

/-- The sections in force: swapped ones before the slot's own. -/
def State.secsInForce (s : State) : List (Nat × Bytes) :=
  s.plan.live ++ s.plan.sections.filter (fun p => !(s.plan.live.any (·.1 = p.1)))

/-- Is the member joined? -/
def State.memberJoined (s : State) (m : Nat) : Bool := s.fleet.mbrs.any (fun x => x.id = m && (x.state = 2 || x.state = 3))

/-- Is an edge occupied: a joined member's position on it, or a window on it that has not ended (R154)? -/
def State.occupied (s : State) (e : Nat) : Bool :=
  s.pgl.mbrs.any (fun x => s.memberJoined x.id && x.pos.isSome && x.edge = e) ||
    s.pgl.wins.any (fun w => w.edge = e && (match w.stop with | some t => s.rtNow < rtNear s.rtNow t | none => true))

/-- Do windows on two edges overlap in time? -/
def State.windowsMeet (s : State) (a b : Nat) : Bool :=
  let ws := s.pgl.wins.map (Win.near s.rtNow)
  ws.any (fun v => v.edge = a && ws.any (fun w => w.edge = b && winOverlap v.start v.stop w.start w.stop))

/-- The first failing check of 20–24 of R154, on what the swap changes in the fleet. -/
def State.swapFleetFault (s : State) (secs : List (Nat × Bytes)) : Option Nat :=
  let new (t : Nat) : Bytes := ((secs.find? (·.1 = t)).map (·.2)).getD (s.sec t)
  let g := s.graph
  let g' := graphOf (new T.LANE_GRAPH)
  let ms := membersOf (new T.MEMBERS)
  let joined := (s.fleet.mbrs.filter (fun x => s.memberJoined x.id)).map (·.id)
  let busy := g.edges.filter (fun e => s.occupied e.id)
  let changed (e : GEdge) : Bool := (g'.edge? e.id).any (fun f => f.src ≠ e.src || f.dst ≠ e.dst || f.len ≠ e.len)
  let worse (c : Nat) : Bool := (classOf (new T.CLASSES) c).edec < (s.cls c).edec || (s.cls c).vmax < (classOf (new T.CLASSES) c).vmax
  if busy.any (fun e => (g'.edge? e.id).isNone) then some 21
  else if busy.any changed then some 22
  else if g'.confs.any (fun p => !g.confs.contains p && s.windowsMeet p.1 p.2) then some 23
  else if joined.any (fun m => !ms.any (fun r => r.id = m && r.enabled)) then some 24
  else if joined.any (fun m => (s.memberRec? m).any (fun r => worse r.cls)) then some 25
  else none

/-- The sections a swap image is checked with. -/
def State.swapBase (s : State) (b : Bytes) : Option (List (Nat × Bytes)) := if planIsSwap b then some s.secsInForce else none

/-- The checks of R154 after those of R140 have answered: the failing code, or the sections the image swaps. -/
def State.swapJudged (s : State) (b : Bytes) (res : Except (Nat × Nat) PlanParts) : Except Nat (List (Nat × Bytes)) :=
  let seq := leAt b 24 4
  let last := s.getF F.SYS_SWAP_SEQ_SEQ
  match res with
  | .error e => .error e.1
  | .ok p =>
    if !planIsSwap b then .error 16
    else if (dirOf b).any (fun e => !(secRow e.typ).any (·.2.2)) then .error 17
    else if planId b ≠ s.getF F.SYS_PLAN_ID then .error 18
    else if seq < last ∨ (seq = last ∧ s.swap.effectiveOnce) then .error 19
    else match s.swapFleetFault p.secs with
      | some c => .error c
      | none => .ok p.secs

/-- A SWAP record: SYS_SWAP_STAT and SWAP_SEQ (R529). -/
def State.swapRecord (s : State) : State :=
  s.vbTrigger 0x12 (leBytes 4 (s.rd R.SYS_SWAP_STAT).toNat ++ leBytes 4 s.swap.seq)

/-- REFUSED with a code; a swap already announced is cancelled in the next beacon (R153, R354). -/
def State.swapRefuse (s : State) (code : Nat) : State :=
  let t := ((s.setF F.SYS_SWAP_STAT_ERROR code).setSwap 5).swapRecord
  { t with swap := { t.swap with image := [], sections := [], framesLeft := 0, storing := false }
           fleet := { t.fleet with cancelLeft := if s.getF F.SYS_SWAP_STAT_STATE = 2 then max 1 s.swap.framesLeft else 0 } }

/-- The checks have passed: SWAP_SEQ goes to the store before ACCEPTED is shown (R155). -/
def State.swapStore (s : State) : State :=
  { s with swap := { s.swap with storing := true } }.psRequest .swap
    (.swapSeq (s.getF F.SYS_PLAN_ID) s.swap.seq)

/-- SYS_SWAP_ASN. -/
def State.swapAsn (s : State) : Nat := s.getF F.SYS_SWAP_ASN_LO_ASN_LO + 2 ^ 32 * s.getF F.SYS_SWAP_ASN_HI_ASN_HI

/-- SYS_SWAP_ASN written. -/
def State.setSwapAsn (s : State) (asn : Nat) : State :=
  (s.setF F.SYS_SWAP_ASN_LO_ASN_LO (asn % 2 ^ 32)).setF F.SYS_SWAP_ASN_HI_ASN_HI (asn / 2 ^ 32 % 256)

/-- The store holds SWAP_SEQ: ACCEPTED, SYS_SWAP_SEQ, and the boundary of R36, where no announcement named it or the one
announced no longer begins 2.5 ms or more after now. -/
def State.swapAccepted (s : State) : State :=
  if !s.swap.storing then s
  else
    let s1 := ((s.setF F.SYS_SWAP_SEQ_SEQ s.swap.seq).setSwap 3)
    let s2 := if s.swap.sections.any (·.1 = T.CELL_MAP) ∧ s.asnAhead s.swapAsn then s1 else s1.setSwapAsn s1.boundary
    { s2 with swap := { s2.swap with storing := false } }

/-- A GO (R153, R158); `second` says that another GO arrives in the same SCLK cycle. -/
def State.swapGo (s : State) (len : Nat) (second : Bool) : State :=
  let st := s.getF F.SYS_SWAP_STAT_STATE
  let rej (t : State) : State := t.setF F.SYS_SWAP_STAT_BUSY_REJ 1
  if st = 1 ∨ st = 2 ∨ st = 3 then rej s
  else
    let s1 := ((s.setF F.SYS_SWAP_STAT_ERROR 0).setSwap 1).raiseTask 10
    let s2 := { s1 with swap := { s1.swap with image := memBytes s.plan.staging 0 (min len 1048576), sections := [], seq := 0,
                                               framesLeft := 0, storing := false } }
    if second then rej (s2.setF F.SYS_SWAP_STAT_ERROR 20) else s2

/-- A write to SYS_SWAP_CTRL with GO: LENGTH bytes of the staging buffer (R153). -/
def execSwapGo (m : Master) (len : Nat) (second : Bool) (s : State) : Host.Outcome State Fault Refusal :=
  .next (s.guardW m R.SYS_SWAP_CTRL (2 ^ 31 + len % 2 ^ 21) (fun t => t.swapGo (len % 2 ^ 21) second))

/-- The last announcing slotframe's successor: the boundary an announcement that begins now names, its first beacon the
next beacon slot (R153, R354). -/
def State.announceAsn (s : State) (n : Nat) : Nat :=
  let l := max s.slotL 1
  let b := ((s.cells.find? (fun c => c.band = 0 ∧ c.role = Role.BEACON)).map (·.slot)).getD 0
  let f := (if s.asn % l < b then s.asn / l else s.asn / l + 1) + n
  -- the slotframes before ASN wraps
  let wrap := (2 ^ 40 + l - 1) / l
  (if f < wrap then f else f - wrap) * l

/-- Does a swap image's check wait for a use of its key to be counted? -/
def State.swapCounting (s : State) : Bool :=
  (s.ps.running ++ s.ps.waiting).any (fun q => match q.who with
    | .keyCount .swap _ _ => true
    | _ => false)

/-- The checks have answered, in VERIFYING or again after the announcement (R153, R154): REFUSED, ANNOUNCING where the swap
holds a CELL_MAP, or the store write that comes before ACCEPTED. -/
def State.swapChecked (s : State) (res : Option (Except (Nat × Nat) PlanParts)) : State :=
  match res.map (s.swapJudged s.swap.image) with
  | none => s
  | some (.error c) => s.swapRefuse c
  | some (.ok secs) =>
    if s.getF F.SYS_SWAP_STAT_STATE = 2 then s.swapStore
    else
      let n := leAt (s.sec T.SYSTEM) 4 1
      let t := { s with swap := { s.swap with sections := secs, seq := leAt s.swap.image 24 4 } }
      if secs.any (·.1 = T.CELL_MAP) then
        ({ t with swap := { t.swap with framesLeft := n } }.setSwapAsn (s.announceAsn n)).setSwap 2
      else t.swapStore

/-- All checks of the swap image held. -/
def State.swapCheck (s : State) : State :=
  let r := s.checkImage .swap s.swap.image (s.swapBase s.swap.image)
  r.2.swapChecked r.1

/-- The check goes on once a use of its key is counted, or could not be, where the swap is still being checked. -/
def State.swapGoOn (s : State) (n : Nat) (ns : List Nat) (counted : Bool) : State :=
  let st := s.getF F.SYS_SWAP_STAT_STATE
  if s.swap.storing ∨ ¬ (st = 1 ∨ (st = 2 ∧ s.swap.framesLeft = 0)) then s
  else
    let r := s.moreImage .swap s.swap.image (s.swapBase s.swap.image) n ns counted
    r.2.swapChecked r.1

/-- VERIFYING ends. -/
def execSwapVerifyDone (s : State) : Host.Outcome State Fault Refusal :=
  .next (if s.getF F.SYS_SWAP_STAT_STATE ≠ 1 ∨ s.swap.storing ∨ s.swapCounting then s else s.swapCheck)

/-- The announcement is over: the checks are repeated (R153). -/
def State.swapAnnounced (s : State) : State := if s.swapCounting then s else s.swapCheck

/-! ### What Gazebo takes from the plan (R73, R430) -/

/-- Gazebo's carrier region, NETWORK_ID and use of RFB; the first it takes puts the standing stop's trains on air (R430). -/
def State.setRadio (s : State) (r : Nat × Nat × Nat) : State :=
  let s1 := (s.updGzb (fun g => { g with radio := some r })).stopWords
  if s.gzb.radio.isNone ∧ s.stopStands ∧ s.gzb.train.isNone then s1.startTrain true else s1

/-- The carrier region, NETWORK_ID and use of RFB of the plan in force. -/
def State.carrier (s : State) : Nat × Nat × Nat :=
  (leAt (s.sec T.BAND_A) 0 1, s.networkId, b2n (s.expected U.BSB && s.bandBCells))

/-- Gazebo takes them. -/
def State.takeCarrier (s : State) : State :=
  let r := s.carrier
  (((s.setF F.GZB_CFG_RFB_EN r.2.2).setF F.GZB_CFG_REGION r.1).setRadio r).updGzb (fun g => { g with fromPlan := true })

/-- A class swap that lowers DEC under a deceleration: it runs to its end, and ACCEL_DEFERRED is set (R418). -/
def State.accelDefer (s : State) (oldDec : Nat → Nat) (m : Nat) : State :=
  let c := ((s.memberRec? m).map (·.cls)).getD 0
  let d := (s.clsOf m).dec
  match s.decelerating (s.pm m) with
  | some q =>
    if d < oldDec m then
      ((s.updPm m (fun x => { x with deferred := some q })).setF F.PGL_STAT_ACCEL_DEFERRED 1).pglEvent 11 m c d
    else s
  | none => s

/-- The boundary of an ACCEPTED swap: its sections come into force (R36, R156, R157), members whose MEMBERS.CLASS changed
are replanned (DESIGN CHOICE, log entry 71), a domain the new cell map holds on powers up (R41), a lowered DEC is deferred (R418), Gazebo takes its
carrier from it (R430), and a new cell map gives the schedule its sequence number (R354). -/
def State.swapEffective (s : State) : State :=
  let old := s.memberRecs
  let oldDec (m : Nat) : Nat := (s.clsOf m).dec
  let secs := s.swap.sections
  let s1 : State := { s with plan := { s.plan with live := secs ++ s.plan.live.filter (fun (p : Nat × Bytes) => !(secs.any (·.1 = p.1))) } }
  let s2 := (s1.takeCarrier.setSwap 4).swapRecord
  let s3 := { s2 with swap := { s2.swap with effectiveOnce := true, image := [], sections := [] } }
  let now : List MemberRec := s3.memberRecs
  let moved := (now.filter (fun (r : MemberRec) => old.any (fun o => o.id = r.id && o.cls ≠ r.cls) && s3.memberJoined r.id)).map (·.id)
  let s4 := if s3.pglOn then
      (s3.pgl.mbrs.map (·.id)).foldl (fun t m => t.accelDefer oldDec m) ((moved.filter (fun m => (s3.pm m).goal.isSome)).foldl (fun t m => t.replan m 2 0) s3)
    else s3
  (if secs.any (·.1 = T.CELL_MAP) then s4.updFleet (fun f => { f with schedSeq := (s.swap.seq + 254) % 255 + 1 })
    else s4).holdUp

end Sys2Proof.Machine
end

