-- ==== Sys2Proof/Machine/Update.lean ====
section
/-! DEFINITION. Field update (spec/16_field_update.md): the update controller's record, update images and firmware parts
with their checks, update sessions and their lock, activation, confirmation, the anti-rollback fuses. -/
namespace Sys2Proof.Machine

/-! ### The record of R496 -/

/-- The record in the image selected; CONFIRMED, with slots A active, where the store is empty (R130, R496). -/
def State.updRec (s : State) : UpdRec := s.psImage.upd.getD {}

/-- The update controller's record as the store will hold it once its requests are written. -/
def State.updRecNext (s : State) : UpdRec :=
  (s.ps.running ++ s.ps.waiting).foldl (fun r q => match q.change with
    | .upd x => x
    | _ => r) s.updRec

/-- The record and the fuses as the UPD registers show them. -/
def State.updShow (s : State) : State :=
  let r := s.updRec
  let b (x : Bool) : Nat := if x then 1 else 0
  (((((((((s.setF F.UPD_STAT_STATE r.state).setF F.UPD_STAT_TRIAL_BOOTS r.trialBoots).setF F.UPD_STAT_FW_ACTIVE
    r.fwActive).setF F.UPD_STAT_PLAN_ACTIVE r.planActive).setF F.UPD_STAT_SVN_PENDING (b r.svnPending)).setF
    F.UPD_ERR_RB_CAUSE r.rbCause).setF F.UPD_REL_A r.relA).setF F.UPD_REL_B r.relB).setF F.UPD_SVN_FLOOR
    s.flash.svnFuses)

/-- An UPDATE record in the Visitor book (R529). -/
def State.updRecord (s : State) : State :=
  s.vbTrigger 0x40 (leBytes 4 (s.rd R.UPD_STAT).toNat ++ leBytes 4 (s.rd R.UPD_ERR).toNat)

/-! ### Signature blocks and firmware parts (R501, R502) -/

/-- Is the block's vendor signer valid? -/
def State.vendorOk (s : State) (blk : Bytes) : Bool :=
  let i := leAt blk 0 1
  i < 4 && !s.flash.revoked.contains i && sha384 (slice blk 8 97) = leBytes 48 (Config.vendorKeyHash i).toNat

/-- Does a signature block's signature over a message verify under its PUBKEY? -/
def sigOk (blk msg : Bytes) : Bool :=
  p384.verify (slice blk 8 97) (sha384 msg) (beNat (slice blk 108 48)) (beNat (slice blk 156 48))

def fwBody (p : Bytes) : Bytes := slice p 64 (leAt p 8 4)
def fwSecVer (p : Bytes) : Nat := leAt p 12 4
def fwSetId (p : Bytes) : Nat := leAt p 16 4
def fwSig (p : Bytes) : Bytes := p.drop (64 + leAt p 8 4)
def fwSigner (p : Bytes) : Bytes := slice (fwSig p) 8 97

/-- The checks of step 6 on one firmware part (R501, R517). -/
def State.fwPartOk (s : State) (kind : Nat) (p : Bytes) : Bool :=
  leAt p 0 4 = 0x4D495746 && leAt p 4 1 = kind && leAt p 6 2 = partCode s.part && p.length = 272 + leAt p 8 4 &&
    (!(leAt p 5 1).testBit 0 || slice p 20 16 = uidBytes) && fwSecVer p ≤ 63 && s.flash.svnFuses ≤ fwSecVer p &&
    crc32c (p.take 60) = leAt p 60 4 && s.vendorOk (fwSig p) && sigOk (fwSig p) (p.take (64 + leAt p 8 4))

/-- The unit of a part type, where it has one (R500). -/
def partUnit (t : Nat) : Option Nat :=
  match t with
  | 2 => some U.BV
  | 3 => some U.BSA
  | 4 => some U.SLV
  | 5 => some U.PGL
  | 6 => some U.WKT
  | _ => none

/-- The firmware part types a part needs: FW_ARBOUR and that of every unit present (R500). -/
def State.fwNeeds (s : State) : List Nat := [1, 2, 3, 4, 5, 6].filter (fun t => (partUnit t).all s.present)

/-- Do the parts of a firmware slot pass step 6: a complete set of one SET_ID, SEC_VER and signer? -/
def State.fwSetOk (s : State) (parts : List (Nat × Bytes)) : Bool :=
  s.fwNeeds.all (fun t => parts.any (·.1 = t)) && parts.all (fun p => s.fwPartOk p.1 p.2) &&
    parts.all (fun p => parts.all (fun q => fwSetId p.2 = fwSetId q.2 && fwSecVer p.2 = fwSecVer q.2 &&
      fwSigner p.2 = fwSigner q.2))

/-! ### Update images (R497–R500) -/

/-- A manifest entry. -/
structure UPart where
  typ : Nat
  optional : Bool
  off : Nat
  len : Nat
  digest : Bytes
deriving DecidableEq, Repr

def uparts (h : Bytes) : List UPart :=
  (List.range (leAt h 20 2)).map (fun k =>
    let o := 128 + 64 * k
    ⟨leAt h o 1, (leAt h (o + 1) 1).testBit 0, leAt h (o + 4) 4, leAt h (o + 8) 4, slice h (o + 16) 48⟩)

def isFw (t : Nat) : Bool := 1 ≤ t && t ≤ 6

/-- Is a part for an absent unit, and so skipped (R500)? -/
def State.upSkip (s : State) (p : UPart) : Bool := (partUnit p.typ).any (fun u => !s.present u)

/-- Is the layout of R498 and R499 met (check 5)? -/
def layoutOk (h : Bytes) : Bool :=
  let n := leAt h 20 2
  let ps := uparts h
  let po := 336 + 64 * n
  1 ≤ n && n ≤ 8 && leAt h 16 4 = 128 && leAt h 24 4 = 128 + 64 * n && leAt h 28 4 = po &&
    ps.all (fun p => po ≤ p.off && p.off % 8 = 0 && p.off + p.len ≤ leAt h 12 4 &&
      (ps.filter (·.typ = p.typ)).length = 1 &&
      (ps.filter (fun q => q.off < p.off + p.len && p.off < q.off + q.len)).length ≤ 1) &&
    ps.foldl (fun m p => max m (p.off + p.len)) 0 = leAt h 12 4

/-- Is R500 met (check 8)? -/
def State.partSetOk (s : State) (h : Bytes) : Bool :=
  let ps := uparts h
  let fw := ps.filter (fun p => isFw p.typ)
  ps.all (fun p => isFw p.typ || p.typ = 0x10 || p.typ = 0x20) && ps.all (fun p => !s.upSkip p || p.optional) &&
    (fw = [] || s.fwNeeds.all (fun t => fw.any (·.typ = t))) &&
    ps.all (fun p => (p.typ ≠ 0x10 || p.len ≤ 1048576) && (p.typ ≠ 0x20 || p.len ≤ 65536)) &&
    (fw.map (·.len)).sum ≤ 25165824

/-- Is the image's signer valid (check 6)? In the recovery ROM only a vendor's is, since every slot is sealed (R519). The slot's
key is compared and not used, so that no use is counted (R502, R470). -/
def State.signerOk (s : State) (blk : Bytes) : Bool :=
  if leAt blk 0 1 = 0x10 then
    (s.slotsOf Cls.KEY_AUTH).any (fun n => !(s.slot n).isSealed && (s.slot n).key = slice blk 8 97)
  else s.vendorOk blk

/-- The code of the first of checks 1–9 of R503 that fails. -/
def State.beginFault (s : State) (h : Bytes) : Option Nat :=
  let so := 128 + 64 * leAt h 20 2
  let blk := h.drop so
  if leAt h 0 4 ≠ 0x49445055 ∨ leAt h 4 2 ≠ 1 ∨ leAt h 6 2 ≠ 128 then some 0x21
  else if crc32c (h.take 124) ≠ leAt h 124 4 then some 0x22
  else if leAt h 8 2 ≠ partCode s.part then some 0x23
  else if (leAt h 10 2).testBit 0 ∧ slice h 32 16 ≠ uidBytes then some 0x24
  else if !layoutOk h then some 0x25
  else if !s.signerOk blk then some 0x26
  else if !sigOk blk (h.take so) then some 0x27
  else if !s.partSetOk h then some 0x28
  else if s.updRec.state = 1 then some 0x29
  else none

/-! ### Sessions (R503–R513). `src` is the LOCK code of the source: 1 the Isben link, 2 the host route. -/

def State.updSession (s : State) : Nat := s.getF F.UPD_STAT_SESSION
def State.holdsLock (s : State) (src : Nat) : Bool := s.getF F.UPD_STAT_LOCK = src

/-- The inactive firmware and plan slots as an image writes them; `fw` and `plan` say which. -/
def State.putSlots (s : State) (fw : Option (List (Nat × Bytes))) (plan : Option Bytes) : State :=
  let r := s.updRec
  let f := s.flash
  let f1 : Flash := match fw with
    | some x => if r.fwActive = 0 then { f with fwB := x } else { f with fwA := x }
    | none => f
  let f2 : Flash := match plan with
    | some x => if r.planActive = 0 then { f1 with planB := x } else { f1 with planA := x }
    | none => f1
  { s with flash := f2 }

/-- The bytes received of a part. -/
def Upd.part (u : Upd) (p : UPart) : Bytes := memBytes u.bytes p.off p.len

/-- Has every byte of a part come? The ranges do not overlap. -/
def Upd.got (u : Upd) (p : UPart) : Bool :=
  ((u.ranges.filter (fun r => p.off ≤ r.1 && r.1 < p.off + p.len)).map (·.2)).sum = p.len

/-- The inactive slots hold what has come: a part counts once it is whole. -/
def State.program (s : State) : State :=
  let ps := (uparts s.upd.head).filter (fun p => !s.upSkip p)
  let fw := ps.filter (fun p => isFw p.typ)
  let plan := ps.filter (fun p => p.typ = 0x10)
  s.putSlots (if fw = [] then none else some ((fw.filter s.upd.got).map (fun p => (p.typ, s.upd.part p))))
    (match plan with
      | p :: _ => some (if s.upd.got p then s.upd.part p else [])
      | [] => none)

/-- UPD_BEGIN: the lock, checks 1–10, the erase of the slots (R503, R504, R512): the STATUS of the reply. -/
def State.updBegin (s : State) (src : Nat) (h : Bytes) : Nat × State :=
  if s.getF F.UPD_STAT_LOCK ≠ 0 then (3, s)
  else if h.length < 400 ∨ (leAt h 20 2 ≤ 8 ∧ h.length ≠ 336 + 64 * leAt h 20 2) then (2, s)
  else
    let s1 := (s.setF F.UPD_STAT_LOCK src).setF F.UPD_RX_BYTES 0
    match s.beginFault h with
    | some c => (c, s1.updEnd c 0)
    | none => (0, ({ s1.setF F.UPD_STAT_SESSION 1 with upd := { head := h, lastFrc := s.now } }).program)

/-- UPD_DATA (R503 check 11). -/
def State.updData (s : State) (src off : Nat) (b : Bytes) : Nat × State :=
  if !s.holdsLock src then (0x2A, s)
  else if s.updSession ≠ 1 then (3, s)
  else if b = [] ∨ 4096 < b.length then (2, s)
  else if !(uparts s.upd.head).any (fun p => p.off ≤ off && off + b.length ≤ p.off + p.len) ∨
      s.upd.ranges.any (fun r => r.1 < off + b.length && off < r.1 + r.2) then (0x2B, s.updEnd 0x2B 0)
  else
    let u := s.upd
    let s1 : State := { s with upd := { u with bytes := memWrite u.bytes off b, ranges := (off, b.length) :: u.ranges } }
    (0, (s1.incF F.UPD_RX_BYTES b.length).program)

/-- The first failing check of 12–14 with the manifest index UPD_ERR.PART names. -/
def State.endFault (s : State) : Option (Nat × Nat) :=
  let ps := uparts s.upd.head
  let idx (f : UPart → Bool) : Option Nat := ps.findIdx? f
  let mine (p : UPart) : Bool := !s.upSkip p
  let fw := (ps.filter (fun p => isFw p.typ && mine p)).map (fun p => (p.typ, s.upd.part p))
  match idx (fun p => !s.upd.got p) with
  | some i => some (0x2C, i)
  | none => match idx (fun p => sha384 (s.upd.part p) ≠ p.digest) with
    | some i => some (0x2D, i)
    | none => match idx (fun p => isFw p.typ && mine p && !s.fwPartOk p.typ (s.upd.part p)) with
      | some i => some (0x2E, i)
      | none => if fw ≠ [] ∧ !s.fwSetOk fw then some (0x2E, (idx (fun p => isFw p.typ)).getD 0) else none

/-- The plan part of the session's image, and its manifest index. -/
def State.endPlan? (s : State) : Option (Nat × Bytes) :=
  (uparts s.upd.head).findIdx? (·.typ = 0x10) |>.bind (fun i => ((uparts s.upd.head)[i]?).map (fun p => (i, s.upd.part p)))

/-- Check 15 on the plan part with its signature judged: the checks 1–13 of R140, but for check 9 in the recovery ROM. -/
def State.endPlanBad (s : State) (b : Bytes) (ok : Bool) : Bool :=
  (imageFault s.part b b.length).isSome || planIsSwap b || !ok ||
    (match imageParts (unitsOf s.part) b none with
      | .error e => e.1 ≤ 13
      | .ok _ => false)

/-- The STATUS of UPD_END's reply once every check has answered: the session is VERIFIED, or ends. -/
def State.updVerdict (s : State) (f : Option (Nat × Nat)) : Nat × State :=
  match f with
  | some (c, i) => (c, s.updEnd c i)
  | none => (0, s.setF F.UPD_STAT_SESSION 3)

/-- Check 15's answer, where its signature check has one. -/
def State.updSigned (s : State) (ok : Option Bool) : Option Nat × State :=
  match ok, s.endPlan? with
  | some x, some (i, b) =>
    let r := s.updVerdict (if s.endPlanBad b x then some (0x2F, i) else none)
    (some r.1, r.2)
  | some _, none => let r := s.updVerdict none; (some r.1, r.2)
  | none, _ => (none, s)

/-- UPD_END: the STATUS of its reply, none while a use of a PLAN_SIGN slot goes to the store (R471) and the session stands
VERIFYING. -/
def State.updFinish (s : State) (src seq : Nat) : Option Nat × State :=
  if !s.holdsLock src then (some 0x2A, s)
  else if s.updSession ≠ 1 then (some 3, s)
  else match s.endFault with
    | some f => let r := s.updVerdict (some f); (some r.1, r.2)
    | none =>
      match s.endPlan? with
      | some (_, b) =>
        if (imageFault s.part b b.length).isSome ∨ planIsSwap b ∨ s.flag F.SYS_BOOT_STAT_RECOVERY then s.updSigned (some true)
        else
          let r := (s.setF F.UPD_STAT_SESSION 2).planSigned (.updEnd src seq) b
          r.2.updSigned r.1
      | none => s.updSigned (some true)

/-- UPD_ACTIVATE: the record of R513 is requested, or FLEET_ACTIVE. -/
def State.updActivate (s : State) (src : Nat) : Nat × State :=
  let rom := s.flag F.SYS_BOOT_STAT_RECOVERY
  if !s.holdsLock src then (0x2A, s)
  else if s.updSession ≠ 3 ∨ (!rom ∧ s.anyJoined ∧ s.gzState ≠ Gz.STOPPED) then (0x31, s.setF F.UPD_ERR_ERROR 0x31)
  else
    let r := s.updRecNext
    let ps := (uparts s.upd.head).filter (fun p => !s.upSkip p)
    let fw := ps.find? (fun p => isFw p.typ)
    let plan := ps.any (fun p => p.typ = 0x10)
    let rel := leAt s.upd.head 48 4
    let target := match fw with | some p => fwSecVer (s.upd.part p) | none => s.flash.svnFuses
    let newFw := 1 - r.fwActive
    let r1 : UpdRec := { r with
      fwActive := if fw.isSome then newFw else r.fwActive
      planActive := if plan then 1 - r.planActive else r.planActive
      changed := (if fw.isSome then 1 else 0) + (if plan then 2 else 0)
      state := 1, trialBoots := 0, burn := (leAt s.upd.head 10 2).testBit 1, svnTarget := target
      relA := if fw.isSome ∧ newFw = 0 then rel else r.relA
      relB := if fw.isSome ∧ newFw = 1 then rel else r.relB }
    (0, (s.setF F.UPD_STAT_SESSION 4).psRequest (.updActivate src) (.upd r1))

/-- May a TRIAL be confirmed (R516)? -/
def State.mayConfirm (s : State) : Bool :=
  s.updRec.state = 1 && s.flag F.SYS_BOOT_STAT_DONE && !s.flag F.SYS_BOOT_STAT_RECOVERY && s.planActive &&
    !s.flag F.SYS_PLAN_STAT_FALLBACK

/-- A confirmation from any of its three sources. -/
def State.updConfirm (s : State) : Nat × State :=
  if s.mayConfirm then
    let r := s.updRecNext
    (0, s.psRequest .updConfirm (.upd { r with state := 0, trialBoots := 0, svnPending := r.burn || r.svnPending }))
  else (0x32, s.setF F.UPD_ERR_ERROR 0x32)

/-- UPD_ABORT from the link or the host route. -/
def State.updAbort (s : State) (src : Nat) : Nat × State :=
  if !s.holdsLock src then (0x2A, s) else (0, s.updEnd 0x30 0)

/-- A word written to UPD_CTRL: KEY, then CONFIRM and ABORT (R516), and IRQ_EN. -/
def State.updCtrlWrite (s : State) (v : Nat) : State :=
  if v / 65536 % 65536 ≠ 0xC3A5 then s
  else
    let s1 := s.setF F.UPD_CTRL_IRQ_EN (bitsOf v 2 1)
    let s2 := if v.testBit 0 then s1.updConfirm.2 else s1
    if v.testBit 1 then s2.updEnd 0x30 0 else s2

/-! ### The two routes (R507–R511) -/

/-- Does the firmware or the recovery ROM serve the link? -/
def State.linkServed (s : State) : Bool := s.powered && s.domOn 3 && !s.power.boot && !s.testing 2

/-- The link commands the recovery ROM serves (R509). -/
def romServes (cmd : Nat) : Bool := [0x01, 0x02, 0x03, 0x10, 0x11, 0x12, 0x13, 0x14, 0x16].contains cmd

/-- A valid packet of the link (R508, R509): counted; a repeat of the last SEQ is answered with the kept reply; in the
recovery ROM what it does not serve is UNAVAILABLE. -/
def State.svcPacket (s : State) (cmd seq : Nat) (k : State → State) : State :=
  if !s.linkServed then (if s.powered ∧ !s.domOn 3 then s.domEvent 3 .work else s)
  else
    let s1 := s.incF F.SVC_CNT_RX_OK
    let s2 : State := { s1 with
      svc := { s1.svc with rateProven := true }
      upd := if s.holdsLock 1 then { s.upd with lastFrc := s.now } else s.upd }
    if s.svc.keptSeq = some (seq % 256) then { s2 with svc := { s2.svc with sent := s2.svc.kept } }
    else if s.svc.submit.any (·.1 = seq % 256) then s2
    else if s.flag F.SYS_BOOT_STAT_RECOVERY ∧ !romServes cmd then s2.svcReply cmd (seq % 256) 5
    else k s2

/-- An update command from the link, which task 15 serves (R568). -/
def State.updLink (s : State) (cmd seq : Nat) (k : State → Nat × State) : State :=
  s.svcPacket cmd seq (fun t =>
    let r := k (t.raiseTask 15)
    r.2.svcReply cmd (seq % 256) r.1)

/-- A reply in channel 24: TAG the command + 0x80, DATA0 the STATUS (R511). -/
def State.mbxReply (s : State) (cmd st : Nat) : State :=
  (s.mbxDataWrite 24 0 st).mbxCtrlWrite (Master.core 0) 24 (1 + 4 * 1 + 256 * (cmd + 0x80))

/-- The reply to UPD_END, where its STATUS is known: on the link, or in channel 24 (R508, R511). -/
def State.updEndReply (src seq : Nat) (r : Option Nat × State) : State :=
  match r.1 with
  | none => r.2
  | some st =>
    if src = 1 then r.2.svcReply 0x12 (seq % 256) st
    else r.2.mbxReply 0x12 st

/-- UPD_END goes on once a use of a PLAN_SIGN slot is counted, or could not be; without its session it is DENIED, and without the
firmware the session receives again, so that the command may be repeated (DESIGN CHOICE, log entry 35). -/
def State.updEndGoOn (s : State) (src seq n : Nat) (ns : List Nat) (counted : Bool) : State :=
  if !s.linkServed then (if s.updSession = 2 then s.setF F.UPD_STAT_SESSION 1 else s)
  else State.updEndReply src seq (
    match s.endPlan? with
    | some (_, b) =>
      if !s.holdsLock src ∨ s.updSession ≠ 2 then (some 0x2A, s)
      else
        let r := s.moreKeys (.updEnd src seq) (planKeyOk b) n ns counted
        r.2.updSigned r.1
    | none => (some 0x2A, s))

/-- The bytes of UPD_BUF. -/
def State.updBuf (s : State) (n : Nat) : Bytes :=
  ((List.range ((min n 4096 + 3) / 4)).flatMap (fun k => leBytes 4 (s.rd (R.UPD_BUF k)).toNat)).take n

/-- A message word of a mailbox channel. -/
def State.mbxWord (s : State) (c k : Nat) : Nat := (s.rd (0x30000 + 0x80 * c + 4 * k)).toNat

/-- A command on mailbox channel 16 that task 15 takes, and its reply in channel 24 (R511). -/
def State.updHostTake (s : State) (cmd : Nat) (k : State → State) : State :=
  if !s.linkServed ∨ s.flag F.SYS_BOOT_STAT_RECOVERY ∨ !s.flag (F.MBX_CTRL_GO 16) ∨ s.getF (F.MBX_CTRL_TAG 16) ≠ cmd ∨
      s.flag (F.MBX_CTRL_GO 24) then s
  else
    let s1 := s.mbxCtrlWrite (Master.core 0) 16 2
    let s2 : State := if s.holdsLock 2 then { s1 with upd := { s1.upd with lastFrc := s.now } } else s1
    if s.updViaHost then k s2 else s2.mbxReply cmd 4

def State.updHost (s : State) (cmd : Nat) (k : State → Nat × State) : State :=
  s.updHostTake cmd (fun t => let r := k t; r.2.mbxReply cmd r.1)

/-- Is a command of the link one without a payload, else BAD_LEN? -/
def noPayload (p : Bytes) (k : State → Nat × State) (s : State) : Nat × State := if p = [] then k s else (2, s)

/-! ### Commands -/

def execUpdBegin (r : UpdRoute) (s : State) : Host.Outcome State Fault Refusal :=
  .next (match r with
    | .link seq p => s.updLink 0x10 seq (fun t => t.updBegin 1 p)
    | .host => s.updHost 0x10 (fun t => t.updBegin 2 (s.updBuf (s.mbxWord 16 1)))
    | .ctrl _ _ => s)

def execUpdData (r : UpdRoute) (s : State) : Host.Outcome State Fault Refusal :=
  .next (match r with
    | .link seq p => s.updLink 0x11 seq (fun t => if p.length < 5 then (2, t) else t.updData 1 (leAt p 0 4) (p.drop 4))
    | .host => s.updHost 0x11 (fun t => if 4096 < s.mbxWord 16 1 then (2, t)
        else t.updData 2 (s.mbxWord 16 0) (s.updBuf (s.mbxWord 16 1)))
    | .ctrl _ _ => s)

def execUpdEnd (r : UpdRoute) (s : State) : Host.Outcome State Fault Refusal :=
  .next (match r with
    | .link seq p => s.svcPacket 0x12 seq (fun t =>
        if p = [] then State.updEndReply 1 seq ((t.raiseTask 15).updFinish 1 seq)
        else (t.raiseTask 15).svcReply 0x12 (seq % 256) 2)
    | .host => s.updHostTake 0x12 (fun t => State.updEndReply 2 0 (t.updFinish 2 0))
    | .ctrl _ _ => s)

def execUpdActivate (r : UpdRoute) (s : State) : Host.Outcome State Fault Refusal :=
  .next (match r with
    | .link seq p => s.updLink 0x13 seq (noPayload p (·.updActivate 1))
    | .host => s.updHost 0x13 (·.updActivate 2)
    | .ctrl _ _ => s)

def execUpdAbort (r : UpdRoute) (s : State) : Host.Outcome State Fault Refusal :=
  .next (match r with
    | .link seq p => s.updLink 0x14 seq (noPayload p (·.updAbort 1))
    | .host => s.updHost 0x14 (·.updAbort 2)
    | .ctrl m v => s.guardW m R.UPD_CTRL v.toNat (·.updCtrlWrite v.toNat))

def execUpdConfirm (r : UpdRoute) (s : State) : Host.Outcome State Fault Refusal :=
  .next (match r with
    | .link seq p => s.updLink 0x15 seq (noPayload p (·.updConfirm))
    | .host => s.updHost 0x15 (·.updConfirm)
    | .ctrl m v => s.guardW m R.UPD_CTRL v.toNat (·.updCtrlWrite v.toNat))

/-- 60 s without a packet or a command of the lock's source (R505). -/
def execUpdLockTimeout (s : State) : Host.Outcome State Fault Refusal :=
  .next (if s.getF F.UPD_STAT_LOCK ≠ 0 ∧ s.since s.upd.lastFrc 60000000 then s.updEnd 0x30 0 else s)

/-- With SVN_PENDING set, fuses are blown up to SVN_TARGET, and SVN_PENDING = 0 is written (R517). -/
def State.svnBurn (s : State) : State :=
  if !s.updRec.svnPending then s
  else
    let n := max s.flash.svnFuses (min s.updRec.svnTarget 63)
    ({ s with flash := { s.flash with svnFuses := n } }.setF F.UPD_SVN_FLOOR n).psRequest .updOther
      (.upd { s.updRecNext with svnPending := false })

def execSvnFuseBurn (s : State) : Host.Outcome State Fault Refusal :=
  .next (if s.powered ∧ !(s.ps.running ++ s.ps.waiting).any (fun q => q.who = .updOther) then s.svnBurn else s)

end Sys2Proof.Machine
end

