-- ==== Sys2Proof/Machine/Arbour.lean ====
section
/-! DEFINITION. The Arbour commands (spec/06_arbour_scheduler.md R195–R218): submission, dispatch, completion, core
faults, flags and masks, the system work-item types. -/
namespace Sys2Proof.Machine

/-! ### Submission (R206–R211) -/

/-- The data bytes of a packet. -/
def Pkt.data (p : Pkt) : Bytes := p.words.flatMap (fun x => leBytes 4 x.data.toNat)

/-- Is a descriptor with `words` words and `last` valid bytes in its last one well formed (R207)? -/
def wiFormed (b : Bytes) (words last : Nat) : Bool :=
  let n := leAt b 8 2
  n ≤ 960 && words = 8 + (n + 3) / 4 && last = (if n % 4 = 0 then 4 else n % 4) && leAt b 3 1 < 2 && leAt b 10 2 = 0

/-- The task an item goes to (R208). -/
def State.route (s : State) (g : Grp) (typ task : Nat) : Option TaskSt :=
  let host (t : TaskSt) : Bool := !t.event && t.handler = typ
  if task = 0 then
    if typ = W.NOP ∨ typ = W.SIGNAL ∨ typ = W.CANCEL then s.task? 14
    else if typ = W.VB_READ then s.task? 12
    else match s.arb.tasks.find? (fun t => host t && t.may g) with
      | some t => some t
      | none =>
        if typ = W.ORG_KEY_UPDATE ∨ typ = W.ORG_DERIVE then s.task? 11
        else if typ = W.VB_MARK then s.task? 12 else none
  else if task < 16 then none
  else (s.task? task).filter host

/-- The unit an item acts on: for BS_SEND that of the band it names (R213). -/
def wiUnit (typ : Nat) (b : Bytes) : Option Nat :=
  if typ = W.BS_SEND ∧ (leAt b 12 4).testBit 8 then some U.BSB else (catRow typ).bind (·.unit)

/-- The first check of R209 that fails: its status, and the task a record names. `full` says that the in-flight part of
check 2 fails. -/
def State.wiRefusal (s : State) (g : Grp) (full formed : Bool) (b : Bytes) : Option (Nat × Nat) :=
  let typ := leAt b 0 2
  let task := s.route g typ (leAt b 2 1)
  let unit := wiUnit typ b
  let tid := (task.map (·.id)).getD 0
  if !formed then some (St.MALFORMED, 0)
  else if full || task.any (fun t => t.qmax ≤ (s.queued t.id).length) then some (St.BUSY, 0)
  else if (catRow typ).isNone then some (St.BAD_TYPE, 0)
  else if !s.planActive && unit.any (fun u => u ≠ U.ORG && u ≠ U.VB) then some (St.NO_PLAN, 0)
  else if unit.any (fun u => !s.present u) then some (St.ABSENT, 0)
  else if unit.any (fun u => !s.expected u) then some (St.NOT_EXPECTED, 0)
  else match task with
    | none => some (St.BAD_TASK, 0)
    | some t =>
      if (16 ≤ t.id && !t.may g) || (g = .ns && (catRow typ).any (·.secOnly)) then some (St.SEC_DENIED, tid)
      else if s.dom t.dom = DS.lockout then some (St.DOMAIN_FAULT, tid) else none

/-- Items not yet dispatched of a group with a tag, but for one item (R214). -/
def State.cancelled (s : State) (g : Grp) (tag wid : Nat) : List Nat :=
  (s.arb.items.filter (fun i => i.grp = g && i.phase = .queued && i.tag = tag && i.wid ≠ wid)).map (·.wid)

/-- An item accepted (R210): in flight, its task's domain powered (R203); a CANCEL acts at once (R214). -/
def State.wiAccept (s : State) (g : Grp) (b : Bytes) : State :=
  let typ := leAt b 0 2
  let task := s.route g typ (leAt b 2 1)
  let wid := s.arb.nextWid
  let s1 := s.addItem g typ ((task.map (·.id)).getD 0) ((leAt b 3 1).testBit 0) (leAt b 4 4)
    ((List.range 5).map (fun k => leAt b (12 + 4 * k) 4)) (slice b 32 (leAt b 8 2))
  if typ = W.CANCEL then
    let gone := s1.cancelled g (leAt b 12 4) wid
    ((s1.completeAll gone St.CANCELLED).finish wid St.OK (leBytes 4 gone.length)).complete wid
  else match task with
    | some t => if s1.domOn t.dom then s1 else s1.domEvent t.dom .work
    | none => s1

/-- The first complete packet of a window, those that lost a word before it discarded (R191): it, and those behind. -/
def takePkt : List Pkt → Option (Pkt × List Pkt)
  | [] => none
  | p :: ps => if !p.closed then none else if p.lost then takePkt ps else some (p, ps)

/-- The packets of a window without those at its head that lost a word and whose end mark has come (R191). -/
def dropLost : List Pkt → List Pkt
  | [] => []
  | p :: ps => if p.closed && p.lost then dropLost ps else p :: ps

/-- A packet taken from a group's WI_SUBMIT window, checked, accepted or refused (R209). -/
def State.wiSubmit (s : State) (g : Grp) (p : Pkt) (ps : List Pkt) : State :=
  let b := p.data
  let s1 := s.setStrm (submitWin g) { s.strm (submitWin g) with pkts := ps }
  let full : Bool := s.quota g ≤ s.inFlightOf g || 512 ≤ s.inFlight
  match s1.wiRefusal g full (wiFormed b p.words.length ((p.words.getLast?.map (·.bytes)).getD 0)) b with
  | none => s1.wiAccept g b
  | some (st, task) =>
    let s2 := if st = St.BUSY then s1.incF (if g = .sec then F.ARB_BUSY_CNT_BUSY_S else F.ARB_BUSY_CNT_BUSY_NS) else s1
    s2.pushRefusal g (recordOf (leAt b 0 2) task st (leAt b 4 4) [] 255 (s.now % 2 ^ 32))

/-- The packet at the head of a group's submit window goes to the scheduler; D3 powers up for it (R42). Packets that lost
a word are discarded whole, with or without another behind them (R191). -/
def State.wiHead (s : State) (g : Grp) (ok : Pkt → Bool) : State :=
  if g = .int ∨ !s.domOn 2 then s
  else match takePkt (s.strm (submitWin g)).pkts with
    | none =>
      let q := s.strm (submitWin g)
      if dropLost q.pkts = q.pkts then s
      else if s.domOn 3 then s.setStrm (submitWin g) { q with pkts := dropLost q.pkts } else s.domEvent 3 .work
    | some (p, ps) => if !ok p then s else if s.domOn 3 then s.wiSubmit g p ps else s.domEvent 3 .work

def execWorkItemSubmit (g : Grp) (s : State) : Host.Outcome State Fault Refusal := .next (s.wiHead g (fun _ => true))

def execCancel (g : Grp) (s : State) : Host.Outcome State Fault Refusal :=
  .next (s.wiHead g (fun p => leAt p.data 0 2 = W.CANCEL))

/-! ### Dispatch (R197, R200–R202) -/

/-- The flags dispatch consumes: those of the mask, for an EVENT task or with CONSUME (R197). -/
def TaskSt.consumed (t : TaskSt) : TaskSt :=
  if t.event ∨ t.consume then { t with flags := t.flags - (t.flags &&& t.mask) } else t

/-- An entry started on a core. -/
def State.startOn (s : State) (k lvl : Nat) (e : Nat × Nat × Option Nat) (lat : Nat) : State :=
  let s1 := (s.updTask e.1 (fun t => t.consumed)).updArb (fun a => { a with
    cores := a.cores.set k 1, tokens := a.tokens.set lvl ((e.1 + 1) % 256), cycle := a.cycle + 1 })
  let s2 := match e.2.2 with
    | some wid => s1.updItem wid (fun i => { i with phase := .running k })
    | none => s1.updTask e.1 (fun t => { t with runs := t.runs ++ [k] })
  s2.maxF F.ARB_LAT_MAX_LAT lat

/-- The scheduler starts its next entry; it takes at most 48 SCLK cycles (R202). -/
def execDispatch (lat : Nat) (s : State) : Host.Outcome State Fault Refusal :=
  .next (if !s.domOn 3 ∨ 48 < lat then s
    else match s.idleCores.head?, s.pick 16 0 with
      | some k, some e => s.startOn k (((s.task? e.1).map (·.prio)).getD 0) e lat
      | _, _ => s)

/-! ### Completion (R210, R212, R215) -/

/-- An internal item's core takes its frame from the receive queue it serves (R568). -/
def State.takeRx (s : State) (task : Nat) : State :=
  if task = 3 then { s with bsa := { s.bsa with rx := s.bsa.rx.drop 1 } }
  else if task = 2 then { s with bsb := { s.bsb with rx := s.bsb.rx.drop 1 } } else s

/-- A handler ends: an item its handler has finished completes; an internal item completes; a run of an EVENT task frees
its core. -/
def execWorkItemComplete (r : RunEnd) (s : State) : Host.Outcome State Fault Refusal :=
  .next (match r with
    | .item wid =>
      match s.item? wid with
      | none => s
      | some i =>
        if i.phase.isDone ∨ i.phase = .queued then s
        else if i.grp = .int then (s.takeRx i.task).complete wid
        else if i.finished then s.complete wid else s
    | .event task k =>
      match s.arb.tasks.find? (·.id = task) with
      | none => s
      | some t =>
        if t.runs.contains k then
          (s.updTask task (fun x => { x with runs := x.runs.erase k })).updArb
            (fun a => { a with cores := a.cores.set k 0 })
        else s)

/-- A record that waited goes into its WI_DONE window: refusals and epoch records first (R215), then completions. -/
def execWiDonePush (g : Grp) (s : State) : Host.Outcome State Fault Refusal :=
  .next (if g = .int ∨ !s.domOn 2 then s
    else match s.waits g with
      | b :: bs =>
        if s.hasRoom (doneWin g) (packLen b.length) then (s.setWaits g bs).pushPkt (doneWin g) b else s
      | [] =>
        match s.doneWaiting g with
        | [] => s
        | i :: _ =>
          if s.hasRoom (doneWin g) (packLen i.record.length) then
            (s.updArb (fun a => { a with items := a.items.filter (·.wid ≠ i.wid) })).pushPkt (doneWin g) i.record
          else s)

/-! ### Core faults and the watchdog (R204, R205) -/

/-- The item a core runs. -/
def State.itemOn (s : State) (k : Nat) : Option WItem := s.arb.items.find? (·.phase = .running k)

/-- A core fault: the core reset, its item CORE_FAULT, its claims in trouble; the third within 1 s resets the module. -/
def State.coreFault (s : State) (k : Nat) (overrun : Bool) : State :=
  if s.arb.cores.getD k 0 ≠ 1 ∨ !s.domOn 3 then s
  else
    let item := s.itemOn k
    let task := match item with
      | some i => i.task
      | none => ((s.arb.tasks.find? (fun t => t.runs.contains k)).map (·.id)).getD 0
    let s1 := (s.setBit F.ARB_FAULT_CORE_FAULT k).incF F.ARB_FAULT_FAULTS
    let s2 := if overrun then s1.setBit F.ARB_FAULT_OVERRUN k else s1
    let s3 := s2.vbTrigger 0x09 ([byte k, byte task] ++ leBytes 2 ((item.map (·.typ)).getD 0))
    let s4 := match item with
      | some i => (s3.updItem i.wid (fun x => { x with finished := true, status := St.CORE_FAULT, result := [] })).complete i.wid
      | none => s3.updTask task (fun x => { x with runs := x.runs.erase k })
    let recent := (s.arb.coreFaults ++ [s.now]).filter (fun f => s.now ≤ f + 26000000)
    let s5 := (s4.updArb (fun a => { a with cores := a.cores.set k 0, coreFaults := recent })).claimTrouble (.core k)
    if 3 ≤ recent.length then s5.resetAll .wdtSys else s5

def execCoreOverrun (k : Nat) (s : State) : Host.Outcome State Fault Refusal := .next (s.coreFault k true)

def execCoreAccessFault (k : Nat) (s : State) : Host.Outcome State Fault Refusal := .next (s.coreFault k false)

/-- An eligible entry has waited 100 ms with no dispatch. -/
def execWdtDispatchTimeout (s : State) : Host.Outcome State Fault Refusal :=
  .next (if s.domOn 3 ∧ s.lowReady.isSome then s.resetAll .wdtSys else s)

/-! ### Flags and masks (R196, R198, R218) -/

/-- ARB_EVT_CLR on one flag, or EVT_DENIED (R218). -/
def State.evtClr (s : State) (secure : Bool) (t flag : Nat) : State :=
  if s.mayEvent secure t then s.clearFlag t (flag % 32) else s.setF F.ARB_FAULT_EVT_DENIED 1

/-- The word of a write to ARB_EVT_SET or ARB_EVT_CLR. -/
def evtWord (task flag : Nat) : Nat := task % 256 + flag % 32 * 256

def execEvtSet (m : Master) (task flag : Nat) (s : State) : Host.Outcome State Fault Refusal :=
  .next (s.guardW m R.ARB_EVT_SET (evtWord task flag) (fun t => t.evtSet m.secure (task % 256) flag))

/-- With `setToo` a set of the same flag falls in the same cycle and wins (R218). -/
def execEvtClr (m : Master) (task flag : Nat) (setToo : Bool) (s : State) : Host.Outcome State Fault Refusal :=
  .next (s.guardW m R.ARB_EVT_CLR (evtWord task flag) (fun t =>
    if setToo then t.evtSet m.secure (task % 256) flag else t.evtClr m.secure (task % 256) flag))

/-- The task with a new mask: a gate that comes to hold is stamped (R196, R199). -/
def TaskSt.remask (t : TaskSt) (mask stamp : Nat) : TaskSt :=
  let t' : TaskSt := { t with mask := mask }
  if t'.gate ∧ ¬ t.gate then { t' with stamp := stamp } else t'

/-- ARB_TASK_MASK of the task a master has selected (R196). -/
def State.maskWrite (s : State) (m : Master) (v : Nat) : State :=
  let t := s.getF (F.ARB_TASK_SEL_TASK.bank m)
  match s.arb.tasks.find? (·.id = t) with
  | none => s
  | some x =>
    if x.maskRw ∧ x.may (if m.secure then .sec else .ns) then
      let s1 := (s.updTask t (fun y => y.remask v s.arb.cycle)).updArb (fun a => { a with cycle := a.cycle + 1 })
      match s1.task? t with
      | some y => if y.event ∧ y.gate then s1.domEvent y.dom .flag else s1
      | none => s1
    else s

def execTaskMaskWrite (m : Master) (mask : Word) (s : State) : Host.Outcome State Fault Refusal :=
  .next (s.guardW m R.ARB_TASK_MASK mask.toNat (fun t => t.maskWrite m mask.toNat))

/-! ### System types (R213) -/

def execNop (wid : Nat) (s : State) : Host.Outcome State Fault Refusal :=
  .next (match s.active? wid W.NOP with
    | some i => s.finish wid St.OK ((List.range 5).flatMap (fun k => leBytes 4 (i.arg k)))
    | none => s)

/-- The flags of a mask raised. -/
def State.raiseMask (s : State) (t mask : Nat) : State :=
  ((List.range 32).filter (fun f => mask.testBit f)).foldl (fun x f => x.raiseFlag t f) s

def execSignal (wid : Nat) (s : State) : Host.Outcome State Fault Refusal :=
  .next (match s.active? wid W.SIGNAL with
    | some i =>
      if s.mayEvent (i.grp ≠ .ns) (i.arg 0) then (s.raiseMask (i.arg 0) (i.arg 1)).finish wid St.OK
      else (s.setF F.ARB_FAULT_EVT_DENIED 1).finish wid St.BAD_ARG
    | none => s)

/-! ### Producers that wait (R44, R211) -/

/-- The planning request of an item that waited for PLAN_REQ. -/
def State.resumeAssign (s : State) (i : WItem) : State :=
  match s.pgl.mbrs.find? (fun x => x.task.any (fun t => t.wid = some i.wid)) with
  | some x => s.pglAssign i (some x.id)
  | none => s

/-- A producer that waited goes on: an item's handler, or (`wid` 0, which no item has) the internal producer that waits
longest for an in-flight place. -/
def execQueuePushResume (wid : Nat) (s : State) : Host.Outcome State Fault Refusal :=
  .next (if wid = 0 then
      match s.arb.waitInternal with
      | t :: ts => if s.inFlight < 512 then (s.updArb (fun a => { a with waitInternal := ts })).raiseTask t else s
      | [] => s
    else match s.item? wid with
      | none => s
      | some i =>
        if i.finished ∨ i.phase.isDone then s
        else if i.typ = W.PGL_PLAN ∧ i.prog = [1] then s.pglPlan i
        else if i.typ = W.PGL_ASSIGN ∧ i.prog = [1] then s.resumeAssign i
        else if i.typ = W.VB_READ ∧ i.prog ≠ [] then s.vbReadStep i
        else if i.typ = W.BS_SEND ∧ i.prog ≠ [] ∧ s.domOn (bandDom (bitsOf (i.arg 0) 8 1)) then s.bsSend i
        else if i.typ = W.BS_MEMBER ∧ i.prog = [1] ∧ s.domOn 8 then s.expel wid (i.arg 1)
        else s)

end Sys2Proof.Machine
end

