-- ==== Sys2Proof/Machine/Access.lean ====
section
/-! DEFINITION. Register reads and writes of any master (spec/00_scope.md R3, R9–R16; spec/03 R115; spec/05 R161–R163):
one write and one read operation over the whole address space, and the commands that use them. -/
namespace Sys2Proof.Machine

/-! ### Addresses -/

/-- The stream window whose data port an address lies in (R188). -/
def portOf (a : Nat) : Option Nat :=
  if 0x1000000 ≤ a ∧ a < 0x1100000 ∧ a % 0x10000 < 0x8000 then some (a / 0x10000 - 0x100) else none

/-- The address an access goes to: bits [1:0] ignored (R9), a data port at its base. -/
def accAddr (a : Nat) : Nat :=
  match portOf a with
  | some w => strmPort w
  | none => a / 4 * 4

/-- Where a master's copy of a register stands. -/
def homeAddr (r : RegRow) (m : Master) (a : Nat) : Nat := if r.banked then bankAddr m a else a

/-! ### Ethernet port control (R173) -/

/-- The link of a port goes down: what the link found is no longer shown, and claims of the host channel fall in trouble if
its last request came on that port (R186). -/
def State.ethDown (s : State) (n : Nat) : State :=
  if s.flag (F.ETH_Pn_STAT_LINK n) then
    let s1 := (s.setF ⟨R.ETH_Pn_STAT n, 0, 24⟩ 0).setF (F.ETH_Pn_STAT_DOWN_SEEN n) 1
    let s2 : State := { s1 with eth := { s1.eth with ptpLocked := s1.eth.ptpLocked && s1.eth.ptpSlave ≠ some n } }
    if s.eth.lastPort = n then s2.claimTrouble .eth else s2
  else s

/-- A word written to ETH_Pn_CTRL: EN clear drops the link, a change of ADV restarts negotiation. -/
def State.ethCtrl (s : State) (n v : Nat) : State :=
  let s1 := s.setF ⟨R.ETH_Pn_CTRL n, 0, 6⟩ v
  if !v.testBit 0 ∨ bitsOf v 1 3 ≠ s.getF ⟨R.ETH_Pn_CTRL n, 1, 3⟩ then s1.ethDown n else s1

/-! ### Writes -/

/-- A word written to a register with no effect beyond its own bits: RW bits take the value; a W1C bit written 1 clears
unless hardware sets it in the same cycle (R13). -/
def State.plainWrite (s : State) (m : Master) (a v hw : Nat) : State :=
  match regRow a with
  | none => s
  | some r =>
    let h := homeAddr r m a
    let old := (s.rd h).toNat
    let keep := old &&& ((2 ^ 32 - 1) ^^^ (r.rw ||| (v &&& r.w1c)))
    s.wr h (word (keep ||| (v &&& r.rw) ||| (hw &&& r.w1c)))

/-- A mask applied per domain. -/
def State.eachDom (s : State) (v : Nat) (f : State → Nat → State) : State := (allDoms.filter v.testBit).foldl f s

def State.writeLodge (s : State) (m : Master) (a v hw : Nat) : State :=
  if a = R.LODGE_PWR_REQ then s.pwrReq v
  else if a = R.LODGE_DOM_ON then s.eachDom v State.domOnReq
  else if a = R.LODGE_DOM_OFF then s.eachDom v State.domOffReq
  else if a = R.LODGE_DOM_FLAGS then
    (s.plainWrite m a (v % 2 ^ 18) hw).eachDom ((v - (v &&& hw)) / 2 ^ 16) State.domFaultClear
  else if a = R.LODGE_WAKE_FRC_HI then s.wakeArm v
  else if a = R.LODGE_RST_REQ then s.rstReq v
  else if a = R.LODGE_XING_STAT then
    if v.testBit 9 ∧ !hw.testBit 9 then
      s.updXing (xingIdx (s.getF F.LODGE_XING_SEL_ID) (s.getF F.LODGE_XING_SEL_DIR)) (fun x => { x with dropped := false })
    else s
  else s.plainWrite m a v hw

def State.writeGzb (s : State) (m : Master) (a v hw : Nat) : State :=
  if a = R.GZB_STOP then
    if v.testBit 0 ∧ bitsOf v 16 16 = 0xC3A5 then s.raiseCause Cause.HOST else s
  else if a = R.GZB_FAULT then s.gzbFaultClear (v - (v &&& hw)) 0
  else s.plainWrite m a v hw

def State.writeMbx (s : State) (m : Master) (a v hw : Nat) : State :=
  let o := a - 0x30000
  if o < 0x1000 then
    if o % 0x80 < 0x40 then s.mbxDataWrite (o / 0x80) (o % 0x80 / 4) v
    else if o % 0x80 = 0x40 then s.mbxCtrlWrite m (o / 0x80) v
    else s.plainWrite m a v hw
  else if o < 0x1080 then s.claimWrite m ((o - 0x1000) / 4) v
  else if 0x1200 ≤ o ∧ o < 0x1280 then s.leaseWrite m ((o - 0x1200) / 4) v
  else if a = R.MBX_HRST then s.hostReset m v
  else s.plainWrite m a v hw

def State.writeArb (s : State) (m : Master) (a v hw : Nat) : State :=
  if a = R.ARB_EVT_SET then s.evtSet m.secure (bitsOf v 0 8) (bitsOf v 8 5)
  else if a = R.ARB_EVT_CLR then s.evtClr m.secure (bitsOf v 0 8) (bitsOf v 8 5)
  else if a = R.ARB_TASK_MASK then s.maskWrite m v
  else s.plainWrite m a v hw

/-- Compare registers: the target and period are ignored while armed; SDL_CMP_CTRL arms or disarms (R233, R234). -/
def State.writeSdl (s : State) (m : Master) (a v hw : Nat) : State :=
  if a = R.SDL_CONV_GO then if v.testBit 0 then s.convert else s
  else if a = R.SDL_CTRL then (s.plainWrite m a v hw).ppsGate
  else if 0x51000 ≤ a ∧ a < 0x52000 then
    let x := (a - 0x51000) / 0x20
    let o := a % 0x20
    if o < 0x10 then if s.flag (F.SDL_CMP_CTRL_ARMED x) then s else s.plainWrite m a v hw
    else if o = 0x18 then
      let s1 := s.plainWrite m a v hw
      if v.testBit 0 then s1.cmpArm m (x / 32) (x % 32) (v.testBit 1)
      else if v.testBit 1 then s1.cmpDisarm m (x / 32) (x % 32) else s1
    else s.plainWrite m a v hw
  else s.plainWrite m a v hw

def State.writeWkt (s : State) (m : Master) (a v hw : Nat) : State :=
  let n := (a - 0xB0100) / 0x40
  let o := a % 0x40
  if a < 0xB0100 ∨ 0xB0200 ≤ a then s.plainWrite m a v hw
  else if o = 0x04 then s.axCtrl n v
  else if o = 0x08 then s.axFaultClear n v (2 ^ 32 - 1 - hw)
  else if 0x18 ≤ o ∧ o ≤ 0x2C then s.limitWrite n o v
  else s.plainWrite m a v hw

/-- What a word written to an address does once it reaches its register; `hw` are the W1C bits hardware sets in the same
cycle. -/
def State.writeEff (s : State) (m : Master) (a v hw : Nat) : State :=
  match portOf a with
  | some w => s.streamWrite w (BitVec.ofNat 64 v)
  | none =>
    if inStaging a then
      if s.getF F.SYS_SWAP_STAT_STATE = 1 then s
      else { s with plan := { s.plan with staging := memWrite s.plan.staging (a - 0x200000) (leBytes 4 v) } }
    else match a / 0x10000 with
      | 0 => if a = R.SYS_SWAP_CTRL then if v.testBit 31 then s.swapGo (v % 2 ^ 21) false else s
             else s.plainWrite m a v hw
      | 1 => s.writeLodge m a v hw
      | 2 => s.writeGzb m a v hw
      | 3 => s.writeMbx m a v hw
      | 4 => s.writeArb m a v hw
      | 5 => s.writeSdl m a v hw
      | 11 => s.writeWkt m a v hw
      | 13 => if a = R.VB_CTRL then s.vbCtrlWrite m v else s.plainWrite m a v hw
      | 14 => if a = R.ETH_Pn_CTRL 0 then s.ethCtrl 0 v else if a = R.ETH_Pn_CTRL 1 then s.ethCtrl 1 v
              else s.plainWrite m a v hw
      | 15 => if a = R.UPD_CTRL then s.updCtrlWrite v else s.plainWrite m a v hw
      | b => if 0x100 ≤ b ∧ b < 0x10A ∧ a % 0x10000 = 0x800C then s.strmCtrlWrite (b - 0x100) v
             else s.plainWrite m a v hw

/-- A write of any master to any address. -/
def State.hostWrite (s : State) (m : Master) (a v : Nat) (hw : Nat := 0) : State :=
  s.guardW m (accAddr a) v (fun t => t.writeEff m (accAddr a) v hw)

/-! ### Reads -/

/-- The RC fields of a register cleared by a read; what the events of the same cycle alone would leave stays (R14). -/
def State.rcClear (s : State) (m : Master) (a ev : Nat) : State :=
  match regRow a with
  | none => s
  | some r =>
    if r.rc = 0 then s
    else if a = R.ARB_TASK_STAT then
      s.updTask (s.getF (F.ARB_TASK_SEL_TASK.bank m)) (fun t => { t with merged := bitsOf ev 16 8 })
    else if a = R.LODGE_XING_STAT then
      s.updXing (xingIdx (s.getF F.LODGE_XING_SEL_ID) (s.getF F.LODGE_XING_SEL_DIR))
        (fun x => { x with merged := bitsOf ev 0 8 })
    else
      let h := homeAddr r m a
      s.wr h (word (((s.rd h).toNat &&& ((2 ^ 32 - 1) ^^^ r.rc)) ||| (ev &&& r.rc)))

/-- The value of a register, from the master's own copy where it is banked. -/
def State.regValue (s : State) (m : Master) (a : Nat) : Word :=
  match regRow a with
  | some r => if r.banked then s.rd (bankAddr m a) else s.view m a
  | none => s.view m a

/-- A read of a low half: the high half latched into the register beside it (R115). -/
def State.latchHi (s : State) (lo : Nat) (v : Nat) : DWord × State :=
  (BitVec.ofNat 64 (v % 2 ^ 32), s.wr (lo + 4) (word (v / 2 ^ 32)))

/-- The reads of the low half of FRC and of the FRC values kept. -/
def State.frcRead? (s : State) (a : Nat) : Option (DWord × State) :=
  let bank (k : Nat) : SnapBank := s.vb.banks.getD k {}
  if a = R.LODGE_FRC_LO then some (s.latchHi a s.now)
  else if a = R.GZB_EDGE_FRC_LO then some (s.latchHi a s.gzb.edgeFrc.toNat)
  else if a = R.ORG_TAMPER_FRC_LO then some (s.latchHi a ((s.org.tamperFrc.map (·.toNat)).getD 0))
  else if a = R.VB_SNAP0_FRC_LO then some (s.latchHi a (bank 0).frc.toNat)
  else if a = R.VB_SNAP1_FRC_LO then some (s.latchHi a (bank 1).frc.toNat)
  else none

/-- May the master read the block only as zero (R162)? -/
def readsZero (m : Master) (a : Nat) : Bool :=
  !m.secure && (a / 0x10000 = 12 || a / 0x10000 = 15 || a / 0x10000 = 16)

/-- What a read that reaches its register returns and does. -/
def State.readEff (s : State) (m : Master) (a ev : Nat) : DWord × State :=
  match portOf a with
  | some w => s.streamPop w
  | none =>
    if readsZero m a then (0, s)
    else if inStaging a then (BitVec.ofNat 64 (leNat (memBytes s.plan.staging (a - 0x200000) 4)), s)
    else if 0x300000 ≤ a ∧ a < 0x400000 then (BitVec.ofNat 64 (leAt s.plan.copy (a - 0x300000) 4), s)
    else match s.frcRead? a with
      | some r => r
      | none =>
        if 0x50100 ≤ a ∧ a < 0x50180 ∧ a % 0x20 = 0 then
          let r := s.tbSample m ((a - 0x50100) / 0x20)
          (r.1.setWidth 64, r.2)
        else if 0x31000 ≤ a ∧ a < 0x31080 then
          let r := s.claimRead m ((a - 0x31000) / 4)
          (r.1.setWidth 64, r.2)
        else ((s.regValue m a).setWidth 64, s.rcClear m a ev)

/-- A read of any master from any address. -/
def State.hostRead (s : State) (m : Master) (a : Nat) (ev : Nat := 0) : DWord × State :=
  s.guardR m (accAddr a) (fun t => t.readEff m (accAddr a) ev)

/-! ### Commands -/

/-- The accesses the address space holds (R16): 32 bits of address. -/
def inSpace (a : Nat) : Bool := a < 2 ^ 32

/-- An access of an address the space has no place for stops (log entry 37). -/
def atAddr (a : Nat) (s : State) : Host.Outcome State Fault Refusal :=
  if inSpace a then .next s else .fault .unmappedAddress

def execRegisterWrite (m : Master) (addr : Nat) (v hw : Word) (s : State) : Host.Outcome State Fault Refusal :=
  atAddr addr (s.hostWrite m addr v.toNat hw.toNat)

/-- A read of a register; `ev` holds in its RC fields what the events of the same cycle alone leave (R14). -/
def execRcFieldRead (m : Master) (addr : Nat) (ev : Word) (s : State) : Host.Outcome State Fault Refusal :=
  atAddr addr (State.onBus (s.hostRead m addr ev.toNat))

/-- An access to the block of an absent unit (R3): a read returns 0, a write is ignored. -/
def execAbsentUnitAccess (m : Master) (addr : Nat) (w : Option Word) (s : State) : Host.Outcome State Fault Refusal :=
  atAddr addr (if s.blockAbsent (addr / 0x10000) then
      match w with
      | some v => s.hostWrite m addr v.toNat
      | none => State.onBus (s.hostRead m addr)
    else s)

def execFrcLoRead (m : Master) (s : State) : Host.Outcome State Fault Refusal :=
  .next (State.onBus (s.hostRead m R.LODGE_FRC_LO))

def execGzbEdgeFrcLoRead (m : Master) (s : State) : Host.Outcome State Fault Refusal :=
  .next (State.onBus (s.hostRead m R.GZB_EDGE_FRC_LO))

def execOrgTamperFrcLoRead (m : Master) (s : State) : Host.Outcome State Fault Refusal :=
  .next (State.onBus (s.hostRead m R.ORG_TAMPER_FRC_LO))

def execVbSnapFrcLoRead (m : Master) (k : Nat) (s : State) : Host.Outcome State Fault Refusal :=
  .next (if k < 2 then State.onBus (s.hostRead m (R.VB_SNAP0_FRC_LO + 8 * k)) else s)

end Sys2Proof.Machine
end

