-- ==== Sys2Proof/Machine/Chopper.lean ====
section
/-! DEFINITION. What Wicket does at every tick on an axis that is driven (spec/14 R449–R451, R454): the winding current
targets, the hysteresis choppers on the currents measured, the load angle at each zero crossing, and the gates. The model's
tick is one of LCLK, and OFS is held in whole mA (log entry 84). -/
namespace Sys2Proof.Machine

/-! ### Targets (R449) -/

/-- π, in the fixed point of Geometry. -/
abbrev fxPi : Int := 57952155664616982739

/-- θ of a commanded position, between −π and π. -/
def axTheta (p : Int) : Int := ((p + 512) % 1024 - 512) * fxPi / 512

/-- The target of winding A, or of B, in mA. -/
def State.windTarget (s : State) (n b : Nat) : Int :=
  let th := axTheta (s.axS n)
  let i : Int := s.isetNow n
  if b = 0 then i * fxCos th / fxOne
  else
    let v := i * fxSin th / fxOne
    if (leAt (s.axRec n) 0 1).testBit 1 then -v else v

/-! ### The chopper (R450, R451) -/

/-- The current measured in a winding, in mA (log entry 22). -/
def State.windCurrent (s : State) (n b : Nat) : Int :=
  (BitVec.ofNat 16 (bitsOf (s.measured (R.WKT_AXn_CUR n) 32) (16 * b) 16)).toInt

/-- A field of the axis's record in ns, as ticks. -/
def nsTicks (ns : Nat) : Nat := (26 * ns + 999) / 1000

/-- The chopper of a winding turns to a phase, which drives once DEAD is over. -/
def Wind.turn (w : Wind) (c : Chop) (now dead : Nat) : Wind := { w with
  phase := c, prev := w.phase, prevNeg := w.neg, frc := now + dead, read := false }

/-- OFS from the valley current (R451). -/
def ofsNext (ofs target hyst valley : Int) : Int := max (-hyst) (min hyst (ofs - (hyst + 2 * ofs + 2 * valley - 2 * target) / 32))

/-- How an on-phase that ends at TON_MAX ended: above 5 % of full scale, or at or below it (R450). -/
inductive TonMax where
  | limit
  | short
deriving DecidableEq, Repr

/-- One tick of a chopper at a target and a current measured in the target's direction: the chopper after it, and whether its
on-phase ended at TON_MAX. -/
def Wind.tick (w : Wind) (now dead toff fast : Nat) (target hyst full i : Int) : Wind × Option TonMax :=
  let t := now - w.frc
  if now < w.frc then (w, none)
  else match w.phase with
    | .on =>
      if t < 26 then (w, none)
      else
        let w1 := if w.read then w else { w with ofs := ofsNext w.ofs target hyst i, read := true }
        let next : Chop := if fast = 1 then .fast else .slow
        if 2 * target + hyst + 2 * w1.ofs ≤ 2 * i then (w1.turn next now dead, none)
        else if 1040 ≤ t then (w1.turn next now dead, some (if full < 20 * i then .limit else .short))
        else (w1, none)
    | .fast => (if fast = 0 ∨ 2 * i ≤ 2 * target - hyst + 2 * w.ofs then w.turn .slow now dead else w, none)
    | .slow => (if toff ≤ t then w.turn .on now dead else w, none)
    | _ => (w.turn .on now dead, none)

/-- Does the chopper of an axis run: in every state but DISABLED, CHECKING and FAULT (R455)? -/
def State.chopOn (s : State) (n : Nat) : Bool :=
  let st := s.axState n
  s.wktOn n && st ≠ Ax.DISABLED && st ≠ Ax.CHECKING && st ≠ Ax.FAULT

/-- Is a winding's current held at zero: within 1/16 of a full step past its target's zero crossing, in motion (R454)? Winding
A crosses zero at odd full steps, winding B at even ones. -/
def State.zeroHold (s : State) (n b : Nat) : Bool :=
  let sv := s.axSV n
  let p := sv.1.floor
  if sv.2 = 0 then false
  else
    let past := if 0 < sv.2 then p % 256 else 255 - p % 256
    let k := if 0 < sv.2 then p / 256 else p / 256 + 1
    past < 16 && (k % 2 = 1) = (b = 0)

/-- One tick of a winding: a current above OC turns the axis off, as does an on-phase that shows a phase shorted to GND (R83, R450,
R452). -/
def State.windTick (s : State) (n b : Nat) : State :=
  let r := s.axRec n
  let w := (s.ax n).winds.getD b {}
  let put (w : Wind) : State := s.updAx n (fun a => { a with winds := updAt b (fun _ => w) a.winds })
  if !s.chopOn n then (if w.phase = .off then s else put { w with phase := .off, prev := .off, frc := s.now })
  else
    let target := s.windTarget n b
    let neg : Bool := target < 0
    let dead := nsTicks (leAt r 14 2)
    let w1 : Wind := if neg = w.neg then w
      else { (if w.phase = .on ∨ w.phase = .fast then w.turn .on s.now dead else w) with neg := neg, ofs := 0 }
    let vm := (s.ax n).vm.getD (BitVec.ofNat 16 (s.measured (R.WKT_AXn_VM n) 16)).toInt
    if s.axOc n < (s.windCurrent n b).natAbs then s.axFault n (if b = 0 then 1 else 2) vm
    else if s.zeroHold n b then put (if w1.phase = .hold then w1 else w1.turn .hold s.now dead)
    else
      let c := s.windCurrent n b
      let x := w1.tick s.now dead (nsTicks (leAt r 12 2)) (b2n (!s.flag (F.WKT_AXn_STAT_VM_HIGH_NOW n))) target.natAbs
        (leAt r 10 2) (2500000 / max (leAt r 2 2) 1) (if neg then -c else c)
      let t := put x.1
      match x.2 with
      | some .limit => t.incF (F.WKT_AXn_CNT_TON_LIMIT n)
      | some .short => t.axFault n (if b = 0 then 4 else 8) vm
      | none => t

/-! ### The load angle (R454) -/

/-- cos of a whole number of degrees. -/
def cosDeg (d : Nat) : Int := if d = 90 then 0 else fxCos (d * fxPi / 180)

/-- phi in whole degrees, rounded down: from e_zc in 10 mV, KE in µV per full step/s and |v| in microsteps/s. -/
def loadAngle (emf ke : Nat) (v : Rat) : Nat :=
  let r : Rat := if v = 0 ∨ ke = 0 then 1 else min 1 ((emf : Rat) * 10000 * 256 / (ke * v))
  let x := (r * (fxOne : Rat)).floor
  ((List.range 91).filter (fun d => x ≤ cosDeg d)).foldl max 0

/-- A zero crossing: the back-EMF measured, the load angle and its peak, and the count of R454. -/
def State.zeroCross (s : State) (n : Nat) : State :=
  let r := s.axRec n
  let v := ratAbs (s.axSV n).2
  if v < leAt r 24 4 then s.updAx n (fun a => { a with stallRun := 0 })
  else
    let e := (BitVec.ofNat 16 (s.measured (R.WKT_AXn_LOAD n) 16)).toInt
    let phi := loadAngle e.natAbs (leAt r 56 2) v
    (((s.setF (F.WKT_AXn_LOAD_PHI n) phi).maxF (F.WKT_AXn_LOAD_PEAK n) phi).setI (F.WKT_AXn_LOAD_EMF n) e).updAx n
      (fun a => { a with stallRun := if leAt r 22 1 ≤ phi then min (a.stallRun + 1) 64 else 0 })

/-- One tick of an axis: a zero crossing where it has entered another full step, then its windings, and the end of a homing run's
braking. -/
def State.axTick (s : State) (n : Nat) : State :=
  let p := s.axS n
  let st := s.axState n
  let moving : Bool := st = Ax.MOVING || st = Ax.HOMING || st = Ax.EMERGENCY
  let s1 := if p / 256 = (s.ax n).step then s
    else (if s.chopOn n && moving then s.zeroCross n else s).updAx n (fun a => { a with step := p / 256 })
  ((s1.windTick n 0).windTick n 1).homeStep n

/-! ### The gates (R81, R450, R456) -/

/-- Does a phase turn on a switch of its bridge, numbered 0 H1, 1 L1, 2 H2, 3 L2? -/
def Chop.switch (c : Chop) (neg : Bool) (k : Nat) : Bool :=
  match c with
  | .off => false
  | .on => if neg then k = 1 || k = 2 else k = 0 || k = 3
  | .fast => if neg then k = 0 || k = 3 else k = 1 || k = 2
  | .slow => k = 1 || k = 3
  | .hold => k = 3

/-- Is a switch on in CHECKING (R456): each alone for 10 µs, then AH1 with AL2, then BH1 with BL2, for 20 µs each, one after
another from ENABLE (log entry 84)? -/
def State.checkGate (s : State) (n sw : Nat) : Bool :=
  let us := (s.now - (s.ax n).checkFrc) / 26
  if us < 80 then us / 10 = sw else if us < 100 then sw = 0 || sw = 3 else if us < 120 then sw = 4 || sw = 7 else false

/-- Is switch 0–7 of an axis (AH1, AL1, AH2, AL2, BH1, BL1, BH2, BL2) on? In the dead time of a change both switches of a
half-bridge that changes are off. -/
def State.gateOn (s : State) (n sw : Nat) : Bool :=
  let w := (s.ax n).winds.getD (sw / 4) {}
  let k := sw % 4
  let changes : Bool := [k / 2 * 2, k / 2 * 2 + 1].any (fun j => w.phase.switch w.neg j ≠ w.prev.switch w.prevNeg j)
  (s.wktOn n && s.axState n = Ax.CHECKING && s.checkGate n sw) ||
    (s.chopOn n && w.phase.switch w.neg k && !(s.now < w.frc && changes))

/-- The voltage of a phase, in 10 mV, at half-bridge 1 of bridge A or B while its high side is on: below WKTn_VM − 3 V it is
shorted to GND (R83). -/
def execWktPhaseGndShort (n : Nat) (b : Bool) (v vm : Int) (s : State) : Host.Outcome State Fault Refusal :=
  .next (if s.wktOn n ∧ s.axUsed n ∧ s.gateOn n (if b then 4 else 0) ∧ v < vm - 300 then
    s.axFault n (if b then 8 else 4) vm else s)

end Sys2Proof.Machine
end

