-- ==== Sys2Proof/Machine/HostPort.lean ====
section
/-! DEFINITION. HOSTSPI, the Ethernet host channel, the Ethernet ports and PTP messages (spec/05_host_port_mailboxes.md
R164–R173, spec/07_sundial_time.md R243–R245). -/
namespace Sys2Proof.Machine

def State.updHspi (s : State) (f : Hspi → Hspi) : State := { s with hspi := f s.hspi }

/-! ### HOSTSPI: selects (R164, R167, R170) -/

def Hspi.low (h : Hspi) : Sel → Bool
  | .s => h.lowS
  | .ns => h.lowNs

def Hspi.setLow (h : Hspi) (sel : Sel) (v : Bool) : Hspi :=
  match sel with
  | .s => { h with lowS := v }
  | .ns => { h with lowNs := v }

/-- A select falls: it wakes the device (R97); one that falls while the other is in a transaction is ignored. -/
def execHspiSelectFall (sel : Sel) (s : State) : Host.Outcome State Fault Refusal :=
  .next (if s.power.off then s
    else
      let other := if sel = .s then Sel.ns else Sel.s
      let w := s.wakeBy 1
      if s.hspi.low sel then s
      else if s.hspi.txn = some other then w.updHspi (fun h => { h with bothCs := true })
      else w.updHspi (fun h => { h.setLow sel true with bothCs := h.bothCs || h.low other }))

/-- A select rises: its transaction ends; a byte in hand is discarded, a read that still waits is withdrawn. -/
def execHspiSelectRise (sel : Sel) (midByte : Bool) (s : State) : Host.Outcome State Fault Refusal :=
  .next (if !s.hspi.low sel then s
    else if s.hspi.txn = some sel ∨ s.hspi.txn = none then
      { s.updHspi (fun h => { h.setLow sel false with
          txn := none, skip := false, waiting := none, ahead := 0, frameErr := h.frameErr || midByte }) with
        power := { s.power with held := s.power.held.filter (fun p => match p.2 with
          | .spiRead _ _ _ => false
          | _ => true) } }
    else s.updHspi (fun h => h.setLow sel false))

/-- The select whose transaction the command byte opens: one select low, none in a transaction, both not low at once. -/
def State.hspiSel? (s : State) : Option Sel :=
  if !s.powered ∨ s.hspi.txn ≠ none then none
  else if s.hspi.lowS ∧ !s.hspi.lowNs then some .s
  else if s.hspi.lowNs ∧ !s.hspi.lowS then some .ns else none

/-- A command in its transaction. -/
def State.hspiDo (s : State) (k : State → Sel → State) : State :=
  match s.hspiSel? with
  | some sel => k (s.updHspi (fun h => { h with txn := some sel })) sel
  | none => s

/-! ### HOSTSPI: status (R165, R170) -/

/-- Entries the posted writes take: one for a register word, two for a stream word (R168). -/
def Hspi.used (h : Hspi) : Nat := (h.queue.map (fun p => if p.stream then 2 else 1)).sum

/-- The status word, as a group sees it. -/
def State.hspiWord (s : State) (secure : Bool) : Word :=
  packW [(0, 32 - s.hspi.used), (6, b2n (s.domOn 2)), (7, b2n s.stopStands), (8, b2n s.hspi.wrDrop),
    (9, b2n s.hspi.frameErr), (10, b2n s.hspi.bothCs), (11, b2n (secure && s.hspi.secViol)), (12, b2n (s.irqLine true)),
    (13, b2n (s.irqLine false)), (16, partCode s.part)]

def execHspiStatus (s : State) : Host.Outcome State Fault Refusal :=
  .next (s.hspiDo (fun t sel => { t with bus := [(t.hspiWord (sel = .s)).setWidth 64] }))

def execHspiClear (mask : Word) (s : State) : Host.Outcome State Fault Refusal :=
  let m := mask.toNat
  .next (s.hspiDo (fun t sel => t.updHspi (fun h => { h with
    wrDrop := h.wrDrop && !m.testBit 8, frameErr := h.frameErr && !m.testBit 9, bothCs := h.bothCs && !m.testBit 10
    secViol := h.secViol && !(m.testBit 11 && sel = .s) })))

/-- A command byte that is none of R165's; a known code is not this command. -/
def execHspiUnknownCmd (code : Byte) (s : State) : Host.Outcome State Fault Refusal :=
  .next (if code = 2 ∨ code = 3 ∨ code = 5 ∨ code = 6 then s
    else s.hspiDo (fun t _ => t.updHspi (fun h => { h with frameErr := true, skip := true })))

/-! ### HOSTSPI: bursts (R166–R169) -/

/-- The address of word `k` of a burst: a data port throughout, else wrapping in its 64 KB block (R169). -/
def burstAddr (a k : Nat) : Nat :=
  match portOf a with
  | some w => strmPort w
  | none => a / 0x10000 * 0x10000 + (a / 4 * 4 + 4 * k) % 0x10000

/-- Bytes per word at an address. -/
def wordLen (a : Nat) : Nat := if (portOf a).isSome then 8 else 4

/-- Words of a read burst, in order. -/
def State.readBurst (s : State) (m : Master) (a n : Nat) : List DWord × State :=
  (List.range n).foldl (fun (r : List DWord × State) k =>
    let x := r.2.hostRead m (burstAddr a k)
    (r.1 ++ [x.1], x.2)) ([], s)

/-- A read burst takes effect with SYNC: a register read at least in its first word, however few of its bytes are clocked
out, a stream read in the words fully clocked out (R167). Its whole words stand on the bus; a last partial word sets
FRAME_ERR. -/
def State.spiReadNow (s : State) (m : Master) (a n : Nat) : State :=
  let r := s.readBurst m a (if (portOf a).isSome then n / 8 else max 1 (n / 4))
  { r.2.updHspi (fun h => { h with waiting := none, ahead := 0, frameErr := h.frameErr || n % wordLen a ≠ 0 }) with
    bus := r.1.take (n / wordLen a) }

/-- A read burst whose earlier writes have completed, held until its target is ON (R166). -/
def State.spiSample (s : State) (m : Master) (a n : Nat) : State :=
  match s.rdAcc m (accAddr a) with
  | .held d => (s.updHspi (fun h => { h with waiting := some (a, n), ahead := 0 })).domEvent d (.spiRead m a n)
  | _ => s.spiReadNow m a n

/-- A read burst: it is not sampled until every write that arrived before it has completed (R168). -/
def State.spiRead (s : State) (m : Master) (a n : Nat) : State :=
  if s.hspi.queue ≠ [] then s.updHspi (fun h => { h with waiting := some (a, n), ahead := h.queue.length })
  else s.spiSample m a n

/-- A READ whose select stays low into SYNC and for `nbytes` bytes of data. One that rises before SYNC is a read that still
waits at HSPI_SELECT_RISE. -/
def execHspiRead (addr nbytes : Nat) (s : State) : Host.Outcome State Fault Refusal :=
  atAddr addr (s.hspiDo (fun t sel => t.spiRead sel.master addr nbytes))

/-- The write at the head of the queue waits for its target to power up (R42). -/
def State.spiPoke (s : State) : State :=
  match s.hspi.queue with
  | [] => s
  | p :: _ =>
    match s.wrAcc p.m (accAddr p.addr) with
    | .held d => if s.hasHeld d then s else s.domEvent d .wake
    | _ => s

/-- The words of a write burst. -/
def spiWords (len : Nat) : Nat → Bytes → List Bytes
  | 0, _ => []
  | n + 1, b => b.take len :: spiWords len n (b.drop len)

/-- One word posted, or discarded where the queue has not the entries (R168). -/
def State.postWord (s : State) (p : PostedWrite) : State :=
  if s.hspi.used + (if p.stream then 2 else 1) ≤ 32 then s.updHspi (fun h => { h with queue := h.queue ++ [p] })
  else s.updHspi (fun h => { h with wrDrop := true })

def execHspiWrite (addr : Nat) (data : Bytes) (s : State) : Host.Outcome State Fault Refusal :=
  atAddr addr (s.hspiDo (fun t sel =>
    let len := wordLen addr
    let n := data.length / len
    let ws := (List.range n).zip (spiWords len n data)
    let t1 := ws.foldl (fun (x : State) w =>
      x.postWord ⟨sel.master, burstAddr addr w.1, BitVec.ofNat 64 (leNat w.2), len = 8, none⟩) t
    (if data.length % len = 0 then t1 else t1.updHspi (fun h => { h with frameErr := true })).spiPoke))

/-! ### Ethernet host channel (R171, R172) -/

def State.updEth (s : State) (f : Eth → Eth) : State := { s with eth := f s.eth }

/-- The port takes frames: D11 ON, enabled, linked. -/
def State.ethUp (s : State) (n : Nat) : Bool :=
  n < 2 && s.powered && s.domOn 11 && s.flag (F.ETH_Pn_CTRL_EN n) && s.flag (F.ETH_Pn_STAT_LINK n)

/-- COUNT permitted for an address (R171). -/
def ethCount (a n : Nat) : Bool := 1 ≤ n && n ≤ (if (portOf a).isSome then 128 else 256)

/-- A request answered on its port, and on every port it was repeated on while it waited; the reply is kept, one per source,
for the last four sources (R172). -/
def State.ethAnswer (s : State) (x : EthOpen) (res : Nat) (d : List DWord) : State :=
  let s1 := s.updEth (fun e => { e with
    opened := e.opened.filter (fun o => !(o.src = x.src && o.seq = x.seq))
    kept := (⟨x.src, x.seq, x.port, x.cmd, x.addr, x.count, res, d⟩ :: e.kept.filter (·.src ≠ x.src)).take 4 })
  (x.port :: x.again).foldl (fun t p => t.incF (F.ETH_Pn_TX p)) s1

/-- The request waits to be answered. -/
def State.ethOpen (s : State) (x : EthOpen) : State := s.updEth (fun e => { e with opened := e.opened ++ [x] })

/-- A READ whose earlier writes have completed: answered, or held until its target is ON (R168, R172). -/
def State.ethSample (s : State) (x : EthOpen) : State :=
  match s.rdAcc .eth (accAddr x.addr) with
  | .held d => s.domEvent d (.ethReq x.port x.src x.seq x.cmd x.addr x.count [])
  | _ =>
    let r := s.readBurst .eth x.addr x.count
    (r.2.ethAnswer x 0 r.1).incF (F.ETH_Pn_HOST_REQ x.port)

/-- The words of a WRITE, the last of them marked with its request. -/
def ethPosts (x : EthOpen) (data : List DWord) : List PostedWrite :=
  (List.range x.count).map (fun k => ⟨.eth, burstAddr x.addr k, data.getD k 0, (portOf x.addr).isSome,
    if k + 1 = x.count then some (x.src, x.seq) else none⟩)

/-- A request not answered before: STATUS at once; an unknown CMD 2 BAD_CMD, a COUNT out of range 4 BAD_COUNT; a WRITE is
posted whole, or refused 3 BUSY where the write queue is short of entries; a READ waits for the writes before it. -/
def State.ethNew (s : State) (x : EthOpen) (data : List DWord) : State :=
  let need := x.count * (if (portOf x.addr).isSome then 2 else 1)
  if x.cmd = 5 then (s.ethAnswer x 0 [(s.hspiWord false).setWidth 64]).incF (F.ETH_Pn_HOST_REQ x.port)
  else if x.cmd ≠ 2 ∧ x.cmd ≠ 3 then s.ethAnswer x 2 []
  else if !ethCount x.addr x.count then s.ethAnswer x 4 []
  else if x.cmd = 2 then
    if 32 < s.hspi.used + need then (s.ethAnswer x 3 []).incF (F.ETH_Pn_HOST_BUSY x.port)
    else ((s.ethOpen x).updHspi (fun h => { h with queue := h.queue ++ ethPosts x data })).spiPoke
  else
    let y := { x with ahead := s.hspi.queue.length }
    if y.ahead = 0 then (s.ethOpen y).ethSample y else s.ethOpen y

/-- A request past its port: one that repeats its source's last SEQ is answered from the kept reply, its source again the
newest of the four, or with the request it
repeats where that is not yet answered. The port is that of the channel's last request (R186). -/
def State.ethReq (s0 : State) (port : Nat) (src : BitVec 48) (seq cmd a n : Nat) (data : List DWord) : State :=
  let s := s0.updEth (fun e => { e with lastPort := port })
  if s.eth.kept.any (fun r => r.src = src ∧ r.seq = seq) then
    (s.updEth (fun e => { e with kept := e.kept.filter (·.src = src) ++ e.kept.filter (·.src ≠ src) })).incF (F.ETH_Pn_TX port)
  else if s.eth.opened.any (fun r => r.src = src ∧ r.seq = seq) then
    s.updEth (fun e => { e with opened := e.opened.map (fun (r : EthOpen) =>
      if r.src = src ∧ r.seq = seq then { r with again := r.again ++ [port] } else r) })
  else s.ethNew ⟨src, seq, port, cmd, a, n, 0, []⟩ data

/-- A request held for a domain that is now ON: the READ it is, or a request that came while D2 was down (R106, R110). -/
def State.ethDeliver (s : State) (port : Nat) (src : BitVec 48) (seq cmd a n : Nat) (data : List DWord) : State :=
  match s.eth.opened.find? (fun r => r.src = src ∧ r.seq = seq) with
  | some x => s.ethSample x
  | none => s.ethReq port src seq cmd a n data

/-- One posted write has completed: the reads that waited behind it are sampled (R168). -/
def State.writeDone (s : State) (p : PostedWrite) : State :=
  let s1 := match p.req with
    | none => s
    | some q =>
      match s.eth.opened.find? (fun (r : EthOpen) => r.src = q.1 ∧ r.seq = q.2) with
      | some x => (s.ethAnswer x 0 []).incF (F.ETH_Pn_HOST_REQ x.port)
      | none => s
  let due := s1.eth.opened.filter (fun (r : EthOpen) => r.cmd = 3 ∧ r.ahead = 1)
  let s2 := s1.updEth (fun e => { e with opened := e.opened.map (fun (r : EthOpen) => { r with ahead := r.ahead - 1 }) })
  let s3 := due.foldl State.ethSample s2
  let s4 := s3.updHspi (fun h => { h with ahead := h.ahead - 1 })
  match s3.hspi.waiting, s3.hspi.txn with
  | some (a, n), some sel => if s3.hspi.ahead = 1 then s4.spiSample sel.master a n else s4
  | _, _ => s4

/-- The oldest posted write reaches its target, or waits for it. -/
def execHspiWriteComplete (s : State) : Host.Outcome State Fault Refusal :=
  .next (match s.hspi.queue with
    | [] => s
    | p :: ps =>
      match s.wrAcc p.m (accAddr p.addr) with
      | .held _ => s.spiPoke
      | _ => (((s.updHspi (fun h => { h with queue := ps })).hostWrite p.m p.addr p.v.toNat).writeDone p).spiPoke)

/-- Is D11 in its watch mode, ON without D2 (R110)? -/
def State.ethWatch (s : State) : Bool := s.domOn 11 && !s.domOn 2

/-- Does a frame for the module wake it: in Watch, and while Watch is entered with D11 kept on (R97, R100)? -/
def State.ethWake (s : State) : State :=
  if s.getF F.LODGE_PWR_STATE_STATE = 3 ∨ (s.getF F.LODGE_PWR_STATE_STATE = 5 ∧ s.power.entering = 3 ∧ s.watchD11) then s.wakeBy 2
  else s

/-- A frame of a port held in the watch mode: it wakes the device, and finds room for four per port (R97, R110). -/
def State.ethHold (s : State) (port etype : Nat) (k : State → State) : State :=
  let w := s.ethWake
  if 4 ≤ (s.eth.watchBuf.filter (·.1 = port)).length then w.incF (F.ETH_Pn_RX_DROP port)
  else k (w.updEth (fun e => { e with watchBuf := e.watchBuf ++ [(port, etype)] }))

/-- A host-channel frame as it comes to a port; a test of the port suspends the channel (R542). -/
def State.ethIn (s : State) (port : Nat) (src : BitVec 48) (seq cmd a n : Nat) (data : List DWord) : State :=
  if !s.ethUp port then s
  else
    let s1 := s.incF (F.ETH_Pn_RX_OK port)
    let heard := s.flag (F.ETH_Pn_CTRL_HOST_CH port) && !s.testing port
    if s.ethWatch then s1.ethHold port 0x88B5 (fun t => if heard then t.hold 2 (.ethReq port src seq cmd a n data) else t)
    else if !heard then s1
    else s1.ethWake.ethReq port src seq cmd a n data

def execEthHostRead (port : Nat) (src : BitVec 48) (seq addr count : Nat) (s : State) : Host.Outcome State Fault Refusal :=
  atAddr addr (s.ethIn port src seq 3 addr count [])

/-- `data` are the frame's words: pairs of them, low first, make the words of a data port. -/
def execEthHostWrite (port : Nat) (src : BitVec 48) (seq addr count : Nat) (data : List Word) (s : State) :
    Host.Outcome State Fault Refusal :=
  let dw : List DWord := if (portOf addr).isSome then
      (List.range count).map (fun k => BitVec.ofNat 64 ((data.getD (2 * k) 0).toNat + 2 ^ 32 * (data.getD (2 * k + 1) 0).toNat))
    else (List.range count).map (fun k => (data.getD k 0).setWidth 64)
  atAddr addr (s.ethIn port src seq 2 addr count dw)

def execEthHostStatus (port : Nat) (src : BitVec 48) (seq : Nat) (s : State) : Host.Outcome State Fault Refusal :=
  .next (s.ethIn port src seq 5 0 1 [])

/-! ### Ethernet ports (R110, R173) -/

/-- A frame that is no READ, WRITE or STATUS of the host channel: filtered by its destination, counted, dropped without a
buffer, held in the watch mode. `req` are the source, CMD and SEQ of a frame of the host channel: an unknown CMD is
answered BAD_CMD (R171). -/
def execEthFrameRx (port : Nat) (dst : BitVec 48) (etype : Nat) (fcsOk ptpMcast room : Bool)
    (req : Option (BitVec 48 × Nat × Nat)) (s : State) : Host.Outcome State Fault Refusal :=
  .next (
    let own := dst = Config.mac port ∨ (ptpMcast ∧ s.ptpPort port)
    if !s.ethUp port then s
    else if !fcsOk then s.incF (F.ETH_Pn_RX_FCS port)
    else if dst = Config.mac port ∧ etype = 0x88B5 then
      match req with
      | some (src, cmd, seq) => if cmd = 2 ∨ cmd = 3 ∨ cmd = 5 then s else s.ethIn port src seq cmd 0 0 []
      | none =>
        let s1 := s.incF (F.ETH_Pn_RX_OK port)
        if s.ethWatch then s1.ethHold port etype id else s1
    else if own ∨ (dst = BitVec.allOnes 48 ∧ !s.ethWatch) then
      let s1 := s.incF (F.ETH_Pn_RX_OK port)
      if s.ethWatch then s1.ethHold port etype id
      else if room then (if own then s1.ethWake else s1) else s1.incF (F.ETH_Pn_RX_DROP port)
    else s)

/-- Negotiation ends with a link at a speed that is advertised (1 for 10, 2 for 100, 3 for 1000 Mbit/s). -/
def execEthLinkUp (port speed : Nat) (mdix full : Bool) (polInv pairMap : Nat) (s : State) :
    Host.Outcome State Fault Refusal :=
  .next (
    if 1 < port ∨ !s.powered ∨ !s.domOn 11 ∨ !s.flag (F.ETH_Pn_CTRL_EN port) ∨ s.flag (F.ETH_Pn_STAT_LINK port) ∨
        speed = 0 ∨ 3 < speed ∨ !(s.getF (F.ETH_Pn_CTRL_ADV port)).testBit (speed - 1) ∨ (speed = 3 ∧ !full) then s
    else
      ((s.setF ⟨R.ETH_Pn_STAT port, 0, 24⟩ (1 + 2 * speed + 8 * b2n mdix + 16 * (polInv % 16) +
        256 * b2n (s.ptpPort port && speed ≠ 1) + 512 * b2n full +
        (if speed = 3 then 65536 * (pairMap % 256) else 0))).setF (F.ETH_Pn_STAT_UP_SEEN port) 1).updEth
        (fun e => { e with ptpRx := e.ptpRx.set port s.now }))

def execEthLinkDown (port : Nat) (s : State) : Host.Outcome State Fault Refusal :=
  .next (if port < 2 ∧ s.powered ∧ s.domOn 11 then s.ethDown port else s)

def execEthCtrlWrite (m : Master) (port : Nat) (v : Word) (s : State) : Host.Outcome State Fault Refusal :=
  .next (if port < 2 then s.guardW m (R.ETH_Pn_CTRL port) v.toNat (·.ethCtrl port v.toNat) else s)

/-! ### PTP (R243–R245) -/

/-- PTP runs on the port: named, linked above 10 Mbit/s, not under test (R542), and firmware runs. -/
def State.ptpOn (s : State) (n : Nat) : Bool :=
  s.ethUp n && s.domOn 3 && s.ptpPort n && s.flag (F.ETH_Pn_STAT_PTP n) && !s.ethWatch && !s.testing n

/-- The time in TB1 of an event message `phase` sixteenths of a tick after FRC, in units of 2^-16 ns, corrected by the port's
ingress or egress value. -/
def State.ptpRaw (s : State) (n phase : Nat) (egress : Bool) : Int :=
  let lat := leAtI (s.sec T.TIME) (24 + 4 * n + (if egress then 2 else 0)) 2 * 65536
  let t : Int := (s.sdl.tbs.getD 1 {}).at s.now (phase % 16)
  if egress then t + lat else t - lat

/-- The same in whole nanoseconds. -/
def State.ptpTime (s : State) (n phase : Nat) (egress : Bool) : Nat := (s.ptpRaw n phase egress / 65536).toNat

/-- The timestamp of an event message: nanoseconds and seconds. -/
def State.ptpStamp (s : State) (n phase : Nat) (egress : Bool) : List DWord :=
  let c := s.ptpTime n phase egress
  [BitVec.ofNat 64 (nsField c), BitVec.ofNat 64 (secField c)]

/-- May a port take the state: ROLE 1 forbids UNCALIBRATED and SLAVE, ROLE 2 forbids MASTER; the codes are those of
IEEE 1588 (PRESUMED, log entry 70). -/
def State.ptpMay (s : State) (st : Nat) : Bool :=
  let role := s.timeF 23 1
  1 ≤ st && st ≤ 9 && !(role = 1 && 8 ≤ st) && !(role = 2 && st = 6)

/-- May the instance's ports take these states: each as its role permits, a port not in PTP_PORTS unchanged, at most one of
them a time receiver (R243)? -/
def State.ptpStates (s : State) (port : Nat) (r : PtpOut) : Bool :=
  s.ptpMay r.state && (if s.ptpPort (1 - port) then s.ptpMay r.other else r.other = s.ptpState (1 - port)) &&
    !(8 ≤ r.state && 8 ≤ r.other)

/-- Does a message belong to the instance: its domain, its transport, a type of its profile's delay mechanism, two-step in
profile 3 (R243, R246)? -/
def State.ptpMine (s : State) (x : PtpMsg) : Bool :=
  let p := s.timeF 16 1
  x.domain = s.timeF 18 1 && x.udp = (s.timeF 19 1 = 1 : Bool) &&
    (x.mtype = 0 || (if p = 1 then x.mtype = 1 else x.mtype = 2 || x.mtype = 3)) && !(p = 3 && x.oneStep)

/-- The servo of a time receiver: the rate slews within ±250 ppb; an offset over 1 ms steps TB1 where STEP_ALLOWED
permits (R230, R245). -/
def State.ptpServo (s : State) (off : Int) (rate : Int) : State :=
  if 1000000 < off.natAbs ∧ s.flag F.SDL_CTRL_STEP_ALLOWED then
    let old := s.sdl.tbs.getD 1 {}
    (((s.updSdl (fun d => { d with tbs := d.tbs.set 1 ⟨s.now, s.tbRaw 1 - off * 65536, old.adj⟩ })).setF
      (F.SDL_TBk_STAT_STEPPED 1) 1).cmpStep 1).retimeAll
  else (s.updEth (fun e => { e with ptpRate := max (-16384) (min 16384 rate) })).retimeAll

/-- What the instance makes of a message of its own (R245). -/
def State.ptpInstance (s : State) (port : Nat) (r : PtpOut) : State :=
  let s1 := (s.ptpSet port r.state).ptpSet (1 - port) r.other
  let s2 := s1.ptpFollow (if r.state = 9 then some port else if r.other = 9 then some (1 - port) else none)
  if r.state ≠ 9 then s2
  else
    let s3 := s2.updEth (fun e => { e with
      gmClass := r.gmClass % 256, ptpLocked := r.locked && r.offset.any (fun o => o.natAbs < 1000) })
    match r.offset with
    | some o => ((s3.setI F.SDL_PTP_OFFSET (satI32 o)).setF F.SDL_PTP_DELAY (min r.delay (2 ^ 32 - 1))).ptpServo o r.rate
    | none => s3

/-- A Delay_Req at a MASTER port of the end-to-end profile: up to 64 clients per port are served (R243); the Delay_Resp, sent
at once, carries the request's timestamp, and UDP checksum 0 over IPv4 (log entry 70). -/
def State.ptpServe (s : State) (port : Nat) (x : PtpMsg) (stamp : List DWord) : State :=
  let known := s.eth.ptpClients.contains (port, x.src)
  if x.mtype ≠ 1 ∨ s.ptpState port ≠ 6 ∨ (!known ∧ 64 ≤ (s.eth.ptpClients.filter (·.1 = port)).length) then s
  else
    { (s.updEth (fun e => { e with
        ptpClients := if known then e.ptpClients else (port, x.src) :: e.ptpClients })).incF (F.ETH_Pn_TX port) with
      bus := s.bus ++ stamp ++ (if x.udp then [0] else []) }

/-- An event message as it reaches the instance, with the timestamp it was given at its port. -/
def State.ptpTake (s : State) (port : Nat) (x : PtpMsg) (r : PtpOut) (stamp : List DWord) : State :=
  if s.ptpOn port ∧ s.ptpMine x ∧ s.ptpStates port r then
    ((s.updEth (fun e => { e with ptpRx := e.ptpRx.set port s.now })).ptpInstance port r).ptpServe port x stamp
  else s

/-- A PTP event message received (R244): its timestamp on the bus, and what the instance makes of it where it is its own. One
that comes in the watch mode is held, and reaches the instance once D3 is ON (R110). -/
def execPtpMessageRx (port phase : Nat) (x : PtpMsg) (r : PtpOut) (s : State) : Host.Outcome State Fault Refusal :=
  .next (
    if s.ethUp port ∧ s.ethWatch ∧ s.ptpPort port ∧ s.flag (F.ETH_Pn_STAT_PTP port) then
      (s.incF (F.ETH_Pn_RX_OK port)).ethHold port 0x88F7 (fun t => t.hold 3 (.ptpMsg port x r (s.ptpStamp port phase false)))
    else if !s.ptpOn port then s
    else
      let stamp := s.ptpStamp port phase false
      ({ s.incF (F.ETH_Pn_RX_OK port) with bus := stamp } : State).ptpTake port x r stamp)

/-- The interval between Syncs, in counts of FRC: 2^LOG_SYNC s less 30 % (R243; PRESUMED, log entry 70). -/
def State.syncGap (s : State) : Nat :=
  let l := leAtI (s.sec T.TIME) 22 1
  18200000 * 2 ^ (l + 4).toNat / 16

/-- May the port send the message: its instance's, one-step only a Sync or a Pdelay_Resp, a Sync as time transmitter at its
rate, a Delay_Req as time receiver (R243)? -/
def State.ptpSends (s : State) (port : Nat) (x : PtpMsg) : Bool :=
  let st := s.ptpState port
  let gap : Bool := match s.eth.syncFrc.getD port none with
    | some f => f + s.syncGap ≤ s.now
    | none => true
  s.ptpMine x && (!x.oneStep || x.mtype = 0 || x.mtype = 3) && (x.mtype ≠ 0 || (st = 6 && gap)) && (x.mtype ≠ 1 || 8 ≤ st)

/-- What hardware writes into a one-step message sent at `raw` units of 2^-16 ns (R244): a Sync's originTimestamp, and the
correctionField, to which the rest of a Sync's time below 1 ns, or a Pdelay_Resp's turnaround, is added (PRESUMED, log
entry 70). -/
def ptpOneStep (x : PtpMsg) (raw : Int) : List DWord :=
  let t := (raw / 65536).toNat
  if x.mtype = 0 then [BitVec.ofNat 64 (nsField t), BitVec.ofNat 64 (secField t), BitVec.ofInt 64 (x.corr + raw % 65536)]
  else [BitVec.ofInt 64 (x.corr + (raw - 65536 * x.reqRx))]

/-- A PTP event message sent (R244): its timestamp on the bus, what is written into it in flight, and over IPv4 the UDP
checksum 0 (R243). -/
def execPtpMessageTx (port phase : Nat) (x : PtpMsg) (s : State) : Host.Outcome State Fault Refusal :=
  .next (if s.ptpOn port ∧ s.ptpSends port x then
      { (if x.mtype = 0 then s.updEth (fun e => { e with syncFrc := e.syncFrc.set port (some s.now) }) else s).incF
          (F.ETH_Pn_TX port) with
        bus := s.ptpStamp port phase true ++ (if x.oneStep then ptpOneStep x (s.ptpRaw port phase true) else []) ++
          (if x.udp then [0] else []) }
    else s)

end Sys2Proof.Machine
end

