-- ==== Sys2Proof/Machine/Svc.lean ====
section
/-! DEFINITION. The Isben link (spec/16_field_update.md R507–R510, spec/02_pads_and_mains.md R85, R86): its pads, its rate,
and its commands HELLO, SET_RATE, READ, WRITE, SUBMIT and RESET. -/
namespace Sys2Proof.Machine

/-! ### Pads and rate -/

/-- The receive pair idles reversed: the receiver inverts (R85). -/
def execSvcRxInvert (s : State) : Host.Outcome State Fault Refusal :=
  .next (if !s.powered then s
    else { s.setF F.SVC_STAT_RX_INV (b2n (!s.pads.svcRxInvert)) with
      pads := { s.pads with svcRxInvert := !s.pads.svcRxInvert } })

/-- SVC_PRESENT asserted: 115 200 bit/s (R507), a wake source (R97). -/
def execSvcPresentAssert (s : State) : Host.Outcome State Fault Refusal :=
  .next (if !s.powered then { s with pads := { s.pads with svcPresent := true } }
    else
      let s1 := ((s.setF F.SVC_STAT_PRESENT 1).setF F.SVC_STAT_PRESENT_SEEN 1).setF F.SVC_STAT_RATE 0
      { s1.wakeBy 6 with pads := { s1.pads with svcPresent := true }, svc := { s1.svc with rateProven := true } })

/-- SVC_PRESENT released: the link's update session ends (R505), its claims are in trouble (R186). -/
def execSvcPresentRelease (s : State) : Host.Outcome State Fault Refusal :=
  .next (
    let s1 : State := { s with pads := { s.pads with svcPresent := false }, svc := { s.svc with held := false } }
    if !s.powered then s1 else ((s1.setF F.SVC_STAT_PRESENT 0).updRelease 1).claimTrouble .tool)

/-- A packet whose CRC fails, or with a gap, is discarded and counted (R508). -/
def execSvcPacketBad (s : State) : Host.Outcome State Fault Refusal :=
  .next (if s.linkServed then (s.incF F.SVC_CNT_RX_BAD).setF F.SVC_STAT_CRC_SEEN 1 else s)

/-- No valid packet within 1 s at a new rate: 115 200 bit/s again (R507). -/
def execSvcRateTimeout (s : State) : Host.Outcome State Fault Refusal :=
  .next (if s.powered ∧ !s.svc.rateProven ∧ s.since s.svc.rateFrc 1000000 then
      { s.setF F.SVC_STAT_RATE 0 with svc := { s.svc with rateProven := true } }
    else s)

/-! ### HELLO, SET_RATE, RESET -/

/-- A command whose payload must have a length, else BAD_LEN. -/
def State.svcLen (s : State) (cmd seq : Nat) (ok : Bool) (k : State → State) : State :=
  s.svcPacket cmd seq (fun t => if ok then k t else t.svcReply cmd (seq % 256) 2)

def execSvcHello (seq : Nat) (payload : Bytes) (s : State) : Host.Outcome State Fault Refusal :=
  .next (s.svcLen 1 seq payload.isEmpty (fun t =>
    t.svcReply 1 (seq % 256) 0 (leBytes 2 (partCode t.part) ++
      [byte t.siStep, byte (t.getF F.SYS_BOOT_STAT_RECOVERY)] ++ uidBytes ++ leBytes 4 (t.rd R.UPD_STAT).toNat)))

/-- SVC_STAT.RATE of a bit rate (R507). -/
def rateCode (r : Nat) : Option Nat := linkRates.idxOf? r

/-- The reply goes at the old rate; the new one applies from the next packet. -/
def execSvcSetRate (seq : Nat) (payload : Bytes) (s : State) : Host.Outcome State Fault Refusal :=
  .next (s.svcLen 2 seq (payload.length = 4) (fun t =>
    match rateCode (leAt payload 0 4) with
    | some r =>
      let t1 := (t.svcReply 2 (seq % 256) 0).setF F.SVC_STAT_RATE r
      { t1 with svc := { t1.svc with rateProven := false, rateFrc := s.now } }
    | none => t.svcReply 2 (seq % 256) 4))

/-- The reset follows the reply. -/
def execSvcReset (seq : Nat) (payload : Bytes) (s : State) : Host.Outcome State Fault Refusal :=
  .next (s.svcLen 0x16 seq (payload.length = 2) (fun t =>
    if leAt payload 0 2 = 0xC3A5 then (t.svcReply 0x16 (seq % 256) 0).resetAll .swReset
    else t.svcReply 0x16 (seq % 256) 4))

/-! ### READ and WRITE (log entry 39) -/

/-- The domain an access of a burst is held for, none where every access goes through. -/
def State.burstHeld (s : State) (write : Bool) (a n : Nat) : Option Nat :=
  (List.range n).findSome? (fun k =>
    match (if write then s.wrAcc .tool (accAddr (burstAddr a k)) else s.rdAcc .tool (accAddr (burstAddr a k))) with
    | .held d => some d
    | _ => none)

/-- Blocks a READ reaches in the recovery ROM (R509). -/
def romReads (a : Nat) : Bool :=
  a / 0x10000 = 0 || a / 0x10000 = 1 || a / 0x10000 = 2 || a / 0x10000 = 15

/-- A READ or WRITE of the tool, executed whole or held whole for a domain not ON (R42). -/
def State.svcAccess (s : State) (write : Bool) (seq a n : Nat) (data : List Word) : State :=
  match s.burstHeld write a n with
  | some d => s.domEvent d (.svcReq write seq a n data)
  | none =>
    if write then
      let len := wordLen a / 4
      let w (k : Nat) : Nat := (data.getD (len * k) 0).toNat + (if len = 2 then 2 ^ 32 * (data.getD (2 * k + 1) 0).toNat else 0)
      ((List.range n).foldl (fun (x : State) k => x.hostWrite .tool (burstAddr a k) (w k)) s).svcReply 4 seq 0
    else
      let r := s.readBurst .tool a n
      r.2.svcReply 3 seq 0 (r.1.flatMap (fun w => leBytes (wordLen a) w.toNat))

def execSvcRead (seq : Nat) (payload : Bytes) (s : State) : Host.Outcome State Fault Refusal :=
  let a := leAt payload 0 4
  let n := leAt payload 4 2
  .next (s.svcLen 3 seq (payload.length = 6 && 1 ≤ n && n * wordLen a ≤ 4096) (fun t =>
    if t.flag F.SYS_BOOT_STAT_RECOVERY ∧ !romReads a then t.svcReply 3 (seq % 256) 5
    else t.svcAccess false (seq % 256) a n []))

def execSvcWrite (seq : Nat) (payload : Bytes) (s : State) : Host.Outcome State Fault Refusal :=
  let a := leAt payload 0 4
  let d := payload.drop 4
  let ws := (List.range (d.length / 4)).map (fun k => word (leAt d (4 * k) 4))
  .next (s.svcLen 4 seq (5 ≤ payload.length && d.length % wordLen a = 0) (fun t =>
    t.svcAccess true (seq % 256) a (d.length / wordLen a) ws))

/-! ### SUBMIT -/

/-- One work item as from the secure group, counted as an internal producer's; its record comes back in the reply. With
512 items in flight it is not taken (R211). -/
def State.svcItem (s : State) (seq : Nat) (b : Bytes) : State :=
  let words := (b.length + 3) / 4
  if s.svc.submit.isSome then s.svcReply 5 seq 3
  else if 512 ≤ s.inFlight then s
  else match s.wiRefusal .sec false (wiFormed b words (b.length - 4 * (words - 1))) b with
    | some (st, task) =>
      s.svcReply 5 seq 0 (recordOf (leAt b 0 2) task st (leAt b 4 4) [] 255 (s.now % 2 ^ 32))
    | none => { s with svc := { s.svc with submit := some (seq, s.arb.nextWid), held := s.pads.svcPresent } }.wiAccept .sec b

def execSvcSubmit (seq : Nat) (payload : Bytes) (s : State) : Host.Outcome State Fault Refusal :=
  .next (s.svcPacket 5 seq (fun t => t.svcItem (seq % 256) payload))

end Sys2Proof.Machine
end

