-- ==== Sys2Proof/Machine/Tamper.lean ====
section
/-! DEFINITION. Tamper and the die temperature (spec/15_orangery_keys.md R489–R492, spec/18 R560): the zeroisation, the
response by state, the temperature sensor. -/
namespace Sys2Proof.Machine

/-! ### The response to a tamper (R490, R491) -/

/-- Does the module rest in deep standby, nothing under way in it: no reset held and D2 OFF? -/
def State.deepRest (s : State) : Bool :=
  s.getF F.LODGE_PWR_STATE_STATE = 4 && s.dom 2 = DS.off && s.power.resetHolds = []

/-- Does start-up run: from POWER_ON, or from the firmware load after deep standby or a reset, through step 10, or in the
recovery ROM (R128, R129)? In deep standby, and while it is entered, none has begun yet (R93, R97, R100). -/
def State.starting (s : State) : Bool :=
  s.getF F.LODGE_PWR_STATE_STATE = 1 ||
    ((s.power.boot || !s.flag F.SYS_BOOT_STAT_DONE) && !s.deepRest && s.power.entering = 0)

/-- The items of a key operation that runs: derivations on a core or waiting for their store write, and the key update
that has not committed. -/
def State.keyOps (s : State) : List Nat :=
  (s.arb.items.filter (fun i => (i.typ = W.ORG_DERIVE && !i.finished &&
      (match i.phase with | .running _ => true | .waiting _ => true | _ => false)) ||
    (i.typ = W.ORG_KEY_UPDATE && !i.finished && i.onCore))).map (·.wid)

/-- Does a key operation run? -/
def State.keyOpRuns (s : State) : Bool := s.keyOps ≠ [] || s.org.commit.isSome

/-- ORG_TAMPER.STATE_AT of a tamper sensed now. -/
def State.tamperState (s : State) : Nat :=
  let st := s.getF F.LODGE_PWR_STATE_STATE
  if s.starting then 1 else if st = 4 then 4 else if st = 3 ∨ st = 6 then 3 else if s.keyOpRuns then 5 else 2

/-- The first tamper's state, sensor and FRC, held until POWER_ON. -/
def State.tamperFirst (s : State) (bits : Nat) : State :=
  if s.getF F.ORG_TAMPER_SEEN ≠ 0 then s
  else
    let t := (s.setF F.ORG_TAMPER_STATE_AT s.tamperState).setF F.ORG_TAMPER_FIRST (lowestBit bits)
    t.updOrg (fun o => { o with tamperFrc := some s.frc })

/-- Zeroisation: volatile slots, the key caches, Gazebo's keys; TAMPER_WIPE slots are EMPTY. Node keys are not stored. -/
def State.zeroise (s : State) : State :=
  let s1 := s.updOrg (fun o => { o with slots := o.slots.filter (fun p => p.2.persist && !p.2.wipe) })
  { s1 with
    bsa := { s1.bsa with keys := [] }
    bsb := { s1.bsb with keys := [] } }.setStopKeys none none

/-- A store request abandoned before its valid mark; the requests that wait take an idle store. -/
def State.psAbandon (s : State) (drop : PsReq → Bool) : State :=
  let run := s.ps.running.filter (fun q => !drop q)
  let wait := s.ps.waiting.filter (fun q => !drop q)
  if run = [] then { s with ps := { s.ps with running := wait, waiting := [], tries := 0 } }
  else { s with ps := { s.ps with running := run, waiting := wait } }

/-- A running key operation aborts: derivations with TAMPERED (0x85), a key update in stage A or B with 0x89, its record
abandoned. -/
def State.abortKeyOps (s : State) : State :=
  let s1 := s.keyOps.foldl (fun t w => t.finish w (if (t.item? w).any (fun i => i.typ = W.ORG_DERIVE) then 0x85 else 0x89)) s
  match s1.org.commit with
  | some c =>
    let s2 := (s1.psAbandon (fun q => q.who = .keyUpdate c)).updOrg (fun o => { o with commit := none })
    State.kuNext (s2.org.waiting.length + 1) (s2.finish c 0x89)
  | none => s1

/-- The response of Run: every member FREE, keys due to be drawn again, an update session ended (R491, R505). -/
def State.tamperRun (s : State) : State :=
  let s1 := (s.fleet.mbrs.map (·.id)).foldl (fun t m => t.makeFree m 7) s
  ((s1.updOrg (fun o => { o with redraw := true })).updEnd 0x30 0)

/-- The further response by the state at sensing. A key operation that runs is aborted, and the rest is as in Run; while
Watch or deep standby is entered the tamper is a wake event too (R100). -/
def State.tamperRespond (s : State) (st : Nat) : State :=
  if st = 1 then (s.updPower (fun p => { p with tamperBoot := true, boot := true })).resetAll .tamper
  else if st = 3 ∨ st = 4 ∨ s.getF F.LODGE_PWR_STATE_STATE = 5 then s.tamperRun.wakeBy 8
  else s.tamperRun

/-- Sensors `bits` have tripped: the record, the fuse, the zeroisation, the stop, then the response by state. -/
def State.tamper (s : State) (bits : Nat) : State :=
  let st := s.tamperState
  let s1 := (s.tamperFirst bits).setF F.ORG_TAMPER_SEEN (s.getF F.ORG_TAMPER_SEEN ||| bits)
  let s2 := s1.setF F.ORG_STAT_TAMPER_SEEN 1
  let s3 : State := { s2 with flash := { s2.flash with wipeFuses := max s2.flash.wipeFuses (min (s2.flash.wipeFuses + 1) 64) } }
  let s4 := ((s3.abortKeyOps.zeroise).raiseCause Cause.TAMPER).endTest 0x83
  (s4.vbTrigger 0x0A (leBytes 4 (s4.rd R.ORG_TAMPER).toNat)).tamperRespond st

/-- The sensors that read active now: those that were not have tripped. -/
def State.tamperNow (s : State) (now : Nat) : State :=
  let n := now % 64
  let old := s.getF F.ORG_TAMPER_NOW
  let bits := ((List.range 6).filter (fun b => n.testBit b && !old.testBit b)).map (2 ^ ·)
  let s1 := s.setF F.ORG_TAMPER_NOW n
  if bits = [] then s1 else s1.tamper bits.sum

/-- The sensors read `now`; Lodge tells the fabric of a change through its PULSE crossing (R121). -/
def execTamperSense (now : Nat) (s : State) : Host.Outcome State Fault Refusal :=
  .next (if !s.powered then s
    else if now % 64 = s.getF F.ORG_TAMPER_NOW then s.tamperNow now else (s.tamperNow now).xingPulse 2)

/-! ### Die temperature (R560) -/

/-- A measurement of `t` tenths of a degree; `upd` says that it is one of the tenth milliseconds, which LODGE_TEMP.DIE
takes. -/
def State.tempMeasure (s : State) (t : Int) (upd : Bool) : State :=
  let s1 := s.setF F.LODGE_TEMP_HOT (b2n (decide (1450 ≤ t)))
  let s2 := if 1450 ≤ t then s1.setF F.LODGE_TEMP_HOT_SEEN 1 else s1
  let s3 := if 1500 ≤ t then s2.setF F.LODGE_TEMP_OVER_SEEN 1 else s2
  let s4 := if upd then s3.setI F.LODGE_TEMP_DIE t else s3
  let now := s.getF F.ORG_TAMPER_NOW
  s4.tamperNow (if 1600 < t ∨ t < -550 then now ||| 8 else if now.testBit 3 then now - 8 else now)

def execTempMeasure (t : Int) (upd : Bool) (s : State) : Host.Outcome State Fault Refusal :=
  .next (if s.powered then s.tempMeasure t upd else s)

end Sys2Proof.Machine
end

