-- ==== Sys2Proof/Machine/Startup.lean ====
section
/-! DEFINITION. Start-up (spec/04_startup_plan_image.md R125–R134): its steps, the firmware load with the trial rules of
R514, the boot measurement, the choice and the application of a plan slot; and the completion of a domain's power-up and
rail faults (spec/03 R102–R108). -/
namespace Sys2Proof.Machine

/-! ### Steps 1 to 5 -/

/-- The bank of the store that a start-up selects (R130, R537). -/
def Ps.newest (p : Ps) : Option Nat :=
  match p.bank0, p.bank1 with
  | none, none => none
  | some _, none => some 0
  | none, some _ => some 1
  | some a, some b => if serialNewer b.seq a.seq then some 1 else some 0

/-- Step 5: the store's image selected, and what it holds for Gazebo, Orangery and the update controller shown (R130). -/
def State.psSelect (s : State) : State :=
  let k := s.ps.newest
  let im : Option PsImage := match k with
    | some 0 => s.ps.bank0
    | some _ => s.ps.bank1
    | none => none
  let i := im.getD {}
  let s1 : State := { s with ps := { s.ps with sel := im } }
  let s2 := ((s1.setF F.LODGE_PS_STAT_BANK (k.getD 0)).setF F.SYS_BOOT_STAT_PS_BANK (k.getD 0)).setF
    F.SYS_BOOT_STAT_PS_EMPTY (b2n k.isNone)
  ((s2.setF F.GZB_CLEAR_SEQ (i.clearSeq.getD 0)).setF F.ORG_COUNTER ((i.org.map (·.2)).getD 0)).updShow

/-- The newest of a list of Visitor book records (R532). -/
def newestRec (rs : List VbRec) : Option VbRec :=
  rs.foldl (fun (m : Option VbRec) r => match m with
    | some x => if serialNewer r.seq x.seq then some r else m
    | none => some r) none

/-- The recorder scans its flash region after POWER_ON: it resumes at the next sector; BOOT counts this POWER_ON (R532). -/
def State.vbScan (s : State) : State :=
  let s1 : State := { s with vb := { s.vb with lost := b2n s.vb.torn, torn := false } }
  match newestRec s.vb.book with
  | some r =>
    let t := (s1.setF F.VB_SEQ (r.seq + 1)).setF F.VB_BOOT (r.boot + 1)
    { t with vb := { t.vb with sector := (r.sector + 1) % 128, off := 0 } }
  | none => s1.setF F.VB_BOOT 1

/-- A level input sampled as Gazebo starts: good, or a level cause (R425). -/
def State.sampleInput (s : State) (i : Nat) (good : Bool) : State :=
  if good then s.setF (gzInput i) 1 else s.levelCause i

/-- Steps 1 to 5 after the release of POWER_ON: the pads sampled, Gazebo's inputs, the store selected, the stop trains;
D2, D3 and D13 power up. A tamper sensed resets the module at once. -/
def State.startUp (s : State) (p : StartPads) : State :=
  let path := if p.bootRecovery then 2 else if p.snapIn ∧ p.svcPresent then 3 else 1
  let s0 : State := { s with
    frc := 0
    power := { s.power with porHeld := false, boot := true, startPath := path }
    pads := { s.pads with bootRecovery := p.bootRecovery, snapIn := p.snapIn, svcPresent := p.svcPresent } }
  let s1 := (s0.setF F.SVC_STAT_PRESENT (b2n p.svcPresent)).setF F.SVC_STAT_PRESENT_SEEN (b2n p.svcPresent)
  let s2 := ((s1.sampleInput 0 p.loopA).sampleInput 1 p.loopB).sampleInput 2 p.locl
  let s3 := s2.vbScan.psSelect
  let s4 := match s3.psImage.stopRadio with
    | some r => s3.setRadio (r.1, r.2.1, if s3.present U.BSB then r.2.2 else 0)
    | none => s3
  let s5 := (((s4.svnBurn).domOnReq 2).domOnReq 3).domOnReq 13
  s5.tamperNow p.tamper

/-- POWER_ON is released: start-up begins (R125, R126). -/
def execStartupBegin (p : StartPads) (s : State) : Host.Outcome State Fault Refusal :=
  .next (if s.power.off ∨ !s.power.porHeld ∨ !s.power.mains then s else s.startUp p)

/-! ### Step 11 -/

/-- SYS_BOOT_STAT.STEP. -/
def State.bootStep (s : State) : Nat := s.getF F.SYS_BOOT_STAT_STEP

/-- The start path byte in force (R133). -/
def State.startPath (s : State) : Nat :=
  if s.flag F.SYS_BOOT_STAT_RECOVERY then 2 else if s.testMode then 3 else 1

/-- A sector of the main ring erased, or the ring FROZEN (R531). -/
def State.vbClean (s : State) (y : Nat) : State :=
  if s.inSector y = [] then s else if s.wouldFreeze y then s.setF F.VB_STAT_FROZEN 1 else s.vbErase y

/-- The write sector, where it is a new one, and the one after it kept erased, or the ring FROZEN (R524, R531). -/
def State.vbKeepErased (s : State) : State :=
  (if s.vb.off = 0 then s.vbClean s.vb.sector else s).vbClean ((s.vb.sector + 1) % s.mainSectors)

/-- A ring's next sector after its newest record; its first where it has none. -/
def State.ringStart (s : State) (lo n : Nat) : Nat :=
  match newestRec (s.vb.book.filter (fun r => lo ≤ r.sector && r.sector < lo + n)) with
  | some r => lo + (r.sector - lo + 1) % n
  | none => lo

/-- The essential ring begins at its next sector, which is erased with the one after it (R524, R531). -/
def State.essStart (s : State) : State :=
  let m := s.mainSectors
  let x := s.ringStart m s.vbReserve
  let t := (s.vbErase x).vbErase (m + (x - m + 1) % s.vbReserve)
  { t with vb := { t.vb with essSector := x, essOff := 0 } }

/-- A new freeze base is due: the SEQ of the next record; nothing is FROZEN under it yet (R531). -/
def State.baseDue (s : State) : State :=
  { s.setF F.VB_STAT_FROZEN 0 with vb := { s.vb with basePending := true } }

/-- RECORDER applied: the two rings, the freeze base, the RESET record (R529–R532). The main ring goes on where it stands, or
at its next sector where it stands in the other ring or at a sector in use. -/
def State.vbApply (s : State) : State :=
  let m := s.mainSectors
  let s1 : State := if s.vb.sector < m ∧ (s.vb.off ≠ 0 ∨ s.inSector s.vb.sector = []) then s
    else { s with vb := { s.vb with sector := s.ringStart 0 m, off := 0 } }
  let s2 : State := if s.vbReserve = 0 then { s1 with vb := { s1.vb with essSector := 0, essOff := 0 } }
    else if m ≤ s.vb.essSector then s1 else s1.essStart
  let id := s.getF F.SYS_PLAN_ID
  let s3 := if !s.vbFreezes then s2.setF F.VB_STAT_FROZEN 0
    else match s.psImage.vbFreeze with
      | some (p, b) => if p = id then s2.setF F.VB_FREEZE_BASE b else s2.baseDue
      | none => s2.baseDue
  let s4 := s3.vbKeepErased
  let t := s4.vbTrigger 0x07 (leBytes 4 (s.rd R.LODGE_RST_CAUSE).toNat ++ leBytes 2 (s.getF F.ARB_EPOCH_EPOCH) ++
    [byte s.startPath, byte s.vb.lost])
  { t with vb := { t.vb with lost := 0 } }

/-- Start-up completes: Run, DONE, the BOOT interrupt. -/
def State.bootFinish (s : State) : State :=
  (((((s.vbApply).setF F.LODGE_PWR_STATE_STATE 2).setF F.SYS_BOOT_STAT_STEP 11).setF F.SYS_BOOT_STAT_DONE 1).irq
    Irq.BOOT).holdUp

/-! ### Step 10: keys and units -/

/-- Group, broadcast and join keys loaded once D8 and D13 are ON and a band lacks the broadcast key (R479, R480); D13 is
powered for it. -/
def State.keysDue (s : State) : State :=
  let lacks := (s.bsa.key? 0xFF).isNone || (s.domOn 9 && (s.bsb.key? 0xFF).isNone)
  if !s.planActive ∨ !s.domOn 8 ∨ !lacks ∨ s.testMode ∨ s.power.boot ∨ s.bootStep < 9 then s
  else if s.domOn 13 then s.drawKeys.loadJoinKey
  else if s.hasHeld 13 then s else s.domEvent 13 .work

/-- The owners of the compares (R233, R246). -/
def State.cmpOwners (s : State) : State :=
  (List.range 128).foldl (fun (t : State) x =>
    t.setF (F.SDL_CMP_CTRL_OWNER x) (bitsOf (s.timeF (32 + x / 4) 1) (2 * (x % 4)) 2)) s

/-- SLOT_RUN where one of its conditions stands (R231): after a reset of D2 a TB0 that is still LOCKED counts as reaching LOCKED
(DESIGN CHOICE, log entry 86). -/
def State.slotRunDue (s : State) : State :=
  if s.planActive ∧ (s.timeFlag 2 ∨ s.getF F.SDL_STAT_STATE = Tb.LOCKED ∨ (s.tb0Src ≠ 0 ∧ s.srcValid)) then s.setSlotRun
  else s

/-- A domain that is ON loaded from the plan's sections. -/
def State.domLoad (s : State) (d : Nat) : State :=
  if !s.planActive ∨ s.power.boot ∨ s.bootStep < 9 then s
  else match d with
    | 2 => (s.cmpOwners).slotRunDue
    | 4 => { s with pads := { s.pads with antBias := [s.biasPlan 0, s.biasPlan 1] } }
    | 6 => s.bvStart
    | 8 => s.setF F.BSA_SESSION_NEXT s.fleet.ceiling
    | 9 => { s with pads := { s.pads with lnaEnB := s.lnaRest 1 } }
    | 10 => if s.stopStands then s.setF F.PGL_STAT_FROZEN 1 else s
    | 12 => [0, 1, 2, 3].foldl (fun (t : State) n => if s.axUsed n then t.wktLoad n else t) s
    | _ => s

/-- The domains of step 10. -/
def step10 : List Nat := [4, 6, 7, 8, 9, 10, 11, 12]

/-- Step 10 ends once no domain it powers is on its way up; step 11 follows. -/
def State.bootSettle (s : State) : State :=
  let moving (d : Nat) : Bool := s.dom d = DS.pwrUp || s.dom d = DS.pendingOn || s.dom d = DS.pendingOff
  if s.bootStep ≠ 9 ∨ s.power.boot ∨ !s.domOn 2 ∨ !s.domOn 3 ∨ (13 :: step10).any moving then s else s.keysDue.bootFinish

/-! ### Steps 8 and 9: the plan -/

/-- A task record of TASKS (R216). -/
def taskOf (b : Bytes) (o : Nat) : TaskSt :=
  let acc := leAt b (o + 11) 1
  { id := leAt b o 1, prio := leAt b (o + 1) 1, event := leAt b (o + 2) 1 = 1, all := leAt b (o + 3) 1 = 1
    mask := leAt b (o + 4) 4, handler := leAt b (o + 8) 2, conc := leAt b (o + 10) 1, access := acc
    qmax := leAt b (o + 12) 2 }

/-- The host tasks of a TASKS body. -/
def tasksOf (b : Bytes) : List TaskSt := (List.range (leAt b 0 2)).map (fun k => taskOf b (48 + 16 * k))

/-- What Gazebo takes from the plan at step 9; the stop-radio entry follows where it differs (R73, R430, R447). -/
def State.planRadio (s : State) : State :=
  let rel := leAt (s.sec T.PINS) 17 1
  let r := s.carrier
  let s1 := ((s.setF F.GZB_CFG_REL1_USED (bitsOf rel 0 1)).setF F.GZB_CFG_REL2_USED (bitsOf rel 1 1)).takeCarrier
  if s.psImage.stopRadio = some r then s1 else s1.psRequest .radio (.stopRadio r.1 r.2.1 r.2.2)

/-- Steps 9 and 10 under the plan in force: pads, Gazebo, SWAP_SEQ, tasks, Sundial; the domains power up. -/
def State.planApply (s : State) : State :=
  let s1 : State := { s with pads := { s.pads with vaux := true, lnaEnA := s.lnaRest 0 } }
  let seq := match s.psImage.swapSeq with
    | some (p, n) => if p = s.getF F.SYS_PLAN_ID then n else 0
    | none => 0
  let s2 := (s1.planRadio).setF F.SYS_SWAP_SEQ_SEQ seq
  let s3 := s2.updArb (fun a => { a with tasks := tasksOf (s.sec T.TASKS) })
  let s4 := ((s3.setF F.SDL_CTRL_STEP_ALLOWED (b2n (s.timeFlag 0))).setF F.SDL_CTRL_PPS_OUT_EN (b2n (s.timeFlag 4))).setF
    F.SDL_CTRL_REF10_OUT_EN (b2n (s.timeFlag 5))
  let s5 := (s4.joinTb1.ppsGate.updFleet (fun f => { f with ceiling := s.psImage.session.getD 0 })).setF F.SYS_BOOT_STAT_STEP 9
  let s6 := (2 :: step10).foldl (fun (t : State) d => if t.domOn d then t.domLoad d else t) s5
  let s7 := if s.domUnused 5 then s6.domLeave 5 else s6
  ((13 :: step10).foldl (fun (t : State) d => if s.domUnused d then t.domLeave d else t.domOnReq d) s7).bootSettle

/-- The slots a directory index was skipped under, recorded (R141). -/
def State.planSkip (s : State) (e : Nat × Nat) : State :=
  let f := if e.1 < 32 then F.SYS_PLAN_SKIP_LO_SKIP else F.SYS_PLAN_SKIP_HI_SKIP
  (s.setBit f (e.1 % 32)).vbTrigger 0x10 (leBytes 2 e.2 ++ [byte e.1])

/-- A plan slot's bytes. -/
def State.planSlot (s : State) (k : Nat) : Bytes := if k = 0 then s.flash.planA else s.flash.planB

/-- Slot `k` has passed the checks: it becomes the plan in force; `fall` counts a fallback (R131, R515). -/
def State.bootPlan (s : State) (k : Nat) (p : PlanParts) (fall : Bool) : State :=
  let b := s.planSlot k
  let sys := ((p.secs.find? (·.1 = T.SYSTEM)).map (·.2)).getD []
  let s1 : State := { s with plan := { s.plan with sections := p.secs, copy := b, units := leAt sys 0 2 } }
  let s2 := (((s1.setF F.SYS_PLAN_ID (planId b)).setF F.SYS_PLAN_VER (leAt b 20 4)).setF F.SYS_PLAN_STAT_SLOT k).setPlanState 2
  let s3 := p.skipped.foldl State.planSkip s2
  let s4 := if fall then ((s3.incF F.UPD_FALLBACKS).setF F.UPD_STAT_FALLBACK_SEEN 1).vbTrigger 0x11
      (leBytes 4 (s3.rd R.SYS_PLAN_STAT).toNat) else s3
  s4.planApply

/-- The record with the previous slots active (R514). -/
def rolledBack (r : UpdRec) (cause : Nat) : UpdRec :=
  { r with
    fwActive := if r.changed.testBit 0 then 1 - r.fwActive else r.fwActive
    planActive := if r.changed.testBit 1 then 1 - r.planActive else r.planActive
    state := 2, rbCause := cause }

/-- rollback() of R514: the record is written; what follows waits for it. -/
def State.rollback (s : State) (cause : Nat) (reset : Bool) : State :=
  s.psRequest (.rollback reset) (.upd (rolledBack s.updRecNext cause))

/-- The plan registers as a plan load starts: nothing loaded. -/
def State.planRegs (s : State) : State :=
  let s0 := (((s.setF ⟨R.SYS_PLAN_STAT, 3, 2⟩ 0).setF F.SYS_PLAN_STAT_ERROR 0).setF F.SYS_PLAN_STAT_ERR_INDEX noIndex).setPlanState 1
  (((s0.wr R.SYS_PLAN_ID 0).wr R.SYS_PLAN_VER 0).wr R.SYS_PLAN_SKIP_LO 0).wr R.SYS_PLAN_SKIP_HI 0

/-- The plan state as a plan load starts: only the staging buffer is kept. -/
def State.planCleared (s : State) : State := { s.planRegs with plan := { staging := s.plan.staging } }

/-- Both slots refused: the error stands in SYS_PLAN_STAT and the device enters Run, VAUX on (R66), with D4 to D12 off
(R132). -/
def State.bootRefused (s : State) (a : Nat) (e : Nat × Nat) (r : UpdRec) : State :=
  let t := (((s.setF F.SYS_PLAN_STAT_ERROR e.1).setF F.SYS_PLAN_STAT_ERR_INDEX e.2).setF F.SYS_PLAN_STAT_SLOT
    (1 - a)).setPlanState 3
  if r.state = 1 then t.rollback 3 true
  else
    let u : State := { (5 :: step10).foldl State.domLeave t with pads := { t.pads with vaux := true, lnaEnA := t.lnaRest 0 } }
    (u.setF F.SYS_BOOT_STAT_STEP 9).bootSettle

/-- The second slot, index `k`, is judged; no answer leaves the load waiting for the store. -/
def State.bootSecond (s : State) (k : Nat) (r : UpdRec) (res : Option (Except (Nat × Nat) PlanParts)) : State :=
  match res with
  | none => s
  | some (.ok p) =>
    let t := s.setF F.SYS_PLAN_STAT_FALLBACK 1
    if r.state = 1 then t.rollback 3 true else t.bootPlan k p true
  | some (.error e) => s.bootRefused (1 - k) e r

/-- The first slot, index `k`, is judged: its plan, or the record's other slot. -/
def State.bootFirst (s : State) (k : Nat) (r : UpdRec) (res : Option (Except (Nat × Nat) PlanParts)) : State :=
  match res with
  | none => s
  | some (.ok p) => s.bootPlan k p false
  | some (.error _) =>
    let c := s.checkImage (.boot true r) (s.planSlot (1 - k)) none
    c.2.bootSecond (1 - k) r c.1

/-- Step 8: the plan slot the record names active, then the other (R131, R132, R515). -/
def State.bootPlans (s : State) (r : UpdRec) : State :=
  let c := s.planCleared.checkImage (.boot false r) (s.planCleared.planSlot r.planActive) none
  c.2.bootFirst r.planActive r c.1

/-- Step 8 goes on once a use of a PLAN_SIGN slot is counted, or could not be, where start-up still stands there. -/
def State.bootSignGoOn (s : State) (second : Bool) (r : UpdRec) (n : Nat) (ns : List Nat) (counted : Bool) : State :=
  if s.power.boot ∨ !s.domOn 3 ∨ s.bootStep ≠ 7 ∨ s.flag F.SYS_BOOT_STAT_RECOVERY then s
  else
    let k := if second then 1 - r.planActive else r.planActive
    let c := s.moreImage (.boot second r) (s.planSlot k) none n ns counted
    if second then c.2.bootSecond k r c.1 else c.2.bootFirst k r c.1

/-- One stage of the boot measurement (R133). -/
def extendM (m : Bytes) (tag : Nat) (digest : Bytes) : Bytes := sha384 (m ++ leBytes 4 tag ++ digest)

/-- A firmware slot's parts. -/
def State.fwSlot (s : State) (k : Nat) : List (Nat × Bytes) := if k = 0 then s.flash.fwA else s.flash.fwB

/-- M for a start path without firmware, which has no body, version or signer to extend it with (DESIGN CHOICE, log entry
71), and with a slot's (R133, R501). -/
def measureRom : Bytes := extendM (zeros 48) 1 (byte 2 :: zeros 47)

def measureFw (path : Nat) (parts : List (Nat × Bytes)) : Bytes :=
  let part (t : Nat) : Option Bytes := (parts.find? (·.1 = t)).map (·.2)
  let one := (part 1).getD []
  let bodies := [1, 2, 3, 4, 5, 6].flatMap (fun t => ((part t).map fwBody).getD [])
  extendM (extendM (extendM (extendM (zeros 48) 1 (byte path :: zeros 47)) 2 (sha384 bodies)) 3
    (leBytes 4 (fwSecVer one) ++ zeros 44)) 4 (sha384 (fwSigner one))

/-- Step 7: M locked; the persistent slots read, sealed but on the normal path, PLAN_SIGN slots open in TEST mode; the
fixed nodes (R475). A TAMPER_WIPE slot of an earlier wipe epoch cannot be decrypted (R472, R474, R490). -/
def State.bootKeys (s : State) (path : Nat) (m : Bytes) : State :=
  let kept := s.org.slots.filter (fun p => !p.2.persist)
  let open' (k : KeySlot) : Bool := path = 1 || (path = 3 && k.cls = Cls.PLAN_SIGN)
  let stored := (((s.psImage.org.map (·.1)).getD []).filter (fun p => !p.2.wipe || p.2.epoch = s.flash.wipeFuses)).map
    (fun p => (p.1, { p.2 with isSealed := !open' p.2 }))
  let slots := stored.foldl (fun sl p => putSlot sl p.1 p.2) kept
  -- what no reset of D3 has taken stays: created nodes, and the state of a fixed one
  let old := s.org.nodes
  let nodes := (fixedNodes path).map (fun x => (old.find? (·.idx = x.idx)).getD x) ++
    (if path = 1 then old.filter (fun x => 7 < x.idx) else [])
  let s1 := (s.updOrg (fun o => { o with slots := slots, nodes := nodes })).updPower (fun p => { p with
    measured := m, boot := false })
  ((((s1.setF F.SYS_BOOT_STAT_MEAS_LOCK 1).setF F.ORG_STAT_STORE_OPEN (b2n (path = 1))).setF F.TEST_STAT_MODE
    (b2n (path = 3))).setF F.SYS_BOOT_STAT_RECOVERY (b2n (path = 2))).setF F.SYS_BOOT_STAT_STEP 7

/-- The recovery ROM in place of the firmware: no plan, the fleet stopped (R128, R519). -/
def State.bootRom (s : State) : State :=
  let s1 : State := { s.bootKeys 2 measureRom with plan := { staging := s.plan.staging } }
  let s2 := (((s1.wr R.SYS_PLAN_ID 0).wr R.SYS_PLAN_VER 0).updPower (fun p => { p with tamperBoot := false })).setPlanState 0
  { s2 with pads := { s2.pads with lnaEnA := s2.lnaRest 0 } }

/-- Firmware slot `k` is loaded and entered. -/
def State.bootRun (s : State) (k : Nat) (r : UpdRec) : State :=
  let parts := s.fwSlot k
  let s1 := (s.setF F.SYS_BOOT_STAT_FW_SLOT k).setF F.UPD_SVN_RUNNING (((parts.find? (·.1 = 1)).map (fun p => fwSecVer p.2)).getD 0)
  (s1.bootKeys s.power.startPath (measureFw s.power.startPath parts)).bootPlans r

/-- A firmware slot failed step 6. -/
def State.fwFail (s : State) (k : Nat) : State := s.setF (if k = 0 then F.SYS_BOOT_STAT_FW_FAIL_A else F.SYS_BOOT_STAT_FW_FAIL_B) 1

/-- The load of step 6 under a record (R128, R514). -/
def State.bootLoad (s : State) (r : UpdRec) : State :=
  let a := r.fwActive
  if s.fwSetOk (s.fwSlot a) then s.bootRun a r
  else if r.state = 1 then (s.fwFail a).rollback 2 false
  else if s.fwSetOk (s.fwSlot (1 - a)) then (s.fwFail a).bootRun (1 - a) r
  else ((s.fwFail a).fwFail (1 - a)).bootRom

/-- Start-up from the firmware load, D3 being ON (R127, R128, R514). -/
def State.bootStart (s : State) : State :=
  let s1 := ((s.setF ⟨R.SYS_BOOT_STAT, 0, 6⟩ 5).setF ⟨R.SYS_BOOT_STAT, 7, 3⟩ 0).setF F.SYS_BOOT_STAT_MEAS_LOCK 0
  let s2 : State := { ((s1.setF F.UPD_SVN_RUNNING 0).setF F.TEST_STAT_MODE 0).domOnReq 13 with
    vb := { s.vb with buckets := [] } }
  let s3 := s2.updPower (fun p => { p with measured := zeros 48 })
  let r := s3.updRecNext
  if s.power.startPath = 2 ∨ s.power.tamperBoot then s3.bootRom
  else if r.state ≠ 1 then s3.bootLoad r
  else if r.trialBoots = 3 then s3.rollback 1 false
  else s3.psRequest .trialBoot (.upd { r with trialBoots := r.trialBoots + 1 })

/-- The record start-up waited for is written, or cannot be: the load goes on under it (R514). -/
def State.bootGoOn (s : State) (r : UpdRec) : State :=
  if s.power.boot ∧ s.domOn 3 ∧ s.bootStep = 5 then s.bootLoad r else s

/-! ### A domain reaches ON (R102, R105, R106) -/

/-- What an event held for a domain does once the domain is ON. A message posted before the task table is loaded is
raised with it (R179). -/
def State.deliver (s : State) (w : HeldWhat) : State :=
  match w with
  | .wake => s
  | .work => s
  | .flag => s
  | .go c => if s.power.boot then s.updArb (fun a => { a with repost := a.repost.filter (· ≠ c) ++ [c] })
      else if s.domOn 3 then s.mbxWake c else s
  | .regWrite m a v => s.hostWrite m a v.toNat
  | .regRead m a => State.onBus (s.hostRead m a)
  | .spiRead m a n => if s.hspi.waiting.isSome then s.spiSample m a n else s
  | .svcReq w q a n d => s.svcAccess w q a n d
  | .ethReq p src q c a n d => s.ethDeliver p src q c a n d
  | .ptpMsg p x r st => s.ptpTake p x r st

/-- The events held for a domain, delivered in arrival order. -/
def State.deliverAll (s : State) (d : Nat) : State :=
  let ws := (s.power.held.filter (·.1 = d)).map (·.2)
  ws.foldl State.deliver (s.updPower (fun p => { p with held := p.held.filter (·.1 ≠ d) }))

/-- D2 ON: the event records, frames and posted writes that waited, and the domains that waited for it (R103, R110). -/
def State.fabricUp (s : State) : State :=
  let s1 := (s.sdlOwed.updEth (fun e => { e with watchBuf := [] })).spiPoke
  [3, 4, 5, 6, 7, 8, 9, 10, 11, 12, 13].foldl (fun (t : State) d =>
    if t.dom d = DS.off ∧ t.needed d then t.startPwrUp d else t) s1

/-- D3 ON: start-up from the firmware load where it is due, else a resume from Watch (R96, R127, R237). -/
def State.arbourUp (s : State) : State :=
  if s.power.boot then s.bootStart
  else if s.getF F.LODGE_PWR_STATE_STATE = 6 then
    ((((s.setF F.LODGE_PWR_STATE_STATE 2).updArb (fun a => { a with cores := List.replicate 8 0 })).restoreCompares).holdUp).raiseOwed
  else s.restoreCompares.raiseOwed

/-- The domain is ON: late shadows, its crossings resynchronise, its loads, the events held; a pending off follows at
once, but where R104 has come to refuse it, which is taken to be before the table of R102 (DESIGN CHOICE, log entry 85). -/
def State.domUp (s : State) (d : Nat) : State :=
  let pend := s.dom d = DS.pendingOff
  let s1 := (((s.setDom d DS.on).setLock (domPll d) true).lateLatch d).domResetOver d
  let s2 := ((s1.idleStart d).xingsUp d).domLoad d
  let s3 := s2.deliverAll d
  let s4 := if d = 2 then s3.fabricUp else if d = 3 then s3.arbourUp
    else if d = 8 ∨ d = 9 ∨ d = 13 then (if s.flag F.SYS_BOOT_STAT_DONE then s3.keysDue.rollsDue else s3) else s3
  let s5 := if !pend ∨ !s4.domOn d then s4
    else if s4.offRefused d then s4.setBit F.LODGE_DOM_FLAGS_REFUSED (d - 2) else s4.shutdown d
  s5.bootSettle

/-- May the power-up of a domain complete: not held in reset, D2 running but for D11 in Watch, its PLL in lock or free to
lock? -/
def State.mayRise (s : State) (d : Nat) : Bool :=
  (s.dom d = DS.pwrUp || s.dom d = DS.pendingOff) && !s.resetHeld d &&
    (d = 2 || s.domOn 2 || (d = 11 && s.getF F.LODGE_PWR_STATE_STATE = 3)) &&
    (s.pllLocked (domPll d) || (s.flag F.LODGE_CLK_STAT_TCXO_OK && !s.pllLost (domPll d)))

def execDomPwrUpDone (d : Nat) (s : State) : Host.Outcome State Fault Refusal :=
  .next (if d < 2 ∨ 13 < d ∨ !s.powered ∨ !s.mayRise d then s else s.domUp d)

/-- A PLL relocks: with the TCXO present its domains run again and take what was held for them, or leave the reset it put
them in (R114). The other PLLs in a PLL_LOSS reset keep theirs. -/
def execPllRelock (p : Pll) (s : State) : Host.Outcome State Fault Refusal :=
  .next (
    if s.pllLocked p ∨ !s.flag F.LODGE_CLK_STAT_TCXO_OK ∨ !s.powered then s
    else
      let s1 := (s.setLock p true).updPower (fun x => { x with
        resetHolds := x.resetHolds.filter (fun h => !(h.src = .pllLoss && h.doms.all (fun d => (pllDoms p).contains d))) })
      let s2 := (((pllDoms p).filter s.isOn).foldl State.deliverAll s1).raiseOwed
      if s2.power.boot ∧ p = .sys then (s2.domOnReq 2).domOnReq 3 else s2)

/-! ### Rail faults (R108) -/

/-- LOCKOUT: the tasks' items complete DOMAIN_FAULT, the accesses held read 0 or are ignored (R106, R203). -/
def State.lockout (s : State) (d : Nat) : State :=
  let s1 := ((s.setDom d DS.lockout).domResetOver d).lockoutItems d
  (s1.deliverAll d).vbTrigger 0x08 [byte d]

/-- A rail fault of a domain that is not down. -/
def State.railFault (s : State) (d : Nat) : State :=
  let s1 := (((s.setBit F.LODGE_DOM_FLAGS_FAULT (d - 2)).irq Irq.DOMAIN).setBit F.LODGE_RST_CAUSE_CAUSE 7).setBit
    F.LODGE_RST_CAUSE_DOMAINS (d - 2)
  let s2 := s1.updPower (fun p => { p with railFaults := p.railFaults ++ [(d, s.now)] })
  let s3 := if stopDom d then s2.domResetStop.domResetNow (s2.power.domReset.filter (· ≠ d) ++ [d]) else s2
  let s3' := if d = 2 then s3.setF F.SDL_STAT_SLOT_RUN 0 else s3
  let s4 := ((if s.isOn d then s3'.loseDom d else s3').expireSlots [d]).setDom d DS.shutdown
  let n := (s4.power.railFaults.filter (fun p => p.1 = d && s.now ≤ p.2 + 26000000)).length
  (if 3 ≤ n then s4.lockout d else s4).bootSettle

def execDomRailFault (d : Nat) (s : State) : Host.Outcome State Fault Refusal :=
  .next (if d < 2 ∨ 13 < d ∨ !s.powered ∨ s.domDown d then s else s.railFault d)

end Sys2Proof.Machine
end

