-- ==== Sys2Proof/Machine/Store.lean ====
section
/-! DEFINITION. The completion of a persistent-store write (spec/17_records_and_test.md R536–R540): the bank programmed,
and what each requester does once its write is complete or has failed. -/
namespace Sys2Proof.Machine

/-! ### What a requester does -/

/-- A key update past stage B (R485): the slots it changes and ORG_COUNTER, the rest as they stand; a JOIN slot it changes is
loaded again (R480). One whose item is lost has committed too. -/
def State.kuCommitted (s : State) (wid : Nat) (ch : PsChange) : State :=
  match ch with
  | .org changed counter =>
    let mine : Bool := decide (s.org.commit = some wid)
    let shut (k : KeySlot) : Bool := k.persist && !s.storeOpen && !(s.testMode && k.cls = Cls.PLAN_SIGN)
    let join := changed.any (fun p => p.2.cls = Cls.JOIN || (s.slot p.1).cls = Cls.JOIN)
    let s1 := (s.setF F.ORG_COUNTER counter).updOrg (fun o => { o with
      slots := mergeSlots false (changed.map (fun p => (p.1, { p.2 with isSealed := shut p.2 }))) o.slots
      joinKey := o.joinKey || join, commit := if mine then none else o.commit })
    let s2 := (s1.setF F.ORG_STAT_UPDATE_DONE 1).vbTrigger 0x38 (leBytes 4 counter ++ [byte 0])
    if mine then State.kuNext (s2.org.waiting.length + 1) (s2.finish wid St.OK) else s2
  | _ => s

/-- The record of an activation is valid: the session is over and an UPDATE reset follows (R513). -/
def State.activated (s : State) : State :=
  let s1 := (((s.setF F.UPD_STAT_SESSION 0).setF F.UPD_STAT_LOCK 0).updShow).updRecord
  { s1 with upd := {} }.resetAll .update

/-- The rollback record is written, or could not be: the load goes on under it, or the reset of R515 follows. -/
def State.rolled (s : State) (reset : Bool) (r : UpdRec) : State :=
  let s1 := ((s.setF F.UPD_STAT_ROLLBACK_SEEN 1).updShow).updRecord
  if reset then s1.resetAll .update else s1.bootGoOn r

/-- The session ceiling is raised: the joins that waited go on (R361). -/
def State.sessionRaised (s : State) (c : Nat) : State :=
  let ms := s.fleet.joining
  ms.foldl State.joinStart (s.updFleet (fun f => { f with ceiling := c, joining := [] }))

/-- A join's use of FLEET_ROOT is counted (R471, R478): its session key is released, where that join still stands. -/
def State.joinCounted (s : State) (m session : Nat) (key : Bytes) : State :=
  if (s.mbr m).state = Ms.KEYING ∧ (s.mbr m).session = session ∧ ¬ s.keysWithheld then s.joinFinish m key else s

/-- A check with slot keys goes on: the use of slot `n` is counted, or could not be (R471). -/
def State.keyGoOn (s : State) (what : KeyCheck) (n : Nat) (ns : List Nat) (counted : Bool) : State :=
  match what with
  | .clear wid => s.clearGoOn wid n ns counted
  | .boot second r => s.bootSignGoOn second r n ns counted
  | .swap => s.swapGoOn n ns counted
  | .updEnd src seq => s.updEndGoOn src seq n ns counted

/-- The record of a change of the update controller. -/
def PsChange.updRec (ch : PsChange) : UpdRec :=
  match ch with
  | .upd r => r
  | _ => {}

/-- What the change itself moves outside the store once written: a use counter, GZB_CLEAR_SEQ. -/
def State.psTake (s : State) (ch : PsChange) : State :=
  match ch with
  | .orgUse n => s.setSlot n { s.slot n with uses := (s.slot n).uses - 1 }
  | .clearSeq n => s.setF F.GZB_CLEAR_SEQ n
  | _ => s

/-- A requester's write is complete. -/
def State.psDone (s : State) (q : PsReq) : State :=
  let t := s.psTake q.change
  match q.who with
  | .clear wid cnt seq mark => t.clearStored wid cnt seq mark
  | .swap => t.swapAccepted
  | .keyUpdate wid => t.kuCommitted wid q.change
  | .keyUse wid result => t.finish wid St.OK result
  | .joinUse m ses key => t.joinCounted m ses key
  | .joinKey n => t.joinKeyIn n
  | .keyCount what n ns => t.keyGoOn what n ns true
  | .session => match q.change with
    | .session c => t.sessionRaised c
    | _ => t
  | .survey => t
  | .freeze => t
  | .radio => t
  | .updActivate _ => t.activated
  | .updConfirm => t.updShow.updRecord
  | .updOther => t.updShow
  | .trialBoot => t.updShow.bootGoOn t.updRec
  | .rollback reset => t.rolled reset t.updRec

/-- A requester's write has failed (R540): a swap and a session ceiling are requested again, an activation leaves the
session VERIFIED, start-up goes on with the load (log entry 38). -/
def State.psFailed (s : State) (q : PsReq) : State :=
  match q.who with
  | .clear wid _ seq _ => s.clearRefuse wid 0x88 seq
  | .swap => if s.swap.storing then s.psRequest q.who q.change else s
  | .keyUpdate wid =>
    if s.org.commit = some wid then
      let t := (s.updOrg (fun o => { o with commit := none })).finish wid 0x88
      State.kuNext (t.org.waiting.length + 1) t
    else s
  | .keyUse wid _ => s.finish wid 0x84
  | .joinUse _ _ _ => s
  | .joinKey _ => s
  | .keyCount what n ns => s.keyGoOn what n ns false
  | .session => s.psRequest q.who q.change
  | .survey => s
  | .freeze => s
  | .radio => s
  | .updActivate _ => s.setF F.UPD_STAT_SESSION 3
  | .updConfirm => s
  | .updOther => s
  | .trialBoot => s.bootGoOn q.change.updRec
  | .rollback reset => s.rolled reset q.change.updRec

/-! ### The write (R538, R540) -/

/-- The requests that waited begin the next write. -/
def State.psNext (s : State) : State :=
  { s with ps := { s.ps with running := s.ps.waiting, waiting := [], tries := 0 } }

/-- The image with the running requests' changes, its SEQ one above the selected image's, or 1. -/
def State.psImageNext (s : State) : PsImage :=
  let im := s.ps.running.foldl (fun (i : PsImage) q => i.apply q.change) s.psImage
  { im with seq := (match s.ps.sel with | some x => (x.seq + 1) % 2 ^ 32 | none => 1) }

/-- MARK verifies: the other bank is selected, and every requester's write is complete. -/
def State.psComplete (s : State) : State :=
  let im := s.psImageNext
  let bank := if s.ps.sel.isNone then 0 else 1 - s.getF F.LODGE_PS_STAT_BANK
  let p : Ps := { s.ps with
    bank0 := if bank = 0 then some im else s.ps.bank0
    bank1 := if bank = 0 then s.ps.bank1 else some im
    sel := some im }
  s.ps.running.foldl State.psDone (({ s with ps := p }.setF F.LODGE_PS_STAT_BANK bank).psNext)

/-- The entry IDs the running write would have changed, rising. -/
def State.psEntries (s : State) : List Nat :=
  (List.range 9).filter (fun e => s.ps.running.any (·.change.entry = e))

/-- The second failure in a row: the other bank, erased, holds no image; PS_FAIL, its records, the requesters. -/
def State.psFail (s : State) : State :=
  let b1 := s.ps.sel.isNone || s.flag F.LODGE_PS_STAT_BANK
  let p : Ps := { s.ps with bank0 := if b1 then none else s.ps.bank0, bank1 := if b1 then s.ps.bank1 else none }
  let t := s.psEntries.foldl (fun (t : State) e => t.vbTrigger 0x58 (leBytes 2 e))
    ({ s with ps := p }.setF F.LODGE_PS_STAT_PS_FAIL 1)
  s.ps.running.foldl State.psFailed t.psNext

/-- The write in progress ends: `ok` where its program-verify and MARK verify. -/
def execPsWriteComplete (ok : Bool) (s : State) : Host.Outcome State Fault Refusal :=
  .next (
    if !s.powered ∨ s.ps.running = [] then s
    else if ok then s.psComplete
    else if s.ps.tries = 0 then { s with ps := { s.ps with tries := 1 } }
    else s.psFail)

end Sys2Proof.Machine
end

