-- ==== Sys2Proof/Machine/Slot.lean ====
section
/-! DEFINITION. The slot start (spec/07 R231, spec/01 R22–R36, spec/10 R335–R348, spec/11 R354–R382, spec/13 R436): what
ends with the slot before, what falls due at a slotframe boundary, and what the transmit cells of the slot carry. -/
namespace Sys2Proof.Machine

/-! ### The slot before -/

/-- The end of the slot in progress: its IACK windows are over, and SOLVE completes NO_OBS for its UL_OBS cells (R290,
R332). -/
def State.slotEnd (s : State) : State :=
  let s1 := (s.ackTimeout 0).ackTimeout 1
  let s2 := match s.sdl.lastSlot with
    | some p => if s.bandRun 1 then s1.noObs (p % max s.slotL 1) ((p + 2 ^ 40 - 1) % 2 ^ 40) else s1
    | none => s1
  let clean (b : Band) : Band := { b with air := [], sack := [], demod := [] }
  ({ s2 with bsa := clean s2.bsa, bsb := clean s2.bsb }).setF (F.BS_STAT_WAKE_TX 0)
    (if s.flag (F.BS_STAT_WAKE_TX 0) ∧ (s.wakePair?.any (· = s.slotIdx)) then 1 else 0)

/-- SDL_ASN and the slot in progress (R22, R231). -/
def State.setAsn (s : State) (a : Nat) : State :=
  ((s.setF F.SDL_ASN_LO (a % 2 ^ 32)).setF F.SDL_ASN_HI (a / 2 ^ 32)).updSdl (fun d => { d with lastSlot := some a })

/-- Members of a list as the mask of a filter register: bit i is member 32k + i + 1. -/
def memberMask (p : Nat → Bool) (k : Nat) : Nat := maskOf (fun i => p (32 * k + i + 1))

/-- The filter registers of a band from the member table and MEMBERS (R335). -/
def State.filters (s : State) (b : Nat) : State :=
  if !s.domOn (bandDom b) then s
  else
    let s1 := (List.range 4).foldl (fun t k =>
      (t.setF (F.BS_FILT_JOINEDk_MEMBERS b k) (memberMask s.joined k)).setF (F.BS_FILT_ENABLEDk_MEMBERS b k)
        (memberMask (fun m => (s.memberRec? m).any (·.enabled)) k)) s
    (s1.setF (F.BS_FILT_GRP_GRP b) (maskOf (fun g => s.usedGroups.contains (0xF0 + g)))).setF (F.BS_FILT_GRP_BCAST b) 1

/-! ### The slotframe boundary -/

/-- A joined member at the end of a slotframe: the count of R380, which an ACTIVE member's slotframe without a beacon or a
STOP frame does not enter, and the limit of 64 slotframes of R366, which does not run while a stop stands. -/
def State.slotframeEnd (s : State) (x : Mbr) : State :=
  let m := x.id
  let seen (t : State) : State := t.updMbr m (fun y => { y with ctrlSeen := false })
  if x.state = Ms.ACTIVE then
    if !s.fleet.beaconSent ∨ x.ctrlSeen then seen s
    else
      let t := (seen s).updMbr m (fun y => { y with missed := min (y.missed + 1) 15 })
      if x.missed = 2 then ((t.updMbr m (fun y => { y with silent := true })).fleetEvent 5 m 0 0).pglSilent m else t
  else if x.state = Ms.SETUP ∨ x.state = Ms.KEYING then
    let n := x.joinFrames + b2n (!s.stopStands)
    let t := (seen s).updMbr m (fun y => { y with joinFrames := n })
    if x.state = Ms.SETUP ∧ 64 ≤ n then t.makeFree m 4 else t
  else s

/-- The boundary given by SYS_SWAP_ASN: an ACCEPTED swap takes effect (R36), and a cell map's frees the members that have
not acknowledged their new schedule (R381). -/
def State.swapBoundary (s : State) : State :=
  let at_ := s.getF F.SYS_SWAP_ASN_LO_ASN_LO + 2 ^ 32 * s.getF F.SYS_SWAP_ASN_HI_ASN_HI
  if s.getF F.SYS_SWAP_STAT_STATE = 3 ∧ asnReached s.asn at_ then
    let map : Bool := s.swap.sections.any (·.1 = T.CELL_MAP)
    let s1 := s.swapEffective
    if map then
      ((s.fleet.mbrs.filter (fun x => x.schedSent ∧ x.schedLeft ≠ 0)).map (·.id)).foldl (fun t m => t.makeFree m 6) s1
    else s1
  else s

/-- CLEAR_ASN: Gazebo enters RUN, Bandstand and Pergola resume (R40, R427). -/
def State.clearBoundary (s : State) : State :=
  let at_ := s.getF F.GZB_CLEAR_ASN_LO + 2 ^ 32 * s.getF F.GZB_CLEAR_ASN_HI
  if s.gzState = Gz.CLEARING ∧ asnReached s.asn at_ then s.gzbRun.pglClear else s

/-- What falls due at a slotframe boundary. -/
def State.boundaryActs (s : State) : State :=
  let s1 := s.fleet.mbrs.foldl State.slotframeEnd s
  let s2 := s1.updFleet (fun f => { f with beaconSent := false })
  (s2.keySwitches.swapBoundary.clearBoundary).fixLapse.payOwed.budgetBoundary

/-! ### Announced schedules (R354, R381) -/

/-- Is a cell-map swap being announced? -/
def State.announcing (s : State) : Bool :=
  s.getF F.SYS_SWAP_STAT_STATE = 2 && 0 < s.swap.framesLeft

/-- SCHED_SEQ of a beacon: with ANNOUNCE that of the announced cell map. -/
def State.beaconSeq (s : State) : Nat := if s.announcing then (s.swap.seq + 254) % 255 + 1 else s.schedSeq

/-- The announced cell map. -/
def State.newMap (s : State) : Bytes := ((s.swap.sections.find? (·.1 = T.CELL_MAP)).map (·.2)).getD []

/-- The parts of a member's announced SCHED_OWN. -/
def State.newOwn (s : State) (m : Nat) : List (Bytes × Bytes) :=
  schedParts 2 (ownPer (s.mbrBand m)) s.beaconSeq (s.ownSched s.newMap m)

/-- The next parts of a member's announced SCHED_OWN enter its downlink queue while that has room. -/
def State.queueOwn (s : State) (m : Nat) : State :=
  let b := s.mbrBand m
  (s.mbr m).schedQ.foldl (fun t i =>
    if t.dlRoom b then
      match (s.newOwn m)[i]? with
      | some p => (t.updMbr m (fun x => { x with schedQ := x.schedQ.filter (· ≠ i) })).dlPush b (uniFrame m 3 p.1 p.2 .schedOwn)
      | none => t
    else t) s

/-- A joined member whose own cells change is to receive its new SCHED_OWN. -/
def State.announceOwn (s : State) (m : Nat) : State :=
  if (s.mbr m).schedSent ∨ s.ownSched (s.sec T.CELL_MAP) m = s.ownSched s.newMap m then s
  else
    let n := (s.newOwn m).length
    s.updMbr m (fun x => { x with schedSent := true, schedQ := List.range n, schedLeft := n })

/-- An announcing slotframe's beacon slot: the new SCHED_COMMON as broadcast SETUP frames, those of the slotframe before that
still wait standing for it, and SCHED_OWN to the members
whose cells change. The first one starts the announcement afresh. -/
def State.announceSlot (s : State) : State :=
  let first : Bool := s.swap.framesLeft = leAt (s.sec T.SYSTEM) 4 1
  let fresh (b : Band) : Band := { b with dl := b.dl.filter (fun f => f.tag ≠ .schedOwn) }
  let s1 := if first then
      { s.updFleet (fun f => { f with mbrs := f.mbrs.map (fun (x : Mbr) => { x with
          schedSent := false, schedQ := [], schedLeft := 0 }) }) with bsa := fresh s.bsa, bsb := fresh s.bsb }
    else s
  let b := b2n (s.cells.any (fun c => c.band = 1 ∧ c.role = Role.DL_BCAST))
  let s2 := (schedParts 3 (commonPer b) s.beaconSeq (s.commonSched s.newMap)).foldl (fun t p =>
    let f : DlFrame := { dst := 0xFF, ftype := 3, tsh := p.1, enc := p.2 }
    if ((t.band b).dl ++ (t.band b).held).contains f then t else t.dlPush b f) s1
  ((s.fleet.mbrs.filter (fun x => s.joined x.id)).map (·.id)).foldl State.announceOwn s2

/-- The beacon slot of the last announcing slotframe is over: the checks are repeated (R153). -/
def State.announceEnd (s : State) : State :=
  if s.getF F.SYS_SWAP_STAT_STATE = 2 ∧ s.swap.framesLeft = 0 ∧ ¬ s.swap.storing then s.swapAnnounced else s

/-! ### The beacon (R354) -/

/-- First slot and descriptor of the band A cells of a role: their slots run on, cyclically, with one channel-offset
mask (R355). -/
def State.cellDesc (s : State) (role : Nat) (mask : Bool) : Bytes :=
  let cs := s.cells.filter (fun c => c.band = 0 ∧ c.role = role)
  let l := max s.slotL 1
  let slots := (List.range l).filter (fun x => cs.any (·.slot = x))
  let first := ((slots.find? (fun x => !slots.contains ((x + l - 1) % l))).getD (slots.headD 0))
  match cs with
  | [] => zeros 2
  | c :: _ =>
    let low := if mask then maskOf (fun k => cs.any (·.chan = k)) else c.chan
    [byte first, byte (low % 16 + 16 * (slots.length - 1))]

/-- JOIN_OPEN: some enabled member is FREE, and no swap is in ANNOUNCING or ACCEPTED. -/
def State.joinOpen (s : State) : Bool :=
  let st := s.getF F.SYS_SWAP_STAT_STATE
  st ≠ 2 && st ≠ 3 && s.memberRecs.any (fun r => r.enabled && (s.mbr r.id).state = Ms.FREE)

/-- STEPPED, carried for three slotframes after a step of TB0. -/
def State.steppedNow (s : State) : Bool := 0 < s.fleet.steppedLeft

/-- The beacon of the slot in progress. -/
def State.beacon (s : State) : DlFrame :=
  let ann := s.announcing
  let flags := b2n s.joinOpen + 2 * b2n ann + 4 * b2n (!ann && 0 < s.fleet.cancelLeft) + 8 * b2n s.steppedNow +
    16 * b2n (s.flag F.SDL_STAT_UNTRUSTED)
  { dst := 0xFF, ftype := 0, flood := true, enc := [],
    tsh := leBytes 5 s.asn ++ [byte flags, byte s.beaconSeq, byte (if ann then s.swap.framesLeft - 1 else 0)] ++
      s.cellDesc Role.JOIN true ++ s.cellDesc Role.DL_CTRL false }

/-- The STOP frame of the slot in progress (R436). -/
def State.stopFrame (s : State) : DlFrame :=
  let clearing : Bool := s.gzState = Gz.CLEARING
  let at_ := s.getF F.GZB_CLEAR_ASN_LO + 2 ^ 32 * s.getF F.GZB_CLEAR_ASN_HI
  let left := if clearing then (at_ + 2 ^ 40 - s.asn) % 2 ^ 40 else 0
  { dst := 0xFF, ftype := 0xA, flood := true, tsh := leBytes 5 s.asn,
    enc := leBytes 2 (s.getF F.GZB_STAT_STOP_CNT) ++ [byte (if clearing then 2 else 1), byte (s.getF F.GZB_CAUSE_FIRST)] ++
      leBytes 2 left ++ zeros 2 }

/-! ### Sending in a cell -/

/-- What follows a frame sent: it awaits its IACK, or is done; a member's entry that reached its limit ends its session,
and a group or broadcast entry that reaches 0xF000_0000 rolls (R338, R366, R479). -/
def State.afterSend (s : State) (b : Nat) (f : DlFrame) : State :=
  let s1 := if f.ack then s.updBand b (fun x => { x with wait := some f }) else s.frameDone f
  match (s1.band b).key? f.dst with
  | none => s1
  | some k =>
    if k.exhausted ∧ f.dst ≤ 128 then s1.makeFree f.dst 3
    else if k.rollDue then s1.rollsDue else s1

/-- A frame sent in a cell: whether it went on air, and the state after. -/
def State.sendIn (s : State) (b : Nat) (f : DlFrame) : Bool × State :=
  match s.txFrame b f with
  | some r => (true, r.2.afterSend b r.1)
  | none => (false, s)

/-- May the key entry of a frame send (R336, R338)? -/
def State.canSend (s : State) (b : Nat) (f : DlFrame) : Bool := ((s.band b).key? f.dst).any (fun k => !k.exhausted)

/-- May a downlink cell carry a queued frame: DL_CTRL any of DL_A; DL_UNI unicast and correction frames (R52), DL_BCAST all but
unicast ones, which DL_UNI takes where the cell map has no DL_BCAST cell? -/
def State.cellTakes (s : State) (role : Nat) (f : DlFrame) : Bool :=
  if role = Role.DL_UNI then f.tag = .corr || f.dst ≤ 128 || !s.cells.any (fun c => c.band = 1 ∧ c.role = Role.DL_BCAST)
  else if role = Role.DL_BCAST then 128 < f.dst else true

/-- The first of the queue's frames equal to `f` taken out. -/
def dropFirst (f : DlFrame) : List DlFrame → List DlFrame
  | [] => []
  | x :: r => if x = f then r else x :: dropFirst f r

/-- Messages left of the correction builder once `n` bytes of their stream are sent: the rest, and how many bytes of its
first message are sent. -/
def corrRest : List CorrMsg → Nat → List CorrMsg × Nat
  | [], _ => ([], 0)
  | c :: r, n => if c.bytes.length ≤ n then corrRest r (n - c.bytes.length) else (c :: r, n)

/-- A correction frame: the transport frames one after another, CONT bytes of the one begun before (R374). A
continuation longer than CONT can say travels alone, 255 bytes of it. -/
def State.sendCorr (s : State) (b : Nat) : Bool × State :=
  let all := s.slv.corr.flatMap (·.bytes)
  let off := s.slv.corrOff
  let cont := if off = 0 then 0 else ((s.slv.corr.head?.map (·.bytes.length)).getD 0) - off
  let lim := if 255 < min cont (corrLen b) then 255 else corrLen b
  let enc := slice all off (min lim (all.length - off))
  if s.slv.corr = [] then (false, s)
  else
    let r := s.sendIn b { dst := 0xFF, ftype := 8, tsh := [byte s.slv.cseq, byte (min cont enc.length)], enc := enc, tag := .corr }
    if r.1 then
      (true, r.2.updSlv (fun v =>
        let q := corrRest v.corr (off + enc.length)
        { v with corr := q.1, corrOff := q.2, cseq := (v.cseq + 1) % 256 }))
    else r

/-- A queued frame sent in a cell of a role (R35, R332), a correction frame formed then: whether one went, and the state
after. -/
def State.sendQueued (s : State) (b role : Nat) : Bool × State :=
  match pickFrame (fun f => s.cellTakes role f && s.canSend b f) (s.band b).dl with
  | none => (false, s)
  | some f =>
    let t := s.updBand b (fun x => { x with dl := dropFirst f x.dl })
    let r := if f.tag = .corr then t.sendCorr b else t.sendIn b f
    if r.1 then r else (false, if f.tag = .corr then t else s)

/-- The first fixes of a slotframe that no DL_FIX cell carries go ahead of the queue (R32). -/
def State.sendLateFix (s : State) : Bool × State :=
  let past : Bool := (s.fixSlots.getLast?).all (· < s.slotIdx)
  let t := s.fixPull
  if t.bsb.fixes = [] ∨ !past then (false, t)
  else
    let f := t.fixFrame false
    let r := t.sendIn 1 f.1
    if r.1 then (true, r.2.fixesSent f.2) else r

/-- The BEACON cell: the beacon, and what it counts down. -/
def State.beaconCell (s : State) : State :=
  let ann := s.announcing
  let s0 := ((if ann then s.announceSlot else s).updFleet (fun f => { f with steppedLeft := f.steppedLeft - 1 })).raiseTask 5
  let r := if s.stopStands then s0.sendIn 0 s.stopFrame else s0.sendIn 0 s0.beacon
  let s1 := if s.stopStands ∨ !r.1 then r.2 else r.2.setF F.BSA_JOIN_STAT_JOIN_OPEN (b2n s0.joinOpen)
  { s1.updFleet (fun f => { f with
      beaconSent := f.beaconSent || r.1, cancelLeft := if ann then 0 else f.cancelLeft - 1 }) with
    swap := { s1.swap with framesLeft := s1.swap.framesLeft - b2n ann } }

/-- The RESYNC slot: the RESYNC frame to the member of the wake pair, unless it has left DESYNC (R345, R375). -/
def State.resyncCell (s : State) : State :=
  match s.fleet.resyncFor with
  | none => s
  | some m =>
    let gone (t : State) : State := t.updFleet (fun f => { f with resyncFor := none })
    if s.stopStands then gone s
    else if !(s.mbr m).desync then
      ((gone s).updMbr m (fun x => { x with queued := false })).updFleet (fun f => { f with
        desyncQ := f.desyncQ.filter (· ≠ m) })
    else
      let d := ((s.mbr m).drift * 256).floor
      let r := s.sendIn 0 { dst := m, ftype := 9, tsh := leBytes 5 s.asn, ack := true, tag := .resync,
                            enc := [byte s.beaconSeq, byte (b2n s.announcing + 2 * b2n s.steppedNow)] ++ leBytesI 2 d }
      if r.1 then r.2 else gone s

/-- The wake pair: the wake word of the head of the DESYNC queue in its first slot, on air on the wake channel from 250 µs to
4.75 ms after it begins; its DL_CTRL frames wait (R344). -/
def State.wakeSlot (s : State) (m : Nat) : State :=
  ((s.setF (F.BS_STAT_WAKE_TX 0) 1).updFleet (fun f => { f with resyncFor := some m })).updBand 0 (fun b => { b with
    air := b.air ++ [⟨none, wakeAir (wakeWord s.networkId m)⟩]
    tx := some (s.now + 26 * 248, s.now + 26 * 4750) })

/-- A transmit cell of a role while no stop stands. -/
def State.downCell (s : State) (b role : Nat) : State :=
  if role = Role.DL_FIX then
    match s.bsb.fix with
    | some f => (s.sendIn 1 f).2
    | none => s
  else
    let fix := if b = 1 then s.sendLateFix else (false, s)
    if fix.1 then fix.2
    else
      let q := fix.2.sendQueued b role
      if q.1 then q.2
      else if b = 0 ∧ s.downBand = 0 then (q.2.sendCorr 0).2 else q.2

/-- Does Gazebo's initial train key a band's pad beyond the start of the slot's frame, at TX_OFFSET (R37, R325)? A train that
ends before leaves the cell its STOP frame. -/
def State.trainHolds (s : State) (b : Nat) : Bool :=
  s.gzb.train.any (fun t => t.initial && (b = 0 || t.rfb) && s.now + 26 * 298 < t.frc + 26 * t.us)

/-- The transmit cell of the slot in progress on a band, if it has one; nothing while Gazebo's initial train keys the
pad. -/
def State.txCell (s : State) (b : Nat) : State :=
  if !s.bandRun b ∨ s.trainHolds b then s
  else match (s.cellsAt s.slotIdx b).find? (fun c => Role.tx c.role ∨ c.role = Role.RESYNC) with
    | none => s
    | some c =>
      let l := max s.slotL 1
      if c.role = Role.BEACON then s.beaconCell
      else if s.stopStands then ((if c.role = Role.RESYNC then s.resyncCell else s).sendIn b s.stopFrame).2
      else if c.role = Role.RESYNC then s.resyncCell
      else if b = 0 ∧ s.wakePair? = some s.slotIdx ∧ s.fleet.desyncQ ≠ [] then s.wakeSlot (s.fleet.desyncQ.headD 0)
      else if b = 0 ∧ s.wakePair?.any (fun x => (x + 1) % l = s.slotIdx) ∧ s.fleet.resyncFor.isSome then s
      else s.downCell b c.role

/-! ### Partner timing (R340) -/

/-- A member whose receive cell in this slot lies beyond the bound B is marked DESYNC. -/
def State.predictCells (s : State) : State :=
  let cs := (s.cellsAt s.slotIdx 0 ++ s.cellsAt s.slotIdx 1).filter (fun c => Role.rx c.role ∧ 1 ≤ c.owner ∧ c.owner ≤ 128 ∧
    s.bandRun c.band)
  cs.foldl (fun t c =>
    let x := t.mbr c.owner
    if x.valid ∧ ¬ x.desync ∧ 200 < t.bound x t.tNom then t.markDesync c.owner else t) s

/-! ### The slot start -/

/-- The JOIN slot reloaded into entry 0x00 at the first slot start after a key update changed it (R480). -/
def State.joinReload (s : State) : State :=
  if s.org.joinKey ∧ ¬ s.keysWithheld then s.loadJoinKey.updOrg (fun o => { o with joinKey := false }) else s

/-- The frames assembled for the DL_FIX cell of the slot are gone with it. -/
def State.fixGone (s : State) : State := s.updBand 1 (fun b => { b with fix := none })

/-- The cells of the slot. -/
def State.runCells (s : State) : State :=
  let s1 := s.predictCells
  let s2 := if s.getF F.SYS_SWAP_STAT_STATE = 2 then (s1.fleet.mbrs.map (·.id)).foldl State.queueOwn s1 else s1
  ((s2.txCell 0).txCell 1).fixGone.segDrain

/-- A slot start of the cell map followed: SLOT_RUN is set and a plan in force. A TB0 step that waits is applied at a
boundary in place of the boundary slot's cells (R232). -/
def State.followSlot (s : State) : State :=
  let s1 := s.announceEnd.joinReload
  let s2 := if s1.slotIdx = 0 then s1.boundaryActs else s1
  let s3 := ((s2.filters 0).filters 1).raiseTask 1
  if s3.slotIdx = 0 ∧ s3.sdl.stepBy.isSome then s3 else s3.runCells

/-- The pulses of a slot start to Bandstand A and B (R121, R231). -/
def State.slotPulses (s : State) : State := (s.xingPulse 3).xingPulse 4

/-- A slot start: TB0 stands in a new slot (R22, R231). Without D2 there is no slot generator. A swap takes effect at its
boundary whether or not the cell map is followed (R36, R153). -/
def execSlotStart (s : State) : Host.Outcome State Fault Refusal :=
  .next (
    let a := asnOf (s.tbNs 0)
    if !s.domOn 2 ∨ s.sdl.lastSlot = some a then s
    else
      let run : Bool := s.flag F.SDL_STAT_SLOT_RUN && s.planActive
      let s1 := (if run then s.slotEnd else s).setAsn a
      if run then s1.slotPulses.followSlot
      else if s.planActive ∧ s.domOn 3 ∧ s1.slotIdx = 0 then s1.swapBoundary else s1)

end Sys2Proof.Machine
end

