-- ==== Sys2Proof/Machine/Dispatch.lean ====
section
/-! DEFINITION. The dispatch of commands: one arm per constructor of `Instr`, each one direct call of its meaning. -/
namespace Sys2Proof.Machine

def exec (i : Instr) (s : State) : Host.Outcome State Fault Refusal :=
  match i with
  | .registerWrite m addr v hw => Sys2Proof.Machine.execRegisterWrite m addr v hw s
  | .rcFieldRead m addr ev => Sys2Proof.Machine.execRcFieldRead m addr ev s
  | .absentUnitAccess m addr w => Sys2Proof.Machine.execAbsentUnitAccess m addr w s
  | .mainsApply stays => Sys2Proof.Machine.execMainsApply stays s
  | .startupBegin p => Sys2Proof.Machine.execStartupBegin p s
  | .supplyLossDeclare => Sys2Proof.Machine.execSupplyLossDeclare s
  | .deferredShed => Sys2Proof.Machine.execDeferredShed s
  | .supplyReturn => Sys2Proof.Machine.execSupplyReturn s
  | .holdupExpiry => Sys2Proof.Machine.execHoldupExpiry s
  | .coreRailFault d => Sys2Proof.Machine.execCoreRailFault d s
  | .pwrReqWatch m key => Sys2Proof.Machine.execPwrReqWatch m key s
  | .pwrReqDeep m key => Sys2Proof.Machine.execPwrReqDeep m key s
  | .powerStateEntry => Sys2Proof.Machine.execPowerStateEntry s
  | .wakeEvent => Sys2Proof.Machine.execWakeEvent s
  | .domOnRequest m d => Sys2Proof.Machine.execDomOnRequest m d s
  | .domOffRequest m d => Sys2Proof.Machine.execDomOffRequest m d s
  | .domPwrUpDone d => Sys2Proof.Machine.execDomPwrUpDone d s
  | .domShutdownDone d => Sys2Proof.Machine.execDomShutdownDone d s
  | .domRailFault d => Sys2Proof.Machine.execDomRailFault d s
  | .domIdleTimeout d => Sys2Proof.Machine.execDomIdleTimeout d s
  | .domFaultClear m d => Sys2Proof.Machine.execDomFaultClear m d s
  | .wakeFrcArm m hi => Sys2Proof.Machine.execWakeFrcArm m hi s
  | .frcCmpMatch => Sys2Proof.Machine.execFrcCmpMatch s
  | .frcLoRead m => Sys2Proof.Machine.execFrcLoRead m s
  | .gzbEdgeFrcLoRead m => Sys2Proof.Machine.execGzbEdgeFrcLoRead m s
  | .orgTamperFrcLoRead m => Sys2Proof.Machine.execOrgTamperFrcLoRead m s
  | .vbSnapFrcLoRead m k => Sys2Proof.Machine.execVbSnapFrcLoRead m k s
  | .tcxoFail => Sys2Proof.Machine.execTcxoFail s
  | .tcxoRestore => Sys2Proof.Machine.execTcxoRestore s
  | .xo32Fail => Sys2Proof.Machine.execXo32Fail s
  | .pllLockLoss p => Sys2Proof.Machine.execPllLockLoss p s
  | .pllRelock p => Sys2Proof.Machine.execPllRelock p s
  | .pllLossReset p => Sys2Proof.Machine.execPllLossReset p s
  | .resetPinAssert lowNs taken => Sys2Proof.Machine.execResetPinAssert lowNs taken s
  | .resetPinRelease => Sys2Proof.Machine.execResetPinRelease s
  | .swResetAll m key => Sys2Proof.Machine.execSwResetAll m key s
  | .swResetDomains m key doms => Sys2Proof.Machine.execSwResetDomains m key doms s
  | .resetHoldEnd src => Sys2Proof.Machine.execResetHoldEnd src s
  | .xingResync id dir => Sys2Proof.Machine.execXingResync id dir s
  | .pulseRoundtripDone id => Sys2Proof.Machine.execPulseRoundtripDone id s
  | .swapGo m len second => Sys2Proof.Machine.execSwapGo m len second s
  | .swapVerifyDone => Sys2Proof.Machine.execSwapVerifyDone s
  | .hspiSelectFall sel => Sys2Proof.Machine.execHspiSelectFall sel s
  | .hspiSelectRise sel midByte => Sys2Proof.Machine.execHspiSelectRise sel midByte s
  | .hspiRead addr nbytes => Sys2Proof.Machine.execHspiRead addr nbytes s
  | .hspiWrite addr data => Sys2Proof.Machine.execHspiWrite addr data s
  | .hspiStatus => Sys2Proof.Machine.execHspiStatus s
  | .hspiClear mask => Sys2Proof.Machine.execHspiClear mask s
  | .hspiUnknownCmd code => Sys2Proof.Machine.execHspiUnknownCmd code s
  | .hspiWriteComplete => Sys2Proof.Machine.execHspiWriteComplete s
  | .ethHostRead port src seq addr count => Sys2Proof.Machine.execEthHostRead port src seq addr count s
  | .ethHostWrite port src seq addr count data => Sys2Proof.Machine.execEthHostWrite port src seq addr count data s
  | .ethHostStatus port src seq => Sys2Proof.Machine.execEthHostStatus port src seq s
  | .ethFrameRx port dst etype fcsOk ptpMcast room req => Sys2Proof.Machine.execEthFrameRx port dst etype fcsOk ptpMcast room req s
  | .ethLinkUp port speed mdix full polInv pairMap => Sys2Proof.Machine.execEthLinkUp port speed mdix full polInv pairMap s
  | .ethLinkDown port => Sys2Proof.Machine.execEthLinkDown port s
  | .ethCtrlWrite m port v => Sys2Proof.Machine.execEthCtrlWrite m port v s
  | .ptpMessageRx port phase x r => Sys2Proof.Machine.execPtpMessageRx port phase x r s
  | .ptpMessageTx port phase x => Sys2Proof.Machine.execPtpMessageTx port phase x s
  | .mbxGo m c v => Sys2Proof.Machine.execMbxGo m c v s
  | .mbxTake m c v => Sys2Proof.Machine.execMbxTake m c v s
  | .mbxDataWrite m c k v => Sys2Proof.Machine.execMbxDataWrite m c k v s
  | .mbxHostReset m key => Sys2Proof.Machine.execMbxHostReset m key s
  | .mbxRepost c => Sys2Proof.Machine.execMbxRepost c s
  | .claimAcquire ms n => Sys2Proof.Machine.execClaimAcquire ms n s
  | .claimRelease m n => Sys2Proof.Machine.execClaimRelease m n s
  | .claimRenew m n => Sys2Proof.Machine.execClaimRenew m n s
  | .claimBadWrite m n v => Sys2Proof.Machine.execClaimBadWrite m n v s
  | .claimLeaseWrite m n v => Sys2Proof.Machine.execClaimLeaseWrite m n v s
  | .claimLeaseExpiry n => Sys2Proof.Machine.execClaimLeaseExpiry n s
  | .claimOwnerTrouble m => Sys2Proof.Machine.execClaimOwnerTrouble m s
  | .streamRead ms w => Sys2Proof.Machine.execStreamRead ms w s
  | .streamWrite m w v => Sys2Proof.Machine.execStreamWrite m w v s
  | .streamFlush m w => Sys2Proof.Machine.execStreamFlush m w s
  | .queuePushResume wid => Sys2Proof.Machine.execQueuePushResume wid s
  | .workItemSubmit g => Sys2Proof.Machine.execWorkItemSubmit g s
  | .dispatch lat => Sys2Proof.Machine.execDispatch lat s
  | .workItemComplete r => Sys2Proof.Machine.execWorkItemComplete r s
  | .wiDonePush g => Sys2Proof.Machine.execWiDonePush g s
  | .coreOverrun k => Sys2Proof.Machine.execCoreOverrun k s
  | .coreAccessFault k => Sys2Proof.Machine.execCoreAccessFault k s
  | .wdtDispatchTimeout => Sys2Proof.Machine.execWdtDispatchTimeout s
  | .evtSet m task flag => Sys2Proof.Machine.execEvtSet m task flag s
  | .evtClr m task flag setToo => Sys2Proof.Machine.execEvtClr m task flag setToo s
  | .taskMaskWrite m mask => Sys2Proof.Machine.execTaskMaskWrite m mask s
  | .nop wid => Sys2Proof.Machine.execNop wid s
  | .signal wid => Sys2Proof.Machine.execSignal wid s
  | .cancel g => Sys2Proof.Machine.execCancel g s
  | .sdlArm wid => Sys2Proof.Machine.execSdlArm wid s
  | .sdlSteerRate wid => Sys2Proof.Machine.execSdlSteerRate wid s
  | .sdlSteerSlew wid => Sys2Proof.Machine.execSdlSteerSlew wid s
  | .sdlSteerStep wid => Sys2Proof.Machine.execSdlSteerStep wid s
  | .sdlSteerTod wid => Sys2Proof.Machine.execSdlSteerTod wid s
  | .tb0Second freq est func => Sys2Proof.Machine.execTb0Second freq est func s
  | .holdLimitExpiry => Sys2Proof.Machine.execHoldLimitExpiry s
  | .tb0StepApply => Sys2Proof.Machine.execTb0StepApply s
  | .ref10OkSet => Sys2Proof.Machine.execRef10OkSet s
  | .ref10Loss => Sys2Proof.Machine.execRef10Loss s
  | .slotStart => Sys2Proof.Machine.execSlotStart s
  | .tbNsRead m k => Sys2Proof.Machine.execTbNsRead m k s
  | .cmpArm m k n disarmToo => Sys2Proof.Machine.execCmpArm m k n disarmToo s
  | .cmpDisarm m k n => Sys2Proof.Machine.execCmpDisarm m k n s
  | .cmpFire k n => Sys2Proof.Machine.execCmpFire k n s
  | .convGo m => Sys2Proof.Machine.execConvGo m s
  | .ppsInEdge phase => Sys2Proof.Machine.execPpsInEdge phase s
  | .ppsInLoss => Sys2Proof.Machine.execPpsInLoss s
  | .snapInEdge phase => Sys2Proof.Machine.execSnapInEdge phase s
  | .gpioCaptureEdge pin phase => Sys2Proof.Machine.execGpioCaptureEdge pin phase s
  | .ppsOutPulse => Sys2Proof.Machine.execPpsOutPulse s
  | .ppsOutFall => Sys2Proof.Machine.execPpsOutFall s
  | .antBiasOpen a ma => Sys2Proof.Machine.execAntBiasOpen a ma s
  | .antBiasShort a ma => Sys2Proof.Machine.execAntBiasShort a ma s
  | .antBiasRetry a => Sys2Proof.Machine.execAntBiasRetry a s
  | .antSwitch => Sys2Proof.Machine.execAntSwitch s
  | .searchStart p sky => Sys2Proof.Machine.execSearchStart p sky s
  | .searchDone p ds => Sys2Proof.Machine.execSearchDone p ds s
  | .chPullInLock c => Sys2Proof.Machine.execChPullInLock c s
  | .chPullInTimeout c => Sys2Proof.Machine.execChPullInTimeout c s
  | .chPhaseLock c => Sys2Proof.Machine.execChPhaseLock c s
  | .chPhaseSlip c => Sys2Proof.Machine.execChPhaseSlip c s
  | .chSidePeak c => Sys2Proof.Machine.execChSidePeak c s
  | .chLost c => Sys2Proof.Machine.execChLost c s
  | .chReacqExpiry c => Sys2Proof.Machine.execChReacqExpiry c s
  | .floatChRelease c => Sys2Proof.Machine.execFloatChRelease c s
  | .baseEpochLatch tb => Sys2Proof.Machine.execBaseEpochLatch tb s
  | .baseRecordComplete obs => Sys2Proof.Machine.execBaseRecordComplete obs s
  | .timeSolution r => Sys2Proof.Machine.execTimeSolution r s
  | .noiseCheck c noise => Sys2Proof.Machine.execNoiseCheck c noise s
  | .bvSurveyStart wid => Sys2Proof.Machine.execBvSurveyStart wid s
  | .bvSurveySet wid => Sys2Proof.Machine.execBvSurveySet wid s
  | .bvSurveyAbort wid => Sys2Proof.Machine.execBvSurveyAbort wid s
  | .bvSurveySelectAnt wid => Sys2Proof.Machine.execBvSurveySelectAnt wid s
  | .bvSearch wid => Sys2Proof.Machine.execBvSearch wid s
  | .obsIntake => Sys2Proof.Machine.execObsIntake s
  | .laneTake => Sys2Proof.Machine.execLaneTake s
  | .fixDelivery l => Sys2Proof.Machine.execFixDelivery l s
  | .laneDeadlineAbandon l => Sys2Proof.Machine.execLaneDeadlineAbandon l s
  | .laneFault l => Sys2Proof.Machine.execLaneFault l s
  | .slvRoverReset wid => Sys2Proof.Machine.execSlvRoverReset wid s
  | .slvRoverDisable wid => Sys2Proof.Machine.execSlvRoverDisable wid s
  | .slvRoverEnable wid => Sys2Proof.Machine.execSlvRoverEnable wid s
  | .slvRoverQuery wid => Sys2Proof.Machine.execSlvRoverQuery wid s
  | .rtcmBuild => Sys2Proof.Machine.execRtcmBuild s
  | .corrAgeExpiry => Sys2Proof.Machine.execCorrAgeExpiry s
  | .dlFixAssemble => Sys2Proof.Machine.execDlFixAssemble s
  | .stopTrainRepeat => Sys2Proof.Machine.execStopTrainRepeat s
  | .sackSend b => Sys2Proof.Machine.execSackSend b s
  | .frameRxBad b c phr psdu => Sys2Proof.Machine.execFrameRxBad b c phr psdu s
  | .joinReqRx c psdu e => Sys2Proof.Machine.execJoinReqRx c psdu e s
  | .joinKeyDone m => Sys2Proof.Machine.execJoinKeyDone m s
  | .ctrlRx b c psdu e => Sys2Proof.Machine.execCtrlRx b c psdu e s
  | .obsRx b c psdu e pop => Sys2Proof.Machine.execObsRx b c psdu e pop s
  | .stopReqRx b c psdu e => Sys2Proof.Machine.execStopReqRx b c psdu e s
  | .leaveRx b c psdu e => Sys2Proof.Machine.execLeaveRx b c psdu e s
  | .statusRx b c psdu e => Sys2Proof.Machine.execStatusRx b c psdu e s
  | .floodFrameRx b c psdu e => Sys2Proof.Machine.execFloodFrameRx b c psdu e s
  | .iackRx b psdu t => Sys2Proof.Machine.execIackRx b psdu t s
  | .iackTimeout b => Sys2Proof.Machine.execIackTimeout b s
  | .wurWordRx w => Sys2Proof.Machine.execWurWordRx w s
  | .bsSend wid => Sys2Proof.Machine.execBsSend wid s
  | .bsMemberExpel wid => Sys2Proof.Machine.execBsMemberExpel wid s
  | .bsMemberResync wid => Sys2Proof.Machine.execBsMemberResync wid s
  | .planRequestIntake => Sys2Proof.Machine.execPlanRequestIntake s
  | .plannerTake => Sys2Proof.Machine.execPlannerTake s
  | .planDone tabs => Sys2Proof.Machine.execPlanDone tabs s
  | .planExhausted => Sys2Proof.Machine.execPlanExhausted s
  | .posStaleExpiry m => Sys2Proof.Machine.execPosStaleExpiry m s
  | .rtTick => Sys2Proof.Machine.execRtTick s
  | .taskDwellExpiry m => Sys2Proof.Machine.execTaskDwellExpiry m s
  | .pglPlan wid pop => Sys2Proof.Machine.execPglPlan wid pop s
  | .pglAssign wid pop => Sys2Proof.Machine.execPglAssign wid pop s
  | .pglReleaseFuture wid => Sys2Proof.Machine.execPglReleaseFuture wid s
  | .pglReleaseAll wid => Sys2Proof.Machine.execPglReleaseAll wid s
  | .stopInputEdge k => Sys2Proof.Machine.execStopInputEdge k s
  | .gzbStopWrite m v => Sys2Proof.Machine.execGzbStopWrite m v s
  | .gzbInitExit => Sys2Proof.Machine.execGzbInitExit s
  | .stopKeyLoad next => Sys2Proof.Machine.execStopKeyLoad next s
  | .testPulse n => Sys2Proof.Machine.execTestPulse n s
  | .fallJudgement n => Sys2Proof.Machine.execFallJudgement n s
  | .riseJudgement n => Sys2Proof.Machine.execRiseJudgement n s
  | .tpShortDetect n => Sys2Proof.Machine.execTpShortDetect n s
  | .loopReverseDetect n => Sys2Proof.Machine.execLoopReverseDetect n s
  | .monitorSample a b => Sys2Proof.Machine.execMonitorSample a b s
  | .chMismatchDetect => Sys2Proof.Machine.execChMismatchDetect s
  | .discrepancyDetect => Sys2Proof.Machine.execDiscrepancyDetect s
  | .rfSelfTest power off => Sys2Proof.Machine.execRfSelfTest power off s
  | .coilShortDetect k => Sys2Proof.Machine.execCoilShortDetect k s
  | .coilOpenDetect k => Sys2Proof.Machine.execCoilOpenDetect k s
  | .gzbFaultClear m mask absent => Sys2Proof.Machine.execGzbFaultClear m mask absent s
  | .gzbClear wid => Sys2Proof.Machine.execGzbClear wid s
  | .psWriteComplete ok => Sys2Proof.Machine.execPsWriteComplete ok s
  | .wktEnable m n => Sys2Proof.Machine.execWktEnable m n s
  | .wktCheckDone n sc ia ib vm => Sys2Proof.Machine.execWktCheckDone n sc ia ib vm s
  | .wktDisable m n => Sys2Proof.Machine.execWktDisable m n s
  | .wktZero m n => Sys2Proof.Machine.execWktZero m n s
  | .wktMoveTable wid => Sys2Proof.Machine.execWktMoveTable wid s
  | .wktMoveTarget wid => Sys2Proof.Machine.execWktMoveTarget wid s
  | .wktHomeStall wid => Sys2Proof.Machine.execWktHomeStall wid s
  | .wktHomeSwitch wid => Sys2Proof.Machine.execWktHomeSwitch wid s
  | .wktTableStart n => Sys2Proof.Machine.execWktTableStart n s
  | .wktTableEnd n => Sys2Proof.Machine.execWktTableEnd n s
  | .wktRampEnd n => Sys2Proof.Machine.execWktRampEnd n s
  | .wktHomeFound n level => Sys2Proof.Machine.execWktHomeFound n level s
  | .wktHomeNotFound n => Sys2Proof.Machine.execWktHomeNotFound n s
  | .wktStall n => Sys2Proof.Machine.execWktStall n s
  | .wktOvercurrent n b cur vm => Sys2Proof.Machine.execWktOvercurrent n b cur vm s
  | .wktPhaseGndShort n b v vm => Sys2Proof.Machine.execWktPhaseGndShort n b v vm s
  | .wktVmLow n vm => Sys2Proof.Machine.execWktVmLow n vm s
  | .wktVmOver n vm => Sys2Proof.Machine.execWktVmOver n vm s
  | .wktVmHigh n vm => Sys2Proof.Machine.execWktVmHigh n vm s
  | .wktStandstillExpiry n => Sys2Proof.Machine.execWktStandstillExpiry n s
  | .wktReduceDone n => Sys2Proof.Machine.execWktReduceDone n s
  | .wktDecelWrite m n e v => Sys2Proof.Machine.execWktDecelWrite m n e v s
  | .wktLimitWrite m n off v => Sys2Proof.Machine.execWktLimitWrite m n off v s
  | .wktFaultClear m n mask absent => Sys2Proof.Machine.execWktFaultClear m n mask absent s
  | .orgKeyUpdate wid => Sys2Proof.Machine.execOrgKeyUpdate wid s
  | .orgDeriveNode wid => Sys2Proof.Machine.execOrgDeriveNode wid s
  | .orgDeriveInvalidate wid => Sys2Proof.Machine.execOrgDeriveInvalidate wid s
  | .orgDeriveRoll wid => Sys2Proof.Machine.execOrgDeriveRoll wid s
  | .orgDeriveAttest wid => Sys2Proof.Machine.execOrgDeriveAttest wid s
  | .orgDeriveHmac wid => Sys2Proof.Machine.execOrgDeriveHmac wid s
  | .tamperSense now => Sys2Proof.Machine.execTamperSense now s
  | .tamperKeyRedraw => Sys2Proof.Machine.execTamperKeyRedraw s
  | .tempMeasure t upd => Sys2Proof.Machine.execTempMeasure t upd s
  | .svcRxInvert => Sys2Proof.Machine.execSvcRxInvert s
  | .svcPresentAssert => Sys2Proof.Machine.execSvcPresentAssert s
  | .svcPresentRelease => Sys2Proof.Machine.execSvcPresentRelease s
  | .svcPacketBad => Sys2Proof.Machine.execSvcPacketBad s
  | .svcHello seq payload => Sys2Proof.Machine.execSvcHello seq payload s
  | .svcSetRate seq payload => Sys2Proof.Machine.execSvcSetRate seq payload s
  | .svcRateTimeout => Sys2Proof.Machine.execSvcRateTimeout s
  | .svcRead seq payload => Sys2Proof.Machine.execSvcRead seq payload s
  | .svcWrite seq payload => Sys2Proof.Machine.execSvcWrite seq payload s
  | .svcSubmit seq payload => Sys2Proof.Machine.execSvcSubmit seq payload s
  | .svcReset seq payload => Sys2Proof.Machine.execSvcReset seq payload s
  | .updBegin r => Sys2Proof.Machine.execUpdBegin r s
  | .updData r => Sys2Proof.Machine.execUpdData r s
  | .updEnd r => Sys2Proof.Machine.execUpdEnd r s
  | .updActivate r => Sys2Proof.Machine.execUpdActivate r s
  | .updAbort r => Sys2Proof.Machine.execUpdAbort r s
  | .updConfirm r => Sys2Proof.Machine.execUpdConfirm r s
  | .updLockTimeout => Sys2Proof.Machine.execUpdLockTimeout s
  | .svnFuseBurn => Sys2Proof.Machine.execSvnFuseBurn s
  | .snapTrigger src tb idx m => Sys2Proof.Machine.execSnapTrigger src tb idx m s
  | .vbSnapWrite m v => Sys2Proof.Machine.execVbSnapWrite m v s
  | .vbRecordAssemble k => Sys2Proof.Machine.execVbRecordAssemble k s
  | .vbRecordProgrammed => Sys2Proof.Machine.execVbRecordProgrammed s
  | .vbTokenRefill c => Sys2Proof.Machine.execVbTokenRefill c s
  | .vbRead wid => Sys2Proof.Machine.execVbRead wid s
  | .vbMark wid => Sys2Proof.Machine.execVbMark wid s
  | .testRun wid => Sys2Proof.Machine.execTestRun wid s
  | .testDurationExpiry flips value => Sys2Proof.Machine.execTestDurationExpiry flips value s
  | .loopReadsClosed k => Sys2Proof.Machine.execLoopReadsClosed k s
  | .stopTrainEnd => Sys2Proof.Machine.execStopTrainEnd s
  | .antBiasNormal a ma => Sys2Proof.Machine.execAntBiasNormal a ma s
  | .cmpPulseEnd gpio => Sys2Proof.Machine.execCmpPulseEnd gpio s
  | .tbSlewDone => Sys2Proof.Machine.execTbSlewDone s
  | .wktVmHighEnd n vm => Sys2Proof.Machine.execWktVmHighEnd n vm s
  | .wktVmReversed n vm => Sys2Proof.Machine.execWktVmReversed n vm s

end Sys2Proof.Machine
end

