-- ==== Sys2Proof/Machine/Idle.lean ====
section
/-! DEFINITION. What a step does with no command waiting: one tick of LCLK: FRC counts (spec/03 R110, R113,
R115), the radio pads take their times (spec/02 R71) and Wicket's choppers run (spec/14 R449–R451, R454). -/
namespace Sys2Proof.Machine

/-- One tick of LCLK while FRC runs: one count at 26 MHz; with FRC_DEGRADED one period of the 32.768 kHz oscillator, which
is 793 + 29952 / 65536 counts (R113, log entry 40). -/
def State.frcTick (s : State) : State :=
  if s.degraded then
    let f := s.power.frcFrac + 29952
    { s with frc := s.frc + BitVec.ofNat 64 (793 + f / 65536), power := { s.power with frcFrac := f % 65536 } }
  else { s with frc := s.frc + 1 }

/-- PA_EN_x and LNA_EN_x follow a scheduled transmission: PA_EN_x high, and LNA_EN_x low, between its two FRCs, on a band
whose EXT_PA bit the plan sets (R71, R145); Gazebo's trains keep the pad (R72). -/
def State.padStep (s : State) (b : Nat) : State :=
  match (s.band b).tx with
  | none => s
  | some (from_, to_) =>
    let put (t : State) (pa lna : Bool) : State :=
      if t.blanked b then t
      else { t with pads := if b = 0 then { t.pads with paEnA := pa, lnaEnA := lna } else { t.pads with paEnB := pa, lnaEnB := lna } }
    if to_ ≤ s.now then put (s.updBand b (fun x => { x with tx := none })) false (s.lnaRest b)
    else if from_ ≤ s.now ∧ s.extPa b then put s true false else s

/-- The step of an empty queue: FRC counts, and what it times on the radio pads and on Wicket's axes follows, unless the
module is Off or POWER_ON is held. -/
def State.idle (s : State) : State :=
  if s.power.off || s.power.porHeld then s
  else
    let t := (s.frcTick.padStep 0).padStep 1
    if t.wktOn 0 then t.each [0, 1, 2, 3] State.axTick else t

end Sys2Proof.Machine
end

