-- ==== Sys2Proof/Safety.lean ====
section
/-! DEFINITION. What a sound state is, in the terms the statements use: the register file and the byte memories in their
canonical forms. -/
namespace Sys2Proof.Machine

/-- A byte memory in canonical form: addresses strictly rising, no listed byte equal to 0, what an unlisted address reads
as. -/
def Memory.wf (m : List (Nat × Byte)) : Bool := Sparse.wf (fun _ => byte 0) m

/-- A sound state: the register file, the staging buffer and the bytes of an update session in canonical form. -/
def State.Sound (s : State) : Prop :=
  Sparse.wf resetOf s.regs = true ∧ Memory.wf s.plan.staging = true ∧ Memory.wf s.upd.bytes = true

/-- What no command takes back between `o` and `s`: the part and its stepping, the commands still waiting, FRC but for a
restart from Off (R115), the count of the free values drawn, the blown fuses (R517, R491) and the revoked signers. -/
def State.Since (s o : State) : Prop :=
  s.part = o.part ∧ s.siStep = o.siStep ∧ s.pending = o.pending ∧ (s.frc = o.frc ∨ s.frc = 0) ∧ o.freeCtr ≤ s.freeCtr ∧
    o.flash.svnFuses ≤ s.flash.svnFuses ∧ o.flash.wipeFuses ≤ s.flash.wipeFuses ∧ s.flash.revoked = o.flash.revoked

/-- Two fields share no bit. -/
def Fld.apart (f g : Fld) : Prop := g.addr ≠ f.addr ∨ g.lo + g.width ≤ f.lo ∨ f.lo + f.width ≤ g.lo

/-- Every field that shares no bit with those of a list reads in `t` as in `s`: the frame of a command that writes those
fields. -/
def OnlyFields (s t : State) (fs : List Fld) : Prop := ∀ g : Fld, (∀ f ∈ fs, f.apart g) → t.getF g = s.getF g

/-- A whole register as a field. -/
def regFld (a : Nat) : Fld := ⟨a, 0, 32⟩

end Sys2Proof.Machine
end

