-- ==== Sys2Proof/Certificates/Slice0/Obligations.lean ====
section
/-! DEFINITION. The statements for the provers. Where one speaks of a next state `t`, an equation `t = { s with … := t.… }`
says which parts of the state alone may differ from `s`, and `OnlyFields s t fs` which register fields alone may. -/

open Sys2Proof Sys2Proof.Machine


/-! ### The queue and the clock -/

/-- The command at the front of the queue runs on the state with the queue's rest. -/
def Obligations.StepRunsTheFrontCommand : Prop :=
  ∀ (c : Instr) (q : List Instr) (s : State), s.pending = c :: q → step s = exec c { s with pending := q }

/-- With no command waiting a step is one tick of LCLK (log entry 40): FRC rises by one, or by 793 + 29 952/65 536 with the
fraction carried while FRC_DEGRADED stands; PA_EN and LNA_EN of a band follow a transmission it has scheduled (R71); then
each axis of Wicket, where it runs, takes its tick; nothing else changes. The module Off or held in POWER_ON keeps all. -/
def Obligations.IdleStepTicksFrc : Prop :=
  ∀ s : State, s.pending = [] → ∃ t, (s.powered = false → step s = .next s ∧ t = s) ∧
    (s.powered = true → step s = .next (if t.wktOn 0 then t.each [0, 1, 2, 3] State.axTick else t)) ∧
    t = { s with
      frc := t.frc, power := { s.power with frcFrac := t.power.frcFrac }, pads := t.pads, bsa := t.bsa, bsb := t.bsb } ∧
    (s.powered = true → s.degraded = false → t.frc = s.frc + 1 ∧ t.power.frcFrac = s.power.frcFrac) ∧
    (s.powered = true → s.degraded = true →
      t.frc = s.frc + BitVec.ofNat 64 (793 + (s.power.frcFrac + 29952) / 65536) ∧
        t.power.frcFrac = (s.power.frcFrac + 29952) % 65536) ∧
    (s.bsa.tx = none → s.bsb.tx = none → t.pads = s.pads ∧ t.bsa = s.bsa ∧ t.bsb = s.bsb) ∧
    (∀ f u, s.powered = true → s.bsa.tx = some (f, u) → s.bsb.tx = none → s.blanked 0 = false →
      (u ≤ t.now → t.bsa.tx = none ∧ t.pads.paEnA = false ∧ t.pads.lnaEnA = s.lnaRest 0) ∧
      (f ≤ t.now → t.now < u → s.extPa 0 = true → t.pads.paEnA = true ∧ t.pads.lnaEnA = false))

/-- Every step keeps a sound state sound: the register file and the byte memories stay in canonical form. -/
def Obligations.EveryStepKeepsSound : Prop :=
  ∀ s t : State, s.Sound → step s = .next t → t.Sound

/-- What no command takes back, over every command and every state (R115, R491, R517): a step removes the front command
and adds none, keeps the part, changes FRC only by restarting it at 0, never unblows a fuse, never draws a free value
twice, revokes no signer. -/
def Obligations.NoCommandTakesBack : Prop :=
  ∀ (c : Instr) (q : List Instr) (s t : State), s.pending = c :: q → step s = .next t →
    t.pending = q ∧ t.part = s.part ∧ t.siStep = s.siStep ∧ (t.frc = s.frc ∨ t.frc = 0) ∧ s.freeCtr ≤ t.freeCtr ∧
    s.flash.svnFuses ≤ t.flash.svnFuses ∧ s.flash.wipeFuses ≤ t.flash.wipeFuses ∧ t.flash.revoked = s.flash.revoked

/-- The machine right after reset: sound, POWER_ON held, nothing waiting, FRC at 0, and the registers with a reset value
that is not 0 reading it. -/
def Obligations.ResetState : Prop :=
  State.reset.Sound ∧ State.reset.pending = [] ∧ State.reset.power.porHeld = true ∧ State.reset.frc = 0 ∧
    (∀ p ∈ resetTable, State.reset.rd p.1 = p.2) ∧
    (∀ a, 0x31200 ≤ a → a < 0x31280 → State.reset.rd a = 1000) ∧
    (∀ a, (a < 0x31200 ∨ 0x31280 ≤ a) → (∀ p ∈ resetTable, p.1 ≠ a) → State.reset.rd a = 0)

/-! ### Registers -/

/-- What becomes of a register write that does not reach its register (R3, R42, R163): a violation only shows as SEC_VIOL,
a void write does nothing, a write to a domain that is not ON is held for it. -/
def Obligations.RegisterWriteThatDoesNotReach : Prop :=
  ∀ (m : Master) (a : Nat) (v hw : Word) (s : State), a < 2 ^ 32 →
    (s.wrAcc m (accAddr a) = .viol → ∃ t, exec (.registerWrite m a v hw) s = .next t ∧
      t.getF F.SYS_IRQ_S_STAT_SEC_VIOL = 1 ∧ OnlyFields s t [F.SYS_IRQ_S_STAT_SEC_VIOL] ∧
      t = { s with regs := t.regs, hspi := { s.hspi with secViol := true } }) ∧
    (s.wrAcc m (accAddr a) = .none → exec (.registerWrite m a v hw) s = .next s) ∧
    (∀ d, s.wrAcc m (accAddr a) = .held d →
      exec (.registerWrite m a v hw) s = .next (s.domEvent d (.regWrite m (accAddr a) (BitVec.ofNat 64 v.toNat))))

/-- Is what a write does to the register at `b` more than its own bits? Each of these has commands of its own. -/
def ownEffect (b : Nat) : Bool :=
  [R.SYS_SWAP_CTRL, R.LODGE_PWR_REQ, R.LODGE_DOM_ON, R.LODGE_DOM_OFF, R.LODGE_DOM_FLAGS, R.LODGE_WAKE_FRC_HI,
    R.LODGE_RST_REQ, R.LODGE_XING_STAT, R.GZB_STOP, R.GZB_FAULT, R.MBX_HRST, R.ARB_EVT_SET, R.ARB_EVT_CLR,
    R.ARB_TASK_MASK, R.SDL_CONV_GO, R.VB_CTRL, R.ETH_Pn_CTRL 0, R.ETH_Pn_CTRL 1, R.UPD_CTRL].contains b ||
  (0x30000 ≤ b && b < 0x31000 && b % 0x80 ≤ 0x40) || (0x31000 ≤ b && b < 0x31080) || (0x31200 ≤ b && b < 0x31280) ||
  (0x51000 ≤ b && b < 0x52000) || (0xB0100 ≤ b && b < 0xB0200) || (0x1000000 ≤ b && b < 0x1100000) || inStaging b

/-- A write that reaches a register without an effect of its own: a writable bit takes the value, a W1C bit written 1
clears unless hardware sets it in that cycle (R13), every other bit and every other register stays. -/
def Obligations.RegisterWriteChangesItsBits : Prop :=
  ∀ (m : Master) (a : Nat) (v hw : Word) (s : State) (r : RegRow), a < 2 ^ 32 → s.wrAcc m (accAddr a) = .ok →
    ownEffect (accAddr a) = false → regRow (accAddr a) = some r →
    ∃ t, exec (.registerWrite m a v hw) s = .next t ∧
      (∀ i, i < 32 → (t.rd (homeAddr r m (accAddr a))).getLsbD i =
        ((r.rw.testBit i && v.getLsbD i) || (r.w1c.testBit i && hw.getLsbD i) ||
          ((s.rd (homeAddr r m (accAddr a))).getLsbD i && !r.rw.testBit i && !(v.getLsbD i && r.w1c.testBit i)))) ∧
      OnlyFields s t [regFld (homeAddr r m (accAddr a))] ∧ t = { s with regs := t.regs }

/-- A read of a register: the value stands on the bus, its RC fields clear but for what the same cycle's events leave
(R14), and nothing else changes. Reads that latch or act are left to their own statements. -/
def Obligations.RegisterReadReturnsAndClears : Prop :=
  ∀ (m : Master) (a : Nat) (ev : Word) (s : State) (r : RegRow), a < 2 ^ 32 → s.rdAcc m (accAddr a) = .ok →
    accAddr a / 0x10000 ∈ [0, 2, 6, 7, 8, 9, 10, 11] → accAddr a ≠ R.GZB_EDGE_FRC_LO → regRow (accAddr a) = some r →
    ∃ t, exec (.rcFieldRead m a ev) s = .next t ∧ t.bus = [(s.regValue m (accAddr a)).setWidth 64] ∧
      (∀ i, i < 32 → (t.rd (homeAddr r m (accAddr a))).getLsbD i =
        (((s.rd (homeAddr r m (accAddr a))).getLsbD i && !r.rc.testBit i) || (ev.getLsbD i && r.rc.testBit i))) ∧
      OnlyFields s t [regFld (homeAddr r m (accAddr a))] ∧ t = { s with regs := t.regs, bus := t.bus }

/-- Accesses no register answers: in the block of an absent unit (R3) a write is ignored and a read returns 0; one whose
address the 32-bit space has no place for stops (log entry 37), from every master and host port. -/
def Obligations.AccessesWithoutRegister : Prop :=
  (∀ (m : Master) (a : Nat) (s : State), a < 2 ^ 32 → s.blockAbsent (a / 0x10000) = true →
     (∀ v, exec (.absentUnitAccess m a (some v)) s = .next s) ∧
     exec (.absentUnitAccess m a none) s = .next { s with bus := [0] }) ∧
  (∀ (m : Master) (a : Nat) (v hw : Word) (w : Option Word) (n : Nat) (data : Bytes) (s : State), 2 ^ 32 ≤ a →
     exec (.registerWrite m a v hw) s = .fault .unmappedAddress ∧ exec (.rcFieldRead m a hw) s = .fault .unmappedAddress ∧
     exec (.absentUnitAccess m a w) s = .fault .unmappedAddress ∧ exec (.hspiRead a n) s = .fault .unmappedAddress ∧
     exec (.hspiWrite a data) s = .fault .unmappedAddress)

/-- Command `c` puts the low half of `v` on the bus and latches its high half in the register after `lo`; nothing else
changes. -/
def LatchesHigh (c : Instr) (s : State) (lo : Nat) (v : DWord) : Prop :=
  ∃ t, exec c s = .next t ∧ t.bus = [v &&& 0xFFFFFFFF] ∧ (t.rd (lo + 4)).toNat = v.toNat / 2 ^ 32 ∧
    OnlyFields s t [regFld (lo + 4)] ∧ t = { s with regs := t.regs, bus := t.bus }

/-- A read of the low part of a time is a read of one sample (R18, R115, R223, R425, R523): of FRC, or an FRC value kept, the
low half latches the high half beside it; of a time base, the nanoseconds stand on the bus and the seconds and FRC of the same
instant in the reading master's own registers. -/
def Obligations.ReadsOfOneSample : Prop :=
  (∀ (m : Master) (s : State),
     (s.rdAcc m R.LODGE_FRC_LO = .ok → LatchesHigh (.frcLoRead m) s R.LODGE_FRC_LO s.frc) ∧
     (s.rdAcc m R.GZB_EDGE_FRC_LO = .ok → LatchesHigh (.gzbEdgeFrcLoRead m) s R.GZB_EDGE_FRC_LO s.gzb.edgeFrc) ∧
     (m.secure = true → s.rdAcc m R.ORG_TAMPER_FRC_LO = .ok →
       LatchesHigh (.orgTamperFrcLoRead m) s R.ORG_TAMPER_FRC_LO (s.org.tamperFrc.getD 0)) ∧
     (∀ k, k < 2 → s.rdAcc m (R.VB_SNAP0_FRC_LO + 8 * k) = .ok →
       LatchesHigh (.vbSnapFrcLoRead m k) s (R.VB_SNAP0_FRC_LO + 8 * k) (s.vb.banks.getD k {}).frc)) ∧
  (∀ (m : Master) (k : Nat) (s : State), k < 4 → s.rdAcc m (R.SDL_TBk_NS k) = .ok →
     ∃ t, exec (.tbNsRead m k) s = .next t ∧ t.bus = [BitVec.ofNat 64 (s.tbNs k % 1000000000)] ∧
       (t.rd (bankAddr m (R.SDL_TBk_SEC_LO k))).toNat + 2 ^ 32 * (t.rd (bankAddr m (R.SDL_TBk_SEC_HI k))).toNat =
         s.tbNs k / 1000000000 % 2 ^ 48 ∧
       (t.rd (bankAddr m (R.SDL_TBk_SMP_FRC_LO k))).toNat + 2 ^ 32 * (t.rd (bankAddr m (R.SDL_TBk_SMP_FRC_HI k))).toNat =
         s.frc.toNat ∧
       OnlyFields s t [regFld (bankAddr m (R.SDL_TBk_SEC_LO k)), regFld (bankAddr m (R.SDL_TBk_SEC_HI k)),
         regFld (bankAddr m (R.SDL_TBk_SMP_FRC_LO k)), regFld (bankAddr m (R.SDL_TBk_SMP_FRC_HI k))] ∧
       t = { s with regs := t.regs, bus := t.bus })

/-- The commands that are writes of one register do what a write of that register does. -/
def Obligations.CommandsAreRegisterWrites : Prop :=
  ∀ (m : Master) (v : Word) (s : State),
    (∀ key, exec (.pwrReqWatch m key) s = exec (.registerWrite m R.LODGE_PWR_REQ (word (key % 65536 * 65536 + 3)) 0) s) ∧
    (∀ key, exec (.pwrReqDeep m key) s = exec (.registerWrite m R.LODGE_PWR_REQ (word (key % 65536 * 65536 + 4)) 0) s) ∧
    (∀ d, 2 ≤ d → d ≤ 13 → exec (.domOnRequest m d) s = exec (.registerWrite m R.LODGE_DOM_ON (word (2 ^ d)) 0) s) ∧
    (∀ d, 2 ≤ d → d ≤ 13 → exec (.domOffRequest m d) s = exec (.registerWrite m R.LODGE_DOM_OFF (word (2 ^ d)) 0) s) ∧
    exec (.wakeFrcArm m v) s = exec (.registerWrite m R.LODGE_WAKE_FRC_HI v 0) s ∧
    (∀ key, exec (.swResetAll m key) s = exec (.registerWrite m R.LODGE_RST_REQ (word (key % 65536 * 65536 + 1)) 0) s) ∧
    (∀ c, c < 32 → exec (.mbxGo m c v) s = exec (.registerWrite m (R.MBX_CTRL c) (v ||| 1) 0) s) ∧
    (∀ c, c < 32 → exec (.mbxTake m c v) s = exec (.registerWrite m (R.MBX_CTRL c) (v ||| 2) 0) s) ∧
    (∀ c k, c < 32 → k < 16 →
      exec (.mbxDataWrite m c k v) s = exec (.registerWrite m (0x30000 + 0x80 * c + 4 * k) v 0) s) ∧
    (∀ key, exec (.mbxHostReset m key) s = exec (.registerWrite m R.MBX_HRST (word (key % 65536 * 65536 + 1)) 0) s) ∧
    (∀ n, n < 32 → exec (.claimBadWrite m n v) s = exec (.registerWrite m (R.MBX_CLAIMn n) v 0) s) ∧
    (∀ n, n < 32 → exec (.claimLeaseWrite m n v) s = exec (.registerWrite m (R.MBX_CLAIM_LEASEn n) v 0) s) ∧
    (∀ p, p < 2 → exec (.ethCtrlWrite m p v) s = exec (.registerWrite m (R.ETH_Pn_CTRL p) v 0) s) ∧
    exec (.taskMaskWrite m v) s = exec (.registerWrite m R.ARB_TASK_MASK v 0) s ∧
    exec (.gzbStopWrite m v) s = exec (.registerWrite m R.GZB_STOP v 0) s

/-! ### Mains and power states -/

/-- The module as it leaves for Off (R64, R92, R125): every register at its reset value, FRC 0, the power state fresh, only
what flash and the fuses hold kept, POWER_ON held until start-up begins. -/
def ComesFromOff (s t : State) (mains : Bool) : Prop :=
  t.regs = [] ∧ t.frc = 0 ∧ t.flash = s.flash ∧ t.vb.book = s.vb.book ∧
    t.power = { off := !mains, porHeld := true, mains := mains } ∧
    t = { State.reset with
      part := s.part, siStep := s.siStep, pending := s.pending, freeCtr := s.freeCtr, flash := s.flash, ps := t.ps,
      vb := t.vb, power := t.power }

/-- Mains and start-up (R64, R65, R92, R115, R125): mains applied, the hold-up over or a rail of D0 or D1 low, the module
starts from Off; a supply loss raises the stop, queues its record and sheds D4, D5, D6, D7, D11 and D13 at once, the rest once
the records are written and no axis is in EMERGENCY; mains back drops what is left of the shedding, and a domain it shed for
which an item or an event waits powers up; start-up begins when POWER_ON is released with mains present. -/
def Obligations.MainsAndStartup : Prop :=
  (∀ s : State,
     (∀ stays, s.power.porHeld = true → ∃ t, exec (.mainsApply stays) s = .next t ∧ ComesFromOff s t stays) ∧
     (s.powered = true → s.power.mains = false → ∃ t, exec .holdupExpiry s = .next t ∧ ComesFromOff s t false) ∧
     (∀ d, d < 2 → s.power.off = false → ∃ t, exec (.coreRailFault d) s = .next t ∧ ComesFromOff s t s.power.mains)) ∧
  (∀ s : State, s.powered = true →
     (s.power.mains = true → exec .supplyLossDeclare s = .next (([4, 5, 6, 7, 11, 13].foldl State.shedDom
       (((((s.updPower (fun p => { p with mains := false })).setF F.GZB_CAUSE_NOW_SUPPLY_LOW 1).raiseCause
         Cause.SUPPLY_LOSS).vbTrigger 0x06 []))).updPower (fun p => { p with shed := some s.now }))) ∧
     (∀ f, s.power.shed = some f → s.vb.trigs.any (fun t => decide (t.frc.toNat ≤ f)) = false →
       s.vb.queue.any (fun r => decide (leAt r.bytes 16 8 ≤ f)) = false → s.anyEmergency = false →
       exec .deferredShed s =
         .next (([12, 10, 9, 8, 3, 2].foldl State.shedDom s).updPower (fun p => { p with shed := none }))) ∧
     (s.power.mains = false → ∃ t, exec .supplyReturn s = .next t ∧ t.power = { s.power with mains := true, shed := none } ∧
       t.getF F.GZB_CAUSE_NOW_SUPPLY_LOW = 0 ∧
       OnlyFields s t (F.GZB_CAUSE_NOW_SUPPLY_LOW :: allDoms.map F.dom) ∧
       (∀ d ∈ allDoms, d ≠ 2 → t.dom d = if s.dom d = DS.off ∧ s.domUnused d = false ∧
         (s.hasHeld d = true ∨ s.wanted d = true) ∧ s.isOn 2 = true then DS.pwrUp else s.dom d) ∧
       t = { s with regs := t.regs, power := t.power })) ∧
  (∀ (p : StartPads) (s : State),
     (s.power.off = false → s.power.porHeld = true → s.power.mains = true → exec (.startupBegin p) s = .next (s.startUp p)) ∧
     (s.power.porHeld = false ∨ s.power.mains = false → exec (.startupBegin p) s = .next s))

/-- What a write of a power-state request to LODGE_PWR_REQ does: a wrong KEY or a reason to refuse shows in REFUSE alone; an
accepted one leaves Run, or Watch for deep standby, for the entry to its target. -/
def SleepRequest (c : Instr) (s : State) (key target : Nat) : Prop :=
  (key % 65536 ≠ 0xC3A5 → ∃ t, exec c s = .next t ∧ t.getF F.LODGE_PWR_STATE_REFUSE = 5 ∧
    OnlyFields s t [F.LODGE_PWR_STATE_REFUSE] ∧ t = { s with regs := t.regs }) ∧
  (key % 65536 = 0xC3A5 → (s.getF F.LODGE_PWR_STATE_STATE = 2 ∨ (s.getF F.LODGE_PWR_STATE_STATE = 3 ∧ target = 4)) →
    (s.sleepRefusal ≠ 0 → ∃ t, exec c s = .next t ∧ t.getF F.LODGE_PWR_STATE_REFUSE = s.sleepRefusal ∧
      OnlyFields s t [F.LODGE_PWR_STATE_REFUSE] ∧ t = { s with regs := t.regs }) ∧
    (s.sleepRefusal = 0 → ∃ t, exec c s = .next t ∧ t.getF F.LODGE_PWR_STATE_STATE = 5 ∧
      t.power = { s.power with entering := target, quiet := false, wakeReq := 0 } ∧
      OnlyFields s t [F.LODGE_PWR_STATE_STATE] ∧ t = { s with regs := t.regs, power := t.power })) ∧
  (key % 65536 = 0xC3A5 → s.getF F.LODGE_PWR_STATE_STATE ≠ 2 →
    ¬ (s.getF F.LODGE_PWR_STATE_STATE = 3 ∧ target = 4) → exec c s = .next s)

/-- Power-state requests (R93, R94), for Watch from Run and for deep standby from Run or Watch: a wrong KEY or a reason to
refuse shows in REFUSE alone; an accepted request sets STATE to 5 for the entry to its target. A joined member refuses with 1
before any other reason (the order of the reasons is the model's choice, log entry 85), and nothing refuses only where no
member is joined, no message stands posted, no swap waits for its boundary, no update or key update runs, every axis is
DISABLED, no item is in flight and windows 5–9 are empty. -/
def Obligations.PowerStateRequests : Prop :=
  (∀ (m : Master) (key : Nat) (s : State), s.wrAcc m R.LODGE_PWR_REQ = .ok →
     SleepRequest (.pwrReqWatch m key) s key 3 ∧ SleepRequest (.pwrReqDeep m key) s key 4) ∧
  (∀ s : State,
     (s.anyJoined = true → s.sleepRefusal = 1) ∧
     (s.sleepRefusal = 0 ↔ s.anyJoined = false ∧ (∀ c, c < 32 → s.flag (F.MBX_CTRL_GO c) = false) ∧
       s.getF F.SYS_SWAP_STAT_STATE ≠ 3 ∧ s.updating = false ∧ s.anyAxis = false ∧ s.inFlight = 0 ∧
       (∀ w, 5 ≤ w → w ≤ 9 → (s.strm w).level = 0)))

/-- The cause bits of the wake events taken, with their pulse over the crossing into D2. -/
def wokenBy (s : State) (bits : List Nat) : State :=
  (bits.foldl (fun (u : State) b => u.setBit F.LODGE_WAKE_CAUSE_CAUSE b)
    { s with power := { s.power with wakeReq := 0 } }).xingPulse 2

/-- Entry and wake (R95, R96, R97, R99, R100, R111). Once every store and book write is done an entry shuts down D13 to D3
(D11 stays for Watch where the plan keeps it), then D2 once those are down, with which deep standby loses the compares, and D2
down reaches the state; until the writes are done it waits. The wake events enabled that fell together set their causes:
during the entry they bring the device back to Run, in Watch, deep standby or Wake they power D2, D3 and the sources' wake
sets; events that are not enabled are dropped. LODGE_WAKE_FRC arms with its high half and fires when FRC reaches it; a value
at or below FRC fires at once with FRC_LATE or, with DISCARD_IF_LATE, is missed with FRC_MISSED. -/
def Obligations.PowerStateEntryAndWake : Prop :=
  (∀ s : State, s.power.entering = 3 ∨ s.power.entering = 4 →
     (s.ps.running ≠ [] ∨ s.ps.waiting ≠ [] ∨ s.vb.queue ≠ [] ∨ s.vb.trigs ≠ [] → exec .powerStateEntry s = .next s) ∧
     (s.ps.running = [] → s.ps.waiting = [] → s.vb.queue = [] → s.vb.trigs = [] →
       (s.power.quiet = false → exec .powerStateEntry s = .next s.entryBegin) ∧
       (s.power.quiet = true → (∃ d ∈ s.entryDoms, s.domDown d = false) →
         exec .powerStateEntry s = .next (s.entryDoms.foldl State.domLeave s)) ∧
       (s.power.quiet = true → (∀ d ∈ s.entryDoms, s.domDown d = true) →
         (s.dom 2 = DS.on → exec .powerStateEntry s = .next
           ((if s.power.entering = 4 then s.setF F.SDL_STAT_COMP_LOST 1 else s).domLeave 2)) ∧
         (s.domDown 2 = true → ∃ t, exec .powerStateEntry s = .next t ∧ t.power.entering = 0 ∧ t.power.quiet = false ∧
           (s.power.entering = 3 → t.getF F.LODGE_PWR_STATE_STATE = 3 ∧ t.arb.cores = List.replicate 8 3 ∧
             OnlyFields s t [F.LODGE_PWR_STATE_STATE] ∧
             t = { s with regs := t.regs, power := t.power, arb := { s.arb with cores := t.arb.cores } }) ∧
           (s.power.entering = 4 → s.power.boot = true → t.getF F.LODGE_PWR_STATE_STATE = 4 ∧
             t.getF F.SDL_STAT_SLOT_RUN = 0 ∧ t.getF F.SDL_STAT_COMP_LOST = 1 ∧
             OnlyFields s t [F.LODGE_PWR_STATE_STATE, F.SDL_STAT_SLOT_RUN, F.SDL_STAT_COMP_LOST] ∧
             t = { s with regs := t.regs, power := t.power, pads := { s.pads with vaux := false, lnaEnA := false } }))))) ∧
  (∀ s : State, s.powered = true →
     let st := s.getF F.LODGE_PWR_STATE_STATE
     let bits := s.wakeBits (st = 4 || (st = 5 && s.power.entering = 4))
     (bits = [] → exec .wakeEvent s = .next { s with power := { s.power with wakeReq := 0 } }) ∧
     (bits ≠ [] → st = 5 → exec .wakeEvent s = .next (wokenBy s bits).entryStop ∧
       (wokenBy s bits).entryStop.getF F.LODGE_PWR_STATE_STATE = 2 ∧
       (wokenBy s bits).entryStop.power = { (wokenBy s bits).power with entering := 0, quiet := false }) ∧
     (bits ≠ [] → st = 3 ∨ st = 6 → exec .wakeEvent s = .next ((2 :: 3 :: (bits.map s.wakeSet).flatten).foldl State.domWake
         ((wokenBy s bits).setF F.LODGE_PWR_STATE_STATE 6))) ∧
     (bits ≠ [] → st = 4 → exec .wakeEvent s = .next ((2 :: 3 :: (bits.map s.wakeSet).flatten).foldl State.domWake
         (((wokenBy s bits).setF F.LODGE_PWR_STATE_STATE 6).updPower (fun p => { p with boot := true }))))) ∧
  (∀ (m : Master) (hi : Word) (s : State), s.wrAcc m R.LODGE_WAKE_FRC_HI = .ok →
     let w := s.getF F.LODGE_WAKE_FRC_LO_WAKE_FRC + 2 ^ 32 * (hi.toNat % 2 ^ 31)
     (s.now < w → ∃ t, exec (.wakeFrcArm m hi) s = .next t ∧ t.power = { s.power with wakeArmed := true } ∧
       t.getF F.LODGE_WAKE_FRC_HI_WAKE_FRC = hi.toNat ∧ OnlyFields s t [F.LODGE_WAKE_FRC_HI_WAKE_FRC] ∧
       t = { s with regs := t.regs, power := t.power }) ∧
     (w ≤ s.now → hi.toNat.testBit 31 = true → ∃ t, exec (.wakeFrcArm m hi) s = .next t ∧
       t.power = { s.power with wakeArmed := false } ∧ t.getF F.LODGE_WAKE_CAUSE_FRC_MISSED = 1 ∧
       OnlyFields s t [F.LODGE_WAKE_FRC_HI_WAKE_FRC, F.LODGE_WAKE_CAUSE_FRC_MISSED] ∧
       t = { s with regs := t.regs, power := t.power }) ∧
     (w ≤ s.now → hi.toNat.testBit 31 = false → ∃ t, exec (.wakeFrcArm m hi) s = .next t ∧
       t.power = { s.power with wakeReq := s.power.wakeReq ||| 8, wakeArmed := false } ∧
       t.getF F.LODGE_WAKE_CAUSE_FRC_LATE = 1 ∧ t.xings = (s.xingPulse 2).xings ∧
       OnlyFields s t [F.LODGE_WAKE_FRC_HI_WAKE_FRC, F.LODGE_WAKE_CAUSE_FRC_LATE] ∧
       t = { s with regs := t.regs, power := t.power, xings := t.xings })) ∧
  (∀ s : State,
     (s.power.wakeArmed = true → s.wakeFrc ≤ s.now → exec .frcCmpMatch s = .next
       (State.xingPulse { s with power := { s.power with wakeReq := s.power.wakeReq ||| 8, wakeArmed := false } } 2)) ∧
     (s.power.wakeArmed = false ∨ s.now < s.wakeFrc → exec .frcCmpMatch s = .next s))

/-! ### Domains and resets -/

/-- The domain table (R102, R103) for one of D2–D13 that is neither absent nor of a unit the plan does not expect. An ON request
powers an OFF domain up while D2 is ON, and takes back a SHUTDOWN or an OFF request that is
pending; an OFF request shuts an ON domain down with what it loses, waits for a power-up, takes back an ON request that is
pending, or is refused with its bit of REFUSED (R104); in the other states, and for a domain that stays OFF (R132, R143), a
request does nothing. -/
def Obligations.DomainRequests : Prop :=
  ∀ (m : Master) (d : Nat) (s : State), 2 ≤ d → d ≤ 13 → s.powered = true → s.domAbsent d = false →
    (s.wrAcc m R.LODGE_DOM_ON = .ok →
      (s.domUnused d = true → exec (.domOnRequest m d) s = .next s) ∧
      (s.domUnused d = false →
        (s.dom d = DS.off → (d = 2 ∨ s.dom 2 = DS.on) → ∃ t, exec (.domOnRequest m d) s = .next t ∧ t.dom d = DS.pwrUp ∧
          OnlyFields s t [F.dom d] ∧ t = { s with regs := t.regs }) ∧
        (s.dom d = DS.shutdown → ∃ t, exec (.domOnRequest m d) s = .next t ∧ t.dom d = DS.pendingOn ∧
          OnlyFields s t [F.dom d] ∧ t = { s with regs := t.regs }) ∧
        (s.dom d = DS.pendingOff → ∃ t, exec (.domOnRequest m d) s = .next t ∧ t.dom d = DS.pwrUp ∧
          OnlyFields s t [F.dom d] ∧ t = { s with regs := t.regs }) ∧
        (s.dom d ∈ [DS.pwrUp, DS.on, DS.pendingOn, DS.lockout] → exec (.domOnRequest m d) s = .next s))) ∧
    (s.wrAcc m R.LODGE_DOM_OFF = .ok →
      ((s.dom d = DS.on ∨ s.dom d = DS.pwrUp ∨ s.dom d = DS.pendingOn) → s.offRefused d = true →
        ∃ t, exec (.domOffRequest m d) s = .next t ∧ t.bit F.LODGE_DOM_FLAGS_REFUSED (d - 2) = true ∧
          OnlyFields s t [F.LODGE_DOM_FLAGS_REFUSED] ∧ t = { s with regs := t.regs }) ∧
      (s.dom d = DS.on → s.offRefused d = false →
        exec (.domOffRequest m d) s = .next ((s.loseDom d (s.power.entering = 3)).setDom d DS.shutdown)) ∧
      (s.dom d = DS.pwrUp → s.offRefused d = false → ∃ t, exec (.domOffRequest m d) s = .next t ∧
        t.dom d = DS.pendingOff ∧ OnlyFields s t [F.dom d] ∧ t = { s with regs := t.regs }) ∧
      (s.dom d = DS.pendingOn → s.offRefused d = false → s.hasHeld d = false → ∃ t, exec (.domOffRequest m d) s = .next t ∧
        t.dom d = DS.shutdown ∧ OnlyFields s t [F.dom d] ∧ t = { s with regs := t.regs }) ∧
      (s.dom d ∈ [DS.off, DS.shutdown, DS.pendingOff, DS.lockout] → exec (.domOffRequest m d) s = .next s))

/-- Domains in transition (R41, R42, R102, R108, R109, R203): SHUTDOWN ends in OFF, and powers up again where an event, an
item or the armed fleet needs the domain and it is not one that stays OFF (R132, R143); PENDING_ON ends in a new power-up;
PWR_UP and PENDING_OFF end in ON with its loads and what was held, once D2 runs and the PLL can lock (a PENDING_OFF domain
that something has come to hold on stays ON: the model's choice, log entry 85); a rail fault forces SHUTDOWN; D5 and D13 shut
down when their idle time since the last work is over; a cleared FAULT starts the count of rail faults afresh. -/
def Obligations.DomainTransitions : Prop :=
  ∀ (d : Nat) (s : State), 3 ≤ d → d ≤ 13 → s.powered = true → s.domAbsent d = false → s.dom 2 = DS.on →
    (s.dom d = DS.shutdown → s.power.domReset.contains d = false →
      (s.hasHeld d = false → s.heldOn d = false → s.wanted d = false →
        ∃ t, exec (.domShutdownDone d) s = .next t ∧ t.dom d = DS.off ∧ OnlyFields s t [F.dom d] ∧
          t = { s with regs := t.regs }) ∧
      (s.domUnused d = true → ∃ t, exec (.domShutdownDone d) s = .next t ∧ t.dom d = DS.off ∧ OnlyFields s t [F.dom d] ∧
          t = { s with regs := t.regs }) ∧
      (s.domUnused d = false → s.hasHeld d = true → ∃ t, exec (.domShutdownDone d) s = .next t ∧ t.dom d = DS.pwrUp ∧
        OnlyFields s t [F.dom d] ∧ t = { s with regs := t.regs })) ∧
    (s.dom d = DS.pendingOn → s.power.domReset.contains d = false → ∃ t, exec (.domShutdownDone d) s = .next t ∧
      t.dom d = DS.pwrUp ∧ OnlyFields s t [F.dom d] ∧ t = { s with regs := t.regs }) ∧
    (s.mayRise d = true → exec (.domPwrUpDone d) s = .next (s.domUp d)) ∧
    (s.mayRise d = false → exec (.domPwrUpDone d) s = .next s) ∧
    (s.domDown d = false → exec (.domRailFault d) s = .next (s.railFault d)) ∧
    (s.domDown d = true → exec (.domRailFault d) s = .next s) ∧
    (d = 5 ∨ d = 13 → s.domOn d = true → s.hasHeld d = false → s.wanted d = false → s.idleBusy d = false →
      s.since (s.idleFrom d) (1000 * s.idleMs d) = true →
      exec (.domIdleTimeout d) s = .next ((s.raiseTask 14).shutdown d)) ∧
    (s.domOn d = false ∨ s.idleBusy d = true ∨ s.since (s.idleFrom d) (1000 * s.idleMs d) = false →
      exec (.domIdleTimeout d) s = .next s) ∧
    (∀ m, s.wrAcc m R.LODGE_DOM_FLAGS = .ok → s.bit F.LODGE_DOM_FLAGS_FAULT (d - 2) = true → s.dom d ≠ DS.lockout →
      ∃ t, exec (.domFaultClear m d) s = .next t ∧ t.bit F.LODGE_DOM_FLAGS_FAULT (d - 2) = false ∧
        t.power.railFaults = s.power.railFaults.filter (·.1 ≠ d) ∧ OnlyFields s t [F.LODGE_DOM_FLAGS_FAULT] ∧
        t = { s with regs := t.regs, power := t.power })

/-- The sources of resets (R116, R117, R566): RESET_N low for 10 µs or more, or for 1 µs and taken, a LODGE_RST_REQ with its KEY
for all or for named domains; shorter pulses, a wrong KEY and a request that names no domain do nothing. Releases: a source holds its domains no more, and where
start-up is due D2 and D3 are powered. -/
def Obligations.ResetSources : Prop :=
  ∀ (m : Master) (s : State),
    (∀ low taken, low < 1000 → exec (.resetPinAssert low taken) s = .next s) ∧
    (∀ low taken, s.powered = true → s.power.resetPinLow = false → (10000 ≤ low ∨ (1000 ≤ low ∧ taken = true)) →
      exec (.resetPinAssert low taken) s =
        .next ((s.lodgeReset.resetDoms .resetPin allDoms).updPower (fun p => { p with resetPinLow := true }))) ∧
    (s.power.resetPinLow = true → ∃ t, t = { s with power := { s.power with
        resetPinLow := false, resetHolds := s.power.resetHolds.filter (·.src ≠ .resetPin) } } ∧
      exec .resetPinRelease s = .next (if s.power.boot then (t.domOnReq 2).domOnReq 3 else t)) ∧
    (∀ src, src ∈ [ResetSrc.swReset, .wdtSys, .tamper, .update] → s.power.resetHolds.any (·.src = src) = true →
      ∃ t, t = { s with power := { s.power with resetHolds := s.power.resetHolds.filter (·.src ≠ src) } } ∧
        exec (.resetHoldEnd src) s = .next (if s.power.boot then (t.domOnReq 2).domOnReq 3 else t)) ∧
    (∀ key, s.wrAcc m R.LODGE_RST_REQ = .ok →
      (key % 65536 ≠ 0xC3A5 → exec (.swResetAll m key) s = .next s ∧ ∀ doms, exec (.swResetDomains m key doms) s = .next s) ∧
      (key % 65536 = 0xC3A5 → s.powered = true →
        exec (.swResetAll m key) s = .next (s.lodgeReset.resetDoms .swReset allDoms) ∧
        ∀ doms, allDoms.filter doms.testBit ≠ [] →
          exec (.swResetDomains m key doms) s = .next (s.resetDoms .swReset (allDoms.filter doms.testBit))) ∧
      (∀ doms, allDoms.filter doms.testBit = [] → exec (.swResetDomains m key doms) s = .next s))

/-- Clock faults and crossings (R113, R114, R120, R123): a PLL that loses lock shows it; relocked, its domains take what was
held and leave a PLL_LOSS reset; else its domains are put in that reset; the TCXO's failure degrades FRC, unlocks every PLL
and raises CLOCK_FAIL, and its return undoes the first; an XCLK failure only sets XO32_FAIL. A PULSE crossing of ON domains is
busy, pending and then merges; a round trip delivers the pulse pending. A crossing that resynchronises shows what was not
delivered as DROPPED, with the queue of a FIFO crossing flushed; one that need not resynchronise does nothing. -/
def Obligations.ClocksAndCrossings : Prop :=
  (∀ s : State, s.powered = true →
     (∀ p f, pllLockBit p = some f → s.pllLocked p = true → ∃ t, exec (.pllLockLoss p) s = .next t ∧
       t.getF f.1 = 0 ∧ t.bit F.LODGE_CLK_STAT_UNLOCKED f.2 = true ∧
       OnlyFields s t [f.1, F.LODGE_CLK_STAT_UNLOCKED] ∧ t = { s with regs := t.regs }) ∧
     (s.pllLocked .bandA = true → exec (.pllLockLoss .bandA) s = .next { s with power := { s.power with lockA := false } }) ∧
     (s.pllLocked .bandB = true → exec (.pllLockLoss .bandB) s = .next { s with power := { s.power with lockB := false } }) ∧
     (∀ p, s.pllLocked p = false → s.flag F.LODGE_CLK_STAT_TCXO_OK = true → s.power.boot = false →
       exec (.pllRelock p) s = .next (((pllDoms p).filter s.isOn).foldl State.deliverAll ((s.setLock p true).updPower (fun x => {
         x with
         resetHolds := x.resetHolds.filter (fun h => !(h.src = .pllLoss && h.doms.all (fun d => (pllDoms p).contains d)))
         }))).raiseOwed) ∧
     (∀ p, s.pllLocked p = false → (pllDoms p).filter (fun d => !s.domDown d) ≠ [] → s.power.resetHolds = [] →
       exec (.pllLossReset p) s = .next (s.resetDoms .pllLoss ((pllDoms p).filter (fun d => !s.domDown d)))) ∧
     (∀ p, s.pllLocked p = true → exec (.pllLossReset p) s = .next s) ∧
     (s.flag F.LODGE_CLK_STAT_TCXO_OK = true → exec .tcxoFail s = .next ((allPlls.foldl State.pllLose
       (((((s.setF F.LODGE_CLK_STAT_TCXO_OK 0).setF F.LODGE_CLK_STAT_TCXO_FAIL 1).setF F.LODGE_CLK_STAT_FRC_DEGRADED 1).setF
         F.GZB_CAUSE_NOW_TCXO_LOST 1).enterHoldover.untrusted)).raiseCause Cause.CLOCK_FAIL)) ∧
     (s.flag F.LODGE_CLK_STAT_TCXO_OK = false → ∃ t, exec .tcxoRestore s = .next t ∧ t.getF F.LODGE_CLK_STAT_TCXO_OK = 1 ∧
       t.getF F.LODGE_CLK_STAT_FRC_DEGRADED = 0 ∧ t.getF F.GZB_CAUSE_NOW_TCXO_LOST = 0 ∧
       OnlyFields s t [F.LODGE_CLK_STAT_TCXO_OK, F.LODGE_CLK_STAT_FRC_DEGRADED, F.GZB_CAUSE_NOW_TCXO_LOST] ∧
       t = { s with regs := t.regs }) ∧
     (∃ t, exec .xo32Fail s = .next t ∧ t.getF F.LODGE_CLK_STAT_XO32_OK = 0 ∧ t.getF F.LODGE_CLK_STAT_XO32_FAIL = 1 ∧
       OnlyFields s t [F.LODGE_CLK_STAT_XO32_OK, F.LODGE_CLK_STAT_XO32_FAIL] ∧ t = { s with regs := t.regs })) ∧
  (∀ (s : State) (x : Xing),
     (∀ id, 1 ≤ id → id ≤ 6 → s.xings[id]? = some x →
       (∃ t, exec (.pulseRoundtripDone id) s = .next t ∧ t = { s with xings := t.xings } ∧
         t.xings[id]? = some { x with pending := false, busy := x.busy && x.pending } ∧
         ∀ j, j ≠ id → t.xings[j]? = s.xings[j]?) ∧
       ((∀ d ∈ xingDoms id, s.domOn d = true) → x.resync = false → (s.xingPulse id).xings[id]? = some { x with
         busy := true, pending := x.pending || x.busy
         merged := if x.busy && x.pending then min (x.merged + 1) 255 else x.merged })) ∧
     (∀ id dir, 1 ≤ id → id ≤ 6 → s.xings[xingIdx id dir]? = some x → x.resync = true →
       ∃ t, exec (.xingResync id dir) s = .next t ∧ t = { s with xings := t.xings } ∧
         t.xings[xingIdx id dir]? = some { x with
           busy := false, pending := false, resync := false, lost := false
           dropped := x.dropped || x.pending || x.busy || x.lost }) ∧
     (∀ dir, s.xings[7]? = some x → x.resync = true →
       ∃ t, exec (.xingResync 7 dir) s = .next t ∧ t = { s with xings := t.xings, slv := t.slv } ∧
         t.slv = { s.slv with obsIn := [] } ∧ t.xings[7]? = some { x with
           busy := false, pending := false, resync := false, lost := false
           dropped := x.dropped || x.pending || x.busy || x.lost || s.slv.obsIn ≠ [] }) ∧
     (∀ id dir, s.xings[xingIdx id dir]? = some x → x.resync = false → exec (.xingResync id dir) s = .next s))

/-- A swap request (R153): with a swap in progress it is turned away with BUSY_REJ; else the image is taken from the staging
buffer, VERIFYING begins and an item of task 10 checks it, and a second request of the same cycle is turned away, with ERROR
20. Verification ends once no use of a key is still being counted for it:
it waits while its check counts one, refuses with the first failing check, stores an accepted swap, or announces a new cell
map. -/
def Obligations.SwapRequestAndVerify : Prop :=
  ∀ (m : Master) (len : Nat) (s : State),
    (s.wrAcc m R.SYS_SWAP_CTRL = .ok → s.getF F.SYS_SWAP_STAT_STATE ∈ [1, 2, 3] →
      ∃ t, exec (.swapGo m len false) s = .next t ∧ t.getF F.SYS_SWAP_STAT_BUSY_REJ = 1 ∧
        OnlyFields s t [F.SYS_SWAP_STAT_BUSY_REJ] ∧ t = { s with regs := t.regs }) ∧
    (s.wrAcc m R.SYS_SWAP_CTRL = .ok → s.getF F.SYS_SWAP_STAT_STATE ∉ [1, 2, 3] →
      ∃ t, exec (.swapGo m len false) s = .next t ∧ t.getF F.SYS_SWAP_STAT_STATE = 1 ∧
        t.getF F.SYS_SWAP_STAT_ERROR = 0 ∧
        t.swap = { s.swap with
          image := memBytes s.plan.staging 0 (min (len % 2 ^ 21) 1048576), sections := [], seq := 0, framesLeft := 0
          storing := false } ∧
        OnlyFields s t [F.SYS_SWAP_STAT_ERROR, F.SYS_SWAP_STAT_STATE, ⟨0x200, 6, 1⟩, ⟨0x208, 6, 1⟩] ∧
        t = { s with regs := t.regs, swap := t.swap, arb := t.arb }) ∧
    (s.wrAcc m R.SYS_SWAP_CTRL = .ok →
      (s.getF F.SYS_SWAP_STAT_STATE ∈ [1, 2, 3] → exec (.swapGo m len true) s = exec (.swapGo m len false) s) ∧
      (s.getF F.SYS_SWAP_STAT_STATE ∉ [1, 2, 3] → ∀ u, exec (.swapGo m len false) s = .next u →
        ∃ t, exec (.swapGo m len true) s = .next t ∧ t.getF F.SYS_SWAP_STAT_STATE = 1 ∧ t.getF F.SYS_SWAP_STAT_ERROR = 20 ∧
          t.getF F.SYS_SWAP_STAT_BUSY_REJ = 1 ∧ OnlyFields u t [F.SYS_SWAP_STAT_ERROR, F.SYS_SWAP_STAT_BUSY_REJ] ∧
          t = { u with regs := t.regs })) ∧
    (s.getF F.SYS_SWAP_STAT_STATE ≠ 1 ∨ s.swap.storing = true ∨ s.swapCounting = true →
      exec .swapVerifyDone s = .next s) ∧
    (s.getF F.SYS_SWAP_STAT_STATE = 1 → s.swap.storing = false → s.swapCounting = false →
      let r := s.checkImage .swap s.swap.image (s.swapBase s.swap.image)
      (r.1 = none → exec .swapVerifyDone s = .next r.2) ∧
      (∀ v c, r.1 = some v → r.2.swapJudged r.2.swap.image v = .error c → exec .swapVerifyDone s = .next (r.2.swapRefuse c)) ∧
      (∀ v secs, r.1 = some v → r.2.swapJudged r.2.swap.image v = .ok secs → r.2.getF F.SYS_SWAP_STAT_STATE ≠ 2 →
        let n := leAt (r.2.sec T.SYSTEM) 4 1
        let sw : Swap := { r.2.swap with sections := secs, seq := leAt r.2.swap.image 24 4 }
        exec .swapVerifyDone s = .next (if secs.any (fun p => decide (p.1 = T.CELL_MAP)) then
          (State.setSwapAsn { r.2 with swap := { sw with framesLeft := n } } (r.2.announceAsn n)).setSwap 2
        else State.swapStore { r.2 with swap := sw })))

/-! ### HOSTSPI and Ethernet -/

/-- HOSTSPI (R164–R170): a select's fall opens its side and wakes the device, or with the other side in a transaction only sets
BOTH_CS; its rise ends the transaction and withdraws a read that waits; STATUS shows the status word, CLEAR clears the bits of
its mask, an unknown code sets FRAME_ERR; a READ waits behind the writes posted before it and, with none, puts its words on the
bus; a WRITE posts its words behind those posted before; and the oldest posted write reaches its target. -/
def Obligations.HspiTransactions : Prop :=
  (∀ (sel other : Sel) (mid : Bool) (s : State), other ≠ sel →
     (s.power.off = false → s.hspi.low sel = false → s.hspi.txn ≠ some other → ∃ t, exec (.hspiSelectFall sel) s = .next t ∧
       t.hspi.low sel = true ∧ t.hspi.low other = s.hspi.low other ∧ t.hspi.bothCs = (s.hspi.bothCs || s.hspi.low other) ∧
       t.hspi.queue = s.hspi.queue ∧ t = { s with
         hspi := t.hspi, power := { s.power with wakeReq := s.power.wakeReq ||| 2 } }) ∧
     (s.power.off = false → s.hspi.low sel = false → s.hspi.txn = some other →
       exec (.hspiSelectFall sel) s = .next { s with
         hspi := { s.hspi with bothCs := true }, power := { s.power with wakeReq := s.power.wakeReq ||| 2 } }) ∧
     (s.hspi.low sel = true → s.hspi.txn = some sel → ∃ t, exec (.hspiSelectRise sel mid) s = .next t ∧
       t.hspi.low sel = false ∧ t.hspi.low other = s.hspi.low other ∧ t.hspi.txn = none ∧ t.hspi.waiting = none ∧
       t.hspi.skip = false ∧ t.hspi.frameErr = (s.hspi.frameErr || mid) ∧ t.hspi.queue = s.hspi.queue ∧
       t = { s with hspi := t.hspi, power := { s.power with held := t.power.held } })) ∧
  (∀ (sel : Sel) (s : State), s.hspiSel? = some sel →
     (exec .hspiStatus s = .next { s with
       hspi := { s.hspi with txn := some sel }
       bus := [((s.updHspi (fun h => { h with txn := some sel })).hspiWord (sel = .s)).setWidth 64] }) ∧
     (∀ mask : Word, exec (.hspiClear mask) s = .next { s with hspi := { s.hspi with
       txn := some sel
       wrDrop := s.hspi.wrDrop && !mask.getLsbD 8
       frameErr := s.hspi.frameErr && !mask.getLsbD 9
       bothCs := s.hspi.bothCs && !mask.getLsbD 10
       secViol := s.hspi.secViol && !(mask.getLsbD 11 && sel = .s) } }) ∧
     (∀ code : Byte, code ∉ [2, 3, 5, 6] → exec (.hspiUnknownCmd code) s =
       .next { s with hspi := { s.hspi with txn := some sel, frameErr := true, skip := true } }) ∧
     (∀ a n, a < 2 ^ 32 → s.hspi.queue = [] → (∀ d, s.rdAcc sel.master (accAddr a) ≠ .held d) →
       exec (.hspiRead a n) s = .next ((s.updHspi (fun h => { h with txn := some sel })).spiReadNow sel.master a n)) ∧
     (∀ a n, a < 2 ^ 32 → s.hspi.queue ≠ [] → exec (.hspiRead a n) s = .next { s with hspi := { s.hspi with
       txn := some sel, waiting := some (a, n), ahead := s.hspi.queue.length } }) ∧
     (∀ a data, a < 2 ^ 32 → data.length % wordLen a = 0 → s.hspi.used + data.length / 4 ≤ 32 →
       ∃ t, exec (.hspiWrite a data) s = .next t ∧
         t.hspi = { s.hspi with
           txn := some sel
           queue := s.hspi.queue ++ (List.range (data.length / wordLen a)).map (fun k =>
             ⟨sel.master, burstAddr a k, BitVec.ofNat 64 (leAt data (wordLen a * k) (wordLen a)), wordLen a = 8, none⟩) } ∧
         t = { s with regs := t.regs, hspi := t.hspi, power := t.power })) ∧
  (∀ (p : PostedWrite) (s : State), s.hspi.queue = [p] → s.hspi.waiting = none → p.req = none → s.eth.opened = [] →
     (s.wrAcc p.m (accAddr p.addr) = .ok → ownEffect (accAddr p.addr) = false → exec .hspiWriteComplete s =
       .next { (s.plainWrite p.m (accAddr p.addr) p.v.toNat 0) with
         hspi := { s.hspi with queue := [], ahead := s.hspi.ahead - 1 } }) ∧
     (s.wrAcc p.m (accAddr p.addr) = .none → exec .hspiWriteComplete s =
       .next { s with hspi := { s.hspi with queue := [], ahead := s.hspi.ahead - 1 } }))

/-- Ethernet ports and PTP (R110, R171, R173, R244, R245): a link comes up with what negotiation found and goes down with it
forgotten, or with its EN cleared; frames are counted, those with a bad FCS apart, and one for the port without a buffer is
dropped; a host-channel frame of an unknown CMD goes to the channel. An event message the instance may send is stamped in TB1,
a one-step one with what is written into it; one received is stamped in TB1, and only one of the instance's own, in states its
ports' roles permit, reaches it; a MASTER port serves up to 64 clients (which ones is the model's reading of IEEE 1588, log
entry 70); a time receiver without an offset keeps its time base. In the watch mode a frame for the port wakes the device and
is held, four per port. -/
def Obligations.EthernetPortsAndPtp : Prop :=
  (∀ (m : Master) (port : Nat) (s : State), port < 2 → s.powered = true → s.domOn 11 = true →
     (∀ speed mdix full pol pm, s.flag (F.ETH_Pn_CTRL_EN port) = true → s.flag (F.ETH_Pn_STAT_LINK port) = false →
       1 ≤ speed → speed ≤ 3 → (s.getF (F.ETH_Pn_CTRL_ADV port)).testBit (speed - 1) = true → (speed = 3 → full = true) →
       ∃ t, exec (.ethLinkUp port speed mdix full pol pm) s = .next t ∧ t.flag (F.ETH_Pn_STAT_LINK port) = true ∧
         t.getF ⟨R.ETH_Pn_STAT port, 1, 2⟩ = speed ∧ t.getF ⟨R.ETH_Pn_STAT port, 3, 1⟩ = b2n mdix ∧
         t.getF ⟨R.ETH_Pn_STAT port, 4, 4⟩ = pol % 16 ∧ t.getF ⟨R.ETH_Pn_STAT port, 9, 1⟩ = b2n full ∧
         (t.getF (F.ETH_Pn_STAT_PTP port) = 1 ↔ s.ptpPort port = true ∧ speed ≠ 1) ∧
         t.getF (F.ETH_Pn_STAT_UP_SEEN port) = 1 ∧
         OnlyFields s t [⟨R.ETH_Pn_STAT port, 0, 24⟩, F.ETH_Pn_STAT_UP_SEEN port] ∧
         t = { s with regs := t.regs, eth := { s.eth with ptpRx := s.eth.ptpRx.set port s.now } }) ∧
     (s.flag (F.ETH_Pn_STAT_LINK port) = true → s.eth.lastPort ≠ port → ∃ t, exec (.ethLinkDown port) s = .next t ∧
       t.getF ⟨R.ETH_Pn_STAT port, 0, 24⟩ = 0 ∧ t.getF (F.ETH_Pn_STAT_DOWN_SEEN port) = 1 ∧
       OnlyFields s t [⟨R.ETH_Pn_STAT port, 0, 24⟩, F.ETH_Pn_STAT_DOWN_SEEN port] ∧
       t = { s with regs := t.regs, eth := { s.eth with ptpLocked := s.eth.ptpLocked && s.eth.ptpSlave ≠ some port } }) ∧
     (∀ v : Word, s.wrAcc m (R.ETH_Pn_CTRL port) = .ok →
       (s.flag (F.ETH_Pn_STAT_LINK port) = false → ∃ t, exec (.ethCtrlWrite m port v) s = .next t ∧
         t.getF ⟨R.ETH_Pn_CTRL port, 0, 6⟩ = v.toNat % 64 ∧
         OnlyFields s t [⟨R.ETH_Pn_CTRL port, 0, 6⟩] ∧ t = { s with regs := t.regs }) ∧
       (v.getLsbD 0 = false →
         exec (.ethCtrlWrite m port v) s = .next ((s.setF ⟨R.ETH_Pn_CTRL port, 0, 6⟩ v.toNat).ethDown port))) ∧
     (∀ dst etype mc room req, s.ethUp port = true →
       exec (.ethFrameRx port dst etype false mc room req) s = .next (s.incF (F.ETH_Pn_RX_FCS port)) ∧
       (dst = Config.mac port → etype ≠ 0x88B5 → s.ethWatch = false →
         exec (.ethFrameRx port dst etype true mc room req) s = .next (if room then (s.incF (F.ETH_Pn_RX_OK port)).ethWake
           else (s.incF (F.ETH_Pn_RX_OK port)).incF (F.ETH_Pn_RX_DROP port))) ∧
       (dst = Config.mac port → etype = 0x88B5 → req = none → s.ethWatch = false →
         exec (.ethFrameRx port dst etype true mc room req) s = .next (s.incF (F.ETH_Pn_RX_OK port))) ∧
       (dst = Config.mac port → s.ethWatch = true → etype ≠ 0x88B5 ∨ req = none →
         let w := (s.incF (F.ETH_Pn_RX_OK port)).ethWake
         exec (.ethFrameRx port dst etype true mc room req) s = .next (
           if (s.eth.watchBuf.filter (fun p => decide (p.1 = port))).length < 4 then
             w.updEth (fun e => { e with watchBuf := e.watchBuf ++ [(port, etype)] })
           else w.incF (F.ETH_Pn_RX_DROP port))) ∧
       (∀ src cmd seq, dst = Config.mac port → etype = 0x88B5 → req = some (src, cmd, seq) → cmd ∉ [2, 3, 5] →
         exec (.ethFrameRx port dst etype true mc room req) s = .next (s.ethIn port src seq cmd 0 0 [])))) ∧
  (∀ (port phase : Nat) (x : PtpMsg) (r : PtpOut) (s : State), s.ptpOn port = true →
     (s.ptpSends port x = true → ∃ t, exec (.ptpMessageTx port phase x) s = .next t ∧
       t.bus = s.ptpStamp port phase true ++ (if x.oneStep then ptpOneStep x (s.ptpRaw port phase true) else []) ++
         (if x.udp then [0] else []) ∧
       t.getF (F.ETH_Pn_TX port) = min (s.getF (F.ETH_Pn_TX port) + 1) (2 ^ (F.ETH_Pn_TX port).width - 1) ∧
       OnlyFields s t [F.ETH_Pn_TX port] ∧ t = { s with regs := t.regs, bus := t.bus, eth := { s.eth with
         syncFrc := if x.mtype = 0 then s.eth.syncFrc.set port (some s.now) else s.eth.syncFrc } }) ∧
     (s.ptpSends port x = false → exec (.ptpMessageTx port phase x) s = .next s) ∧
     (x.mtype = 0 → ptpOneStep x (s.ptpRaw port phase true) =
       s.ptpStamp port phase true ++ [BitVec.ofInt 64 (x.corr + s.ptpRaw port phase true % 65536)]) ∧
     (s.ptpMine x = false ∨ s.ptpStates port r = false → exec (.ptpMessageRx port phase x r) s =
       .next { s.incF (F.ETH_Pn_RX_OK port) with bus := s.ptpStamp port phase false }) ∧
     (s.ptpMine x = true → s.ptpStates port r = true →
       let t : State := { s.incF (F.ETH_Pn_RX_OK port) with bus := s.ptpStamp port phase false }
       let u := (t.updEth (fun e => { e with ptpRx := e.ptpRx.set port s.now })).ptpInstance port r
       exec (.ptpMessageRx port phase x r) s = .next (u.ptpServe port x (s.ptpStamp port phase false))) ∧
     (∀ stamp,
       (x.mtype ≠ 1 ∨ s.ptpState port ≠ 6 → s.ptpServe port x stamp = s) ∧
       (x.mtype = 1 → s.ptpState port = 6 → s.eth.ptpClients.contains (port, x.src) = true →
         ∃ t, s.ptpServe port x stamp = t ∧ t.bus = s.bus ++ stamp ++ (if x.udp then [0] else []) ∧
           OnlyFields s t [F.ETH_Pn_TX port] ∧ t = { s with regs := t.regs, bus := t.bus }) ∧
       (x.mtype = 1 → s.eth.ptpClients.contains (port, x.src) = false →
         64 ≤ (s.eth.ptpClients.filter (fun p => decide (p.1 = port))).length → s.ptpServe port x stamp = s)) ∧
     (port < 2 → s.ptpMine x = true → s.ptpStates port r = true → r.state = 9 → r.offset = none → s.eth.ptpSlave = some port →
       ∃ t, exec (.ptpMessageRx port phase x r) s = .next t ∧ t.bus = s.ptpStamp port phase false ∧
         t.getF ⟨R.SDL_PTP_STAT, 4 * port, 4⟩ = 9 ∧
         t.eth = { s.eth with
           gmClass := r.gmClass % 256, ptpLocked := false, ptpRx := s.eth.ptpRx.set port s.now
           ptpClients := t.eth.ptpClients } ∧
         OnlyFields s t [F.ETH_Pn_RX_OK port, ⟨R.SDL_PTP_STAT, 0, 8⟩] ∧
         t = { s with regs := t.regs, bus := t.bus, eth := t.eth }))

/-- The Ethernet host channel (R168, R171, R172), for a frame of a port that is up, with HOST_CH set and not under test, outside
the watch mode: a request answered before with its SEQ is answered again, its source again the newest of the four, and nothing
runs; one that repeats a request not yet
answered waits with it; a STATUS request is answered with the status word as the non-secure group sees it; a COUNT out of range
with RESULT 4; a READ whose target is there, with no write waiting, with its words, and behind posted writes it waits; a WRITE
is posted whole, or refused whole with RESULT 3 where the write queue is short. -/
def Obligations.EthernetHostChannel : Prop :=
  ∀ (port : Nat) (src : BitVec 48) (seq a n : Nat) (data : List Word) (s : State), a < 2 ^ 32 → s.ethUp port = true →
    s.flag (F.ETH_Pn_CTRL_HOST_CH port) = true → s.testing port = false → s.ethWatch = false →
    let e := ((s.incF (F.ETH_Pn_RX_OK port)).ethWake).updEth (fun e => { e with lastPort := port })
    let dw : List DWord := if (portOf a).isSome then
        (List.range n).map (fun k => BitVec.ofNat 64 ((data.getD (2 * k) 0).toNat + 2 ^ 32 * (data.getD (2 * k + 1) 0).toNat))
      else (List.range n).map (fun k => (data.getD k 0).setWidth 64)
    let need := n * (if (portOf a).isSome then 2 else 1)
    (s.eth.kept.any (fun r => decide (r.src = src ∧ r.seq = seq)) = true →
      let again := (e.updEth (fun x => { x with
        kept := x.kept.filter (·.src = src) ++ x.kept.filter (·.src ≠ src) })).incF (F.ETH_Pn_TX port)
      exec (.ethHostStatus port src seq) s = .next again ∧
      exec (.ethHostRead port src seq a n) s = .next again ∧
      exec (.ethHostWrite port src seq a n data) s = .next again) ∧
    (s.eth.kept.any (fun r => decide (r.src = src ∧ r.seq = seq)) = false →
      (s.eth.opened.any (fun r => decide (r.src = src ∧ r.seq = seq)) = true →
        exec (.ethHostRead port src seq a n) s = .next (e.updEth (fun e => { e with opened := e.opened.map (fun r =>
          if r.src = src ∧ r.seq = seq then { r with again := r.again ++ [port] } else r) }))) ∧
      (s.eth.opened.any (fun r => decide (r.src = src ∧ r.seq = seq)) = false →
        exec (.ethHostStatus port src seq) s = .next ((e.ethAnswer ⟨src, seq, port, 5, 0, 1, 0, []⟩ 0
          [(e.hspiWord false).setWidth 64]).incF (F.ETH_Pn_HOST_REQ port)) ∧
        (ethCount a n = false →
          exec (.ethHostRead port src seq a n) s = .next (e.ethAnswer ⟨src, seq, port, 3, a, n, 0, []⟩ 4 []) ∧
          exec (.ethHostWrite port src seq a n data) s = .next (e.ethAnswer ⟨src, seq, port, 2, a, n, 0, []⟩ 4 [])) ∧
        (ethCount a n = true →
          (s.hspi.queue = [] → (∀ d, e.rdAcc .eth (accAddr a) ≠ .held d) →
            let r := (e.ethOpen ⟨src, seq, port, 3, a, n, 0, []⟩).readBurst .eth a n
            exec (.ethHostRead port src seq a n) s =
              .next ((r.2.ethAnswer ⟨src, seq, port, 3, a, n, 0, []⟩ 0 r.1).incF (F.ETH_Pn_HOST_REQ port))) ∧
          (s.hspi.queue ≠ [] → exec (.ethHostRead port src seq a n) s =
            .next (e.ethOpen ⟨src, seq, port, 3, a, n, s.hspi.queue.length, []⟩)) ∧
          (32 < s.hspi.used + need → exec (.ethHostWrite port src seq a n data) s =
            .next ((e.ethAnswer ⟨src, seq, port, 2, a, n, 0, []⟩ 3 []).incF (F.ETH_Pn_HOST_BUSY port))) ∧
          (s.hspi.used + need ≤ 32 → exec (.ethHostWrite port src seq a n data) s =
            .next (((e.ethOpen ⟨src, seq, port, 2, a, n, 0, []⟩).updHspi (fun h => { h with
              queue := h.queue ++ ethPosts ⟨src, seq, port, 2, a, n, 0, []⟩ dw })).spiPoke))))) ∧
    (∀ (x : EthOpen) (res : Nat) (d : List DWord), x.again = [] →
      (s.ethAnswer x res d).eth.kept.head? = some ⟨x.src, x.seq, x.port, x.cmd, x.addr, x.count, res, d⟩ ∧
      (s.ethAnswer x res d).eth.kept.length ≤ 4 ∧
      OnlyFields s (s.ethAnswer x res d) [F.ETH_Pn_TX x.port])

/-! ### Mailboxes, claims, stream windows -/

/-- Mailbox messages (R176–R181): GO by the sending side posts the message with its LEN and TAG and clears DIRTY; TAKE by the
receiving side clears GO and, on a host-to-device channel, sets MBX_TAKEN for the group; a data word goes to its register
while no message is posted; a host's declared reset needs its KEY; the wake of a message posted before Arbour was reset is
raised again with REPOSTED once the task table is loaded, where the channel still has a message and a task. -/
def Obligations.MailboxMessages : Prop :=
  (∀ (m : Master) (c : Nat) (v : Word) (s : State), c < 32 → s.wrAcc m (R.MBX_CTRL c) = .ok →
     (s.flag (F.MBX_CTRL_GO c) = false → m.isCore = true → chanH2d c = false →
       ∃ t, exec (.mbxGo m c v) s = .next t ∧ t.getF (F.MBX_CTRL_GO c) = 1 ∧ t.getF (F.MBX_STAT_POSTED c) = 1 ∧
         t.getF (F.MBX_CTRL_LEN c) = min (v.toNat / 4 % 32) 16 ∧ t.getF (F.MBX_CTRL_TAG c) = v.toNat / 256 % 256 ∧
         t.getF (F.MBX_STAT_DIRTY c) = 0 ∧
         OnlyFields s t [F.MBX_CTRL_LEN c, F.MBX_CTRL_TAG c, F.MBX_CTRL_GO c, F.MBX_STAT_POSTED c, F.MBX_STAT_POSTS c,
           F.MBX_STAT_DIRTY c] ∧ t = { s with regs := t.regs, mbxDirty := s.mbxDirty.filter (· ≠ c) }) ∧
     (s.flag (F.MBX_CTRL_GO c) = false → m.isCore = false → chanH2d c = true → (s.mbxMap? c).isSome = true →
       exec (.mbxGo m c v) s = .next (State.mbxPostMsg { (s.setF (F.MBX_CTRL_LEN c) (min (v.toNat / 4 % 32) 16)).setF
         (F.MBX_CTRL_TAG c) (v.toNat / 256 % 256) with mbxDirty := c :: s.mbxDirty.filter (· ≠ c) } c)) ∧
     (s.flag (F.MBX_CTRL_GO c) = true → chanSender m c = false → ∃ t, exec (.mbxTake m c v) s = .next t ∧
       t.getF (F.MBX_CTRL_GO c) = 0 ∧ t.getF (F.MBX_STAT_POSTED c) = 0 ∧
       (chanH2d c = true → t.getF ⟨if 16 ≤ c then 0x200 else 0x208, Irq.MBX_TAKEN, 1⟩ = 1) ∧
       OnlyFields s t [F.MBX_CTRL_GO c, F.MBX_STAT_POSTED c, ⟨if 16 ≤ c then 0x200 else 0x208, Irq.MBX_TAKEN, 1⟩] ∧
       t = { s with regs := t.regs }) ∧
     (∀ k, k < 16 → s.wrAcc m (0x30000 + 0x80 * c + 4 * k) = .ok → s.flag (F.MBX_CTRL_GO c) = false →
       ∃ t, exec (.mbxDataWrite m c k v) s = .next t ∧ t.rd (0x30000 + 0x80 * c + 4 * k) = v ∧
         t.bit (F.MBX_STAT_DIRTY c) k = true ∧
         OnlyFields s t [regFld (0x30000 + 0x80 * c + 4 * k), F.MBX_STAT_DIRTY c] ∧ t = { s with regs := t.regs })) ∧
  (∀ (m : Master) (s : State),
     (∀ key, s.wrAcc m R.MBX_HRST = .ok → key % 65536 ≠ 0xC3A5 → exec (.mbxHostReset m key) s = .next s) ∧
     (∀ key, s.wrAcc m R.MBX_HRST = .ok → key % 65536 = 0xC3A5 → m.secure = false → exec (.mbxHostReset m key) s =
       .next (((d2hOf false).foldl (fun t c => if t.flag (F.MBX_CTRL_GO c) then t.setF (F.MBX_STAT_REPOSTED c) 1 else t)
         ((h2dOf false).foldl State.senderReset s)).claimTrouble m)) ∧
     (∀ key, s.wrAcc m R.MBX_HRST = .ok → key % 65536 = 0xC3A5 → m.secure = true → exec (.mbxHostReset m key) s =
       .next ((((d2hOf true).foldl (fun t c => if t.flag (F.MBX_CTRL_GO c) then t.setF (F.MBX_STAT_REPOSTED c) 1 else t)
         ((h2dOf true).foldl State.senderReset s)).claimTrouble m).updRelease 2)) ∧
     (∀ c, s.arb.repost.contains c = true → s.domOn 3 = true → s.power.boot = false → 9 ≤ s.getF F.SYS_BOOT_STAT_STEP →
       (s.flag (F.MBX_CTRL_GO c) = true → (s.mbxMap? c).isSome = true → exec (.mbxRepost c) s = .next
         ((State.setF { s with arb := { s.arb with repost := s.arb.repost.filter (· ≠ c) } } (F.MBX_STAT_REPOSTED c)
           1).mbxWake c)) ∧
       (s.flag (F.MBX_CTRL_GO c) = false ∨ s.mbxMap? c = none → exec (.mbxRepost c) s =
         .next { s with arb := { s.arb with repost := s.arb.repost.filter (· ≠ c) } })) ∧
     (∀ c, s.arb.repost.contains c = false ∨ s.domOn 3 = false ∨ s.power.boot = true → exec (.mbxRepost c) s = .next s))

/-- While GO is set, writes to the channel's data registers, and to LEN and TAG, change only WR_IGNORED (R178). -/
def Obligations.MailboxWritesWhilePosted : Prop :=
  ∀ (m : Master) (c : Nat) (v : Word) (s : State), c < 32 → s.flag (F.MBX_CTRL_GO c) = true →
    (∀ k, k < 16 → s.wrAcc m (0x30000 + 0x80 * c + 4 * k) = .ok → ∃ t, exec (.mbxDataWrite m c k v) s = .next t ∧
      t.getF (F.MBX_STAT_WR_IGNORED c) = 1 ∧ OnlyFields s t [F.MBX_STAT_WR_IGNORED c] ∧ t = { s with regs := t.regs }) ∧
    (s.wrAcc m (R.MBX_CTRL c) = .ok → v.getLsbD 1 = false → ∀ hw, ∃ t, exec (.registerWrite m (R.MBX_CTRL c) v hw) s = .next t ∧
      t.getF (F.MBX_STAT_WR_IGNORED c) = 1 ∧ OnlyFields s t [F.MBX_STAT_WR_IGNORED c] ∧ t = { s with regs := t.regs })

/-- Masters that read one free claim in the same cycle (R183): the one with the lowest ID reads 0 and becomes owner, each
other reads 0x8000_0000 plus its ID; the values stand on the bus, the owner's first. -/
def Obligations.ClaimGoesToTheLowestMaster : Prop :=
  ∀ (w : Master) (ms : List Master) (n : Nat) (s : State), n < 32 → s.flag (F.MBX_CLAIM_INFOn_HELD n) = false →
    (ms.map Master.id).Nodup → w ∈ ms → w.id < 256 → (∀ m, m ∈ ms → w.id ≤ m.id) → (∀ m, m ∈ ms → s.rdAcc m (R.MBX_CLAIMn n) = .ok) →
    ∃ t, exec (.claimAcquire ms n) s = .next t ∧
      t.bus = 0 :: List.replicate (ms.length - 1) (BitVec.ofNat 64 (0x80000000 + w.id)) ∧
      t.getF (F.MBX_CLAIM_INFOn_HELD n) = 1 ∧ t.getF (F.MBX_CLAIM_INFOn_OWNER n) = w.id ∧
      OnlyFields s t [F.MBX_CLAIM_INFOn_HELD n, F.MBX_CLAIM_INFOn_OWNER n] ∧
      t = { s with regs := t.regs, bus := t.bus, leases := t.leases }

/-- Held claims and leases (R182, R184–R187): the owner reads 0x4000_0000 plus its own ID and any other master 0x8000_0000
plus the owner's; the owner releases by writing 0 and renews by writing 1; any other write changes only BAD_WRITE; a lease
runs out once its time, to 1 µs, is over and a claim whose owner is in trouble shows it. -/
def Obligations.HeldClaimsAndLeases : Prop :=
  (∀ (m : Master) (n : Nat) (v : Word) (s : State), n < 32 → s.flag (F.MBX_CLAIM_INFOn_HELD n) = true →
     let own := s.getF (F.MBX_CLAIM_INFOn_OWNER n)
     (s.rdAcc m (R.MBX_CLAIMn n) = .ok → exec (.claimAcquire [m] n) s = .next { s with
       bus := [BitVec.ofNat 64 (if own = m.id then 0x40000000 + m.id else 0x80000000 + own)] }) ∧
     (s.wrAcc m (R.MBX_CLAIMn n) = .ok → own = m.id →
       (∃ t, exec (.claimRelease m n) s = .next t ∧ t.getF (F.MBX_CLAIM_INFOn_HELD n) = 0 ∧
         OnlyFields s t [F.MBX_CLAIM_INFOn_OWNER n, F.MBX_CLAIM_INFOn_HELD n, F.MBX_CLAIM_INFOn_TROUBLE n] ∧
         t = { s with regs := t.regs, leases := s.leases.set n {} }) ∧
       exec (.claimRenew m n) s = .next { s with leases := s.leases.set n {
         us := max 1 (min (s.getF (F.MBX_CLAIM_LEASEn_LEASE_US n)) 1000000), start := s.now } }) ∧
     (s.wrAcc m (R.MBX_CLAIMn n) = .ok → own ≠ m.id ∨ 2 ≤ v.toNat → ∃ t, exec (.claimBadWrite m n v) s = .next t ∧
       t.getF (F.MBX_CLAIM_INFOn_BAD_WRITE n) = 1 ∧ OnlyFields s t [F.MBX_CLAIM_INFOn_BAD_WRITE n] ∧
       t = { s with regs := t.regs })) ∧
  (∀ (m : Master) (n : Nat) (v : Word) (s : State), n < 32 →
     (s.wrAcc m (R.MBX_CLAIM_LEASEn n) = .ok →
       s.flag (F.MBX_CLAIM_INFOn_HELD n) = false ∨ s.getF (F.MBX_CLAIM_INFOn_OWNER n) = m.id →
       ∃ t, exec (.claimLeaseWrite m n v) s = .next t ∧ OnlyFields s t [F.MBX_CLAIM_LEASEn_LEASE_US n] ∧
         t.getF (F.MBX_CLAIM_LEASEn_LEASE_US n) = v.toNat % 2 ^ (F.MBX_CLAIM_LEASEn_LEASE_US n).width ∧
         t = { s with regs := t.regs }) ∧
     (s.flag (F.MBX_CLAIM_INFOn_HELD n) = true → (s.leases.getD n {}).expired = false →
       s.since (s.leases.getD n {}).start ((s.leases.getD n {}).us - 1) = false → exec (.claimLeaseExpiry n) s = .next s) ∧
     (s.flag (F.MBX_CLAIM_INFOn_HELD n) = true → (s.leases.getD n {}).expired = false →
       s.since (s.leases.getD n {}).start ((s.leases.getD n {}).us - 1) = true →
       (s.flag (F.MBX_CLAIM_INFOn_TROUBLE n) = false → ∃ t, exec (.claimLeaseExpiry n) s = .next t ∧
         t.getF (F.MBX_CLAIM_INFOn_EXPIRED n) = 1 ∧ t.flag (F.MBX_CLAIM_INFOn_HELD n) = true ∧
         t.getF ⟨0x200, Irq.CLAIM, 1⟩ = 1 ∧
         OnlyFields s t [F.MBX_CLAIM_INFOn_EXPIRED n, ⟨0x200, Irq.CLAIM, 1⟩, ⟨0x208, Irq.CLAIM, 1⟩] ∧
         t = { s with regs := t.regs, leases := t.leases }) ∧
       (s.flag (F.MBX_CLAIM_INFOn_TROUBLE n) = true → ∃ t, exec (.claimLeaseExpiry n) s = .next t ∧
         t.flag (F.MBX_CLAIM_INFOn_HELD n) = false ∧ t.getF (F.MBX_CLAIM_INFOn_FORCED n) = 1 ∧
         t.getF ⟨0x200, Irq.CLAIM, 1⟩ = 1 ∧ t = { s with regs := t.regs, leases := s.leases.set n {} })) ∧
     (s.flag (F.MBX_CLAIM_INFOn_HELD n) = true → s.getF (F.MBX_CLAIM_INFOn_OWNER n) = m.id →
       (s.leases.getD n {}).expired = false → ∃ t, exec (.claimOwnerTrouble m) s = .next t ∧
         t.getF (F.MBX_CLAIM_INFOn_TROUBLE n) = 1 ∧ t.flag (F.MBX_CLAIM_INFOn_HELD n) = true ∧
         t = { s with regs := t.regs, leases := t.leases }))

/-- Data ports (R42, R189–R191, R193, R194): a read takes the head word of an output window that may be presented, and reads NV
where there is none; a write puts its word into an input window with room, and into a full one only REFUSED and the loss, and
the last word of a packet for Arbour powers D3 up; FLUSH empties an observer window and leaves a fleet window. A read granted
moves the window's round-robin token past its master. A level that rises above the watermark sets WM_HIT. -/
def Obligations.StreamPorts : Prop :=
  ∀ (m : Master) (w : Nat) (v : DWord) (c : WinCfg) (s : State), winCfg w = some c → w < s.strms.length →
    (∀ q, ∃ t, s.setStrm w q = t ∧ t.strms = s.strms.set w q ∧
      (t.flag (F.SYS_STRM_STAT_WM_HIT w) = true ↔
        s.flag (F.SYS_STRM_STAT_WM_HIT w) = true ∨ (t.wmAbove w = true ∧ s.wmAbove w = false)) ∧
      OnlyFields s t [F.SYS_STRM_STAT_WM_HIT w] ∧ t = { s with regs := t.regs, strms := t.strms }) ∧
    (masterOf m.id = m → s.rdAcc m (strmPort w) = .ok →
      (c.isIn = true ∨ (s.strm w).head? (s.flag (F.SYS_STRM_CTRL_CUT_THROUGH w)) = none →
        exec (.streamRead [m] w) s = .next { s with
          bus := [nvWord], strms := s.strms.set w { s.strm w with token := m.id + 1 } }) ∧
      (∀ x ps, c.isIn = false → (s.strm w).head? (s.flag (F.SYS_STRM_CTRL_CUT_THROUGH w)) = some (x, ps) →
        let s1 : State := { s with strms := s.strms.set w { s.strm w with token := m.id + 1 } }
        exec (.streamRead [m] w) s = .next { s1.setStrm w { s.strm w with pkts := ps, token := m.id + 1 } with
          bus := [x.tagged] })) ∧
    (s.wrAcc m (strmPort w) = .ok →
      let woken (t : State) : State := if (w = 5 ∨ w = 7) ∧ v.getLsbD 62 = true ∧ s.domOn 3 = false then t.domEvent 3 .work else t
      (c.isIn = false → exec (.streamWrite m w v) s = .next s) ∧
      (c.isIn = true → (s.strm w).level < c.depth →
        exec (.streamWrite m w v) s = .next (woken (s.setStrm w { s.strm w with
          pkts := addWord (s.strm w).pkts (sword v (s.strm w).seq), seq := ((s.strm w).seq + 1) % 65536 }))) ∧
      (c.isIn = true → c.depth ≤ (s.strm w).level → ∃ t, exec (.streamWrite m w v) s = .next (woken t) ∧
        t.getF (F.SYS_STRM_STAT_REFUSED w) = 1 ∧ OnlyFields s t [F.SYS_STRM_STAT_REFUSED w] ∧
        t = { s with regs := t.regs, strms := s.strms.set w { s.strm w with
          pkts := loseWord (s.strm w).pkts (v.getLsbD 62) } })) ∧
    (s.wrAcc m (R.SYS_STRM_CTRL w) = .ok → s.Sound →
      (c.fleet = true → exec (.streamFlush m w) s = .next s) ∧
      (c.fleet = false → ∀ t, s.setStrm w { s.strm w with pkts := [], seq := 0 } = t → exec (.streamFlush m w) s = .next t))

/-! ### Arbour -/

/-- The packet at the head of a group's WI_SUBMIT window (R206–R210): one that passes every check is in flight, in its task's
queue, with its stamp, and gone from the window; one that fails leaves a record of the first check it fails, and where that is
BUSY it counts; a CANCEL acts as it is accepted. -/
def Obligations.WorkItemSubmission : Prop :=
  ∀ (g : Grp) (p : Pkt) (ps : List Pkt) (s : State), g ≠ .int → s.domOn 2 = true → s.domOn 3 = true →
    takePkt (s.strm (submitWin g)).pkts = some (p, ps) →
    let s1 := s.setStrm (submitWin g) { s.strm (submitWin g) with pkts := ps }
    let ref := s1.wiRefusal g (s.quota g ≤ s.inFlightOf g || 512 ≤ s.inFlight)
      (wiFormed p.data p.words.length ((p.words.getLast?.map (·.bytes)).getD 0)) p.data
    (∀ t, ref = none → s1.route g (leAt p.data 0 2) (leAt p.data 2 1) = some t → leAt p.data 0 2 ≠ W.CANCEL →
      s1.domOn t.dom = true → ∃ u, exec (.workItemSubmit g) s = .next u ∧
        u.arb.nextWid = s.arb.nextWid + 1 ∧
        (∃ i, u.arb.items = s.arb.items ++ [i] ∧ i.wid = s.arb.nextWid ∧ i.phase = .queued ∧ i.finished = false ∧
          i.grp = g ∧ i.task = t.id ∧ i.typ = leAt p.data 0 2 ∧ i.tag = leAt p.data 4 4 ∧ i.stamp = s.arb.cycle) ∧
        u = { s1 with arb := u.arb }) ∧
    (∀ st task, ref = some (st, task) →
      let rec_ := recordOf (leAt p.data 0 2) task st (leAt p.data 4 4) [] 255 (s.now % 2 ^ 32)
      (st ≠ St.BUSY → exec (.workItemSubmit g) s = .next (s1.pushRefusal g rec_)) ∧
      (st = St.BUSY → exec (.workItemSubmit g) s = .next ((s1.incF (if g = .sec then F.ARB_BUSY_CNT_BUSY_S
        else F.ARB_BUSY_CNT_BUSY_NS)).pushRefusal g rec_))) ∧
    (leAt p.data 0 2 = W.CANCEL → exec (.cancel g) s = exec (.workItemSubmit g) s) ∧
    (leAt p.data 0 2 = W.CANCEL → ref = none → exec (.cancel g) s = .next (s1.wiAccept g p.data))

/-- Dispatch (R197, R200–R202): the oldest entry of the lowest level starts on the lowest idle core, its item runs there, and
its level's token moves past its task; with no idle core or no entry nothing starts. -/
def Obligations.DispatchStartsTheOldestEntry : Prop :=
  ∀ (lat k task stamp wid : Nat) (i : WItem) (s : State), s.domOn 3 = true → lat ≤ 48 →
    (s.idleCores.head? = some k → s.pick 16 0 = some (task, stamp, some wid) → s.item? wid = some i →
      ∃ t, exec (.dispatch lat) s = .next t ∧ t.arb.cores = s.arb.cores.set k 1 ∧
        t.item? wid = some { i with phase := .running k } ∧
        (∀ j, j ≠ wid → t.item? j = s.item? j) ∧ OnlyFields s t [F.ARB_LAT_MAX_LAT] ∧
        t = { s with regs := t.regs, arb := t.arb }) ∧
    (∀ x, s.idleCores.head? = some k → s.pick 16 0 = some (task, stamp, none) → s.arb.tasks.find? (·.id = task) = some x →
      ∃ t, exec (.dispatch lat) s = .next t ∧ t.arb.cores = s.arb.cores.set k 1 ∧
        t.arb.tasks.find? (·.id = task) = some { x.consumed with runs := x.runs ++ [k] } ∧ t.arb.items = s.arb.items ∧
        OnlyFields s t [F.ARB_LAT_MAX_LAT] ∧ t = { s with regs := t.regs, arb := t.arb }) ∧
    (s.idleCores = [] ∨ s.pick 16 0 = none → exec (.dispatch lat) s = .next s)

/-- Completion (R210, R212): a finished item leaves flight and frees its core, without a record where it was QUIET and OK, else
with its record in its group's window where that has room and nothing waits before it; a run of an EVENT task frees its core; a
record that waited enters its window, refusals and epoch records first. -/
def Obligations.CompletionAndRecords : Prop :=
  ∀ (s : State),
    (∀ wid k i, s.item? wid = some i → i.phase = .running k → i.finished = true → i.grp ≠ .int → s.linkItem wid = false →
      let power : Power := if i.typ = W.ORG_KEY_UPDATE ∨ i.typ = W.ORG_DERIVE then { s.power with idle13 := s.now } else s.power
      let s1 : State := { s with power := power, arb := { s.arb with
        items := s.arb.items.filter (·.wid ≠ wid), cores := s.arb.cores.set k 0 } }
      (i.quiet = true → i.status = St.OK → exec (.workItemComplete (.item wid)) s = .next s1) ∧
      (i.quiet = false ∨ i.status ≠ St.OK →
        let r := recordOf i.typ i.task i.status i.tag i.result k (s.now % 2 ^ 32)
        s1.canPush i.grp r.length = true → exec (.workItemComplete (.item wid)) s = .next (s1.pushPkt (doneWin i.grp) r))) ∧
    (∀ task k x, s.arb.tasks.find? (·.id = task) = some x → x.runs.contains k = true →
      ∃ t, exec (.workItemComplete (.event task k)) s = .next t ∧ t.arb.cores = s.arb.cores.set k 0 ∧
        t.arb.items = s.arb.items ∧ t = { s with arb := t.arb }) ∧
    (∀ g b bs, g ≠ .int → s.domOn 2 = true → s.waits g = b :: bs → s.hasRoom (doneWin g) (packLen b.length) = true →
      exec (.wiDonePush g) s = .next ((s.setWaits g bs).pushPkt (doneWin g) b)) ∧
    (∀ g i is, g ≠ .int → s.domOn 2 = true → s.waits g = [] → s.doneWaiting g = i :: is →
      s.hasRoom (doneWin g) (packLen i.record.length) = true → exec (.wiDonePush g) s =
        .next ((s.updArb (fun a => { a with items := a.items.filter (·.wid ≠ i.wid) })).pushPkt (doneWin g) i.record))

/-- Core faults and the watchdog (R204, R205): a core that faults shows in ARB_FAULT, with OVERRUN where its bound ran out, is
idle again, and its record 0x09 is raised; an entry that waited 100 ms resets the module from WDT_SYS. -/
def Obligations.CoreFaultsAndWatchdog : Prop :=
  ∀ (k : Nat) (s : State), k < 8 → s.domOn 3 = true →
    (s.arb.cores.getD k 0 ≠ 1 → exec (.coreOverrun k) s = .next s ∧ exec (.coreAccessFault k) s = .next s) ∧
    (s.arb.cores.getD k 0 = 1 → s.arb.coreFaults = [] →
      let s1 := (s.setBit F.ARB_FAULT_CORE_FAULT k).incF F.ARB_FAULT_FAULTS
      let ovr := s1.setBit F.ARB_FAULT_OVERRUN k
      let idle (x : State) : State :=
        (x.updArb (fun a => { a with cores := a.cores.set k 0, coreFaults := [s.now] })).claimTrouble (.core k)
      (∀ i, s.itemOn k = some i →
        let rest (x : State) : State := idle (((x.vbTrigger 0x09 ([byte k, byte i.task] ++ leBytes 2 i.typ)).updItem i.wid
          (fun y => { y with finished := true, status := St.CORE_FAULT, result := [] })).complete i.wid)
        exec (.coreAccessFault k) s = .next (rest s1) ∧ exec (.coreOverrun k) s = .next (rest ovr)) ∧
      (s.itemOn k = none →
        let task := ((s.arb.tasks.find? (fun t => t.runs.contains k)).map (·.id)).getD 0
        let rest (x : State) : State := idle ((x.vbTrigger 0x09 ([byte k, byte task] ++ leBytes 2 0)).updTask task
          (fun t => { t with runs := t.runs.erase k }))
        exec (.coreAccessFault k) s = .next (rest s1) ∧ exec (.coreOverrun k) s = .next (rest ovr))) ∧
    (s.lowReady.isSome = true → exec .wdtDispatchTimeout s = .next (s.resetAll .wdtSys)) ∧
    (s.lowReady = none → exec .wdtDispatchTimeout s = .next s)

/-- Event flags (R198, R218): ARB_EVT_SET and ARB_EVT_CLR act on one flag of a host task the master may act on, and are
refused with EVT_DENIED alone otherwise; a set of the same flag in the same cycle wins over a clear. -/
def Obligations.EventFlags : Prop :=
  (∀ (m : Master) (task flag : Nat) (s : State), task < 256 → flag < 32 →
     (s.wrAcc m R.ARB_EVT_SET = .ok → s.mayEvent m.secure task = true →
       exec (.evtSet m task flag) s = .next (s.raiseFlag task flag)) ∧
     (s.wrAcc m R.ARB_EVT_SET = .ok → s.mayEvent m.secure task = false → ∃ t, exec (.evtSet m task flag) s = .next t ∧
       t.getF F.ARB_FAULT_EVT_DENIED = 1 ∧ OnlyFields s t [F.ARB_FAULT_EVT_DENIED] ∧ t = { s with regs := t.regs }) ∧
     (s.wrAcc m R.ARB_EVT_CLR = .ok → s.mayEvent m.secure task = true →
       exec (.evtClr m task flag true) s = .next (s.raiseFlag task flag) ∧
       ∃ t, exec (.evtClr m task flag false) s = .next t ∧ t = { s with arb := { s.arb with tasks := t.arb.tasks } } ∧
         ∀ x, s.arb.tasks.find? (·.id = task) = some x → ∃ y, t.arb.tasks.find? (·.id = task) = some y ∧
           y.flags.testBit flag = false ∧ (∀ j, j ≠ flag → y.flags.testBit j = x.flags.testBit j) ∧
           y = { x with flags := y.flags }) ∧
     (s.wrAcc m R.ARB_EVT_CLR = .ok → s.mayEvent m.secure task = false → ∃ t, exec (.evtClr m task flag false) s = .next t ∧
       t.getF F.ARB_FAULT_EVT_DENIED = 1 ∧ OnlyFields s t [F.ARB_FAULT_EVT_DENIED] ∧ t = { s with regs := t.regs })) ∧
  (∀ (x : TaskSt) (flag stamp : Nat),
     (x.raise flag stamp).flags.testBit flag = true ∧
     (∀ j, j ≠ flag → (x.raise flag stamp).flags.testBit j = x.flags.testBit j) ∧
     (x.raise flag stamp).merged = (if x.flags.testBit flag then min (x.merged + 1) 255 else x.merged) ∧
     (x.raise flag stamp).stamp = (if (x.raise flag stamp).gate = true ∧ x.gate = false then stamp else x.stamp))

/-- Arbour's own items and producers (R44, R208, R211–R213): the task mask, NOP, SIGNAL; a finished item holds its status and
result, and one finished before keeps what it had; the producer that waits longest resumes when there is a place. -/
def Obligations.ItemsOfArbour : Prop :=
  (∀ (m : Master) (mask : Word) (x : TaskSt) (s : State), s.wrAcc m R.ARB_TASK_MASK = .ok →
     let sel := s.getF (F.ARB_TASK_SEL_TASK.bank m)
     (s.arb.tasks.find? (·.id = sel) = some x → 16 ≤ sel →
       (x.maskRw = true → x.may (if m.secure then .sec else .ns) = true → x.event = false →
         ∃ t, exec (.taskMaskWrite m mask) s = .next t ∧
           t.task? sel = some (x.remask mask.toNat s.arb.cycle) ∧ t.arb.items = s.arb.items ∧ t = { s with arb := t.arb }) ∧
       (x.maskRw = false → exec (.taskMaskWrite m mask) s = .next s)) ∧
     (s.arb.tasks.find? (·.id = sel) = none → exec (.taskMaskWrite m mask) s = .next s)) ∧
  (∀ (wid : Nat) (i : WItem) (s : State),
     (s.active? wid W.NOP = some i → exec (.nop wid) s =
       .next (s.finish wid St.OK ((List.range 5).flatMap (fun k => leBytes 4 (i.arg k))))) ∧
     (s.active? wid W.SIGNAL = some i → s.mayEvent (i.grp ≠ .ns) (i.arg 0) = true → exec (.signal wid) s =
       .next ((((List.range 32).filter (fun f => (i.arg 1).testBit f)).foldl (fun x f => x.raiseFlag (i.arg 0) f) s).finish
         wid St.OK)) ∧
     (s.active? wid W.SIGNAL = some i → s.mayEvent (i.grp ≠ .ns) (i.arg 0) = false → ∃ t, exec (.signal wid) s = .next t ∧
       t.getF F.ARB_FAULT_EVT_DENIED = 1 ∧ OnlyFields s t [F.ARB_FAULT_EVT_DENIED] ∧
       t = { s.finish wid St.BAD_ARG with regs := t.regs })) ∧
  (∀ (wid status : Nat) (result : Bytes) (i : WItem) (s : State), s.item? wid = some i →
     (s.finish wid status result).item? wid = some (if i.finished then i else
       { i with finished := true, status := status, result := result }) ∧
     (∀ j, j ≠ wid → (s.finish wid status result).item? j = s.item? j) ∧
     s.finish wid status result = { s with arb := { s.arb with items := (s.finish wid status result).arb.items } }) ∧
  (∀ (s : State),
     (∀ t ts, s.arb.waitInternal = t :: ts → s.domOn 3 = true → s.power.boot = false → s.inFlight < 512 →
       ∃ u, exec (.queuePushResume 0) s = .next u ∧ u.arb.waitInternal = ts ∧ u.inFlight = s.inFlight + 1 ∧
         u = { s with arb := u.arb }) ∧
     (∀ wid i, wid ≠ 0 → s.item? wid = some i → i.finished = false → i.phase.isDone = false →
       (i.typ = W.VB_READ → i.prog ≠ [] → exec (.queuePushResume wid) s = .next (s.vbReadStep i)) ∧
       (i.typ = W.PGL_PLAN → i.prog = [1] → exec (.queuePushResume wid) s = .next (s.pglPlan i)) ∧
       (i.typ = W.BS_SEND → i.prog ≠ [] → s.domOn (bandDom (bitsOf (i.arg 0) 8 1)) = true →
         exec (.queuePushResume wid) s = .next (s.bsSend i))))

/-! ### Sundial -/

/-- Compares (R233–R236): a permitted arm ahead of its target arms and does nothing else; a target already past is missed
with DISCARD_IF_LATE and else fires at once with LATE; at the tick in which a time base reaches a compare's target, every
compare due in that tick fires, by time base and then index, and until then it waits; a fired one-shot disarms and a periodic
one goes to its next target; a disarm wins over an arm; an arm not permitted does nothing for a secure master and is a
violation for a non-secure one. -/
def Obligations.Compares : Prop :=
  ∀ (m : Master) (k i : Nat) (s : State), k < 4 → i < 32 →
    let x := 32 * k + i
    (s.wrAcc m (R.SDL_CMP_CTRL x) = .ok → s.cmpMay k i m.isCore m.secure = true →
      (s.badTarget x m.secure = false → s.tbNs k < s.cmpTarget x → ∃ t, exec (.cmpArm m k i false) s = .next t ∧
        t.getF (F.SDL_CMP_CTRL_ARMED x) = 1 ∧ OnlyFields s t [F.SDL_CMP_CTRL_ARMED x] ∧ t = { s with regs := t.regs }) ∧
      (s.badTarget x m.secure = false → s.cmpTarget x ≤ s.tbNs k → s.getF (F.SDL_CMP_PERIOD x) = 0 →
        (s.flag (F.SDL_CMP_ACT_DISCARD_IF_LATE x) = true → ∃ t, exec (.cmpArm m k i false) s = .next t ∧
          t.getF (F.SDL_CMP_CTRL_MISSED x) = 1 ∧ t.getF (F.SDL_CMP_CTRL_ARMED x) = 0 ∧
          OnlyFields s t [F.SDL_CMP_CTRL_MISSED x, F.SDL_CMP_CTRL_ARMED x] ∧ t = { s with regs := t.regs }) ∧
        (s.flag (F.SDL_CMP_ACT_DISCARD_IF_LATE x) = false →
          exec (.cmpArm m k i false) s = .next ((s.cmpActions k i true).setF (F.SDL_CMP_CTRL_ARMED x) 0))) ∧
      (s.badTarget x m.secure = true → exec (.cmpArm m k i false) s = .next s) ∧
      (∃ t, exec (.cmpArm m k i true) s = .next t ∧ t.getF (F.SDL_CMP_CTRL_ARMED x) = 0 ∧
        OnlyFields s t [F.SDL_CMP_CTRL_ARMED x] ∧ t = { s with regs := t.regs }) ∧
      (∃ t, exec (.cmpDisarm m k i) s = .next t ∧ t.getF (F.SDL_CMP_CTRL_ARMED x) = 0 ∧
        OnlyFields s t [F.SDL_CMP_CTRL_ARMED x] ∧ t = { s with regs := t.regs })) ∧
    (s.wrAcc m (R.SDL_CMP_CTRL x) = .ok → s.cmpMay k i m.isCore m.secure = false → ∀ d,
      exec (.cmpArm m k i d) s = .next (if m.secure then s else s.secViol) ∧
      exec (.cmpDisarm m k i) s = .next (if m.secure then s else s.secViol)) ∧
    (s.domOn 2 = true → s.flag (F.SDL_CMP_CTRL_ARMED x) = true → s.frcOf k (s.cmpTarget x) ≤ s.now →
      exec (.cmpFire k i) s = .next (((List.range 128).filter (fun y => s.cmpDue y &&
        s.cmpFrc y = s.frcOf k (s.cmpTarget x))).foldl State.cmpHit s)) ∧
    (s.getF (F.SDL_CMP_PERIOD x) = 0 → s.cmpHit x = (s.cmpActions k i false).setF (F.SDL_CMP_CTRL_ARMED x) 0) ∧
    (s.getF (F.SDL_CMP_PERIOD x) ≠ 0 →
      s.cmpHit x = (s.cmpActions k i false).setCmpTarget x (s.cmpTarget x + s.getF (F.SDL_CMP_PERIOD x))) ∧
    (s.domOn 2 = true → s.flag (F.SDL_CMP_CTRL_ARMED x) = false ∨ s.now < s.frcOf k (s.cmpTarget x) →
      exec (.cmpFire k i) s = .next s)

/-- Conversions, captures and pins (R235, R239, R240): CONV_GO latches FRC and all four time bases at one instant; a compare's
pulse ends with its GPIO at the other level once its width is over; PPS_OUT rises at a whole second of its time base where it
is enabled and not squelched, and falls after its width; an edge of PPS_IN, SNAP_IN or a capture GPIO writes its record, and
the first two are wake events (R97); 1.1 s without an edge of PPS_IN ends PPS_IN_OK. -/
def Obligations.ConversionsAndCaptures : Prop :=
  (∀ (m : Master) (s : State),
     (s.wrAcc m R.SDL_CONV_GO = .ok → ∃ t, exec (.convGo m) s = .next t ∧
       t.rd (R.SDL_CONVj 0) = word s.now ∧ t.rd (R.SDL_CONVj 1) = word (s.now / 2 ^ 32) ∧
       (∀ k, k < 4 → t.rd (R.SDL_CONVj (2 + 3 * k)) = word (nsField (s.tbNs k)) ∧
         t.rd (R.SDL_CONVj (3 + 3 * k)) = word (secField (s.tbNs k)) ∧
         t.rd (R.SDL_CONVj (4 + 3 * k)) = word (secField (s.tbNs k) / 2 ^ 32)) ∧
       OnlyFields s t ((List.range 14).map (fun j => regFld (R.SDL_CONVj j))) ∧ t = { s with regs := t.regs }) ∧
     (∀ g u, (g, u) ∈ s.sdl.pulses → u ≤ s.now → exec (.cmpPulseEnd g) s = .next { s with
       pads := { s.pads with gpio := s.pads.gpio.set g (!s.pads.gpio.getD g false) }
       sdl := { s.sdl with pulses := s.sdl.pulses.filter (·.1 ≠ g) } }) ∧
     (∀ g, (∀ p ∈ s.sdl.pulses, p.1 = g → s.now < p.2) → exec (.cmpPulseEnd g) s = .next s) ∧
     (s.power.off = false → s.flag F.SDL_CTRL_PPS_OUT_EN = true → s.reached (s.timeF 6 1) 1000000000 = true →
       s.timeFlag 3 = false ∨ (s.flag F.SDL_STAT_UNTRUSTED = false ∧ s.getF F.SDL_STAT_STATE ≠ Tb.FREE) →
       exec .ppsOutPulse s = .next { s with
         pads := { s.pads with ppsOut := true }, sdl := { s.sdl with ppsFrc := s.now } }) ∧
     ((s.timeFlag 3 = true ∧ s.flag F.SDL_STAT_UNTRUSTED = true) ∨ s.flag F.SDL_CTRL_PPS_OUT_EN = false ∨
       s.reached (s.timeF 6 1) 1000000000 = false → exec .ppsOutPulse s = .next s) ∧
     (s.pads.ppsOut = true → s.since s.sdl.ppsFrc s.ppsWidth = true →
       exec .ppsOutFall s = .next { s with pads := { s.pads with ppsOut := false } }) ∧
     (s.since s.sdl.ppsFrc s.ppsWidth = false → exec .ppsOutFall s = .next s)) ∧
  (∀ (phase : Nat) (s : State), s.power.off = false →
     (∃ t, exec (.ppsInEdge phase) s = .next t ∧
       (let c := ((s.tbNsAt 0 s.now (phase % 16) : Int) - leAtI (s.sec T.TIME) 12 2).toNat
        t.getF F.SDL_CAP_PPS_NS = nsField c ∧ t.getF F.SDL_CAP_PPS_SEC_LO = secField c % 2 ^ 32) ∧
       t.sdl.ppsEdges = (s.tbNsAt 0 s.now (phase % 16) :: s.sdl.ppsEdges).take 3 ∧
       (ppsSteady t.sdl.ppsEdges = true → t.getF F.SDL_STAT_PPS_IN_OK = 1) ∧
       t = { s with regs := t.regs, sdl := t.sdl, strms := t.strms, power := { s.power with wakeReq := s.power.wakeReq ||| 16 } }) ∧
     (s.since s.sdl.ppsInFrc 1100000 = false → exec .ppsInLoss s = .next s) ∧
     (s.since s.sdl.ppsInFrc 1100000 = true → ∃ t, exec .ppsInLoss s = .next t ∧ t.getF F.SDL_STAT_PPS_IN_OK = 0 ∧
       OnlyFields s t [F.SDL_STAT_PPS_IN_OK] ∧ t = { s with regs := t.regs, sdl := { s.sdl with
         ppsEdges := [], todGiven := false, extSec := none, extOff := none } }) ∧
     (exec (.snapInEdge phase) s = .next (((s.wakeBy 5).capture 1 phase).snapCode 1 0x50 [])) ∧
     (∀ pin, pin ≤ 15 → s.gpioFn pin = 4 → exec (.gpioCaptureEdge pin phase) s = .next (s.capture (16 + pin) phase)))

/-- TB0's discipline (R225–R232): as TB0 reaches a second, one without a valid source leaves LOCKING or LOCKED for HOLDOVER; a
valid measurement from the source TB0_SRC names is taken, and moves between LOCKING and LOCKED at 20 ns and 100 ns, its offset
slewed or, over 1 ms with STEP_ALLOWED, stepped; a port of the PTP instance silent for 6 s leaves its state first (its time and
state are the model's choice, log entry 70); holding over past the limit sets UNTRUSTED; a pending step waits for the slotframe
boundary while the slots run, else for the TB0 second, and lapses once STEP_ALLOWED no longer permits it; REF10_OK follows the
reference. -/
def Obligations.Tb0Discipline : Prop :=
  ∀ (freq : Int) (est func : Nat) (s : State),
    (s.reached 0 1000000000 = false → exec (.tb0Second freq est func) s = .next s) ∧
    (∀ n, s.ptpPort n = true → s.flag (F.ETH_Pn_STAT_PTP n) = true → s.domOn 3 = true → s.domOn 11 = true → n < 2 →
      s.testing n = false → s.timeF 23 1 ≠ 2 → s.since (s.eth.ptpRx.getD n 0) 6000000 = true → s.eth.ptpSlave ≠ some n →
      (s.ptpSilent n).ptpState n = 6) ∧
    (s.power.off = false → s.reached 0 1000000000 = true → [0, 1].foldl State.ptpSilent s = s →
      (s.planActive = false ∨ s.srcValid = false → s.timeFlag 1 = false →
        (s.getF F.SDL_STAT_STATE = Tb.LOCKING ∨ s.getF F.SDL_STAT_STATE = Tb.LOCKED → exec (.tb0Second freq est func) s =
          .next ((((s.setF F.SDL_STAT_SRC_OK 0).updSdl (fun d => { d with func := func, extOff := none })).updBv (fun b => {
            b with meas := none })).enterHoldover)) ∧
        (s.getF F.SDL_STAT_STATE = Tb.FREE ∨ s.getF F.SDL_STAT_STATE = Tb.HOLDOVER →
          ∃ t, exec (.tb0Second freq est func) s = .next t ∧ t.getF F.SDL_STAT_SRC_OK = 0 ∧
            OnlyFields s t [F.SDL_STAT_SRC_OK] ∧ t = { s with
              regs := t.regs, bv := { s.bv with meas := none }
              sdl := { s.sdl with
                extOff := none, func := if s.getF F.SDL_STAT_STATE = Tb.HOLDOVER then s.sdl.func else func } })) ∧
      (s.planActive = true → s.srcValid = true → s.degraded = false → s.getF F.SDL_STAT_STATE ≠ Tb.HOLDOVER →
        ∀ o, s.tb0Offset = some o →
        let s1 := (((s.setF F.SDL_STAT_SRC_OK 1).updSdl (fun d => { d with func := func })).setI F.SDL_FREQ
          (max (-32768000) (min 32768000 freq))).retimeAll.joinTb1
        exec (.tb0Second freq est func) s = .next ((((if s.tb0Src ≠ 0 then s1.setSlotRun else s1).updBv (fun b => { b with
          meas := none })).updSdl (fun d => { d with extOff := none })).measured0 o est))) ∧
    (∀ off : Int,
      (s.getF F.SDL_STAT_STATE ≠ Tb.FREE → ∃ t : State, s.measured0 off est = t.retimeAll.joinTb1 ∧
        (s.getF F.SDL_STAT_STATE = Tb.LOCKED →
          t.getF F.SDL_STAT_STATE = if 100 < off.natAbs then Tb.LOCKING else Tb.LOCKED) ∧
        (s.getF F.SDL_STAT_STATE = Tb.LOCKING ∨ s.getF F.SDL_STAT_STATE = Tb.HOLDOVER →
          t.getF F.SDL_STAT_STATE = if off.natAbs ≤ 20 then Tb.LOCKED else Tb.LOCKING) ∧
        (1000000 < off.natAbs → s.flag F.SDL_CTRL_STEP_ALLOWED = true → t.sdl.slew0 = 0 ∧
          (s.sdl.stepItem = false → t.sdl.stepBy = some (-off)) ∧ t.getF F.SDL_STAT_STEP_PEND = b2n t.sdl.stepBy.isSome) ∧
        (off.natAbs ≤ 1000000 ∨ s.flag F.SDL_CTRL_STEP_ALLOWED = false → t.sdl.slew0 = slewFor off ∧
          (s.sdl.stepItem = false → t.sdl.stepBy = none ∧ t.getF F.SDL_STAT_STEP_PEND = 0))) ∧
      (s.getF F.SDL_STAT_STATE = Tb.FREE → s.measured0 off est = (((s.updSdl (fun d => { d with
        holdFrom := s.now })).setI F.SDL_OFFSET (satI32 off)).stepTb0 (-off)).tbState Tb.LOCKING)) ∧
    (s.getF F.SDL_STAT_STATE = Tb.HOLDOVER → s.holdLimit ≤ s.holdTime → s.timeFlag 3 = false →
      ∃ t, exec .holdLimitExpiry s = .next t ∧ t.getF F.SDL_STAT_UNTRUSTED = 1 ∧ t.getF F.SDL_STAT_UNTRUSTED_SEEN = 1 ∧
        OnlyFields s t [F.SDL_STAT_UNTRUSTED, F.SDL_STAT_UNTRUSTED_SEEN] ∧ t = { s with regs := t.regs }) ∧
    (∀ d, s.sdl.stepBy = some d →
      (s.flag F.SDL_STAT_SLOT_RUN = true →
        (s.reached 0 2500000 = false ∨ asnOf (s.tbNs 0) % max s.slotL 1 ≠ 0 → exec .tb0StepApply s = .next s) ∧
        (s.reached 0 2500000 = true → asnOf (s.tbNs 0) % max s.slotL 1 = 0 →
          s.sdl.stepItem = true ∨ s.flag F.SDL_CTRL_STEP_ALLOWED = true →
          exec .tb0StepApply s = .next (s.stepTb0 d))) ∧
      (s.flag F.SDL_STAT_SLOT_RUN = false → s.sdl.stepItem = true ∨ s.flag F.SDL_CTRL_STEP_ALLOWED = true →
        exec .tb0StepApply s = .next (if s.reached 0 1000000000 then s.stepTb0 d else s)) ∧
      (s.stepDue = true → s.sdl.stepItem = false → s.flag F.SDL_CTRL_STEP_ALLOWED = false →
        ∃ t, exec .tb0StepApply s = .next t ∧ t.getF F.SDL_STAT_STEP_PEND = 0 ∧ OnlyFields s t [F.SDL_STAT_STEP_PEND] ∧
          t = { s with regs := t.regs, sdl := { s.sdl with stepBy := none } })) ∧
    (s.power.off = false → ∃ t, exec .ref10OkSet s = .next t ∧ t.getF F.SDL_STAT_REF10_OK = 1 ∧
      OnlyFields s t [F.SDL_STAT_REF10_OK] ∧ t = { s with regs := t.regs }) ∧
    (∃ t, exec .ref10Loss s = .next t ∧ t.getF F.SDL_STAT_REF10_OK = 0 ∧ OnlyFields s t [F.SDL_STAT_REF10_OK] ∧
      t = { s with regs := t.regs })

/-- SDL_ARM (R247): a cancelling item disarms its compare and ends OK; one whose owner does not permit it ends 0x82, one whose
event it may not signal 0x83; else its target, period, actions and event are written and the compare evaluated. SDL_STEER
(R248) steers TB3 by rate, slew or step, gives TB0 its time of day or its step where the source is EXT, and else ends REFUSED
0x84; a slew ends once it has removed its offset at its own rate (the model's choice where R220 limits ADJ_3, log entry 86). -/
def Obligations.SundialWorkItems : Prop :=
  ∀ (wid : Nat) (i : WItem) (s : State),
    (s.active? wid W.SDL_ARM = some i → s.domOn 2 = true → i.payload.length = 8 →
      let k := bitsOf (i.arg 0) 0 2
      let n := bitsOf (i.arg 0) 8 5
      (s.cmpMay k n (i.grp = .int) (i.grp ≠ .ns) = false → exec (.sdlArm wid) s = .next (s.finish wid 0x82)) ∧
      (s.cmpMay k n (i.grp = .int) (i.grp ≠ .ns) = true →
        ((i.arg 0).testBit 16 = true → ∃ t, exec (.sdlArm wid) s = .next t ∧
          t.getF (F.SDL_CMP_CTRL_ARMED (32 * k + n)) = 0 ∧ OnlyFields s t [F.SDL_CMP_CTRL_ARMED (32 * k + n)] ∧
          t = { s.finish wid St.OK with regs := t.regs }) ∧
        ((i.arg 0).testBit 16 = false → (leAt i.payload 0 4).testBit 1 = true →
          s.mayEvent (i.grp ≠ .ns) (bitsOf (leAt i.payload 4 4) 0 8) = false →
          exec (.sdlArm wid) s = .next (s.finish wid 0x83)) ∧
        ((i.arg 0).testBit 16 = false → (leAt i.payload 0 4).testBit 1 = false ∨
            s.mayEvent (i.grp ≠ .ns) (bitsOf (leAt i.payload 4 4) 0 8) = true →
          let s2 := ((((((s.setF (F.SDL_CMP_NS (32 * k + n)) (i.arg 1)).setF (F.SDL_CMP_SEC_LO (32 * k + n)) (i.arg 2)).setF
            (F.SDL_CMP_SEC_HI (32 * k + n)) (i.arg 3)).setF (F.SDL_CMP_PERIOD (32 * k + n)) (i.arg 4)).wr
            (R.SDL_CMP_ACT (32 * k + n)) (word (leAt i.payload 0 4 &&& 0xFFFFF37F))).wr (R.SDL_CMP_EVT (32 * k + n))
            (word (leAt i.payload 4 4 &&& 0xF1FFF)))
          exec (.sdlArm wid) s = .next ((s2.cmpEval k n).2.finish wid
            (if (s2.cmpEval k n).1 = 1 then 0x80 else if (s2.cmpEval k n).1 = 2 then 0x81 else St.OK))))) ∧
    (s.active? wid W.SDL_STEER = some i →
      let tb := bitsOf (i.arg 0) 0 2
      (3 < i.arg 1 → exec (.sdlSteerRate wid) s = .next (s.finish wid 0x84)) ∧
      (i.arg 1 = 0 → exec (.sdlSteerRate wid) s = .next (if tb = 3 then
        ((s.updSdl (fun d => { d with userAdj := (BitVec.ofNat 32 (i.arg 2)).toInt })).retimeAll).finish wid St.OK
        else s.finish wid 0x84)) ∧
      (i.arg 1 = 1 → tb ≠ 3 → exec (.sdlSteerSlew wid) s = .next (s.finish wid 0x84)) ∧
      (i.arg 1 = 1 → tb = 3 → i.arg 3 = 0 ∨ 500000 < i.arg 3 →
        exec (.sdlSteerSlew wid) s = .next (s.finish wid St.BAD_ARG)) ∧
      (i.arg 1 = 1 → tb = 3 → 1 ≤ i.arg 3 → i.arg 3 ≤ 500000 →
        let off := (BitVec.ofNat 32 (i.arg 2)).toInt
        let u := (i.arg 3 : Int) * 65536 / 1000
        exec (.sdlSteerSlew wid) s = .next ((s.updSdl (fun d => { d with
          slew3 := if off = 0 then 0 else if 0 < off then -u else u, slew3Left := off, slew3Frc := s.now })).retimeAll.finish
            wid St.OK)) ∧
      (i.arg 1 = 2 → tb = 0 → s.tb0Src = 1 → s.flag F.SDL_CTRL_STEP_ALLOWED = true →
        ∃ t, exec (.sdlSteerStep wid) s = .next t ∧ t.getF F.SDL_STAT_STEP_PEND = 1 ∧ t.sdl.stepBy = some
          ((((i.arg 3 + 2 ^ 32 * bitsOf (i.arg 4) 0 16) * 1000000000 + i.arg 2 : Nat) : Int) - s.tbRaw 0 / 65536) ∧
          OnlyFields s t [F.SDL_STAT_STEP_PEND] ∧ t = { s.finish wid St.OK with
            regs := t.regs, sdl := { s.sdl with stepBy := t.sdl.stepBy, stepItem := true } }) ∧
      (i.arg 1 = 2 → tb = 3 → exec (.sdlSteerStep wid) s = .next ((((s.updSdl (fun d => { d with
        tbs := d.tbs.set 3 ⟨s.now, ((((i.arg 3 + 2 ^ 32 * bitsOf (i.arg 4) 0 16) * 1000000000 + i.arg 2 : Nat) : Int)) *
          65536, (s.sdl.tbs.getD 3 {}).adj⟩ })).setF (F.SDL_TBk_STAT_STEPPED 3) 1).cmpStep 3).finish wid St.OK)) ∧
      (i.arg 1 = 2 → tb = 1 ∨ tb = 2 ∨ (tb = 0 ∧ (s.tb0Src ≠ 1 ∨ s.flag F.SDL_CTRL_STEP_ALLOWED = false)) →
        exec (.sdlSteerStep wid) s = .next (s.finish wid 0x84)) ∧
      (i.arg 1 = 3 → tb = 0 → s.tb0Src = 1 → exec (.sdlSteerTod wid) s = .next ((s.updSdl (fun d => { d with
        todAt := some (i.arg 3 + 2 ^ 32 * bitsOf (i.arg 4) 0 16) })).finish wid St.OK)) ∧
      (i.arg 1 = 3 → tb ≠ 0 ∨ s.tb0Src ≠ 1 → exec (.sdlSteerTod wid) s = .next (s.finish wid 0x84))) ∧
    (s.sdl.slew3 ≠ 0 →
      let ended := s.sdl.slew3Left.natAbs * (26000 * 65536) ≤ (s.now - s.sdl.slew3Frc) * s.sdl.slew3.natAbs
      (ended → exec .tbSlewDone s = .next ((s.updSdl (fun d => { d with slew3 := 0, slew3Left := 0 })).retimeAll)) ∧
      (¬ ended → exec .tbSlewDone s = .next s))

/-- The slot in progress (R22, R231): with the slot timeline not running, or without a plan, a slot's start leaves SDL_ASN at
floor(TB0 / 2.5 ms) and changes nothing else, but that a swap still takes effect at its boundary (R153); with both, the slot's
pulses go out, the slotframe's boundary acts follow and, unless a step of TB0 is pending there (R232), the cells of the slot.
A slot begun is not begun again. -/
def Obligations.SlotStart : Prop :=
  ∀ s : State,
    (s.domOn 2 = false ∨ s.sdl.lastSlot = some (asnOf (s.tbNs 0)) → exec .slotStart s = .next s) ∧
    (s.domOn 2 = true → s.sdl.lastSlot ≠ some (asnOf (s.tbNs 0)) →
      let s0 := s.setAsn (asnOf (s.tbNs 0))
      (s.flag F.SDL_STAT_SLOT_RUN = false ∨ s.planActive = false →
        (s.planActive = false ∨ s.domOn 3 = false ∨ s0.slotIdx ≠ 0 → ∃ t, exec .slotStart s = .next t ∧
          t.asn = s.tbNs 0 / 2500000 % 2 ^ 40 ∧ OnlyFields s t [F.SDL_ASN_LO, F.SDL_ASN_HI] ∧
          t = { s with regs := t.regs, sdl := { s.sdl with lastSlot := some (asnOf (s.tbNs 0)) } }) ∧
        (s.planActive = true → s.domOn 3 = true → s0.slotIdx = 0 → exec .slotStart s = .next s0.swapBoundary)) ∧
      (s.flag F.SDL_STAT_SLOT_RUN = true → s.planActive = true →
        let s1 := (s.slotEnd.setAsn (asnOf (s.tbNs 0))).slotPulses.announceEnd.joinReload
        let s2 := if s1.slotIdx = 0 then s1.boundaryActs else s1
        let s3 := ((s2.filters 0).filters 1).raiseTask 1
        exec .slotStart s = .next (if s3.slotIdx = 0 ∧ s3.sdl.stepBy.isSome then s3 else s3.runCells)))

/-! ### Wicket -/

/-- Axis control (R453, R455, R456, R463, R467): ENABLE starts the checks, which end in HOLD or with the first failed check's
fault; DISABLE is ignored in motion and ends in DISABLED from rest; ZERO makes the position 0; a limit within its ceiling is
taken and one outside only sets WR_IGNORED; DEC never passes EDEC; a cleared last fault leaves FAULT for DISABLED; STANDSTILL
ms in HOLD start the fall of the current, which has ended 64 ms later. -/
def Obligations.AxisControl : Prop :=
  ∀ (m : Master) (n : Nat) (s : State), n < 4 →
    (s.wrAcc m (R.WKT_AXn_CTRL n) = .ok →
      (s.axUsed n = true → s.axState n = Ax.DISABLED → ∃ t, exec (.wktEnable m n) s = .next t ∧ t.axState n = Ax.CHECKING ∧
        t.axes = updAt n (fun a => { a with winds := [{}, {}], checkFrc := s.now }) s.axes ∧
        t = { s with regs := t.regs, strms := t.strms, axes := t.axes }) ∧
      (s.axUsed n = false ∨ s.axState n ≠ Ax.DISABLED → exec (.wktEnable m n) s = .next s) ∧
      (s.axState n ∈ [Ax.MOVING, Ax.HOMING, Ax.EMERGENCY] → ∃ t, exec (.wktDisable m n) s = .next t ∧
        t.getF (F.WKT_AXn_STAT_WR_IGNORED n) = 1 ∧ OnlyFields s t [F.WKT_AXn_STAT_WR_IGNORED n] ∧
        t = { s with regs := t.regs }) ∧
      (s.axState n ∈ [Ax.HOLD, Ax.STALLED] → (s.ax n).pend = none → ∃ t, exec (.wktDisable m n) s = .next t ∧
        t.axState n = Ax.DISABLED ∧ t.getF (F.WKT_AXn_STAT_HOMED n) = 0 ∧ t.getF (F.WKT_AXn_STAT_REDUCED n) = 0 ∧
        t = { s with regs := t.regs, strms := t.strms, axes := t.axes }) ∧
      (s.axState n ∈ [Ax.DISABLED, Ax.CHECKING, Ax.FAULT] → ∃ t, exec (.wktDisable m n) s = .next t ∧
        t.getF (F.WKT_AXn_STAT_HOMED n) = 0 ∧ OnlyFields s t [F.WKT_AXn_STAT_HOMED n] ∧ t = { s with regs := t.regs }) ∧
      (s.axState n = Ax.HOLD → ∃ t, exec (.wktZero m n) s = .next t ∧ t.getI (F.WKT_AXn_POS n) = 0 ∧
        t.getF (F.WKT_AXn_STAT_HOMED n) = 1 ∧ OnlyFields s t [F.WKT_AXn_POS n, F.WKT_AXn_STAT_HOMED n] ∧
        t = { s with regs := t.regs }) ∧
      (s.axState n = Ax.STALLED →
        exec (.wktZero m n) s = .next ((s.setF (F.WKT_AXn_STAT_HOMED n) 1).enterHold n 0)) ∧
      (s.axState n ∉ [Ax.HOLD, Ax.STALLED] → exec (.wktZero m n) s = .next s)) ∧
    (∀ sc ia ib vm, s.wktOn n = true → s.axState n = Ax.CHECKING →
      let ok : Prop := -300 ≤ vm ∧ s.vmMin n ≤ vm ∧ vm ≤ s.vmMax n
      let open_ (i : Nat) : Bool := 10 * i < s.getF (F.WKT_AXn_IRUN_IRUN n)
      (vm < -300 → exec (.wktCheckDone n sc ia ib vm) s = .next (s.axFault n 0x10 vm)) ∧
      (-300 ≤ vm → vm < s.vmMin n → exec (.wktCheckDone n sc ia ib vm) s = .next (s.axFault n 0x20 vm)) ∧
      (-300 ≤ vm → s.vmMin n ≤ vm → s.vmMax n < vm →
        exec (.wktCheckDone n sc ia ib vm) s = .next (s.axFault n 0x40 vm)) ∧
      (∀ sw, ok → sc = some sw → exec (.wktCheckDone n sc ia ib vm) s =
        .next ((s.setF (F.WKT_AXn_FAULT_SC_SWITCH n) sw).axFault n 0x80 vm)) ∧
      (ok → sc = none → (open_ ia || open_ ib) = true → exec (.wktCheckDone n sc ia ib vm) s =
        .next (s.axFault n (0x100 * b2n (open_ ia) + 0x200 * b2n (open_ ib)) vm)) ∧
      (ok → sc = none → open_ ia = false → open_ ib = false → exec (.wktCheckDone n sc ia ib vm) s =
        .next ((s.updAx n (fun a => { a with vm := some vm })).enterHold n (s.getI (F.WKT_AXn_POS n))))) ∧
    (∀ v : Word, s.wrAcc m (R.WKT_AXn_VMAX n) = .ok →
      (1 ≤ v.toNat → v.toNat ≤ s.axCeil n 28 → ∃ t, exec (.wktLimitWrite m n 0x18 v) s = .next t ∧
        t.getF (F.WKT_AXn_VMAX n) = v.toNat ∧ OnlyFields s t [F.WKT_AXn_VMAX n] ∧ t = { s with regs := t.regs }) ∧
      (v.toNat = 0 ∨ s.axCeil n 28 < v.toNat → ∃ t, exec (.wktLimitWrite m n 0x18 v) s = .next t ∧
        t.getF (F.WKT_AXn_STAT_WR_IGNORED n) = 1 ∧ OnlyFields s t [F.WKT_AXn_STAT_WR_IGNORED n] ∧
        t = { s with regs := t.regs })) ∧
    (∀ v : Word, s.wrAcc m (R.WKT_AXn_DEC n) = .ok → (s.ax n).edecNew = none →
      (1 ≤ v.toNat → v.toNat ≤ 2 * s.axCeil n 36 → v.toNat ≤ s.getF (F.WKT_AXn_EDEC n) → s.brakingTo n = none →
        ∃ t, exec (.wktDecelWrite m n false v) s = .next t ∧ t.getF (F.WKT_AXn_DEC n) = v.toNat ∧
          t.axes = updAt n (fun a => { a with decNew := none }) s.axes ∧
          OnlyFields s t [F.WKT_AXn_DEC n] ∧ t = { s with regs := t.regs, axes := t.axes }) ∧
      (v.toNat = 0 ∨ 2 * s.axCeil n 36 < v.toNat ∨ s.getF (F.WKT_AXn_EDEC n) < v.toNat →
        ∃ t, exec (.wktDecelWrite m n false v) s = .next t ∧ t.getF (F.WKT_AXn_STAT_WR_IGNORED n) = 1 ∧
          OnlyFields s t [F.WKT_AXn_STAT_WR_IGNORED n] ∧ t = { s with regs := t.regs })) ∧
    (∀ v : Word, s.wrAcc m (R.WKT_AXn_EDEC n) = .ok → (s.ax n).decNew = none → s.axState n ≠ Ax.EMERGENCY →
      1 ≤ v.toNat → v.toNat ≤ 2 * s.axCeil n 40 → s.getF (F.WKT_AXn_DEC n) ≤ v.toNat →
        ∃ t, exec (.wktDecelWrite m n true v) s = .next t ∧ t.getF (F.WKT_AXn_EDEC n) = v.toNat ∧
          OnlyFields s t [F.WKT_AXn_EDEC n] ∧ t = { s with regs := t.regs }) ∧
    (∀ v : Word, s.wrAcc m (R.WKT_AXn_EDEC n) = .ok →
      v.toNat = 0 ∨ 2 * s.axCeil n 40 < v.toNat ∨ v.toNat < s.getF (F.WKT_AXn_DEC n) →
        ∃ t, exec (.wktDecelWrite m n true v) s = .next t ∧ t.getF (F.WKT_AXn_STAT_WR_IGNORED n) = 1 ∧
          OnlyFields s t [F.WKT_AXn_STAT_WR_IGNORED n] ∧ t = { s with regs := t.regs }) ∧
    (∀ (mask : Word) absent, s.wrAcc m (R.WKT_AXn_FAULT n) = .ok →
      let f : Fld := ⟨R.WKT_AXn_FAULT n, 0, 11⟩
      let left := s.getF f - (s.getF f &&& mask.toNat &&& absent)
      (left ≠ 0 → ∃ t, exec (.wktFaultClear m n mask absent) s = .next t ∧ t.getF f = left ∧ OnlyFields s t [f] ∧
        t = { s with regs := t.regs }) ∧
      (s.getF f ≠ 0 → left = 0 → s.axState n = Ax.FAULT → ∃ t, exec (.wktFaultClear m n mask absent) s = .next t ∧
        t.getF f = 0 ∧ t.axState n = Ax.DISABLED ∧ t = { s with regs := t.regs, strms := t.strms })) ∧
    (s.wktOn n = true → s.axState n = Ax.HOLD →
      (s.getF (F.WKT_AXn_STAT_REDUCED n) = 0 → exec (.wktStandstillExpiry n) s =
        .next (if s.since (s.ax n).holdFrc (s.standstillUs n) then s.updAx n (fun a => { a with reducing := true }) else s)) ∧
      ((s.ax n).reducing = true → s.since (s.ax n).holdFrc (s.standstillUs n + 64000) = true →
        ∃ t, exec (.wktReduceDone n) s = .next t ∧ t.getF (F.WKT_AXn_STAT_REDUCED n) = 1 ∧
        t.axes = updAt n (fun a => { a with iset := s.getF (F.WKT_AXn_IRUN_IHOLD n), reducing := false }) s.axes ∧
        OnlyFields s t [F.WKT_AXn_STAT_REDUCED n] ∧ t = { s with regs := t.regs, axes := t.axes }) ∧
      (s.since (s.ax n).holdFrc (s.standstillUs n + 64000) = false → exec (.wktReduceDone n) s = .next s))

/-- Is a WKT_HOME item one the axis takes (R464, R465)? -/
def homeTaken (s : State) (i : WItem) : Bool :=
  !s.stopStands && !i.stopped && bitsOf (i.arg 0) 2 6 = 0 && bitsOf (i.arg 0) 11 21 = 0 && i.payload.isEmpty && i.arg 1 ≠ 0 &&
    (!(i.arg 0).testBit 8 || leAt (s.axRec i.axis) 1 1 ≠ 0xFF) && s.axUsed i.axis &&
    (s.axState i.axis = Ax.HOLD || s.axState i.axis = Ax.STALLED) && i.arg 1 ≤ s.getF (F.WKT_AXn_VMAX i.axis)

/-- Axis moves (R457–R465): an item is turned away with the first refusal that holds or waits as the axis's pending move; a
homing item taken leaves the axis in HOMING; a table starts, ends in HOLD at its last knot once its time is over, an emergency
ramp ends with its items' status 0x84 once v is 0; home is found by a stall, which stops the axis at once, or by an edge of
HOME_GPIO to its level, or is not found once the travel is spent: the axis then brakes at DEC, and stands in HOLD once v is 0.
-/
def Obligations.AxisMoves : Prop :=
  (∀ (wid : Nat) (i : WItem) (s : State), s.active? wid W.WKT_MOVE = some i →
    (bitsOf (i.arg 0) 4 2 ≠ 1 →
      (∀ st, s.moveRefused i (wktKnots i.payload) = some st →
        exec (.wktMoveTable wid) s = .next (s.axFinish i.axis i.wid st)) ∧
      (∀ ks, wktKnots i.payload = some ks → s.moveRefused i (some ks) = none →
        exec (.wktMoveTable wid) s = .next (((s.park i.wid).updAx i.axis (fun a => { a with pend := some {
          wid := i.wid, knots := ks, shared := bitsOf (i.arg 0) 8 2 = 1, rel := (i.arg 0).testBit 12
          target := none } })).tryStart i.axis))) ∧
    (bitsOf (i.arg 0) 4 2 = 1 →
      (∀ st, s.moveRefused i (wktKnots i.payload) = some st →
        exec (.wktMoveTarget wid) s = .next (s.axFinish i.axis i.wid st)) ∧
      (i.payload = [] → s.moveRefused i none = none →
        exec (.wktMoveTarget wid) s = .next (((s.park i.wid).updAx i.axis (fun a => { a with pend := some {
          wid := i.wid, knots := [], shared := bitsOf (i.arg 0) 8 2 = 1, rel := (i.arg 0).testBit 12
          target := some (leAtI (leBytes 4 (i.arg 1)) 0 4) } })).tryStart i.axis)))) ∧
  (∀ (wid : Nat) (i : WItem) (s : State), s.active? wid W.WKT_HOME = some i →
    (homeTaken s i = true → ∀ c, c = (if (i.arg 0).testBit 8 then Instr.wktHomeSwitch wid else Instr.wktHomeStall wid) →
      ∃ t, exec c s = .next t ∧ t.axState i.axis = Ax.HOMING ∧
        t.axes = updAt i.axis (fun a => { a with
          homing := some ⟨i.wid, (i.arg 0).testBit 8, (i.arg 0).testBit 9, (i.arg 0).testBit 10, i.arg 1,
            leAtI (leBytes 4 (i.arg 2)) 0 4, i.arg 3, s.getF (F.WKT_AXn_ACC i.axis), none⟩
          braking := none, rampS := (s.getI (F.WKT_AXn_POS i.axis) : Int), rampFrc := s.now, reducing := false, stallRun := 0
          iset := s.getF (F.WKT_AXn_IRUN_IRUN i.axis) }) s.axes ∧
        t = { s with regs := t.regs, strms := t.strms, axes := t.axes, arb := t.arb }) ∧
    (s.stopStands = true ∨ i.stopped = true → ∀ c,
      c = (if (i.arg 0).testBit 8 then Instr.wktHomeSwitch wid else Instr.wktHomeStall wid) →
      exec c s = .next (s.axFinish i.axis i.wid St.FROZEN))) ∧
  (∀ (n : Nat) (s : State), s.wktOn n = true →
    (∀ w, (s.ax n).pend = some w → w.shared = false ∨ w.due = true → s.axState n = Ax.HOLD → w.target = none →
      (w.rel = true ∨ w.knots.head?.map (·.s) = some (s.getI (F.WKT_AXn_POS n)) → ∃ t,
        exec (.wktTableStart n) s = .next t ∧ t.axState n = Ax.MOVING ∧ t.getF (F.WKT_AXn_STAT_REDUCED n) = 0 ∧
        (t.ax n).cur = some w ∧ (t.ax n).pend = none ∧ (t.ax n).start = s.now ∧
        t = { s with regs := t.regs, strms := t.strms, axes := t.axes }) ∧
      (w.rel = false → w.knots.head?.map (·.s) ≠ some (s.getI (F.WKT_AXn_POS n)) →
        exec (.wktTableStart n) s =
          .next (((s.applyDeferred n).updAx n (fun a => { a with pend := none })).axFinish n w.wid 0x88))) ∧
    (∀ w, (s.ax n).cur = some w → s.axState n = Ax.MOVING →
      (s.moveOver n w = true → (s.ax n).pend = none →
        let p := (s.ax n).base + ((w.knots.getLast?.map (·.s)).getD 0)
        exec (.wktTableEnd n) s = .next ((((((s.setI (F.WKT_AXn_POS n) p).updAx n (fun a => { a with
          cur := none, braking := none })).setF (F.WKT_AXn_STAT_TABLE_DONE n) 1).axFinish n w.wid St.OK).wktEvent 6 n St.OK
            p).enterHold n p)) ∧
      (s.moveOver n w = false → exec (.wktTableEnd n) s = .next s)) ∧
    (s.axState n = Ax.EMERGENCY →
      (ratAbs (s.ax n).rampV ≤ s.getF (F.WKT_AXn_EDEC n) * s.secsFrom (s.ax n).rampFrc →
        let p := (brakeEnd (s.ax n).rampS (s.ax n).rampV (s.getF (F.WKT_AXn_EDEC n))).floor
        exec (.wktRampEnd n) s = .next ((s.ax n).ending.foldl (fun t w => t.axEnd n w 0x84 p)
          ((s.setI (F.WKT_AXn_POS n) p).enterHold n p))) ∧
      (s.getF (F.WKT_AXn_EDEC n) * s.secsFrom (s.ax n).rampFrc < ratAbs (s.ax n).rampV →
        exec (.wktRampEnd n) s = .next s)) ∧
    (∀ h, (s.ax n).homing = some h → s.axState n = Ax.HOMING →
      let brakes (p : Rat) (st : Nat) : Axis → Axis := fun a => { a with
        homing := some { h with ended := some st }, braking := some (s.getF (F.WKT_AXn_DEC n) : Rat), rampS := p
        rampV := (s.axSV n).2, rampFrc := s.now }
      (∀ level, h.ended = none →
        (h.switch = false → s.stallSeen n = true →
          exec (.wktHomeFound n level) s = .next ((((s.wktEvent 4 n 0 (s.axS n)).enterHold n h.home).setF
            (F.WKT_AXn_STAT_HOMED n) 1).axFinish n h.wid St.OK)) ∧
        (h.switch = true → level = h.level → ∃ t, exec (.wktHomeFound n level) s = .next t ∧
          t.axes = updAt n (brakes h.home St.OK) (s.wktEvent 4 n 1 (s.axS n)).axes ∧
          t = { s.wktEvent 4 n 1 (s.axS n) with axes := t.axes })) ∧
      (∀ level, h.ended ≠ none ∨ (h.switch = false ∧ s.stallSeen n = false) ∨ (h.switch = true ∧ level ≠ h.level) →
        exec (.wktHomeFound n level) s = .next s) ∧
      (h.ended = none → (h.travel : Rat) ≤ ratAbs ((s.axSV n).1 - (s.ax n).rampS) →
        exec (.wktHomeNotFound n) s = .next { s with axes := updAt n (brakes (s.axSV n).1 0x86) s.axes }) ∧
      (h.ended ≠ none ∨ ratAbs ((s.axSV n).1 - (s.ax n).rampS) < (h.travel : Rat) →
        exec (.wktHomeNotFound n) s = .next s) ∧
      (∀ st d, h.ended = some st → (s.ax n).braking = some d →
        (ratAbs (s.ax n).rampV ≤ d * s.secsFrom (s.ax n).rampFrc →
          let t := s.enterHold n (brakeEnd (s.ax n).rampS (s.ax n).rampV d).floor
          s.homeStep n = (if st = St.OK then t.setF (F.WKT_AXn_STAT_HOMED n) 1 else t).axFinish n h.wid st) ∧
        (d * s.secsFrom (s.ax n).rampFrc < ratAbs (s.ax n).rampV → s.homeStep n = s))))

/-- Axis faults and stalls (R83, R450, R452, R454): each fault's bits are added to WKT_AXn_FAULT and the axis stops in FAULT,
for a current above OC, a driven phase shorted to GND and an on-phase that TON_MAX ends at 5 % of full scale or less; one it
ends above that is counted; a motor supply within its limits faults nothing; VM_HIGH_NOW follows the supply; once STALL_STEPS
zero crossings have shown the load angle a stall is counted, loses HOMED and, with STALL_STOP, ends the move. -/
def Obligations.AxisFaults : Prop :=
  ∀ (n : Nat) (vm : Int) (s : State), s.wktOn n = true → s.axUsed n = true →
    (∀ i, s.axOc n < i → exec (.wktOvercurrent n false i vm) s = .next (s.axFault n 1 vm) ∧
      exec (.wktOvercurrent n true i vm) s = .next (s.axFault n 2 vm)) ∧
    (∀ b i, i ≤ s.axOc n → exec (.wktOvercurrent n b i vm) s = .next s) ∧
    (∀ v, v < vm - 300 → (s.gateOn n 0 = true → exec (.wktPhaseGndShort n false v vm) s = .next (s.axFault n 4 vm)) ∧
      (s.gateOn n 4 = true → exec (.wktPhaseGndShort n true v vm) s = .next (s.axFault n 8 vm))) ∧
    (∀ b v, vm - 300 ≤ v ∨ s.gateOn n (if b then 4 else 0) = false → exec (.wktPhaseGndShort n b v vm) s = .next s) ∧
    (∀ b, b < 2 → s.chopOn n = true →
      let vm' := (s.ax n).vm.getD (BitVec.ofNat 16 (s.measured (R.WKT_AXn_VM n) 16)).toInt
      let oc := s.axFault n (if b = 0 then 1 else 2) vm'
      (∃ t, s.windTick n b = if s.axOc n < (s.windCurrent n b).natAbs then oc else t) ∧
      (∀ w, (s.ax n).winds[b]? = some w → s.zeroHold n b = false → w.phase = .on →
        w.neg = decide (s.windTarget n b < 0) → w.frc + 1040 ≤ s.now → w.read = true →
        let i : Int := if w.neg then -s.windCurrent n b else s.windCurrent n b
        let full : Int := 2500000 / max (leAt (s.axRec n) 2 2) 1
        ∃ t : State, t = { s with axes := t.axes } ∧ s.windTick n b =
          if s.axOc n < (s.windCurrent n b).natAbs then oc
          else if 2 * ((s.windTarget n b).natAbs : Int) + leAt (s.axRec n) 10 2 + 2 * w.ofs ≤ 2 * i then t
          else if full < 20 * i then t.incF (F.WKT_AXn_CNT_TON_LIMIT n)
          else t.axFault n (if b = 0 then 4 else 8) vm')) ∧
    (∀ c bits, (c, bits) = (Instr.wktVmReversed n vm, 0x10) ∧ vm < -300 ∨ (c, bits) = (Instr.wktVmLow n vm, 0x20) ∧ vm < s.vmMin n ∨
        (c, bits) = (Instr.wktVmOver n vm, 0x40) ∧ 6300 < vm →
      exec c s = .next (s.axFault n bits vm)) ∧
    (∀ bits, (s.axFault n bits vm).axState n = Ax.FAULT ∧
      (s.axFault n bits vm).getF ⟨R.WKT_AXn_FAULT n, 0, 11⟩ =
        (s.getF ⟨R.WKT_AXn_FAULT n, 0, 11⟩ ||| bits) % 2 ^ 11) ∧
    (s.vmMin n ≤ vm → exec (.wktVmLow n vm) s = .next s) ∧ (vm ≤ 6300 → exec (.wktVmOver n vm) s = .next s) ∧
    (-300 ≤ vm → exec (.wktVmReversed n vm) s = .next s) ∧
    (s.vmMax n < vm → ∃ t, exec (.wktVmHigh n vm) s = .next t ∧ t.getF (F.WKT_AXn_STAT_VM_HIGH_NOW n) = 1 ∧
      t.axes = updAt n (fun a => { a with vm := some vm }) s.axes ∧
      OnlyFields s t [F.WKT_AXn_STAT_VM_HIGH_NOW n] ∧ t = { s with regs := t.regs, axes := t.axes }) ∧
    (vm ≤ s.vmMax n - 100 → ∃ t, exec (.wktVmHighEnd n vm) s = .next t ∧ t.getF (F.WKT_AXn_STAT_VM_HIGH_NOW n) = 0 ∧
      t.axes = updAt n (fun a => { a with vm := some vm }) s.axes ∧
      OnlyFields s t [F.WKT_AXn_STAT_VM_HIGH_NOW n] ∧ t = { s with regs := t.regs, axes := t.axes }) ∧
    (s.axState n = Ax.MOVING → (s.ax n).homing = none →
      (s.stallSeen n = false → exec (.wktStall n) s = .next s) ∧
      (s.stallSeen n = true → s.axStallStop n = false →
        ∃ t, exec (.wktStall n) s = .next t ∧ t.getF (F.WKT_AXn_FAULT_STALL n) = 1 ∧
        t.getF (F.WKT_AXn_STAT_HOMED n) = 0 ∧ t.axState n = Ax.MOVING ∧
        t.getF (F.WKT_AXn_CNT_STALLS n) = min (s.getF (F.WKT_AXn_CNT_STALLS n) + 1) (2 ^ (F.WKT_AXn_CNT_STALLS n).width - 1) ∧
        t.axes = updAt n (fun a => { a with stallRun := 0 }) s.axes ∧
        t = { s with regs := t.regs, strms := t.strms, axes := t.axes }) ∧
      (s.stallSeen n = true → s.axStallStop n = true →
        let p := s.axS n
        let s1 := ((((s.setF (F.WKT_AXn_FAULT_STALL n) 1).setBit F.WKT_STAT_FAULT_SEEN n).setBit
          F.WKT_STAT_STALL_SEEN n).incF (F.WKT_AXn_CNT_STALLS n)).setF (F.WKT_AXn_STAT_HOMED n) 0
        let s2 := (s1.wktEvent 3 n (s.getF (F.WKT_AXn_LOAD_PHI n)) p).updAx n (fun a => { a with stallRun := 0 })
        let s3 := (s.ax n).inForce.foldl (fun t w => t.axEnd n w 0x87 p) (s2.dropPend n 0x87)
        exec (.wktStall n) s = .next ((((s3.setI (F.WKT_AXn_POS n) p).updAx n (fun a => { a with
          cur := none, homing := none, braking := none, ending := []
          iset := s.getF (F.WKT_AXn_IRUN_IHOLD n) })).applyDeferred n).setAx n Ax.STALLED)))

/-! ### Gazebo -/

/-- A level input and its test pulse (R425, R438): an input that opens outside its own pulse raises its cause, one that opens
inside it does not, and within 50 µs of the other loop's fall it is the first half of CROSS; an input that closes ends the
level cause; a pulse starts when it is due with none on either loop; a comparator still closed 50 µs after the fall is
IN_STUCK; a pulse that passes at its rise + 50 µs sets PROVEN and counts, and one whose fall failed, or whose loop is
at the limit of its driver or reads reversed, does neither; one still open there is a stop. -/
def Obligations.LoopInputsAndPulses : Prop :=
  ∀ (i : Nat) (s : State), s.gzOn = true →
    (i < 3 → s.flag (gzInput i) = false → exec (.stopInputEdge i) s = .next s) ∧
    (i < 3 → s.flag (gzInput i) = true → (i = 2 ∨ s.flag (gzPulse i) = false) →
      (s.inOther i 0 50 = false → exec (.stopInputEdge i) s = .next ((s.setF (gzInput i) 0).loopDiff.levelCause i)) ∧
      (s.inOther i 0 50 = true → exec (.stopInputEdge i) s = .next (((s.setF (gzInput i) 0).loopDiff.updTest (1 - i)
        (fun t => { t with otherFell := true })).levelCause i))) ∧
    (i < 2 → s.flag (gzInput i) = true → s.flag (gzPulse i) = true → s.inOther i 0 50 = false →
      ∃ t, exec (.stopInputEdge i) s = .next t ∧ t.flag (gzInput i) = false ∧ OnlyFields s t [gzInput i] ∧
        t = { s with regs := t.regs }) ∧
    (i < 3 → s.inOther i 300 350 = false → ∃ t, exec (.loopReadsClosed i) s = .next t ∧ t.flag (gzInput i) = true ∧
      t.bit F.GZB_CAUSE_NOW_LEVEL i = false ∧ OnlyFields s t [gzInput i, F.GZB_CAUSE_NOW_LEVEL] ∧
      t = { s with regs := t.regs, gzb := { s.gzb with diffFrc := t.gzb.diffFrc } }) ∧
    (i < 2 → s.flag (gzPulse 0) = false → s.flag (gzPulse 1) = false →
      (s.pulseDue i = true → ∃ t, exec (.testPulse i) s = .next t ∧
        t.flag (gzPulse i) = true ∧ t.gzb.test i = { s.gzb.test i with
          tpFrc := s.now, fallFail := false, otherFell := false, otherRose := false, crossFail := false } ∧
        OnlyFields s t [gzPulse i] ∧ t = { s with regs := t.regs, gzb := t.gzb }) ∧
      (s.pulseDue i = false → exec (.testPulse i) s = .next s)) ∧
    (s.flag (gzPulse 0) = true ∨ s.flag (gzPulse 1) = true → exec (.testPulse i) s = .next s) ∧
    (i < 2 → s.flag (gzPulse i) = true →
      (s.flag (gzInput i) = false ∨ s.since (s.gzb.test i).tpFrc 50 = false → exec (.fallJudgement i) s = .next s) ∧
      (s.flag (gzInput i) = true → s.since (s.gzb.test i).tpFrc 50 = true → exec (.fallJudgement i) s =
        .next ((s.updTest i (fun t => { t with fallFail := true })).gzbFault (2 + i))) ∧
      (s.since (s.gzb.test i).tpFrc 350 = false → exec (.riseJudgement i) s = .next s) ∧
      (s.since (s.gzb.test i).tpFrc 350 = true → ((s.gzb.test i).otherFell && (s.gzb.test i).otherRose) = false →
        (s.flag (gzInput i) = true →
          ((s.gzb.test i).fallFail = false → (s.gzb.test i).tpLimit = false → (s.gzb.test i).reversed = false →
            ∃ t, exec (.riseJudgement i) s = .next t ∧ t.flag (gzPulse i) = false ∧ t.flag (gzProven i) = true ∧
              t.getF ⟨R.GZB_PULSE_CNT, 16 * i, 16⟩ = (s.getF ⟨R.GZB_PULSE_CNT, 16 * i, 16⟩ + 1) % 65536 ∧
              OnlyFields s t [gzPulse i, gzProven i, ⟨R.GZB_PULSE_CNT, 16 * i, 16⟩] ∧
              t = { s with regs := t.regs, gzb := t.gzb }) ∧
          ((s.gzb.test i).fallFail = true ∨ (s.gzb.test i).tpLimit = true ∨ (s.gzb.test i).reversed = true → ∃ t, exec (.riseJudgement i) s = .next t ∧ t.flag (gzPulse i) = false ∧
            OnlyFields s t [gzPulse i] ∧ t = { s with regs := t.regs, gzb := t.gzb })) ∧
        (s.flag (gzInput i) = false → exec (.riseJudgement i) s = .next (((s.setF (gzPulse i) 0).updTest i (fun t => { t with
          crossFail := false, lastPassed := false })).loopDiff.levelCause i))) ∧
      (s.since (s.gzb.test i).tpFrc 350 = true → (s.gzb.test i).otherFell = true → (s.gzb.test i).otherRose = true →
        s.flag (gzInput i) = true → exec (.riseJudgement i) s = .next (((s.setF (gzPulse i) 0).updTest i (fun t => { t with
          crossFail := true, lastPassed := false })).loopDiff.gzbFault 4)))

/-- The rest of the self-test (R79, R438–R442, R447): each detection latches its bit of GZB_FAULT; the loops reading
differently for 500 ms are DISCREPANCY; samples that agree with the comparators latch none; two RF self-tests made in a row in
phase 25 ms (counted from loop A's last pulse: the model's reading, log entry 88) that fail are TX_FAULT; a shorted coil's
driver goes off; a W1C write clears the bits whose condition no longer holds, and those alone. -/
def Obligations.SelfTestFaults : Prop :=
  ∀ s : State, s.gzOn = true →
    (∀ i, i < 2 →
      exec (.tpShortDetect i) s = .next ((s.updTest i (fun t => { t with tpLimit := true })).gzbFault i) ∧
      exec (.loopReverseDetect i) s = .next ((s.updTest i (fun t => { t with reversed := true })).gzbFault (5 + i))) ∧
    exec .chMismatchDetect s = .next (s.gzbFault 10) ∧
    (∀ f, s.gzb.diffFrc = some f → exec .discrepancyDetect s = .next (if s.since f 500000 then s.gzbFault 9 else s)) ∧
    (s.gzb.diffFrc = none → exec .discrepancyDetect s = .next s) ∧
    (∀ bit, bit < 16 → (s.gzbFault bit).bit ⟨R.GZB_FAULT, 0, 16⟩ bit = true) ∧
    (∀ a b : Int, (s.flag (gzInput 0) = true → 500 < a) → (s.flag (gzInput 0) = false → a < 1500) →
      (s.flag (gzInput 1) = true → 500 < b) → (s.flag (gzInput 1) = false → b < 1500) → s.gzb.faultDue = [] →
      ∃ t, exec (.monitorSample a b) s = .next t ∧ t.getF F.GZB_LOOP_V_IN_A = (a % 65536).toNat ∧
        t.getF F.GZB_LOOP_V_IN_B = (b % 65536).toNat ∧ (t.gzb.test 0).mismatch = 0 ∧ (t.gzb.test 1).mismatch = 0 ∧
        OnlyFields s t [F.GZB_LOOP_V_IN_A, F.GZB_LOOP_V_IN_B] ∧ t = { s with regs := t.regs, gzb := t.gzb }) ∧
    (∀ power off : Int, s.gzb.train = none → s.rfPhase = true →
      (s.rfLimit ≤ power → -200 ≤ off → off ≤ 200 → exec (.rfSelfTest power off) s =
        .next { s with gzb := { s.gzb with rfResults := [true] } }) ∧
      (power < s.rfLimit ∨ off < -200 ∨ 200 < off → s.gzb.rfResults.head? = some false →
        exec (.rfSelfTest power off) s =
          .next (State.gzbFault { s with gzb := { s.gzb with rfResults := [false] } } 11)) ∧
      (power < s.rfLimit ∨ off < -200 ∨ 200 < off → s.gzb.rfResults.head? ≠ some false →
        exec (.rfSelfTest power off) s = .next { s with gzb := { s.gzb with rfResults := [false] } })) ∧
    (∀ power off : Int, s.gzb.train.isSome = true ∨ s.rfPhase = false → exec (.rfSelfTest power off) s = .next s) ∧
    (∀ k, k < 2 → s.relUsed k = true → s.relOn k = true →
      exec (.coilShortDetect k) s = .next ((s.relOff k).gzbFault (14 + k)) ∧
      exec (.coilOpenDetect k) s = .next (if s.since s.gzb.relFrc 20000 then s.gzbFault (12 + k) else s)) ∧
    (∀ (m : Master) (mask : Word) absent, s.wrAcc m R.GZB_FAULT = .ok →
      ∃ t, exec (.gzbFaultClear m mask absent) s = .next t ∧
        (∀ b, b < 16 → t.bit ⟨R.GZB_FAULT, 0, 16⟩ b =
          (s.bit ⟨R.GZB_FAULT, 0, 16⟩ b && !(mask.toNat.testBit b && !s.faultHolds b absent))) ∧
        OnlyFields s t [⟨R.GZB_FAULT, 0, 16⟩] ∧ t = { s with regs := t.regs, gzb := t.gzb })

/-- A cause that arrives in RUN or CLEARING is a new stop (R37, R427): STOPPED, both channels and both relays off, STOP_CNT
one above (0 skipped), FIRST the cause, the edge's FRC kept. Neither loop can be disabled (R76): whatever the registers and
the plan hold, a loop that opens outside its test pulse is that stop, with its level cause active and PROVEN cleared. In INIT
and STOPPED a cause already shown changes nothing of the stop. The host's write of GZB_STOP is the cause HOST with its KEY,
and nothing without. -/
def Obligations.NewStop : Prop :=
  (∀ (bit member : Nat) (s : State), bit < 11 → s.gzState = Gz.RUN ∨ s.gzState = Gz.CLEARING →
    let t := s.raiseCause bit member
    t.gzState = Gz.STOPPED ∧ t.getF F.GZB_STAT_CH_A_RUN = 0 ∧ t.getF F.GZB_STAT_CH_B_RUN = 0 ∧ t.pads.rel1 = false ∧
      t.pads.rel2 = false ∧ t.getF F.GZB_STAT_STOP_CNT = nextCnt (s.getF F.GZB_STAT_STOP_CNT) ∧
      t.getF F.GZB_CAUSE_FIRST = bit ∧ t.gzb.edgeFrc = s.frc) ∧
  (∀ (i : Nat) (s : State), i < 2 → s.gzOn = true → s.gzState = Gz.RUN ∨ s.gzState = Gz.CLEARING →
    s.flag (gzInput i) = true → s.flag (gzPulse i) = false → s.bit F.GZB_CAUSE_NOW_LEVEL i = false →
    ∃ t, exec (.stopInputEdge i) s = .next t ∧ t.gzState = Gz.STOPPED ∧ t.bit F.GZB_CAUSE_NOW_LEVEL i = true ∧
      t.flag (gzProven i) = false ∧ t.getF F.GZB_CAUSE_FIRST = i ∧ t.pads.rel1 = false ∧ t.pads.rel2 = false) ∧
  (∀ (bit member : Nat) (s : State), 3 ≤ bit → s.gzState ≠ Gz.RUN → s.gzState ≠ Gz.CLEARING →
    s.bit F.GZB_CAUSE_CAUSE bit = true →
    s.raiseCause bit member = { s with gzb := { s.gzb with causes := s.gzb.causes + 1 } }) ∧
  (∀ (m : Master) (v : Word) (s : State), s.wrAcc m R.GZB_STOP = .ok →
    (v.getLsbD 0 = true → v.toNat / 65536 = 0xC3A5 → exec (.gzbStopWrite m v) s = .next (s.raiseCause Cause.HOST)) ∧
    (v.getLsbD 0 = false ∨ v.toNat / 65536 ≠ 0xC3A5 → exec (.gzbStopWrite m v) s = .next s))

/-- Stop trains, the first key and the clear (R427–R435, R443–R445): a standing stop repeats its train at slot starts, which
ends after its time, counted and with the pads back; INIT is left with a key and a word; task 11 loads CURRENT and NEXT; a
clear is refused with the first failing check, waits for D13, and while a use of its key is counted, and one that passes waits for its store
write, after which checks 1, 2 and 5 are made again, whatever has become of the item. -/
def Obligations.TrainsAndClear : Prop :=
  ∀ s : State,
    (∀ r net rfb, s.gzOn = true → s.stopStands = true → s.gzb.train = none → s.gzb.radio = some (r, net, rfb) →
      s.trainSlot = true → ∃ t, exec .stopTrainRepeat s = .next t ∧ t.getF F.GZB_STAT_KEYING = 1 ∧
        t.gzb = { s.gzb with train := some ⟨s.now, false, false, s.keyed⟩ } ∧
        t.pads = { s.pads with paEnA := true, lnaEnA := false } ∧ OnlyFields s t [F.GZB_STAT_KEYING] ∧
        t = { s with regs := t.regs, gzb := t.gzb, pads := t.pads, bsa := s.bsa.cut s.now 68 }) ∧
    (s.stopStands = false ∨ s.gzb.train ≠ none ∨ s.trainSlot = false → exec .stopTrainRepeat s = .next s) ∧
    (∀ x, s.gzb.train = some x →
      (s.since x.frc (if x.initial then 544 else 68) = false → exec .stopTrainEnd s = .next s) ∧
      (s.since x.frc (if x.initial then 544 else 68) = true → ∃ t, exec .stopTrainEnd s = .next t ∧
        t.getF F.GZB_STAT_KEYING = 0 ∧
        t.getF F.GZB_WORDS = min (s.getF F.GZB_WORDS + if x.initial then 16 else 2) (2 ^ F.GZB_WORDS.width - 1) ∧
        t.gzb = { s.gzb with train := none } ∧ t.pads.paEnA = false ∧ t.pads.lnaEnA = t.lnaRest 0 ∧
        (x.rfb = true → t.pads.paEnB = false ∧ t.pads.lnaEnB = t.lnaRest 1) ∧
        (x.rfb = false → t.pads.paEnB = s.pads.paEnB ∧ t.pads.lnaEnB = s.pads.lnaEnB) ∧
        OnlyFields s t [F.GZB_STAT_KEYING, F.GZB_WORDS] ∧ t = { s with regs := t.regs, gzb := t.gzb, pads := t.pads })) ∧
    (s.gzState = Gz.INIT → s.flag F.GZB_STAT_KEY_VALID = true → s.flag F.GZB_STAT_WORD_READY = true →
      exec .gzbInitExit s =
        .next (((s.setF F.GZB_STAT_STATE Gz.STOPPED).setF F.GZB_STAT_ARMED 1).setF F.GZB_STAT_STOP_CNT 1).stopWords) ∧
    (s.gzState ≠ Gz.INIT ∨ s.flag F.GZB_STAT_KEY_VALID = false ∨ s.flag F.GZB_STAT_WORD_READY = false →
      exec .gzbInitExit s = .next s) ∧
    (∀ k, s.gzOn = true → s.domOn 8 = true → s.keysWithheld = false → s.bsa.key? 0xFF = some k →
      exec (.stopKeyLoad false) s = .next (s.setStopKeys (some k.key) s.gzb.nextKey) ∧
      (∀ x, k.next = some x → exec (.stopKeyLoad true) s = .next (s.setStopKeys s.gzb.curKey (some x)))) ∧
    (∀ wid i c, s.active? wid W.GZB_CLEAR = some i → i.phase = .running c →
      (i.payload.length ≠ 16 →
        exec (.gzbClear wid) s = .next ((s.setF F.GZB_CLEAR_STAT St.BAD_ARG).finish i.wid St.BAD_ARG)) ∧
      (i.payload.length = 16 → s.gzState ≠ Gz.STOPPED →
        exec (.gzbClear wid) s = .next (s.clearRefuse i.wid 0x80 (i.arg 1))) ∧
      (i.payload.length = 16 → s.gzState = Gz.STOPPED →
        (bitsOf (i.arg 0) 0 16 ≠ s.getF F.GZB_STAT_STOP_CNT →
          exec (.gzbClear wid) s = .next (s.clearRefuse i.wid 0x81 (i.arg 1))) ∧
        (bitsOf (i.arg 0) 0 16 = s.getF F.GZB_STAT_STOP_CNT →
          (i.arg 1 ≤ s.getF F.GZB_CLEAR_SEQ → exec (.gzbClear wid) s = .next (s.clearRefuse i.wid 0x82 (i.arg 1))) ∧
          (s.getF F.GZB_CLEAR_SEQ < i.arg 1 → s.domOn 13 = false → exec (.gzbClear wid) s = .next s.needD13) ∧
          (s.getF F.GZB_CLEAR_SEQ < i.arg 1 → s.domOn 13 = true → ∀ u, (s.idleStart 13).tryKeys (.clear i.wid) (fun k => decide
              ((hmacSha256 k (clearMsg (bitsOf (i.arg 0) 0 16) (i.arg 1))).take 16 = i.payload))
              (s.slotsOf Cls.CLEAR_AUTH) = u →
            (u.1 = none → exec (.gzbClear wid) s = .next (u.2.park i.wid)) ∧
            (u.1 = some false → exec (.gzbClear wid) s = .next (u.2.clearRefuse i.wid 0x83 (i.arg 1))) ∧
            (u.1 = some true → ∀ st, u.2.clearLate i.mark = some st →
              exec (.gzbClear wid) s = .next (u.2.clearRefuse i.wid st (i.arg 1))) ∧
            (u.1 = some true → u.2.clearLate i.mark = none → exec (.gzbClear wid) s = .next ((u.2.psRequest
              (.clear i.wid (bitsOf (i.arg 0) 0 16) (i.arg 1) i.mark) (.clearSeq (i.arg 1))).park i.wid)))))) ∧
    (∀ wid cnt seq mark,
      let t := s.setF F.GZB_CLEAR_SEQ seq
      (∀ st, t.clearAgain cnt mark = some st → s.clearStored wid cnt seq mark = t.clearRefuse wid st seq) ∧
      (t.clearAgain cnt mark = none → s.clearStored wid cnt seq mark = t.clearAccept wid cnt seq))

/-! ### SNAP, the Visitor book, the TEST unit -/

/-- SNAP and the Visitor book (R520–R531): sources of one tick raise one SNAP with a code each; a write of VB_CTRL stores
IRQ_EN and raises its SNAP; a trigger is assembled, once its blocks' shadows are latched or 20 ms have passed, into a record
with the next VB_SEQ where the queue has room and dropped and counted where not; a record is programmed into its ring; tokens
come back to a bucket, one for each refill time, until it is full. -/
def Obligations.SnapsAndRecords : Prop :=
  ∀ (m : Master) (s : State),
    (∀ src tb idx, s.power.off = false → src % 32 ≠ 0 → src % 16 = 4 →
      exec (.snapTrigger src tb idx m) s = .next (s.snap (src % 32)).2) ∧
    (∀ tb idx, s.power.off = false →
      exec (.snapTrigger 2 tb idx m) s = .next (s.snapCode 2 0x51 [byte tb, byte idx])) ∧
    (∀ src tb idx, src % 32 = 0 → exec (.snapTrigger src tb idx m) s = .next s) ∧
    (s.bankBusy 0 = true → s.bankBusy 1 = true → ∃ t, s.snap 1 = (none, t) ∧
      t.getF F.VB_SNAP_STAT_MERGED =
        min (s.getF F.VB_SNAP_STAT_MERGED + 1) (2 ^ F.VB_SNAP_STAT_MERGED.width - 1) ∧
      t.getF F.VB_STAT_MERGED_SEEN = 1 ∧ OnlyFields s t [F.VB_SNAP_STAT_MERGED, F.VB_STAT_MERGED_SEEN] ∧
      t = { s with regs := t.regs }) ∧
    (∀ v : Word, s.wrAcc m R.VB_CTRL = .ok → v.getLsbD 1 = false → ∃ t, exec (.vbSnapWrite m v) s = .next t ∧
      t.getF F.VB_CTRL_IRQ_EN = v.toNat % 2 ∧ OnlyFields s t [F.VB_CTRL_IRQ_EN] ∧ t = { s with regs := t.regs }) ∧
    (∀ v : Word, s.wrAcc m R.VB_CTRL = .ok → v.getLsbD 1 = true → exec (.vbSnapWrite m v) s =
      .next ((s.setF F.VB_CTRL_IRQ_EN v.toNat).snapCode 8 0x52 [byte m.id])) ∧
    (∀ k x, s.vb.trigs[k]? = some x →
      let s0 : State := { s with vb := { s.vb with trigs := s.vb.trigs.eraseIdx k } }
      let b := s0.recordBytes x (s.getF F.VB_SEQ)
      let held := (s.vb.queue.map (·.bytes.length)).sum
      (s.trigReady x = false → exec (.vbRecordAssemble k) s = .next s) ∧
      (s.trigReady x = true → s.flag F.VB_STAT_FROZEN = false →
        held + b.length ≤ (if vbFixed x.code then 65536 else 57344) →
        ∃ t, exec (.vbRecordAssemble k) s = .next t ∧
          t.getF F.VB_SEQ = (s.getF F.VB_SEQ + 1) % 2 ^ 32 ∧ (t.vb.queue.getLast?.map (·.bytes)) = some b ∧
          t.vb.queue.length = s.vb.queue.length + 1 ∧ OnlyFields s t [F.VB_SEQ] ∧
          t = { s with regs := t.regs, vb := t.vb }) ∧
      (s.trigReady x = true → (if vbFixed x.code then 65536 else 57344) < held + b.length → x.wid = none →
        ∃ t, exec (.vbRecordAssemble k) s = .next t ∧ t.getF F.VB_STAT_DROP_SEEN = 1 ∧
          OnlyFields s t [F.VB_CNT_DROP, F.VB_STAT_DROP_SEEN] ∧ t = { s0 with regs := t.regs })) ∧
    (∀ r q, s.vb.queue = r :: q → s.flag F.VB_STAT_FROZEN = false →
      exec .vbRecordProgrammed s = .next (State.putMain { s with vb := { s.vb with queue := q } } r)) ∧
    (∀ r q, s.vb.queue = r :: q → s.flag F.VB_STAT_FROZEN = true → exec .vbRecordProgrammed s =
      .next (if r.ess then State.putEssential { s with vb := { s.vb with queue := q } } r
        else State.vbDrop { s with vb := { s.vb with queue := q } } r.wid)) ∧
    (∀ r, r.wid = none → s.vb.basePending = false → s.vb.off + r.bytes.length ≤ 65536 →
      s.putMain r = { s with vb := { s.vb with
        book := s.vb.book ++ [{ r with sector := s.vb.sector, off := s.vb.off, mark := true, wid := none }]
        off := nextOff s.vb.off r.bytes.length } }) ∧
    (∀ c, exec (.vbTokenRefill c) s = .next { s with vb := { s.vb with
      buckets := s.bucket c :: s.vb.buckets.filter (·.code ≠ c) } }) ∧
    (∀ c b, s.vb.buckets.find? (·.code = c) = some b → (s.vbCfg c).refill ≠ 0 →
      (s.bucket c).spent = b.spent - (s.now - b.since) / (26000 * (s.vbCfg c).refill))

/-- VB_READ, VB_MARK and the TEST unit (R534, R535, R541–R544): each item ends at once with the status of the first refusal
that holds; a mark with a token raises its code and waits for its record; a permitted test starts with its counts at 0,
shows its checker's counts of the bits it takes, and ends when its duration is over. -/
def Obligations.BookItemsAndTests : Prop :=
  ∀ (wid : Nat) (i : WItem) (s : State),
    (s.active? wid W.VB_READ = some i →
      (i.arg 1 = 0 ∨ 65535 < i.arg 1 → exec (.vbRead wid) s = .next (s.finish wid St.BAD_ARG)) ∧
      (1 ≤ i.arg 1 → i.arg 1 ≤ 65535 → i.prog = [] →
        exec (.vbRead wid) s = .next (s.vbReadStep { i with prog := [0, 0, i.arg 0, 0] }))) ∧
    (s.active? wid W.VB_MARK = some i → ∀ k, i.phase = .running k →
      let c := bitsOf (i.arg 0) 0 8
      (256 < i.payload.length → exec (.vbMark wid) s = .next (s.finish wid St.BAD_ARG)) ∧
      (i.payload.length ≤ 256 → c < 0x80 → exec (.vbMark wid) s = .next (s.finish wid 0x84)) ∧
      (i.payload.length ≤ 256 → 0x80 ≤ c → (s.vbCfg c).enable = true → (i.grp ≠ .ns ∨ (s.vbCfg c).nsMark = true) →
        (s.hasToken c = true → exec (.vbMark wid) s = .next ((s.vbTrigger c i.payload none (some wid)).park wid)) ∧
        (s.hasToken c = false → exec (.vbMark wid) s = .next ((s.suppress c).finish wid 0x82)))) ∧
    (s.active? wid W.TEST_RUN = some i → ∀ k, i.phase = .running k →
      let link := bitsOf (i.arg 0) 0 8
      (9 < link ∨ i.arg 1 = 0 ∨ 60000 < i.arg 1 ∨ s.testSub link (i.arg 2) = false →
        exec (.testRun wid) s = .next (s.finish wid St.BAD_ARG)) ∧
      (link ≤ 8 → s.testSub link (i.arg 2) = true → 1 ≤ i.arg 1 → i.arg 1 ≤ 60000 → s.linkAbsent link = false →
        testForm link (bitsOf (i.arg 0) 8 4) (bitsOf (i.arg 0) 12 4) = true →
        (s.testPermitted wid link (i.arg 2) = false → exec (.testRun wid) s = .next (s.finish wid 0x80)) ∧
        (s.testPermitted wid link (i.arg 2) = true → s.test.isSome = true →
          exec (.testRun wid) s = .next (s.finish wid 0x81)) ∧
        (s.testPermitted wid link (i.arg 2) = true → s.test = none → (testDoms link).all s.domOn = true →
          ∃ t, exec (.testRun wid) s = .next t ∧ t.getF F.TEST_STAT_LINK = link ∧ t.getF F.TEST_STAT_SYNC = 0 ∧ t.rd R.TEST_ERRORS = 0 ∧
          t.rd R.TEST_BITS_LO = 0 ∧ t.rd R.TEST_BITS_HI = 0 ∧ t.test.isSome = true ∧
          OnlyFields s t [F.TEST_STAT_LINK, F.TEST_STAT_SYNC, regFld R.TEST_ERRORS, regFld R.TEST_BITS_LO,
            regFld R.TEST_BITS_HI] ∧
          t = { s with regs := t.regs, test := t.test, arb := (s.park wid).arb }))) ∧
    (∀ flips value x, s.test = some x → x.prbs = true → (testDoms x.link).all s.domOn = true →
      let k := (flips.foldl LinkTest.bit x).chk
      ∃ t, exec (.testDurationExpiry flips value) s = .next t ∧
        t.rd R.TEST_BITS_LO = word k.bits ∧ t.rd R.TEST_BITS_HI = word (k.bits / 2 ^ 32) ∧
        t.rd R.TEST_ERRORS = word (min k.errors (2 ^ 32 - 1)) ∧ t.getF F.TEST_STAT_SYNC = b2n k.sync ∧
        (s.since x.frc (1000 * x.ms) = false → t.test = some (flips.foldl LinkTest.bit x)) ∧
        (s.since x.frc (1000 * x.ms) = true → t.test = none ∧ t.getF F.TEST_STAT_DONE_SEEN = 1) ∧
        OnlyFields s t [regFld R.TEST_BITS_LO, regFld R.TEST_BITS_HI, regFld R.TEST_ERRORS, F.TEST_STAT_SYNC,
          F.TEST_STAT_DONE_SEEN, F.TEST_STAT_ERR_SEEN] ∧
        t = { s with regs := t.regs, test := t.test, arb := t.arb })

/-! ### Pergola -/

/-- Pergola's requests and plans (R393–R403, R415): the head of PLAN_REQ goes to the store, over the older requests of its
member, or completes FROZEN; the planner takes the request of best priority whose member may be planned for, unless SEG is
full; a plan found within 2 ms and allowed by R401 and R406 is granted, no path in the search of them all is NO_PATH (what is
searched, and how near a plan must come to the best path, is the model's choice, log entry 91), and no plan by 2 ms or its
expansions 0x85; windows whose END has passed, modulo 2^32, go, except while frozen; a position older than POS_STALE is shown;
a dwell that is over plans the next stop or ends the task. -/
def Obligations.PlannerCommands : Prop :=
  ∀ s : State, s.pglOn = true →
    (∀ r q, s.pgl.queue = r :: q → s.pgl.store.length < 64 →
      let q' := q ++ s.pgl.waitReq.take 1
      (s.pglFrozen = true → exec .planRequestIntake s =
        .next ((State.endReq { s with pgl := { s.pgl with queue := q', waitReq := s.pgl.waitReq.drop 1 } } r St.FROZEN).incF
          F.PGL_CNT_FROZEN)) ∧
      (s.pglFrozen = false → s.pgl.store.all (fun x => decide (x.member ≠ r.member)) = true →
        ∃ t, exec .planRequestIntake s = .next t ∧
          t.pgl = { s.pgl with queue := q', waitReq := s.pgl.waitReq.drop 1, store := s.pgl.store ++ [r] } ∧
          OnlyFields s t [F.PGL_CNT_SUPERSEDED] ∧ t = { s with regs := t.regs, pgl := t.pgl }) ∧
      (s.pglFrozen = false → exec .planRequestIntake s =
        .next (((State.endStored { s with pgl := { s.pgl with queue := q', waitReq := s.pgl.waitReq.drop 1 } } r.member
          0x83).incF F.PGL_CNT_SUPERSEDED (s.pgl.store.filter (·.member = r.member)).length).updPgl (fun p => { p with
            store := p.store ++ [r] })))) ∧
    (s.pgl.queue = [] ∨ 64 ≤ s.pgl.store.length → exec .planRequestIntake s = .next s) ∧
    (∀ r, s.nextReq = some r → s.pglFrozen = false → s.pgl.planning = none →
      (s.qRoom .seg = false → exec .plannerTake s = .next s) ∧
      (s.qRoom .seg = true →
        (s.planBar r.member = none → (s.graph.node? r.goal).isSome = true → exec .plannerTake s =
          .next { s with pgl := { s.pgl with store := s.pgl.store.erase r, planning := some r, takeFrc := s.now } }) ∧
        (s.planBar r.member = none → s.graph.node? r.goal = none → exec .plannerTake s =
          .next (State.endReq { s with pgl := { s.pgl with store := s.pgl.store.erase r } } r 0x82)) ∧
        (∀ st, s.planBar r.member = some st → exec .plannerTake s =
          .next (State.endReq { s with pgl := { s.pgl with store := s.pgl.store.erase r } } r st)))) ∧
    (∀ r, s.pgl.planning = some r → s.pglFrozen = false →
      let s0 := State.maxF { s with pgl := { s.pgl with planning := none } } F.PGL_LAT_MAX (min ((s.now - s.pgl.takeFrc) / 26) 65535)
      exec .planExhausted s = .next (s0.noPath r 0x85) ∧
      (∀ tabs,
        (2000 < (s.now - s.pgl.takeFrc) / 26 → exec (.planDone tabs) s = .next s) ∧
        ((s.now - s.pgl.takeFrc) / 26 ≤ 2000 → ∀ best full, s.search r = (best, full) →
          let s1 := if full then s0.setF F.PGL_STAT_EDGE_FULL_SEEN 1 else s0
          let ts := s.fillTabs r tabs (s.pm r.member).nextSeq 0
          (tabs = [] → exec (.planDone tabs) s = .next (if best = none then s1.noPath r 0x81 else s)) ∧
          (tabs ≠ [] → (best = none → exec (.planDone tabs) s = .next s) ∧
            exec (.planDone tabs) s = .next (if s.planOk r best ts then s1.grantPlan r ts else s))))) ∧
    (s.pgl.planning = none → (∀ tabs, exec (.planDone tabs) s = .next s) ∧ exec .planExhausted s = .next s) ∧
    (∀ m, (s.pm? m).isSome = true → (s.pm m).posLost = false → (s.pm m).executing s.asn = true →
      (s.since (s.pm m).posFrc (1000 * (s.clsOf m).posStale) = false → exec (.posStaleExpiry m) s = .next s) ∧
      (s.since (s.pm m).posFrc (1000 * (s.clsOf m).posStale) = true →
        let s1 := ((s.updPm m (fun x => { x with posLost := true })).setF F.PGL_STAT_POS_LOST_SEEN 1).pglEvent 4 m 1 0
        exec (.posStaleExpiry m) s = .next (if s.pglFrozen then s1 else s1.stopTable m) ∧
          s1.getF F.PGL_STAT_POS_LOST_SEEN = 1 ∧ (s1.pm m).posLost = true)) ∧
    (∀ m, (s.pm m).posLost = true ∨ (s.pm m).executing s.asn = false → exec (.posStaleExpiry m) s = .next s) ∧
    (s.pglFrozen = true → exec .rtTick s = .next s) ∧
    (s.pglFrozen = false → exec .rtTick s =
      .next (s.dropWins (fun w => match w.stop with | some e => decide (rtNear s.rtNow e ≤ s.rtNow) | none => false))) ∧
    (∀ m x f, (s.pm m).task = some x → s.pglFrozen = false → x.dwell = some f → x.suspended = false →
      let us := 1000 * ((x.stops[x.cur]?).map (·.2.1)).getD 0
      (s.since f us = false → exec (.taskDwellExpiry m) s = .next s) ∧
      (s.since f us = true → x.stops[x.cur + 1]? = none → exec (.taskDwellExpiry m) s =
        .next ((s.updPm m (fun p => { p with task := none })).pglEvent 10 m 0 x.id)) ∧
      (∀ st, s.since f us = true → x.stops[x.cur + 1]? = some st → s.pgl.queue.length < 64 → s.pgl.waitReq = [] →
        ∃ t, exec (.taskDwellExpiry m) s = .next t ∧
        t.pgl.queue = s.pgl.queue ++ [{
          member := m, prio := ((s.memberRec? m).map (·.prio)).getD 0, goal := st.1, why := 10 }] ∧
        (t.pm m).goal = some st.1 ∧ (t.pm m).task = some { x with cur := x.cur + 1, dwell := none } ∧
        OnlyFields s t [F.PGL_CNT_REPLAN] ∧ t = { s with regs := t.regs, pgl := t.pgl }))

/-- Pergola's work items (R46, R409, R420, R421): each ends with the status of the first refusal that holds; while a stop
stands with FROZEN; a PGL_PLAN or PGL_ASSIGN taken enters PLAN_REQ with its goal, for a group as the request of the member
that arrives first (by the search of log entry 91), and where the intake takes a request in the same cycle it takes the one
then oldest, if the queue held one; a release frees what its mode names. -/
def Obligations.PergolaItems : Prop :=
  ∀ (wid : Nat) (i : WItem) (s : State),
    (s.active? wid W.PGL_PLAN = some i → i.fresh = true →
      let m := bitsOf (i.arg 0) 0 8
      let goal := bitsOf (i.arg 1) 0 16
      (s.stopStands = true → exec (.pglPlan wid false) s = .next ((s.finish i.wid St.FROZEN).incF F.PGL_CNT_FROZEN)) ∧
      (s.stopStands = false →
        (∀ st, s.planBar m = some st → exec (.pglPlan wid false) s = .next (s.finish i.wid st)) ∧
        (s.planBar m = none → s.graph.node? goal = none → exec (.pglPlan wid false) s = .next (s.finish i.wid 0x82)) ∧
        (∀ n, s.planBar m = none → s.graph.node? goal = some n → n.park = false →
          exec (.pglPlan wid false) s = .next (s.finish i.wid 0x82)) ∧
        (∀ n, s.planBar m = none → s.graph.node? goal = some n → n.park = true →
          exec (.pglPlan wid false) s = .next ((s.updPm m (fun x => { x with goal := some goal, task := none })).pglQueue i.wid
            { member := m, goal := goal, dep := i.arg 2, wid := some i.wid
              prio := if (i.arg 0).testBit 12 then bitsOf (i.arg 0) 8 4 else ((s.memberRec? m).map (·.prio)).getD 0 }))) ∧
      (∀ u, exec (.pglPlan wid false) s = .next u →
        exec (.pglPlan wid true) s = .next (if s.pgl.queue = [] then u else u.planIntake))) ∧
    (s.active? wid W.PGL_ASSIGN = some i → i.fresh = true →
      let who := bitsOf (i.arg 0) 0 8
      let n := bitsOf (i.arg 0) 8 8
      let stops := stopsOf n i.payload
      let good : Bool := stops.all (fun p => (s.graph.node? p.1).any (fun x => x.park || x.wait)) &&
        (stops.getLast?.bind (fun p => s.graph.node? p.1)).any (·.park)
      (n = 0 ∨ 8 < n ∨ i.payload.length ≠ 8 * n ∨ i.arg 1 = 0 →
        exec (.pglAssign wid false) s = .next (s.finish i.wid St.BAD_ARG)) ∧
      (1 ≤ n → n ≤ 8 → i.payload.length = 8 * n → i.arg 1 ≠ 0 →
        (s.stopStands = true →
          exec (.pglAssign wid false) s = .next ((s.finish i.wid St.FROZEN).incF F.PGL_CNT_FROZEN)) ∧
        (s.stopStands = false → good = false → exec (.pglAssign wid false) s = .next (s.finish i.wid 0x82)) ∧
        (s.stopStands = false → good = true →
          (0xF0 ≤ who → who < 0xFF → s.memberRecs.any (fun r => s.qualifies who r.id) = false →
            exec (.pglAssign wid false) s = .next (s.finish i.wid 0x87)) ∧
          (∀ m, (m = who ∧ (who < 0xF0 ∨ 0xFF ≤ who)) ∨ (0xF0 ≤ who ∧ who < 0xFF ∧
              s.groupPick? who (((stops.head?).map (·.1)).getD 0) = some m) →
            (∀ st, s.planBar m = some st → exec (.pglAssign wid false) s = .next (s.finish i.wid st)) ∧
            (s.planBar m = none → exec (.pglAssign wid false) s = .next ((s.updPm m (fun x => { x with
              goal := some (((stops.head?).map (·.1)).getD 0)
              task := some { id := i.arg 1, stops := stops, wid := some i.wid } })).pglQueue i.wid
                { member := m, prio := ((s.memberRec? m).map (·.prio)).getD 0
                  goal := ((stops.head?).map (·.1)).getD 0, wid := some i.wid }))))) ∧
      (∀ u, exec (.pglAssign wid false) s = .next u →
        exec (.pglAssign wid true) s = .next (if s.pgl.queue = [] then u else u.planIntake))) ∧
    (s.active? wid W.PGL_RELEASE = some i →
      let m := bitsOf (i.arg 0) 0 8
      (1 < i.arg 1 → exec (.pglReleaseFuture wid) s = .next (s.finish wid St.BAD_ARG) ∧
        exec (.pglReleaseAll wid) s = .next (s.finish wid St.BAD_ARG)) ∧
      (s.stopStands = true → (i.arg 1 = 0 → exec (.pglReleaseFuture wid) s = .next (s.finish wid St.FROZEN)) ∧
        (i.arg 1 = 1 → exec (.pglReleaseAll wid) s = .next (s.finish wid St.FROZEN))) ∧
      (i.arg 1 = 0 → s.stopStands = false → (s.mbr m).state ≠ Ms.ACTIVE →
        exec (.pglReleaseFuture wid) s = .next (s.finish wid 0x88)) ∧
      (i.arg 1 = 0 → s.stopStands = false → (s.mbr m).state = Ms.ACTIVE →
        let s1 := ((s.updPm m (fun x => { x with goal := none, task := none })).cancelReqs m 0x83).stopTable m
        let later := ((s.pm m).future s.startAsn).map (·.seq)
        exec (.pglReleaseFuture wid) s = .next ((if (s1.pm m).tabs.length = (s.pm m).tabs.length then s1
          else s1.releaseBeyond m later).finish wid St.OK)) ∧
      (∀ st, (s.cancelReqs m st).pgl.queue = s.pgl.queue.filter (fun r => decide (r.member ≠ m)) ∧
        (s.cancelReqs m st).pgl.store = s.pgl.store.filter (fun r => decide (r.member ≠ m))) ∧
      (i.arg 1 = 1 → s.stopStands = false → (s.mbr m).state ≠ Ms.FREE → (s.mbr m).silent = false →
        exec (.pglReleaseAll wid) s = .next (s.finish wid 0x88)) ∧
      (i.arg 1 = 1 → s.stopStands = false → (s.mbr m).state = Ms.FREE ∨ (s.mbr m).silent = true →
        exec (.pglReleaseAll wid) s = .next (((s.dropWins (fun w => decide (w.member = m))).updPm m (fun x => {
          x with left := false })).finish wid St.OK)))

/-! ### Belvedere -/

/-- Antennas and epochs (R68, R69, R253, R262–R266, R271): the current of a biased input shows it NORMAL, OPEN or SHORT, a
short folded back until it is tried again 1 s later at the plan's voltage; a base with its first antenna in trouble for 1 s
moves to the second; an epoch of UL_OBS or of the interval is latched as TB0 comes to it, once; its record goes to BASE and
its other sinks; a second's solution and a chain's noise show. -/
def Obligations.AntennasAndEpochs : Prop :=
  ∀ s : State,
    (∀ a ma, a < 2 → s.biasOn a = true →
      (ma < 2 → exec (.antBiasOpen a ma) s = .next ((s.antSet a 2 ma).setBias a (s.biasPlan a))) ∧
      (120 < ma → ∃ t, t = (s.antSet a 3 ma).setBias a 3 ∧ exec (.antBiasShort a ma) s =
        .next { t with pads := { t.pads with biasFrc := t.pads.biasFrc.set a s.now } }) ∧
      (2 ≤ ma → ma ≤ 120 → exec (.antBiasNormal a ma) s = .next ((s.antSet a 1 ma).setBias a (s.biasPlan a))) ∧
      (s.getF (antState a) = 3 → exec (.antBiasRetry a) s = .next (if s.since (s.pads.biasFrc.getD a 0) 1000000 then
        { s with pads := { s.pads with antBias := s.pads.antBias.set a (s.biasPlan a) } } else s)) ∧
      (s.getF (antState a) ≠ 3 → exec (.antBiasRetry a) s = .next s)) ∧
    (∀ a ma, a < 2 → s.getF (antState a) = 1 → ∃ t, s.antSet a 1 ma = t ∧ t.getF (antMa a) = min ma 255 ∧
      t.getF (antState a) = 1 ∧ OnlyFields s t [antMa a] ∧ t = { s with regs := t.regs }) ∧
    (s.bvOn = true → s.bvRole = 1 → s.ant = 0 → 2 ≤ s.getF (antState 0) → s.getF (antState 1) = 1 →
      (s.bv.pos.getD 1 none).isSome = true →
      exec .antSwitch s = .next (if s.since (s.bv.antFrc.getD 0 0) 1000000 then s.switchAnt 1 else s)) ∧
    (s.ant ≠ 0 → exec .antSwitch s = .next s) ∧
    (∀ tb, s.bvOn = true →
      let ul := s.isUl tb
      let mult := s.isMult tb
      let full : Bool := s.domOn 7 && 16 ≤ s.bv.baseQ.length
      ((ul || mult) = false ∨ s.comes 0 tb = false ∨ s.bv.lastTb = some tb → exec (.baseEpochLatch tb) s = .next s) ∧
      ((ul || mult) = true → s.comes 0 tb = true → s.bv.lastTb ≠ some tb →
        (full = false → exec (.baseEpochLatch tb) s = .next ((s.xingPulse 5).updBv (fun b => { b with
          lastTb := some tb
          latched := some { tb := tb, ul := ul, base := ul && s.domOn 7, multiple := mult, ant := s.ant
                            flags := s.baseFlags + 4 * b2n ul, bias := (s.rd R.BV_CLK_BIAS).toNat, frc := s.now
                            chans := if s.bv.switched then
                                b.chans.map (fun (x : BvChan) => { x with slip := true })
                              else b.chans }
          switched := false
          chans := b.chans.map (fun (x : BvChan) => { x with slip := false }) }))) ∧
        (full = true → ul = true → mult = false → exec (.baseEpochLatch tb) s =
          .next (((s.xingPulse 5).setF F.BV_STAT_BASE_SKIP 1).updBv (fun b => { b with lastTb := some tb }))))) ∧
    (s.bv.latched = none → ∀ obs, exec (.baseRecordComplete obs) s = .next s) ∧
    (∀ e obs, s.bv.latched = some e →
      (obsSorted obs = false ∨ obs.all BvObs.ok = false → exec (.baseRecordComplete obs) s = .next s) ∧
      (obsSorted obs = true → obs.all BvObs.ok = true → ∃ t body, exec (.baseRecordComplete obs) s = .next t ∧
        t.bv.latched = none ∧ t.bv.seq = (s.bv.seq + 1) % 65536 ∧
        t.bv.rtcmIn = s.bv.rtcmIn ++ [{ tb := e.tb, ul := e.ul, multiple := e.multiple, body := body }] ∧
        (s.domOn 7 = false → e.base = true →
          t.bv.baseQ = s.bv.baseQ ++ [{ tb := e.tb, ul := e.ul, multiple := e.multiple, body := body }]) ∧
        leAt body 0 1 = 1 ∧ leAt body 1 1 = (e.ant + 1) % 256 ∧ leAt body 14 2 = s.bv.seq % 65536 ∧
        leAt body 20 1 = e.flags % 256 ∧
        t = { s with regs := t.regs, bv := t.bv, slv := t.slv, strms := t.strms, arb := t.arb, power := t.power })) ∧
    (∀ r, s.bvOn = false → exec (.timeSolution r) s = .next s) ∧
    (∀ r, s.bvOn = true → ∃ t, exec (.timeSolution r) s = .next t ∧
      t.getF F.BV_STAT_NSV = min (s.navData r).solSats.length 255 ∧
      ((s.navData r).solSats ≠ [] → t.getI F.BV_CLK_BIAS = (BitVec.ofInt F.BV_CLK_BIAS.width r.bias).toInt) ∧
      t.flash = s.flash ∧ t.axes = s.axes ∧ t.fleet = s.fleet) ∧
    (∀ c noise, c ≤ 7 → s.domOn 4 = true → s.bvOn = true →
      let ms := if ((50 * s.integ 25 1 : Nat) : Int) < noise then s.bv.noiseMs.getD c 0 + 10 else 0
      ms < 100 → ∃ t, exec (.noiseCheck c noise) s = .next t ∧
        t.getI (F.BV_NOISEc c) = (BitVec.ofInt (F.BV_NOISEc c).width noise).toInt ∧
        t.bv = { s.bv with noiseMs := s.bv.noiseMs.set c ms } ∧ OnlyFields s t [F.BV_NOISEc c] ∧
        t = { s with regs := t.regs, bv := t.bv })

/-- A channel's commands are no-ops in any other state of the channel, and while a link test suspends its tracking. -/
def ChannelMoves (c : Nat) (cmd : Instr) (from_ : List Nat) (f : State → BvChan → State) (s : State) : Prop :=
  (∀ x, s.chan? c = some x → s.bvOn = true → s.suspended x = false → x.state ∈ from_ → exec cmd s = .next (f s x)) ∧
    (∀ x, s.chan? c = some x → x.state ∉ from_ ∨ s.suspended x = true → exec cmd s = .next s) ∧
    (s.chan? c = none → exec cmd s = .next s)

/-- Channels and searches (R254–R260, R278, R279): each event moves a channel from the states R259 names for it and changes
nothing in any other; a code in no partition is handed over, never searched for; a partition starts its next search with D5
ON, of the class and with the aid its satellite has by then, which ends once its time is past with a detection in PULL_IN or
without one in IDLE; the BV items end with the first refusal that holds or with their effect (BAD_ARG for limits, SVID and
NONCOH out of range is the model's choice, log entry 79). -/
def Obligations.ChannelsAndSearches : Prop :=
  ∀ (c : Nat) (s : State),
    ChannelMoves c (.chPullInLock c) [Ch.PULL_IN] (fun s x => s.setChan { x with state := Ch.CODE_LOCK }) s ∧
    ChannelMoves c (.chPullInTimeout c) [Ch.PULL_IN] (fun s x => if s.since x.since 1000000 then s.pullInLost x else s) s ∧
    ChannelMoves c (.chLost c) [Ch.CODE_LOCK, Ch.PHASE_LOCK] State.trackLost s ∧
    (∀ x, (s.partOf? x.sig = none → s.pullInLost x = s.idleChan x.ch ∧
        s.trackLost x = s.setChan { x with state := Ch.LOST, lockFrc := none }) ∧
      ((s.partOf? x.sig).isSome = true →
        s.pullInLost x = (s.setChan { x with state := Ch.SEARCH }).queueSearch {
          cls := 4, sys := x.sys, svid := x.svid, sig := x.sig, ch := some x.ch } ∧
        ∃ q, s.trackLost x = (s.setChan { x with state := Ch.LOST, lockFrc := none }).queueSearch q ∧ q.cls = 1 ∧
          q.ch = some x.ch ∧ q.sys = x.sys ∧ q.svid = x.svid ∧ q.sig = x.sig)) ∧
    ChannelMoves c (.chPhaseLock c) [Ch.CODE_LOCK] (fun s x =>
      (s.setChan { x with state := Ch.PHASE_LOCK, lockFrc := some s.now }).handover x) s ∧
    ChannelMoves c (.chPhaseSlip c) [Ch.PHASE_LOCK] (fun s x => s.setChan { x with
      slip := true, slips := (x.slips + 1) % 256, state := Ch.CODE_LOCK, lockFrc := none }) s ∧
    (∀ x, s.chan? c = some x →
      (s.bvOn = true → s.suspended x = false → x.sig ∈ [1, 4, 9, 16] → x.state = Ch.CODE_LOCK ∨ x.state = Ch.PHASE_LOCK →
        exec (.chSidePeak c) s = .next (s.setChan { x with slip := true, slips := (x.slips + 1) % 256 })) ∧
      (x.sig ∉ [1, 4, 9, 16] → exec (.chSidePeak c) s = .next s)) ∧
    ChannelMoves c (.chReacqExpiry c) [Ch.LOST] (fun s x =>
      if s.since x.since (1000000 * leAt (s.sec T.GNSS_TRK) 10 1) then ((s.idleChan c).dropSearch c).handoverAll else s) s ∧
    (∀ x f, s.chan? c = some x → s.bvOn = true → s.suspended x = false → x.float = true → x.elev < s.elevMask →
      x.lowFrc = some f → exec (.floatChRelease c) s =
        .next (if s.since f 60000000 then ((s.idleChan c).dropSearch c).handoverAll else s)) ∧
    (∀ x, s.chan? c = some x → x.float = false ∨ s.elevMask ≤ x.elev → exec (.floatChRelease c) s = .next s) ∧
    (∀ p, s.bvOn = true → s.bv.running.any (fun r => decide (r.1 = p)) = false →
      (∀ q sky, s.nextSearch p = some q →
        (s.domOn 5 = true → exec (.searchStart p sky) s = .next { s with bv := { s.bv with
          searches := s.bv.searches.erase q, running := s.bv.running ++ [(p, { q with
            cls := s.clsNow q, aided := q.wid.isNone && s.aids q.sys q.svid, centre := s.centreOf q, start := s.now })] } }) ∧
        (s.domOn 5 = false → exec (.searchStart p sky) s = .next (s.domEvent 5 .work))) ∧
      (s.nextSearch p = none → exec (.searchStart p none) s = .next s ∧
        ∀ aim, exec (.searchStart p (some aim)) s = .next ((s.noteSky [aim]).skySearch p aim)) ∧
      (∀ q, q.cls ≤ 2 → s.clsNow q = q.cls) ∧
      (∀ q, 2 < q.cls → s.clsNow q = if s.aids q.sys q.svid = true ∧ s.aboveMask (s.elevOf q.sys q.svid) = true then 3 else 4)) ∧
    (∀ p q ds, s.bv.running.find? (fun r => decide (r.1 = p)) = some (p, q) →
      (s.since q.start (1000 * s.searchMs p q) = false ∨ ds.all (s.detects p q) = false →
        exec (.searchDone p ds) s = .next s) ∧
      (s.since q.start (1000 * s.searchMs p q) = true → ds.all (s.detects p q) = true → (ds.map (·.svid)).Nodup →
        let s1 := ((s.updBv (fun b => { b with running := b.running.filter (·.1 ≠ p) })).incF F.BV_ACQ_STAT_DONE).idleStart 5
        (∀ x, q.ch = some c → s.chan? c = some x →
          (ds ≠ [] → exec (.searchDone p ds) s = .next (s1.setChan { x with state := Ch.PULL_IN }) ∧
            ((s1.setChan { x with state := Ch.PULL_IN }).chan? c).map (·.state) = some Ch.PULL_IN) ∧
          (ds = [] → x.state ≠ Ch.LOST → exec (.searchDone p ds) s = .next ((s1.idleChan c).handoverAll) ∧
            (s1.idleChan c).chan? c = none) ∧
          (ds = [] → x.state = Ch.LOST → exec (.searchDone p ds) s = .next (s1.queueSearch q))) ∧
        (∀ w, q.ch = none → q.wid = some w → exec (.searchDone p ds) s = .next ((ds.foldl (fun t d =>
          t.detected (s.partAnt p) q.sys d.svid q.sig) s1).finish w St.OK (searchResult ds))))) ∧
    (∀ wid i, s.active? wid W.BV_SURVEY = some i →
      let b := s.sec T.BASE_POS
      let lo := if i.arg 1 = 0 then leAt b 4 4 else i.arg 1
      let hi := if i.arg 2 = 0 then leAt b 8 4 else i.arg 2
      let acc := if i.arg 3 = 0 then leAt b 12 4 else i.arg 3
      let within : Prop := 60 ≤ lo ∧ lo ≤ 86400 ∧ lo ≤ hi ∧ hi ≤ 604800 ∧ 5 ≤ acc ∧ acc ≤ 10000
      (3 < i.arg 0 → exec (.bvSurveyStart wid) s = .next (s.finish wid St.BAD_ARG)) ∧
      (s.fleetBars = true → (i.arg 0 = 0 → exec (.bvSurveyStart wid) s = .next (s.finish wid 0x83)) ∧
        (i.arg 0 = 1 → exec (.bvSurveySet wid) s = .next (s.finish wid 0x83)) ∧
        (i.arg 0 = 3 → exec (.bvSurveySelectAnt wid) s = .next (s.finish wid 0x83))) ∧
      (s.fleetBars = false →
        (i.arg 0 = 0 → s.getF F.BV_STAT_SURVEY = 1 → exec (.bvSurveyStart wid) s = .next (s.finish wid 0x80)) ∧
        (i.arg 0 = 0 → s.getF F.BV_STAT_SURVEY ≠ 1 →
          (within → exec (.bvSurveyStart wid) s = .next (((s.startSurvey lo hi acc).bvEvent 5 0 1).finish wid St.OK)) ∧
          (¬ within → exec (.bvSurveyStart wid) s = .next (s.finish wid St.BAD_ARG))) ∧
        (i.arg 0 = 1 → s.getF F.BV_STAT_SURVEY = 1 → exec (.bvSurveySet wid) s = .next (s.finish wid 0x80)) ∧
        (i.arg 0 = 1 → s.getF F.BV_STAT_SURVEY ≠ 1 → i.payload.length = 24 → exec (.bvSurveySet wid) s =
          .next ((((s.setPos s.ant (some (xyz i.payload 0))).setF F.BV_STAT_SURVEY 3).bvEvent 5 0 3).finish wid St.OK)) ∧
        (i.arg 0 = 3 → i.arg 1 = 1 ∨ i.arg 1 = 2 → s.bvRole = 1 →
          let a := i.arg 1 - 1
          (s.bv.pos.getD a none = none → exec (.bvSurveySelectAnt wid) s = .next (s.finish wid 0x81)) ∧
          ((s.bv.pos.getD a none).isSome = true → s.getF (antState a) ≠ 1 →
            exec (.bvSurveySelectAnt wid) s = .next (s.finish wid 0x82)) ∧
          ((s.bv.pos.getD a none).isSome = true → s.getF (antState a) = 1 → exec (.bvSurveySelectAnt wid) s =
            .next ((if s.ant = a then s else s.switchAnt a).finish wid St.OK)))) ∧
      (i.arg 0 = 2 → s.bv.survey = none → exec (.bvSurveyAbort wid) s = .next (s.finish wid St.OK)) ∧
      (∀ v, i.arg 0 = 2 → s.bv.survey = some v → exec (.bvSurveyAbort wid) s =
        .next ((s.endSurvey v.before true).finish wid St.OK))) ∧
    (∀ wid i k, s.active? wid W.BV_SEARCH = some i → i.phase = .running k →
      let sig := bitsOf (i.arg 0) 16 5
      let sys := bitsOf (i.arg 0) 0 3
      let svid := bitsOf (i.arg 0) 8 8
      let good : Prop := sig ≤ 21 ∧ sigSys.getD sig 7 = sys ∧ (svid = 0 ∨ svidOk sys svid = true) ∧
        cohOk sig (bitsOf (i.arg 3) 0 8) = true ∧ bitsOf (i.arg 3) 8 8 ≤ 64
      (¬ good → exec (.bvSearch wid) s = .next (s.finish wid St.BAD_ARG)) ∧
      (good → s.partOf? sig = none → exec (.bvSearch wid) s = .next (s.finish wid 0x84)) ∧
      (good → (s.partOf? sig).isSome = true → exec (.bvSearch wid) s = .next ((s.queueSearch {
          cls := 2, sys := sys, svid := svid, sig := sig, wid := some wid
          centre := some (BitVec.ofNat 32 (i.arg 1)).toInt, span := i.arg 2, coh := bitsOf (i.arg 3) 0 8
          noncoh := bitsOf (i.arg 3) 8 8 }).park wid)))

/-! ### SOLVE and the corrections -/

/-- SOLVE's records (R30, R286, R289–R306): the oldest record of OBS_IN completes as BAD_RECORD, DISABLED, NO_BASE or SKIPPED,
or waits for a lane after a budget pass; an idle lane takes the record of the earliest deadline; a lane that has worked its
time delivers the member's fix, computed as log entry 81 says, and is free: NO_SOLUTION under 4 satellites, OUT_OF_RANGE
outside POS, else the solution's status; a record at its deadline is SKIPPED, also in place of a late delivery; a faulty lane
leaves service with its record pending again; what finds FIX full waits. -/
def Obligations.SolveRecords : Prop :=
  ∀ s : State, s.slvOn = true →
    (s.slv.obsIn = [] → exec .obsIntake s = .next s) ∧
    (s.slv.obsIn ≠ [] → s.fixRoom = false → exec .obsIntake s = .next s.payOwed) ∧
    (∀ r q, s.slv.obsIn = r :: q → s.fixRoom = true →
      let s0 := State.slvBase { s with slv := { s.slv with obsIn := q } }
      let s1 := if s.flag F.SLV_CTRL_RAW_ROVERS then
          s0.observe Win.RAW_OBS ([byte 2, byte r.member] ++ leBytes 2 r.payload.length ++ leBytes 4 (r.frc % 2 ^ 32) ++
            r.payload)
        else s0
      let ep := s.epochAsn (leAt r.payload 4 2)
      (obsOk r.payload = false → exec .obsIntake s = .next (s1.slvDeliver r.member r.asn 9 [] 0 0 0 0)) ∧
      (obsOk r.payload = true → 6 ≤ r.payload.length →
        let sh := s1.setRover ((s1.rover r.member).heard r.payload ep)
        ((s.rover r.member).enabled = false → exec .obsIntake s = .next (sh.slvDeliver r.member ep 7 [] 0 0 0 0)) ∧
        ((s.rover r.member).enabled = true →
          (s1.baseOf? ep = none → exec .obsIntake s = .next (sh.slvDeliver r.member ep 5 [] 0 0 0 0)) ∧
          ((s1.baseOf? ep).isSome = true →
            let s2 := sh.setRover { sh.rover r.member with nsig := sh.brought { r with asn := ep }, filter := true }
            (s.decision? r.member ep = some true → exec .obsIntake s = .next (s2.slvDeliver r.member ep 6 [] 0 0 1 0)) ∧
            (s.decision? r.member ep ≠ some true → exec .obsIntake s = .next ((s2.updSlv (fun v => { v with
              pend := v.pend ++ [{ r with asn := ep, deferred := s.decision? r.member ep = some false }] })).budgetPass.1)))))) ∧
    (∀ l r q, (fromToken s.slv.token ([0, 1, 2, 3].filter s.laneIdle)).head? = some l → s.slv.pend = r :: q →
      let x := q.foldl (fun a b => if s.laneBefore b a then b else a) r
      exec .laneTake s = .next { s with slv := { s.slv with
        pend := s.slv.pend.erase x, lanes := s.slv.lanes.set l (some { x with frc := s.now }), token := (l + 1) % 4 } }) ∧
    (s.slv.pend = [] → exec .laneTake s = .next s) ∧
    (∀ l x, s.slv.lanes.getD l none = some x →
      let sds := s.recSds x (s.baseOf? x.asn)
      (s.fixRoom = false → exec (.fixDelivery l) s = .next s) ∧
      (s.fixRoom = true → s.asnTime x.asn + 35000000 < s.tbNs 0 → exec (.fixDelivery l) s = .next (s.abandon l x)) ∧
      (s.fixRoom = true → s.tbNs 0 ≤ s.asnTime x.asn + 35000000 →
        (s.laneDone x sds.length = false → exec (.fixDelivery l) s = .next s) ∧
        (s.laneDone x sds.length = true → ∃ t, exec (.fixDelivery l) s = .next t ∧
          t.slv.lanes = s.slv.lanes.set l none ∧ (t.slv.fixQ.getLast?.map (·.member)) = some x.member ∧
          ((sdSats sds).length < 4 → (t.rover x.member).status = 3) ∧
          (4 ≤ (sdSats sds).length →
            let o := (s.laneFree l).solveRec (s.rover x.member) x (((s.baseOf? x.asn).map (·.body)).getD []) sds
            (t.rover x.member).status = (if posFits o.pos then o.status else 8) ∧
            (x.deferred = true → o.status = 1 ∧ o.newFix = false)) ∧
          t.flash = s.flash ∧ t.gzb = s.gzb ∧ t.axes = s.axes))) ∧
    (∀ l, s.slv.lanes.getD l none = none → exec (.fixDelivery l) s = .next s ∧
      exec (.laneDeadlineAbandon l) s = .next s) ∧
    (∀ l x, s.slv.lanes.getD l none = some x →
      let s1 := (s.laneFree l).setF F.SLV_STAT_ABORT_SEEN 1
      (s.asnTime x.asn + 35000000 ≤ s.tbNs 0 → exec (.laneDeadlineAbandon l) s = .next (s.abandon l x)) ∧
      (s.fixRoom = true → s.abandon l x = s1.slvDeliver x.member x.asn 6 [] 0 0 1 0) ∧
      (s.fixRoom = false → s.abandon l x = { s1 with slv := { s1.slv with
        owed := s1.slv.owed ++ [(x.member, x.asn, 6, 1)] } }) ∧
      ((s.tbNs 0 : Int) < s.asnTime x.asn + 35000000 → exec (.laneDeadlineAbandon l) s = .next s)) ∧
    (∀ l, l ≤ 3 → s.bit F.SLV_STAT_LANE_OK l = true →
      let s1 := ((s.clrBit F.SLV_STAT_LANE_OK l).setF F.SLV_STAT_LANE_FAULT 1).vbTrigger 0x28 [byte l]
      (s.slv.lanes.getD l none = none → exec (.laneFault l) s = .next s1) ∧
      (∀ x, s.slv.lanes.getD l none = some x →
        ((s.tbNs 0 : Int) < s.asnTime x.asn + 35000000 →
          exec (.laneFault l) s = .next ((s1.laneFree l).updSlv (fun v => { v with pend := v.pend ++ [x] }))) ∧
        (s.asnTime x.asn + 35000000 ≤ s.tbNs 0 → exec (.laneFault l) s = .next (s1.abandon l x))))

/-- SLV_ROVER, RTCM and FIX frames (R308–R318, R372): an item of a mode ends with its refusal or its effect on the rover; a
base record makes the station and MSM messages due, which wait for DL_B, or is withheld unless the base is SURVEYED or FIXED;
old messages are dropped and counted; the next slot's FIX frame takes the waiting fixes, read from FIX, in the last 500 µs
before it. -/
def Obligations.RoversAndCorrections : Prop :=
  (∀ (wid : Nat) (i : WItem) (s : State), s.active? wid W.SLV_ROVER = some i → s.slvOn = true →
    (3 < i.arg 0 → exec (.slvRoverReset wid) s = .next (s.finish wid St.BAD_ARG)) ∧
    (∀ c, (i.arg 0, c) ∈ [(0, Instr.slvRoverReset wid), (1, .slvRoverDisable wid), (2, .slvRoverEnable wid),
        (3, .slvRoverQuery wid)] →
      (s.memberRec? (i.arg 1) = none → exec c s = .next (s.finish wid 0x80)) ∧
      ((s.memberRec? (i.arg 1)).isSome = true → (s.clsOf (i.arg 1)).selfSolve = true →
        exec c s = .next (s.finish wid 0x81))) ∧
    ((s.memberRec? (i.arg 1)).isSome = true → (s.clsOf (i.arg 1)).selfSolve = false →
      (i.arg 0 = 0 → exec (.slvRoverReset wid) s =
        .next ((s.setRover ((s.rover (i.arg 1)).clear s.now)).finish wid St.OK)) ∧
      (i.arg 0 = 1 → exec (.slvRoverDisable wid) s =
        .next ((s.setRover { s.rover (i.arg 1) with enabled := false }).finish wid St.OK)) ∧
      (i.arg 0 = 2 → exec (.slvRoverEnable wid) s =
        .next ((s.setRover { (s.rover (i.arg 1)).clear s.now with enabled := true }).finish wid St.OK)) ∧
      (i.arg 0 = 3 → exec (.slvRoverQuery wid) s = .next (s.finish wid St.OK (leBytes 4 (s.rovStat (i.arg 1)).toNat ++
        leBytes 4 (s.rover (i.arg 1)).baseline ++ leBytes 4 (s.rover (i.arg 1)).ttff ++
        leBytes 4 (s.rover (i.arg 1)).status))))) ∧
  (∀ s : State,
    (s.bv.rtcmIn = [] → exec .rtcmBuild s = .next s) ∧
    (∀ e q, s.bv.rtcmIn = e :: q → s.bvOn = true → (s.sec? T.RTCM_OUT).isSome = true →
      let s0 : State := { s with bv := { s.bv with rtcmIn := q } }
      (e.multiple = false → exec .rtcmBuild s = .next s0) ∧
      (e.multiple = true → s.getF F.BV_STAT_SURVEY ≠ 2 → s.getF F.BV_STAT_SURVEY ≠ 3 → ∃ t, exec .rtcmBuild s = .next t ∧
        t.getF F.BV_RTCM_STAT_WITHHELD = 1 ∧ t.getF F.BV_RTCM_STAT_ACTIVE = 0 ∧
        OnlyFields s t [F.BV_RTCM_STAT_WITHHELD, F.BV_RTCM_STAT_ACTIVE] ∧ t = { s0 with regs := t.regs }) ∧
      (e.multiple = true → s.getF F.BV_STAT_SURVEY = 2 ∨ s.getF F.BV_STAT_SURVEY = 3 → ∃ t : State,
          t.getF F.BV_RTCM_STAT_WITHHELD = 0 ∧ t.getF F.BV_RTCM_STAT_ACTIVE = 1 ∧ t.slv.sets = s.slv.sets + 1 ∧
          (s.corrRadio = true → exec .rtcmBuild s = .next (t.dlFill 1) ∧
            t.slv.corr = s.slv.corr ++ (((s.staDue e.tb).map (staMsg s) ++
              (if s.slv.sets % max (s.rtcmOut 4 1) 1 = 0 then s.msmSet e else [])).map (fun m => ⟨e.tb, rtcmFrame m⟩))) ∧
          (s.corrRadio = false → exec .rtcmBuild s = .next t ∧ t.slv.corr = s.slv.corr) ∧
          t = { s0 with regs := t.regs, slv := t.slv, strms := t.strms }))) ∧
  (∀ s : State,
    let old (c : CorrMsg) : Bool := c.tb + s.rtcmOut 5 1 * 1000000000 ≤ s.tbNs 0
    (s.slv.corr.any old = false → exec .corrAgeExpiry s = .next s) ∧
    (s.slv.corr.any old = true → ∃ t, exec .corrAgeExpiry s = .next t ∧
      t.slv.corr = s.slv.corr.filter (fun c => !old c) ∧ t.getF F.BV_RTCM_STAT_DROP_SEEN = 1 ∧
      OnlyFields s t [F.BV_RTCM_DROP, F.BV_RTCM_STAT_DROP_SEEN] ∧ t = { s with regs := t.regs, slv := t.slv })) ∧
  (∀ s : State, let next := (s.slotIdx + 1) % max s.slotL 1
    (s.bandRun 1 = true → s.stopStands = false → s.fixSlots.contains next = true → s.bsb.fix = none → 2000 ≤ s.slotUs →
      let r := s.fixPull.fixFrame (s.fixSlots.getLast? = some next)
      exec .dlFixAssemble s = .next ((s.fixPull.fixesSent r.2).updBand 1 (fun b => { b with fix := some r.1 }))) ∧
    (s.domOn 7 = true → s.domOn 9 = true → (s.xings.getD 8 {}).resync = false → s.fixPull = { s with
      slv := { s.slv with fixQ := [] }, bsb := { s.bsb with fixes := s.bsb.fixes ++ s.slv.fixQ } }) ∧
    (s.bandRun 1 = false ∨ s.stopStands = true ∨ s.fixSlots.contains next = false ∨ s.bsb.fix.isSome = true ∨
      s.slotUs < 2000 → exec .dlFixAssemble s = .next s))

/-! ### Bandstand and the fleet -/

/-- A frame in a receive cell (R46, R321–R338): a demodulator takes the first preamble of its window in a slot and loses the
others; the discard a frame's checks decide is all that happens, whichever command names its
type; a frame that passes them is accepted once, acknowledged again and counted in DUP when it repeats the last SEQ, and
refused BUSY, changing no estimate, where its queue has no room. An observation that enters while SOLVE's intake takes a record
of the same queue sees the queue as it stood; the intake then runs where the queue held a record. -/
def Obligations.ReceivedFrames : Prop :=
  ∀ (b c : Nat) (psdu : Bytes) (e : Int) (s : State), b ≤ 1 →
    let ty := bitsOf (leAt psdu 0 1) 0 4
    let fl := (leAt psdu 0 1).testBit 7
    let cmds := [(1, Instr.joinReqRx c psdu e), (4, .ctrlRx b c psdu e), (5, .obsRx b c psdu e false), (0xB, .stopReqRx b c psdu e),
      (0xC, .leaveRx b c psdu e), (0xD, .statusRx b c psdu e)]
    let lost : Bool := s.inWindow b c e && (s.band b).demod.contains c
    let s0 := if s.inWindow b c e then s.updBand b (fun x => { x with demod := c :: x.demod }) else s
    (lost = true → (∀ cmd, (ty, cmd) ∈ cmds → (ty = 1 → b = 0) → exec cmd s = .next s) ∧
      exec (.floodFrameRx b c psdu e) s = .next s) ∧
    (∀ u, lost = false → s0.rxCheck b c psdu e = .gone u →
      (∀ cmd, (ty, cmd) ∈ cmds → (ty = 1 → b = 0) → exec cmd s = .next u) ∧
      (fl = true → exec (.floodFrameRx b c psdu e) s = .next u)) ∧
    (∀ x, lost = false → s0.rxCheck b c psdu e = .ok x →
      (ty = 1 → b = 0 → exec (.joinReqRx c psdu e) s = .next (s0.rxAccept x (s0.rxRoom 0) (fun t => t.joinReq x))) ∧
      (ty = 4 → exec (.ctrlRx b c psdu e) s = .next (s0.rxAccept x (s0.rxRoom b) (fun t => t.ctrl x))) ∧
      (ty = 5 → exec (.obsRx b c psdu e false) s = .next
        (s0.rxAccept x (leAt x.tsh 0 1 ≠ 0 || !s0.central x.src || s0.obsRoom) (fun t => t.obs x))) ∧
      (ty = 0xB → exec (.stopReqRx b c psdu e) s =
        .next (s0.rxAccept x true (fun t => t.raiseCause Cause.ROBOT x.src))) ∧
      (ty = 0xC → exec (.leaveRx b c psdu e) s = .next (s0.rxAccept x (s0.rxRoom b) (fun t =>
        (t.rxPush x).updFleet (fun f => { f with leaving := f.leaving ++ [⟨x.src, leAt x.plain 0 1, x.b, x.seq⟩] })))) ∧
      (ty = 0xD → exec (.statusRx b c psdu e) s = .next (s0.rxAccept x (s0.rxRoom b) (fun t => t.status x))) ∧
      (fl = true → x.ftype = 0xB → exec (.floodFrameRx b c psdu e) s =
        .next (s0.rxAccept x true (fun t => t.raiseCause Cause.ROBOT x.src))) ∧
      (fl = true → x.ftype ≠ 0xB → exec (.floodFrameRx b c psdu e) s = .next (s0.rxAccept x true (fun t => t)))) ∧
    (fl = false → exec (.floodFrameRx b c psdu e) s = .next s) ∧
    (∀ u, exec (.obsRx b c psdu e false) s = .next u →
      (s.slv.obsIn = [] → exec (.obsRx b c psdu e true) s = .next u) ∧
      (s.slv.obsIn ≠ [] → exec (.obsRx b c psdu e true) s = .next u.obsIntake)) ∧
    (∀ (x : RxIn) (k : State → State), x.b ≤ 1 →
      let dup := ((s.band x.b).lastSeq.find? (·.1 = x.src)).any (fun p => decide (p.2 = x.seq))
      let corr := if x.cell.relay ∨ !x.ack then 0 else tcorrUs x.b x.e
      let took := (((((s.seenAdd x).updBand x.b (fun z => { (z.updKey x.entry (fun q =>
        if x.entry ≤ 0x80 then { q with rx := x.fcnt } else q)) with
          lastSeq := (x.src, x.seq) :: z.lastSeq.filter (·.1 ≠ x.src) })).entry x false).partner x.src x.e corr).endDesync x.src)
      (dup = false → s.rxAccept x true k = k ((took.incF (F.BS_CNT_RX_OK x.b)).updFleet (fun f => { f with
        leaving := f.leaving.filter (·.src ≠ x.src) }))) ∧
      (dup = true → ∀ room, s.rxAccept x room k = took.incF (F.BS_CNT_DUP x.b)) ∧
      (dup = false → s.rxAccept x false k = (s.seenAdd x).entry x true)) ∧
    (∀ phr : Nat,
      let odd := ((List.range (if b = 0 then 8 else 16)).filter phr.testBit).length % 2
      let n := psdu.length - fcsLen b
      (s.bandRun b = false ∨ s.rxCell? b c = none ∨ (s.band b).demod.contains c = true →
        exec (.frameRxBad b c phr psdu) s = .next s) ∧
      (s.bandRun b = true → (s.rxCell? b c).isSome = true → (s.band b).demod.contains c = false →
        (s.blanked b = true → exec (.frameRxBad b c phr psdu) s = .next (s.incF (F.BS_CNT_BLANKED b))) ∧
        (s.blanked b = false → odd = 1 ∨ psduOk b (bitsOf phr 0 (if b = 0 then 6 else 9)) = false ∨
            psdu.drop n ≠ fcsOf b s.networkId (psdu.take n) →
          exec (.frameRxBad b c phr psdu) s = .next ((s.incF (F.BS_CNT_RX_BAD b)).updBand b (fun x => { x with
            demod := c :: x.demod })))))

/-- Joining, acknowledgements and the items of the fleet (R100, R326–R332, R341, R345, R346, R361–R367, R383, R384): derived
keys finish a join, a limited root's use waiting for the store; an IACK answers the frame that waits by its SEQ; without one,
its window over, the frame is sent again or counted in NO_ACK and lost; a slot's entries make one SACK; BS_SEND and BS_MEMBER
end with the first refusal that holds or queue their frames, those of one item together or not yet; the wake-up word wakes
Watch, is a wake event of an entry into Watch, and is BASE_WORD elsewhere. -/
def Obligations.FleetLinks : Prop :=
  ∀ (b m wid : Nat) (s : State),
    ((s.mbr m).state = Ms.KEYING → (s.mbr m).keyAsk = true → s.domOn 13 = false → s.keysWithheld = false →
      s.dlRoom 0 = true → exec (.joinKeyDone m) s = .next s.needD13) ∧
    (∀ n, (s.mbr m).state = Ms.KEYING → (s.mbr m).keyAsk = true → s.domOn 13 = true → s.keysWithheld = false →
      s.dlRoom 0 = true → s.slotFor? Cls.FLEET_ROOT = some n →
      let key := s.sessionKey m (s.slot n).key
      let use := PsWho.joinUse m (s.mbr m).session key
      ((s.slot n).waits = false → exec (.joinKeyDone m) s = .next ((s.joinFinish m key).slotUse n use)) ∧
      ((s.slot n).waits = true → exec (.joinKeyDone m) s =
        .next ((s.updMbr m (fun x => { x with keyAsk := false })).slotUse n use))) ∧
    ((s.mbr m).state ≠ Ms.KEYING → exec (.joinKeyDone m) s = .next s) ∧
    (∀ f psdu t, b ≤ 1 → (s.band b).wait = some f → s.blanked b = false → 182 ≤ t → t ≤ 272 →
      psdu.length = 2 + fcsLen b → psdu.drop 2 = fcsOf b s.networkId (psdu.take 2) → leAt (psdu.take 2) 0 1 = 0x0E →
      let s1 := s.updBand b (fun x => { x with wait := none })
      (some (leAt (psdu.take 2) 1 1) = f.seq → f.tag ≠ .resync → exec (.iackRx b psdu t) s = .next (s1.frameDone f)) ∧
      (some (leAt (psdu.take 2) 1 1) = f.seq → f.tag = .resync → exec (.iackRx b psdu t) s =
        .next (((s1.updMbr f.dst (fun x => { x with
          desync := false, queued := false, ofs := ((t : Int) - 192 : Int), te := s.tNom + 400 })).updFleet (fun z => { z with
            desyncQ := z.desyncQ.filter (· ≠ f.dst), resyncFor := none })).setF F.BSA_RESYNC_DONE_SEEN 1)) ∧
      (some (leAt (psdu.take 2) 1 1) ≠ f.seq → exec (.iackRx b psdu t) s = .next s)) ∧
    (∀ f, b ≤ 1 → (s.band b).wait = some f → f.tag ≠ .resync → s.ackOver b = true →
      let s1 := s.updBand b (fun x => { x with wait := none })
      (f.tries = 255 → exec (.iackTimeout b) s = .next (s1.frameLost f)) ∧
      (f.tries ≠ 255 → f.tries < s.triesMax b → exec (.iackTimeout b) s = .next (s1.dlHead b f)) ∧
      (f.tries ≠ 255 → s.triesMax b ≤ f.tries → exec (.iackTimeout b) s =
        .next (((s1.incF (F.BS_CNT_NO_ACK b)).setF (F.BS_STAT_NO_ACK_SEEN b) 1).frameLost f))) ∧
    ((s.band b).wait = none ∨ s.ackOver b = false → b ≤ 1 → exec (.iackTimeout b) s = .next s) ∧
    ((s.band b).sack = [] ∨ s.sackDue b = false → exec (.sackSend b) s = .next s) ∧
    (b ≤ 1 → (s.band b).sack ≠ [] → s.sackDue b = true → s.bandRun b = true → s.blanked b = false → s.fleet.leaving = [] →
      ((s.band b).sack.filter (·.busy)) = [] →
      let es := (List.range (if b = 0 then 4 else 8)).flatMap (s.sackEntry b)
      let p := [byte 0x0F, byte s.asn] ++ es
      let s1 := s.updBand b (fun z => { z with sack := [] })
      allZero es = false → exec (.sackSend b) s = .next ((s1.updBand b (fun z => { z with
        air := z.air ++ [⟨some (s.cellChan b 0), ppdu b true (p ++ fcsOf b s.networkId p)⟩] })).keyPad b 20 (ackUs b (4 + b * 18 + 4 * (1 - b))))) ∧
    (∀ i, s.active? wid W.BS_SEND = some i → i.onCore = true → s.domOn (bandDom (bitsOf (i.arg 0) 8 1)) = true →
      i.prog = [] →
      let dst := bitsOf (i.arg 0) 0 8
      let z := bitsOf (i.arg 0) 8 1
      let uni : Bool := 1 ≤ dst && dst ≤ 128
      let ack := (i.arg 0).testBit 9
      let fl := (i.arg 0).testBit 10
      let form : Bool := if uni then !fl else 0xF0 ≤ dst && !ack
      (form = false → exec (.bsSend wid) s = .next (s.finish i.wid St.BAD_ARG)) ∧
      (form = true → bitsOf (i.arg 1) 0 8 < 0x80 → exec (.bsSend wid) s = .next (s.finish i.wid 0x83)) ∧
      (form = true → 0x80 ≤ bitsOf (i.arg 1) 0 8 →
        (uni = true → s.joined dst = false → exec (.bsSend wid) s = .next (s.finish i.wid 0x81)) ∧
        (uni = false ∨ s.joined dst = true →
          let ps := pieces (fragLen z ack fl) 1024 i.payload
          let fs : List DlFrame := (List.range ps.length).map (fun k => {
            dst := dst, ftype := 7, tsh := [byte (bitsOf (i.arg 1) 0 8), byte (k + 16 * (ps.length - 1))], enc := ps.getD k []
            flood := fl, ack := ack, prio := bitsOf (i.arg 0) 12 4, tag := .data i.wid (k + 1 = ps.length) })
          (16 < ps.length → exec (.bsSend wid) s = .next (s.finish i.wid 0x82)) ∧
          (ps.length ≤ 16 → i.stopped = true → exec (.bsSend wid) s = .next (s.finish i.wid St.FROZEN)) ∧
          (ps.length ≤ 16 → i.stopped = false →
            (s.dlRoom z fs.length = true → exec (.bsSend wid) s = .next (((fs.foldl (fun t f => t.dlPush z f) s).updItem i.wid
              (fun x => { x with prog := [2] })).park i.wid)) ∧
            (s.dlRoom z fs.length = false → exec (.bsSend wid) s =
              .next ((s.updItem i.wid (fun x => { x with prog := [1] })).park i.wid)))))) ∧
    (∀ i, s.active? wid W.BS_MEMBER = some i → s.domOn 8 = true →
      (1 < i.arg 0 → exec (.bsMemberExpel wid) s = .next (s.finish wid St.BAD_ARG)) ∧
      (i.arg 0 = 0 → s.joined (i.arg 1) = false → exec (.bsMemberExpel wid) s = .next (s.finish wid 0x80)) ∧
      (i.arg 0 = 0 → s.joined (i.arg 1) = true → i.prog = [] →
        (s.dlRoom 0 = true → exec (.bsMemberExpel wid) s =
          .next (((s.dlPush 0 (uniFrame (i.arg 1) 0xC [] [byte 1] (.leave 1 (some wid)))).updItem wid (fun x => { x with
            prog := [2] })).park wid)) ∧
        (s.dlRoom 0 = false → exec (.bsMemberExpel wid) s =
          .next ((s.updItem wid (fun x => { x with prog := [1] })).park wid))) ∧
      (i.arg 0 = 1 → s.joined (i.arg 1) = false → exec (.bsMemberResync wid) s = .next (s.finish wid 0x80)) ∧
      (i.arg 0 = 1 → s.joined (i.arg 1) = true → exec (.bsMemberResync wid) s =
        .next ((s.markDesync (i.arg 1)).finish wid St.OK))) ∧
    (∀ w net, s.knownNet = some net → s.power.off = false → s.wurBlanked = false →
      let st := s.getF F.LODGE_PWR_STATE_STATE
      let far := hamming w (wakeWord net 0)
      let wakes : Bool := st = 3 || st = 5 && s.power.entering = 3
      (far = 0 → wakes = true → ∃ t, exec (.wurWordRx w) s = .next t ∧
        t.power = { s.power with wakeReq := s.power.wakeReq ||| 1 } ∧ OnlyFields s t [F.LODGE_WUR_STAT_WORDS] ∧
        t = { s with regs := t.regs, power := t.power }) ∧
      (far = 0 → st ≠ 4 → wakes = false → ∃ t, exec (.wurWordRx w) s = .next t ∧
        t.getF F.LODGE_WUR_STAT_BASE_WORD = 1 ∧ OnlyFields s t [F.LODGE_WUR_STAT_WORDS, F.LODGE_WUR_STAT_BASE_WORD] ∧
        t = { s with regs := t.regs }) ∧
      (2 ≤ far → exec (.wurWordRx w) s = .next s)) ∧
    (s.wurBlanked = true → ∀ w, exec (.wurWordRx w) s = .next s)

/-! ### Orangery, tamper, temperature, the store -/

/-- Key updates and derivation (R42, R475, R476, R481–R488, R494): without D13 they only power it up; a message is checked in
R484's order and refused with the first failure, waits for the commit in progress, or requests the store write of the slots it
changes; a node is created under a valid parent at the first free index and invalidated with its descendants; a roll, a
signature and a MAC end their items. A roll of an entry that holds no key ends BAD_ARG, the model's choice (log entry 29). -/
def Obligations.KeyItems : Prop :=
  (∀ (wid : Nat) (i : WItem) (s : State), i.onCore = true → s.domOn 13 = false →
    (s.active? wid W.ORG_KEY_UPDATE = some i → exec (.orgKeyUpdate wid) s = .next s.needD13) ∧
    (s.active? wid W.ORG_DERIVE = some i →
      (i.arg 0 = 0 → exec (.orgDeriveNode wid) s = .next s.needD13) ∧
      (i.arg 0 = 1 → exec (.orgDeriveInvalidate wid) s = .next s.needD13) ∧
      (i.arg 0 = 2 → exec (.orgDeriveRoll wid) s = .next s.needD13) ∧
      (i.arg 0 = 3 → exec (.orgDeriveAttest wid) s = .next s.needD13) ∧
      (i.arg 0 = 4 → exec (.orgDeriveHmac wid) s = .next s.needD13)) ∧
    (s.powered = true → s.domUnused 13 = false → s.hasHeld 13 = false → s.dom 13 = DS.off → s.dom 2 = DS.on →
      s.needD13.dom 13 = DS.pwrUp ∧ s.needD13.hasHeld 13 = true)) ∧
  ∀ (wid : Nat) (i : WItem) (s : State), i.onCore = true → s.domOn 13 = true →
    (s.active? wid W.ORG_KEY_UPDATE = some i →
      (s.org.commit.isSome = true → exec (.orgKeyUpdate wid) s =
        .next ((s.updOrg (fun o => { o with waiting := o.waiting ++ [wid] })).park wid)) ∧
      (s.org.commit = none →
        exec (.orgKeyUpdate wid) s = .next (match s.kuCheck i.wid i.payload with
          | .error e => s.kuRefuse i.wid i.payload e.1 e.2
          | .ok r => ((s.updOrg (fun o => { o with commit := some i.wid })).psRequest (.keyUpdate i.wid)
              (.org (slotDiff s.org.slots r.1) r.2)).park i.wid))) ∧
    (s.active? wid W.ORG_DERIVE = some i →
      let n := i.arg 1
      (4 < i.arg 0 → exec (.orgDeriveNode wid) s = .next (s.finish wid St.BAD_ARG)) ∧
      (i.arg 0 = 0 →
        let free := ((List.range 24).map (· + 8)).find? (fun n => decide (s.nodeState n = Nd.FREE))
        let taken := s.org.nodes.any (fun x => x.parent = n ∧ x.idx ≠ 0 ∧ x.label = i.payload)
        (s.nodeState n ≠ Nd.VALID ∨ (n ≠ 1 ∧ (n < 8 ∨ 31 < n)) → exec (.orgDeriveNode wid) s = .next (s.finish wid 0x80)) ∧
        (n = 1 ∨ (8 ≤ n ∧ n ≤ 31) → s.nodeState n = Nd.VALID →
          (free = none → exec (.orgDeriveNode wid) s = .next (s.finish wid 0x81)) ∧
          (∀ k, free = some k →
            (i.payload = [] ∨ 16 < i.payload.length ∨ taken = true → exec (.orgDeriveNode wid) s = .next (s.finish wid 0x82)) ∧
            (1 ≤ i.payload.length → i.payload.length ≤ 16 → taken = false → exec (.orgDeriveNode wid) s =
              .next ((s.updOrg (fun o => { o with nodes := o.nodes ++ [⟨k, Nd.VALID, n, i.payload⟩] })).finish wid St.OK
                (leBytes 4 k)))))) ∧
      (i.arg 0 = 1 → n < 2 ∨ s.nodeState n ≠ Nd.VALID → exec (.orgDeriveInvalidate wid) s = .next (s.finish wid 0x80)) ∧
      (i.arg 0 = 1 → 2 ≤ n → s.nodeState n = Nd.VALID →
        let orph := (s.org.nodes.filter (fun x => s.under n 32 x.idx)).map (·.idx)
        let s1 := s.updOrg (fun o => { o with nodes := o.nodes.map (fun (x : OrgNode) =>
          if x.idx = n then { x with state := Nd.INVALID }
          else if orph.contains x.idx then { x with state := Nd.ORPHAN } else x) })
        (orph = [] → exec (.orgDeriveInvalidate wid) s = .next (s1.finish wid St.OK (leBytes 4 0))) ∧
        (orph ≠ [] → exec (.orgDeriveInvalidate wid) s =
          .next ((s1.setF F.ORG_STAT_ORPHANED 1).finish wid St.OK (leBytes 4 orph.length)))) ∧
      (i.arg 0 = 2 → n < 0xF0 ∨ 0xFF < n → exec (.orgDeriveRoll wid) s = .next (s.finish wid St.BAD_ARG)) ∧
      (i.arg 0 = 2 → 0xF0 ≤ n → n ≤ 0xFF →
        (s.nextHeld n = true → exec (.orgDeriveRoll wid) s = .next (s.finish wid 0x83)) ∧
        (s.nextHeld n = false → s.keysWithheld = true → exec (.orgDeriveRoll wid) s = .next (s.finish wid 0x85)) ∧
        (s.nextHeld n = false → s.keysWithheld = false → (s.bsa.key? n).isSome = true →
          exec (.orgDeriveRoll wid) s = .next ((s.rollKey n).finish wid St.OK)) ∧
        (s.nextHeld n = false → s.keysWithheld = false → (s.bsa.key? n).isSome = false →
          exec (.orgDeriveRoll wid) s = .next (s.finish wid St.BAD_ARG))) ∧
      (i.arg 0 = 3 → (n ≠ 2 ∧ (n < 8 ∨ 31 < n)) ∨ s.nodeState n ≠ Nd.VALID →
        exec (.orgDeriveAttest wid) s = .next (s.finish wid 0x80)) ∧
      (i.arg 0 = 3 → n = 2 ∨ (8 ≤ n ∧ n ≤ 31) → s.nodeState n = Nd.VALID →
        i.payload.length < 16 ∨ 64 < i.payload.length → exec (.orgDeriveAttest wid) s = .next (s.finish wid St.BAD_ARG)) ∧
      (i.arg 0 = 3 → n = 2 ∨ (8 ≤ n ∧ n ≤ 31) → s.nodeState n = Nd.VALID → 16 ≤ i.payload.length → i.payload.length ≤ 64 →
        let d := p256.scalar (kdf (s.nodeKey 33 n) (ascii "P256") uidBytes 256)
        exec (.orgDeriveAttest wid) s = .next ((s.random 256).2.finish wid St.OK (p256.sign d
          (sha256 (ascii "EWG-ATTEST" ++ uidBytes ++ s.power.measured ++ i.payload)) (s.random 256).1 ++ p256.pub d))) ∧
      (i.arg 0 = 4 → i.payload = [] ∨ 960 < i.payload.length → exec (.orgDeriveHmac wid) s = .next (s.finish wid St.BAD_ARG)) ∧
      (i.arg 0 = 4 → 1 ≤ i.payload.length → i.payload.length ≤ 960 → s.slotServes n Cls.HOST_HMAC = false →
        exec (.orgDeriveHmac wid) s = .next ((if (s.slot n).cls = Cls.HOST_HMAC ∧ (s.slot n).isSealed = false then
          s.slotDenied n else s).finish wid 0x84)) ∧
      (i.arg 0 = 4 → 1 ≤ i.payload.length → i.payload.length ≤ 960 → s.slotServes n Cls.HOST_HMAC = true →
        let mac := hmacSha256 (s.slot n).key i.payload
        ((s.slot n).waits = false → exec (.orgDeriveHmac wid) s =
          .next ((s.slotUse n (.keyUse wid mac)).finish wid St.OK mac)) ∧
        ((s.slot n).waits = true → exec (.orgDeriveHmac wid) s = .next ((s.slotUse n (.keyUse wid mac)).park wid))))

/-- Tamper, temperature and the store (R121, R489–R492, R536–R540, R560): sensors that trip nothing new only show, a change
pulsing the crossing; a sensor that trips is a tamper; a tamper's zeroisation leaves no volatile or TAMPER_WIPE key and no
cached key; keys are drawn again once no sensor reads active; the die temperature shows HOT and OVER; a store write that ends
well selects the other bank with the running changes, a first failure is tried again. -/
def Obligations.TamperTemperatureStore : Prop :=
  ∀ s : State,
    (∀ now, s.powered = true → (∀ b, b < 6 → now.testBit b = true → s.bit F.ORG_TAMPER_NOW b = true) →
      let s1 := s.setF F.ORG_TAMPER_NOW (now % 64)
      (now % 64 = s.getF F.ORG_TAMPER_NOW → exec (.tamperSense now) s = .next s1) ∧
      (now % 64 ≠ s.getF F.ORG_TAMPER_NOW → exec (.tamperSense now) s = .next (s1.xingPulse 2))) ∧
    (∀ now b, s.powered = true → b < 6 → now = 2 ^ b → s.getF F.ORG_TAMPER_NOW = 0 →
      exec (.tamperSense now) s = .next (((s.setF F.ORG_TAMPER_NOW (2 ^ b)).tamper (2 ^ b)).xingPulse 2)) ∧
    (s.zeroise.org.slots = s.org.slots.filter (fun p => p.2.persist && !p.2.wipe) ∧ s.zeroise.bsa.keys = [] ∧
      s.zeroise.bsb.keys = [] ∧ s.zeroise.gzb.curKey = none ∧ s.zeroise.gzb.nextKey = none ∧
      s.zeroise.getF F.GZB_STAT_KEY_VALID = 0 ∧ s.zeroise.getF F.GZB_STAT_NEXT_VALID = 0 ∧
      s.zeroise.getF F.GZB_STAT_WORD_READY = 0) ∧
    (s.org.redraw = true → s.keysWithheld = false → s.domOn 8 = true →
      (s.domOn 13 = true → exec .tamperKeyRedraw s =
        .next ((s.drawKeys.loadJoinKey).updOrg (fun o => { o with redraw := false }))) ∧
      (s.domOn 13 = false → exec .tamperKeyRedraw s = .next s.needD13)) ∧
    (s.keysWithheld = true → exec .tamperKeyRedraw s = .next s) ∧
    (∀ t10 upd, s.powered = true → -550 ≤ t10 → t10 ≤ 1600 → s.bit F.ORG_TAMPER_NOW 3 = false →
      ∃ t, exec (.tempMeasure t10 upd) s = .next t ∧
        t.getF F.LODGE_TEMP_HOT = (if 1450 ≤ t10 then 1 else 0) ∧
        (1450 ≤ t10 → t.getF F.LODGE_TEMP_HOT_SEEN = 1) ∧ (1500 ≤ t10 → t.getF F.LODGE_TEMP_OVER_SEEN = 1) ∧
        (upd = true → t.getI F.LODGE_TEMP_DIE = (BitVec.ofInt F.LODGE_TEMP_DIE.width t10).toInt) ∧
        (upd = false → t.getF F.LODGE_TEMP_DIE = s.getF F.LODGE_TEMP_DIE) ∧
        OnlyFields s t [F.LODGE_TEMP_HOT, F.LODGE_TEMP_HOT_SEEN, F.LODGE_TEMP_OVER_SEEN, F.LODGE_TEMP_DIE] ∧
        t = { s with regs := t.regs }) ∧
    (s.ps.running = [] → ∀ ok, exec (.psWriteComplete ok) s = .next s) ∧
    (s.powered = true → s.ps.running ≠ [] → s.ps.tries = 0 → exec (.psWriteComplete false) s =
      .next { s with ps := { s.ps with tries := 1 } }) ∧
    (s.powered = true → s.ps.running ≠ [] → s.ps.tries ≠ 0 → exec (.psWriteComplete false) s = .next s.psFail) ∧
    (∀ a v, s.powered = true → s.ps.running = [⟨.survey, .survey a v⟩] → s.ps.waiting = [] → s.ps.sel.isSome = true →
      let im := { (s.psImage.apply (.survey a v)) with seq := (s.psImage.seq + 1) % 2 ^ 32 }
      let bank := 1 - s.getF F.LODGE_PS_STAT_BANK
      exec (.psWriteComplete true) s = .next { s.setF F.LODGE_PS_STAT_BANK bank with ps := { s.ps with
        running := [], waiting := [], tries := 0, sel := some im
        bank0 := if bank = 0 then some im else s.ps.bank0, bank1 := if bank = 0 then s.ps.bank1 else some im } })

/-! ### Field update and the Isben link -/

/-- A link packet that reaches its command (R508, R509): the link served, no reply kept for its SEQ, no SUBMIT of its SEQ in
flight, not the recovery ROM. -/
def LinkTakes (s : State) (seq : Nat) : Prop :=
  s.linkServed = true ∧ s.svc.keptSeq ≠ some (seq % 256) ∧
    s.svc.submit.any (fun p => decide (p.1 = seq % 256)) = false ∧ s.flag F.SYS_BOOT_STAT_RECOVERY = false

/-- The state in which the command of such a packet runs: counted, its rate proven, the lock's 60 s restarted. -/
def linkTook (s : State) : State :=
  { s.incF F.SVC_CNT_RX_OK with
    svc := { s.svc with rateProven := true }
    upd := if s.holdsLock 1 then { s.upd with lastFrc := s.now } else s.upd }

/-- Update sessions (R503–R517, R568): each command from the link raises task 15, runs its check and its effect and is
answered with the STATUS, UPD_END once the uses of its key are counted; one without the lock is refused with 0x2A and changes
nothing else of the update; the KEY guards UPD_CTRL; the lock falls 60 s after its last packet; pending fuses are blown up to
the target. -/
def Obligations.UpdateSessions : Prop :=
  ∀ (seq : Nat) (p : Bytes) (s : State),
    (LinkTakes s seq →
      let s1 := (linkTook s).raiseTask 15
      let answer (cmd : Nat) (r : Nat × State) : State := r.2.svcReply cmd (seq % 256) r.1
      exec (.updBegin (.link seq p)) s = .next (answer 0x10 (s1.updBegin 1 p)) ∧
      (5 ≤ p.length → exec (.updData (.link seq p)) s = .next (answer 0x11 (s1.updData 1 (leAt p 0 4) (p.drop 4)))) ∧
      (p.length < 5 → exec (.updData (.link seq p)) s = .next (answer 0x11 (2, s1))) ∧
      exec (.updEnd (.link seq [])) s = .next (match s1.updFinish 1 seq with
        | (some st, t) => answer 0x12 (st, t)
        | (none, t) => t) ∧
      exec (.updActivate (.link seq [])) s = .next (answer 0x13 (s1.updActivate 1)) ∧
      exec (.updAbort (.link seq [])) s = .next (answer 0x14 (s1.updAbort 1)) ∧
      exec (.updConfirm (.link seq [])) s = .next (answer 0x15 s1.updConfirm)) ∧
    (s.getF F.UPD_STAT_LOCK = 0 → s.updData 1 0 p = (0x2A, s) ∧ s.updFinish 1 seq = (some 0x2A, s) ∧ s.updActivate 1 = (0x2A, s) ∧
      s.updAbort 1 = (0x2A, s)) ∧
    (s.getF F.UPD_STAT_LOCK = 0 → 400 ≤ p.length → p.length = 336 + 64 * leAt p 20 2 →
      let s1 := (s.setF F.UPD_STAT_LOCK 1).setF F.UPD_RX_BYTES 0
      s.updBegin 1 p = (match s.beginFault p with
        | some c => (c, s1.updEnd c 0)
        | none => (0, State.program { s1.setF F.UPD_STAT_SESSION 1 with upd := { head := p, lastFrc := s.now } }))) ∧
    (s.holdsLock 1 = true → s.updSession = 1 →
      (∀ c k, s.endFault = some (c, k) → s.updFinish 1 seq = (some c, s.updEnd c k)) ∧
      (s.endFault = none → s.endPlan? = none → s.updFinish 1 seq = (some 0, s.setF F.UPD_STAT_SESSION 3)) ∧
      (∀ k b, s.endFault = none → s.endPlan? = some (k, b) → (imageFault s.part b b.length).isSome = true →
        s.updFinish 1 seq = (some 0x2F, s.updEnd 0x2F k))) ∧
    (s.holdsLock 1 = true → s.updSession = 3 → s.anyJoined = false →
      (s.updActivate 1).1 = 0 ∧ (s.updActivate 1).2.updSession = 4) ∧
    (s.holdsLock 1 = true → s.updSession = 1 → ∃ t, s.updAbort 1 = (0, t) ∧ t.getF F.UPD_STAT_LOCK = 0 ∧
      t.updSession = 0 ∧ t.getF F.UPD_ERR_ERROR = 0x30 ∧ t = { s with regs := t.regs, upd := {} }) ∧
    (s.mayConfirm = false → s.updConfirm = (0x32, s.setF F.UPD_ERR_ERROR 0x32)) ∧
    (s.mayConfirm = true → s.updConfirm = (0, s.psRequest .updConfirm (.upd { s.updRecNext with
      state := 0, trialBoots := 0, svnPending := s.updRecNext.burn || s.updRecNext.svnPending }))) ∧
    (∀ (m : Master) (v : Word), s.wrAcc m R.UPD_CTRL = .ok → v.toNat / 65536 ≠ 0xC3A5 →
      exec (.updAbort (.ctrl m v)) s = .next s ∧ exec (.updConfirm (.ctrl m v)) s = .next s) ∧
    (s.getF F.UPD_STAT_LOCK ≠ 0 → s.updSession ≠ 4 → s.since s.upd.lastFrc 60000000 = true →
      ∃ t, exec .updLockTimeout s = .next t ∧ t.getF F.UPD_STAT_LOCK = 0 ∧ t.updSession = 0 ∧
        t = { s with regs := t.regs, upd := {} }) ∧
    (s.getF F.UPD_STAT_LOCK = 0 ∨ s.since s.upd.lastFrc 60000000 = false → exec .updLockTimeout s = .next s) ∧
    (s.powered = true → (s.ps.running ++ s.ps.waiting).any (fun q => decide (q.who = .updOther)) = false →
      (s.updRec.svnPending = false → exec .svnFuseBurn s = .next s) ∧
      (s.updRec.svnPending = true → ∃ t, exec .svnFuseBurn s = .next t ∧
        t.flash.svnFuses = max s.flash.svnFuses (min s.updRec.svnTarget 63) ∧
        OnlyFields s t [F.UPD_SVN_FLOOR] ∧
        t = { s with regs := t.regs, ps := t.ps, flash := { s.flash with svnFuses := t.flash.svnFuses } }))

/-- The Isben link (R85, R86, R507–R510): its receive pair inverts, SVC_PRESENT shows and wakes, a bad packet is counted, a new
rate that brings no packet for 1 s falls back; HELLO, SET_RATE, READ, WRITE, SUBMIT and RESET run and are answered; a packet
that repeats the SEQ of the last reply is answered again and nothing runs. -/
def Obligations.IsbenLink : Prop :=
  ∀ (seq : Nat) (p : Bytes) (s : State),
    (s.powered = true → ∃ t, exec .svcRxInvert s = .next t ∧ t.pads = { s.pads with svcRxInvert := !s.pads.svcRxInvert } ∧
      t.getF F.SVC_STAT_RX_INV = b2n (!s.pads.svcRxInvert) ∧ OnlyFields s t [F.SVC_STAT_RX_INV] ∧
      t = { s with regs := t.regs, pads := t.pads }) ∧
    (s.powered = true → ∃ t, exec .svcPresentAssert s = .next t ∧ t.getF F.SVC_STAT_PRESENT = 1 ∧
      t.getF F.SVC_STAT_PRESENT_SEEN = 1 ∧ t.getF F.SVC_STAT_RATE = 0 ∧ t.pads = { s.pads with svcPresent := true } ∧
      t.power = { s.power with wakeReq := s.power.wakeReq ||| 2 ^ 6 } ∧
      OnlyFields s t [F.SVC_STAT_PRESENT, F.SVC_STAT_PRESENT_SEEN, F.SVC_STAT_RATE] ∧
      t = { s with regs := t.regs, pads := t.pads, power := t.power, svc := { s.svc with rateProven := true } }) ∧
    (s.powered = true → exec .svcPresentRelease s = .next (((State.setF { s with
      pads := { s.pads with svcPresent := false }, svc := { s.svc with held := false } } F.SVC_STAT_PRESENT 0).updRelease
        1).claimTrouble .tool)) ∧
    (s.linkServed = true → ∃ t, exec .svcPacketBad s = .next t ∧ t.getF F.SVC_STAT_CRC_SEEN = 1 ∧
      OnlyFields s t [F.SVC_CNT_RX_BAD, F.SVC_STAT_CRC_SEEN] ∧ t = { s with regs := t.regs }) ∧
    (s.powered = true → s.svc.rateProven = false → s.since s.svc.rateFrc 1000000 = true →
      ∃ t, exec .svcRateTimeout s = .next t ∧ t.getF F.SVC_STAT_RATE = 0 ∧
        OnlyFields s t [F.SVC_STAT_RATE] ∧ t = { s with regs := t.regs, svc := { s.svc with rateProven := true } }) ∧
    (s.svc.rateProven = true ∨ s.since s.svc.rateFrc 1000000 = false → exec .svcRateTimeout s = .next s) ∧
    (s.linkServed = true → s.svc.keptSeq = some (seq % 256) → ∀ c ∈ [Instr.svcHello seq p, .svcSetRate seq p, .svcRead seq p,
        .svcWrite seq p, .svcSubmit seq p, .svcReset seq p], ∃ t, exec c s = .next t ∧ t.svc.sent = s.svc.kept ∧
      OnlyFields s t [F.SVC_CNT_RX_OK] ∧ t = { s with regs := t.regs, upd := t.upd, svc := t.svc }) ∧
    (LinkTakes s seq →
      let s1 := linkTook s
      exec (.svcHello seq []) s = .next (s1.svcReply 1 (seq % 256) 0 (leBytes 2 (partCode s.part) ++
        [byte s.siStep, byte 0] ++ uidBytes ++ leBytes 4 (s1.rd R.UPD_STAT).toNat)) ∧
      (p.length = 4 → ∀ r, rateCode (leAt p 0 4) = some r → ∃ t, exec (.svcSetRate seq p) s = .next t ∧
        t.getF F.SVC_STAT_RATE = r ∧ t.svc = { (s1.svcReply 2 (seq % 256) 0).svc with rateProven := false, rateFrc := s.now } ∧
        OnlyFields s t [F.SVC_CNT_RX_OK, F.SVC_STAT_RATE]) ∧
      (p.length = 4 → rateCode (leAt p 0 4) = none → exec (.svcSetRate seq p) s = .next (s1.svcReply 2 (seq % 256) 4)) ∧
      (p.length = 6 → 1 ≤ leAt p 4 2 → leAt p 4 2 * wordLen (leAt p 0 4) ≤ 4096 →
        exec (.svcRead seq p) s = .next (s1.svcAccess false (seq % 256) (leAt p 0 4) (leAt p 4 2) [])) ∧
      (5 ≤ p.length → (p.drop 4).length % wordLen (leAt p 0 4) = 0 → exec (.svcWrite seq p) s =
        .next (s1.svcAccess true (seq % 256) (leAt p 0 4) ((p.drop 4).length / wordLen (leAt p 0 4))
          ((List.range ((p.drop 4).length / 4)).map (fun k => word (leAt (p.drop 4) (4 * k) 4))))) ∧
      exec (.svcSubmit seq p) s = .next (s1.svcItem (seq % 256) p) ∧
      (p.length = 2 → leAt p 0 2 = 0xC3A5 → exec (.svcReset seq p) s =
        .next ((s1.svcReply 0x16 (seq % 256) 0).resetAll .swReset)) ∧
      (p.length = 2 → leAt p 0 2 ≠ 0xC3A5 → exec (.svcReset seq p) s = .next (s1.svcReply 0x16 (seq % 256) 4)))
end

