-- ==== Sys2Proof/Laws/Sparse.lean ====
section
/-! SUPPORT. Laws of sparse maps: reads after writes, and the canonical form kept by every operation. -/
namespace Sys2Proof.Machine

section
variable {α : Type} [DecidableEq α] (d : Nat → α)

/-- Every key of a map in canonical form whose head is `k` lies above `k`. -/
theorem Sparse.wf_cons {k : Nat} {v : α} {m : List (Nat × α)} :
    Sparse.wf d ((k, v) :: m) = true ↔ v ≠ d k ∧ (∀ p ∈ m, k < p.1) ∧ Sparse.wf d m = true := by
  simp [Sparse.wf, and_assoc]

theorem Sparse.wf_filter (p : Nat × α → Bool) : ∀ {m : List (Nat × α)},
    Sparse.wf d m = true → Sparse.wf d (m.filter p) = true
  | [], h => h
  | (k, v) :: m, h => by
    obtain ⟨h1, h2, h3⟩ := (Sparse.wf_cons d).1 h
    rw [List.filter_cons]
    split
    · exact (Sparse.wf_cons d).2 ⟨h1, fun q hq => h2 q (List.mem_filter.1 hq).1, Sparse.wf_filter p h3⟩
    · exact Sparse.wf_filter p h3

omit [DecidableEq α] in
theorem Sparse.mem_insert {a : Nat} {v : α} {q : Nat × α} : ∀ {m : List (Nat × α)},
    q ∈ Sparse.insert m a v → q = (a, v) ∨ q ∈ m
  | [], h => by simpa [Sparse.insert] using h
  | (k, w) :: m, h => by
    simp only [Sparse.insert] at h
    split at h
    · simpa using h
    · rcases List.mem_cons.1 h with h | h
      · exact .inr (by simp [h])
      · rcases Sparse.mem_insert h with h | h
        · exact .inl h
        · exact .inr (by simp [h])

theorem Sparse.wf_insert {a : Nat} {v : α} (hv : v ≠ d a) : ∀ {m : List (Nat × α)},
    (∀ p ∈ m, p.1 ≠ a) → Sparse.wf d m = true → Sparse.wf d (Sparse.insert m a v) = true
  | [], _, _ => by simp [Sparse.insert, Sparse.wf, hv]
  | (k, w) :: m, hne, h => by
    obtain ⟨h1, h2, h3⟩ := (Sparse.wf_cons d).1 h
    have hk : k ≠ a := hne (k, w) (by simp)
    simp only [Sparse.insert]
    split
    · rename_i hlt
      refine (Sparse.wf_cons d).2 ⟨hv, ?_, h⟩
      intro p hp
      rcases List.mem_cons.1 hp with hp | hp
      · simpa [hp] using hlt
      · exact Nat.lt_trans hlt (h2 p hp)
    · rename_i hlt
      refine (Sparse.wf_cons d).2 ⟨h1, ?_, Sparse.wf_insert hv (fun p hp => hne p (by simp [hp])) h3⟩
      intro p hp
      rcases Sparse.mem_insert hp with hp | hp
      · simp only [hp]; omega
      · exact h2 p hp

/-- A write keeps the canonical form. -/
theorem Sparse.wf_write {m : List (Nat × α)} (a : Nat) (v : α) (h : Sparse.wf d m = true) :
    Sparse.wf d (Sparse.write d m a v) = true := by
  unfold Sparse.write
  split
  · exact Sparse.wf_filter d _ h
  · exact Sparse.wf_insert d ‹_› (fun p hp => by simpa using (List.mem_filter.1 hp).2) (Sparse.wf_filter d _ h)

omit [DecidableEq α] in
theorem Sparse.read_erase_same (a : Nat) : ∀ m : List (Nat × α), Sparse.read d (Sparse.erase m a) a = d a
  | [] => rfl
  | (k, v) :: m => by
    have ih := Sparse.read_erase_same a m
    unfold Sparse.erase at ih ⊢
    by_cases h : k = a
    · simpa [h] using ih
    · simpa [h, Sparse.read, Ne.symm h] using ih

omit [DecidableEq α] in
theorem Sparse.read_erase_other {a b : Nat} (hb : b ≠ a) : ∀ m : List (Nat × α),
    Sparse.read d (Sparse.erase m a) b = Sparse.read d m b
  | [] => rfl
  | (k, v) :: m => by
    have ih := Sparse.read_erase_other hb m
    unfold Sparse.erase at ih ⊢
    by_cases h : k = a
    · subst h
      simpa [Sparse.read, hb] using ih
    · by_cases hk : b = k
      · subst hk
        simp [h, Sparse.read]
      · simpa [h, Sparse.read, hk] using ih

omit [DecidableEq α] in
theorem Sparse.read_insert_same (a : Nat) (v : α) : ∀ m : List (Nat × α), (∀ p ∈ m, p.1 ≠ a) →
    Sparse.read d (Sparse.insert m a v) a = v
  | [], _ => by simp [Sparse.insert, Sparse.read]
  | (k, w) :: m, h => by
    have hk : k ≠ a := h (k, w) (by simp)
    simp only [Sparse.insert]
    split
    · simp [Sparse.read]
    · simp [Sparse.read, Ne.symm hk, Sparse.read_insert_same a v m (fun p hp => h p (by simp [hp]))]

omit [DecidableEq α] in
theorem Sparse.read_insert_other {a b : Nat} (v : α) (hb : b ≠ a) : ∀ m : List (Nat × α),
    Sparse.read d (Sparse.insert m a v) b = Sparse.read d m b
  | [] => by simp [Sparse.insert, Sparse.read, hb]
  | (k, w) :: m => by
    simp only [Sparse.insert]
    split
    · simp [Sparse.read, hb]
    · simp [Sparse.read, Sparse.read_insert_other v hb m]

/-- A key reads what was written to it. -/
theorem Sparse.read_write_same (m : List (Nat × α)) (a : Nat) (v : α) :
    Sparse.read d (Sparse.write d m a v) a = v := by
  unfold Sparse.write
  split
  · rename_i h
    rw [Sparse.read_erase_same, h]
  · exact Sparse.read_insert_same d a v _ (fun p hp => by simpa [Sparse.erase] using (List.mem_filter.1 hp).2)

/-- A write leaves every other key as it was. -/
theorem Sparse.read_write_other {a b : Nat} (m : List (Nat × α)) (v : α) (hb : b ≠ a) :
    Sparse.read d (Sparse.write d m a v) b = Sparse.read d m b := by
  unfold Sparse.write
  split
  · exact Sparse.read_erase_other d hb m
  · rw [Sparse.read_insert_other d v hb, Sparse.read_erase_other d hb]

end

/-- Bytes written keep a byte memory's canonical form. -/
theorem memWrite_wf : ∀ (bs : Bytes) (m : List (Nat × Byte)) (a : Nat), Memory.wf m = true →
    Memory.wf (memWrite m a bs) = true
  | [], _, _, h => h
  | b :: bs, _, a, h => memWrite_wf bs _ (a + 1) (Sparse.wf_write _ a b h)

/-! ### Registers -/

@[simp] theorem State.rd_wr_same (s : State) (a : Nat) (v : Word) : (s.wr a v).rd a = v :=
  Sparse.read_write_same resetOf s.regs a v

theorem State.rd_wr_other (s : State) {a b : Nat} (v : Word) (h : b ≠ a) : (s.wr a v).rd b = s.rd b :=
  Sparse.read_write_other resetOf s.regs v h


/-- A register write keeps a sound state sound. -/
theorem State.wr_regs_wf {s : State} (h : Sparse.wf resetOf s.regs = true) (a : Nat) (v : Word) :
    Sparse.wf resetOf (s.wr a v).regs = true := Sparse.wf_write resetOf a v h

theorem State.resetRange_regs_wf {s : State} (h : Sparse.wf resetOf s.regs = true) (lo hi : Nat) :
    Sparse.wf resetOf (s.resetRange lo hi).regs = true := Sparse.wf_filter resetOf _ h

end Sys2Proof.Machine
end

