-- ==== Sys2Proof/Laws/State.lean ====
section
/-! SUPPORT. Laws of register words and fields, and, for each update of one part of the state, one lemma per field. -/
namespace Sys2Proof.Machine

/-! ### Register words -/

theorem State.rd_setF_other (s : State) (f : Fld) (v : Nat) {b : Nat} (h : b ≠ f.addr) : (s.setF f v).rd b = s.rd b :=
  State.rd_wr_other s _ h

theorem State.getF_setF_other (s : State) (f g : Fld) (v : Nat) (h : g.addr ≠ f.addr) : (s.setF f v).getF g = s.getF g := by
  unfold State.getF
  rw [State.rd_setF_other s f v h]

theorem bitsOf_putBits_same (x lo w v : Nat) : bitsOf (putBits x lo w v) lo w = v % 2 ^ w := by
  unfold bitsOf putBits
  have hp : 0 < 2 ^ lo := Nat.two_pow_pos lo
  have hx : x % 2 ^ lo < 2 ^ lo := Nat.mod_lt _ hp
  have hv : v % 2 ^ w < 2 ^ w := Nat.mod_lt _ (Nat.two_pow_pos w)
  have e : x % 2 ^ lo + v % 2 ^ w * 2 ^ lo + x / 2 ^ (lo + w) * 2 ^ (lo + w)
      = x % 2 ^ lo + 2 ^ lo * (v % 2 ^ w + 2 ^ w * (x / 2 ^ (lo + w))) := by
    rw [Nat.pow_add]
    generalize x / (2 ^ lo * 2 ^ w) = z
    generalize v % 2 ^ w = y
    rw [Nat.mul_add, Nat.mul_comm y, Nat.mul_comm z, Nat.mul_assoc, Nat.add_assoc]
  rw [e, Nat.add_mul_div_left _ _ hp, Nat.div_eq_of_lt hx, Nat.zero_add, Nat.add_mul_mod_self_left, Nat.mod_eq_of_lt hv]

theorem bitsOf_testBit (x lo w i : Nat) : (bitsOf x lo w).testBit i = (decide (i < w) && x.testBit (lo + i)) := by
  rw [bitsOf, Nat.testBit_mod_two_pow, Nat.testBit_div_two_pow, Nat.add_comm i lo]

theorem putBits_testBit_other (x lo w v i : Nat) (h : i < lo ∨ lo + w ≤ i) :
    (putBits x lo w v).testBit i = x.testBit i := by
  unfold putBits
  have hx : x % 2 ^ lo < 2 ^ lo := Nat.mod_lt _ (Nat.two_pow_pos lo)
  have hv : v % 2 ^ w < 2 ^ w := Nat.mod_lt _ (Nat.two_pow_pos w)
  have low : x % 2 ^ lo + v % 2 ^ w * 2 ^ lo < 2 ^ (lo + w) := by
    rw [Nat.pow_add]
    have := Nat.mul_le_mul_right (2 ^ lo) (Nat.succ_le_of_lt hv)
    rw [Nat.succ_mul, Nat.mul_comm (2 ^ w)] at this
    omega
  rw [Nat.add_comm (x % 2 ^ lo + v % 2 ^ w * 2 ^ lo), Nat.mul_comm (x / 2 ^ (lo + w)), ]
  rw [Nat.testBit_two_pow_mul_add _ low]
  rcases h with h | h
  · have h2 : i < lo + w := Nat.lt_of_lt_of_le h (Nat.le_add_right _ _)
    rw [if_pos h2, Nat.add_comm, Nat.mul_comm, Nat.testBit_two_pow_mul_add _ hx, if_pos h, Nat.testBit_mod_two_pow]
    simp [h]
  · rw [if_neg (Nat.not_lt.2 h), Nat.testBit_div_two_pow]
    rw [Nat.sub_add_cancel h]

theorem putBits_lt (x lo w v n : Nat) (hx : x < 2 ^ n) (h : lo + w ≤ n) : putBits x lo w v < 2 ^ n := by
  apply Nat.lt_pow_two_of_testBit
  intro i hi
  rw [putBits_testBit_other x lo w v i (.inr (Nat.le_trans h hi))]
  exact Nat.testBit_lt_two_pow (Nat.lt_of_lt_of_le hx (Nat.pow_le_pow_right (by decide) hi))

theorem State.rd_setF (s : State) (f : Fld) (v : Nat) (h : f.lo + f.width ≤ 32) :
    ((s.setF f v).rd f.addr).toNat = putBits (s.rd f.addr).toNat f.lo f.width v := by
  unfold State.setF word
  rw [State.rd_wr_same, BitVec.toNat_ofNat, Nat.mod_eq_of_lt (putBits_lt _ _ _ _ _ (s.rd f.addr).isLt h)]

/-- A field reads what was written to it, modulo its width. -/
theorem State.getF_setF_same (s : State) (f : Fld) (v : Nat) (h : f.lo + f.width ≤ 32) :
    (s.setF f v).getF f = v % 2 ^ f.width := by
  rw [State.getF, State.rd_setF s f v h, bitsOf_putBits_same]

/-- A field of the same register that shares no bit with the one written reads as before. -/
theorem State.getF_setF_bits (s : State) (f g : Fld) (v : Nat) (h : f.lo + f.width ≤ 32) (ha : g.addr = f.addr)
    (hb : g.lo + g.width ≤ f.lo ∨ f.lo + f.width ≤ g.lo) : (s.setF f v).getF g = s.getF g := by
  unfold State.getF
  rw [ha, State.rd_setF s f v h]
  apply Nat.eq_of_testBit_eq
  intro i
  rw [bitsOf_testBit, bitsOf_testBit]
  by_cases hi : i < g.width
  · rw [putBits_testBit_other _ _ _ _ _ (by omega)]
  · simp [hi]

/-! ### Register writes leave every other part -/

@[simp] theorem State.wr_part (s : State) (a : Nat) (v : Word) : (s.wr a v).part = s.part := rfl
@[simp] theorem State.wr_siStep (s : State) (a : Nat) (v : Word) : (s.wr a v).siStep = s.siStep := rfl
@[simp] theorem State.wr_frc (s : State) (a : Nat) (v : Word) : (s.wr a v).frc = s.frc := rfl
@[simp] theorem State.wr_pending (s : State) (a : Nat) (v : Word) : (s.wr a v).pending = s.pending := rfl
@[simp] theorem State.wr_bus (s : State) (a : Nat) (v : Word) : (s.wr a v).bus = s.bus := rfl
@[simp] theorem State.wr_freeCtr (s : State) (a : Nat) (v : Word) : (s.wr a v).freeCtr = s.freeCtr := rfl
@[simp] theorem State.wr_power (s : State) (a : Nat) (v : Word) : (s.wr a v).power = s.power := rfl
@[simp] theorem State.wr_xings (s : State) (a : Nat) (v : Word) : (s.wr a v).xings = s.xings := rfl
@[simp] theorem State.wr_pads (s : State) (a : Nat) (v : Word) : (s.wr a v).pads = s.pads := rfl
@[simp] theorem State.wr_plan (s : State) (a : Nat) (v : Word) : (s.wr a v).plan = s.plan := rfl
@[simp] theorem State.wr_swap (s : State) (a : Nat) (v : Word) : (s.wr a v).swap = s.swap := rfl
@[simp] theorem State.wr_hspi (s : State) (a : Nat) (v : Word) : (s.wr a v).hspi = s.hspi := rfl
@[simp] theorem State.wr_eth (s : State) (a : Nat) (v : Word) : (s.wr a v).eth = s.eth := rfl
@[simp] theorem State.wr_mbxDirty (s : State) (a : Nat) (v : Word) : (s.wr a v).mbxDirty = s.mbxDirty := rfl
@[simp] theorem State.wr_leases (s : State) (a : Nat) (v : Word) : (s.wr a v).leases = s.leases := rfl
@[simp] theorem State.wr_strms (s : State) (a : Nat) (v : Word) : (s.wr a v).strms = s.strms := rfl
@[simp] theorem State.wr_arb (s : State) (a : Nat) (v : Word) : (s.wr a v).arb = s.arb := rfl
@[simp] theorem State.wr_sdl (s : State) (a : Nat) (v : Word) : (s.wr a v).sdl = s.sdl := rfl
@[simp] theorem State.wr_gzb (s : State) (a : Nat) (v : Word) : (s.wr a v).gzb = s.gzb := rfl
@[simp] theorem State.wr_vb (s : State) (a : Nat) (v : Word) : (s.wr a v).vb = s.vb := rfl
@[simp] theorem State.wr_ps (s : State) (a : Nat) (v : Word) : (s.wr a v).ps = s.ps := rfl
@[simp] theorem State.wr_test (s : State) (a : Nat) (v : Word) : (s.wr a v).test = s.test := rfl
@[simp] theorem State.wr_axes (s : State) (a : Nat) (v : Word) : (s.wr a v).axes = s.axes := rfl
@[simp] theorem State.wr_bv (s : State) (a : Nat) (v : Word) : (s.wr a v).bv = s.bv := rfl
@[simp] theorem State.wr_slv (s : State) (a : Nat) (v : Word) : (s.wr a v).slv = s.slv := rfl
@[simp] theorem State.wr_bsa (s : State) (a : Nat) (v : Word) : (s.wr a v).bsa = s.bsa := rfl
@[simp] theorem State.wr_bsb (s : State) (a : Nat) (v : Word) : (s.wr a v).bsb = s.bsb := rfl
@[simp] theorem State.wr_fleet (s : State) (a : Nat) (v : Word) : (s.wr a v).fleet = s.fleet := rfl
@[simp] theorem State.wr_pgl (s : State) (a : Nat) (v : Word) : (s.wr a v).pgl = s.pgl := rfl
@[simp] theorem State.wr_org (s : State) (a : Nat) (v : Word) : (s.wr a v).org = s.org := rfl
@[simp] theorem State.wr_flash (s : State) (a : Nat) (v : Word) : (s.wr a v).flash = s.flash := rfl
@[simp] theorem State.wr_upd (s : State) (a : Nat) (v : Word) : (s.wr a v).upd = s.upd := rfl
@[simp] theorem State.wr_svc (s : State) (a : Nat) (v : Word) : (s.wr a v).svc = s.svc := rfl

@[simp] theorem State.setF_part (s : State) (f : Fld) (v : Nat) : (s.setF f v).part = s.part := rfl
@[simp] theorem State.setF_siStep (s : State) (f : Fld) (v : Nat) : (s.setF f v).siStep = s.siStep := rfl
@[simp] theorem State.setF_frc (s : State) (f : Fld) (v : Nat) : (s.setF f v).frc = s.frc := rfl
@[simp] theorem State.setF_pending (s : State) (f : Fld) (v : Nat) : (s.setF f v).pending = s.pending := rfl
@[simp] theorem State.setF_bus (s : State) (f : Fld) (v : Nat) : (s.setF f v).bus = s.bus := rfl
@[simp] theorem State.setF_freeCtr (s : State) (f : Fld) (v : Nat) : (s.setF f v).freeCtr = s.freeCtr := rfl
@[simp] theorem State.setF_power (s : State) (f : Fld) (v : Nat) : (s.setF f v).power = s.power := rfl
@[simp] theorem State.setF_xings (s : State) (f : Fld) (v : Nat) : (s.setF f v).xings = s.xings := rfl
@[simp] theorem State.setF_pads (s : State) (f : Fld) (v : Nat) : (s.setF f v).pads = s.pads := rfl
@[simp] theorem State.setF_plan (s : State) (f : Fld) (v : Nat) : (s.setF f v).plan = s.plan := rfl
@[simp] theorem State.setF_swap (s : State) (f : Fld) (v : Nat) : (s.setF f v).swap = s.swap := rfl
@[simp] theorem State.setF_hspi (s : State) (f : Fld) (v : Nat) : (s.setF f v).hspi = s.hspi := rfl
@[simp] theorem State.setF_eth (s : State) (f : Fld) (v : Nat) : (s.setF f v).eth = s.eth := rfl
@[simp] theorem State.setF_mbxDirty (s : State) (f : Fld) (v : Nat) : (s.setF f v).mbxDirty = s.mbxDirty := rfl
@[simp] theorem State.setF_leases (s : State) (f : Fld) (v : Nat) : (s.setF f v).leases = s.leases := rfl
@[simp] theorem State.setF_strms (s : State) (f : Fld) (v : Nat) : (s.setF f v).strms = s.strms := rfl
@[simp] theorem State.setF_arb (s : State) (f : Fld) (v : Nat) : (s.setF f v).arb = s.arb := rfl
@[simp] theorem State.setF_sdl (s : State) (f : Fld) (v : Nat) : (s.setF f v).sdl = s.sdl := rfl
@[simp] theorem State.setF_gzb (s : State) (f : Fld) (v : Nat) : (s.setF f v).gzb = s.gzb := rfl
@[simp] theorem State.setF_vb (s : State) (f : Fld) (v : Nat) : (s.setF f v).vb = s.vb := rfl
@[simp] theorem State.setF_ps (s : State) (f : Fld) (v : Nat) : (s.setF f v).ps = s.ps := rfl
@[simp] theorem State.setF_test (s : State) (f : Fld) (v : Nat) : (s.setF f v).test = s.test := rfl
@[simp] theorem State.setF_axes (s : State) (f : Fld) (v : Nat) : (s.setF f v).axes = s.axes := rfl
@[simp] theorem State.setF_bv (s : State) (f : Fld) (v : Nat) : (s.setF f v).bv = s.bv := rfl
@[simp] theorem State.setF_slv (s : State) (f : Fld) (v : Nat) : (s.setF f v).slv = s.slv := rfl
@[simp] theorem State.setF_bsa (s : State) (f : Fld) (v : Nat) : (s.setF f v).bsa = s.bsa := rfl
@[simp] theorem State.setF_bsb (s : State) (f : Fld) (v : Nat) : (s.setF f v).bsb = s.bsb := rfl
@[simp] theorem State.setF_fleet (s : State) (f : Fld) (v : Nat) : (s.setF f v).fleet = s.fleet := rfl
@[simp] theorem State.setF_pgl (s : State) (f : Fld) (v : Nat) : (s.setF f v).pgl = s.pgl := rfl
@[simp] theorem State.setF_org (s : State) (f : Fld) (v : Nat) : (s.setF f v).org = s.org := rfl
@[simp] theorem State.setF_flash (s : State) (f : Fld) (v : Nat) : (s.setF f v).flash = s.flash := rfl
@[simp] theorem State.setF_upd (s : State) (f : Fld) (v : Nat) : (s.setF f v).upd = s.upd := rfl
@[simp] theorem State.setF_svc (s : State) (f : Fld) (v : Nat) : (s.setF f v).svc = s.svc := rfl

@[simp] theorem State.setBit_part (s : State) (f : Fld) (i : Nat) : (s.setBit f i).part = s.part := rfl
@[simp] theorem State.setBit_siStep (s : State) (f : Fld) (i : Nat) : (s.setBit f i).siStep = s.siStep := rfl
@[simp] theorem State.setBit_frc (s : State) (f : Fld) (i : Nat) : (s.setBit f i).frc = s.frc := rfl
@[simp] theorem State.setBit_pending (s : State) (f : Fld) (i : Nat) : (s.setBit f i).pending = s.pending := rfl
@[simp] theorem State.setBit_bus (s : State) (f : Fld) (i : Nat) : (s.setBit f i).bus = s.bus := rfl
@[simp] theorem State.setBit_freeCtr (s : State) (f : Fld) (i : Nat) : (s.setBit f i).freeCtr = s.freeCtr := rfl
@[simp] theorem State.setBit_power (s : State) (f : Fld) (i : Nat) : (s.setBit f i).power = s.power := rfl
@[simp] theorem State.setBit_xings (s : State) (f : Fld) (i : Nat) : (s.setBit f i).xings = s.xings := rfl
@[simp] theorem State.setBit_pads (s : State) (f : Fld) (i : Nat) : (s.setBit f i).pads = s.pads := rfl
@[simp] theorem State.setBit_plan (s : State) (f : Fld) (i : Nat) : (s.setBit f i).plan = s.plan := rfl
@[simp] theorem State.setBit_swap (s : State) (f : Fld) (i : Nat) : (s.setBit f i).swap = s.swap := rfl
@[simp] theorem State.setBit_hspi (s : State) (f : Fld) (i : Nat) : (s.setBit f i).hspi = s.hspi := rfl
@[simp] theorem State.setBit_eth (s : State) (f : Fld) (i : Nat) : (s.setBit f i).eth = s.eth := rfl
@[simp] theorem State.setBit_mbxDirty (s : State) (f : Fld) (i : Nat) : (s.setBit f i).mbxDirty = s.mbxDirty := rfl
@[simp] theorem State.setBit_leases (s : State) (f : Fld) (i : Nat) : (s.setBit f i).leases = s.leases := rfl
@[simp] theorem State.setBit_strms (s : State) (f : Fld) (i : Nat) : (s.setBit f i).strms = s.strms := rfl
@[simp] theorem State.setBit_arb (s : State) (f : Fld) (i : Nat) : (s.setBit f i).arb = s.arb := rfl
@[simp] theorem State.setBit_sdl (s : State) (f : Fld) (i : Nat) : (s.setBit f i).sdl = s.sdl := rfl
@[simp] theorem State.setBit_gzb (s : State) (f : Fld) (i : Nat) : (s.setBit f i).gzb = s.gzb := rfl
@[simp] theorem State.setBit_vb (s : State) (f : Fld) (i : Nat) : (s.setBit f i).vb = s.vb := rfl
@[simp] theorem State.setBit_ps (s : State) (f : Fld) (i : Nat) : (s.setBit f i).ps = s.ps := rfl
@[simp] theorem State.setBit_test (s : State) (f : Fld) (i : Nat) : (s.setBit f i).test = s.test := rfl
@[simp] theorem State.setBit_axes (s : State) (f : Fld) (i : Nat) : (s.setBit f i).axes = s.axes := rfl
@[simp] theorem State.setBit_bv (s : State) (f : Fld) (i : Nat) : (s.setBit f i).bv = s.bv := rfl
@[simp] theorem State.setBit_slv (s : State) (f : Fld) (i : Nat) : (s.setBit f i).slv = s.slv := rfl
@[simp] theorem State.setBit_bsa (s : State) (f : Fld) (i : Nat) : (s.setBit f i).bsa = s.bsa := rfl
@[simp] theorem State.setBit_bsb (s : State) (f : Fld) (i : Nat) : (s.setBit f i).bsb = s.bsb := rfl
@[simp] theorem State.setBit_fleet (s : State) (f : Fld) (i : Nat) : (s.setBit f i).fleet = s.fleet := rfl
@[simp] theorem State.setBit_pgl (s : State) (f : Fld) (i : Nat) : (s.setBit f i).pgl = s.pgl := rfl
@[simp] theorem State.setBit_org (s : State) (f : Fld) (i : Nat) : (s.setBit f i).org = s.org := rfl
@[simp] theorem State.setBit_flash (s : State) (f : Fld) (i : Nat) : (s.setBit f i).flash = s.flash := rfl
@[simp] theorem State.setBit_upd (s : State) (f : Fld) (i : Nat) : (s.setBit f i).upd = s.upd := rfl
@[simp] theorem State.setBit_svc (s : State) (f : Fld) (i : Nat) : (s.setBit f i).svc = s.svc := rfl

@[simp] theorem State.clrBit_part (s : State) (f : Fld) (i : Nat) : (s.clrBit f i).part = s.part := rfl
@[simp] theorem State.clrBit_siStep (s : State) (f : Fld) (i : Nat) : (s.clrBit f i).siStep = s.siStep := rfl
@[simp] theorem State.clrBit_frc (s : State) (f : Fld) (i : Nat) : (s.clrBit f i).frc = s.frc := rfl
@[simp] theorem State.clrBit_pending (s : State) (f : Fld) (i : Nat) : (s.clrBit f i).pending = s.pending := rfl
@[simp] theorem State.clrBit_bus (s : State) (f : Fld) (i : Nat) : (s.clrBit f i).bus = s.bus := rfl
@[simp] theorem State.clrBit_freeCtr (s : State) (f : Fld) (i : Nat) : (s.clrBit f i).freeCtr = s.freeCtr := rfl
@[simp] theorem State.clrBit_power (s : State) (f : Fld) (i : Nat) : (s.clrBit f i).power = s.power := rfl
@[simp] theorem State.clrBit_xings (s : State) (f : Fld) (i : Nat) : (s.clrBit f i).xings = s.xings := rfl
@[simp] theorem State.clrBit_pads (s : State) (f : Fld) (i : Nat) : (s.clrBit f i).pads = s.pads := rfl
@[simp] theorem State.clrBit_plan (s : State) (f : Fld) (i : Nat) : (s.clrBit f i).plan = s.plan := rfl
@[simp] theorem State.clrBit_swap (s : State) (f : Fld) (i : Nat) : (s.clrBit f i).swap = s.swap := rfl
@[simp] theorem State.clrBit_hspi (s : State) (f : Fld) (i : Nat) : (s.clrBit f i).hspi = s.hspi := rfl
@[simp] theorem State.clrBit_eth (s : State) (f : Fld) (i : Nat) : (s.clrBit f i).eth = s.eth := rfl
@[simp] theorem State.clrBit_mbxDirty (s : State) (f : Fld) (i : Nat) : (s.clrBit f i).mbxDirty = s.mbxDirty := rfl
@[simp] theorem State.clrBit_leases (s : State) (f : Fld) (i : Nat) : (s.clrBit f i).leases = s.leases := rfl
@[simp] theorem State.clrBit_strms (s : State) (f : Fld) (i : Nat) : (s.clrBit f i).strms = s.strms := rfl
@[simp] theorem State.clrBit_arb (s : State) (f : Fld) (i : Nat) : (s.clrBit f i).arb = s.arb := rfl
@[simp] theorem State.clrBit_sdl (s : State) (f : Fld) (i : Nat) : (s.clrBit f i).sdl = s.sdl := rfl
@[simp] theorem State.clrBit_gzb (s : State) (f : Fld) (i : Nat) : (s.clrBit f i).gzb = s.gzb := rfl
@[simp] theorem State.clrBit_vb (s : State) (f : Fld) (i : Nat) : (s.clrBit f i).vb = s.vb := rfl
@[simp] theorem State.clrBit_ps (s : State) (f : Fld) (i : Nat) : (s.clrBit f i).ps = s.ps := rfl
@[simp] theorem State.clrBit_test (s : State) (f : Fld) (i : Nat) : (s.clrBit f i).test = s.test := rfl
@[simp] theorem State.clrBit_axes (s : State) (f : Fld) (i : Nat) : (s.clrBit f i).axes = s.axes := rfl
@[simp] theorem State.clrBit_bv (s : State) (f : Fld) (i : Nat) : (s.clrBit f i).bv = s.bv := rfl
@[simp] theorem State.clrBit_slv (s : State) (f : Fld) (i : Nat) : (s.clrBit f i).slv = s.slv := rfl
@[simp] theorem State.clrBit_bsa (s : State) (f : Fld) (i : Nat) : (s.clrBit f i).bsa = s.bsa := rfl
@[simp] theorem State.clrBit_bsb (s : State) (f : Fld) (i : Nat) : (s.clrBit f i).bsb = s.bsb := rfl
@[simp] theorem State.clrBit_fleet (s : State) (f : Fld) (i : Nat) : (s.clrBit f i).fleet = s.fleet := rfl
@[simp] theorem State.clrBit_pgl (s : State) (f : Fld) (i : Nat) : (s.clrBit f i).pgl = s.pgl := rfl
@[simp] theorem State.clrBit_org (s : State) (f : Fld) (i : Nat) : (s.clrBit f i).org = s.org := rfl
@[simp] theorem State.clrBit_flash (s : State) (f : Fld) (i : Nat) : (s.clrBit f i).flash = s.flash := rfl
@[simp] theorem State.clrBit_upd (s : State) (f : Fld) (i : Nat) : (s.clrBit f i).upd = s.upd := rfl
@[simp] theorem State.clrBit_svc (s : State) (f : Fld) (i : Nat) : (s.clrBit f i).svc = s.svc := rfl

@[simp] theorem State.incF_part (s : State) (f : Fld) (n : Nat) : (s.incF f n).part = s.part := rfl
@[simp] theorem State.incF_siStep (s : State) (f : Fld) (n : Nat) : (s.incF f n).siStep = s.siStep := rfl
@[simp] theorem State.incF_frc (s : State) (f : Fld) (n : Nat) : (s.incF f n).frc = s.frc := rfl
@[simp] theorem State.incF_pending (s : State) (f : Fld) (n : Nat) : (s.incF f n).pending = s.pending := rfl
@[simp] theorem State.incF_bus (s : State) (f : Fld) (n : Nat) : (s.incF f n).bus = s.bus := rfl
@[simp] theorem State.incF_freeCtr (s : State) (f : Fld) (n : Nat) : (s.incF f n).freeCtr = s.freeCtr := rfl
@[simp] theorem State.incF_power (s : State) (f : Fld) (n : Nat) : (s.incF f n).power = s.power := rfl
@[simp] theorem State.incF_xings (s : State) (f : Fld) (n : Nat) : (s.incF f n).xings = s.xings := rfl
@[simp] theorem State.incF_pads (s : State) (f : Fld) (n : Nat) : (s.incF f n).pads = s.pads := rfl
@[simp] theorem State.incF_plan (s : State) (f : Fld) (n : Nat) : (s.incF f n).plan = s.plan := rfl
@[simp] theorem State.incF_swap (s : State) (f : Fld) (n : Nat) : (s.incF f n).swap = s.swap := rfl
@[simp] theorem State.incF_hspi (s : State) (f : Fld) (n : Nat) : (s.incF f n).hspi = s.hspi := rfl
@[simp] theorem State.incF_eth (s : State) (f : Fld) (n : Nat) : (s.incF f n).eth = s.eth := rfl
@[simp] theorem State.incF_mbxDirty (s : State) (f : Fld) (n : Nat) : (s.incF f n).mbxDirty = s.mbxDirty := rfl
@[simp] theorem State.incF_leases (s : State) (f : Fld) (n : Nat) : (s.incF f n).leases = s.leases := rfl
@[simp] theorem State.incF_strms (s : State) (f : Fld) (n : Nat) : (s.incF f n).strms = s.strms := rfl
@[simp] theorem State.incF_arb (s : State) (f : Fld) (n : Nat) : (s.incF f n).arb = s.arb := rfl
@[simp] theorem State.incF_sdl (s : State) (f : Fld) (n : Nat) : (s.incF f n).sdl = s.sdl := rfl
@[simp] theorem State.incF_gzb (s : State) (f : Fld) (n : Nat) : (s.incF f n).gzb = s.gzb := rfl
@[simp] theorem State.incF_vb (s : State) (f : Fld) (n : Nat) : (s.incF f n).vb = s.vb := rfl
@[simp] theorem State.incF_ps (s : State) (f : Fld) (n : Nat) : (s.incF f n).ps = s.ps := rfl
@[simp] theorem State.incF_test (s : State) (f : Fld) (n : Nat) : (s.incF f n).test = s.test := rfl
@[simp] theorem State.incF_axes (s : State) (f : Fld) (n : Nat) : (s.incF f n).axes = s.axes := rfl
@[simp] theorem State.incF_bv (s : State) (f : Fld) (n : Nat) : (s.incF f n).bv = s.bv := rfl
@[simp] theorem State.incF_slv (s : State) (f : Fld) (n : Nat) : (s.incF f n).slv = s.slv := rfl
@[simp] theorem State.incF_bsa (s : State) (f : Fld) (n : Nat) : (s.incF f n).bsa = s.bsa := rfl
@[simp] theorem State.incF_bsb (s : State) (f : Fld) (n : Nat) : (s.incF f n).bsb = s.bsb := rfl
@[simp] theorem State.incF_fleet (s : State) (f : Fld) (n : Nat) : (s.incF f n).fleet = s.fleet := rfl
@[simp] theorem State.incF_pgl (s : State) (f : Fld) (n : Nat) : (s.incF f n).pgl = s.pgl := rfl
@[simp] theorem State.incF_org (s : State) (f : Fld) (n : Nat) : (s.incF f n).org = s.org := rfl
@[simp] theorem State.incF_flash (s : State) (f : Fld) (n : Nat) : (s.incF f n).flash = s.flash := rfl
@[simp] theorem State.incF_upd (s : State) (f : Fld) (n : Nat) : (s.incF f n).upd = s.upd := rfl
@[simp] theorem State.incF_svc (s : State) (f : Fld) (n : Nat) : (s.incF f n).svc = s.svc := rfl

@[simp] theorem State.maxF_part (s : State) (f : Fld) (n : Nat) : (s.maxF f n).part = s.part := rfl
@[simp] theorem State.maxF_siStep (s : State) (f : Fld) (n : Nat) : (s.maxF f n).siStep = s.siStep := rfl
@[simp] theorem State.maxF_frc (s : State) (f : Fld) (n : Nat) : (s.maxF f n).frc = s.frc := rfl
@[simp] theorem State.maxF_pending (s : State) (f : Fld) (n : Nat) : (s.maxF f n).pending = s.pending := rfl
@[simp] theorem State.maxF_bus (s : State) (f : Fld) (n : Nat) : (s.maxF f n).bus = s.bus := rfl
@[simp] theorem State.maxF_freeCtr (s : State) (f : Fld) (n : Nat) : (s.maxF f n).freeCtr = s.freeCtr := rfl
@[simp] theorem State.maxF_power (s : State) (f : Fld) (n : Nat) : (s.maxF f n).power = s.power := rfl
@[simp] theorem State.maxF_xings (s : State) (f : Fld) (n : Nat) : (s.maxF f n).xings = s.xings := rfl
@[simp] theorem State.maxF_pads (s : State) (f : Fld) (n : Nat) : (s.maxF f n).pads = s.pads := rfl
@[simp] theorem State.maxF_plan (s : State) (f : Fld) (n : Nat) : (s.maxF f n).plan = s.plan := rfl
@[simp] theorem State.maxF_swap (s : State) (f : Fld) (n : Nat) : (s.maxF f n).swap = s.swap := rfl
@[simp] theorem State.maxF_hspi (s : State) (f : Fld) (n : Nat) : (s.maxF f n).hspi = s.hspi := rfl
@[simp] theorem State.maxF_eth (s : State) (f : Fld) (n : Nat) : (s.maxF f n).eth = s.eth := rfl
@[simp] theorem State.maxF_mbxDirty (s : State) (f : Fld) (n : Nat) : (s.maxF f n).mbxDirty = s.mbxDirty := rfl
@[simp] theorem State.maxF_leases (s : State) (f : Fld) (n : Nat) : (s.maxF f n).leases = s.leases := rfl
@[simp] theorem State.maxF_strms (s : State) (f : Fld) (n : Nat) : (s.maxF f n).strms = s.strms := rfl
@[simp] theorem State.maxF_arb (s : State) (f : Fld) (n : Nat) : (s.maxF f n).arb = s.arb := rfl
@[simp] theorem State.maxF_sdl (s : State) (f : Fld) (n : Nat) : (s.maxF f n).sdl = s.sdl := rfl
@[simp] theorem State.maxF_gzb (s : State) (f : Fld) (n : Nat) : (s.maxF f n).gzb = s.gzb := rfl
@[simp] theorem State.maxF_vb (s : State) (f : Fld) (n : Nat) : (s.maxF f n).vb = s.vb := rfl
@[simp] theorem State.maxF_ps (s : State) (f : Fld) (n : Nat) : (s.maxF f n).ps = s.ps := rfl
@[simp] theorem State.maxF_test (s : State) (f : Fld) (n : Nat) : (s.maxF f n).test = s.test := rfl
@[simp] theorem State.maxF_axes (s : State) (f : Fld) (n : Nat) : (s.maxF f n).axes = s.axes := rfl
@[simp] theorem State.maxF_bv (s : State) (f : Fld) (n : Nat) : (s.maxF f n).bv = s.bv := rfl
@[simp] theorem State.maxF_slv (s : State) (f : Fld) (n : Nat) : (s.maxF f n).slv = s.slv := rfl
@[simp] theorem State.maxF_bsa (s : State) (f : Fld) (n : Nat) : (s.maxF f n).bsa = s.bsa := rfl
@[simp] theorem State.maxF_bsb (s : State) (f : Fld) (n : Nat) : (s.maxF f n).bsb = s.bsb := rfl
@[simp] theorem State.maxF_fleet (s : State) (f : Fld) (n : Nat) : (s.maxF f n).fleet = s.fleet := rfl
@[simp] theorem State.maxF_pgl (s : State) (f : Fld) (n : Nat) : (s.maxF f n).pgl = s.pgl := rfl
@[simp] theorem State.maxF_org (s : State) (f : Fld) (n : Nat) : (s.maxF f n).org = s.org := rfl
@[simp] theorem State.maxF_flash (s : State) (f : Fld) (n : Nat) : (s.maxF f n).flash = s.flash := rfl
@[simp] theorem State.maxF_upd (s : State) (f : Fld) (n : Nat) : (s.maxF f n).upd = s.upd := rfl
@[simp] theorem State.maxF_svc (s : State) (f : Fld) (n : Nat) : (s.maxF f n).svc = s.svc := rfl

@[simp] theorem State.setI_part (s : State) (f : Fld) (v : Int) : (s.setI f v).part = s.part := rfl
@[simp] theorem State.setI_siStep (s : State) (f : Fld) (v : Int) : (s.setI f v).siStep = s.siStep := rfl
@[simp] theorem State.setI_frc (s : State) (f : Fld) (v : Int) : (s.setI f v).frc = s.frc := rfl
@[simp] theorem State.setI_pending (s : State) (f : Fld) (v : Int) : (s.setI f v).pending = s.pending := rfl
@[simp] theorem State.setI_bus (s : State) (f : Fld) (v : Int) : (s.setI f v).bus = s.bus := rfl
@[simp] theorem State.setI_freeCtr (s : State) (f : Fld) (v : Int) : (s.setI f v).freeCtr = s.freeCtr := rfl
@[simp] theorem State.setI_power (s : State) (f : Fld) (v : Int) : (s.setI f v).power = s.power := rfl
@[simp] theorem State.setI_xings (s : State) (f : Fld) (v : Int) : (s.setI f v).xings = s.xings := rfl
@[simp] theorem State.setI_pads (s : State) (f : Fld) (v : Int) : (s.setI f v).pads = s.pads := rfl
@[simp] theorem State.setI_plan (s : State) (f : Fld) (v : Int) : (s.setI f v).plan = s.plan := rfl
@[simp] theorem State.setI_swap (s : State) (f : Fld) (v : Int) : (s.setI f v).swap = s.swap := rfl
@[simp] theorem State.setI_hspi (s : State) (f : Fld) (v : Int) : (s.setI f v).hspi = s.hspi := rfl
@[simp] theorem State.setI_eth (s : State) (f : Fld) (v : Int) : (s.setI f v).eth = s.eth := rfl
@[simp] theorem State.setI_mbxDirty (s : State) (f : Fld) (v : Int) : (s.setI f v).mbxDirty = s.mbxDirty := rfl
@[simp] theorem State.setI_leases (s : State) (f : Fld) (v : Int) : (s.setI f v).leases = s.leases := rfl
@[simp] theorem State.setI_strms (s : State) (f : Fld) (v : Int) : (s.setI f v).strms = s.strms := rfl
@[simp] theorem State.setI_arb (s : State) (f : Fld) (v : Int) : (s.setI f v).arb = s.arb := rfl
@[simp] theorem State.setI_sdl (s : State) (f : Fld) (v : Int) : (s.setI f v).sdl = s.sdl := rfl
@[simp] theorem State.setI_gzb (s : State) (f : Fld) (v : Int) : (s.setI f v).gzb = s.gzb := rfl
@[simp] theorem State.setI_vb (s : State) (f : Fld) (v : Int) : (s.setI f v).vb = s.vb := rfl
@[simp] theorem State.setI_ps (s : State) (f : Fld) (v : Int) : (s.setI f v).ps = s.ps := rfl
@[simp] theorem State.setI_test (s : State) (f : Fld) (v : Int) : (s.setI f v).test = s.test := rfl
@[simp] theorem State.setI_axes (s : State) (f : Fld) (v : Int) : (s.setI f v).axes = s.axes := rfl
@[simp] theorem State.setI_bv (s : State) (f : Fld) (v : Int) : (s.setI f v).bv = s.bv := rfl
@[simp] theorem State.setI_slv (s : State) (f : Fld) (v : Int) : (s.setI f v).slv = s.slv := rfl
@[simp] theorem State.setI_bsa (s : State) (f : Fld) (v : Int) : (s.setI f v).bsa = s.bsa := rfl
@[simp] theorem State.setI_bsb (s : State) (f : Fld) (v : Int) : (s.setI f v).bsb = s.bsb := rfl
@[simp] theorem State.setI_fleet (s : State) (f : Fld) (v : Int) : (s.setI f v).fleet = s.fleet := rfl
@[simp] theorem State.setI_pgl (s : State) (f : Fld) (v : Int) : (s.setI f v).pgl = s.pgl := rfl
@[simp] theorem State.setI_org (s : State) (f : Fld) (v : Int) : (s.setI f v).org = s.org := rfl
@[simp] theorem State.setI_flash (s : State) (f : Fld) (v : Int) : (s.setI f v).flash = s.flash := rfl
@[simp] theorem State.setI_upd (s : State) (f : Fld) (v : Int) : (s.setI f v).upd = s.upd := rfl
@[simp] theorem State.setI_svc (s : State) (f : Fld) (v : Int) : (s.setI f v).svc = s.svc := rfl

@[simp] theorem State.irq_part (s : State) (b : Nat) : (s.irq b).part = s.part := by simp only [State.irq, State.setF_part]
@[simp] theorem State.irq_siStep (s : State) (b : Nat) : (s.irq b).siStep = s.siStep := by simp only [State.irq, State.setF_siStep]
@[simp] theorem State.irq_frc (s : State) (b : Nat) : (s.irq b).frc = s.frc := by simp only [State.irq, State.setF_frc]
@[simp] theorem State.irq_pending (s : State) (b : Nat) : (s.irq b).pending = s.pending := by simp only [State.irq, State.setF_pending]
@[simp] theorem State.irq_bus (s : State) (b : Nat) : (s.irq b).bus = s.bus := by simp only [State.irq, State.setF_bus]
@[simp] theorem State.irq_freeCtr (s : State) (b : Nat) : (s.irq b).freeCtr = s.freeCtr := by simp only [State.irq, State.setF_freeCtr]
@[simp] theorem State.irq_power (s : State) (b : Nat) : (s.irq b).power = s.power := by simp only [State.irq, State.setF_power]
@[simp] theorem State.irq_xings (s : State) (b : Nat) : (s.irq b).xings = s.xings := by simp only [State.irq, State.setF_xings]
@[simp] theorem State.irq_pads (s : State) (b : Nat) : (s.irq b).pads = s.pads := by simp only [State.irq, State.setF_pads]
@[simp] theorem State.irq_plan (s : State) (b : Nat) : (s.irq b).plan = s.plan := by simp only [State.irq, State.setF_plan]
@[simp] theorem State.irq_swap (s : State) (b : Nat) : (s.irq b).swap = s.swap := by simp only [State.irq, State.setF_swap]
@[simp] theorem State.irq_hspi (s : State) (b : Nat) : (s.irq b).hspi = s.hspi := by simp only [State.irq, State.setF_hspi]
@[simp] theorem State.irq_eth (s : State) (b : Nat) : (s.irq b).eth = s.eth := by simp only [State.irq, State.setF_eth]
@[simp] theorem State.irq_mbxDirty (s : State) (b : Nat) : (s.irq b).mbxDirty = s.mbxDirty := by simp only [State.irq, State.setF_mbxDirty]
@[simp] theorem State.irq_leases (s : State) (b : Nat) : (s.irq b).leases = s.leases := by simp only [State.irq, State.setF_leases]
@[simp] theorem State.irq_strms (s : State) (b : Nat) : (s.irq b).strms = s.strms := by simp only [State.irq, State.setF_strms]
@[simp] theorem State.irq_arb (s : State) (b : Nat) : (s.irq b).arb = s.arb := by simp only [State.irq, State.setF_arb]
@[simp] theorem State.irq_sdl (s : State) (b : Nat) : (s.irq b).sdl = s.sdl := by simp only [State.irq, State.setF_sdl]
@[simp] theorem State.irq_gzb (s : State) (b : Nat) : (s.irq b).gzb = s.gzb := by simp only [State.irq, State.setF_gzb]
@[simp] theorem State.irq_vb (s : State) (b : Nat) : (s.irq b).vb = s.vb := by simp only [State.irq, State.setF_vb]
@[simp] theorem State.irq_ps (s : State) (b : Nat) : (s.irq b).ps = s.ps := by simp only [State.irq, State.setF_ps]
@[simp] theorem State.irq_test (s : State) (b : Nat) : (s.irq b).test = s.test := by simp only [State.irq, State.setF_test]
@[simp] theorem State.irq_axes (s : State) (b : Nat) : (s.irq b).axes = s.axes := by simp only [State.irq, State.setF_axes]
@[simp] theorem State.irq_bv (s : State) (b : Nat) : (s.irq b).bv = s.bv := by simp only [State.irq, State.setF_bv]
@[simp] theorem State.irq_slv (s : State) (b : Nat) : (s.irq b).slv = s.slv := by simp only [State.irq, State.setF_slv]
@[simp] theorem State.irq_bsa (s : State) (b : Nat) : (s.irq b).bsa = s.bsa := by simp only [State.irq, State.setF_bsa]
@[simp] theorem State.irq_bsb (s : State) (b : Nat) : (s.irq b).bsb = s.bsb := by simp only [State.irq, State.setF_bsb]
@[simp] theorem State.irq_fleet (s : State) (b : Nat) : (s.irq b).fleet = s.fleet := by simp only [State.irq, State.setF_fleet]
@[simp] theorem State.irq_pgl (s : State) (b : Nat) : (s.irq b).pgl = s.pgl := by simp only [State.irq, State.setF_pgl]
@[simp] theorem State.irq_org (s : State) (b : Nat) : (s.irq b).org = s.org := by simp only [State.irq, State.setF_org]
@[simp] theorem State.irq_flash (s : State) (b : Nat) : (s.irq b).flash = s.flash := by simp only [State.irq, State.setF_flash]
@[simp] theorem State.irq_upd (s : State) (b : Nat) : (s.irq b).upd = s.upd := by simp only [State.irq, State.setF_upd]
@[simp] theorem State.irq_svc (s : State) (b : Nat) : (s.irq b).svc = s.svc := by simp only [State.irq, State.setF_svc]

@[simp] theorem State.irqGrp_part (s : State) (b : Bool) (n : Nat) : (s.irqGrp b n).part = s.part := by simp only [State.irqGrp, State.setF_part]
@[simp] theorem State.irqGrp_siStep (s : State) (b : Bool) (n : Nat) : (s.irqGrp b n).siStep = s.siStep := by simp only [State.irqGrp, State.setF_siStep]
@[simp] theorem State.irqGrp_frc (s : State) (b : Bool) (n : Nat) : (s.irqGrp b n).frc = s.frc := by simp only [State.irqGrp, State.setF_frc]
@[simp] theorem State.irqGrp_pending (s : State) (b : Bool) (n : Nat) : (s.irqGrp b n).pending = s.pending := by simp only [State.irqGrp, State.setF_pending]
@[simp] theorem State.irqGrp_bus (s : State) (b : Bool) (n : Nat) : (s.irqGrp b n).bus = s.bus := by simp only [State.irqGrp, State.setF_bus]
@[simp] theorem State.irqGrp_freeCtr (s : State) (b : Bool) (n : Nat) : (s.irqGrp b n).freeCtr = s.freeCtr := by simp only [State.irqGrp, State.setF_freeCtr]
@[simp] theorem State.irqGrp_power (s : State) (b : Bool) (n : Nat) : (s.irqGrp b n).power = s.power := by simp only [State.irqGrp, State.setF_power]
@[simp] theorem State.irqGrp_xings (s : State) (b : Bool) (n : Nat) : (s.irqGrp b n).xings = s.xings := by simp only [State.irqGrp, State.setF_xings]
@[simp] theorem State.irqGrp_pads (s : State) (b : Bool) (n : Nat) : (s.irqGrp b n).pads = s.pads := by simp only [State.irqGrp, State.setF_pads]
@[simp] theorem State.irqGrp_plan (s : State) (b : Bool) (n : Nat) : (s.irqGrp b n).plan = s.plan := by simp only [State.irqGrp, State.setF_plan]
@[simp] theorem State.irqGrp_swap (s : State) (b : Bool) (n : Nat) : (s.irqGrp b n).swap = s.swap := by simp only [State.irqGrp, State.setF_swap]
@[simp] theorem State.irqGrp_hspi (s : State) (b : Bool) (n : Nat) : (s.irqGrp b n).hspi = s.hspi := by simp only [State.irqGrp, State.setF_hspi]
@[simp] theorem State.irqGrp_eth (s : State) (b : Bool) (n : Nat) : (s.irqGrp b n).eth = s.eth := by simp only [State.irqGrp, State.setF_eth]
@[simp] theorem State.irqGrp_mbxDirty (s : State) (b : Bool) (n : Nat) : (s.irqGrp b n).mbxDirty = s.mbxDirty := by simp only [State.irqGrp, State.setF_mbxDirty]
@[simp] theorem State.irqGrp_leases (s : State) (b : Bool) (n : Nat) : (s.irqGrp b n).leases = s.leases := by simp only [State.irqGrp, State.setF_leases]
@[simp] theorem State.irqGrp_strms (s : State) (b : Bool) (n : Nat) : (s.irqGrp b n).strms = s.strms := by simp only [State.irqGrp, State.setF_strms]
@[simp] theorem State.irqGrp_arb (s : State) (b : Bool) (n : Nat) : (s.irqGrp b n).arb = s.arb := by simp only [State.irqGrp, State.setF_arb]
@[simp] theorem State.irqGrp_sdl (s : State) (b : Bool) (n : Nat) : (s.irqGrp b n).sdl = s.sdl := by simp only [State.irqGrp, State.setF_sdl]
@[simp] theorem State.irqGrp_gzb (s : State) (b : Bool) (n : Nat) : (s.irqGrp b n).gzb = s.gzb := by simp only [State.irqGrp, State.setF_gzb]
@[simp] theorem State.irqGrp_vb (s : State) (b : Bool) (n : Nat) : (s.irqGrp b n).vb = s.vb := by simp only [State.irqGrp, State.setF_vb]
@[simp] theorem State.irqGrp_ps (s : State) (b : Bool) (n : Nat) : (s.irqGrp b n).ps = s.ps := by simp only [State.irqGrp, State.setF_ps]
@[simp] theorem State.irqGrp_test (s : State) (b : Bool) (n : Nat) : (s.irqGrp b n).test = s.test := by simp only [State.irqGrp, State.setF_test]
@[simp] theorem State.irqGrp_axes (s : State) (b : Bool) (n : Nat) : (s.irqGrp b n).axes = s.axes := by simp only [State.irqGrp, State.setF_axes]
@[simp] theorem State.irqGrp_bv (s : State) (b : Bool) (n : Nat) : (s.irqGrp b n).bv = s.bv := by simp only [State.irqGrp, State.setF_bv]
@[simp] theorem State.irqGrp_slv (s : State) (b : Bool) (n : Nat) : (s.irqGrp b n).slv = s.slv := by simp only [State.irqGrp, State.setF_slv]
@[simp] theorem State.irqGrp_bsa (s : State) (b : Bool) (n : Nat) : (s.irqGrp b n).bsa = s.bsa := by simp only [State.irqGrp, State.setF_bsa]
@[simp] theorem State.irqGrp_bsb (s : State) (b : Bool) (n : Nat) : (s.irqGrp b n).bsb = s.bsb := by simp only [State.irqGrp, State.setF_bsb]
@[simp] theorem State.irqGrp_fleet (s : State) (b : Bool) (n : Nat) : (s.irqGrp b n).fleet = s.fleet := by simp only [State.irqGrp, State.setF_fleet]
@[simp] theorem State.irqGrp_pgl (s : State) (b : Bool) (n : Nat) : (s.irqGrp b n).pgl = s.pgl := by simp only [State.irqGrp, State.setF_pgl]
@[simp] theorem State.irqGrp_org (s : State) (b : Bool) (n : Nat) : (s.irqGrp b n).org = s.org := by simp only [State.irqGrp, State.setF_org]
@[simp] theorem State.irqGrp_flash (s : State) (b : Bool) (n : Nat) : (s.irqGrp b n).flash = s.flash := by simp only [State.irqGrp, State.setF_flash]
@[simp] theorem State.irqGrp_upd (s : State) (b : Bool) (n : Nat) : (s.irqGrp b n).upd = s.upd := by simp only [State.irqGrp, State.setF_upd]
@[simp] theorem State.irqGrp_svc (s : State) (b : Bool) (n : Nat) : (s.irqGrp b n).svc = s.svc := by simp only [State.irqGrp, State.setF_svc]

/-! ### Updates of one part leave every other part -/

@[simp] theorem State.updItem_part (s : State) (w : Nat) (f : WItem → WItem) : (s.updItem w f).part = s.part := rfl
@[simp] theorem State.updItem_siStep (s : State) (w : Nat) (f : WItem → WItem) : (s.updItem w f).siStep = s.siStep := rfl
@[simp] theorem State.updItem_frc (s : State) (w : Nat) (f : WItem → WItem) : (s.updItem w f).frc = s.frc := rfl
@[simp] theorem State.updItem_regs (s : State) (w : Nat) (f : WItem → WItem) : (s.updItem w f).regs = s.regs := rfl
@[simp] theorem State.updItem_pending (s : State) (w : Nat) (f : WItem → WItem) : (s.updItem w f).pending = s.pending := rfl
@[simp] theorem State.updItem_bus (s : State) (w : Nat) (f : WItem → WItem) : (s.updItem w f).bus = s.bus := rfl
@[simp] theorem State.updItem_freeCtr (s : State) (w : Nat) (f : WItem → WItem) : (s.updItem w f).freeCtr = s.freeCtr := rfl
@[simp] theorem State.updItem_power (s : State) (w : Nat) (f : WItem → WItem) : (s.updItem w f).power = s.power := rfl
@[simp] theorem State.updItem_xings (s : State) (w : Nat) (f : WItem → WItem) : (s.updItem w f).xings = s.xings := rfl
@[simp] theorem State.updItem_pads (s : State) (w : Nat) (f : WItem → WItem) : (s.updItem w f).pads = s.pads := rfl
@[simp] theorem State.updItem_plan (s : State) (w : Nat) (f : WItem → WItem) : (s.updItem w f).plan = s.plan := rfl
@[simp] theorem State.updItem_swap (s : State) (w : Nat) (f : WItem → WItem) : (s.updItem w f).swap = s.swap := rfl
@[simp] theorem State.updItem_hspi (s : State) (w : Nat) (f : WItem → WItem) : (s.updItem w f).hspi = s.hspi := rfl
@[simp] theorem State.updItem_eth (s : State) (w : Nat) (f : WItem → WItem) : (s.updItem w f).eth = s.eth := rfl
@[simp] theorem State.updItem_mbxDirty (s : State) (w : Nat) (f : WItem → WItem) : (s.updItem w f).mbxDirty = s.mbxDirty := rfl
@[simp] theorem State.updItem_leases (s : State) (w : Nat) (f : WItem → WItem) : (s.updItem w f).leases = s.leases := rfl
@[simp] theorem State.updItem_strms (s : State) (w : Nat) (f : WItem → WItem) : (s.updItem w f).strms = s.strms := rfl
@[simp] theorem State.updItem_sdl (s : State) (w : Nat) (f : WItem → WItem) : (s.updItem w f).sdl = s.sdl := rfl
@[simp] theorem State.updItem_gzb (s : State) (w : Nat) (f : WItem → WItem) : (s.updItem w f).gzb = s.gzb := rfl
@[simp] theorem State.updItem_vb (s : State) (w : Nat) (f : WItem → WItem) : (s.updItem w f).vb = s.vb := rfl
@[simp] theorem State.updItem_ps (s : State) (w : Nat) (f : WItem → WItem) : (s.updItem w f).ps = s.ps := rfl
@[simp] theorem State.updItem_test (s : State) (w : Nat) (f : WItem → WItem) : (s.updItem w f).test = s.test := rfl
@[simp] theorem State.updItem_axes (s : State) (w : Nat) (f : WItem → WItem) : (s.updItem w f).axes = s.axes := rfl
@[simp] theorem State.updItem_bv (s : State) (w : Nat) (f : WItem → WItem) : (s.updItem w f).bv = s.bv := rfl
@[simp] theorem State.updItem_slv (s : State) (w : Nat) (f : WItem → WItem) : (s.updItem w f).slv = s.slv := rfl
@[simp] theorem State.updItem_bsa (s : State) (w : Nat) (f : WItem → WItem) : (s.updItem w f).bsa = s.bsa := rfl
@[simp] theorem State.updItem_bsb (s : State) (w : Nat) (f : WItem → WItem) : (s.updItem w f).bsb = s.bsb := rfl
@[simp] theorem State.updItem_fleet (s : State) (w : Nat) (f : WItem → WItem) : (s.updItem w f).fleet = s.fleet := rfl
@[simp] theorem State.updItem_pgl (s : State) (w : Nat) (f : WItem → WItem) : (s.updItem w f).pgl = s.pgl := rfl
@[simp] theorem State.updItem_org (s : State) (w : Nat) (f : WItem → WItem) : (s.updItem w f).org = s.org := rfl
@[simp] theorem State.updItem_flash (s : State) (w : Nat) (f : WItem → WItem) : (s.updItem w f).flash = s.flash := rfl
@[simp] theorem State.updItem_upd (s : State) (w : Nat) (f : WItem → WItem) : (s.updItem w f).upd = s.upd := rfl
@[simp] theorem State.updItem_svc (s : State) (w : Nat) (f : WItem → WItem) : (s.updItem w f).svc = s.svc := rfl
@[simp] theorem State.updItem_rd (s : State) (w : Nat) (f : WItem → WItem) (x : Nat) : (s.updItem w f).rd x = s.rd x := rfl
@[simp] theorem State.updItem_getF (s : State) (w : Nat) (f : WItem → WItem) (x : Fld) : (s.updItem w f).getF x = s.getF x := rfl
@[simp] theorem State.updItem_dom (s : State) (w : Nat) (f : WItem → WItem) (x : Nat) : (s.updItem w f).dom x = s.dom x := rfl

@[simp] theorem State.updTask_part (s : State) (t : Nat) (f : TaskSt → TaskSt) : (s.updTask t f).part = s.part := rfl
@[simp] theorem State.updTask_siStep (s : State) (t : Nat) (f : TaskSt → TaskSt) : (s.updTask t f).siStep = s.siStep := rfl
@[simp] theorem State.updTask_frc (s : State) (t : Nat) (f : TaskSt → TaskSt) : (s.updTask t f).frc = s.frc := rfl
@[simp] theorem State.updTask_regs (s : State) (t : Nat) (f : TaskSt → TaskSt) : (s.updTask t f).regs = s.regs := rfl
@[simp] theorem State.updTask_pending (s : State) (t : Nat) (f : TaskSt → TaskSt) : (s.updTask t f).pending = s.pending := rfl
@[simp] theorem State.updTask_bus (s : State) (t : Nat) (f : TaskSt → TaskSt) : (s.updTask t f).bus = s.bus := rfl
@[simp] theorem State.updTask_freeCtr (s : State) (t : Nat) (f : TaskSt → TaskSt) : (s.updTask t f).freeCtr = s.freeCtr := rfl
@[simp] theorem State.updTask_power (s : State) (t : Nat) (f : TaskSt → TaskSt) : (s.updTask t f).power = s.power := rfl
@[simp] theorem State.updTask_xings (s : State) (t : Nat) (f : TaskSt → TaskSt) : (s.updTask t f).xings = s.xings := rfl
@[simp] theorem State.updTask_pads (s : State) (t : Nat) (f : TaskSt → TaskSt) : (s.updTask t f).pads = s.pads := rfl
@[simp] theorem State.updTask_plan (s : State) (t : Nat) (f : TaskSt → TaskSt) : (s.updTask t f).plan = s.plan := rfl
@[simp] theorem State.updTask_swap (s : State) (t : Nat) (f : TaskSt → TaskSt) : (s.updTask t f).swap = s.swap := rfl
@[simp] theorem State.updTask_hspi (s : State) (t : Nat) (f : TaskSt → TaskSt) : (s.updTask t f).hspi = s.hspi := rfl
@[simp] theorem State.updTask_eth (s : State) (t : Nat) (f : TaskSt → TaskSt) : (s.updTask t f).eth = s.eth := rfl
@[simp] theorem State.updTask_mbxDirty (s : State) (t : Nat) (f : TaskSt → TaskSt) : (s.updTask t f).mbxDirty = s.mbxDirty := rfl
@[simp] theorem State.updTask_leases (s : State) (t : Nat) (f : TaskSt → TaskSt) : (s.updTask t f).leases = s.leases := rfl
@[simp] theorem State.updTask_strms (s : State) (t : Nat) (f : TaskSt → TaskSt) : (s.updTask t f).strms = s.strms := rfl
@[simp] theorem State.updTask_sdl (s : State) (t : Nat) (f : TaskSt → TaskSt) : (s.updTask t f).sdl = s.sdl := rfl
@[simp] theorem State.updTask_gzb (s : State) (t : Nat) (f : TaskSt → TaskSt) : (s.updTask t f).gzb = s.gzb := rfl
@[simp] theorem State.updTask_vb (s : State) (t : Nat) (f : TaskSt → TaskSt) : (s.updTask t f).vb = s.vb := rfl
@[simp] theorem State.updTask_ps (s : State) (t : Nat) (f : TaskSt → TaskSt) : (s.updTask t f).ps = s.ps := rfl
@[simp] theorem State.updTask_test (s : State) (t : Nat) (f : TaskSt → TaskSt) : (s.updTask t f).test = s.test := rfl
@[simp] theorem State.updTask_axes (s : State) (t : Nat) (f : TaskSt → TaskSt) : (s.updTask t f).axes = s.axes := rfl
@[simp] theorem State.updTask_bv (s : State) (t : Nat) (f : TaskSt → TaskSt) : (s.updTask t f).bv = s.bv := rfl
@[simp] theorem State.updTask_slv (s : State) (t : Nat) (f : TaskSt → TaskSt) : (s.updTask t f).slv = s.slv := rfl
@[simp] theorem State.updTask_bsa (s : State) (t : Nat) (f : TaskSt → TaskSt) : (s.updTask t f).bsa = s.bsa := rfl
@[simp] theorem State.updTask_bsb (s : State) (t : Nat) (f : TaskSt → TaskSt) : (s.updTask t f).bsb = s.bsb := rfl
@[simp] theorem State.updTask_fleet (s : State) (t : Nat) (f : TaskSt → TaskSt) : (s.updTask t f).fleet = s.fleet := rfl
@[simp] theorem State.updTask_pgl (s : State) (t : Nat) (f : TaskSt → TaskSt) : (s.updTask t f).pgl = s.pgl := rfl
@[simp] theorem State.updTask_org (s : State) (t : Nat) (f : TaskSt → TaskSt) : (s.updTask t f).org = s.org := rfl
@[simp] theorem State.updTask_flash (s : State) (t : Nat) (f : TaskSt → TaskSt) : (s.updTask t f).flash = s.flash := rfl
@[simp] theorem State.updTask_upd (s : State) (t : Nat) (f : TaskSt → TaskSt) : (s.updTask t f).upd = s.upd := rfl
@[simp] theorem State.updTask_svc (s : State) (t : Nat) (f : TaskSt → TaskSt) : (s.updTask t f).svc = s.svc := rfl
@[simp] theorem State.updTask_rd (s : State) (t : Nat) (f : TaskSt → TaskSt) (x : Nat) : (s.updTask t f).rd x = s.rd x := rfl
@[simp] theorem State.updTask_getF (s : State) (t : Nat) (f : TaskSt → TaskSt) (x : Fld) : (s.updTask t f).getF x = s.getF x := rfl
@[simp] theorem State.updTask_dom (s : State) (t : Nat) (f : TaskSt → TaskSt) (x : Nat) : (s.updTask t f).dom x = s.dom x := rfl

@[simp] theorem State.updAx_part (s : State) (n : Nat) (f : Axis → Axis) : (s.updAx n f).part = s.part := rfl
@[simp] theorem State.updAx_siStep (s : State) (n : Nat) (f : Axis → Axis) : (s.updAx n f).siStep = s.siStep := rfl
@[simp] theorem State.updAx_frc (s : State) (n : Nat) (f : Axis → Axis) : (s.updAx n f).frc = s.frc := rfl
@[simp] theorem State.updAx_regs (s : State) (n : Nat) (f : Axis → Axis) : (s.updAx n f).regs = s.regs := rfl
@[simp] theorem State.updAx_pending (s : State) (n : Nat) (f : Axis → Axis) : (s.updAx n f).pending = s.pending := rfl
@[simp] theorem State.updAx_bus (s : State) (n : Nat) (f : Axis → Axis) : (s.updAx n f).bus = s.bus := rfl
@[simp] theorem State.updAx_freeCtr (s : State) (n : Nat) (f : Axis → Axis) : (s.updAx n f).freeCtr = s.freeCtr := rfl
@[simp] theorem State.updAx_power (s : State) (n : Nat) (f : Axis → Axis) : (s.updAx n f).power = s.power := rfl
@[simp] theorem State.updAx_xings (s : State) (n : Nat) (f : Axis → Axis) : (s.updAx n f).xings = s.xings := rfl
@[simp] theorem State.updAx_pads (s : State) (n : Nat) (f : Axis → Axis) : (s.updAx n f).pads = s.pads := rfl
@[simp] theorem State.updAx_plan (s : State) (n : Nat) (f : Axis → Axis) : (s.updAx n f).plan = s.plan := rfl
@[simp] theorem State.updAx_swap (s : State) (n : Nat) (f : Axis → Axis) : (s.updAx n f).swap = s.swap := rfl
@[simp] theorem State.updAx_hspi (s : State) (n : Nat) (f : Axis → Axis) : (s.updAx n f).hspi = s.hspi := rfl
@[simp] theorem State.updAx_eth (s : State) (n : Nat) (f : Axis → Axis) : (s.updAx n f).eth = s.eth := rfl
@[simp] theorem State.updAx_mbxDirty (s : State) (n : Nat) (f : Axis → Axis) : (s.updAx n f).mbxDirty = s.mbxDirty := rfl
@[simp] theorem State.updAx_leases (s : State) (n : Nat) (f : Axis → Axis) : (s.updAx n f).leases = s.leases := rfl
@[simp] theorem State.updAx_strms (s : State) (n : Nat) (f : Axis → Axis) : (s.updAx n f).strms = s.strms := rfl
@[simp] theorem State.updAx_arb (s : State) (n : Nat) (f : Axis → Axis) : (s.updAx n f).arb = s.arb := rfl
@[simp] theorem State.updAx_sdl (s : State) (n : Nat) (f : Axis → Axis) : (s.updAx n f).sdl = s.sdl := rfl
@[simp] theorem State.updAx_gzb (s : State) (n : Nat) (f : Axis → Axis) : (s.updAx n f).gzb = s.gzb := rfl
@[simp] theorem State.updAx_vb (s : State) (n : Nat) (f : Axis → Axis) : (s.updAx n f).vb = s.vb := rfl
@[simp] theorem State.updAx_ps (s : State) (n : Nat) (f : Axis → Axis) : (s.updAx n f).ps = s.ps := rfl
@[simp] theorem State.updAx_test (s : State) (n : Nat) (f : Axis → Axis) : (s.updAx n f).test = s.test := rfl
@[simp] theorem State.updAx_bv (s : State) (n : Nat) (f : Axis → Axis) : (s.updAx n f).bv = s.bv := rfl
@[simp] theorem State.updAx_slv (s : State) (n : Nat) (f : Axis → Axis) : (s.updAx n f).slv = s.slv := rfl
@[simp] theorem State.updAx_bsa (s : State) (n : Nat) (f : Axis → Axis) : (s.updAx n f).bsa = s.bsa := rfl
@[simp] theorem State.updAx_bsb (s : State) (n : Nat) (f : Axis → Axis) : (s.updAx n f).bsb = s.bsb := rfl
@[simp] theorem State.updAx_fleet (s : State) (n : Nat) (f : Axis → Axis) : (s.updAx n f).fleet = s.fleet := rfl
@[simp] theorem State.updAx_pgl (s : State) (n : Nat) (f : Axis → Axis) : (s.updAx n f).pgl = s.pgl := rfl
@[simp] theorem State.updAx_org (s : State) (n : Nat) (f : Axis → Axis) : (s.updAx n f).org = s.org := rfl
@[simp] theorem State.updAx_flash (s : State) (n : Nat) (f : Axis → Axis) : (s.updAx n f).flash = s.flash := rfl
@[simp] theorem State.updAx_upd (s : State) (n : Nat) (f : Axis → Axis) : (s.updAx n f).upd = s.upd := rfl
@[simp] theorem State.updAx_svc (s : State) (n : Nat) (f : Axis → Axis) : (s.updAx n f).svc = s.svc := rfl
@[simp] theorem State.updAx_rd (s : State) (n : Nat) (f : Axis → Axis) (x : Nat) : (s.updAx n f).rd x = s.rd x := rfl
@[simp] theorem State.updAx_getF (s : State) (n : Nat) (f : Axis → Axis) (x : Fld) : (s.updAx n f).getF x = s.getF x := rfl
@[simp] theorem State.updAx_dom (s : State) (n : Nat) (f : Axis → Axis) (x : Nat) : (s.updAx n f).dom x = s.dom x := rfl

@[simp] theorem State.updBv_part (s : State) (f : Bv → Bv) : (s.updBv f).part = s.part := rfl
@[simp] theorem State.updBv_siStep (s : State) (f : Bv → Bv) : (s.updBv f).siStep = s.siStep := rfl
@[simp] theorem State.updBv_frc (s : State) (f : Bv → Bv) : (s.updBv f).frc = s.frc := rfl
@[simp] theorem State.updBv_regs (s : State) (f : Bv → Bv) : (s.updBv f).regs = s.regs := rfl
@[simp] theorem State.updBv_pending (s : State) (f : Bv → Bv) : (s.updBv f).pending = s.pending := rfl
@[simp] theorem State.updBv_bus (s : State) (f : Bv → Bv) : (s.updBv f).bus = s.bus := rfl
@[simp] theorem State.updBv_freeCtr (s : State) (f : Bv → Bv) : (s.updBv f).freeCtr = s.freeCtr := rfl
@[simp] theorem State.updBv_power (s : State) (f : Bv → Bv) : (s.updBv f).power = s.power := rfl
@[simp] theorem State.updBv_xings (s : State) (f : Bv → Bv) : (s.updBv f).xings = s.xings := rfl
@[simp] theorem State.updBv_pads (s : State) (f : Bv → Bv) : (s.updBv f).pads = s.pads := rfl
@[simp] theorem State.updBv_plan (s : State) (f : Bv → Bv) : (s.updBv f).plan = s.plan := rfl
@[simp] theorem State.updBv_swap (s : State) (f : Bv → Bv) : (s.updBv f).swap = s.swap := rfl
@[simp] theorem State.updBv_hspi (s : State) (f : Bv → Bv) : (s.updBv f).hspi = s.hspi := rfl
@[simp] theorem State.updBv_eth (s : State) (f : Bv → Bv) : (s.updBv f).eth = s.eth := rfl
@[simp] theorem State.updBv_mbxDirty (s : State) (f : Bv → Bv) : (s.updBv f).mbxDirty = s.mbxDirty := rfl
@[simp] theorem State.updBv_leases (s : State) (f : Bv → Bv) : (s.updBv f).leases = s.leases := rfl
@[simp] theorem State.updBv_strms (s : State) (f : Bv → Bv) : (s.updBv f).strms = s.strms := rfl
@[simp] theorem State.updBv_arb (s : State) (f : Bv → Bv) : (s.updBv f).arb = s.arb := rfl
@[simp] theorem State.updBv_sdl (s : State) (f : Bv → Bv) : (s.updBv f).sdl = s.sdl := rfl
@[simp] theorem State.updBv_gzb (s : State) (f : Bv → Bv) : (s.updBv f).gzb = s.gzb := rfl
@[simp] theorem State.updBv_vb (s : State) (f : Bv → Bv) : (s.updBv f).vb = s.vb := rfl
@[simp] theorem State.updBv_ps (s : State) (f : Bv → Bv) : (s.updBv f).ps = s.ps := rfl
@[simp] theorem State.updBv_test (s : State) (f : Bv → Bv) : (s.updBv f).test = s.test := rfl
@[simp] theorem State.updBv_axes (s : State) (f : Bv → Bv) : (s.updBv f).axes = s.axes := rfl
@[simp] theorem State.updBv_slv (s : State) (f : Bv → Bv) : (s.updBv f).slv = s.slv := rfl
@[simp] theorem State.updBv_bsa (s : State) (f : Bv → Bv) : (s.updBv f).bsa = s.bsa := rfl
@[simp] theorem State.updBv_bsb (s : State) (f : Bv → Bv) : (s.updBv f).bsb = s.bsb := rfl
@[simp] theorem State.updBv_fleet (s : State) (f : Bv → Bv) : (s.updBv f).fleet = s.fleet := rfl
@[simp] theorem State.updBv_pgl (s : State) (f : Bv → Bv) : (s.updBv f).pgl = s.pgl := rfl
@[simp] theorem State.updBv_org (s : State) (f : Bv → Bv) : (s.updBv f).org = s.org := rfl
@[simp] theorem State.updBv_flash (s : State) (f : Bv → Bv) : (s.updBv f).flash = s.flash := rfl
@[simp] theorem State.updBv_upd (s : State) (f : Bv → Bv) : (s.updBv f).upd = s.upd := rfl
@[simp] theorem State.updBv_svc (s : State) (f : Bv → Bv) : (s.updBv f).svc = s.svc := rfl
@[simp] theorem State.updBv_rd (s : State) (f : Bv → Bv) (x : Nat) : (s.updBv f).rd x = s.rd x := rfl
@[simp] theorem State.updBv_getF (s : State) (f : Bv → Bv) (x : Fld) : (s.updBv f).getF x = s.getF x := rfl
@[simp] theorem State.updBv_dom (s : State) (f : Bv → Bv) (x : Nat) : (s.updBv f).dom x = s.dom x := rfl

@[simp] theorem State.updPower_part (s : State) (f : Power → Power) : (s.updPower f).part = s.part := rfl
@[simp] theorem State.updPower_siStep (s : State) (f : Power → Power) : (s.updPower f).siStep = s.siStep := rfl
@[simp] theorem State.updPower_frc (s : State) (f : Power → Power) : (s.updPower f).frc = s.frc := rfl
@[simp] theorem State.updPower_regs (s : State) (f : Power → Power) : (s.updPower f).regs = s.regs := rfl
@[simp] theorem State.updPower_pending (s : State) (f : Power → Power) : (s.updPower f).pending = s.pending := rfl
@[simp] theorem State.updPower_bus (s : State) (f : Power → Power) : (s.updPower f).bus = s.bus := rfl
@[simp] theorem State.updPower_freeCtr (s : State) (f : Power → Power) : (s.updPower f).freeCtr = s.freeCtr := rfl
@[simp] theorem State.updPower_xings (s : State) (f : Power → Power) : (s.updPower f).xings = s.xings := rfl
@[simp] theorem State.updPower_pads (s : State) (f : Power → Power) : (s.updPower f).pads = s.pads := rfl
@[simp] theorem State.updPower_plan (s : State) (f : Power → Power) : (s.updPower f).plan = s.plan := rfl
@[simp] theorem State.updPower_swap (s : State) (f : Power → Power) : (s.updPower f).swap = s.swap := rfl
@[simp] theorem State.updPower_hspi (s : State) (f : Power → Power) : (s.updPower f).hspi = s.hspi := rfl
@[simp] theorem State.updPower_eth (s : State) (f : Power → Power) : (s.updPower f).eth = s.eth := rfl
@[simp] theorem State.updPower_mbxDirty (s : State) (f : Power → Power) : (s.updPower f).mbxDirty = s.mbxDirty := rfl
@[simp] theorem State.updPower_leases (s : State) (f : Power → Power) : (s.updPower f).leases = s.leases := rfl
@[simp] theorem State.updPower_strms (s : State) (f : Power → Power) : (s.updPower f).strms = s.strms := rfl
@[simp] theorem State.updPower_arb (s : State) (f : Power → Power) : (s.updPower f).arb = s.arb := rfl
@[simp] theorem State.updPower_sdl (s : State) (f : Power → Power) : (s.updPower f).sdl = s.sdl := rfl
@[simp] theorem State.updPower_gzb (s : State) (f : Power → Power) : (s.updPower f).gzb = s.gzb := rfl
@[simp] theorem State.updPower_vb (s : State) (f : Power → Power) : (s.updPower f).vb = s.vb := rfl
@[simp] theorem State.updPower_ps (s : State) (f : Power → Power) : (s.updPower f).ps = s.ps := rfl
@[simp] theorem State.updPower_test (s : State) (f : Power → Power) : (s.updPower f).test = s.test := rfl
@[simp] theorem State.updPower_axes (s : State) (f : Power → Power) : (s.updPower f).axes = s.axes := rfl
@[simp] theorem State.updPower_bv (s : State) (f : Power → Power) : (s.updPower f).bv = s.bv := rfl
@[simp] theorem State.updPower_slv (s : State) (f : Power → Power) : (s.updPower f).slv = s.slv := rfl
@[simp] theorem State.updPower_bsa (s : State) (f : Power → Power) : (s.updPower f).bsa = s.bsa := rfl
@[simp] theorem State.updPower_bsb (s : State) (f : Power → Power) : (s.updPower f).bsb = s.bsb := rfl
@[simp] theorem State.updPower_fleet (s : State) (f : Power → Power) : (s.updPower f).fleet = s.fleet := rfl
@[simp] theorem State.updPower_pgl (s : State) (f : Power → Power) : (s.updPower f).pgl = s.pgl := rfl
@[simp] theorem State.updPower_org (s : State) (f : Power → Power) : (s.updPower f).org = s.org := rfl
@[simp] theorem State.updPower_flash (s : State) (f : Power → Power) : (s.updPower f).flash = s.flash := rfl
@[simp] theorem State.updPower_upd (s : State) (f : Power → Power) : (s.updPower f).upd = s.upd := rfl
@[simp] theorem State.updPower_svc (s : State) (f : Power → Power) : (s.updPower f).svc = s.svc := rfl
@[simp] theorem State.updPower_rd (s : State) (f : Power → Power) (x : Nat) : (s.updPower f).rd x = s.rd x := rfl
@[simp] theorem State.updPower_getF (s : State) (f : Power → Power) (x : Fld) : (s.updPower f).getF x = s.getF x := rfl
@[simp] theorem State.updPower_dom (s : State) (f : Power → Power) (x : Nat) : (s.updPower f).dom x = s.dom x := rfl

@[simp] theorem State.updXing_part (s : State) (i : Nat) (f : Xing → Xing) : (s.updXing i f).part = s.part := rfl
@[simp] theorem State.updXing_siStep (s : State) (i : Nat) (f : Xing → Xing) : (s.updXing i f).siStep = s.siStep := rfl
@[simp] theorem State.updXing_frc (s : State) (i : Nat) (f : Xing → Xing) : (s.updXing i f).frc = s.frc := rfl
@[simp] theorem State.updXing_regs (s : State) (i : Nat) (f : Xing → Xing) : (s.updXing i f).regs = s.regs := rfl
@[simp] theorem State.updXing_pending (s : State) (i : Nat) (f : Xing → Xing) : (s.updXing i f).pending = s.pending := rfl
@[simp] theorem State.updXing_bus (s : State) (i : Nat) (f : Xing → Xing) : (s.updXing i f).bus = s.bus := rfl
@[simp] theorem State.updXing_freeCtr (s : State) (i : Nat) (f : Xing → Xing) : (s.updXing i f).freeCtr = s.freeCtr := rfl
@[simp] theorem State.updXing_power (s : State) (i : Nat) (f : Xing → Xing) : (s.updXing i f).power = s.power := rfl
@[simp] theorem State.updXing_pads (s : State) (i : Nat) (f : Xing → Xing) : (s.updXing i f).pads = s.pads := rfl
@[simp] theorem State.updXing_plan (s : State) (i : Nat) (f : Xing → Xing) : (s.updXing i f).plan = s.plan := rfl
@[simp] theorem State.updXing_swap (s : State) (i : Nat) (f : Xing → Xing) : (s.updXing i f).swap = s.swap := rfl
@[simp] theorem State.updXing_hspi (s : State) (i : Nat) (f : Xing → Xing) : (s.updXing i f).hspi = s.hspi := rfl
@[simp] theorem State.updXing_eth (s : State) (i : Nat) (f : Xing → Xing) : (s.updXing i f).eth = s.eth := rfl
@[simp] theorem State.updXing_mbxDirty (s : State) (i : Nat) (f : Xing → Xing) : (s.updXing i f).mbxDirty = s.mbxDirty := rfl
@[simp] theorem State.updXing_leases (s : State) (i : Nat) (f : Xing → Xing) : (s.updXing i f).leases = s.leases := rfl
@[simp] theorem State.updXing_strms (s : State) (i : Nat) (f : Xing → Xing) : (s.updXing i f).strms = s.strms := rfl
@[simp] theorem State.updXing_arb (s : State) (i : Nat) (f : Xing → Xing) : (s.updXing i f).arb = s.arb := rfl
@[simp] theorem State.updXing_sdl (s : State) (i : Nat) (f : Xing → Xing) : (s.updXing i f).sdl = s.sdl := rfl
@[simp] theorem State.updXing_gzb (s : State) (i : Nat) (f : Xing → Xing) : (s.updXing i f).gzb = s.gzb := rfl
@[simp] theorem State.updXing_vb (s : State) (i : Nat) (f : Xing → Xing) : (s.updXing i f).vb = s.vb := rfl
@[simp] theorem State.updXing_ps (s : State) (i : Nat) (f : Xing → Xing) : (s.updXing i f).ps = s.ps := rfl
@[simp] theorem State.updXing_test (s : State) (i : Nat) (f : Xing → Xing) : (s.updXing i f).test = s.test := rfl
@[simp] theorem State.updXing_axes (s : State) (i : Nat) (f : Xing → Xing) : (s.updXing i f).axes = s.axes := rfl
@[simp] theorem State.updXing_bv (s : State) (i : Nat) (f : Xing → Xing) : (s.updXing i f).bv = s.bv := rfl
@[simp] theorem State.updXing_slv (s : State) (i : Nat) (f : Xing → Xing) : (s.updXing i f).slv = s.slv := rfl
@[simp] theorem State.updXing_bsa (s : State) (i : Nat) (f : Xing → Xing) : (s.updXing i f).bsa = s.bsa := rfl
@[simp] theorem State.updXing_bsb (s : State) (i : Nat) (f : Xing → Xing) : (s.updXing i f).bsb = s.bsb := rfl
@[simp] theorem State.updXing_fleet (s : State) (i : Nat) (f : Xing → Xing) : (s.updXing i f).fleet = s.fleet := rfl
@[simp] theorem State.updXing_pgl (s : State) (i : Nat) (f : Xing → Xing) : (s.updXing i f).pgl = s.pgl := rfl
@[simp] theorem State.updXing_org (s : State) (i : Nat) (f : Xing → Xing) : (s.updXing i f).org = s.org := rfl
@[simp] theorem State.updXing_flash (s : State) (i : Nat) (f : Xing → Xing) : (s.updXing i f).flash = s.flash := rfl
@[simp] theorem State.updXing_upd (s : State) (i : Nat) (f : Xing → Xing) : (s.updXing i f).upd = s.upd := rfl
@[simp] theorem State.updXing_svc (s : State) (i : Nat) (f : Xing → Xing) : (s.updXing i f).svc = s.svc := rfl
@[simp] theorem State.updXing_rd (s : State) (i : Nat) (f : Xing → Xing) (x : Nat) : (s.updXing i f).rd x = s.rd x := rfl
@[simp] theorem State.updXing_getF (s : State) (i : Nat) (f : Xing → Xing) (x : Fld) : (s.updXing i f).getF x = s.getF x := rfl
@[simp] theorem State.updXing_dom (s : State) (i : Nat) (f : Xing → Xing) (x : Nat) : (s.updXing i f).dom x = s.dom x := rfl

@[simp] theorem State.updArb_part (s : State) (f : Arb → Arb) : (s.updArb f).part = s.part := rfl
@[simp] theorem State.updArb_siStep (s : State) (f : Arb → Arb) : (s.updArb f).siStep = s.siStep := rfl
@[simp] theorem State.updArb_frc (s : State) (f : Arb → Arb) : (s.updArb f).frc = s.frc := rfl
@[simp] theorem State.updArb_regs (s : State) (f : Arb → Arb) : (s.updArb f).regs = s.regs := rfl
@[simp] theorem State.updArb_pending (s : State) (f : Arb → Arb) : (s.updArb f).pending = s.pending := rfl
@[simp] theorem State.updArb_bus (s : State) (f : Arb → Arb) : (s.updArb f).bus = s.bus := rfl
@[simp] theorem State.updArb_freeCtr (s : State) (f : Arb → Arb) : (s.updArb f).freeCtr = s.freeCtr := rfl
@[simp] theorem State.updArb_power (s : State) (f : Arb → Arb) : (s.updArb f).power = s.power := rfl
@[simp] theorem State.updArb_xings (s : State) (f : Arb → Arb) : (s.updArb f).xings = s.xings := rfl
@[simp] theorem State.updArb_pads (s : State) (f : Arb → Arb) : (s.updArb f).pads = s.pads := rfl
@[simp] theorem State.updArb_plan (s : State) (f : Arb → Arb) : (s.updArb f).plan = s.plan := rfl
@[simp] theorem State.updArb_swap (s : State) (f : Arb → Arb) : (s.updArb f).swap = s.swap := rfl
@[simp] theorem State.updArb_hspi (s : State) (f : Arb → Arb) : (s.updArb f).hspi = s.hspi := rfl
@[simp] theorem State.updArb_eth (s : State) (f : Arb → Arb) : (s.updArb f).eth = s.eth := rfl
@[simp] theorem State.updArb_mbxDirty (s : State) (f : Arb → Arb) : (s.updArb f).mbxDirty = s.mbxDirty := rfl
@[simp] theorem State.updArb_leases (s : State) (f : Arb → Arb) : (s.updArb f).leases = s.leases := rfl
@[simp] theorem State.updArb_strms (s : State) (f : Arb → Arb) : (s.updArb f).strms = s.strms := rfl
@[simp] theorem State.updArb_sdl (s : State) (f : Arb → Arb) : (s.updArb f).sdl = s.sdl := rfl
@[simp] theorem State.updArb_gzb (s : State) (f : Arb → Arb) : (s.updArb f).gzb = s.gzb := rfl
@[simp] theorem State.updArb_vb (s : State) (f : Arb → Arb) : (s.updArb f).vb = s.vb := rfl
@[simp] theorem State.updArb_ps (s : State) (f : Arb → Arb) : (s.updArb f).ps = s.ps := rfl
@[simp] theorem State.updArb_test (s : State) (f : Arb → Arb) : (s.updArb f).test = s.test := rfl
@[simp] theorem State.updArb_axes (s : State) (f : Arb → Arb) : (s.updArb f).axes = s.axes := rfl
@[simp] theorem State.updArb_bv (s : State) (f : Arb → Arb) : (s.updArb f).bv = s.bv := rfl
@[simp] theorem State.updArb_slv (s : State) (f : Arb → Arb) : (s.updArb f).slv = s.slv := rfl
@[simp] theorem State.updArb_bsa (s : State) (f : Arb → Arb) : (s.updArb f).bsa = s.bsa := rfl
@[simp] theorem State.updArb_bsb (s : State) (f : Arb → Arb) : (s.updArb f).bsb = s.bsb := rfl
@[simp] theorem State.updArb_fleet (s : State) (f : Arb → Arb) : (s.updArb f).fleet = s.fleet := rfl
@[simp] theorem State.updArb_pgl (s : State) (f : Arb → Arb) : (s.updArb f).pgl = s.pgl := rfl
@[simp] theorem State.updArb_org (s : State) (f : Arb → Arb) : (s.updArb f).org = s.org := rfl
@[simp] theorem State.updArb_flash (s : State) (f : Arb → Arb) : (s.updArb f).flash = s.flash := rfl
@[simp] theorem State.updArb_upd (s : State) (f : Arb → Arb) : (s.updArb f).upd = s.upd := rfl
@[simp] theorem State.updArb_svc (s : State) (f : Arb → Arb) : (s.updArb f).svc = s.svc := rfl
@[simp] theorem State.updArb_rd (s : State) (f : Arb → Arb) (x : Nat) : (s.updArb f).rd x = s.rd x := rfl
@[simp] theorem State.updArb_getF (s : State) (f : Arb → Arb) (x : Fld) : (s.updArb f).getF x = s.getF x := rfl
@[simp] theorem State.updArb_dom (s : State) (f : Arb → Arb) (x : Nat) : (s.updArb f).dom x = s.dom x := rfl

@[simp] theorem State.updFleet_part (s : State) (f : Fleet → Fleet) : (s.updFleet f).part = s.part := rfl
@[simp] theorem State.updFleet_siStep (s : State) (f : Fleet → Fleet) : (s.updFleet f).siStep = s.siStep := rfl
@[simp] theorem State.updFleet_frc (s : State) (f : Fleet → Fleet) : (s.updFleet f).frc = s.frc := rfl
@[simp] theorem State.updFleet_regs (s : State) (f : Fleet → Fleet) : (s.updFleet f).regs = s.regs := rfl
@[simp] theorem State.updFleet_pending (s : State) (f : Fleet → Fleet) : (s.updFleet f).pending = s.pending := rfl
@[simp] theorem State.updFleet_bus (s : State) (f : Fleet → Fleet) : (s.updFleet f).bus = s.bus := rfl
@[simp] theorem State.updFleet_freeCtr (s : State) (f : Fleet → Fleet) : (s.updFleet f).freeCtr = s.freeCtr := rfl
@[simp] theorem State.updFleet_power (s : State) (f : Fleet → Fleet) : (s.updFleet f).power = s.power := rfl
@[simp] theorem State.updFleet_xings (s : State) (f : Fleet → Fleet) : (s.updFleet f).xings = s.xings := rfl
@[simp] theorem State.updFleet_pads (s : State) (f : Fleet → Fleet) : (s.updFleet f).pads = s.pads := rfl
@[simp] theorem State.updFleet_plan (s : State) (f : Fleet → Fleet) : (s.updFleet f).plan = s.plan := rfl
@[simp] theorem State.updFleet_swap (s : State) (f : Fleet → Fleet) : (s.updFleet f).swap = s.swap := rfl
@[simp] theorem State.updFleet_hspi (s : State) (f : Fleet → Fleet) : (s.updFleet f).hspi = s.hspi := rfl
@[simp] theorem State.updFleet_eth (s : State) (f : Fleet → Fleet) : (s.updFleet f).eth = s.eth := rfl
@[simp] theorem State.updFleet_mbxDirty (s : State) (f : Fleet → Fleet) : (s.updFleet f).mbxDirty = s.mbxDirty := rfl
@[simp] theorem State.updFleet_leases (s : State) (f : Fleet → Fleet) : (s.updFleet f).leases = s.leases := rfl
@[simp] theorem State.updFleet_strms (s : State) (f : Fleet → Fleet) : (s.updFleet f).strms = s.strms := rfl
@[simp] theorem State.updFleet_arb (s : State) (f : Fleet → Fleet) : (s.updFleet f).arb = s.arb := rfl
@[simp] theorem State.updFleet_sdl (s : State) (f : Fleet → Fleet) : (s.updFleet f).sdl = s.sdl := rfl
@[simp] theorem State.updFleet_gzb (s : State) (f : Fleet → Fleet) : (s.updFleet f).gzb = s.gzb := rfl
@[simp] theorem State.updFleet_vb (s : State) (f : Fleet → Fleet) : (s.updFleet f).vb = s.vb := rfl
@[simp] theorem State.updFleet_ps (s : State) (f : Fleet → Fleet) : (s.updFleet f).ps = s.ps := rfl
@[simp] theorem State.updFleet_test (s : State) (f : Fleet → Fleet) : (s.updFleet f).test = s.test := rfl
@[simp] theorem State.updFleet_axes (s : State) (f : Fleet → Fleet) : (s.updFleet f).axes = s.axes := rfl
@[simp] theorem State.updFleet_bv (s : State) (f : Fleet → Fleet) : (s.updFleet f).bv = s.bv := rfl
@[simp] theorem State.updFleet_slv (s : State) (f : Fleet → Fleet) : (s.updFleet f).slv = s.slv := rfl
@[simp] theorem State.updFleet_bsa (s : State) (f : Fleet → Fleet) : (s.updFleet f).bsa = s.bsa := rfl
@[simp] theorem State.updFleet_bsb (s : State) (f : Fleet → Fleet) : (s.updFleet f).bsb = s.bsb := rfl
@[simp] theorem State.updFleet_pgl (s : State) (f : Fleet → Fleet) : (s.updFleet f).pgl = s.pgl := rfl
@[simp] theorem State.updFleet_org (s : State) (f : Fleet → Fleet) : (s.updFleet f).org = s.org := rfl
@[simp] theorem State.updFleet_flash (s : State) (f : Fleet → Fleet) : (s.updFleet f).flash = s.flash := rfl
@[simp] theorem State.updFleet_upd (s : State) (f : Fleet → Fleet) : (s.updFleet f).upd = s.upd := rfl
@[simp] theorem State.updFleet_svc (s : State) (f : Fleet → Fleet) : (s.updFleet f).svc = s.svc := rfl
@[simp] theorem State.updFleet_rd (s : State) (f : Fleet → Fleet) (x : Nat) : (s.updFleet f).rd x = s.rd x := rfl
@[simp] theorem State.updFleet_getF (s : State) (f : Fleet → Fleet) (x : Fld) : (s.updFleet f).getF x = s.getF x := rfl
@[simp] theorem State.updFleet_dom (s : State) (f : Fleet → Fleet) (x : Nat) : (s.updFleet f).dom x = s.dom x := rfl

@[simp] theorem State.updHspi_part (s : State) (f : Hspi → Hspi) : (s.updHspi f).part = s.part := rfl
@[simp] theorem State.updHspi_siStep (s : State) (f : Hspi → Hspi) : (s.updHspi f).siStep = s.siStep := rfl
@[simp] theorem State.updHspi_frc (s : State) (f : Hspi → Hspi) : (s.updHspi f).frc = s.frc := rfl
@[simp] theorem State.updHspi_regs (s : State) (f : Hspi → Hspi) : (s.updHspi f).regs = s.regs := rfl
@[simp] theorem State.updHspi_pending (s : State) (f : Hspi → Hspi) : (s.updHspi f).pending = s.pending := rfl
@[simp] theorem State.updHspi_bus (s : State) (f : Hspi → Hspi) : (s.updHspi f).bus = s.bus := rfl
@[simp] theorem State.updHspi_freeCtr (s : State) (f : Hspi → Hspi) : (s.updHspi f).freeCtr = s.freeCtr := rfl
@[simp] theorem State.updHspi_power (s : State) (f : Hspi → Hspi) : (s.updHspi f).power = s.power := rfl
@[simp] theorem State.updHspi_xings (s : State) (f : Hspi → Hspi) : (s.updHspi f).xings = s.xings := rfl
@[simp] theorem State.updHspi_pads (s : State) (f : Hspi → Hspi) : (s.updHspi f).pads = s.pads := rfl
@[simp] theorem State.updHspi_plan (s : State) (f : Hspi → Hspi) : (s.updHspi f).plan = s.plan := rfl
@[simp] theorem State.updHspi_swap (s : State) (f : Hspi → Hspi) : (s.updHspi f).swap = s.swap := rfl
@[simp] theorem State.updHspi_eth (s : State) (f : Hspi → Hspi) : (s.updHspi f).eth = s.eth := rfl
@[simp] theorem State.updHspi_mbxDirty (s : State) (f : Hspi → Hspi) : (s.updHspi f).mbxDirty = s.mbxDirty := rfl
@[simp] theorem State.updHspi_leases (s : State) (f : Hspi → Hspi) : (s.updHspi f).leases = s.leases := rfl
@[simp] theorem State.updHspi_strms (s : State) (f : Hspi → Hspi) : (s.updHspi f).strms = s.strms := rfl
@[simp] theorem State.updHspi_arb (s : State) (f : Hspi → Hspi) : (s.updHspi f).arb = s.arb := rfl
@[simp] theorem State.updHspi_sdl (s : State) (f : Hspi → Hspi) : (s.updHspi f).sdl = s.sdl := rfl
@[simp] theorem State.updHspi_gzb (s : State) (f : Hspi → Hspi) : (s.updHspi f).gzb = s.gzb := rfl
@[simp] theorem State.updHspi_vb (s : State) (f : Hspi → Hspi) : (s.updHspi f).vb = s.vb := rfl
@[simp] theorem State.updHspi_ps (s : State) (f : Hspi → Hspi) : (s.updHspi f).ps = s.ps := rfl
@[simp] theorem State.updHspi_test (s : State) (f : Hspi → Hspi) : (s.updHspi f).test = s.test := rfl
@[simp] theorem State.updHspi_axes (s : State) (f : Hspi → Hspi) : (s.updHspi f).axes = s.axes := rfl
@[simp] theorem State.updHspi_bv (s : State) (f : Hspi → Hspi) : (s.updHspi f).bv = s.bv := rfl
@[simp] theorem State.updHspi_slv (s : State) (f : Hspi → Hspi) : (s.updHspi f).slv = s.slv := rfl
@[simp] theorem State.updHspi_bsa (s : State) (f : Hspi → Hspi) : (s.updHspi f).bsa = s.bsa := rfl
@[simp] theorem State.updHspi_bsb (s : State) (f : Hspi → Hspi) : (s.updHspi f).bsb = s.bsb := rfl
@[simp] theorem State.updHspi_fleet (s : State) (f : Hspi → Hspi) : (s.updHspi f).fleet = s.fleet := rfl
@[simp] theorem State.updHspi_pgl (s : State) (f : Hspi → Hspi) : (s.updHspi f).pgl = s.pgl := rfl
@[simp] theorem State.updHspi_org (s : State) (f : Hspi → Hspi) : (s.updHspi f).org = s.org := rfl
@[simp] theorem State.updHspi_flash (s : State) (f : Hspi → Hspi) : (s.updHspi f).flash = s.flash := rfl
@[simp] theorem State.updHspi_upd (s : State) (f : Hspi → Hspi) : (s.updHspi f).upd = s.upd := rfl
@[simp] theorem State.updHspi_svc (s : State) (f : Hspi → Hspi) : (s.updHspi f).svc = s.svc := rfl
@[simp] theorem State.updHspi_rd (s : State) (f : Hspi → Hspi) (x : Nat) : (s.updHspi f).rd x = s.rd x := rfl
@[simp] theorem State.updHspi_getF (s : State) (f : Hspi → Hspi) (x : Fld) : (s.updHspi f).getF x = s.getF x := rfl
@[simp] theorem State.updHspi_dom (s : State) (f : Hspi → Hspi) (x : Nat) : (s.updHspi f).dom x = s.dom x := rfl

@[simp] theorem State.updEth_part (s : State) (f : Eth → Eth) : (s.updEth f).part = s.part := rfl
@[simp] theorem State.updEth_siStep (s : State) (f : Eth → Eth) : (s.updEth f).siStep = s.siStep := rfl
@[simp] theorem State.updEth_frc (s : State) (f : Eth → Eth) : (s.updEth f).frc = s.frc := rfl
@[simp] theorem State.updEth_regs (s : State) (f : Eth → Eth) : (s.updEth f).regs = s.regs := rfl
@[simp] theorem State.updEth_pending (s : State) (f : Eth → Eth) : (s.updEth f).pending = s.pending := rfl
@[simp] theorem State.updEth_bus (s : State) (f : Eth → Eth) : (s.updEth f).bus = s.bus := rfl
@[simp] theorem State.updEth_freeCtr (s : State) (f : Eth → Eth) : (s.updEth f).freeCtr = s.freeCtr := rfl
@[simp] theorem State.updEth_power (s : State) (f : Eth → Eth) : (s.updEth f).power = s.power := rfl
@[simp] theorem State.updEth_xings (s : State) (f : Eth → Eth) : (s.updEth f).xings = s.xings := rfl
@[simp] theorem State.updEth_pads (s : State) (f : Eth → Eth) : (s.updEth f).pads = s.pads := rfl
@[simp] theorem State.updEth_plan (s : State) (f : Eth → Eth) : (s.updEth f).plan = s.plan := rfl
@[simp] theorem State.updEth_swap (s : State) (f : Eth → Eth) : (s.updEth f).swap = s.swap := rfl
@[simp] theorem State.updEth_hspi (s : State) (f : Eth → Eth) : (s.updEth f).hspi = s.hspi := rfl
@[simp] theorem State.updEth_mbxDirty (s : State) (f : Eth → Eth) : (s.updEth f).mbxDirty = s.mbxDirty := rfl
@[simp] theorem State.updEth_leases (s : State) (f : Eth → Eth) : (s.updEth f).leases = s.leases := rfl
@[simp] theorem State.updEth_strms (s : State) (f : Eth → Eth) : (s.updEth f).strms = s.strms := rfl
@[simp] theorem State.updEth_arb (s : State) (f : Eth → Eth) : (s.updEth f).arb = s.arb := rfl
@[simp] theorem State.updEth_sdl (s : State) (f : Eth → Eth) : (s.updEth f).sdl = s.sdl := rfl
@[simp] theorem State.updEth_gzb (s : State) (f : Eth → Eth) : (s.updEth f).gzb = s.gzb := rfl
@[simp] theorem State.updEth_vb (s : State) (f : Eth → Eth) : (s.updEth f).vb = s.vb := rfl
@[simp] theorem State.updEth_ps (s : State) (f : Eth → Eth) : (s.updEth f).ps = s.ps := rfl
@[simp] theorem State.updEth_test (s : State) (f : Eth → Eth) : (s.updEth f).test = s.test := rfl
@[simp] theorem State.updEth_axes (s : State) (f : Eth → Eth) : (s.updEth f).axes = s.axes := rfl
@[simp] theorem State.updEth_bv (s : State) (f : Eth → Eth) : (s.updEth f).bv = s.bv := rfl
@[simp] theorem State.updEth_slv (s : State) (f : Eth → Eth) : (s.updEth f).slv = s.slv := rfl
@[simp] theorem State.updEth_bsa (s : State) (f : Eth → Eth) : (s.updEth f).bsa = s.bsa := rfl
@[simp] theorem State.updEth_bsb (s : State) (f : Eth → Eth) : (s.updEth f).bsb = s.bsb := rfl
@[simp] theorem State.updEth_fleet (s : State) (f : Eth → Eth) : (s.updEth f).fleet = s.fleet := rfl
@[simp] theorem State.updEth_pgl (s : State) (f : Eth → Eth) : (s.updEth f).pgl = s.pgl := rfl
@[simp] theorem State.updEth_org (s : State) (f : Eth → Eth) : (s.updEth f).org = s.org := rfl
@[simp] theorem State.updEth_flash (s : State) (f : Eth → Eth) : (s.updEth f).flash = s.flash := rfl
@[simp] theorem State.updEth_upd (s : State) (f : Eth → Eth) : (s.updEth f).upd = s.upd := rfl
@[simp] theorem State.updEth_svc (s : State) (f : Eth → Eth) : (s.updEth f).svc = s.svc := rfl
@[simp] theorem State.updEth_rd (s : State) (f : Eth → Eth) (x : Nat) : (s.updEth f).rd x = s.rd x := rfl
@[simp] theorem State.updEth_getF (s : State) (f : Eth → Eth) (x : Fld) : (s.updEth f).getF x = s.getF x := rfl
@[simp] theorem State.updEth_dom (s : State) (f : Eth → Eth) (x : Nat) : (s.updEth f).dom x = s.dom x := rfl

@[simp] theorem State.updGzb_part (s : State) (f : Gzb → Gzb) : (s.updGzb f).part = s.part := rfl
@[simp] theorem State.updGzb_siStep (s : State) (f : Gzb → Gzb) : (s.updGzb f).siStep = s.siStep := rfl
@[simp] theorem State.updGzb_frc (s : State) (f : Gzb → Gzb) : (s.updGzb f).frc = s.frc := rfl
@[simp] theorem State.updGzb_regs (s : State) (f : Gzb → Gzb) : (s.updGzb f).regs = s.regs := rfl
@[simp] theorem State.updGzb_pending (s : State) (f : Gzb → Gzb) : (s.updGzb f).pending = s.pending := rfl
@[simp] theorem State.updGzb_bus (s : State) (f : Gzb → Gzb) : (s.updGzb f).bus = s.bus := rfl
@[simp] theorem State.updGzb_freeCtr (s : State) (f : Gzb → Gzb) : (s.updGzb f).freeCtr = s.freeCtr := rfl
@[simp] theorem State.updGzb_power (s : State) (f : Gzb → Gzb) : (s.updGzb f).power = s.power := rfl
@[simp] theorem State.updGzb_xings (s : State) (f : Gzb → Gzb) : (s.updGzb f).xings = s.xings := rfl
@[simp] theorem State.updGzb_pads (s : State) (f : Gzb → Gzb) : (s.updGzb f).pads = s.pads := rfl
@[simp] theorem State.updGzb_plan (s : State) (f : Gzb → Gzb) : (s.updGzb f).plan = s.plan := rfl
@[simp] theorem State.updGzb_swap (s : State) (f : Gzb → Gzb) : (s.updGzb f).swap = s.swap := rfl
@[simp] theorem State.updGzb_hspi (s : State) (f : Gzb → Gzb) : (s.updGzb f).hspi = s.hspi := rfl
@[simp] theorem State.updGzb_eth (s : State) (f : Gzb → Gzb) : (s.updGzb f).eth = s.eth := rfl
@[simp] theorem State.updGzb_mbxDirty (s : State) (f : Gzb → Gzb) : (s.updGzb f).mbxDirty = s.mbxDirty := rfl
@[simp] theorem State.updGzb_leases (s : State) (f : Gzb → Gzb) : (s.updGzb f).leases = s.leases := rfl
@[simp] theorem State.updGzb_strms (s : State) (f : Gzb → Gzb) : (s.updGzb f).strms = s.strms := rfl
@[simp] theorem State.updGzb_arb (s : State) (f : Gzb → Gzb) : (s.updGzb f).arb = s.arb := rfl
@[simp] theorem State.updGzb_sdl (s : State) (f : Gzb → Gzb) : (s.updGzb f).sdl = s.sdl := rfl
@[simp] theorem State.updGzb_vb (s : State) (f : Gzb → Gzb) : (s.updGzb f).vb = s.vb := rfl
@[simp] theorem State.updGzb_ps (s : State) (f : Gzb → Gzb) : (s.updGzb f).ps = s.ps := rfl
@[simp] theorem State.updGzb_test (s : State) (f : Gzb → Gzb) : (s.updGzb f).test = s.test := rfl
@[simp] theorem State.updGzb_axes (s : State) (f : Gzb → Gzb) : (s.updGzb f).axes = s.axes := rfl
@[simp] theorem State.updGzb_bv (s : State) (f : Gzb → Gzb) : (s.updGzb f).bv = s.bv := rfl
@[simp] theorem State.updGzb_slv (s : State) (f : Gzb → Gzb) : (s.updGzb f).slv = s.slv := rfl
@[simp] theorem State.updGzb_bsa (s : State) (f : Gzb → Gzb) : (s.updGzb f).bsa = s.bsa := rfl
@[simp] theorem State.updGzb_bsb (s : State) (f : Gzb → Gzb) : (s.updGzb f).bsb = s.bsb := rfl
@[simp] theorem State.updGzb_fleet (s : State) (f : Gzb → Gzb) : (s.updGzb f).fleet = s.fleet := rfl
@[simp] theorem State.updGzb_pgl (s : State) (f : Gzb → Gzb) : (s.updGzb f).pgl = s.pgl := rfl
@[simp] theorem State.updGzb_org (s : State) (f : Gzb → Gzb) : (s.updGzb f).org = s.org := rfl
@[simp] theorem State.updGzb_flash (s : State) (f : Gzb → Gzb) : (s.updGzb f).flash = s.flash := rfl
@[simp] theorem State.updGzb_upd (s : State) (f : Gzb → Gzb) : (s.updGzb f).upd = s.upd := rfl
@[simp] theorem State.updGzb_svc (s : State) (f : Gzb → Gzb) : (s.updGzb f).svc = s.svc := rfl
@[simp] theorem State.updGzb_rd (s : State) (f : Gzb → Gzb) (x : Nat) : (s.updGzb f).rd x = s.rd x := rfl
@[simp] theorem State.updGzb_getF (s : State) (f : Gzb → Gzb) (x : Fld) : (s.updGzb f).getF x = s.getF x := rfl
@[simp] theorem State.updGzb_dom (s : State) (f : Gzb → Gzb) (x : Nat) : (s.updGzb f).dom x = s.dom x := rfl

@[simp] theorem State.updOrg_part (s : State) (f : Org → Org) : (s.updOrg f).part = s.part := rfl
@[simp] theorem State.updOrg_siStep (s : State) (f : Org → Org) : (s.updOrg f).siStep = s.siStep := rfl
@[simp] theorem State.updOrg_frc (s : State) (f : Org → Org) : (s.updOrg f).frc = s.frc := rfl
@[simp] theorem State.updOrg_regs (s : State) (f : Org → Org) : (s.updOrg f).regs = s.regs := rfl
@[simp] theorem State.updOrg_pending (s : State) (f : Org → Org) : (s.updOrg f).pending = s.pending := rfl
@[simp] theorem State.updOrg_bus (s : State) (f : Org → Org) : (s.updOrg f).bus = s.bus := rfl
@[simp] theorem State.updOrg_freeCtr (s : State) (f : Org → Org) : (s.updOrg f).freeCtr = s.freeCtr := rfl
@[simp] theorem State.updOrg_power (s : State) (f : Org → Org) : (s.updOrg f).power = s.power := rfl
@[simp] theorem State.updOrg_xings (s : State) (f : Org → Org) : (s.updOrg f).xings = s.xings := rfl
@[simp] theorem State.updOrg_pads (s : State) (f : Org → Org) : (s.updOrg f).pads = s.pads := rfl
@[simp] theorem State.updOrg_plan (s : State) (f : Org → Org) : (s.updOrg f).plan = s.plan := rfl
@[simp] theorem State.updOrg_swap (s : State) (f : Org → Org) : (s.updOrg f).swap = s.swap := rfl
@[simp] theorem State.updOrg_hspi (s : State) (f : Org → Org) : (s.updOrg f).hspi = s.hspi := rfl
@[simp] theorem State.updOrg_eth (s : State) (f : Org → Org) : (s.updOrg f).eth = s.eth := rfl
@[simp] theorem State.updOrg_mbxDirty (s : State) (f : Org → Org) : (s.updOrg f).mbxDirty = s.mbxDirty := rfl
@[simp] theorem State.updOrg_leases (s : State) (f : Org → Org) : (s.updOrg f).leases = s.leases := rfl
@[simp] theorem State.updOrg_strms (s : State) (f : Org → Org) : (s.updOrg f).strms = s.strms := rfl
@[simp] theorem State.updOrg_arb (s : State) (f : Org → Org) : (s.updOrg f).arb = s.arb := rfl
@[simp] theorem State.updOrg_sdl (s : State) (f : Org → Org) : (s.updOrg f).sdl = s.sdl := rfl
@[simp] theorem State.updOrg_gzb (s : State) (f : Org → Org) : (s.updOrg f).gzb = s.gzb := rfl
@[simp] theorem State.updOrg_vb (s : State) (f : Org → Org) : (s.updOrg f).vb = s.vb := rfl
@[simp] theorem State.updOrg_ps (s : State) (f : Org → Org) : (s.updOrg f).ps = s.ps := rfl
@[simp] theorem State.updOrg_test (s : State) (f : Org → Org) : (s.updOrg f).test = s.test := rfl
@[simp] theorem State.updOrg_axes (s : State) (f : Org → Org) : (s.updOrg f).axes = s.axes := rfl
@[simp] theorem State.updOrg_bv (s : State) (f : Org → Org) : (s.updOrg f).bv = s.bv := rfl
@[simp] theorem State.updOrg_slv (s : State) (f : Org → Org) : (s.updOrg f).slv = s.slv := rfl
@[simp] theorem State.updOrg_bsa (s : State) (f : Org → Org) : (s.updOrg f).bsa = s.bsa := rfl
@[simp] theorem State.updOrg_bsb (s : State) (f : Org → Org) : (s.updOrg f).bsb = s.bsb := rfl
@[simp] theorem State.updOrg_fleet (s : State) (f : Org → Org) : (s.updOrg f).fleet = s.fleet := rfl
@[simp] theorem State.updOrg_pgl (s : State) (f : Org → Org) : (s.updOrg f).pgl = s.pgl := rfl
@[simp] theorem State.updOrg_flash (s : State) (f : Org → Org) : (s.updOrg f).flash = s.flash := rfl
@[simp] theorem State.updOrg_upd (s : State) (f : Org → Org) : (s.updOrg f).upd = s.upd := rfl
@[simp] theorem State.updOrg_svc (s : State) (f : Org → Org) : (s.updOrg f).svc = s.svc := rfl
@[simp] theorem State.updOrg_rd (s : State) (f : Org → Org) (x : Nat) : (s.updOrg f).rd x = s.rd x := rfl
@[simp] theorem State.updOrg_getF (s : State) (f : Org → Org) (x : Fld) : (s.updOrg f).getF x = s.getF x := rfl
@[simp] theorem State.updOrg_dom (s : State) (f : Org → Org) (x : Nat) : (s.updOrg f).dom x = s.dom x := rfl

@[simp] theorem State.updPgl_part (s : State) (f : Pgl → Pgl) : (s.updPgl f).part = s.part := rfl
@[simp] theorem State.updPgl_siStep (s : State) (f : Pgl → Pgl) : (s.updPgl f).siStep = s.siStep := rfl
@[simp] theorem State.updPgl_frc (s : State) (f : Pgl → Pgl) : (s.updPgl f).frc = s.frc := rfl
@[simp] theorem State.updPgl_regs (s : State) (f : Pgl → Pgl) : (s.updPgl f).regs = s.regs := rfl
@[simp] theorem State.updPgl_pending (s : State) (f : Pgl → Pgl) : (s.updPgl f).pending = s.pending := rfl
@[simp] theorem State.updPgl_bus (s : State) (f : Pgl → Pgl) : (s.updPgl f).bus = s.bus := rfl
@[simp] theorem State.updPgl_freeCtr (s : State) (f : Pgl → Pgl) : (s.updPgl f).freeCtr = s.freeCtr := rfl
@[simp] theorem State.updPgl_power (s : State) (f : Pgl → Pgl) : (s.updPgl f).power = s.power := rfl
@[simp] theorem State.updPgl_xings (s : State) (f : Pgl → Pgl) : (s.updPgl f).xings = s.xings := rfl
@[simp] theorem State.updPgl_pads (s : State) (f : Pgl → Pgl) : (s.updPgl f).pads = s.pads := rfl
@[simp] theorem State.updPgl_plan (s : State) (f : Pgl → Pgl) : (s.updPgl f).plan = s.plan := rfl
@[simp] theorem State.updPgl_swap (s : State) (f : Pgl → Pgl) : (s.updPgl f).swap = s.swap := rfl
@[simp] theorem State.updPgl_hspi (s : State) (f : Pgl → Pgl) : (s.updPgl f).hspi = s.hspi := rfl
@[simp] theorem State.updPgl_eth (s : State) (f : Pgl → Pgl) : (s.updPgl f).eth = s.eth := rfl
@[simp] theorem State.updPgl_mbxDirty (s : State) (f : Pgl → Pgl) : (s.updPgl f).mbxDirty = s.mbxDirty := rfl
@[simp] theorem State.updPgl_leases (s : State) (f : Pgl → Pgl) : (s.updPgl f).leases = s.leases := rfl
@[simp] theorem State.updPgl_strms (s : State) (f : Pgl → Pgl) : (s.updPgl f).strms = s.strms := rfl
@[simp] theorem State.updPgl_arb (s : State) (f : Pgl → Pgl) : (s.updPgl f).arb = s.arb := rfl
@[simp] theorem State.updPgl_sdl (s : State) (f : Pgl → Pgl) : (s.updPgl f).sdl = s.sdl := rfl
@[simp] theorem State.updPgl_gzb (s : State) (f : Pgl → Pgl) : (s.updPgl f).gzb = s.gzb := rfl
@[simp] theorem State.updPgl_vb (s : State) (f : Pgl → Pgl) : (s.updPgl f).vb = s.vb := rfl
@[simp] theorem State.updPgl_ps (s : State) (f : Pgl → Pgl) : (s.updPgl f).ps = s.ps := rfl
@[simp] theorem State.updPgl_test (s : State) (f : Pgl → Pgl) : (s.updPgl f).test = s.test := rfl
@[simp] theorem State.updPgl_axes (s : State) (f : Pgl → Pgl) : (s.updPgl f).axes = s.axes := rfl
@[simp] theorem State.updPgl_bv (s : State) (f : Pgl → Pgl) : (s.updPgl f).bv = s.bv := rfl
@[simp] theorem State.updPgl_slv (s : State) (f : Pgl → Pgl) : (s.updPgl f).slv = s.slv := rfl
@[simp] theorem State.updPgl_bsa (s : State) (f : Pgl → Pgl) : (s.updPgl f).bsa = s.bsa := rfl
@[simp] theorem State.updPgl_bsb (s : State) (f : Pgl → Pgl) : (s.updPgl f).bsb = s.bsb := rfl
@[simp] theorem State.updPgl_fleet (s : State) (f : Pgl → Pgl) : (s.updPgl f).fleet = s.fleet := rfl
@[simp] theorem State.updPgl_org (s : State) (f : Pgl → Pgl) : (s.updPgl f).org = s.org := rfl
@[simp] theorem State.updPgl_flash (s : State) (f : Pgl → Pgl) : (s.updPgl f).flash = s.flash := rfl
@[simp] theorem State.updPgl_upd (s : State) (f : Pgl → Pgl) : (s.updPgl f).upd = s.upd := rfl
@[simp] theorem State.updPgl_svc (s : State) (f : Pgl → Pgl) : (s.updPgl f).svc = s.svc := rfl
@[simp] theorem State.updPgl_rd (s : State) (f : Pgl → Pgl) (x : Nat) : (s.updPgl f).rd x = s.rd x := rfl
@[simp] theorem State.updPgl_getF (s : State) (f : Pgl → Pgl) (x : Fld) : (s.updPgl f).getF x = s.getF x := rfl
@[simp] theorem State.updPgl_dom (s : State) (f : Pgl → Pgl) (x : Nat) : (s.updPgl f).dom x = s.dom x := rfl

@[simp] theorem State.updSdl_part (s : State) (f : Sdl → Sdl) : (s.updSdl f).part = s.part := rfl
@[simp] theorem State.updSdl_siStep (s : State) (f : Sdl → Sdl) : (s.updSdl f).siStep = s.siStep := rfl
@[simp] theorem State.updSdl_frc (s : State) (f : Sdl → Sdl) : (s.updSdl f).frc = s.frc := rfl
@[simp] theorem State.updSdl_regs (s : State) (f : Sdl → Sdl) : (s.updSdl f).regs = s.regs := rfl
@[simp] theorem State.updSdl_pending (s : State) (f : Sdl → Sdl) : (s.updSdl f).pending = s.pending := rfl
@[simp] theorem State.updSdl_bus (s : State) (f : Sdl → Sdl) : (s.updSdl f).bus = s.bus := rfl
@[simp] theorem State.updSdl_freeCtr (s : State) (f : Sdl → Sdl) : (s.updSdl f).freeCtr = s.freeCtr := rfl
@[simp] theorem State.updSdl_power (s : State) (f : Sdl → Sdl) : (s.updSdl f).power = s.power := rfl
@[simp] theorem State.updSdl_xings (s : State) (f : Sdl → Sdl) : (s.updSdl f).xings = s.xings := rfl
@[simp] theorem State.updSdl_pads (s : State) (f : Sdl → Sdl) : (s.updSdl f).pads = s.pads := rfl
@[simp] theorem State.updSdl_plan (s : State) (f : Sdl → Sdl) : (s.updSdl f).plan = s.plan := rfl
@[simp] theorem State.updSdl_swap (s : State) (f : Sdl → Sdl) : (s.updSdl f).swap = s.swap := rfl
@[simp] theorem State.updSdl_hspi (s : State) (f : Sdl → Sdl) : (s.updSdl f).hspi = s.hspi := rfl
@[simp] theorem State.updSdl_eth (s : State) (f : Sdl → Sdl) : (s.updSdl f).eth = s.eth := rfl
@[simp] theorem State.updSdl_mbxDirty (s : State) (f : Sdl → Sdl) : (s.updSdl f).mbxDirty = s.mbxDirty := rfl
@[simp] theorem State.updSdl_leases (s : State) (f : Sdl → Sdl) : (s.updSdl f).leases = s.leases := rfl
@[simp] theorem State.updSdl_strms (s : State) (f : Sdl → Sdl) : (s.updSdl f).strms = s.strms := rfl
@[simp] theorem State.updSdl_arb (s : State) (f : Sdl → Sdl) : (s.updSdl f).arb = s.arb := rfl
@[simp] theorem State.updSdl_gzb (s : State) (f : Sdl → Sdl) : (s.updSdl f).gzb = s.gzb := rfl
@[simp] theorem State.updSdl_vb (s : State) (f : Sdl → Sdl) : (s.updSdl f).vb = s.vb := rfl
@[simp] theorem State.updSdl_ps (s : State) (f : Sdl → Sdl) : (s.updSdl f).ps = s.ps := rfl
@[simp] theorem State.updSdl_test (s : State) (f : Sdl → Sdl) : (s.updSdl f).test = s.test := rfl
@[simp] theorem State.updSdl_axes (s : State) (f : Sdl → Sdl) : (s.updSdl f).axes = s.axes := rfl
@[simp] theorem State.updSdl_bv (s : State) (f : Sdl → Sdl) : (s.updSdl f).bv = s.bv := rfl
@[simp] theorem State.updSdl_slv (s : State) (f : Sdl → Sdl) : (s.updSdl f).slv = s.slv := rfl
@[simp] theorem State.updSdl_bsa (s : State) (f : Sdl → Sdl) : (s.updSdl f).bsa = s.bsa := rfl
@[simp] theorem State.updSdl_bsb (s : State) (f : Sdl → Sdl) : (s.updSdl f).bsb = s.bsb := rfl
@[simp] theorem State.updSdl_fleet (s : State) (f : Sdl → Sdl) : (s.updSdl f).fleet = s.fleet := rfl
@[simp] theorem State.updSdl_pgl (s : State) (f : Sdl → Sdl) : (s.updSdl f).pgl = s.pgl := rfl
@[simp] theorem State.updSdl_org (s : State) (f : Sdl → Sdl) : (s.updSdl f).org = s.org := rfl
@[simp] theorem State.updSdl_flash (s : State) (f : Sdl → Sdl) : (s.updSdl f).flash = s.flash := rfl
@[simp] theorem State.updSdl_upd (s : State) (f : Sdl → Sdl) : (s.updSdl f).upd = s.upd := rfl
@[simp] theorem State.updSdl_svc (s : State) (f : Sdl → Sdl) : (s.updSdl f).svc = s.svc := rfl
@[simp] theorem State.updSdl_rd (s : State) (f : Sdl → Sdl) (x : Nat) : (s.updSdl f).rd x = s.rd x := rfl
@[simp] theorem State.updSdl_getF (s : State) (f : Sdl → Sdl) (x : Fld) : (s.updSdl f).getF x = s.getF x := rfl
@[simp] theorem State.updSdl_dom (s : State) (f : Sdl → Sdl) (x : Nat) : (s.updSdl f).dom x = s.dom x := rfl

@[simp] theorem State.updSlv_part (s : State) (f : Slv → Slv) : (s.updSlv f).part = s.part := rfl
@[simp] theorem State.updSlv_siStep (s : State) (f : Slv → Slv) : (s.updSlv f).siStep = s.siStep := rfl
@[simp] theorem State.updSlv_frc (s : State) (f : Slv → Slv) : (s.updSlv f).frc = s.frc := rfl
@[simp] theorem State.updSlv_regs (s : State) (f : Slv → Slv) : (s.updSlv f).regs = s.regs := rfl
@[simp] theorem State.updSlv_pending (s : State) (f : Slv → Slv) : (s.updSlv f).pending = s.pending := rfl
@[simp] theorem State.updSlv_bus (s : State) (f : Slv → Slv) : (s.updSlv f).bus = s.bus := rfl
@[simp] theorem State.updSlv_freeCtr (s : State) (f : Slv → Slv) : (s.updSlv f).freeCtr = s.freeCtr := rfl
@[simp] theorem State.updSlv_power (s : State) (f : Slv → Slv) : (s.updSlv f).power = s.power := rfl
@[simp] theorem State.updSlv_xings (s : State) (f : Slv → Slv) : (s.updSlv f).xings = s.xings := rfl
@[simp] theorem State.updSlv_pads (s : State) (f : Slv → Slv) : (s.updSlv f).pads = s.pads := rfl
@[simp] theorem State.updSlv_plan (s : State) (f : Slv → Slv) : (s.updSlv f).plan = s.plan := rfl
@[simp] theorem State.updSlv_swap (s : State) (f : Slv → Slv) : (s.updSlv f).swap = s.swap := rfl
@[simp] theorem State.updSlv_hspi (s : State) (f : Slv → Slv) : (s.updSlv f).hspi = s.hspi := rfl
@[simp] theorem State.updSlv_eth (s : State) (f : Slv → Slv) : (s.updSlv f).eth = s.eth := rfl
@[simp] theorem State.updSlv_mbxDirty (s : State) (f : Slv → Slv) : (s.updSlv f).mbxDirty = s.mbxDirty := rfl
@[simp] theorem State.updSlv_leases (s : State) (f : Slv → Slv) : (s.updSlv f).leases = s.leases := rfl
@[simp] theorem State.updSlv_strms (s : State) (f : Slv → Slv) : (s.updSlv f).strms = s.strms := rfl
@[simp] theorem State.updSlv_arb (s : State) (f : Slv → Slv) : (s.updSlv f).arb = s.arb := rfl
@[simp] theorem State.updSlv_sdl (s : State) (f : Slv → Slv) : (s.updSlv f).sdl = s.sdl := rfl
@[simp] theorem State.updSlv_gzb (s : State) (f : Slv → Slv) : (s.updSlv f).gzb = s.gzb := rfl
@[simp] theorem State.updSlv_vb (s : State) (f : Slv → Slv) : (s.updSlv f).vb = s.vb := rfl
@[simp] theorem State.updSlv_ps (s : State) (f : Slv → Slv) : (s.updSlv f).ps = s.ps := rfl
@[simp] theorem State.updSlv_test (s : State) (f : Slv → Slv) : (s.updSlv f).test = s.test := rfl
@[simp] theorem State.updSlv_axes (s : State) (f : Slv → Slv) : (s.updSlv f).axes = s.axes := rfl
@[simp] theorem State.updSlv_bv (s : State) (f : Slv → Slv) : (s.updSlv f).bv = s.bv := rfl
@[simp] theorem State.updSlv_bsa (s : State) (f : Slv → Slv) : (s.updSlv f).bsa = s.bsa := rfl
@[simp] theorem State.updSlv_bsb (s : State) (f : Slv → Slv) : (s.updSlv f).bsb = s.bsb := rfl
@[simp] theorem State.updSlv_fleet (s : State) (f : Slv → Slv) : (s.updSlv f).fleet = s.fleet := rfl
@[simp] theorem State.updSlv_pgl (s : State) (f : Slv → Slv) : (s.updSlv f).pgl = s.pgl := rfl
@[simp] theorem State.updSlv_org (s : State) (f : Slv → Slv) : (s.updSlv f).org = s.org := rfl
@[simp] theorem State.updSlv_flash (s : State) (f : Slv → Slv) : (s.updSlv f).flash = s.flash := rfl
@[simp] theorem State.updSlv_upd (s : State) (f : Slv → Slv) : (s.updSlv f).upd = s.upd := rfl
@[simp] theorem State.updSlv_svc (s : State) (f : Slv → Slv) : (s.updSlv f).svc = s.svc := rfl
@[simp] theorem State.updSlv_rd (s : State) (f : Slv → Slv) (x : Nat) : (s.updSlv f).rd x = s.rd x := rfl
@[simp] theorem State.updSlv_getF (s : State) (f : Slv → Slv) (x : Fld) : (s.updSlv f).getF x = s.getF x := rfl
@[simp] theorem State.updSlv_dom (s : State) (f : Slv → Slv) (x : Nat) : (s.updSlv f).dom x = s.dom x := rfl

@[simp] theorem State.finish_part (s : State) (w st : Nat) (r : Bytes) : (s.finish w st r).part = s.part := rfl
@[simp] theorem State.finish_siStep (s : State) (w st : Nat) (r : Bytes) : (s.finish w st r).siStep = s.siStep := rfl
@[simp] theorem State.finish_frc (s : State) (w st : Nat) (r : Bytes) : (s.finish w st r).frc = s.frc := rfl
@[simp] theorem State.finish_regs (s : State) (w st : Nat) (r : Bytes) : (s.finish w st r).regs = s.regs := rfl
@[simp] theorem State.finish_pending (s : State) (w st : Nat) (r : Bytes) : (s.finish w st r).pending = s.pending := rfl
@[simp] theorem State.finish_bus (s : State) (w st : Nat) (r : Bytes) : (s.finish w st r).bus = s.bus := rfl
@[simp] theorem State.finish_freeCtr (s : State) (w st : Nat) (r : Bytes) : (s.finish w st r).freeCtr = s.freeCtr := rfl
@[simp] theorem State.finish_power (s : State) (w st : Nat) (r : Bytes) : (s.finish w st r).power = s.power := rfl
@[simp] theorem State.finish_xings (s : State) (w st : Nat) (r : Bytes) : (s.finish w st r).xings = s.xings := rfl
@[simp] theorem State.finish_pads (s : State) (w st : Nat) (r : Bytes) : (s.finish w st r).pads = s.pads := rfl
@[simp] theorem State.finish_plan (s : State) (w st : Nat) (r : Bytes) : (s.finish w st r).plan = s.plan := rfl
@[simp] theorem State.finish_swap (s : State) (w st : Nat) (r : Bytes) : (s.finish w st r).swap = s.swap := rfl
@[simp] theorem State.finish_hspi (s : State) (w st : Nat) (r : Bytes) : (s.finish w st r).hspi = s.hspi := rfl
@[simp] theorem State.finish_eth (s : State) (w st : Nat) (r : Bytes) : (s.finish w st r).eth = s.eth := rfl
@[simp] theorem State.finish_mbxDirty (s : State) (w st : Nat) (r : Bytes) : (s.finish w st r).mbxDirty = s.mbxDirty := rfl
@[simp] theorem State.finish_leases (s : State) (w st : Nat) (r : Bytes) : (s.finish w st r).leases = s.leases := rfl
@[simp] theorem State.finish_strms (s : State) (w st : Nat) (r : Bytes) : (s.finish w st r).strms = s.strms := rfl
@[simp] theorem State.finish_sdl (s : State) (w st : Nat) (r : Bytes) : (s.finish w st r).sdl = s.sdl := rfl
@[simp] theorem State.finish_gzb (s : State) (w st : Nat) (r : Bytes) : (s.finish w st r).gzb = s.gzb := rfl
@[simp] theorem State.finish_vb (s : State) (w st : Nat) (r : Bytes) : (s.finish w st r).vb = s.vb := rfl
@[simp] theorem State.finish_ps (s : State) (w st : Nat) (r : Bytes) : (s.finish w st r).ps = s.ps := rfl
@[simp] theorem State.finish_test (s : State) (w st : Nat) (r : Bytes) : (s.finish w st r).test = s.test := rfl
@[simp] theorem State.finish_axes (s : State) (w st : Nat) (r : Bytes) : (s.finish w st r).axes = s.axes := rfl
@[simp] theorem State.finish_bv (s : State) (w st : Nat) (r : Bytes) : (s.finish w st r).bv = s.bv := rfl
@[simp] theorem State.finish_slv (s : State) (w st : Nat) (r : Bytes) : (s.finish w st r).slv = s.slv := rfl
@[simp] theorem State.finish_bsa (s : State) (w st : Nat) (r : Bytes) : (s.finish w st r).bsa = s.bsa := rfl
@[simp] theorem State.finish_bsb (s : State) (w st : Nat) (r : Bytes) : (s.finish w st r).bsb = s.bsb := rfl
@[simp] theorem State.finish_fleet (s : State) (w st : Nat) (r : Bytes) : (s.finish w st r).fleet = s.fleet := rfl
@[simp] theorem State.finish_pgl (s : State) (w st : Nat) (r : Bytes) : (s.finish w st r).pgl = s.pgl := rfl
@[simp] theorem State.finish_org (s : State) (w st : Nat) (r : Bytes) : (s.finish w st r).org = s.org := rfl
@[simp] theorem State.finish_flash (s : State) (w st : Nat) (r : Bytes) : (s.finish w st r).flash = s.flash := rfl
@[simp] theorem State.finish_upd (s : State) (w st : Nat) (r : Bytes) : (s.finish w st r).upd = s.upd := rfl
@[simp] theorem State.finish_svc (s : State) (w st : Nat) (r : Bytes) : (s.finish w st r).svc = s.svc := rfl
@[simp] theorem State.finish_rd (s : State) (w st : Nat) (r : Bytes) (x : Nat) : (s.finish w st r).rd x = s.rd x := rfl
@[simp] theorem State.finish_getF (s : State) (w st : Nat) (r : Bytes) (x : Fld) : (s.finish w st r).getF x = s.getF x := rfl
@[simp] theorem State.finish_dom (s : State) (w st : Nat) (r : Bytes) (x : Nat) : (s.finish w st r).dom x = s.dom x := rfl

@[simp] theorem State.hold_part (s : State) (d : Nat) (w : HeldWhat) : (s.hold d w).part = s.part := rfl
@[simp] theorem State.hold_siStep (s : State) (d : Nat) (w : HeldWhat) : (s.hold d w).siStep = s.siStep := rfl
@[simp] theorem State.hold_frc (s : State) (d : Nat) (w : HeldWhat) : (s.hold d w).frc = s.frc := rfl
@[simp] theorem State.hold_regs (s : State) (d : Nat) (w : HeldWhat) : (s.hold d w).regs = s.regs := rfl
@[simp] theorem State.hold_pending (s : State) (d : Nat) (w : HeldWhat) : (s.hold d w).pending = s.pending := rfl
@[simp] theorem State.hold_bus (s : State) (d : Nat) (w : HeldWhat) : (s.hold d w).bus = s.bus := rfl
@[simp] theorem State.hold_freeCtr (s : State) (d : Nat) (w : HeldWhat) : (s.hold d w).freeCtr = s.freeCtr := rfl
@[simp] theorem State.hold_xings (s : State) (d : Nat) (w : HeldWhat) : (s.hold d w).xings = s.xings := rfl
@[simp] theorem State.hold_pads (s : State) (d : Nat) (w : HeldWhat) : (s.hold d w).pads = s.pads := rfl
@[simp] theorem State.hold_plan (s : State) (d : Nat) (w : HeldWhat) : (s.hold d w).plan = s.plan := rfl
@[simp] theorem State.hold_swap (s : State) (d : Nat) (w : HeldWhat) : (s.hold d w).swap = s.swap := rfl
@[simp] theorem State.hold_hspi (s : State) (d : Nat) (w : HeldWhat) : (s.hold d w).hspi = s.hspi := rfl
@[simp] theorem State.hold_eth (s : State) (d : Nat) (w : HeldWhat) : (s.hold d w).eth = s.eth := rfl
@[simp] theorem State.hold_mbxDirty (s : State) (d : Nat) (w : HeldWhat) : (s.hold d w).mbxDirty = s.mbxDirty := rfl
@[simp] theorem State.hold_leases (s : State) (d : Nat) (w : HeldWhat) : (s.hold d w).leases = s.leases := rfl
@[simp] theorem State.hold_strms (s : State) (d : Nat) (w : HeldWhat) : (s.hold d w).strms = s.strms := rfl
@[simp] theorem State.hold_arb (s : State) (d : Nat) (w : HeldWhat) : (s.hold d w).arb = s.arb := rfl
@[simp] theorem State.hold_sdl (s : State) (d : Nat) (w : HeldWhat) : (s.hold d w).sdl = s.sdl := rfl
@[simp] theorem State.hold_gzb (s : State) (d : Nat) (w : HeldWhat) : (s.hold d w).gzb = s.gzb := rfl
@[simp] theorem State.hold_vb (s : State) (d : Nat) (w : HeldWhat) : (s.hold d w).vb = s.vb := rfl
@[simp] theorem State.hold_ps (s : State) (d : Nat) (w : HeldWhat) : (s.hold d w).ps = s.ps := rfl
@[simp] theorem State.hold_test (s : State) (d : Nat) (w : HeldWhat) : (s.hold d w).test = s.test := rfl
@[simp] theorem State.hold_axes (s : State) (d : Nat) (w : HeldWhat) : (s.hold d w).axes = s.axes := rfl
@[simp] theorem State.hold_bv (s : State) (d : Nat) (w : HeldWhat) : (s.hold d w).bv = s.bv := rfl
@[simp] theorem State.hold_slv (s : State) (d : Nat) (w : HeldWhat) : (s.hold d w).slv = s.slv := rfl
@[simp] theorem State.hold_bsa (s : State) (d : Nat) (w : HeldWhat) : (s.hold d w).bsa = s.bsa := rfl
@[simp] theorem State.hold_bsb (s : State) (d : Nat) (w : HeldWhat) : (s.hold d w).bsb = s.bsb := rfl
@[simp] theorem State.hold_fleet (s : State) (d : Nat) (w : HeldWhat) : (s.hold d w).fleet = s.fleet := rfl
@[simp] theorem State.hold_pgl (s : State) (d : Nat) (w : HeldWhat) : (s.hold d w).pgl = s.pgl := rfl
@[simp] theorem State.hold_org (s : State) (d : Nat) (w : HeldWhat) : (s.hold d w).org = s.org := rfl
@[simp] theorem State.hold_flash (s : State) (d : Nat) (w : HeldWhat) : (s.hold d w).flash = s.flash := rfl
@[simp] theorem State.hold_upd (s : State) (d : Nat) (w : HeldWhat) : (s.hold d w).upd = s.upd := rfl
@[simp] theorem State.hold_svc (s : State) (d : Nat) (w : HeldWhat) : (s.hold d w).svc = s.svc := rfl
@[simp] theorem State.hold_rd (s : State) (d : Nat) (w : HeldWhat) (x : Nat) : (s.hold d w).rd x = s.rd x := rfl
@[simp] theorem State.hold_getF (s : State) (d : Nat) (w : HeldWhat) (x : Fld) : (s.hold d w).getF x = s.getF x := rfl
@[simp] theorem State.hold_dom (s : State) (d : Nat) (w : HeldWhat) (x : Nat) : (s.hold d w).dom x = s.dom x := rfl

@[simp] theorem State.updBv_bv (s : State) (f : Bv → Bv) : (s.updBv f).bv = f s.bv := rfl
@[simp] theorem State.updPower_power (s : State) (f : Power → Power) : (s.updPower f).power = f s.power := rfl
@[simp] theorem State.updArb_arb (s : State) (f : Arb → Arb) : (s.updArb f).arb = f s.arb := rfl
@[simp] theorem State.updFleet_fleet (s : State) (f : Fleet → Fleet) : (s.updFleet f).fleet = f s.fleet := rfl
@[simp] theorem State.updHspi_hspi (s : State) (f : Hspi → Hspi) : (s.updHspi f).hspi = f s.hspi := rfl
@[simp] theorem State.updEth_eth (s : State) (f : Eth → Eth) : (s.updEth f).eth = f s.eth := rfl
@[simp] theorem State.updGzb_gzb (s : State) (f : Gzb → Gzb) : (s.updGzb f).gzb = f s.gzb := rfl
@[simp] theorem State.updOrg_org (s : State) (f : Org → Org) : (s.updOrg f).org = f s.org := rfl
@[simp] theorem State.updPgl_pgl (s : State) (f : Pgl → Pgl) : (s.updPgl f).pgl = f s.pgl := rfl
@[simp] theorem State.updSdl_sdl (s : State) (f : Sdl → Sdl) : (s.updSdl f).sdl = f s.sdl := rfl
@[simp] theorem State.updSlv_slv (s : State) (f : Slv → Slv) : (s.updSlv f).slv = f s.slv := rfl

end Sys2Proof.Machine
end

