-- ==== Sys2Proof/Laws/Frames.lean ====
section
/-! SUPPORT. Frames over register fields: how `OnlyFields` is built up from single field writes. -/
namespace Sys2Proof.Machine

theorem OnlyFields.refl (s : State) (fs : List Fld) : OnlyFields s s fs := fun _ _ => rfl

/-- States with the same register file read every field alike. -/
theorem OnlyFields.of_regs {s t : State} (h : t.regs = s.regs) (fs : List Fld) : OnlyFields s t fs := by
  intro g _
  unfold State.getF State.rd
  rw [h]

theorem OnlyFields.trans {s t u : State} {fs gs : List Fld} (h1 : OnlyFields s t fs) (h2 : OnlyFields t u gs) :
    OnlyFields s u (fs ++ gs) := by
  intro g hg
  rw [h2 g (fun f hf => hg f (List.mem_append_right _ hf)), h1 g (fun f hf => hg f (List.mem_append_left _ hf))]

theorem OnlyFields.mono {s t : State} {fs gs : List Fld} (h : OnlyFields s t fs) (hs : ∀ f ∈ fs, f ∈ gs) :
    OnlyFields s t gs := fun g hg => h g (fun f hf => hg f (hs f hf))

/-- A field write changes that field alone. -/
theorem OnlyFields.setF (s : State) (f : Fld) (v : Nat) (h : f.lo + f.width ≤ 32) : OnlyFields s (s.setF f v) [f] := by
  intro g hg
  by_cases ha : g.addr = f.addr
  · refine State.getF_setF_bits s f g v h ha ?_
    rcases hg f (List.mem_singleton.2 rfl) with h1 | h1
    · exact absurd ha h1
    · exact h1
  · exact State.getF_setF_other s f g v ha

/-- A register write changes that register alone. -/
theorem OnlyFields.wr (s : State) (a : Nat) (v : Word) (b : Nat) (hb : b = a) : OnlyFields s (s.wr a v) [regFld b] := by
  subst hb
  intro g hg
  unfold State.getF
  by_cases ha : g.addr = b
  · rcases hg (regFld b) (List.mem_singleton.2 rfl) with h1 | h1 | h1
    · exact absurd ha h1
    · have hw : g.width = 0 := by simp only [regFld] at h1; omega
      simp [bitsOf, hw, Nat.mod_one]
    · have hl : 32 ≤ g.lo := by simpa [regFld] using h1
      have hz : ∀ w : Word, bitsOf w.toNat g.lo g.width = 0 := by
        intro w
        have : w.toNat < 2 ^ g.lo := Nat.lt_of_lt_of_le w.isLt (Nat.pow_le_pow_right (by decide) hl)
        simp [bitsOf, Nat.div_eq_of_lt this]
      rw [hz, hz]
  · rw [State.rd_wr_other s v ha]

/-- A step of a chain of field writes. -/
theorem OnlyFields.snoc {s t : State} {fs : List Fld} (h : OnlyFields s t fs) (f : Fld) (v : Nat)
    (hf : f.lo + f.width ≤ 32) : OnlyFields s (t.setF f v) (fs ++ [f]) := h.trans (OnlyFields.setF t f v hf)

end Sys2Proof.Machine
end

