-- ==== Sys2Proof/Laws/SoundBase.lean ====
section
/-! SUPPORT. How a state stays sound, and keeps what no command takes back, through the forms a meaning is built from: a
choice, a fold, a local name, an update of some parts of the state. -/
namespace Sys2Proof.Machine

/-- The parts of a state that `State.Ok` speaks of. -/
def OkParts (o : State) (part : Part) (siStep : Nat) (frc : DWord) (pending : List Instr) (freeCtr : Nat) (regs : List (Nat × Word)) (plan : Plan)
    (flash : Flash) (upd : Upd) : Prop :=
  (Sparse.wf resetOf regs = true ∧ Memory.wf plan.staging = true ∧ Memory.wf upd.bytes = true) ∧
    part = o.part ∧ siStep = o.siStep ∧ pending = o.pending ∧ (frc = o.frc ∨ frc = 0) ∧ o.freeCtr ≤ freeCtr ∧
    o.flash.svnFuses ≤ flash.svnFuses ∧
    o.flash.wipeFuses ≤ flash.wipeFuses ∧ flash.revoked = o.flash.revoked

/-- Sound, and with all that no command takes back since `o`. -/
def State.Ok (s o : State) : Prop := OkParts o s.part s.siStep s.frc s.pending s.freeCtr s.regs s.plan s.flash s.upd

theorem State.ok_iff {s o : State} : s.Ok o ↔ s.Sound ∧ s.Since o := Iff.rfl

theorem State.Ok.regs {s o : State} (h : s.Ok o) : Sparse.wf resetOf s.regs = true := h.1.1
theorem State.Ok.staging {s o : State} (h : s.Ok o) : Memory.wf s.plan.staging = true := h.1.2.1
theorem State.Ok.bytes {s o : State} (h : s.Ok o) : Memory.wf s.upd.bytes = true := h.1.2.2

variable {orig : State}

theorem parts_ok {s : State} (h : s.Ok orig) : OkParts orig s.part s.siStep s.frc s.pending s.freeCtr s.regs s.plan s.flash s.upd := h

theorem restart_ok {s : State} (h : s.Ok orig) :
    OkParts orig s.part s.siStep 0 s.pending s.freeCtr s.regs s.plan s.flash s.upd :=
  ⟨h.1, h.2.1, h.2.2.1, h.2.2.2.1, .inr rfl, h.2.2.2.2.2⟩

theorem upd_ok {s : State} (h : s.Ok orig) {u : Upd} (hu : Memory.wf u.bytes = true) :
    OkParts orig s.part s.siStep s.frc s.pending s.freeCtr s.regs s.plan s.flash u := ⟨⟨h.1.1, h.1.2.1, hu⟩, h.2⟩

theorem noUpd_ok {s : State} (h : s.Ok orig) {u : Upd} (hu : u.bytes = []) :
    OkParts orig s.part s.siStep s.frc s.pending s.freeCtr s.regs s.plan s.flash u := upd_ok h (by rw [hu]; rfl)

theorem plan_ok {s : State} (h : s.Ok orig) {p : Plan} (hp : Memory.wf p.staging = true) :
    OkParts orig s.part s.siStep s.frc s.pending s.freeCtr s.regs p s.flash s.upd := ⟨⟨h.1.1, hp, h.1.2.2⟩, h.2⟩

theorem flash_ok {s : State} (h : s.Ok orig) {f : Flash} (h1 : s.flash.svnFuses ≤ f.svnFuses)
    (h2 : s.flash.wipeFuses ≤ f.wipeFuses) (h3 : f.revoked = s.flash.revoked) :
    OkParts orig s.part s.siStep s.frc s.pending s.freeCtr s.regs s.plan f s.upd :=
  ⟨h.1, h.2.1, h.2.2.1, h.2.2.2.1, h.2.2.2.2.1, h.2.2.2.2.2.1, Nat.le_trans h.2.2.2.2.2.2.1 h1,
    Nat.le_trans h.2.2.2.2.2.2.2.1 h2, h3.trans h.2.2.2.2.2.2.2.2⟩

theorem free_ok {s : State} (h : s.Ok orig) : ({ s with freeCtr := s.freeCtr + 1 } : State).Ok orig :=
  ⟨h.1, h.2.1, h.2.2.1, h.2.2.2.1, h.2.2.2.2.1, Nat.le_trans h.2.2.2.2.2.1 (Nat.le_succ _), h.2.2.2.2.2.2⟩

theorem State.wr_ok {s : State} (h : s.Ok orig) (a : Nat) (v : Word) : (s.wr a v).Ok orig :=
  ⟨⟨State.wr_regs_wf h.regs a v, h.1.2⟩, h.2⟩

theorem State.resetRange_ok {s : State} (h : s.Ok orig) (lo hi : Nat) : (s.resetRange lo hi).Ok orig :=
  ⟨⟨State.resetRange_regs_wf h.regs lo hi, h.1.2⟩, h.2⟩

/-- A state put together is so where its parts are. -/
theorem mk_ok {part : Part} {siStep : Nat} {frc : DWord} 
    {regs : List (Nat × Word)} {pending : List Instr} {bus : List DWord} {freeCtr : Nat} {power : Power} {xings : List Xing} {pads : Pads} {plan : Plan} {swap : Swap} {hspi : Hspi} {eth : Eth} {mbxDirty : List Nat} {leases : List Lease} {strms : List Strm} 
    {arb : Arb} {sdl : Sdl} {gzb : Gzb} {vb : Vb} {ps : Ps} {test : Option LinkTest} {axes : List Axis} {bv : Bv} {slv : Slv} {bsa : Band} {bsb : Band} {fleet : Fleet} {pgl : Pgl} {org : Org} {flash : Flash} {upd : Upd} {svc : Svc} :
    (State.mk part siStep frc regs pending bus freeCtr power xings pads plan swap hspi eth mbxDirty leases strms arb sdl gzb vb ps test axes bv slv bsa bsb fleet pgl org flash upd svc).Ok orig ↔ OkParts orig part siStep frc pending freeCtr regs plan flash upd := Iff.rfl

theorem iteS_ok {c : Prop} [Decidable c] {s t : State} (hs : c → s.Ok orig) (ht : ¬ c → t.Ok orig) :
    (if c then s else t).Ok orig := by
  split
  · exact hs ‹_›
  · exact ht ‹_›

theorem elim_ok {α : Type} {o : Option α} {s : State} {g : α → State} (hs : s.Ok orig) (hg : ∀ a, (g a).Ok orig) :
    (o.elim s g).Ok orig := by
  cases o
  · exact hs
  · exact hg _

theorem foldl_ok {α : Type} {g : State → α → State} (hg : ∀ t a, t.Ok orig → (g t a).Ok orig) :
    ∀ (l : List α) {s : State}, s.Ok orig → (l.foldl g s).Ok orig
  | [], _, h => h
  | a :: l, _, h => foldl_ok hg l (hg _ a h)

theorem State.each_ok {α : Type} {s : State} (h : s.Ok orig) (xs : List α) {f : State → α → State}
    (hf : ∀ t a, t.Ok orig → (f t a).Ok orig) : (s.each xs f).Ok orig := foldl_ok hf xs h

/-- Where an outcome is a next state, it is so. -/
def NextOk (orig : State) (r : Host.Outcome State Fault Refusal) : Prop := ∀ t, r = .next t → t.Ok orig

theorem NextOk.next {s : State} (h : s.Ok orig) : NextOk orig (.next s) := by
  intro t ht
  cases ht
  exact h

theorem NextOk.fault (f : Fault) : NextOk orig (.fault f) := fun _ ht => nomatch ht

end Sys2Proof.Machine
end

