-- ==== Sys2Proof/Laws/Sound1.lean ====
section
/-! SUPPORT. Every shared operation keeps a sound state sound, and what no command takes back: Ops, Base, Streams, ArbCore, Axis, Queues, Recorder, Gate, Wicket, Chopper, StopCore, Keys, Gazebo, Book, Radio. -/
namespace Sys2Proof.Machine
variable {orig : State}

set_option linter.unusedTactic false
set_option linter.unreachableTactic false

theorem State.setF_ok (s : State) (f : Fld) (v : Nat) (hs : s.Ok orig) :
    (State.setF s f v).Ok orig := by
  unfold State.setF
  try dsimp only
  repeat' (first
    | with_reducible assumption
    | with_reducible apply State.wr_ok
    | with_reducible apply parts_ok
    | simp only [mk_ok]
    | with_reducible apply iteS_ok
    | intro _
    | split
    | with_reducible apply_assumption
    | dsimp only)

theorem State.setBit_ok (s : State) (f : Fld) (i : Nat) (hs : s.Ok orig) :
    (State.setBit s f i).Ok orig := by
  unfold State.setBit
  try dsimp only
  repeat' (first
    | with_reducible assumption
    | with_reducible apply State.setF_ok
    | with_reducible apply parts_ok
    | simp only [mk_ok]
    | with_reducible apply iteS_ok
    | intro _
    | split
    | with_reducible apply_assumption
    | dsimp only)

theorem State.clrBit_ok (s : State) (f : Fld) (i : Nat) (hs : s.Ok orig) :
    (State.clrBit s f i).Ok orig := by
  unfold State.clrBit
  try dsimp only
  repeat' (first
    | with_reducible assumption
    | with_reducible apply State.setF_ok
    | with_reducible apply parts_ok
    | simp only [mk_ok]
    | with_reducible apply iteS_ok
    | intro _
    | split
    | with_reducible apply_assumption
    | dsimp only)

theorem State.incF_ok (s : State) (f : Fld) (n : Nat) (hs : s.Ok orig) :
    (State.incF s f n).Ok orig := by
  unfold State.incF
  try dsimp only
  repeat' (first
    | with_reducible assumption
    | with_reducible apply State.setF_ok
    | with_reducible apply parts_ok
    | simp only [mk_ok]
    | with_reducible apply iteS_ok
    | intro _
    | split
    | with_reducible apply_assumption
    | dsimp only)

theorem State.maxF_ok (s : State) (f : Fld) (n : Nat) (hs : s.Ok orig) :
    (State.maxF s f n).Ok orig := by
  unfold State.maxF
  try dsimp only
  repeat' (first
    | with_reducible assumption
    | with_reducible apply State.setF_ok
    | with_reducible apply parts_ok
    | simp only [mk_ok]
    | with_reducible apply iteS_ok
    | intro _
    | split
    | with_reducible apply_assumption
    | dsimp only)

theorem State.setI_ok (s : State) (f : Fld) (v : Int) (hs : s.Ok orig) :
    (State.setI s f v).Ok orig := by
  unfold State.setI
  try dsimp only
  repeat' (first
    | with_reducible assumption
    | with_reducible apply State.setF_ok
    | with_reducible apply parts_ok
    | simp only [mk_ok]
    | with_reducible apply iteS_ok
    | intro _
    | split
    | with_reducible apply_assumption
    | dsimp only)

theorem State.random_ok (s : State) (bits : Nat) (hs : s.Ok orig) : (State.random s bits).2.Ok orig :=
  Sys2Proof.Machine.free_ok hs

theorem State.setDom_ok (s : State) (d : Nat) (st : Nat) (hs : s.Ok orig) :
    (State.setDom s d st).Ok orig := by
  unfold State.setDom
  try dsimp only
  repeat' (first
    | with_reducible assumption
    | with_reducible apply State.setF_ok
    | with_reducible apply parts_ok
    | simp only [mk_ok]
    | with_reducible apply iteS_ok
    | intro _
    | split
    | with_reducible apply_assumption
    | dsimp only)

theorem State.irq_ok (s : State) (b : Nat) (hs : s.Ok orig) :
    (State.irq s b).Ok orig := by
  unfold State.irq
  try dsimp only
  repeat' (first
    | with_reducible assumption
    | with_reducible apply State.setF_ok
    | with_reducible apply parts_ok
    | simp only [mk_ok]
    | with_reducible apply iteS_ok
    | intro _
    | split
    | with_reducible apply_assumption
    | dsimp only)

theorem State.irqGrp_ok (s : State) (sec : Bool) (b : Nat) (hs : s.Ok orig) :
    (State.irqGrp s sec b).Ok orig := by
  unfold State.irqGrp
  try dsimp only
  repeat' (first
    | with_reducible assumption
    | with_reducible apply State.setF_ok
    | with_reducible apply parts_ok
    | simp only [mk_ok]
    | with_reducible apply iteS_ok
    | intro _
    | split
    | with_reducible apply_assumption
    | dsimp only)

theorem State.secViol_ok (s : State) (hs : s.Ok orig) :
    (State.secViol s).Ok orig := by
  unfold State.secViol
  try dsimp only
  repeat' (first
    | with_reducible assumption
    | with_reducible apply State.setF_ok
    | with_reducible apply parts_ok
    | simp only [mk_ok]
    | with_reducible apply iteS_ok
    | intro _
    | split
    | with_reducible apply_assumption
    | dsimp only)

theorem State.setSwap_ok (s : State) (st : Nat) (hs : s.Ok orig) :
    (State.setSwap s st).Ok orig := by
  unfold State.setSwap
  try dsimp only
  repeat' (first
    | with_reducible assumption
    | with_reducible apply State.irq_ok
    | with_reducible apply State.setF_ok
    | with_reducible apply parts_ok
    | simp only [mk_ok]
    | with_reducible apply iteS_ok
    | intro _
    | split
    | with_reducible apply_assumption
    | dsimp only)

theorem State.setPlanState_ok (s : State) (st : Nat) (hs : s.Ok orig) :
    (State.setPlanState s st).Ok orig := by
  unfold State.setPlanState
  try dsimp only
  repeat' (first
    | with_reducible assumption
    | with_reducible apply State.irq_ok
    | with_reducible apply State.setF_ok
    | with_reducible apply parts_ok
    | simp only [mk_ok]
    | with_reducible apply iteS_ok
    | intro _
    | split
    | with_reducible apply_assumption
    | dsimp only)

theorem State.updItem_ok (s : State) (wid : Nat) (f : WItem → WItem) (hs : s.Ok orig) :
    (State.updItem s wid f).Ok orig := by
  unfold State.updItem
  try dsimp only
  repeat' (first
    | with_reducible assumption
    | with_reducible apply parts_ok
    | simp only [mk_ok]
    | with_reducible apply iteS_ok
    | intro _
    | split
    | with_reducible apply_assumption
    | dsimp only)

theorem State.finish_ok (s : State) (wid : Nat) (status : Nat) (result : Bytes) (hs : s.Ok orig) :
    (State.finish s wid status result).Ok orig := by
  unfold State.finish
  try dsimp only
  repeat' (first
    | with_reducible assumption
    | with_reducible apply State.status_ok
    | with_reducible apply State.updItem_ok
    | with_reducible apply parts_ok
    | simp only [mk_ok]
    | with_reducible apply iteS_ok
    | intro _
    | split
    | with_reducible apply_assumption
    | dsimp only)

theorem State.park_ok (s : State) (wid : Nat) (hs : s.Ok orig) :
    (State.park s wid).Ok orig := by
  unfold State.park
  try dsimp only
  repeat' (first
    | with_reducible assumption
    | with_reducible apply State.updItem_ok
    | with_reducible apply parts_ok
    | simp only [mk_ok]
    | with_reducible apply iteS_ok
    | intro _
    | split
    | with_reducible apply_assumption
    | dsimp only)

theorem State.updPower_ok (s : State) (f : Power → Power) (hs : s.Ok orig) :
    (State.updPower s f).Ok orig := by
  unfold State.updPower
  try dsimp only
  repeat' (first
    | with_reducible assumption
    | with_reducible apply parts_ok
    | simp only [mk_ok]
    | with_reducible apply iteS_ok
    | intro _
    | split
    | with_reducible apply_assumption
    | dsimp only)

theorem State.idleStart_ok (s : State) (d : Nat) (hs : s.Ok orig) :
    (State.idleStart s d).Ok orig := by
  unfold State.idleStart
  try dsimp only
  repeat' (first
    | with_reducible assumption
    | with_reducible apply State.updPower_ok
    | with_reducible apply parts_ok
    | simp only [mk_ok]
    | with_reducible apply iteS_ok
    | intro _
    | split
    | with_reducible apply_assumption
    | dsimp only)

theorem State.updXing_ok (s : State) (i : Nat) (f : Xing → Xing) (hs : s.Ok orig) :
    (State.updXing s i f).Ok orig := by
  unfold State.updXing
  try dsimp only
  repeat' (first
    | with_reducible assumption
    | with_reducible apply parts_ok
    | simp only [mk_ok]
    | with_reducible apply iteS_ok
    | intro _
    | split
    | with_reducible apply_assumption
    | dsimp only)

theorem State.xingPulse_ok (s : State) (i : Nat) (hs : s.Ok orig) :
    (State.xingPulse s i).Ok orig := by
  unfold State.xingPulse
  try dsimp only
  repeat' (first
    | with_reducible assumption
    | with_reducible apply State.updXing_ok
    | with_reducible apply parts_ok
    | simp only [mk_ok]
    | with_reducible apply iteS_ok
    | intro _
    | split
    | with_reducible apply_assumption
    | dsimp only)

theorem State.xingLoses_ok (s : State) (i : Nat) (some' : Bool) (hs : s.Ok orig) :
    (State.xingLoses s i some').Ok orig := by
  unfold State.xingLoses
  try dsimp only
  repeat' (first
    | with_reducible assumption
    | with_reducible apply State.updXing_ok
    | with_reducible apply parts_ok
    | simp only [mk_ok]
    | with_reducible apply iteS_ok
    | intro _
    | split
    | with_reducible apply_assumption
    | dsimp only)

theorem State.wakeBy_ok (s : State) (b : Nat) (hs : s.Ok orig) :
    (State.wakeBy s b).Ok orig := by
  unfold State.wakeBy
  try dsimp only
  repeat' (first
    | with_reducible assumption
    | with_reducible apply State.updPower_ok
    | with_reducible apply parts_ok
    | simp only [mk_ok]
    | with_reducible apply iteS_ok
    | intro _
    | split
    | with_reducible apply_assumption
    | dsimp only)

theorem State.setStrm_ok (s : State) (w : Nat) (q : Strm) (hs : s.Ok orig) :
    (State.setStrm s w q).Ok orig := by
  unfold State.setStrm
  try dsimp only
  repeat' (first
    | with_reducible assumption
    | with_reducible apply State.setF_ok
    | with_reducible apply parts_ok
    | simp only [mk_ok]
    | with_reducible apply iteS_ok
    | intro _
    | split
    | with_reducible apply_assumption
    | dsimp only)

theorem State.pushPkt_ok (s : State) (w : Nat) (bs : Bytes) (hs : s.Ok orig) :
    (State.pushPkt s w bs).Ok orig := by
  unfold State.pushPkt
  try dsimp only
  repeat' (first
    | with_reducible assumption
    | with_reducible apply State.setStrm_ok
    | with_reducible apply parts_ok
    | simp only [mk_ok]
    | with_reducible apply iteS_ok
    | intro _
    | split
    | with_reducible apply_assumption
    | dsimp only)

theorem State.observe_ok (s : State) (w : Nat) (bs : Bytes) (hs : s.Ok orig) :
    (State.observe s w bs).Ok orig := by
  unfold State.observe
  try dsimp only
  repeat' (first
    | with_reducible assumption
    | with_reducible apply State.incF_ok
    | with_reducible apply State.pushPkt_ok
    | with_reducible apply parts_ok
    | simp only [mk_ok]
    | with_reducible apply iteS_ok
    | intro _
    | split
    | with_reducible apply_assumption
    | dsimp only)

theorem State.streamPop_ok (s : State) (w : Nat) (hs : s.Ok orig) :
    (State.streamPop s w).2.Ok orig := by
  unfold State.streamPop
  try dsimp only
  repeat' (first
    | with_reducible assumption
    | with_reducible apply State.setStrm_ok
    | with_reducible apply parts_ok
    | simp only [mk_ok]
    | with_reducible apply iteS_ok
    | intro _
    | split
    | with_reducible apply_assumption
    | dsimp only)

theorem State.streamPush_ok (s : State) (w : Nat) (v : DWord) (hs : s.Ok orig) :
    (State.streamPush s w v).Ok orig := by
  unfold State.streamPush
  try dsimp only
  repeat' (first
    | with_reducible assumption
    | with_reducible apply State.setF_ok
    | with_reducible apply State.setStrm_ok
    | with_reducible apply parts_ok
    | simp only [mk_ok]
    | with_reducible apply iteS_ok
    | intro _
    | split
    | with_reducible apply_assumption
    | dsimp only)

theorem State.flush_ok (s : State) (w : Nat) (hs : s.Ok orig) :
    (State.flush s w).Ok orig := by
  unfold State.flush
  try dsimp only
  repeat' (first
    | with_reducible assumption
    | with_reducible apply State.setStrm_ok
    | with_reducible apply parts_ok
    | simp only [mk_ok]
    | with_reducible apply iteS_ok
    | intro _
    | split
    | with_reducible apply_assumption
    | dsimp only)

theorem State.emptyStreams_ok (s : State) (hs : s.Ok orig) :
    (State.emptyStreams s).Ok orig := by
  unfold State.emptyStreams
  try dsimp only
  repeat' (first
    | with_reducible assumption
    | with_reducible apply State.setF_ok
    | with_reducible apply foldl_ok
    | with_reducible apply parts_ok
    | simp only [mk_ok]
    | with_reducible apply iteS_ok
    | intro _
    | split
    | with_reducible apply_assumption
    | dsimp only)

theorem State.gzbEvent_ok (s : State) (kind : Nat) (info : Nat) (value : Nat) (member : Nat) (hs : s.Ok orig) :
    (State.gzbEvent s kind info value member).Ok orig := by
  unfold State.gzbEvent
  try dsimp only
  repeat' (first
    | with_reducible assumption
    | with_reducible apply State.observe_ok
    | with_reducible apply parts_ok
    | simp only [mk_ok]
    | with_reducible apply iteS_ok
    | intro _
    | split
    | with_reducible apply_assumption
    | dsimp only)

theorem State.nsEvent_ok (s : State) (unit : Nat) (kind : Nat) (member : Nat) (info : Nat) (value : Nat) (hs : s.Ok orig) :
    (State.nsEvent s unit kind member info value).Ok orig := by
  unfold State.nsEvent
  try dsimp only
  repeat' (first
    | with_reducible assumption
    | with_reducible apply State.observe_ok
    | with_reducible apply parts_ok
    | simp only [mk_ok]
    | with_reducible apply iteS_ok
    | intro _
    | split
    | with_reducible apply_assumption
    | dsimp only)

theorem State.sdlEvent_ok (s : State) (kind : Nat) (index : Nat) (tb : Nat) (late : Nat) (t : Nat) (frc : Nat) (secure : Bool) (hs : s.Ok orig) :
    (State.sdlEvent s kind index tb late t frc secure).Ok orig := by
  unfold State.sdlEvent
  try dsimp only
  repeat' (first
    | with_reducible assumption
    | with_reducible apply State.observe_ok
    | with_reducible apply parts_ok
    | simp only [mk_ok]
    | with_reducible apply iteS_ok
    | intro _
    | split
    | with_reducible apply_assumption
    | dsimp only)

theorem State.sdlOwed_ok (s : State) (hs : s.Ok orig) :
    (State.sdlOwed s).Ok orig := by
  unfold State.sdlOwed
  try dsimp only
  repeat' (first
    | with_reducible assumption
    | with_reducible apply State.observe_ok
    | with_reducible apply foldl_ok
    | with_reducible apply parts_ok
    | simp only [mk_ok]
    | with_reducible apply iteS_ok
    | intro _
    | split
    | with_reducible apply_assumption
    | dsimp only)

theorem State.hold_ok (s : State) (d : Nat) (w : HeldWhat) (hs : s.Ok orig) :
    (State.hold s d w).Ok orig := by
  unfold State.hold
  try dsimp only
  repeat' (first
    | with_reducible assumption
    | with_reducible apply parts_ok
    | simp only [mk_ok]
    | with_reducible apply iteS_ok
    | intro _
    | split
    | with_reducible apply_assumption
    | dsimp only)

theorem State.startPwrUp_ok (s : State) (d : Nat) (hs : s.Ok orig) :
    (State.startPwrUp s d).Ok orig := by
  unfold State.startPwrUp
  try dsimp only
  repeat' (first
    | with_reducible assumption
    | with_reducible apply State.setDom_ok
    | with_reducible apply State.shutdown_ok
    | with_reducible apply parts_ok
    | simp only [mk_ok]
    | with_reducible apply iteS_ok
    | intro _
    | split
    | with_reducible apply_assumption
    | dsimp only)

theorem State.domEvent_ok (s : State) (d : Nat) (w : HeldWhat) (hs : s.Ok orig) :
    (State.domEvent s d w).Ok orig := by
  unfold State.domEvent
  try dsimp only
  repeat' (first
    | with_reducible assumption
    | with_reducible apply State.hold_ok
    | with_reducible apply State.setDom_ok
    | with_reducible apply State.shutdown_ok
    | with_reducible apply State.startPwrUp_ok
    | with_reducible apply parts_ok
    | simp only [mk_ok]
    | with_reducible apply iteS_ok
    | intro _
    | split
    | with_reducible apply_assumption
    | dsimp only)

theorem State.needD13_ok (s : State) (hs : s.Ok orig) :
    (State.needD13 s).Ok orig := by
  unfold State.needD13
  try dsimp only
  repeat' (first
    | with_reducible assumption
    | with_reducible apply State.domEvent_ok
    | with_reducible apply parts_ok
    | simp only [mk_ok]
    | with_reducible apply iteS_ok
    | intro _
    | split
    | with_reducible apply_assumption
    | dsimp only)

theorem State.updTask_ok (s : State) (t : Nat) (f : TaskSt → TaskSt) (hs : s.Ok orig) :
    (State.updTask s t f).Ok orig := by
  unfold State.updTask
  try dsimp only
  repeat' (first
    | with_reducible assumption
    | with_reducible apply parts_ok
    | simp only [mk_ok]
    | with_reducible apply iteS_ok
    | intro _
    | split
    | with_reducible apply_assumption
    | dsimp only)

theorem State.raiseFlag_ok (s : State) (t : Nat) (flag : Nat) (hs : s.Ok orig) :
    (State.raiseFlag s t flag).Ok orig := by
  unfold State.raiseFlag
  try dsimp only
  repeat' (first
    | with_reducible assumption
    | with_reducible apply State.domEvent_ok
    | with_reducible apply State.updTask_ok
    | with_reducible apply parts_ok
    | simp only [mk_ok]
    | with_reducible apply iteS_ok
    | intro _
    | split
    | with_reducible apply_assumption
    | dsimp only)

theorem State.clearFlag_ok (s : State) (t : Nat) (flag : Nat) (hs : s.Ok orig) :
    (State.clearFlag s t flag).Ok orig := by
  unfold State.clearFlag
  try dsimp only
  repeat' (first
    | with_reducible assumption
    | with_reducible apply State.updTask_ok
    | with_reducible apply parts_ok
    | simp only [mk_ok]
    | with_reducible apply iteS_ok
    | intro _
    | split
    | with_reducible apply_assumption
    | dsimp only)

theorem State.evtSet_ok (s : State) (secure : Bool) (t : Nat) (flag : Nat) (hs : s.Ok orig) :
    (State.evtSet s secure t flag).Ok orig := by
  unfold State.evtSet
  try dsimp only
  repeat' (first
    | with_reducible assumption
    | with_reducible apply State.raiseFlag_ok
    | with_reducible apply State.setF_ok
    | with_reducible apply parts_ok
    | simp only [mk_ok]
    | with_reducible apply iteS_ok
    | intro _
    | split
    | with_reducible apply_assumption
    | dsimp only)

theorem State.addItem_ok (s : State) (g : Grp) (typ : Nat) (task : Nat) (quiet : Bool) (tag : Nat) (args : List Nat) (payload : Bytes) (hs : s.Ok orig) :
    (State.addItem s g typ task quiet tag args payload).Ok orig := by
  unfold State.addItem
  try dsimp only
  repeat' (first
    | with_reducible assumption
    | with_reducible apply parts_ok
    | simp only [mk_ok]
    | with_reducible apply iteS_ok
    | intro _
    | split
    | with_reducible apply_assumption
    | dsimp only)

theorem State.raiseTask_ok (s : State) (t : Nat) (hs : s.Ok orig) :
    (State.raiseTask s t).Ok orig := by
  unfold State.raiseTask
  try dsimp only
  repeat' (first
    | with_reducible assumption
    | with_reducible apply State.addItem_ok
    | with_reducible apply parts_ok
    | simp only [mk_ok]
    | with_reducible apply iteS_ok
    | intro _
    | split
    | with_reducible apply_assumption
    | dsimp only)

theorem State.raiseOwed_ok (s : State) (hs : s.Ok orig) :
    (State.raiseOwed s).Ok orig := by
  unfold State.raiseOwed
  try dsimp only
  repeat' (first
    | with_reducible assumption
    | with_reducible apply State.raiseTask_ok
    | with_reducible apply foldl_ok
    | with_reducible apply parts_ok
    | simp only [mk_ok]
    | with_reducible apply iteS_ok
    | intro _
    | split
    | with_reducible apply_assumption
    | dsimp only)

theorem State.updAx_ok (s : State) (n : Nat) (f : Axis → Axis) (hs : s.Ok orig) :
    (State.updAx s n f).Ok orig := by
  unfold State.updAx
  try dsimp only
  repeat' (first
    | with_reducible assumption
    | with_reducible apply parts_ok
    | simp only [mk_ok]
    | with_reducible apply iteS_ok
    | intro _
    | split
    | with_reducible apply_assumption
    | dsimp only)

theorem State.pushPop_ok (s : State) (q : FleetQ) (pop : Bool) (push : State → State) (take : State → State) (hs : s.Ok orig) (hpush : ∀ (a0 : State), a0.Ok orig → (push a0).Ok orig) (htake : ∀ (a0 : State), a0.Ok orig → (take a0).Ok orig) :
    (State.pushPop s q pop push take).Ok orig := by
  unfold State.pushPop
  try dsimp only
  repeat' (first
    | with_reducible assumption
    | with_reducible apply parts_ok
    | simp only [mk_ok]
    | with_reducible apply iteS_ok
    | intro _
    | split
    | with_reducible apply_assumption
    | dsimp only)

theorem State.wrList_ok : ∀ (ws : List Word) (s : State) (a : Nat), s.Ok orig → (State.wrList s a ws).Ok orig
  | [], _, _, h => h
  | w :: ws, s, a, h => State.wrList_ok ws (s.wr a w) (a + 4) (State.wr_ok h a w)

theorem State.latchBlock_ok (s : State) (blk k st : Nat) (hs : s.Ok orig) : (State.latchBlock s blk k st).Ok orig :=
  State.wrList_ok _ s _ hs

theorem State.latchAll_ok (s : State) (k : Nat) (hs : s.Ok orig) :
    (State.latchAll s k).Ok orig := by
  unfold State.latchAll
  try dsimp only
  repeat' (first
    | with_reducible assumption
    | with_reducible apply State.latchBlock_ok
    | with_reducible apply foldl_ok
    | with_reducible apply parts_ok
    | simp only [mk_ok]
    | with_reducible apply iteS_ok
    | intro _
    | split
    | with_reducible apply_assumption
    | dsimp only)

theorem State.lateLatch_ok (s : State) (d : Nat) (hs : s.Ok orig) :
    (State.lateLatch s d).Ok orig := by
  unfold State.lateLatch
  try dsimp only
  repeat' (first
    | with_reducible assumption
    | with_reducible apply State.latchBlock_ok
    | with_reducible apply foldl_ok
    | with_reducible apply parts_ok
    | simp only [mk_ok]
    | with_reducible apply iteS_ok
    | intro _
    | split
    | with_reducible apply_assumption
    | dsimp only)

theorem State.snap_ok (s : State) (src : Nat) (hs : s.Ok orig) :
    (State.snap s src).2.Ok orig := by
  unfold State.snap
  try dsimp only
  repeat' (first
    | with_reducible assumption
    | with_reducible apply State.incF_ok
    | with_reducible apply State.latchAll_ok
    | with_reducible apply State.setF_ok
    | with_reducible apply parts_ok
    | simp only [mk_ok]
    | with_reducible apply iteS_ok
    | intro _
    | split
    | with_reducible apply_assumption
    | dsimp only)

theorem State.setBucket_ok (s : State) (b : Bucket) (hs : s.Ok orig) :
    (State.setBucket s b).Ok orig := by
  unfold State.setBucket
  try dsimp only
  repeat' (first
    | with_reducible assumption
    | with_reducible apply parts_ok
    | simp only [mk_ok]
    | with_reducible apply iteS_ok
    | intro _
    | split
    | with_reducible apply_assumption
    | dsimp only)

theorem State.spendToken_ok (s : State) (c : Nat) (hs : s.Ok orig) :
    (State.spendToken s c).Ok orig := by
  unfold State.spendToken
  try dsimp only
  repeat' (first
    | with_reducible assumption
    | with_reducible apply State.setBucket_ok
    | with_reducible apply parts_ok
    | simp only [mk_ok]
    | with_reducible apply iteS_ok
    | intro _
    | split
    | with_reducible apply_assumption
    | dsimp only)

theorem State.suppress_ok (s : State) (c : Nat) (hs : s.Ok orig) :
    (State.suppress s c).Ok orig := by
  unfold State.suppress
  try dsimp only
  repeat' (first
    | with_reducible assumption
    | with_reducible apply State.incF_ok
    | with_reducible apply State.setBucket_ok
    | with_reducible apply State.setF_ok
    | with_reducible apply parts_ok
    | simp only [mk_ok]
    | with_reducible apply iteS_ok
    | intro _
    | split
    | with_reducible apply_assumption
    | dsimp only)

theorem State.snapJoin_ok (s : State) (k : Nat) (hs : s.Ok orig) :
    (State.snapJoin s k).Ok orig := by
  unfold State.snapJoin
  try dsimp only
  repeat' (first
    | with_reducible assumption
    | with_reducible apply State.setF_ok
    | with_reducible apply foldl_ok
    | with_reducible apply parts_ok
    | simp only [mk_ok]
    | with_reducible apply iteS_ok
    | intro _
    | split
    | with_reducible apply_assumption
    | dsimp only)

theorem State.codeSnap_ok (s : State) (own : Option (Option Nat)) (hs : s.Ok orig) :
    (State.codeSnap s own).2.Ok orig := by
  unfold State.codeSnap
  try dsimp only
  repeat' (first
    | with_reducible assumption
    | with_reducible apply State.snap_ok
    | with_reducible apply State.snapJoin_ok
    | with_reducible apply parts_ok
    | simp only [mk_ok]
    | with_reducible apply iteS_ok
    | intro _
    | split
    | with_reducible apply_assumption
    | dsimp only)

theorem State.vbTrigger_ok (s : State) (code : Nat) (data : Bytes) (own : Option (Option Nat)) (wid : Option Nat) (hs : s.Ok orig) :
    (State.vbTrigger s code data own wid).Ok orig := by
  unfold State.vbTrigger
  try dsimp only
  repeat' (first
    | with_reducible assumption
    | with_reducible apply State.codeSnap_ok
    | with_reducible apply State.raiseTask_ok
    | with_reducible apply State.snap_ok
    | with_reducible apply State.spendToken_ok
    | with_reducible apply State.suppress_ok
    | with_reducible apply parts_ok
    | simp only [mk_ok]
    | with_reducible apply iteS_ok
    | intro _
    | split
    | with_reducible apply_assumption
    | dsimp only)

theorem State.snapCode_ok (s : State) (src : Nat) (code : Nat) (data : Bytes) (hs : s.Ok orig) :
    (State.snapCode s src code data).Ok orig := by
  unfold State.snapCode
  try dsimp only
  repeat' (first
    | with_reducible assumption
    | with_reducible apply State.snap_ok
    | with_reducible apply State.vbTrigger_ok
    | with_reducible apply parts_ok
    | simp only [mk_ok]
    | with_reducible apply iteS_ok
    | intro _
    | split
    | with_reducible apply_assumption
    | dsimp only)

theorem State.guardW_ok (s : State) (m : Master) (a : Nat) (v : Nat) (k : State → State) (hs : s.Ok orig) (hk : ∀ (a0 : State), a0.Ok orig → (k a0).Ok orig) :
    (State.guardW s m a v k).Ok orig := by
  unfold State.guardW
  try dsimp only
  repeat' (first
    | with_reducible assumption
    | with_reducible apply State.domEvent_ok
    | with_reducible apply State.secViol_ok
    | with_reducible apply parts_ok
    | simp only [mk_ok]
    | with_reducible apply iteS_ok
    | intro _
    | split
    | with_reducible apply_assumption
    | dsimp only)

theorem State.wktLoad_ok (s : State) (n : Nat) (hs : s.Ok orig) :
    (State.wktLoad s n).Ok orig := by
  unfold State.wktLoad
  try dsimp only
  repeat' (first
    | with_reducible assumption
    | with_reducible apply State.setF_ok
    | with_reducible apply parts_ok
    | simp only [mk_ok]
    | with_reducible apply iteS_ok
    | intro _
    | split
    | with_reducible apply_assumption
    | dsimp only)

theorem State.wktEvent_ok (s : State) (kind : Nat) (n : Nat) (info : Nat) (value : Int) (hs : s.Ok orig) :
    (State.wktEvent s kind n info value).Ok orig := by
  unfold State.wktEvent
  try dsimp only
  repeat' (first
    | with_reducible assumption
    | with_reducible apply State.nsEvent_ok
    | with_reducible apply parts_ok
    | simp only [mk_ok]
    | with_reducible apply iteS_ok
    | intro _
    | split
    | with_reducible apply_assumption
    | dsimp only)

theorem State.setMask_ok (s : State) (f : Fld) (n : Nat) (b : Bool) (hs : s.Ok orig) :
    (State.setMask s f n b).Ok orig := by
  unfold State.setMask
  try dsimp only
  repeat' (first
    | with_reducible assumption
    | with_reducible apply State.clrBit_ok
    | with_reducible apply State.setBit_ok
    | with_reducible apply parts_ok
    | simp only [mk_ok]
    | with_reducible apply iteS_ok
    | intro _
    | split
    | with_reducible apply_assumption
    | dsimp only)

theorem State.setAx_ok (s : State) (n : Nat) (st : Nat) (hs : s.Ok orig) :
    (State.setAx s n st).Ok orig := by
  unfold State.setAx
  try dsimp only
  repeat' (first
    | with_reducible assumption
    | with_reducible apply State.setF_ok
    | with_reducible apply State.setMask_ok
    | with_reducible apply State.wktEvent_ok
    | with_reducible apply parts_ok
    | simp only [mk_ok]
    | with_reducible apply iteS_ok
    | intro _
    | split
    | with_reducible apply_assumption
    | dsimp only)

theorem State.applyDeferred_ok (s : State) (n : Nat) (hs : s.Ok orig) :
    (State.applyDeferred s n).Ok orig := by
  unfold State.applyDeferred
  try dsimp only
  repeat' (first
    | with_reducible assumption
    | with_reducible apply State.setF_ok
    | with_reducible apply State.updAx_ok
    | with_reducible apply parts_ok
    | simp only [mk_ok]
    | with_reducible apply iteS_ok
    | intro _
    | split
    | with_reducible apply_assumption
    | dsimp only)

theorem State.enterHold_ok (s : State) (n : Nat) (p : Int) (hs : s.Ok orig) :
    (State.enterHold s n p).Ok orig := by
  unfold State.enterHold
  try dsimp only
  repeat' (first
    | with_reducible assumption
    | with_reducible apply State.applyDeferred_ok
    | with_reducible apply State.setAx_ok
    | with_reducible apply State.setF_ok
    | with_reducible apply State.setI_ok
    | with_reducible apply State.updAx_ok
    | with_reducible apply parts_ok
    | simp only [mk_ok]
    | with_reducible apply iteS_ok
    | intro _
    | split
    | with_reducible apply_assumption
    | dsimp only)

theorem State.axFinish_ok (s : State) (n : Nat) (wid : Nat) (st : Nat) (hs : s.Ok orig) :
    (State.axFinish s n wid st).Ok orig := by
  unfold State.axFinish
  try dsimp only
  repeat' (first
    | with_reducible assumption
    | with_reducible apply State.finish_ok
    | with_reducible apply parts_ok
    | simp only [mk_ok]
    | with_reducible apply iteS_ok
    | intro _
    | split
    | with_reducible apply_assumption
    | dsimp only)

theorem State.axEnd_ok (s : State) (n : Nat) (wid : Nat) (st : Nat) (p : Int) (hs : s.Ok orig) :
    (State.axEnd s n wid st p).Ok orig := by
  unfold State.axEnd
  try dsimp only
  repeat' (first
    | with_reducible assumption
    | with_reducible apply State.axFinish_ok
    | with_reducible apply State.wktEvent_ok
    | with_reducible apply parts_ok
    | simp only [mk_ok]
    | with_reducible apply iteS_ok
    | intro _
    | split
    | with_reducible apply_assumption
    | dsimp only)

theorem State.dropPend_ok (s : State) (n : Nat) (st : Nat) (hs : s.Ok orig) :
    (State.dropPend s n st).Ok orig := by
  unfold State.dropPend
  try dsimp only
  repeat' (first
    | with_reducible assumption
    | with_reducible apply State.axFinish_ok
    | with_reducible apply State.updAx_ok
    | with_reducible apply parts_ok
    | simp only [mk_ok]
    | with_reducible apply iteS_ok
    | intro _
    | split
    | with_reducible apply_assumption
    | dsimp only)

theorem State.startTable_ok (s : State) (n : Nat) (m : WktMove) (ks : List Knot) (hs : s.Ok orig) :
    (State.startTable s n m ks).Ok orig := by
  unfold State.startTable
  try dsimp only
  repeat' (first
    | with_reducible assumption
    | with_reducible apply State.applyDeferred_ok
    | with_reducible apply State.axFinish_ok
    | with_reducible apply State.enterHold_ok
    | with_reducible apply State.setAx_ok
    | with_reducible apply State.setF_ok
    | with_reducible apply State.updAx_ok
    | with_reducible apply State.wktEvent_ok
    | with_reducible apply parts_ok
    | simp only [mk_ok]
    | with_reducible apply iteS_ok
    | intro _
    | split
    | with_reducible apply_assumption
    | dsimp only)

theorem State.tryStart_ok (s : State) (n : Nat) (hs : s.Ok orig) :
    (State.tryStart s n).Ok orig := by
  unfold State.tryStart
  try dsimp only
  repeat' (first
    | with_reducible assumption
    | with_reducible apply State.applyDeferred_ok
    | with_reducible apply State.startTable_ok
    | with_reducible apply parts_ok
    | simp only [mk_ok]
    | with_reducible apply iteS_ok
    | intro _
    | split
    | with_reducible apply_assumption
    | dsimp only)

theorem State.sharedStart_ok (s : State) (n : Nat) (hs : s.Ok orig) :
    (State.sharedStart s n).Ok orig := by
  unfold State.sharedStart
  try dsimp only
  repeat' (first
    | with_reducible assumption
    | with_reducible apply State.setF_ok
    | with_reducible apply State.tryStart_ok
    | with_reducible apply State.updAx_ok
    | with_reducible apply parts_ok
    | simp only [mk_ok]
    | with_reducible apply iteS_ok
    | intro _
    | split
    | with_reducible apply_assumption
    | dsimp only)

theorem State.wktStart_ok (s : State) (mask : Nat) (hs : s.Ok orig) :
    (State.wktStart s mask).Ok orig := by
  unfold State.wktStart
  try dsimp only
  repeat' (first
    | with_reducible assumption
    | with_reducible apply State.each_ok
    | with_reducible apply State.sharedStart_ok
    | with_reducible apply parts_ok
    | simp only [mk_ok]
    | with_reducible apply iteS_ok
    | intro _
    | split
    | with_reducible apply_assumption
    | dsimp only)

theorem State.axStop_ok (s : State) (n : Nat) (hs : s.Ok orig) :
    (State.axStop s n).Ok orig := by
  unfold State.axStop
  try dsimp only
  repeat' (first
    | with_reducible assumption
    | with_reducible apply State.dropPend_ok
    | with_reducible apply State.setAx_ok
    | with_reducible apply State.setI_ok
    | with_reducible apply State.updAx_ok
    | with_reducible apply parts_ok
    | simp only [mk_ok]
    | with_reducible apply iteS_ok
    | intro _
    | split
    | with_reducible apply_assumption
    | dsimp only)

theorem State.wktStop_ok (s : State) (hs : s.Ok orig) :
    (State.wktStop s).Ok orig := by
  unfold State.wktStop
  try dsimp only
  repeat' (first
    | with_reducible assumption
    | with_reducible apply State.axStop_ok
    | with_reducible apply State.each_ok
    | with_reducible apply parts_ok
    | simp only [mk_ok]
    | with_reducible apply iteS_ok
    | intro _
    | split
    | with_reducible apply_assumption
    | dsimp only)

theorem State.axFault_ok (s : State) (n : Nat) (bits : Nat) (vm : Int) (hs : s.Ok orig) :
    (State.axFault s n bits vm).Ok orig := by
  unfold State.axFault
  try dsimp only
  repeat' (first
    | with_reducible assumption
    | with_reducible apply State.applyDeferred_ok
    | with_reducible apply State.axEnd_ok
    | with_reducible apply State.dropPend_ok
    | with_reducible apply State.setAx_ok
    | with_reducible apply State.setBit_ok
    | with_reducible apply State.setF_ok
    | with_reducible apply State.setI_ok
    | with_reducible apply State.updAx_ok
    | with_reducible apply State.vbTrigger_ok
    | with_reducible apply State.wktEvent_ok
    | with_reducible apply foldl_ok
    | with_reducible apply parts_ok
    | simp only [mk_ok]
    | with_reducible apply iteS_ok
    | intro _
    | split
    | with_reducible apply_assumption
    | dsimp only)

theorem State.limIgnored_ok (s : State) (n : Nat) (hs : s.Ok orig) :
    (State.limIgnored s n).Ok orig := by
  unfold State.limIgnored
  try dsimp only
  repeat' (first
    | with_reducible assumption
    | with_reducible apply State.setF_ok
    | with_reducible apply parts_ok
    | simp only [mk_ok]
    | with_reducible apply iteS_ok
    | intro _
    | split
    | with_reducible apply_assumption
    | dsimp only)

theorem State.deferred_ok (s : State) (n : Nat) (info : Nat) (v : Nat) (hs : s.Ok orig) :
    (State.deferred s n info v).Ok orig := by
  unfold State.deferred
  try dsimp only
  repeat' (first
    | with_reducible assumption
    | with_reducible apply State.setBit_ok
    | with_reducible apply State.wktEvent_ok
    | with_reducible apply parts_ok
    | simp only [mk_ok]
    | with_reducible apply iteS_ok
    | intro _
    | split
    | with_reducible apply_assumption
    | dsimp only)

theorem State.writeDec_ok (s : State) (n : Nat) (v : Nat) (hs : s.Ok orig) :
    (State.writeDec s n v).Ok orig := by
  unfold State.writeDec
  try dsimp only
  repeat' (first
    | with_reducible assumption
    | with_reducible apply State.deferred_ok
    | with_reducible apply State.setF_ok
    | with_reducible apply State.updAx_ok
    | with_reducible apply parts_ok
    | simp only [mk_ok]
    | with_reducible apply iteS_ok
    | intro _
    | split
    | with_reducible apply_assumption
    | dsimp only)

theorem State.writeEdec_ok (s : State) (n : Nat) (v : Nat) (hs : s.Ok orig) :
    (State.writeEdec s n v).Ok orig := by
  unfold State.writeEdec
  try dsimp only
  repeat' (first
    | with_reducible assumption
    | with_reducible apply State.deferred_ok
    | with_reducible apply State.setF_ok
    | with_reducible apply State.updAx_ok
    | with_reducible apply parts_ok
    | simp only [mk_ok]
    | with_reducible apply iteS_ok
    | intro _
    | split
    | with_reducible apply_assumption
    | dsimp only)

theorem State.limitWrite_ok (s : State) (n : Nat) (off : Nat) (v : Nat) (hs : s.Ok orig) :
    (State.limitWrite s n off v).Ok orig := by
  unfold State.limitWrite
  try dsimp only
  repeat' (first
    | with_reducible assumption
    | with_reducible apply State.limIgnored_ok
    | with_reducible apply State.setF_ok
    | with_reducible apply State.updAx_ok
    | with_reducible apply State.writeDec_ok
    | with_reducible apply State.writeEdec_ok
    | with_reducible apply parts_ok
    | simp only [mk_ok]
    | with_reducible apply iteS_ok
    | intro _
    | split
    | with_reducible apply_assumption
    | dsimp only)

theorem State.axEnable_ok (s : State) (n : Nat) (hs : s.Ok orig) :
    (State.axEnable s n).Ok orig := by
  unfold State.axEnable
  try dsimp only
  repeat' (first
    | with_reducible assumption
    | with_reducible apply State.setAx_ok
    | with_reducible apply State.updAx_ok
    | with_reducible apply parts_ok
    | simp only [mk_ok]
    | with_reducible apply iteS_ok
    | intro _
    | split
    | with_reducible apply_assumption
    | dsimp only)

theorem State.axDisable_ok (s : State) (n : Nat) (hs : s.Ok orig) :
    (State.axDisable s n).Ok orig := by
  unfold State.axDisable
  try dsimp only
  repeat' (first
    | with_reducible assumption
    | with_reducible apply State.dropPend_ok
    | with_reducible apply State.limIgnored_ok
    | with_reducible apply State.setAx_ok
    | with_reducible apply State.setF_ok
    | with_reducible apply State.updAx_ok
    | with_reducible apply parts_ok
    | simp only [mk_ok]
    | with_reducible apply iteS_ok
    | intro _
    | split
    | with_reducible apply_assumption
    | dsimp only)

theorem State.axZero_ok (s : State) (n : Nat) (hs : s.Ok orig) :
    (State.axZero s n).Ok orig := by
  unfold State.axZero
  try dsimp only
  repeat' (first
    | with_reducible assumption
    | with_reducible apply State.enterHold_ok
    | with_reducible apply State.setF_ok
    | with_reducible apply State.setI_ok
    | with_reducible apply parts_ok
    | simp only [mk_ok]
    | with_reducible apply iteS_ok
    | intro _
    | split
    | with_reducible apply_assumption
    | dsimp only)

theorem State.axCtrl_ok (s : State) (n : Nat) (v : Nat) (hs : s.Ok orig) :
    (State.axCtrl s n v).Ok orig := by
  unfold State.axCtrl
  try dsimp only
  repeat' (first
    | with_reducible assumption
    | with_reducible apply State.axDisable_ok
    | with_reducible apply State.axEnable_ok
    | with_reducible apply State.axZero_ok
    | with_reducible apply parts_ok
    | simp only [mk_ok]
    | with_reducible apply iteS_ok
    | intro _
    | split
    | with_reducible apply_assumption
    | dsimp only)

theorem State.axFaultClear_ok (s : State) (n : Nat) (mask : Nat) (absent : Nat) (hs : s.Ok orig) :
    (State.axFaultClear s n mask absent).Ok orig := by
  unfold State.axFaultClear
  try dsimp only
  repeat' (first
    | with_reducible assumption
    | with_reducible apply State.setAx_ok
    | with_reducible apply State.setF_ok
    | with_reducible apply parts_ok
    | simp only [mk_ok]
    | with_reducible apply iteS_ok
    | intro _
    | split
    | with_reducible apply_assumption
    | dsimp only)

theorem State.wktMove_ok (s : State) (i : WItem) (hs : s.Ok orig) :
    (State.wktMove s i).Ok orig := by
  unfold State.wktMove
  try dsimp only
  repeat' (first
    | with_reducible assumption
    | with_reducible apply State.axFinish_ok
    | with_reducible apply State.park_ok
    | with_reducible apply State.tryStart_ok
    | with_reducible apply State.updAx_ok
    | with_reducible apply parts_ok
    | simp only [mk_ok]
    | with_reducible apply iteS_ok
    | intro _
    | split
    | with_reducible apply_assumption
    | dsimp only)

theorem State.wktHome_ok (s : State) (i : WItem) (hs : s.Ok orig) :
    (State.wktHome s i).Ok orig := by
  unfold State.wktHome
  try dsimp only
  repeat' (first
    | with_reducible assumption
    | with_reducible apply State.axFinish_ok
    | with_reducible apply State.park_ok
    | with_reducible apply State.setAx_ok
    | with_reducible apply State.setF_ok
    | with_reducible apply State.updAx_ok
    | with_reducible apply parts_ok
    | simp only [mk_ok]
    | with_reducible apply iteS_ok
    | intro _
    | split
    | with_reducible apply_assumption
    | dsimp only)

theorem State.homeEnd_ok (s : State) (n : Nat) (wid : Nat) (st : Nat) (p : Int) (hs : s.Ok orig) :
    (State.homeEnd s n wid st p).Ok orig := by
  unfold State.homeEnd
  try dsimp only
  repeat' (first
    | with_reducible assumption
    | with_reducible apply State.axFinish_ok
    | with_reducible apply State.enterHold_ok
    | with_reducible apply State.setF_ok
    | with_reducible apply parts_ok
    | simp only [mk_ok]
    | with_reducible apply iteS_ok
    | intro _
    | split
    | with_reducible apply_assumption
    | dsimp only)

theorem State.homeBrake_ok (s : State) (n : Nat) (h : Homing) (p : Rat) (v : Rat) (st : Nat) (hs : s.Ok orig) :
    (State.homeBrake s n h p v st).Ok orig := by
  unfold State.homeBrake
  try dsimp only
  repeat' (first
    | with_reducible assumption
    | with_reducible apply State.updAx_ok
    | with_reducible apply parts_ok
    | simp only [mk_ok]
    | with_reducible apply iteS_ok
    | intro _
    | split
    | with_reducible apply_assumption
    | dsimp only)

theorem State.homeStep_ok (s : State) (n : Nat) (hs : s.Ok orig) :
    (State.homeStep s n).Ok orig := by
  unfold State.homeStep
  try dsimp only
  repeat' (first
    | with_reducible assumption
    | with_reducible apply State.homeEnd_ok
    | with_reducible apply parts_ok
    | simp only [mk_ok]
    | with_reducible apply iteS_ok
    | intro _
    | split
    | with_reducible apply_assumption
    | dsimp only)

theorem State.vmRead_ok (s : State) (n : Nat) (vm : Int) (hs : s.Ok orig) :
    (State.vmRead s n vm).Ok orig := by
  unfold State.vmRead
  try dsimp only
  repeat' (first
    | with_reducible assumption
    | with_reducible apply State.updAx_ok
    | with_reducible apply parts_ok
    | simp only [mk_ok]
    | with_reducible apply iteS_ok
    | intro _
    | split
    | with_reducible apply_assumption
    | dsimp only)

theorem State.windTick_ok (s : State) (n : Nat) (b : Nat) (hs : s.Ok orig) :
    (State.windTick s n b).Ok orig := by
  unfold State.windTick
  try dsimp only
  repeat' (first
    | with_reducible assumption
    | with_reducible apply State.axFault_ok
    | with_reducible apply State.hold_ok
    | with_reducible apply State.incF_ok
    | with_reducible apply State.updAx_ok
    | with_reducible apply parts_ok
    | simp only [mk_ok]
    | with_reducible apply iteS_ok
    | intro _
    | split
    | with_reducible apply_assumption
    | dsimp only)

theorem State.zeroCross_ok (s : State) (n : Nat) (hs : s.Ok orig) :
    (State.zeroCross s n).Ok orig := by
  unfold State.zeroCross
  try dsimp only
  repeat' (first
    | with_reducible assumption
    | with_reducible apply State.maxF_ok
    | with_reducible apply State.setF_ok
    | with_reducible apply State.setI_ok
    | with_reducible apply State.updAx_ok
    | with_reducible apply parts_ok
    | simp only [mk_ok]
    | with_reducible apply iteS_ok
    | intro _
    | split
    | with_reducible apply_assumption
    | dsimp only)

theorem State.axTick_ok (s : State) (n : Nat) (hs : s.Ok orig) :
    (State.axTick s n).Ok orig := by
  unfold State.axTick
  try dsimp only
  repeat' (first
    | with_reducible assumption
    | with_reducible apply State.homeStep_ok
    | with_reducible apply State.updAx_ok
    | with_reducible apply State.windTick_ok
    | with_reducible apply State.zeroCross_ok
    | with_reducible apply parts_ok
    | simp only [mk_ok]
    | with_reducible apply iteS_ok
    | intro _
    | split
    | with_reducible apply_assumption
    | dsimp only)

theorem State.psRequest_ok (s : State) (who : PsWho) (ch : PsChange) (hs : s.Ok orig) :
    (State.psRequest s who ch).Ok orig := by
  unfold State.psRequest
  try dsimp only
  repeat' (first
    | with_reducible assumption
    | with_reducible apply parts_ok
    | simp only [mk_ok]
    | with_reducible apply iteS_ok
    | intro _
    | split
    | with_reducible apply_assumption
    | dsimp only)

theorem State.endTest_ok (s : State) (st : Nat) (hs : s.Ok orig) :
    (State.endTest s st).Ok orig := by
  unfold State.endTest
  try dsimp only
  repeat' (first
    | with_reducible assumption
    | with_reducible apply State.finish_ok
    | with_reducible apply State.setF_ok
    | with_reducible apply parts_ok
    | simp only [mk_ok]
    | with_reducible apply iteS_ok
    | intro _
    | split
    | with_reducible apply_assumption
    | dsimp only)

theorem State.stopWords_ok (s : State) (hs : s.Ok orig) :
    (State.stopWords s).Ok orig := by
  unfold State.stopWords
  try dsimp only
  repeat' (first
    | with_reducible assumption
    | with_reducible apply State.setF_ok
    | with_reducible apply parts_ok
    | simp only [mk_ok]
    | with_reducible apply iteS_ok
    | intro _
    | split
    | with_reducible apply_assumption
    | dsimp only)

theorem State.startTrain_ok (s : State) (initial : Bool) (hs : s.Ok orig) :
    (State.startTrain s initial).Ok orig := by
  unfold State.startTrain
  try dsimp only
  repeat' (first
    | with_reducible assumption
    | with_reducible apply State.setF_ok
    | with_reducible apply parts_ok
    | simp only [mk_ok]
    | with_reducible apply iteS_ok
    | intro _
    | split
    | with_reducible apply_assumption
    | dsimp only)

theorem State.pglFreeze_ok (s : State) (hs : s.Ok orig) :
    (State.pglFreeze s).Ok orig := by
  unfold State.pglFreeze
  try dsimp only
  repeat' (first
    | with_reducible assumption
    | with_reducible apply State.finish_ok
    | with_reducible apply State.incF_ok
    | with_reducible apply State.setF_ok
    | with_reducible apply foldl_ok
    | with_reducible apply parts_ok
    | simp only [mk_ok]
    | with_reducible apply iteS_ok
    | intro _
    | split
    | with_reducible apply_assumption
    | dsimp only)

theorem State.newStop_ok (s : State) (bit : Nat) (member : Nat) (hs : s.Ok orig) :
    (State.newStop s bit member).Ok orig := by
  unfold State.newStop
  try dsimp only
  repeat' (first
    | with_reducible assumption
    | with_reducible apply State.endTest_ok
    | with_reducible apply State.gzbEvent_ok
    | with_reducible apply State.irq_ok
    | with_reducible apply State.pglFreeze_ok
    | with_reducible apply State.raiseTask_ok
    | with_reducible apply State.setF_ok
    | with_reducible apply State.snap_ok
    | with_reducible apply State.startTrain_ok
    | with_reducible apply State.stopWords_ok
    | with_reducible apply State.vbTrigger_ok
    | with_reducible apply State.wktStop_ok
    | with_reducible apply parts_ok
    | simp only [mk_ok]
    | with_reducible apply iteS_ok
    | intro _
    | split
    | with_reducible apply_assumption
    | dsimp only)

theorem State.addCause_ok (s : State) (bit : Nat) (hs : s.Ok orig) :
    (State.addCause s bit).Ok orig := by
  unfold State.addCause
  try dsimp only
  repeat' (first
    | with_reducible assumption
    | with_reducible apply State.gzbEvent_ok
    | with_reducible apply State.setBit_ok
    | with_reducible apply State.vbTrigger_ok
    | with_reducible apply parts_ok
    | simp only [mk_ok]
    | with_reducible apply iteS_ok
    | intro _
    | split
    | with_reducible apply_assumption
    | dsimp only)

theorem State.raiseCause_ok (s : State) (bit : Nat) (member : Nat) (hs : s.Ok orig) :
    (State.raiseCause s bit member).Ok orig := by
  unfold State.raiseCause
  try dsimp only
  repeat' (first
    | with_reducible assumption
    | with_reducible apply State.addCause_ok
    | with_reducible apply State.newStop_ok
    | with_reducible apply parts_ok
    | simp only [mk_ok]
    | with_reducible apply iteS_ok
    | intro _
    | split
    | with_reducible apply_assumption
    | dsimp only)

theorem State.gzbFault_ok (s : State) (bit : Nat) (hs : s.Ok orig) :
    (State.gzbFault s bit).Ok orig := by
  unfold State.gzbFault
  try dsimp only
  repeat' (first
    | with_reducible assumption
    | with_reducible apply State.gzbEvent_ok
    | with_reducible apply State.raiseCause_ok
    | with_reducible apply State.setBit_ok
    | with_reducible apply State.vbTrigger_ok
    | with_reducible apply parts_ok
    | simp only [mk_ok]
    | with_reducible apply iteS_ok
    | intro _
    | split
    | with_reducible apply_assumption
    | dsimp only)

theorem State.domResetStop_ok (s : State) (hs : s.Ok orig) :
    (State.domResetStop s).Ok orig := by
  unfold State.domResetStop
  try dsimp only
  repeat' (first
    | with_reducible assumption
    | with_reducible apply State.raiseCause_ok
    | with_reducible apply parts_ok
    | simp only [mk_ok]
    | with_reducible apply iteS_ok
    | intro _
    | split
    | with_reducible apply_assumption
    | dsimp only)

theorem State.setSlot_ok (s : State) (n : Nat) (k : KeySlot) (hs : s.Ok orig) :
    (State.setSlot s n k).Ok orig := by
  unfold State.setSlot
  try dsimp only
  repeat' (first
    | with_reducible assumption
    | with_reducible apply parts_ok
    | simp only [mk_ok]
    | with_reducible apply iteS_ok
    | intro _
    | split
    | with_reducible apply_assumption
    | dsimp only)

theorem State.slotDenied_ok (s : State) (n : Nat) (hs : s.Ok orig) :
    (State.slotDenied s n).Ok orig := by
  unfold State.slotDenied
  try dsimp only
  repeat' (first
    | with_reducible assumption
    | with_reducible apply State.setSlot_ok
    | with_reducible apply parts_ok
    | simp only [mk_ok]
    | with_reducible apply iteS_ok
    | intro _
    | split
    | with_reducible apply_assumption
    | dsimp only)

theorem State.slotUse_ok (s : State) (n : Nat) (who : PsWho) (hs : s.Ok orig) :
    (State.slotUse s n who).Ok orig := by
  unfold State.slotUse
  try dsimp only
  repeat' (first
    | with_reducible assumption
    | with_reducible apply State.psRequest_ok
    | with_reducible apply State.setSlot_ok
    | with_reducible apply parts_ok
    | simp only [mk_ok]
    | with_reducible apply iteS_ok
    | intro _
    | split
    | with_reducible apply_assumption
    | dsimp only)

theorem State.tryKeys_ok (what : KeyCheck) (ok : Bytes → Bool) :
    ∀ (ns : List Nat) (s : State), s.Ok orig → (State.tryKeys s what ok ns).2.Ok orig
  | [], _, h => h
  | n :: ns, s, h => by
    unfold State.tryKeys
    dsimp only
    split
    · exact State.tryKeys_ok what ok ns s h
    · split
      · exact State.tryKeys_ok what ok ns _ (State.slotDenied_ok s n h)
      · split
        · exact State.slotUse_ok s n _ h
        · split
          · exact State.slotUse_ok s n _ h
          · exact State.tryKeys_ok what ok ns _ (State.slotUse_ok s n _ h)

theorem State.moreKeys_ok (s : State) (what : KeyCheck) (ok : Bytes → Bool) (n : Nat) (ns : List Nat) (counted : Bool) (hs : s.Ok orig) :
    (State.moreKeys s what ok n ns counted).2.Ok orig := by
  unfold State.moreKeys
  try dsimp only
  repeat' (first
    | with_reducible assumption
    | with_reducible apply State.tryKeys_ok
    | with_reducible apply parts_ok
    | simp only [mk_ok]
    | with_reducible apply iteS_ok
    | intro _
    | split
    | with_reducible apply_assumption
    | dsimp only)

theorem State.bands_ok (s : State) (f : Band → Band) (hs : s.Ok orig) :
    (State.bands s f).Ok orig := by
  unfold State.bands
  try dsimp only
  repeat' (first
    | with_reducible assumption
    | with_reducible apply parts_ok
    | simp only [mk_ok]
    | with_reducible apply iteS_ok
    | intro _
    | split
    | with_reducible apply_assumption
    | dsimp only)

theorem State.loadKey_ok (s : State) (e : Nat) (key : Bytes) (session : Nat) (hs : s.Ok orig) :
    (State.loadKey s e key session).Ok orig := by
  unfold State.loadKey
  try dsimp only
  repeat' (first
    | with_reducible assumption
    | with_reducible apply State.bands_ok
    | with_reducible apply State.entry_ok
    | with_reducible apply parts_ok
    | simp only [mk_ok]
    | with_reducible apply iteS_ok
    | intro _
    | split
    | with_reducible apply_assumption
    | dsimp only)

theorem State.loadNext_ok (s : State) (e : Nat) (key : Bytes) (hs : s.Ok orig) :
    (State.loadNext s e key).Ok orig := by
  unfold State.loadNext
  try dsimp only
  repeat' (first
    | with_reducible assumption
    | with_reducible apply State.bands_ok
    | with_reducible apply parts_ok
    | simp only [mk_ok]
    | with_reducible apply iteS_ok
    | intro _
    | split
    | with_reducible apply_assumption
    | dsimp only)

theorem State.updGzb_ok (s : State) (f : Gzb → Gzb) (hs : s.Ok orig) :
    (State.updGzb s f).Ok orig := by
  unfold State.updGzb
  try dsimp only
  repeat' (first
    | with_reducible assumption
    | with_reducible apply parts_ok
    | simp only [mk_ok]
    | with_reducible apply iteS_ok
    | intro _
    | split
    | with_reducible apply_assumption
    | dsimp only)

theorem State.setStopKeys_ok (s : State) (cur : Option Bytes) (nxt : Option Bytes) (hs : s.Ok orig) :
    (State.setStopKeys s cur nxt).Ok orig := by
  unfold State.setStopKeys
  try dsimp only
  repeat' (first
    | with_reducible assumption
    | with_reducible apply State.setF_ok
    | with_reducible apply State.stopWords_ok
    | with_reducible apply State.updGzb_ok
    | with_reducible apply parts_ok
    | simp only [mk_ok]
    | with_reducible apply iteS_ok
    | intro _
    | split
    | with_reducible apply_assumption
    | dsimp only)

theorem State.stopKeyLoad_ok (s : State) (next : Bool) (hs : s.Ok orig) :
    (State.stopKeyLoad s next).Ok orig := by
  unfold State.stopKeyLoad
  try dsimp only
  repeat' (first
    | with_reducible assumption
    | with_reducible apply State.setStopKeys_ok
    | with_reducible apply parts_ok
    | simp only [mk_ok]
    | with_reducible apply iteS_ok
    | intro _
    | split
    | with_reducible apply_assumption
    | dsimp only)

theorem State.stopKeySwitch_ok (s : State) (hs : s.Ok orig) :
    (State.stopKeySwitch s).Ok orig := by
  unfold State.stopKeySwitch
  try dsimp only
  repeat' (first
    | with_reducible assumption
    | with_reducible apply State.setStopKeys_ok
    | with_reducible apply parts_ok
    | simp only [mk_ok]
    | with_reducible apply iteS_ok
    | intro _
    | split
    | with_reducible apply_assumption
    | dsimp only)

theorem State.updTest_ok (s : State) (i : Nat) (f : LoopTest → LoopTest) (hs : s.Ok orig) :
    (State.updTest s i f).Ok orig := by
  unfold State.updTest
  try dsimp only
  repeat' (first
    | with_reducible assumption
    | with_reducible apply State.updGzb_ok
    | with_reducible apply parts_ok
    | simp only [mk_ok]
    | with_reducible apply iteS_ok
    | intro _
    | split
    | with_reducible apply_assumption
    | dsimp only)

theorem State.levelCause_ok (s : State) (i : Nat) (hs : s.Ok orig) :
    (State.levelCause s i).Ok orig := by
  unfold State.levelCause
  try dsimp only
  repeat' (first
    | with_reducible assumption
    | with_reducible apply State.raiseCause_ok
    | with_reducible apply State.setBit_ok
    | with_reducible apply State.setF_ok
    | with_reducible apply parts_ok
    | simp only [mk_ok]
    | with_reducible apply iteS_ok
    | intro _
    | split
    | with_reducible apply_assumption
    | dsimp only)

theorem State.loopDiff_ok (s : State) (hs : s.Ok orig) :
    (State.loopDiff s).Ok orig := by
  unfold State.loopDiff
  try dsimp only
  repeat' (first
    | with_reducible assumption
    | with_reducible apply State.updGzb_ok
    | with_reducible apply parts_ok
    | simp only [mk_ok]
    | with_reducible apply iteS_ok
    | intro _
    | split
    | with_reducible apply_assumption
    | dsimp only)

theorem State.loopEdge_ok (s : State) (i : Nat) (hs : s.Ok orig) :
    (State.loopEdge s i).Ok orig := by
  unfold State.loopEdge
  try dsimp only
  repeat' (first
    | with_reducible assumption
    | with_reducible apply State.loopDiff_ok
    | with_reducible apply parts_ok
    | simp only [mk_ok]
    | with_reducible apply iteS_ok
    | intro _
    | split
    | with_reducible apply_assumption
    | dsimp only)

theorem State.pulsePassed_ok (s : State) (i : Nat) (hs : s.Ok orig) :
    (State.pulsePassed s i).Ok orig := by
  unfold State.pulsePassed
  try dsimp only
  repeat' (first
    | with_reducible assumption
    | with_reducible apply State.setF_ok
    | with_reducible apply parts_ok
    | simp only [mk_ok]
    | with_reducible apply iteS_ok
    | intro _
    | split
    | with_reducible apply_assumption
    | dsimp only)

theorem State.padsRight_ok (s : State) (i : Nat) (v : Int) (hs : s.Ok orig) :
    (State.padsRight s i v).Ok orig := by
  unfold State.padsRight
  try dsimp only
  repeat' (first
    | with_reducible assumption
    | with_reducible apply State.updTest_ok
    | with_reducible apply parts_ok
    | simp only [mk_ok]
    | with_reducible apply iteS_ok
    | intro _
    | split
    | with_reducible apply_assumption
    | dsimp only)

theorem State.monitor_ok (s : State) (i : Nat) (v : Int) (hs : s.Ok orig) :
    (State.monitor s i v).Ok orig := by
  unfold State.monitor
  try dsimp only
  repeat' (first
    | with_reducible assumption
    | with_reducible apply State.gzbFault_ok
    | with_reducible apply State.updTest_ok
    | with_reducible apply parts_ok
    | simp only [mk_ok]
    | with_reducible apply iteS_ok
    | intro _
    | split
    | with_reducible apply_assumption
    | dsimp only)

theorem State.faultEvents_ok (s : State) (hs : s.Ok orig) :
    (State.faultEvents s).Ok orig := by
  unfold State.faultEvents
  try dsimp only
  repeat' (first
    | with_reducible assumption
    | with_reducible apply State.gzbEvent_ok
    | with_reducible apply State.updGzb_ok
    | with_reducible apply foldl_ok
    | with_reducible apply parts_ok
    | simp only [mk_ok]
    | with_reducible apply iteS_ok
    | intro _
    | split
    | with_reducible apply_assumption
    | dsimp only)

theorem State.relOff_ok (s : State) (k : Nat) (hs : s.Ok orig) :
    (State.relOff s k).Ok orig := by
  unfold State.relOff
  try dsimp only
  repeat' (first
    | with_reducible assumption
    | with_reducible apply parts_ok
    | simp only [mk_ok]
    | with_reducible apply iteS_ok
    | intro _
    | split
    | with_reducible apply_assumption
    | dsimp only)

theorem State.gzbFaultClear_ok (s : State) (mask : Nat) (absent : Nat) (hs : s.Ok orig) :
    (State.gzbFaultClear s mask absent).Ok orig := by
  unfold State.gzbFaultClear
  try dsimp only
  repeat' (first
    | with_reducible assumption
    | with_reducible apply State.clrBit_ok
    | with_reducible apply State.updTest_ok
    | with_reducible apply foldl_ok
    | with_reducible apply parts_ok
    | simp only [mk_ok]
    | with_reducible apply iteS_ok
    | intro _
    | split
    | with_reducible apply_assumption
    | dsimp only)

theorem State.clearRefuse_ok (s : State) (wid : Nat) (st : Nat) (seq : Nat) (hs : s.Ok orig) :
    (State.clearRefuse s wid st seq).Ok orig := by
  unfold State.clearRefuse
  try dsimp only
  repeat' (first
    | with_reducible assumption
    | with_reducible apply State.finish_ok
    | with_reducible apply State.gzbEvent_ok
    | with_reducible apply State.setF_ok
    | with_reducible apply State.vbTrigger_ok
    | with_reducible apply parts_ok
    | simp only [mk_ok]
    | with_reducible apply iteS_ok
    | intro _
    | split
    | with_reducible apply_assumption
    | dsimp only)

theorem State.clearSigned_ok (s : State) (i : WItem) (ok : Option Bool) (hs : s.Ok orig) :
    (State.clearSigned s i ok).Ok orig := by
  unfold State.clearSigned
  try dsimp only
  repeat' (first
    | with_reducible assumption
    | with_reducible apply State.clearRefuse_ok
    | with_reducible apply State.park_ok
    | with_reducible apply State.psRequest_ok
    | with_reducible apply parts_ok
    | simp only [mk_ok]
    | with_reducible apply iteS_ok
    | intro _
    | split
    | with_reducible apply_assumption
    | dsimp only)

theorem State.gzbClear_ok (s : State) (i : WItem) (hs : s.Ok orig) :
    (State.gzbClear s i).Ok orig := by
  unfold State.gzbClear
  try dsimp only
  repeat' (first
    | with_reducible assumption
    | with_reducible apply State.clearRefuse_ok
    | with_reducible apply State.clearSigned_ok
    | with_reducible apply State.finish_ok
    | with_reducible apply State.idleStart_ok
    | with_reducible apply State.needD13_ok
    | with_reducible apply State.setF_ok
    | with_reducible apply State.tryKeys_ok
    | with_reducible apply parts_ok
    | simp only [mk_ok]
    | with_reducible apply iteS_ok
    | intro _
    | split
    | with_reducible apply_assumption
    | dsimp only)

theorem State.clearGoOn_ok (s : State) (wid : Nat) (n : Nat) (ns : List Nat) (counted : Bool) (hs : s.Ok orig) :
    (State.clearGoOn s wid n ns counted).Ok orig := by
  unfold State.clearGoOn
  try dsimp only
  repeat' (first
    | with_reducible assumption
    | with_reducible apply State.clearSigned_ok
    | with_reducible apply State.moreKeys_ok
    | with_reducible apply parts_ok
    | simp only [mk_ok]
    | with_reducible apply iteS_ok
    | intro _
    | split
    | with_reducible apply_assumption
    | dsimp only)

theorem State.clearAccept_ok (s : State) (wid cnt seq : Nat) (hs : s.Ok orig) :
    (State.clearAccept s wid cnt seq).Ok orig := by
  unfold State.clearAccept
  extract_lets b s1 s2
  have h1 : s1.Ok orig := State.setF_ok _ _ _ (State.setF_ok _ _ _ (State.setF_ok _ _ _ hs))
  apply State.finish_ok
  apply State.vbTrigger_ok
  apply State.gzbEvent_ok
  exact State.setF_ok _ _ _ (State.setF_ok _ _ _ h1)

theorem State.clearRecheck_ok (s : State) (wid : Nat) (cnt : Nat) (seq : Nat) (mark : Nat) (hs : s.Ok orig) :
    (State.clearRecheck s wid cnt seq mark).Ok orig := by
  unfold State.clearRecheck
  try dsimp only
  repeat' (first
    | with_reducible assumption
    | with_reducible apply State.clearAccept_ok
    | with_reducible apply State.clearRefuse_ok
    | with_reducible apply parts_ok
    | simp only [mk_ok]
    | with_reducible apply iteS_ok
    | intro _
    | split
    | with_reducible apply_assumption
    | dsimp only)

theorem State.clearStored_ok (s : State) (wid : Nat) (cnt : Nat) (seq : Nat) (mark : Nat) (hs : s.Ok orig) :
    (State.clearStored s wid cnt seq mark).Ok orig := by
  unfold State.clearStored
  try dsimp only
  repeat' (first
    | with_reducible assumption
    | with_reducible apply State.clearRecheck_ok
    | with_reducible apply State.setF_ok
    | with_reducible apply parts_ok
    | simp only [mk_ok]
    | with_reducible apply iteS_ok
    | intro _
    | split
    | with_reducible apply_assumption
    | dsimp only)

theorem State.gzbRun_ok (s : State) (hs : s.Ok orig) :
    (State.gzbRun s).Ok orig := by
  unfold State.gzbRun
  try dsimp only
  repeat' (first
    | with_reducible assumption
    | with_reducible apply State.gzbEvent_ok
    | with_reducible apply State.setF_ok
    | with_reducible apply State.updGzb_ok
    | with_reducible apply parts_ok
    | simp only [mk_ok]
    | with_reducible apply iteS_ok
    | intro _
    | split
    | with_reducible apply_assumption
    | dsimp only)

theorem State.vbCtrlWrite_ok (s : State) (m : Master) (v : Nat) (hs : s.Ok orig) :
    (State.vbCtrlWrite s m v).Ok orig := by
  unfold State.vbCtrlWrite
  try dsimp only
  repeat' (first
    | with_reducible assumption
    | with_reducible apply State.setF_ok
    | with_reducible apply State.snapCode_ok
    | with_reducible apply parts_ok
    | simp only [mk_ok]
    | with_reducible apply iteS_ok
    | intro _
    | split
    | with_reducible apply_assumption
    | dsimp only)

theorem State.vbDrop_ok (s : State) (wid : Option Nat) (hs : s.Ok orig) :
    (State.vbDrop s wid).Ok orig := by
  unfold State.vbDrop
  try dsimp only
  repeat' (first
    | with_reducible assumption
    | with_reducible apply State.finish_ok
    | with_reducible apply State.incF_ok
    | with_reducible apply State.setF_ok
    | with_reducible apply parts_ok
    | simp only [mk_ok]
    | with_reducible apply iteS_ok
    | intro _
    | split
    | with_reducible apply_assumption
    | dsimp only)

theorem State.assemble_ok (s : State) (t : VbTrig) (hs : s.Ok orig) :
    (State.assemble s t).Ok orig := by
  unfold State.assemble
  try dsimp only
  repeat' (first
    | with_reducible assumption
    | with_reducible apply State.setF_ok
    | with_reducible apply State.vbDrop_ok
    | with_reducible apply parts_ok
    | simp only [mk_ok]
    | with_reducible apply iteS_ok
    | intro _
    | split
    | with_reducible apply_assumption
    | dsimp only)

theorem State.vbErase_ok (s : State) (x : Nat) (hs : s.Ok orig) :
    (State.vbErase s x).Ok orig := by
  unfold State.vbErase
  try dsimp only
  repeat' (first
    | with_reducible assumption
    | with_reducible apply State.incF_ok
    | with_reducible apply State.setF_ok
    | with_reducible apply parts_ok
    | simp only [mk_ok]
    | with_reducible apply iteS_ok
    | intro _
    | split
    | with_reducible apply_assumption
    | dsimp only)

theorem State.vbPut_ok (s : State) (r : VbRec) (sector : Nat) (off : Nat) (hs : s.Ok orig) :
    (State.vbPut s r sector off).Ok orig := by
  unfold State.vbPut
  try dsimp only
  repeat' (first
    | with_reducible assumption
    | with_reducible apply State.finish_ok
    | with_reducible apply State.psRequest_ok
    | with_reducible apply State.setF_ok
    | with_reducible apply parts_ok
    | simp only [mk_ok]
    | with_reducible apply iteS_ok
    | intro _
    | split
    | with_reducible apply_assumption
    | dsimp only)

theorem State.putEssential_ok (s : State) (r : VbRec) (hs : s.Ok orig) :
    (State.putEssential s r).Ok orig := by
  unfold State.putEssential
  try dsimp only
  repeat' (first
    | with_reducible assumption
    | with_reducible apply State.vbDrop_ok
    | with_reducible apply State.vbErase_ok
    | with_reducible apply State.vbPut_ok
    | with_reducible apply parts_ok
    | simp only [mk_ok]
    | with_reducible apply iteS_ok
    | intro _
    | split
    | with_reducible apply_assumption
    | dsimp only)

theorem State.putMain_ok (s : State) (r : VbRec) (hs : s.Ok orig) :
    (State.putMain s r).Ok orig := by
  unfold State.putMain
  try dsimp only
  repeat' (first
    | with_reducible assumption
    | with_reducible apply State.putEssential_ok
    | with_reducible apply State.setF_ok
    | with_reducible apply State.vbDrop_ok
    | with_reducible apply State.vbErase_ok
    | with_reducible apply State.vbPut_ok
    | with_reducible apply parts_ok
    | simp only [mk_ok]
    | with_reducible apply iteS_ok
    | intro _
    | split
    | with_reducible apply_assumption
    | dsimp only)

theorem State.pushRecs_ok : ∀ (k : Nat) (rs : List VbRec) (s : State) (c : Nat × Nat × Nat), s.Ok orig →
    (State.pushRecs s k rs c).1.Ok orig
  | 0, _, _, _, h => h
  | _ + 1, [], _, _, h => h
  | k + 1, r :: rs, s, (n, f, x), h => by
    unfold State.pushRecs
    split
    · exact State.pushRecs_ok k rs _ _ (State.pushPkt_ok s _ _ h)
    · exact h

theorem State.vbReadStep_ok (s : State) (i : WItem) (hs : s.Ok orig) : (State.vbReadStep s i).Ok orig := by
  unfold State.vbReadStep
  extract_lets p gap r res
  have hr : r.1.Ok orig := State.pushRecs_ok _ _ s _ hs
  split
  · exact State.finish_ok _ _ _ _ hr
  · exact State.park_ok _ _ (State.updItem_ok _ _ _ hr)

theorem State.testShow_ok (s : State) (t : LinkTest) (hs : s.Ok orig) :
    (State.testShow s t).Ok orig := by
  unfold State.testShow
  try dsimp only
  repeat' (first
    | with_reducible assumption
    | with_reducible apply State.setF_ok
    | with_reducible apply State.wr_ok
    | with_reducible apply parts_ok
    | simp only [mk_ok]
    | with_reducible apply iteS_ok
    | intro _
    | split
    | with_reducible apply_assumption
    | dsimp only)

theorem State.updBand_ok (s : State) (b : Nat) (f : Band → Band) (hs : s.Ok orig) :
    (State.updBand s b f).Ok orig := by
  unfold State.updBand
  try dsimp only
  repeat' (first
    | with_reducible assumption
    | with_reducible apply parts_ok
    | simp only [mk_ok]
    | with_reducible apply iteS_ok
    | intro _
    | split
    | with_reducible apply_assumption
    | dsimp only)

theorem State.dlPush_ok (s : State) (b : Nat) (f : DlFrame) (hs : s.Ok orig) :
    (State.dlPush s b f).Ok orig := by
  unfold State.dlPush
  try dsimp only
  repeat' (first
    | with_reducible assumption
    | with_reducible apply State.updBand_ok
    | with_reducible apply parts_ok
    | simp only [mk_ok]
    | with_reducible apply iteS_ok
    | intro _
    | split
    | with_reducible apply_assumption
    | dsimp only)

theorem State.dlHead_ok (s : State) (b : Nat) (f : DlFrame) (hs : s.Ok orig) :
    (State.dlHead s b f).Ok orig := by
  unfold State.dlHead
  try dsimp only
  repeat' (first
    | with_reducible assumption
    | with_reducible apply State.updBand_ok
    | with_reducible apply parts_ok
    | simp only [mk_ok]
    | with_reducible apply iteS_ok
    | intro _
    | split
    | with_reducible apply_assumption
    | dsimp only)

theorem State.nextMsg_ok (s : State) (hs : s.Ok orig) :
    (State.nextMsg s).2.Ok orig := by
  unfold State.nextMsg
  try dsimp only
  repeat' (first
    | with_reducible assumption
    | with_reducible apply State.setF_ok
    | with_reducible apply parts_ok
    | simp only [mk_ok]
    | with_reducible apply iteS_ok
    | intro _
    | split
    | with_reducible apply_assumption
    | dsimp only)

theorem State.keyPad_ok (s : State) (b : Nat) (from_ : Nat) (us : Nat) (hs : s.Ok orig) :
    (State.keyPad s b from_ us).Ok orig := by
  unfold State.keyPad
  try dsimp only
  repeat' (first
    | with_reducible assumption
    | with_reducible apply State.updBand_ok
    | with_reducible apply parts_ok
    | simp only [mk_ok]
    | with_reducible apply iteS_ok
    | intro _
    | split
    | with_reducible apply_assumption
    | dsimp only)

theorem State.txFrame_ok (s : State) (b : Nat) (f : DlFrame) (hs : s.Ok orig) :
    ∀ r, State.txFrame s b f = some r → r.2.Ok orig := by
  intro r hr
  unfold State.txFrame at hr
  split at hr
  · cases hr
  · split at hr
    · cases hr
    · extract_lets seq s1 m flood fc psdu full s2 s3 at hr
      have h1 : s1.Ok orig := by
        simp only [s1]
        split
        · exact hs
        · exact State.updBand_ok s _ _ hs
      have hm : m.2.Ok orig := by
        simp only [m]
        split
        · exact State.nextMsg_ok _ h1
        · exact h1
        · exact h1
      have h2 : s2.Ok orig := State.incF_ok _ _ _ (State.updBand_ok _ _ _ hm)
      have h3 : s3.Ok orig := by
        simp only [s3]
        split
        · exact State.setF_ok _ _ _ h2
        · exact h2
      cases hr
      exact State.keyPad_ok _ _ _ _ h3

theorem State.fleetEvent_ok (s : State) (kind : Nat) (member : Nat) (info : Nat) (value : Nat) (data : Bytes) (hs : s.Ok orig) :
    (State.fleetEvent s kind member info value data).Ok orig := by
  unfold State.fleetEvent
  try dsimp only
  repeat' (first
    | with_reducible assumption
    | with_reducible apply State.observe_ok
    | with_reducible apply State.vbTrigger_ok
    | with_reducible apply parts_ok
    | simp only [mk_ok]
    | with_reducible apply iteS_ok
    | intro _
    | split
    | with_reducible apply_assumption
    | dsimp only)

theorem State.setMbr_ok (s : State) (x : Mbr) (hs : s.Ok orig) :
    (State.setMbr s x).Ok orig := by
  unfold State.setMbr
  try dsimp only
  repeat' (first
    | with_reducible assumption
    | with_reducible apply parts_ok
    | simp only [mk_ok]
    | with_reducible apply iteS_ok
    | intro _
    | split
    | with_reducible apply_assumption
    | dsimp only)

theorem State.updMbr_ok (s : State) (m : Nat) (f : Mbr → Mbr) (hs : s.Ok orig) :
    (State.updMbr s m f).Ok orig := by
  unfold State.updMbr
  try dsimp only
  repeat' (first
    | with_reducible assumption
    | with_reducible apply State.setMbr_ok
    | with_reducible apply parts_ok
    | simp only [mk_ok]
    | with_reducible apply iteS_ok
    | intro _
    | split
    | with_reducible apply_assumption
    | dsimp only)

end Sys2Proof.Machine
end

