-- ==== Sys2Proof/Laws/Sound2.lean ====
section
/-! SUPPORT. Every shared operation keeps a sound state sound, and what no command takes back: Pergola, Route, Planner, Belvedere, Filter, Rtcm, Solve, Fleet, Uplink, Orangery, Sundial. -/
namespace Sys2Proof.Machine
variable {orig : State}

set_option linter.unusedTactic false
set_option linter.unreachableTactic false

theorem State.updPgl_ok (s : State) (f : Pgl → Pgl) (hs : s.Ok orig) :
    (State.updPgl s f).Ok orig := by
  unfold State.updPgl
  try dsimp only
  repeat' (first
    | with_reducible assumption
    | with_reducible apply parts_ok
    | simp only [mk_ok]
    | with_reducible apply iteS_ok
    | intro _
    | split
    | with_reducible apply_assumption
    | dsimp only)

theorem State.setPm_ok (s : State) (x : PMbr) (hs : s.Ok orig) :
    (State.setPm s x).Ok orig := by
  unfold State.setPm
  try dsimp only
  repeat' (first
    | with_reducible assumption
    | with_reducible apply State.updPgl_ok
    | with_reducible apply parts_ok
    | simp only [mk_ok]
    | with_reducible apply iteS_ok
    | intro _
    | split
    | with_reducible apply_assumption
    | dsimp only)

theorem State.updPm_ok (s : State) (m : Nat) (f : PMbr → PMbr) (hs : s.Ok orig) :
    (State.updPm s m f).Ok orig := by
  unfold State.updPm
  try dsimp only
  repeat' (first
    | with_reducible assumption
    | with_reducible apply State.setPm_ok
    | with_reducible apply parts_ok
    | simp only [mk_ok]
    | with_reducible apply iteS_ok
    | intro _
    | split
    | with_reducible apply_assumption
    | dsimp only)

theorem State.pglEvent_ok (s : State) (kind : Nat) (m : Nat) (info : Nat) (value : Nat) (hs : s.Ok orig) :
    (State.pglEvent s kind m info value).Ok orig := by
  unfold State.pglEvent
  try dsimp only
  repeat' (first
    | with_reducible assumption
    | with_reducible apply State.nsEvent_ok
    | with_reducible apply parts_ok
    | simp only [mk_ok]
    | with_reducible apply iteS_ok
    | intro _
    | split
    | with_reducible apply_assumption
    | dsimp only)

theorem State.grant_ok (s : State) (w : Win) (hs : s.Ok orig) :
    (State.grant s w).Ok orig := by
  unfold State.grant
  try dsimp only
  repeat' (first
    | with_reducible assumption
    | with_reducible apply State.updPgl_ok
    | with_reducible apply parts_ok
    | simp only [mk_ok]
    | with_reducible apply iteS_ok
    | intro _
    | split
    | with_reducible apply_assumption
    | dsimp only)

theorem State.grantForced_ok (s : State) (w : Win) (hs : s.Ok orig) :
    (State.grantForced s w).Ok orig := by
  unfold State.grantForced
  try dsimp only
  repeat' (first
    | with_reducible assumption
    | with_reducible apply State.grant_ok
    | with_reducible apply parts_ok
    | simp only [mk_ok]
    | with_reducible apply iteS_ok
    | intro _
    | split
    | with_reducible apply_assumption
    | dsimp only)

theorem State.dropWins_ok (s : State) (ok : Win → Bool) (hs : s.Ok orig) :
    (State.dropWins s ok).Ok orig := by
  unfold State.dropWins
  try dsimp only
  repeat' (first
    | with_reducible assumption
    | with_reducible apply State.updPgl_ok
    | with_reducible apply parts_ok
    | simp only [mk_ok]
    | with_reducible apply iteS_ok
    | intro _
    | split
    | with_reducible apply_assumption
    | dsimp only)

theorem State.dlGrant_ok (s : State) (b : Nat) (hs : s.Ok orig) :
    (State.dlGrant s b).Ok orig := by
  unfold State.dlGrant
  try dsimp only
  repeat' (first
    | with_reducible assumption
    | with_reducible apply State.updBand_ok
    | with_reducible apply State.updPgl_ok
    | with_reducible apply parts_ok
    | simp only [mk_ok]
    | with_reducible apply iteS_ok
    | intro _
    | split
    | with_reducible apply_assumption
    | dsimp only)

theorem State.dlFill_ok (s : State) (b : Nat) (hs : s.Ok orig) :
    (State.dlFill s b).Ok orig := by
  unfold State.dlFill
  try dsimp only
  repeat' (first
    | with_reducible assumption
    | with_reducible apply State.dlGrant_ok
    | with_reducible apply foldl_ok
    | with_reducible apply parts_ok
    | simp only [mk_ok]
    | with_reducible apply iteS_ok
    | intro _
    | split
    | with_reducible apply_assumption
    | dsimp only)

theorem State.segDrain_ok (s : State) (hs : s.Ok orig) :
    (State.segDrain s).Ok orig := by
  unfold State.segDrain
  try dsimp only
  repeat' (first
    | with_reducible assumption
    | with_reducible apply State.dlFill_ok
    | with_reducible apply parts_ok
    | simp only [mk_ok]
    | with_reducible apply iteS_ok
    | intro _
    | split
    | with_reducible apply_assumption
    | dsimp only)

theorem State.enterSeg_ok (s : State) (m : Nat) (t : SegTab) (hs : s.Ok orig) :
    (State.enterSeg s m t).Ok orig := by
  unfold State.enterSeg
  try dsimp only
  repeat' (first
    | with_reducible assumption
    | with_reducible apply State.incF_ok
    | with_reducible apply State.raiseTask_ok
    | with_reducible apply State.segDrain_ok
    | with_reducible apply State.updPgl_ok
    | with_reducible apply State.updPm_ok
    | with_reducible apply parts_ok
    | simp only [mk_ok]
    | with_reducible apply iteS_ok
    | intro _
    | split
    | with_reducible apply_assumption
    | dsimp only)

theorem State.sendTabs_ok (m : Nat) (dwell : Option Int) : ∀ (ts : List SegTab) (s : State), s.Ok orig →
    (State.sendTabs m dwell ts s).Ok orig
  | [], _, h => h
  | t :: ts, s, h => State.sendTabs_ok m dwell ts _ (State.enterSeg_ok _ _ _ (foldl_ok (fun u w hu => State.grant_ok u w hu) _ h))

theorem State.planPush_ok (s : State) (r : PReq) (hs : s.Ok orig) :
    (State.planPush s r).Ok orig := by
  unfold State.planPush
  try dsimp only
  repeat' (first
    | with_reducible assumption
    | with_reducible apply State.updPgl_ok
    | with_reducible apply parts_ok
    | simp only [mk_ok]
    | with_reducible apply iteS_ok
    | intro _
    | split
    | with_reducible apply_assumption
    | dsimp only)

theorem State.replan_ok (s : State) (m : Nat) (why : Nat) (dev : Nat) (prio : Option Nat) (hs : s.Ok orig) :
    (State.replan s m why dev prio).Ok orig := by
  unfold State.replan
  try dsimp only
  repeat' (first
    | with_reducible assumption
    | with_reducible apply State.incF_ok
    | with_reducible apply State.pglEvent_ok
    | with_reducible apply State.planPush_ok
    | with_reducible apply State.raiseTask_ok
    | with_reducible apply parts_ok
    | simp only [mk_ok]
    | with_reducible apply iteS_ok
    | intro _
    | split
    | with_reducible apply_assumption
    | dsimp only)

theorem State.endReq_ok (s : State) (r : PReq) (st : Nat) (res : Bytes) (hs : s.Ok orig) :
    (State.endReq s r st res).Ok orig := by
  unfold State.endReq
  try dsimp only
  repeat' (first
    | with_reducible assumption
    | with_reducible apply State.finish_ok
    | with_reducible apply parts_ok
    | simp only [mk_ok]
    | with_reducible apply iteS_ok
    | intro _
    | split
    | with_reducible apply_assumption
    | dsimp only)

theorem State.endStored_ok (s : State) (m : Nat) (st : Nat) (hs : s.Ok orig) :
    (State.endStored s m st).Ok orig := by
  unfold State.endStored
  try dsimp only
  repeat' (first
    | with_reducible assumption
    | with_reducible apply State.endReq_ok
    | with_reducible apply State.updPgl_ok
    | with_reducible apply foldl_ok
    | with_reducible apply parts_ok
    | simp only [mk_ok]
    | with_reducible apply iteS_ok
    | intro _
    | split
    | with_reducible apply_assumption
    | dsimp only)

theorem State.tellOverlap_ok (s : State) (m : Nat) (e : Nat) (start : Int) (stop : Option Int) (hs : s.Ok orig) :
    (State.tellOverlap s m e start stop).Ok orig := by
  unfold State.tellOverlap
  try dsimp only
  repeat' (first
    | with_reducible assumption
    | with_reducible apply State.pglEvent_ok
    | with_reducible apply State.replan_ok
    | with_reducible apply State.setF_ok
    | with_reducible apply foldl_ok
    | with_reducible apply parts_ok
    | simp only [mk_ok]
    | with_reducible apply iteS_ok
    | intro _
    | split
    | with_reducible apply_assumption
    | dsimp only)

theorem State.sendForced_ok (m : Nat) : ∀ (ts : List SegTab) (s : State), s.Ok orig → (State.sendForced m ts s).Ok orig
  | [], _, h => h
  | t :: ts, s, h => State.sendForced_ok m ts _ (State.enterSeg_ok _ _ _
      (foldl_ok (fun u w hu => State.tellOverlap_ok _ _ _ _ _ (State.grantForced_ok u w hu)) _ h))

theorem State.stopTable_ok (s : State) (m : Nat) (hs : s.Ok orig) :
    (State.stopTable s m).Ok orig := by
  unfold State.stopTable
  try dsimp only
  repeat' (first
    | with_reducible assumption
    | with_reducible apply State.sendForced_ok
    | with_reducible apply parts_ok
    | simp only [mk_ok]
    | with_reducible apply iteS_ok
    | intro _
    | split
    | with_reducible apply_assumption
    | dsimp only)

theorem State.forceOut_ok (s : State) (m : Nat) (e : Nat) (start : Int) (hs : s.Ok orig) :
    (State.forceOut s m e start).Ok orig := by
  unfold State.forceOut
  try dsimp only
  repeat' (first
    | with_reducible assumption
    | with_reducible apply State.stopTable_ok
    | with_reducible apply State.tellOverlap_ok
    | with_reducible apply foldl_ok
    | with_reducible apply parts_ok
    | simp only [mk_ok]
    | with_reducible apply iteS_ok
    | intro _
    | split
    | with_reducible apply_assumption
    | dsimp only)

theorem State.force_ok (s : State) (m : Nat) (kind : Nat) (es : List Nat) (hs : s.Ok orig) :
    (State.force s m kind es).Ok orig := by
  unfold State.force
  try dsimp only
  repeat' (first
    | with_reducible assumption
    | with_reducible apply State.forceOut_ok
    | with_reducible apply State.grantForced_ok
    | with_reducible apply foldl_ok
    | with_reducible apply parts_ok
    | simp only [mk_ok]
    | with_reducible apply iteS_ok
    | intro _
    | split
    | with_reducible apply_assumption
    | dsimp only)

theorem State.parkSpan_ok (s : State) (m : Nat) (hs : s.Ok orig) :
    (State.parkSpan s m).Ok orig := by
  unfold State.parkSpan
  try dsimp only
  repeat' (first
    | with_reducible assumption
    | with_reducible apply State.force_ok
    | with_reducible apply State.updPm_ok
    | with_reducible apply parts_ok
    | simp only [mk_ok]
    | with_reducible apply iteS_ok
    | intro _
    | split
    | with_reducible apply_assumption
    | dsimp only)

theorem State.parkHere_ok (s : State) (m : Nat) (hs : s.Ok orig) :
    (State.parkHere s m).Ok orig := by
  unfold State.parkHere
  try dsimp only
  repeat' (first
    | with_reducible assumption
    | with_reducible apply State.dropWins_ok
    | with_reducible apply State.parkSpan_ok
    | with_reducible apply State.updPm_ok
    | with_reducible apply parts_ok
    | simp only [mk_ok]
    | with_reducible apply iteS_ok
    | intro _
    | split
    | with_reducible apply_assumption
    | dsimp only)

theorem State.closeParks_ok (s : State) (m : Nat) (ts : List SegTab) (hs : s.Ok orig) :
    (State.closeParks s m ts).Ok orig := by
  unfold State.closeParks
  try dsimp only
  repeat' (first
    | with_reducible assumption
    | with_reducible apply State.updPgl_ok
    | with_reducible apply parts_ok
    | simp only [mk_ok]
    | with_reducible apply iteS_ok
    | intro _
    | split
    | with_reducible apply_assumption
    | dsimp only)

theorem State.rebase_ok (s : State) (m : Nat) (hs : s.Ok orig) :
    (State.rebase s m).Ok orig := by
  unfold State.rebase
  try dsimp only
  repeat' (first
    | with_reducible assumption
    | with_reducible apply State.closeParks_ok
    | with_reducible apply State.dropWins_ok
    | with_reducible apply State.parkSpan_ok
    | with_reducible apply State.updPm_ok
    | with_reducible apply parts_ok
    | simp only [mk_ok]
    | with_reducible apply iteS_ok
    | intro _
    | split
    | with_reducible apply_assumption
    | dsimp only)

theorem State.stopReached_ok (s : State) (m : Nat) (hs : s.Ok orig) :
    (State.stopReached s m).Ok orig := by
  unfold State.stopReached
  try dsimp only
  repeat' (first
    | with_reducible assumption
    | with_reducible apply State.pglEvent_ok
    | with_reducible apply State.updPm_ok
    | with_reducible apply parts_ok
    | simp only [mk_ok]
    | with_reducible apply iteS_ok
    | intro _
    | split
    | with_reducible apply_assumption
    | dsimp only)

theorem State.deviation_ok (s : State) (m : Nat) (matched : Int × Int) (epoch : Nat) (hs : s.Ok orig) :
    (State.deviation s m matched epoch).Ok orig := by
  unfold State.deviation
  try dsimp only
  repeat' (first
    | with_reducible assumption
    | with_reducible apply State.rebase_ok
    | with_reducible apply State.replan_ok
    | with_reducible apply State.updPm_ok
    | with_reducible apply parts_ok
    | simp only [mk_ok]
    | with_reducible apply iteS_ok
    | intro _
    | split
    | with_reducible apply_assumption
    | dsimp only)

theorem State.thawMember_ok (s : State) (m : Nat) (hs : s.Ok orig) :
    (State.thawMember s m).Ok orig := by
  unfold State.thawMember
  try dsimp only
  repeat' (first
    | with_reducible assumption
    | with_reducible apply State.parkHere_ok
    | with_reducible apply State.pglEvent_ok
    | with_reducible apply State.replan_ok
    | with_reducible apply parts_ok
    | simp only [mk_ok]
    | with_reducible apply iteS_ok
    | intro _
    | split
    | with_reducible apply_assumption
    | dsimp only)

theorem State.pglPosition_ok (s : State) (m : Nat) (e : Int) (n : Int) (epoch : Nat) (hs : s.Ok orig) :
    (State.pglPosition s m e n epoch).Ok orig := by
  unfold State.pglPosition
  try dsimp only
  repeat' (first
    | with_reducible assumption
    | with_reducible apply State.deviation_ok
    | with_reducible apply State.parkSpan_ok
    | with_reducible apply State.pglEvent_ok
    | with_reducible apply State.setF_ok
    | with_reducible apply State.stopReached_ok
    | with_reducible apply State.thawMember_ok
    | with_reducible apply State.updPm_ok
    | with_reducible apply parts_ok
    | simp only [mk_ok]
    | with_reducible apply iteS_ok
    | intro _
    | split
    | with_reducible apply_assumption
    | dsimp only)

theorem State.pglFix_ok (s : State) (m : Nat) (rec : Bytes) (hs : s.Ok orig) :
    (State.pglFix s m rec).Ok orig := by
  unfold State.pglFix
  try dsimp only
  repeat' (first
    | with_reducible assumption
    | with_reducible apply State.pglPosition_ok
    | with_reducible apply parts_ok
    | simp only [mk_ok]
    | with_reducible apply iteS_ok
    | intro _
    | split
    | with_reducible apply_assumption
    | dsimp only)

theorem State.holdMember_ok (s : State) (m : Nat) (info : Nat) (hs : s.Ok orig) :
    (State.holdMember s m info).Ok orig := by
  unfold State.holdMember
  try dsimp only
  repeat' (first
    | with_reducible assumption
    | with_reducible apply State.endStored_ok
    | with_reducible apply State.force_ok
    | with_reducible apply State.pglEvent_ok
    | with_reducible apply State.updPgl_ok
    | with_reducible apply parts_ok
    | simp only [mk_ok]
    | with_reducible apply iteS_ok
    | intro _
    | split
    | with_reducible apply_assumption
    | dsimp only)

theorem State.pglSilent_ok (s : State) (m : Nat) (hs : s.Ok orig) :
    (State.pglSilent s m).Ok orig := by
  unfold State.pglSilent
  try dsimp only
  repeat' (first
    | with_reducible assumption
    | with_reducible apply State.holdMember_ok
    | with_reducible apply State.updPm_ok
    | with_reducible apply parts_ok
    | simp only [mk_ok]
    | with_reducible apply iteS_ok
    | intro _
    | split
    | with_reducible apply_assumption
    | dsimp only)

theorem State.pglSilentEnd_ok (s : State) (m : Nat) (hs : s.Ok orig) :
    (State.pglSilentEnd s m).Ok orig := by
  unfold State.pglSilentEnd
  try dsimp only
  repeat' (first
    | with_reducible assumption
    | with_reducible apply State.thawMember_ok
    | with_reducible apply State.updPm_ok
    | with_reducible apply parts_ok
    | simp only [mk_ok]
    | with_reducible apply iteS_ok
    | intro _
    | split
    | with_reducible apply_assumption
    | dsimp only)

theorem State.leftMember_ok (s : State) (m : Nat) (hs : s.Ok orig) :
    (State.leftMember s m).Ok orig := by
  unfold State.leftMember
  try dsimp only
  repeat' (first
    | with_reducible assumption
    | with_reducible apply State.holdMember_ok
    | with_reducible apply State.parkHere_ok
    | with_reducible apply parts_ok
    | simp only [mk_ok]
    | with_reducible apply iteS_ok
    | intro _
    | split
    | with_reducible apply_assumption
    | dsimp only)

theorem State.pglLeave_ok (s : State) (m : Nat) (reason : Nat) (hs : s.Ok orig) :
    (State.pglLeave s m reason).Ok orig := by
  unfold State.pglLeave
  try dsimp only
  repeat' (first
    | with_reducible assumption
    | with_reducible apply State.leftMember_ok
    | with_reducible apply State.updPm_ok
    | with_reducible apply parts_ok
    | simp only [mk_ok]
    | with_reducible apply iteS_ok
    | intro _
    | split
    | with_reducible apply_assumption
    | dsimp only)

theorem State.pglActive_ok (s : State) (m : Nat) (hs : s.Ok orig) :
    (State.pglActive s m).Ok orig := by
  unfold State.pglActive
  try dsimp only
  repeat' (first
    | with_reducible assumption
    | with_reducible apply State.updPm_ok
    | with_reducible apply parts_ok
    | simp only [mk_ok]
    | with_reducible apply iteS_ok
    | intro _
    | split
    | with_reducible apply_assumption
    | dsimp only)

theorem State.dropTabs_ok (s : State) (m : Nat) (gone : List Nat) (hs : s.Ok orig) :
    (State.dropTabs s m gone).Ok orig := by
  unfold State.dropTabs
  try dsimp only
  repeat' (first
    | with_reducible assumption
    | with_reducible apply State.dropWins_ok
    | with_reducible apply State.parkSpan_ok
    | with_reducible apply State.replan_ok
    | with_reducible apply State.updPm_ok
    | with_reducible apply parts_ok
    | simp only [mk_ok]
    | with_reducible apply iteS_ok
    | intro _
    | split
    | with_reducible apply_assumption
    | dsimp only)

theorem State.segReport_ok (s : State) (m : Nat) (q : Nat) (hs : s.Ok orig) :
    (State.segReport s m q).Ok orig := by
  unfold State.segReport
  try dsimp only
  repeat' (first
    | with_reducible assumption
    | with_reducible apply State.dropTabs_ok
    | with_reducible apply State.dropWins_ok
    | with_reducible apply State.updPm_ok
    | with_reducible apply parts_ok
    | simp only [mk_ok]
    | with_reducible apply iteS_ok
    | intro _
    | split
    | with_reducible apply_assumption
    | dsimp only)

theorem State.segDropped_ok (s : State) (m : Nat) (q : Nat) (hs : s.Ok orig) :
    (State.segDropped s m q).Ok orig := by
  unfold State.segDropped
  try dsimp only
  repeat' (first
    | with_reducible assumption
    | with_reducible apply State.dropTabs_ok
    | with_reducible apply parts_ok
    | simp only [mk_ok]
    | with_reducible apply iteS_ok
    | intro _
    | split
    | with_reducible apply_assumption
    | dsimp only)

theorem State.moveWins_ok (s : State) (d : Int) (hs : s.Ok orig) :
    (State.moveWins s d).Ok orig := by
  unfold State.moveWins
  try dsimp only
  repeat' (first
    | with_reducible assumption
    | with_reducible apply State.updPgl_ok
    | with_reducible apply parts_ok
    | simp only [mk_ok]
    | with_reducible apply iteS_ok
    | intro _
    | split
    | with_reducible apply_assumption
    | dsimp only)

theorem State.steppedTable_ok (s : State) (m : Nat) (hs : s.Ok orig) :
    (State.steppedTable s m).Ok orig := by
  unfold State.steppedTable
  try dsimp only
  repeat' (first
    | with_reducible assumption
    | with_reducible apply State.sendForced_ok
    | with_reducible apply parts_ok
    | simp only [mk_ok]
    | with_reducible apply iteS_ok
    | intro _
    | split
    | with_reducible apply_assumption
    | dsimp only)

theorem State.pglStep_ok (s : State) (d : Int) (slots : Int) (hs : s.Ok orig) :
    (State.pglStep s d slots).Ok orig := by
  unfold State.pglStep
  try dsimp only
  repeat' (first
    | with_reducible assumption
    | with_reducible apply State.moveWins_ok
    | with_reducible apply State.steppedTable_ok
    | with_reducible apply State.updPgl_ok
    | with_reducible apply foldl_ok
    | with_reducible apply parts_ok
    | simp only [mk_ok]
    | with_reducible apply iteS_ok
    | intro _
    | split
    | with_reducible apply_assumption
    | dsimp only)

theorem State.clearMember_ok (s : State) (m : Nat) (hs : s.Ok orig) :
    (State.clearMember s m).Ok orig := by
  unfold State.clearMember
  try dsimp only
  repeat' (first
    | with_reducible assumption
    | with_reducible apply State.holdMember_ok
    | with_reducible apply State.leftMember_ok
    | with_reducible apply State.parkHere_ok
    | with_reducible apply State.pglEvent_ok
    | with_reducible apply State.setF_ok
    | with_reducible apply State.updPm_ok
    | with_reducible apply parts_ok
    | simp only [mk_ok]
    | with_reducible apply iteS_ok
    | intro _
    | split
    | with_reducible apply_assumption
    | dsimp only)

theorem State.pglClear_ok (s : State) (hs : s.Ok orig) :
    (State.pglClear s).Ok orig := by
  unfold State.pglClear
  try dsimp only
  repeat' (first
    | with_reducible assumption
    | with_reducible apply State.clearMember_ok
    | with_reducible apply State.moveWins_ok
    | with_reducible apply State.replan_ok
    | with_reducible apply State.setF_ok
    | with_reducible apply State.updPgl_ok
    | with_reducible apply foldl_ok
    | with_reducible apply parts_ok
    | simp only [mk_ok]
    | with_reducible apply iteS_ok
    | intro _
    | split
    | with_reducible apply_assumption
    | dsimp only)

theorem State.planIntake_ok (s : State) (hs : s.Ok orig) :
    (State.planIntake s).Ok orig := by
  unfold State.planIntake
  try dsimp only
  repeat' (first
    | with_reducible assumption
    | with_reducible apply State.endReq_ok
    | with_reducible apply State.endStored_ok
    | with_reducible apply State.incF_ok
    | with_reducible apply State.updPgl_ok
    | with_reducible apply parts_ok
    | simp only [mk_ok]
    | with_reducible apply iteS_ok
    | intro _
    | split
    | with_reducible apply_assumption
    | dsimp only)

theorem State.sendTask_ok (s : State) (m : Nat) (hs : s.Ok orig) :
    (State.sendTask s m).Ok orig := by
  unfold State.sendTask
  try dsimp only
  repeat' (first
    | with_reducible assumption
    | with_reducible apply State.dlPush_ok
    | with_reducible apply State.updPm_ok
    | with_reducible apply foldl_ok
    | with_reducible apply parts_ok
    | simp only [mk_ok]
    | with_reducible apply iteS_ok
    | intro _
    | split
    | with_reducible apply_assumption
    | dsimp only)

theorem State.grantPlan_ok (s : State) (r : PReq) (ts : List SegTab) (hs : s.Ok orig) :
    (State.grantPlan s r ts).Ok orig := by
  unfold State.grantPlan
  try dsimp only
  repeat' (first
    | with_reducible assumption
    | with_reducible apply State.closeParks_ok
    | with_reducible apply State.endReq_ok
    | with_reducible apply State.incF_ok
    | with_reducible apply State.pglEvent_ok
    | with_reducible apply State.sendTabs_ok
    | with_reducible apply State.sendTask_ok
    | with_reducible apply State.updPm_ok
    | with_reducible apply parts_ok
    | simp only [mk_ok]
    | with_reducible apply iteS_ok
    | intro _
    | split
    | with_reducible apply_assumption
    | dsimp only)

theorem State.noPath_ok (s : State) (r : PReq) (st : Nat) (hs : s.Ok orig) :
    (State.noPath s r st).Ok orig := by
  unfold State.noPath
  try dsimp only
  repeat' (first
    | with_reducible assumption
    | with_reducible apply State.endReq_ok
    | with_reducible apply State.incF_ok
    | with_reducible apply State.pglEvent_ok
    | with_reducible apply State.setF_ok
    | with_reducible apply State.stopTable_ok
    | with_reducible apply parts_ok
    | simp only [mk_ok]
    | with_reducible apply iteS_ok
    | intro _
    | split
    | with_reducible apply_assumption
    | dsimp only)

theorem State.planEnd_ok (s : State) (hs : s.Ok orig) :
    (State.planEnd s).Ok orig := by
  unfold State.planEnd
  try dsimp only
  repeat' (first
    | with_reducible assumption
    | with_reducible apply State.maxF_ok
    | with_reducible apply State.updPgl_ok
    | with_reducible apply parts_ok
    | simp only [mk_ok]
    | with_reducible apply iteS_ok
    | intro _
    | split
    | with_reducible apply_assumption
    | dsimp only)

theorem State.pglQueue_ok (s : State) (wid : Nat) (r : PReq) (hs : s.Ok orig) :
    (State.pglQueue s wid r).Ok orig := by
  unfold State.pglQueue
  try dsimp only
  repeat' (first
    | with_reducible assumption
    | with_reducible apply State.park_ok
    | with_reducible apply State.updItem_ok
    | with_reducible apply State.updPgl_ok
    | with_reducible apply parts_ok
    | simp only [mk_ok]
    | with_reducible apply iteS_ok
    | intro _
    | split
    | with_reducible apply_assumption
    | dsimp only)

theorem State.pglPlan_ok (s : State) (i : WItem) (hs : s.Ok orig) :
    (State.pglPlan s i).Ok orig := by
  unfold State.pglPlan
  try dsimp only
  repeat' (first
    | with_reducible assumption
    | with_reducible apply State.finish_ok
    | with_reducible apply State.incF_ok
    | with_reducible apply State.park_ok
    | with_reducible apply State.pglQueue_ok
    | with_reducible apply State.updPm_ok
    | with_reducible apply parts_ok
    | simp only [mk_ok]
    | with_reducible apply iteS_ok
    | intro _
    | split
    | with_reducible apply_assumption
    | dsimp only)

theorem State.pglAssign_ok (s : State) (i : WItem) (again : Option Nat) (hs : s.Ok orig) :
    (State.pglAssign s i again).Ok orig := by
  unfold State.pglAssign
  try dsimp only
  repeat' (first
    | with_reducible assumption
    | with_reducible apply State.finish_ok
    | with_reducible apply State.incF_ok
    | with_reducible apply State.park_ok
    | with_reducible apply State.pglQueue_ok
    | with_reducible apply State.updPm_ok
    | with_reducible apply parts_ok
    | simp only [mk_ok]
    | with_reducible apply iteS_ok
    | intro _
    | split
    | with_reducible apply_assumption
    | dsimp only)

theorem State.cancelReqs_ok (s : State) (m : Nat) (st : Nat) (hs : s.Ok orig) :
    (State.cancelReqs s m st).Ok orig := by
  unfold State.cancelReqs
  try dsimp only
  repeat' (first
    | with_reducible assumption
    | with_reducible apply State.endReq_ok
    | with_reducible apply State.updPgl_ok
    | with_reducible apply foldl_ok
    | with_reducible apply parts_ok
    | simp only [mk_ok]
    | with_reducible apply iteS_ok
    | intro _
    | split
    | with_reducible apply_assumption
    | dsimp only)

theorem State.releaseBeyond_ok (s : State) (m : Nat) (later : List Nat) (hs : s.Ok orig) :
    (State.releaseBeyond s m later).Ok orig := by
  unfold State.releaseBeyond
  try dsimp only
  repeat' (first
    | with_reducible assumption
    | with_reducible apply State.dropWins_ok
    | with_reducible apply parts_ok
    | simp only [mk_ok]
    | with_reducible apply iteS_ok
    | intro _
    | split
    | with_reducible apply_assumption
    | dsimp only)

theorem State.releaseFuture_ok (s : State) (wid : Nat) (m : Nat) (hs : s.Ok orig) :
    (State.releaseFuture s wid m).Ok orig := by
  unfold State.releaseFuture
  try dsimp only
  repeat' (first
    | with_reducible assumption
    | with_reducible apply State.cancelReqs_ok
    | with_reducible apply State.finish_ok
    | with_reducible apply State.releaseBeyond_ok
    | with_reducible apply State.stopTable_ok
    | with_reducible apply State.updPm_ok
    | with_reducible apply parts_ok
    | simp only [mk_ok]
    | with_reducible apply iteS_ok
    | intro _
    | split
    | with_reducible apply_assumption
    | dsimp only)

theorem State.releaseAll_ok (s : State) (wid : Nat) (m : Nat) (hs : s.Ok orig) :
    (State.releaseAll s wid m).Ok orig := by
  unfold State.releaseAll
  try dsimp only
  repeat' (first
    | with_reducible assumption
    | with_reducible apply State.dropWins_ok
    | with_reducible apply State.finish_ok
    | with_reducible apply State.updPm_ok
    | with_reducible apply parts_ok
    | simp only [mk_ok]
    | with_reducible apply iteS_ok
    | intro _
    | split
    | with_reducible apply_assumption
    | dsimp only)

theorem State.updBv_ok (s : State) (f : Bv → Bv) (hs : s.Ok orig) :
    (State.updBv s f).Ok orig := by
  unfold State.updBv
  try dsimp only
  repeat' (first
    | with_reducible assumption
    | with_reducible apply parts_ok
    | simp only [mk_ok]
    | with_reducible apply iteS_ok
    | intro _
    | split
    | with_reducible apply_assumption
    | dsimp only)

theorem State.setChan_ok (s : State) (x : BvChan) (hs : s.Ok orig) :
    (State.setChan s x).Ok orig := by
  unfold State.setChan
  try dsimp only
  repeat' (first
    | with_reducible assumption
    | with_reducible apply State.updBv_ok
    | with_reducible apply parts_ok
    | simp only [mk_ok]
    | with_reducible apply iteS_ok
    | intro _
    | split
    | with_reducible apply_assumption
    | dsimp only)

theorem State.idleChan_ok (s : State) (c : Nat) (hs : s.Ok orig) :
    (State.idleChan s c).Ok orig := by
  unfold State.idleChan
  try dsimp only
  repeat' (first
    | with_reducible assumption
    | with_reducible apply State.updBv_ok
    | with_reducible apply parts_ok
    | simp only [mk_ok]
    | with_reducible apply iteS_ok
    | intro _
    | split
    | with_reducible apply_assumption
    | dsimp only)

theorem State.bvEvent_ok (s : State) (kind : Nat) (index : Nat) (value : Nat) (hs : s.Ok orig) :
    (State.bvEvent s kind index value).Ok orig := by
  unfold State.bvEvent
  try dsimp only
  repeat' (first
    | with_reducible assumption
    | with_reducible apply State.observe_ok
    | with_reducible apply State.vbTrigger_ok
    | with_reducible apply parts_ok
    | simp only [mk_ok]
    | with_reducible apply iteS_ok
    | intro _
    | split
    | with_reducible apply_assumption
    | dsimp only)

theorem State.antSet_ok (s : State) (a : Nat) (st : Nat) (ma : Nat) (hs : s.Ok orig) :
    (State.antSet s a st ma).Ok orig := by
  unfold State.antSet
  try dsimp only
  repeat' (first
    | with_reducible assumption
    | with_reducible apply State.bvEvent_ok
    | with_reducible apply State.setF_ok
    | with_reducible apply State.updBv_ok
    | with_reducible apply parts_ok
    | simp only [mk_ok]
    | with_reducible apply iteS_ok
    | intro _
    | split
    | with_reducible apply_assumption
    | dsimp only)

theorem State.setBias_ok (s : State) (a : Nat) (v : Nat) (hs : s.Ok orig) :
    (State.setBias s a v).Ok orig := by
  unfold State.setBias
  try dsimp only
  repeat' (first
    | with_reducible assumption
    | with_reducible apply parts_ok
    | simp only [mk_ok]
    | with_reducible apply iteS_ok
    | intro _
    | split
    | with_reducible apply_assumption
    | dsimp only)

theorem State.endSurvey_ok (s : State) (st : Nat) (abort : Bool) (hs : s.Ok orig) :
    (State.endSurvey s st abort).Ok orig := by
  unfold State.endSurvey
  try dsimp only
  repeat' (first
    | with_reducible assumption
    | with_reducible apply State.bvEvent_ok
    | with_reducible apply State.setF_ok
    | with_reducible apply State.updBv_ok
    | with_reducible apply parts_ok
    | simp only [mk_ok]
    | with_reducible apply iteS_ok
    | intro _
    | split
    | with_reducible apply_assumption
    | dsimp only)

theorem State.switchAnt_ok (s : State) (a : Nat) (hs : s.Ok orig) :
    (State.switchAnt s a).Ok orig := by
  unfold State.switchAnt
  try dsimp only
  repeat' (first
    | with_reducible assumption
    | with_reducible apply State.bvEvent_ok
    | with_reducible apply State.endSurvey_ok
    | with_reducible apply State.setF_ok
    | with_reducible apply State.updBv_ok
    | with_reducible apply parts_ok
    | simp only [mk_ok]
    | with_reducible apply iteS_ok
    | intro _
    | split
    | with_reducible apply_assumption
    | dsimp only)

theorem State.assign_ok (s : State) (ant : Nat) (sys : Nat) (svid : Nat) (sig : Nat) (elev : Nat) (st : Nat) (hs : s.Ok orig) :
    (State.assign s ant sys svid sig elev st).Ok orig := by
  unfold State.assign
  try dsimp only
  repeat' (first
    | with_reducible assumption
    | with_reducible apply State.setChan_ok
    | with_reducible apply parts_ok
    | simp only [mk_ok]
    | with_reducible apply iteS_ok
    | intro _
    | split
    | with_reducible apply_assumption
    | dsimp only)

theorem State.dropSearch_ok (s : State) (c : Nat) (hs : s.Ok orig) :
    (State.dropSearch s c).Ok orig := by
  unfold State.dropSearch
  try dsimp only
  repeat' (first
    | with_reducible assumption
    | with_reducible apply State.idleStart_ok
    | with_reducible apply State.updBv_ok
    | with_reducible apply parts_ok
    | simp only [mk_ok]
    | with_reducible apply iteS_ok
    | intro _
    | split
    | with_reducible apply_assumption
    | dsimp only)

theorem State.handTo_ok (s : State) (ant : Nat) (sys : Nat) (svid : Nat) (sig : Nat) (elev : Nat) (hs : s.Ok orig) :
    (State.handTo s ant sys svid sig elev).Ok orig := by
  unfold State.handTo
  try dsimp only
  repeat' (first
    | with_reducible assumption
    | with_reducible apply State.assign_ok
    | with_reducible apply State.dropSearch_ok
    | with_reducible apply State.setChan_ok
    | with_reducible apply parts_ok
    | simp only [mk_ok]
    | with_reducible apply iteS_ok
    | intro _
    | split
    | with_reducible apply_assumption
    | dsimp only)

theorem State.handover_ok (s : State) (x : BvChan) (hs : s.Ok orig) :
    (State.handover s x).Ok orig := by
  unfold State.handover
  try dsimp only
  repeat' (first
    | with_reducible assumption
    | with_reducible apply State.handTo_ok
    | with_reducible apply foldl_ok
    | with_reducible apply parts_ok
    | simp only [mk_ok]
    | with_reducible apply iteS_ok
    | intro _
    | split
    | with_reducible apply_assumption
    | dsimp only)

theorem State.handoverAll_ok (s : State) (hs : s.Ok orig) :
    (State.handoverAll s).Ok orig := by
  unfold State.handoverAll
  try dsimp only
  repeat' (first
    | with_reducible assumption
    | with_reducible apply State.handover_ok
    | with_reducible apply foldl_ok
    | with_reducible apply parts_ok
    | simp only [mk_ok]
    | with_reducible apply iteS_ok
    | intro _
    | split
    | with_reducible apply_assumption
    | dsimp only)

theorem State.releaseChan_ok (s : State) (c : Nat) (hs : s.Ok orig) :
    (State.releaseChan s c).Ok orig := by
  unfold State.releaseChan
  try dsimp only
  repeat' (first
    | with_reducible assumption
    | with_reducible apply State.dropSearch_ok
    | with_reducible apply State.handoverAll_ok
    | with_reducible apply State.idleChan_ok
    | with_reducible apply parts_ok
    | simp only [mk_ok]
    | with_reducible apply iteS_ok
    | intro _
    | split
    | with_reducible apply_assumption
    | dsimp only)

theorem State.queueSearch_ok (s : State) (q : BvSearch) (hs : s.Ok orig) :
    (State.queueSearch s q).Ok orig := by
  unfold State.queueSearch
  try dsimp only
  repeat' (first
    | with_reducible assumption
    | with_reducible apply State.domEvent_ok
    | with_reducible apply State.updBv_ok
    | with_reducible apply parts_ok
    | simp only [mk_ok]
    | with_reducible apply iteS_ok
    | intro _
    | split
    | with_reducible apply_assumption
    | dsimp only)

theorem State.noteSky_ok (s : State) (l : List SkyAim) (hs : s.Ok orig) :
    (State.noteSky s l).Ok orig := by
  unfold State.noteSky
  try dsimp only
  repeat' (first
    | with_reducible assumption
    | with_reducible apply State.updBv_ok
    | with_reducible apply parts_ok
    | simp only [mk_ok]
    | with_reducible apply iteS_ok
    | intro _
    | split
    | with_reducible apply_assumption
    | dsimp only)

theorem State.runSearch_ok (s : State) (p : Nat) (q : BvSearch) (hs : s.Ok orig) :
    (State.runSearch s p q).Ok orig := by
  unfold State.runSearch
  try dsimp only
  repeat' (first
    | with_reducible assumption
    | with_reducible apply State.updBv_ok
    | with_reducible apply parts_ok
    | simp only [mk_ok]
    | with_reducible apply iteS_ok
    | intro _
    | split
    | with_reducible apply_assumption
    | dsimp only)

theorem State.skySearch_ok (s : State) (p : Nat) (aim : SkyAim) (hs : s.Ok orig) :
    (State.skySearch s p aim).Ok orig := by
  unfold State.skySearch
  try dsimp only
  repeat' (first
    | with_reducible assumption
    | with_reducible apply State.assign_ok
    | with_reducible apply State.queueSearch_ok
    | with_reducible apply State.runSearch_ok
    | with_reducible apply parts_ok
    | simp only [mk_ok]
    | with_reducible apply iteS_ok
    | intro _
    | split
    | with_reducible apply_assumption
    | dsimp only)

theorem State.detected_ok (s : State) (ant : Nat) (sys : Nat) (svid : Nat) (sig : Nat) (hs : s.Ok orig) :
    (State.detected s ant sys svid sig).Ok orig := by
  unfold State.detected
  try dsimp only
  repeat' (first
    | with_reducible assumption
    | with_reducible apply State.assign_ok
    | with_reducible apply State.dropSearch_ok
    | with_reducible apply State.setChan_ok
    | with_reducible apply parts_ok
    | simp only [mk_ok]
    | with_reducible apply iteS_ok
    | intro _
    | split
    | with_reducible apply_assumption
    | dsimp only)

theorem State.skyFill_ok (s : State) (p : Nat) (sig : Nat) (hs : s.Ok orig) :
    (State.skyFill s p sig).Ok orig := by
  unfold State.skyFill
  try dsimp only
  repeat' (first
    | with_reducible assumption
    | with_reducible apply State.assign_ok
    | with_reducible apply State.queueSearch_ok
    | with_reducible apply foldl_ok
    | with_reducible apply elim_ok
    | with_reducible apply parts_ok
    | simp only [mk_ok]
    | with_reducible apply iteS_ok
    | intro _
    | split
    | with_reducible apply_assumption
    | dsimp only)

theorem State.skyStart_ok (s : State) (hs : s.Ok orig) :
    (State.skyStart s).Ok orig := by
  unfold State.skyStart
  try dsimp only
  repeat' (first
    | with_reducible assumption
    | with_reducible apply State.skyFill_ok
    | with_reducible apply foldl_ok
    | with_reducible apply parts_ok
    | simp only [mk_ok]
    | with_reducible apply iteS_ok
    | intro _
    | split
    | with_reducible apply_assumption
    | dsimp only)

theorem State.chanIn_ok (s : State) (c : Nat) (ok : BvChan → Bool) (k : BvChan → State) (hs : s.Ok orig) (hk : ∀ (a0 : BvChan), (k a0).Ok orig) :
    (State.chanIn s c ok k).Ok orig := by
  unfold State.chanIn
  try dsimp only
  repeat' (first
    | with_reducible assumption
    | with_reducible apply parts_ok
    | simp only [mk_ok]
    | with_reducible apply iteS_ok
    | intro _
    | split
    | with_reducible apply_assumption
    | dsimp only)

theorem State.pullInLost_ok (s : State) (x : BvChan) (hs : s.Ok orig) :
    (State.pullInLost s x).Ok orig := by
  unfold State.pullInLost
  try dsimp only
  repeat' (first
    | with_reducible assumption
    | with_reducible apply State.idleChan_ok
    | with_reducible apply State.queueSearch_ok
    | with_reducible apply State.setChan_ok
    | with_reducible apply parts_ok
    | simp only [mk_ok]
    | with_reducible apply iteS_ok
    | intro _
    | split
    | with_reducible apply_assumption
    | dsimp only)

theorem State.trackLost_ok (s : State) (x : BvChan) (hs : s.Ok orig) :
    (State.trackLost s x).Ok orig := by
  unfold State.trackLost
  try dsimp only
  repeat' (first
    | with_reducible assumption
    | with_reducible apply State.queueSearch_ok
    | with_reducible apply State.setChan_ok
    | with_reducible apply parts_ok
    | simp only [mk_ok]
    | with_reducible apply iteS_ok
    | intro _
    | split
    | with_reducible apply_assumption
    | dsimp only)

theorem State.bvStepped_ok (s : State) (t0 : Nat) (t1 : Nat) (hs : s.Ok orig) :
    (State.bvStepped s t0 t1).Ok orig := by
  unfold State.bvStepped
  try dsimp only
  repeat' (first
    | with_reducible assumption
    | with_reducible apply State.setF_ok
    | with_reducible apply State.updBv_ok
    | with_reducible apply parts_ok
    | simp only [mk_ok]
    | with_reducible apply iteS_ok
    | intro _
    | split
    | with_reducible apply_assumption
    | dsimp only)

theorem State.slvBase_ok (s : State) (hs : s.Ok orig) :
    (State.slvBase s).Ok orig := by
  unfold State.slvBase
  try dsimp only
  repeat' (first
    | with_reducible assumption
    | with_reducible apply foldl_ok
    | with_reducible apply parts_ok
    | simp only [mk_ok]
    | with_reducible apply iteS_ok
    | intro _
    | split
    | with_reducible apply_assumption
    | dsimp only)

theorem State.putFlags_ok (s : State) (old : BvChan) (new : BvChan) (checks : Nat) (hs : s.Ok orig) :
    (State.putFlags s old new checks).Ok orig := by
  unfold State.putFlags
  try dsimp only
  repeat' (first
    | with_reducible assumption
    | with_reducible apply State.bvEvent_ok
    | with_reducible apply State.setChan_ok
    | with_reducible apply parts_ok
    | simp only [mk_ok]
    | with_reducible apply iteS_ok
    | intro _
    | split
    | with_reducible apply_assumption
    | dsimp only)

theorem State.evalSig_ok (s : State) (sigs : List SigEval) (e : SigEval) (hs : s.Ok orig) :
    (State.evalSig s sigs e).Ok orig := by
  unfold State.evalSig
  try dsimp only
  repeat' (first
    | with_reducible assumption
    | with_reducible apply State.putFlags_ok
    | with_reducible apply State.setChan_ok
    | with_reducible apply parts_ok
    | simp only [mk_ok]
    | with_reducible apply iteS_ok
    | intro _
    | split
    | with_reducible apply_assumption
    | dsimp only)

theorem State.putSys_ok (s : State) (y : Nat) (newS : Bool) (newN : Bool) (checks : Nat) (hs : s.Ok orig) :
    (State.putSys s y newS newN checks).Ok orig := by
  unfold State.putSys
  try dsimp only
  repeat' (first
    | with_reducible assumption
    | with_reducible apply State.bvEvent_ok
    | with_reducible apply State.setF_ok
    | with_reducible apply parts_ok
    | simp only [mk_ok]
    | with_reducible apply iteS_ok
    | intro _
    | split
    | with_reducible apply_assumption
    | dsimp only)

theorem State.evalSys_ok (s : State) (y : Nat) (raised : Nat) (checks : Nat) (hs : s.Ok orig) :
    (State.evalSys s y raised checks).Ok orig := by
  unfold State.evalSys
  try dsimp only
  repeat' (first
    | with_reducible assumption
    | with_reducible apply State.putSys_ok
    | with_reducible apply State.updBv_ok
    | with_reducible apply parts_ok
    | simp only [mk_ok]
    | with_reducible apply iteS_ok
    | intro _
    | split
    | with_reducible apply_assumption
    | dsimp only)

theorem State.setPos_ok (s : State) (a : Nat) (p : Option (List Int)) (hs : s.Ok orig) :
    (State.setPos s a p).Ok orig := by
  unfold State.setPos
  try dsimp only
  repeat' (first
    | with_reducible assumption
    | with_reducible apply State.updBv_ok
    | with_reducible apply parts_ok
    | simp only [mk_ok]
    | with_reducible apply iteS_ok
    | intro _
    | split
    | with_reducible apply_assumption
    | dsimp only)

theorem State.surveySecond_ok (s : State) (p : List Int) (hs : s.Ok orig) :
    (State.surveySecond s p).Ok orig := by
  unfold State.surveySecond
  try dsimp only
  repeat' (first
    | with_reducible assumption
    | with_reducible apply State.endSurvey_ok
    | with_reducible apply State.psRequest_ok
    | with_reducible apply State.setPos_ok
    | with_reducible apply State.updBv_ok
    | with_reducible apply State.wr_ok
    | with_reducible apply parts_ok
    | simp only [mk_ok]
    | with_reducible apply iteS_ok
    | intro _
    | split
    | with_reducible apply_assumption
    | dsimp only)

theorem State.startSurvey_ok (s : State) (minT : Nat) (maxT : Nat) (acc : Nat) (hs : s.Ok orig) :
    (State.startSurvey s minT maxT acc).Ok orig := by
  unfold State.startSurvey
  try dsimp only
  repeat' (first
    | with_reducible assumption
    | with_reducible apply State.setF_ok
    | with_reducible apply State.updBv_ok
    | with_reducible apply State.wr_ok
    | with_reducible apply parts_ok
    | simp only [mk_ok]
    | with_reducible apply iteS_ok
    | intro _
    | split
    | with_reducible apply_assumption
    | dsimp only)

theorem State.bvPlace_ok (s : State) (hs : s.Ok orig) :
    (State.bvPlace s).Ok orig := by
  unfold State.bvPlace
  try dsimp only
  repeat' (first
    | with_reducible assumption
    | with_reducible apply State.setF_ok
    | with_reducible apply State.setPos_ok
    | with_reducible apply State.startSurvey_ok
    | with_reducible apply parts_ok
    | simp only [mk_ok]
    | with_reducible apply iteS_ok
    | intro _
    | split
    | with_reducible apply_assumption
    | dsimp only)

theorem State.bvStart_ok (s : State) (hs : s.Ok orig) :
    (State.bvStart s).Ok orig := by
  unfold State.bvStart
  try dsimp only
  repeat' (first
    | with_reducible assumption
    | with_reducible apply State.bvPlace_ok
    | with_reducible apply State.skyStart_ok
    | with_reducible apply parts_ok
    | simp only [mk_ok]
    | with_reducible apply iteS_ok
    | intro _
    | split
    | with_reducible apply_assumption
    | dsimp only)

theorem State.posCheck_ok (s : State) (a : Nat) (fail : Option Bool) (hs : s.Ok orig) :
    (State.posCheck s a fail).Ok orig := by
  unfold State.posCheck
  try dsimp only
  repeat' (first
    | with_reducible assumption
    | with_reducible apply State.updBv_ok
    | with_reducible apply parts_ok
    | simp only [mk_ok]
    | with_reducible apply iteS_ok
    | intro _
    | split
    | with_reducible apply_assumption
    | dsimp only)

theorem State.navData_ok (s : State) (r : TimeSol) (hs : s.Ok orig) :
    (State.navData s r).Ok orig := by
  unfold State.navData
  try dsimp only
  repeat' (first
    | with_reducible assumption
    | with_reducible apply State.noteSky_ok
    | with_reducible apply State.setF_ok
    | with_reducible apply State.setI_ok
    | with_reducible apply State.updBv_ok
    | with_reducible apply foldl_ok
    | with_reducible apply parts_ok
    | simp only [mk_ok]
    | with_reducible apply iteS_ok
    | intro _
    | split
    | with_reducible apply_assumption
    | dsimp only)

theorem State.isbStep_ok (s : State) (r : TimeSol) (sats : List (Nat × Nat)) (y : Nat) (hs : s.Ok orig) :
    (State.isbStep s r sats y).Ok orig := by
  unfold State.isbStep
  try dsimp only
  repeat' (first
    | with_reducible assumption
    | with_reducible apply State.setF_ok
    | with_reducible apply State.setI_ok
    | with_reducible apply State.updBv_ok
    | with_reducible apply parts_ok
    | simp only [mk_ok]
    | with_reducible apply iteS_ok
    | intro _
    | split
    | with_reducible apply_assumption
    | dsimp only)

theorem State.solShow_ok (s : State) (r : TimeSol) (sats : List (Nat × Nat)) (hs : s.Ok orig) :
    (State.solShow s r sats).Ok orig := by
  unfold State.solShow
  try dsimp only
  repeat' (first
    | with_reducible assumption
    | with_reducible apply State.isbStep_ok
    | with_reducible apply State.setF_ok
    | with_reducible apply State.setI_ok
    | with_reducible apply foldl_ok
    | with_reducible apply parts_ok
    | simp only [mk_ok]
    | with_reducible apply iteS_ok
    | intro _
    | split
    | with_reducible apply_assumption
    | dsimp only)

theorem State.solEnd_ok (s : State) (r : TimeSol) (ok : Bool) (hs : s.Ok orig) :
    (State.solEnd s r ok).Ok orig := by
  unfold State.solEnd
  try dsimp only
  repeat' (first
    | with_reducible assumption
    | with_reducible apply State.bvEvent_ok
    | with_reducible apply State.setF_ok
    | with_reducible apply State.updBv_ok
    | with_reducible apply parts_ok
    | simp only [mk_ok]
    | with_reducible apply iteS_ok
    | intro _
    | split
    | with_reducible apply_assumption
    | dsimp only)

theorem State.posChecks_ok (s : State) (r : TimeSol) (sats : List (Nat × Nat)) (hs : s.Ok orig) :
    (State.posChecks s r sats).Ok orig := by
  unfold State.posChecks
  try dsimp only
  repeat' (first
    | with_reducible assumption
    | with_reducible apply State.posCheck_ok
    | with_reducible apply parts_ok
    | simp only [mk_ok]
    | with_reducible apply iteS_ok
    | intro _
    | split
    | with_reducible apply_assumption
    | dsimp only)

theorem State.solFlags_ok (s : State) (r : TimeSol) (sats : List (Nat × Nat)) (hs : s.Ok orig) :
    (State.solFlags s r sats).Ok orig := by
  unfold State.solFlags
  try dsimp only
  repeat' (first
    | with_reducible assumption
    | with_reducible apply State.evalSig_ok
    | with_reducible apply State.evalSys_ok
    | with_reducible apply State.setF_ok
    | with_reducible apply foldl_ok
    | with_reducible apply parts_ok
    | simp only [mk_ok]
    | with_reducible apply iteS_ok
    | intro _
    | split
    | with_reducible apply_assumption
    | dsimp only)

theorem State.surveyTake_ok (s : State) (r : TimeSol) (hs : s.Ok orig) :
    (State.surveyTake s r).Ok orig := by
  unfold State.surveyTake
  try dsimp only
  repeat' (first
    | with_reducible assumption
    | with_reducible apply State.surveySecond_ok
    | with_reducible apply parts_ok
    | simp only [mk_ok]
    | with_reducible apply iteS_ok
    | intro _
    | split
    | with_reducible apply_assumption
    | dsimp only)

theorem State.noiseSig_ok (s : State) (x : BvChan) (hs : s.Ok orig) :
    (State.noiseSig s x).Ok orig := by
  unfold State.noiseSig
  try dsimp only
  repeat' (first
    | with_reducible assumption
    | with_reducible apply State.putFlags_ok
    | with_reducible apply parts_ok
    | simp only [mk_ok]
    | with_reducible apply iteS_ok
    | intro _
    | split
    | with_reducible apply_assumption
    | dsimp only)

theorem State.noiseSys_ok (s : State) (y : Nat) (hs : s.Ok orig) :
    (State.noiseSys s y).Ok orig := by
  unfold State.noiseSys
  try dsimp only
  repeat' (first
    | with_reducible assumption
    | with_reducible apply State.putSys_ok
    | with_reducible apply State.updBv_ok
    | with_reducible apply parts_ok
    | simp only [mk_ok]
    | with_reducible apply iteS_ok
    | intro _
    | split
    | with_reducible apply_assumption
    | dsimp only)

theorem State.surveyItem_ok (s : State) (wid : Nat) (mode : Nat) (k : WItem → State) (hs : s.Ok orig) (hk : ∀ (a0 : WItem), (k a0).Ok orig) :
    (State.surveyItem s wid mode k).Ok orig := by
  unfold State.surveyItem
  try dsimp only
  repeat' (first
    | with_reducible assumption
    | with_reducible apply State.finish_ok
    | with_reducible apply parts_ok
    | simp only [mk_ok]
    | with_reducible apply iteS_ok
    | intro _
    | split
    | with_reducible apply_assumption
    | dsimp only)

theorem State.updSlv_ok (s : State) (f : Slv → Slv) (hs : s.Ok orig) :
    (State.updSlv s f).Ok orig := by
  unfold State.updSlv
  try dsimp only
  repeat' (first
    | with_reducible assumption
    | with_reducible apply parts_ok
    | simp only [mk_ok]
    | with_reducible apply iteS_ok
    | intro _
    | split
    | with_reducible apply_assumption
    | dsimp only)

theorem State.setRover_ok (s : State) (r : Rover) (hs : s.Ok orig) :
    (State.setRover s r).Ok orig := by
  unfold State.setRover
  try dsimp only
  repeat' (first
    | with_reducible assumption
    | with_reducible apply State.updSlv_ok
    | with_reducible apply parts_ok
    | simp only [mk_ok]
    | with_reducible apply iteS_ok
    | intro _
    | split
    | with_reducible apply_assumption
    | dsimp only)

theorem State.slvDeliver_ok (s : State) (m : Nat) (epoch : Nat) (status : Nat) (pos : Bytes) (sigma : Nat) (nsv : Nat) (flags : Nat) (nsig : Nat) (hs : s.Ok orig) :
    (State.slvDeliver s m epoch status pos sigma nsv flags nsig).Ok orig := by
  unfold State.slvDeliver
  try dsimp only
  repeat' (first
    | with_reducible assumption
    | with_reducible apply State.incF_ok
    | with_reducible apply State.maxF_ok
    | with_reducible apply State.observe_ok
    | with_reducible apply State.pglFix_ok
    | with_reducible apply State.raiseTask_ok
    | with_reducible apply State.setF_ok
    | with_reducible apply State.setRover_ok
    | with_reducible apply State.status_ok
    | with_reducible apply State.updSlv_ok
    | with_reducible apply parts_ok
    | simp only [mk_ok]
    | with_reducible apply iteS_ok
    | intro _
    | split
    | with_reducible apply_assumption
    | dsimp only)

theorem State.slvComplete_ok (s : State) (m : Nat) (epoch : Nat) (status : Nat) (late : Nat) (hs : s.Ok orig) :
    (State.slvComplete s m epoch status late).Ok orig := by
  unfold State.slvComplete
  try dsimp only
  repeat' (first
    | with_reducible assumption
    | with_reducible apply State.slvDeliver_ok
    | with_reducible apply State.status_ok
    | with_reducible apply State.updSlv_ok
    | with_reducible apply parts_ok
    | simp only [mk_ok]
    | with_reducible apply iteS_ok
    | intro _
    | split
    | with_reducible apply_assumption
    | dsimp only)

theorem State.payOwed_ok (s : State) (hs : s.Ok orig) :
    (State.payOwed s).Ok orig := by
  unfold State.payOwed
  try dsimp only
  repeat' (first
    | with_reducible assumption
    | with_reducible apply State.slvDeliver_ok
    | with_reducible apply State.updSlv_ok
    | with_reducible apply foldl_ok
    | with_reducible apply parts_ok
    | simp only [mk_ok]
    | with_reducible apply iteS_ok
    | intro _
    | split
    | with_reducible apply_assumption
    | dsimp only)

theorem State.budgetPass_ok (s : State) (hs : s.Ok orig) :
    (State.budgetPass s).1.Ok orig := by
  unfold State.budgetPass
  try dsimp only
  repeat' (first
    | with_reducible assumption
    | with_reducible apply State.deferred_ok
    | with_reducible apply State.incF_ok
    | with_reducible apply State.setF_ok
    | with_reducible apply State.slvComplete_ok
    | with_reducible apply State.updSlv_ok
    | with_reducible apply foldl_ok
    | with_reducible apply parts_ok
    | simp only [mk_ok]
    | with_reducible apply iteS_ok
    | intro _
    | split
    | with_reducible apply_assumption
    | dsimp only)

theorem State.budgetBoundary_ok (s : State) (hs : s.Ok orig) :
    (State.budgetBoundary s).Ok orig := by
  unfold State.budgetBoundary
  try dsimp only
  repeat' (first
    | with_reducible assumption
    | with_reducible apply State.budgetPass_ok
    | with_reducible apply State.setF_ok
    | with_reducible apply State.updSlv_ok
    | with_reducible apply parts_ok
    | simp only [mk_ok]
    | with_reducible apply iteS_ok
    | intro _
    | split
    | with_reducible apply_assumption
    | dsimp only)

theorem State.obsIntake_ok (s : State) (hs : s.Ok orig) :
    (State.obsIntake s).Ok orig := by
  unfold State.obsIntake
  try dsimp only
  repeat' (first
    | with_reducible assumption
    | with_reducible apply State.budgetPass_ok
    | with_reducible apply State.deferred_ok
    | with_reducible apply State.observe_ok
    | with_reducible apply State.payOwed_ok
    | with_reducible apply State.setRover_ok
    | with_reducible apply State.slvBase_ok
    | with_reducible apply State.slvDeliver_ok
    | with_reducible apply State.updSlv_ok
    | with_reducible apply parts_ok
    | simp only [mk_ok]
    | with_reducible apply iteS_ok
    | intro _
    | split
    | with_reducible apply_assumption
    | dsimp only)

theorem State.laneFree_ok (s : State) (l : Nat) (hs : s.Ok orig) :
    (State.laneFree s l).Ok orig := by
  unfold State.laneFree
  try dsimp only
  repeat' (first
    | with_reducible assumption
    | with_reducible apply State.updSlv_ok
    | with_reducible apply parts_ok
    | simp only [mk_ok]
    | with_reducible apply iteS_ok
    | intro _
    | split
    | with_reducible apply_assumption
    | dsimp only)

theorem State.abandon_ok (s : State) (l : Nat) (x : ObsRec) (hs : s.Ok orig) :
    (State.abandon s l x).Ok orig := by
  unfold State.abandon
  try dsimp only
  repeat' (first
    | with_reducible assumption
    | with_reducible apply State.laneFree_ok
    | with_reducible apply State.setF_ok
    | with_reducible apply State.slvComplete_ok
    | with_reducible apply parts_ok
    | simp only [mk_ok]
    | with_reducible apply iteS_ok
    | intro _
    | split
    | with_reducible apply_assumption
    | dsimp only)

theorem State.deliverFix_ok (s : State) (x : ObsRec) (l : List Sd) (hs : s.Ok orig) :
    (State.deliverFix s x l).Ok orig := by
  unfold State.deliverFix
  try dsimp only
  repeat' (first
    | with_reducible assumption
    | with_reducible apply State.deferred_ok
    | with_reducible apply State.incF_ok
    | with_reducible apply State.setF_ok
    | with_reducible apply State.setRover_ok
    | with_reducible apply State.slvDeliver_ok
    | with_reducible apply State.status_ok
    | with_reducible apply parts_ok
    | simp only [mk_ok]
    | with_reducible apply iteS_ok
    | intro _
    | split
    | with_reducible apply_assumption
    | dsimp only)

theorem State.noObs_ok (s : State) (slot : Nat) (epoch : Nat) (hs : s.Ok orig) :
    (State.noObs s slot epoch).Ok orig := by
  unfold State.noObs
  try dsimp only
  repeat' (first
    | with_reducible assumption
    | with_reducible apply State.slvComplete_ok
    | with_reducible apply State.updSlv_ok
    | with_reducible apply foldl_ok
    | with_reducible apply parts_ok
    | simp only [mk_ok]
    | with_reducible apply iteS_ok
    | intro _
    | split
    | with_reducible apply_assumption
    | dsimp only)

theorem State.roverItem_ok (s : State) (wid : Nat) (mode : Nat) (k : Nat → State) (hs : s.Ok orig) (hk : ∀ (a0 : Nat), (k a0).Ok orig) :
    (State.roverItem s wid mode k).Ok orig := by
  unfold State.roverItem
  try dsimp only
  repeat' (first
    | with_reducible assumption
    | with_reducible apply State.finish_ok
    | with_reducible apply parts_ok
    | simp only [mk_ok]
    | with_reducible apply iteS_ok
    | intro _
    | split
    | with_reducible apply_assumption
    | dsimp only)

theorem State.fixPull_ok (s : State) (hs : s.Ok orig) :
    (State.fixPull s).Ok orig := by
  unfold State.fixPull
  try dsimp only
  repeat' (first
    | with_reducible assumption
    | with_reducible apply State.updSlv_ok
    | with_reducible apply parts_ok
    | simp only [mk_ok]
    | with_reducible apply iteS_ok
    | intro _
    | split
    | with_reducible apply_assumption
    | dsimp only)

theorem State.fixLapse_ok (s : State) (hs : s.Ok orig) :
    (State.fixLapse s).Ok orig := by
  unfold State.fixLapse
  try dsimp only
  repeat' (first
    | with_reducible assumption
    | with_reducible apply State.fixPull_ok
    | with_reducible apply parts_ok
    | simp only [mk_ok]
    | with_reducible apply iteS_ok
    | intro _
    | split
    | with_reducible apply_assumption
    | dsimp only)

theorem State.fixesSent_ok (s : State) (fs : List FixRec) (hs : s.Ok orig) :
    (State.fixesSent s fs).Ok orig := by
  unfold State.fixesSent
  try dsimp only
  repeat' (first
    | with_reducible assumption
    | with_reducible apply parts_ok
    | simp only [mk_ok]
    | with_reducible apply iteS_ok
    | intro _
    | split
    | with_reducible apply_assumption
    | dsimp only)

theorem State.updFleet_ok (s : State) (f : Fleet → Fleet) (hs : s.Ok orig) :
    (State.updFleet s f).Ok orig := by
  unfold State.updFleet
  try dsimp only
  repeat' (first
    | with_reducible assumption
    | with_reducible apply parts_ok
    | simp only [mk_ok]
    | with_reducible apply iteS_ok
    | intro _
    | split
    | with_reducible apply_assumption
    | dsimp only)

theorem State.markDesync_ok (s : State) (m : Nat) (hs : s.Ok orig) :
    (State.markDesync s m).Ok orig := by
  unfold State.markDesync
  try dsimp only
  repeat' (first
    | with_reducible assumption
    | with_reducible apply State.setF_ok
    | with_reducible apply State.updFleet_ok
    | with_reducible apply State.updMbr_ok
    | with_reducible apply parts_ok
    | simp only [mk_ok]
    | with_reducible apply iteS_ok
    | intro _
    | split
    | with_reducible apply_assumption
    | dsimp only)

theorem State.endDesync_ok (s : State) (m : Nat) (hs : s.Ok orig) :
    (State.endDesync s m).Ok orig := by
  unfold State.endDesync
  try dsimp only
  repeat' (first
    | with_reducible assumption
    | with_reducible apply State.updFleet_ok
    | with_reducible apply State.updMbr_ok
    | with_reducible apply parts_ok
    | simp only [mk_ok]
    | with_reducible apply iteS_ok
    | intro _
    | split
    | with_reducible apply_assumption
    | dsimp only)

theorem State.partner_ok (s : State) (m : Nat) (e : Int) (corr : Int) (hs : s.Ok orig) :
    (State.partner s m e corr).Ok orig := by
  unfold State.partner
  try dsimp only
  repeat' (first
    | with_reducible assumption
    | with_reducible apply State.updMbr_ok
    | with_reducible apply parts_ok
    | simp only [mk_ok]
    | with_reducible apply iteS_ok
    | intro _
    | split
    | with_reducible apply_assumption
    | dsimp only)

theorem State.nextSetup_ok (s : State) (m : Nat) (hs : s.Ok orig) :
    (State.nextSetup s m).Ok orig := by
  unfold State.nextSetup
  try dsimp only
  repeat' (first
    | with_reducible assumption
    | with_reducible apply State.dlPush_ok
    | with_reducible apply State.updMbr_ok
    | with_reducible apply parts_ok
    | simp only [mk_ok]
    | with_reducible apply iteS_ok
    | intro _
    | split
    | with_reducible apply_assumption
    | dsimp only)

theorem State.dropFrame_ok (s : State) (f : DlFrame) (hs : s.Ok orig) :
    (State.dropFrame s f).Ok orig := by
  unfold State.dropFrame
  try dsimp only
  repeat' (first
    | with_reducible assumption
    | with_reducible apply State.finish_ok
    | with_reducible apply parts_ok
    | simp only [mk_ok]
    | with_reducible apply iteS_ok
    | intro _
    | split
    | with_reducible apply_assumption
    | dsimp only)

theorem State.dropFrames_ok (s : State) (m : Nat) (p : DlFrame → Bool) (hs : s.Ok orig) :
    (State.dropFrames s m p).Ok orig := by
  unfold State.dropFrames
  try dsimp only
  repeat' (first
    | with_reducible assumption
    | with_reducible apply State.dropFrame_ok
    | with_reducible apply foldl_ok
    | with_reducible apply parts_ok
    | simp only [mk_ok]
    | with_reducible apply iteS_ok
    | intro _
    | split
    | with_reducible apply_assumption
    | dsimp only)

theorem State.fixSwitch_ok (s : State) (e : Nat) (hs : s.Ok orig) :
    (State.fixSwitch s e).Ok orig := by
  unfold State.fixSwitch
  try dsimp only
  repeat' (first
    | with_reducible assumption
    | with_reducible apply State.updFleet_ok
    | with_reducible apply parts_ok
    | simp only [mk_ok]
    | with_reducible apply iteS_ok
    | intro _
    | split
    | with_reducible apply_assumption
    | dsimp only)

theorem State.fixSwitches_ok (s : State) (hs : s.Ok orig) :
    (State.fixSwitches s).Ok orig := by
  unfold State.fixSwitches
  try dsimp only
  repeat' (first
    | with_reducible assumption
    | with_reducible apply State.fixSwitch_ok
    | with_reducible apply foldl_ok
    | with_reducible apply parts_ok
    | simp only [mk_ok]
    | with_reducible apply iteS_ok
    | intro _
    | split
    | with_reducible apply_assumption
    | dsimp only)

theorem State.makeFree_ok (s : State) (m : Nat) (info : Nat) (hs : s.Ok orig) :
    (State.makeFree s m info).Ok orig := by
  unfold State.makeFree
  try dsimp only
  repeat' (first
    | with_reducible assumption
    | with_reducible apply State.bands_ok
    | with_reducible apply State.dropFrames_ok
    | with_reducible apply State.fixSwitches_ok
    | with_reducible apply State.fleetEvent_ok
    | with_reducible apply State.pglLeave_ok
    | with_reducible apply State.setMbr_ok
    | with_reducible apply State.updFleet_ok
    | with_reducible apply State.updSlv_ok
    | with_reducible apply parts_ok
    | simp only [mk_ok]
    | with_reducible apply iteS_ok
    | intro _
    | split
    | with_reducible apply_assumption
    | dsimp only)

theorem State.joinStart_ok (s : State) (m : Nat) (hs : s.Ok orig) :
    (State.joinStart s m).Ok orig := by
  unfold State.joinStart
  try dsimp only
  repeat' (first
    | with_reducible assumption
    | with_reducible apply State.domEvent_ok
    | with_reducible apply State.fleetEvent_ok
    | with_reducible apply State.psRequest_ok
    | with_reducible apply State.random_ok
    | with_reducible apply State.setF_ok
    | with_reducible apply State.updFleet_ok
    | with_reducible apply State.updMbr_ok
    | with_reducible apply parts_ok
    | simp only [mk_ok]
    | with_reducible apply iteS_ok
    | intro _
    | split
    | with_reducible apply_assumption
    | dsimp only)

theorem State.joinFinish_ok (s : State) (m : Nat) (key : Bytes) (hs : s.Ok orig) :
    (State.joinFinish s m key).Ok orig := by
  unfold State.joinFinish
  try dsimp only
  repeat' (first
    | with_reducible assumption
    | with_reducible apply State.bands_ok
    | with_reducible apply State.dlHead_ok
    | with_reducible apply State.idleStart_ok
    | with_reducible apply State.loadKey_ok
    | with_reducible apply State.raiseTask_ok
    | with_reducible apply State.updMbr_ok
    | with_reducible apply parts_ok
    | simp only [mk_ok]
    | with_reducible apply iteS_ok
    | intro _
    | split
    | with_reducible apply_assumption
    | dsimp only)

theorem State.drawKey_ok (s : State) (e : Nat) (hs : s.Ok orig) :
    (State.drawKey s e).Ok orig := by
  unfold State.drawKey
  try dsimp only
  repeat' (first
    | with_reducible assumption
    | with_reducible apply State.loadKey_ok
    | with_reducible apply State.random_ok
    | with_reducible apply parts_ok
    | simp only [mk_ok]
    | with_reducible apply iteS_ok
    | intro _
    | split
    | with_reducible apply_assumption
    | dsimp only)

theorem State.drawKeys_ok (s : State) (hs : s.Ok orig) :
    (State.drawKeys s).Ok orig := by
  unfold State.drawKeys
  try dsimp only
  repeat' (first
    | with_reducible assumption
    | with_reducible apply State.drawKey_ok
    | with_reducible apply State.idleStart_ok
    | with_reducible apply State.stopKeyLoad_ok
    | with_reducible apply foldl_ok
    | with_reducible apply parts_ok
    | simp only [mk_ok]
    | with_reducible apply iteS_ok
    | intro _
    | split
    | with_reducible apply_assumption
    | dsimp only)

theorem State.joinKeyIn_ok (s : State) (n : Nat) (hs : s.Ok orig) :
    (State.joinKeyIn s n).Ok orig := by
  unfold State.joinKeyIn
  try dsimp only
  repeat' (first
    | with_reducible assumption
    | with_reducible apply State.loadKey_ok
    | with_reducible apply State.raiseTask_ok
    | with_reducible apply parts_ok
    | simp only [mk_ok]
    | with_reducible apply iteS_ok
    | intro _
    | split
    | with_reducible apply_assumption
    | dsimp only)

theorem State.loadJoinKey_ok (s : State) (hs : s.Ok orig) :
    (State.loadJoinKey s).Ok orig := by
  unfold State.loadJoinKey
  try dsimp only
  repeat' (first
    | with_reducible assumption
    | with_reducible apply State.bands_ok
    | with_reducible apply State.joinKeyIn_ok
    | with_reducible apply State.slotDenied_ok
    | with_reducible apply State.slotUse_ok
    | with_reducible apply foldl_ok
    | with_reducible apply parts_ok
    | simp only [mk_ok]
    | with_reducible apply iteS_ok
    | intro _
    | split
    | with_reducible apply_assumption
    | dsimp only)

theorem State.sendNextKey_ok (s : State) (m : Nat) (e : Nat) (hs : s.Ok orig) :
    (State.sendNextKey s m e).Ok orig := by
  unfold State.sendNextKey
  try dsimp only
  repeat' (first
    | with_reducible assumption
    | with_reducible apply State.dlPush_ok
    | with_reducible apply State.updMbr_ok
    | with_reducible apply parts_ok
    | simp only [mk_ok]
    | with_reducible apply iteS_ok
    | intro _
    | split
    | with_reducible apply_assumption
    | dsimp only)

theorem State.rollKey_ok (s : State) (e : Nat) (hs : s.Ok orig) :
    (State.rollKey s e).Ok orig := by
  unfold State.rollKey
  try dsimp only
  repeat' (first
    | with_reducible assumption
    | with_reducible apply State.fixSwitch_ok
    | with_reducible apply State.idleStart_ok
    | with_reducible apply State.loadNext_ok
    | with_reducible apply State.raiseTask_ok
    | with_reducible apply State.random_ok
    | with_reducible apply State.sendNextKey_ok
    | with_reducible apply State.setF_ok
    | with_reducible apply State.stopKeyLoad_ok
    | with_reducible apply State.updFleet_ok
    | with_reducible apply foldl_ok
    | with_reducible apply parts_ok
    | simp only [mk_ok]
    | with_reducible apply iteS_ok
    | intro _
    | split
    | with_reducible apply_assumption
    | dsimp only)

theorem State.rollsDue_ok (s : State) (hs : s.Ok orig) :
    (State.rollsDue s).Ok orig := by
  unfold State.rollsDue
  try dsimp only
  repeat' (first
    | with_reducible assumption
    | with_reducible apply State.entry_ok
    | with_reducible apply State.needD13_ok
    | with_reducible apply State.rollKey_ok
    | with_reducible apply foldl_ok
    | with_reducible apply parts_ok
    | simp only [mk_ok]
    | with_reducible apply iteS_ok
    | intro _
    | split
    | with_reducible apply_assumption
    | dsimp only)

theorem State.keySwitches_ok (s : State) (hs : s.Ok orig) :
    (State.keySwitches s).Ok orig := by
  unfold State.keySwitches
  try dsimp only
  repeat' (first
    | with_reducible assumption
    | with_reducible apply State.bands_ok
    | with_reducible apply State.makeFree_ok
    | with_reducible apply State.stopKeySwitch_ok
    | with_reducible apply State.updFleet_ok
    | with_reducible apply foldl_ok
    | with_reducible apply parts_ok
    | simp only [mk_ok]
    | with_reducible apply iteS_ok
    | intro _
    | split
    | with_reducible apply_assumption
    | dsimp only)

theorem State.solveFor_ok (s : State) (m : Nat) (hs : s.Ok orig) :
    (State.solveFor s m).Ok orig := by
  unfold State.solveFor
  try dsimp only
  repeat' (first
    | with_reducible assumption
    | with_reducible apply State.domEvent_ok
    | with_reducible apply parts_ok
    | simp only [mk_ok]
    | with_reducible apply iteS_ok
    | intro _
    | split
    | with_reducible apply_assumption
    | dsimp only)

theorem State.frameDone_ok (s : State) (f : DlFrame) (hs : s.Ok orig) :
    (State.frameDone s f).Ok orig := by
  unfold State.frameDone
  try dsimp only
  repeat' (first
    | with_reducible assumption
    | with_reducible apply State.finish_ok
    | with_reducible apply State.fixSwitch_ok
    | with_reducible apply State.makeFree_ok
    | with_reducible apply State.nextSetup_ok
    | with_reducible apply State.sendNextKey_ok
    | with_reducible apply State.solveFor_ok
    | with_reducible apply State.updMbr_ok
    | with_reducible apply foldl_ok
    | with_reducible apply parts_ok
    | simp only [mk_ok]
    | with_reducible apply iteS_ok
    | intro _
    | split
    | with_reducible apply_assumption
    | dsimp only)

theorem State.frameLost_ok (s : State) (f : DlFrame) (hs : s.Ok orig) :
    (State.frameLost s f).Ok orig := by
  unfold State.frameLost
  try dsimp only
  repeat' (first
    | with_reducible assumption
    | with_reducible apply State.finish_ok
    | with_reducible apply State.fixSwitch_ok
    | with_reducible apply State.frameDone_ok
    | with_reducible apply State.makeFree_ok
    | with_reducible apply State.segDropped_ok
    | with_reducible apply State.updMbr_ok
    | with_reducible apply parts_ok
    | simp only [mk_ok]
    | with_reducible apply iteS_ok
    | intro _
    | split
    | with_reducible apply_assumption
    | dsimp only)

theorem State.ackTimeout_ok (s : State) (b : Nat) (hs : s.Ok orig) :
    (State.ackTimeout s b).Ok orig := by
  unfold State.ackTimeout
  try dsimp only
  repeat' (first
    | with_reducible assumption
    | with_reducible apply State.dlHead_ok
    | with_reducible apply State.frameLost_ok
    | with_reducible apply State.incF_ok
    | with_reducible apply State.setF_ok
    | with_reducible apply State.updBand_ok
    | with_reducible apply State.updFleet_ok
    | with_reducible apply State.updMbr_ok
    | with_reducible apply parts_ok
    | simp only [mk_ok]
    | with_reducible apply iteS_ok
    | intro _
    | split
    | with_reducible apply_assumption
    | dsimp only)

theorem State.sendFrags_ok (s : State) (i : WItem) (b : Nat) (fs : List DlFrame) (hs : s.Ok orig) :
    (State.sendFrags s i b fs).Ok orig := by
  unfold State.sendFrags
  split
  · exact State.park_ok _ _ (State.updItem_ok _ _ _ (foldl_ok (fun t f h => State.dlPush_ok t b f h) fs hs))
  · exact State.park_ok _ _ (State.updItem_ok _ _ _ hs)

theorem State.bsSend_ok (s : State) (i : WItem) (hs : s.Ok orig) : (State.bsSend s i).Ok orig := by
  unfold State.bsSend
  extract_lets a dst b uni ack flood port ps fs
  clear_value a dst b uni ack flood port ps fs
  repeat' (first
    | with_reducible assumption
    | with_reducible apply State.finish_ok
    | with_reducible apply State.updItem_ok
    | with_reducible apply State.sendFrags_ok
    | with_reducible apply iteS_ok
    | intro _)

theorem State.memberItem_ok (s : State) (wid : Nat) (mode : Nat) (k : WItem → Nat → State) (hs : s.Ok orig) (hk : ∀ (a0 : WItem) (a1 : Nat), (k a0 a1).Ok orig) :
    (State.memberItem s wid mode k).Ok orig := by
  unfold State.memberItem
  try dsimp only
  repeat' (first
    | with_reducible assumption
    | with_reducible apply State.finish_ok
    | with_reducible apply parts_ok
    | simp only [mk_ok]
    | with_reducible apply iteS_ok
    | intro _
    | split
    | with_reducible apply_assumption
    | dsimp only)

theorem State.expel_ok (s : State) (wid : Nat) (m : Nat) (hs : s.Ok orig) :
    (State.expel s wid m).Ok orig := by
  unfold State.expel
  try dsimp only
  repeat' (first
    | with_reducible assumption
    | with_reducible apply State.dlPush_ok
    | with_reducible apply State.finish_ok
    | with_reducible apply State.park_ok
    | with_reducible apply State.updItem_ok
    | with_reducible apply parts_ok
    | simp only [mk_ok]
    | with_reducible apply iteS_ok
    | intro _
    | split
    | with_reducible apply_assumption
    | dsimp only)

theorem State.cntAuth_ok (s : State) (b : Nat) (hs : s.Ok orig) :
    (State.cntAuth s b).Ok orig := by
  unfold State.cntAuth
  try dsimp only
  repeat' (first
    | with_reducible assumption
    | with_reducible apply State.incF_ok
    | with_reducible apply State.setF_ok
    | with_reducible apply parts_ok
    | simp only [mk_ok]
    | with_reducible apply iteS_ok
    | intro _
    | split
    | with_reducible apply_assumption
    | dsimp only)

theorem State.entry_ok (s : State) (x : RxIn) (busy : Bool) (hs : s.Ok orig) :
    (State.entry s x busy).Ok orig := by
  unfold State.entry
  try dsimp only
  repeat' (first
    | with_reducible assumption
    | with_reducible apply State.updBand_ok
    | with_reducible apply parts_ok
    | simp only [mk_ok]
    | with_reducible apply iteS_ok
    | intro _
    | split
    | with_reducible apply_assumption
    | dsimp only)

theorem State.seenAdd_ok (s : State) (x : RxIn) (hs : s.Ok orig) :
    (State.seenAdd s x).Ok orig := by
  unfold State.seenAdd
  try dsimp only
  repeat' (first
    | with_reducible assumption
    | with_reducible apply State.updFleet_ok
    | with_reducible apply parts_ok
    | simp only [mk_ok]
    | with_reducible apply iteS_ok
    | intro _
    | split
    | with_reducible apply_assumption
    | dsimp only)

theorem State.rxAccept_ok (s : State) (x : RxIn) (room : Bool) (k : State → State) (hs : s.Ok orig) (hk : ∀ (a0 : State), a0.Ok orig → (k a0).Ok orig) :
    (State.rxAccept s x room k).Ok orig := by
  unfold State.rxAccept
  try dsimp only
  repeat' (first
    | with_reducible assumption
    | with_reducible apply State.endDesync_ok
    | with_reducible apply State.entry_ok
    | with_reducible apply State.incF_ok
    | with_reducible apply State.partner_ok
    | with_reducible apply State.seenAdd_ok
    | with_reducible apply State.updBand_ok
    | with_reducible apply State.updFleet_ok
    | with_reducible apply parts_ok
    | simp only [mk_ok]
    | with_reducible apply iteS_ok
    | intro _
    | split
    | with_reducible apply_assumption
    | dsimp only)

theorem State.rxPush_ok (s : State) (x : RxIn) (hs : s.Ok orig) :
    (State.rxPush s x).Ok orig := by
  unfold State.rxPush
  try dsimp only
  repeat' (first
    | with_reducible assumption
    | with_reducible apply State.raiseTask_ok
    | with_reducible apply State.updBand_ok
    | with_reducible apply parts_ok
    | simp only [mk_ok]
    | with_reducible apply iteS_ok
    | intro _
    | split
    | with_reducible apply_assumption
    | dsimp only)

theorem ite_gone {c : Prop} [Decidable c] {x y : RxOut} (hx : ∀ t, x = .gone t → t.Ok orig)
    (hy : ∀ t, y = .gone t → t.Ok orig) : ∀ t, (if c then x else y) = .gone t → t.Ok orig := by
  split
  · exact hx
  · exact hy

theorem gone_gone {s : State} (h : s.Ok orig) : ∀ t, RxOut.gone s = .gone t → t.Ok orig := by
  intro t ht
  cases ht
  exact h

/-- What the checks of a frame leave behind is sound. -/
theorem State.rxCheck_ok (s : State) (b c : Nat) (psdu : Bytes) (e : Int) (hs : s.Ok orig) :
    ∀ t, State.rxCheck s b c psdu e = .gone t → t.Ok orig := by
  have hi : ∀ f, (s.incF f).Ok orig := fun f => State.incF_ok _ _ _ hs
  have hj : ∀ f g, ((s.incF f).setF g 1).Ok orig := fun f g => State.setF_ok _ _ _ (hi f)
  have ha : (s.cntAuth b).Ok orig := State.cntAuth_ok _ _ hs
  unfold State.rxCheck
  split
  · exact gone_gone hs
  · extract_lets n body fc dst src ftype flood
    clear_value n body fc dst src ftype flood
    iterate 7 refine ite_gone (gone_gone (by first | with_reducible exact hs | exact hi _)) ?_
    split
    · exact gone_gone ha
    · extract_lets
      refine ite_gone (gone_gone (hi _)) (ite_gone (gone_gone (hj _ _)) (ite_gone (gone_gone ha) ?_))
      split
      · exact gone_gone ha
      · exact ite_gone (gone_gone (hi _)) (fun t ht => nomatch ht)

theorem State.rxOf_ok (s : State) (t b c : Nat) (psdu : Bytes) (e : Int) (k : State → RxIn → State) (hs : s.Ok orig)
    (hk : ∀ u x, u.Ok orig → (k u x).Ok orig) : (State.rxOf s t b c psdu e k).Ok orig := by
  unfold State.rxOf
  extract_lets s0
  have h0 : s0.Ok orig := iteS_ok (fun _ => State.updBand_ok _ _ _ hs) (fun _ => hs)
  split
  · exact hs
  · split
    · exact State.rxCheck_ok s0 b c psdu e h0 _ ‹_›
    · exact hk _ _ h0

theorem State.joinReq_ok (s : State) (x : RxIn) (hs : s.Ok orig) :
    (State.joinReq s x).Ok orig := by
  unfold State.joinReq
  try dsimp only
  repeat' (first
    | with_reducible assumption
    | with_reducible apply State.dropFrames_ok
    | with_reducible apply State.fixSwitches_ok
    | with_reducible apply State.fleetEvent_ok
    | with_reducible apply State.incF_ok
    | with_reducible apply State.joinStart_ok
    | with_reducible apply State.pglSilent_ok
    | with_reducible apply State.raiseTask_ok
    | with_reducible apply State.rxPush_ok
    | with_reducible apply State.setMbr_ok
    | with_reducible apply State.setRover_ok
    | with_reducible apply State.updFleet_ok
    | with_reducible apply parts_ok
    | simp only [mk_ok]
    | with_reducible apply iteS_ok
    | intro _
    | split
    | with_reducible apply_assumption
    | dsimp only)

theorem State.robotStat_ok (s : State) (m : Nat) (st : Nat) (hs : s.Ok orig) :
    (State.robotStat s m st).Ok orig := by
  unfold State.robotStat
  try dsimp only
  repeat' (first
    | with_reducible assumption
    | with_reducible apply State.fleetEvent_ok
    | with_reducible apply State.updMbr_ok
    | with_reducible apply parts_ok
    | simp only [mk_ok]
    | with_reducible apply iteS_ok
    | intro _
    | split
    | with_reducible apply_assumption
    | dsimp only)

theorem State.selfReport_ok (s : State) (m : Nat) (rec : Bytes) (epoch : Option Nat) (hs : s.Ok orig) :
    (State.selfReport s m rec epoch).Ok orig := by
  unfold State.selfReport
  try dsimp only
  repeat' (first
    | with_reducible assumption
    | with_reducible apply State.incF_ok
    | with_reducible apply State.observe_ok
    | with_reducible apply State.pglFix_ok
    | with_reducible apply parts_ok
    | simp only [mk_ok]
    | with_reducible apply iteS_ok
    | intro _
    | split
    | with_reducible apply_assumption
    | dsimp only)

theorem State.beaconSeen_ok (s : State) (m : Nat) (hs : s.Ok orig) :
    (State.beaconSeen s m).Ok orig := by
  unfold State.beaconSeen
  try dsimp only
  repeat' (first
    | with_reducible assumption
    | with_reducible apply State.fleetEvent_ok
    | with_reducible apply State.pglSilentEnd_ok
    | with_reducible apply State.updMbr_ok
    | with_reducible apply parts_ok
    | simp only [mk_ok]
    | with_reducible apply iteS_ok
    | intro _
    | split
    | with_reducible apply_assumption
    | dsimp only)

theorem State.activate_ok (s : State) (m : Nat) (hs : s.Ok orig) :
    (State.activate s m).Ok orig := by
  unfold State.activate
  try dsimp only
  repeat' (first
    | with_reducible assumption
    | with_reducible apply State.fleetEvent_ok
    | with_reducible apply State.incF_ok
    | with_reducible apply State.pglActive_ok
    | with_reducible apply State.updMbr_ok
    | with_reducible apply parts_ok
    | simp only [mk_ok]
    | with_reducible apply iteS_ok
    | intro _
    | split
    | with_reducible apply_assumption
    | dsimp only)

theorem State.ctrl_ok (s : State) (x : RxIn) (hs : s.Ok orig) :
    (State.ctrl s x).Ok orig := by
  unfold State.ctrl
  try dsimp only
  repeat' (first
    | with_reducible assumption
    | with_reducible apply State.activate_ok
    | with_reducible apply State.beaconSeen_ok
    | with_reducible apply State.fleetEvent_ok
    | with_reducible apply State.robotStat_ok
    | with_reducible apply State.rxPush_ok
    | with_reducible apply State.segReport_ok
    | with_reducible apply State.selfReport_ok
    | with_reducible apply State.updMbr_ok
    | with_reducible apply parts_ok
    | simp only [mk_ok]
    | with_reducible apply iteS_ok
    | intro _
    | split
    | with_reducible apply_assumption
    | dsimp only)

theorem State.obs_ok (s : State) (x : RxIn) (hs : s.Ok orig) :
    (State.obs s x).Ok orig := by
  unfold State.obs
  try dsimp only
  repeat' (first
    | with_reducible assumption
    | with_reducible apply State.robotStat_ok
    | with_reducible apply State.selfReport_ok
    | with_reducible apply State.updSlv_ok
    | with_reducible apply parts_ok
    | simp only [mk_ok]
    | with_reducible apply iteS_ok
    | intro _
    | split
    | with_reducible apply_assumption
    | dsimp only)

theorem State.status_ok (s : State) (x : RxIn) (hs : s.Ok orig) :
    (State.status s x).Ok orig := by
  unfold State.status
  try dsimp only
  repeat' (first
    | with_reducible assumption
    | with_reducible apply State.fleetEvent_ok
    | with_reducible apply State.rxPush_ok
    | with_reducible apply parts_ok
    | simp only [mk_ok]
    | with_reducible apply iteS_ok
    | intro _
    | split
    | with_reducible apply_assumption
    | dsimp only)

theorem State.updOrg_ok (s : State) (f : Org → Org) (hs : s.Ok orig) :
    (State.updOrg s f).Ok orig := by
  unfold State.updOrg
  try dsimp only
  repeat' (first
    | with_reducible assumption
    | with_reducible apply parts_ok
    | simp only [mk_ok]
    | with_reducible apply iteS_ok
    | intro _
    | split
    | with_reducible apply_assumption
    | dsimp only)

theorem State.kuRefuse_ok (s : State) (wid : Nat) (p : Bytes) (st : Nat) (idx : Nat) (hs : s.Ok orig) :
    (State.kuRefuse s wid p st idx).Ok orig := by
  unfold State.kuRefuse
  try dsimp only
  repeat' (first
    | with_reducible assumption
    | with_reducible apply State.finish_ok
    | with_reducible apply State.setF_ok
    | with_reducible apply State.vbTrigger_ok
    | with_reducible apply parts_ok
    | simp only [mk_ok]
    | with_reducible apply iteS_ok
    | intro _
    | split
    | with_reducible apply_assumption
    | dsimp only)

theorem State.kuStart_ok (s : State) (i : WItem) (hs : s.Ok orig) :
    (State.kuStart s i).Ok orig := by
  unfold State.kuStart
  try dsimp only
  repeat' (first
    | with_reducible assumption
    | with_reducible apply State.kuRefuse_ok
    | with_reducible apply State.park_ok
    | with_reducible apply State.psRequest_ok
    | with_reducible apply State.updOrg_ok
    | with_reducible apply parts_ok
    | simp only [mk_ok]
    | with_reducible apply iteS_ok
    | intro _
    | split
    | with_reducible apply_assumption
    | dsimp only)

theorem State.kuNext_ok : ∀ (n : Nat) (s : State), s.Ok orig → (State.kuNext n s).Ok orig
  | 0, _, h => h
  | n + 1, s, h => by
    unfold State.kuNext
    split
    · dsimp only
      have h1 := State.updOrg_ok s (fun o => { o with waiting := ‹List Nat› }) h
      split
      · exact State.kuNext_ok n _ (State.kuStart_ok _ _ (State.updOrg_ok _ _ h))
      · exact State.kuNext_ok n _ (State.updOrg_ok _ _ h)
    · exact h

theorem State.deriveItem_ok (s : State) (wid : Nat) (mode : Nat) (k : WItem → State) (hs : s.Ok orig) (hk : ∀ (a0 : WItem), (k a0).Ok orig) :
    (State.deriveItem s wid mode k).Ok orig := by
  unfold State.deriveItem
  try dsimp only
  repeat' (first
    | with_reducible assumption
    | with_reducible apply State.finish_ok
    | with_reducible apply State.needD13_ok
    | with_reducible apply parts_ok
    | simp only [mk_ok]
    | with_reducible apply iteS_ok
    | intro _
    | split
    | with_reducible apply_assumption
    | dsimp only)

theorem State.updSdl_ok (s : State) (f : Sdl → Sdl) (hs : s.Ok orig) :
    (State.updSdl s f).Ok orig := by
  unfold State.updSdl
  try dsimp only
  repeat' (first
    | with_reducible assumption
    | with_reducible apply parts_ok
    | simp only [mk_ok]
    | with_reducible apply iteS_ok
    | intro _
    | split
    | with_reducible apply_assumption
    | dsimp only)

theorem State.retime_ok (s : State) (k : Nat) (adj : Int) (hs : s.Ok orig) :
    (State.retime s k adj).Ok orig := by
  unfold State.retime
  try dsimp only
  repeat' (first
    | with_reducible assumption
    | with_reducible apply State.updSdl_ok
    | with_reducible apply parts_ok
    | simp only [mk_ok]
    | with_reducible apply iteS_ok
    | intro _
    | split
    | with_reducible apply_assumption
    | dsimp only)

theorem State.retimeAll_ok (s : State) (hs : s.Ok orig) :
    (State.retimeAll s).Ok orig := by
  unfold State.retimeAll
  try dsimp only
  repeat' (first
    | with_reducible assumption
    | with_reducible apply State.retime_ok
    | with_reducible apply State.setF_ok
    | with_reducible apply State.setI_ok
    | with_reducible apply foldl_ok
    | with_reducible apply parts_ok
    | simp only [mk_ok]
    | with_reducible apply iteS_ok
    | intro _
    | split
    | with_reducible apply_assumption
    | dsimp only)

theorem State.copyTb1_ok (s : State) (hs : s.Ok orig) :
    (State.copyTb1 s).Ok orig := by
  unfold State.copyTb1
  try dsimp only
  repeat' (first
    | with_reducible assumption
    | with_reducible apply State.updSdl_ok
    | with_reducible apply parts_ok
    | simp only [mk_ok]
    | with_reducible apply iteS_ok
    | intro _
    | split
    | with_reducible apply_assumption
    | dsimp only)

theorem State.setCmpTarget_ok (s : State) (x : Nat) (t : Nat) (hs : s.Ok orig) :
    (State.setCmpTarget s x t).Ok orig := by
  unfold State.setCmpTarget
  try dsimp only
  repeat' (first
    | with_reducible assumption
    | with_reducible apply State.setF_ok
    | with_reducible apply parts_ok
    | simp only [mk_ok]
    | with_reducible apply iteS_ok
    | intro _
    | split
    | with_reducible apply_assumption
    | dsimp only)

theorem State.pinAction_ok (s : State) (n : Nat) (op : Nat) (us : Nat) (hs : s.Ok orig) :
    (State.pinAction s n op us).Ok orig := by
  unfold State.pinAction
  try dsimp only
  repeat' (first
    | with_reducible assumption
    | with_reducible apply parts_ok
    | simp only [mk_ok]
    | with_reducible apply iteS_ok
    | intro _
    | split
    | with_reducible apply_assumption
    | dsimp only)

theorem State.convertAt_ok (s : State) (f : Nat) (hs : s.Ok orig) :
    (State.convertAt s f).Ok orig := by
  unfold State.convertAt
  try dsimp only
  repeat' (first
    | with_reducible assumption
    | with_reducible apply State.wrList_ok
    | with_reducible apply parts_ok
    | simp only [mk_ok]
    | with_reducible apply iteS_ok
    | intro _
    | split
    | with_reducible apply_assumption
    | dsimp only)

theorem State.convert_ok (s : State) (hs : s.Ok orig) :
    (State.convert s).Ok orig := by
  unfold State.convert
  try dsimp only
  repeat' (first
    | with_reducible assumption
    | with_reducible apply State.convertAt_ok
    | with_reducible apply parts_ok
    | simp only [mk_ok]
    | with_reducible apply iteS_ok
    | intro _
    | split
    | with_reducible apply_assumption
    | dsimp only)

theorem State.cmpActions_ok (s : State) (k : Nat) (i : Nat) (late : Bool) (hs : s.Ok orig) :
    (State.cmpActions s k i late).Ok orig := by
  unfold State.cmpActions
  try dsimp only
  repeat' (first
    | with_reducible assumption
    | with_reducible apply State.convertAt_ok
    | with_reducible apply State.pinAction_ok
    | with_reducible apply State.raiseFlag_ok
    | with_reducible apply State.raiseTask_ok
    | with_reducible apply State.sdlEvent_ok
    | with_reducible apply State.setF_ok
    | with_reducible apply State.snapCode_ok
    | with_reducible apply State.wktStart_ok
    | with_reducible apply State.xingPulse_ok
    | with_reducible apply parts_ok
    | simp only [mk_ok]
    | with_reducible apply iteS_ok
    | intro _
    | split
    | with_reducible apply_assumption
    | dsimp only)

theorem State.cmpEval_ok (s : State) (k i : Nat) (hs : s.Ok orig) : (State.cmpEval s k i).2.Ok orig := by
  unfold State.cmpEval
  extract_lets x t now p miss s1 j s2
  have h1 : s1.Ok orig := iteS_ok (fun _ => State.setF_ok _ _ _ hs) (fun _ => State.cmpActions_ok _ _ _ _ hs)
  have h2 : s2.Ok orig := iteS_ok (fun _ => State.setF_ok _ _ _ h1)
    (fun _ => State.setF_ok _ _ _ (State.incF_ok _ _ _ (State.setCmpTarget_ok _ _ _ h1)))
  clear_value s2
  split
  · exact State.setF_ok _ _ _ hs
  · exact h2

theorem State.cmpStep_ok (s : State) (k : Nat) (hs : s.Ok orig) :
    (State.cmpStep s k).Ok orig := by
  unfold State.cmpStep
  try dsimp only
  repeat' (first
    | with_reducible assumption
    | with_reducible apply State.cmpEval_ok
    | with_reducible apply foldl_ok
    | with_reducible apply parts_ok
    | simp only [mk_ok]
    | with_reducible apply iteS_ok
    | intro _
    | split
    | with_reducible apply_assumption
    | dsimp only)

theorem State.cmpArm_ok (s : State) (m : Master) (k : Nat) (i : Nat) (disarm : Bool) (hs : s.Ok orig) :
    (State.cmpArm s m k i disarm).Ok orig := by
  unfold State.cmpArm
  try dsimp only
  repeat' (first
    | with_reducible assumption
    | with_reducible apply State.cmpEval_ok
    | with_reducible apply State.secViol_ok
    | with_reducible apply State.setF_ok
    | with_reducible apply parts_ok
    | simp only [mk_ok]
    | with_reducible apply iteS_ok
    | intro _
    | split
    | with_reducible apply_assumption
    | dsimp only)

theorem State.cmpDisarm_ok (s : State) (m : Master) (k : Nat) (i : Nat) (hs : s.Ok orig) :
    (State.cmpDisarm s m k i).Ok orig := by
  unfold State.cmpDisarm
  try dsimp only
  repeat' (first
    | with_reducible assumption
    | with_reducible apply State.secViol_ok
    | with_reducible apply State.setF_ok
    | with_reducible apply parts_ok
    | simp only [mk_ok]
    | with_reducible apply iteS_ok
    | intro _
    | split
    | with_reducible apply_assumption
    | dsimp only)

theorem State.cmpHit_ok (s : State) (x : Nat) (hs : s.Ok orig) :
    (State.cmpHit s x).Ok orig := by
  unfold State.cmpHit
  try dsimp only
  repeat' (first
    | with_reducible assumption
    | with_reducible apply State.cmpActions_ok
    | with_reducible apply State.setCmpTarget_ok
    | with_reducible apply State.setF_ok
    | with_reducible apply parts_ok
    | simp only [mk_ok]
    | with_reducible apply iteS_ok
    | intro _
    | split
    | with_reducible apply_assumption
    | dsimp only)

theorem State.tbSample_ok (s : State) (m : Master) (k : Nat) (hs : s.Ok orig) :
    (State.tbSample s m k).2.Ok orig := by
  unfold State.tbSample
  try dsimp only
  repeat' (first
    | with_reducible assumption
    | with_reducible apply State.wr_ok
    | with_reducible apply parts_ok
    | simp only [mk_ok]
    | with_reducible apply iteS_ok
    | intro _
    | split
    | with_reducible apply_assumption
    | dsimp only)

theorem State.setSlotRun_ok (s : State) (hs : s.Ok orig) :
    (State.setSlotRun s).Ok orig := by
  unfold State.setSlotRun
  try dsimp only
  repeat' (first
    | with_reducible assumption
    | with_reducible apply State.setF_ok
    | with_reducible apply parts_ok
    | simp only [mk_ok]
    | with_reducible apply iteS_ok
    | intro _
    | split
    | with_reducible apply_assumption
    | dsimp only)

theorem State.tbState_ok (s : State) (st : Nat) (hs : s.Ok orig) :
    (State.tbState s st).Ok orig := by
  unfold State.tbState
  try dsimp only
  repeat' (first
    | with_reducible assumption
    | with_reducible apply State.sdlEvent_ok
    | with_reducible apply State.setF_ok
    | with_reducible apply State.setSlotRun_ok
    | with_reducible apply parts_ok
    | simp only [mk_ok]
    | with_reducible apply iteS_ok
    | intro _
    | split
    | with_reducible apply_assumption
    | dsimp only)

theorem State.untrusted_ok (s : State) (hs : s.Ok orig) :
    (State.untrusted s).Ok orig := by
  unfold State.untrusted
  try dsimp only
  repeat' (first
    | with_reducible assumption
    | with_reducible apply State.setF_ok
    | with_reducible apply parts_ok
    | simp only [mk_ok]
    | with_reducible apply iteS_ok
    | intro _
    | split
    | with_reducible apply_assumption
    | dsimp only)

theorem State.joinTb1_ok (s : State) (hs : s.Ok orig) :
    (State.joinTb1 s).Ok orig := by
  unfold State.joinTb1
  try dsimp only
  repeat' (first
    | with_reducible assumption
    | with_reducible apply State.cmpStep_ok
    | with_reducible apply State.copyTb1_ok
    | with_reducible apply State.setF_ok
    | with_reducible apply parts_ok
    | simp only [mk_ok]
    | with_reducible apply iteS_ok
    | intro _
    | split
    | with_reducible apply_assumption
    | dsimp only)

theorem State.enterHoldover_ok (s : State) (hs : s.Ok orig) :
    (State.enterHoldover s).Ok orig := by
  unfold State.enterHoldover
  try dsimp only
  repeat' (first
    | with_reducible assumption
    | with_reducible apply State.joinTb1_ok
    | with_reducible apply State.retimeAll_ok
    | with_reducible apply State.tbState_ok
    | with_reducible apply State.updSdl_ok
    | with_reducible apply parts_ok
    | simp only [mk_ok]
    | with_reducible apply iteS_ok
    | intro _
    | split
    | with_reducible apply_assumption
    | dsimp only)

theorem State.stepTb0_ok (s : State) (d : Int) (hs : s.Ok orig) :
    (State.stepTb0 s d).Ok orig := by
  unfold State.stepTb0
  try dsimp only
  repeat' (first
    | with_reducible assumption
    | with_reducible apply State.bvStepped_ok
    | with_reducible apply State.cmpStep_ok
    | with_reducible apply State.copyTb1_ok
    | with_reducible apply State.pglStep_ok
    | with_reducible apply State.sdlEvent_ok
    | with_reducible apply State.setF_ok
    | with_reducible apply State.updFleet_ok
    | with_reducible apply State.updSdl_ok
    | with_reducible apply State.vbTrigger_ok
    | with_reducible apply parts_ok
    | simp only [mk_ok]
    | with_reducible apply iteS_ok
    | intro _
    | split
    | with_reducible apply_assumption
    | dsimp only)

theorem State.measured0_ok (s : State) (off : Int) (est : Nat) (hs : s.Ok orig) :
    (State.measured0 s off est).Ok orig := by
  unfold State.measured0
  try dsimp only
  repeat' (first
    | with_reducible assumption
    | with_reducible apply State.joinTb1_ok
    | with_reducible apply State.retimeAll_ok
    | with_reducible apply State.setF_ok
    | with_reducible apply State.setI_ok
    | with_reducible apply State.stepTb0_ok
    | with_reducible apply State.tbState_ok
    | with_reducible apply State.updSdl_ok
    | with_reducible apply parts_ok
    | simp only [mk_ok]
    | with_reducible apply iteS_ok
    | intro _
    | split
    | with_reducible apply_assumption
    | dsimp only)

theorem State.ptpSet_ok (s : State) (n : Nat) (st : Nat) (hs : s.Ok orig) :
    (State.ptpSet s n st).Ok orig := by
  unfold State.ptpSet
  try dsimp only
  repeat' (first
    | with_reducible assumption
    | with_reducible apply State.setF_ok
    | with_reducible apply parts_ok
    | simp only [mk_ok]
    | with_reducible apply iteS_ok
    | intro _
    | split
    | with_reducible apply_assumption
    | dsimp only)

theorem State.ptpFollow_ok (s : State) (p : Option Nat) (hs : s.Ok orig) :
    (State.ptpFollow s p).Ok orig := by
  unfold State.ptpFollow
  try dsimp only
  repeat' (first
    | with_reducible assumption
    | with_reducible apply State.joinTb1_ok
    | with_reducible apply State.retimeAll_ok
    | with_reducible apply parts_ok
    | simp only [mk_ok]
    | with_reducible apply iteS_ok
    | intro _
    | split
    | with_reducible apply_assumption
    | dsimp only)

theorem State.ptpSilent_ok (s : State) (n : Nat) (hs : s.Ok orig) :
    (State.ptpSilent s n).Ok orig := by
  unfold State.ptpSilent
  try dsimp only
  repeat' (first
    | with_reducible assumption
    | with_reducible apply State.ptpFollow_ok
    | with_reducible apply State.ptpSet_ok
    | with_reducible apply parts_ok
    | simp only [mk_ok]
    | with_reducible apply iteS_ok
    | intro _
    | split
    | with_reducible apply_assumption
    | dsimp only)

theorem State.capture_ok (s : State) (index : Nat) (phase : Nat) (hs : s.Ok orig) :
    (State.capture s index phase).Ok orig := by
  unfold State.capture
  try dsimp only
  repeat' (first
    | with_reducible assumption
    | with_reducible apply State.sdlEvent_ok
    | with_reducible apply parts_ok
    | simp only [mk_ok]
    | with_reducible apply iteS_ok
    | intro _
    | split
    | with_reducible apply_assumption
    | dsimp only)

theorem State.ppsGate_ok (s : State) (hs : s.Ok orig) :
    (State.ppsGate s).Ok orig := by
  unfold State.ppsGate
  try dsimp only
  repeat' (first
    | with_reducible assumption
    | with_reducible apply parts_ok
    | simp only [mk_ok]
    | with_reducible apply iteS_ok
    | intro _
    | split
    | with_reducible apply_assumption
    | dsimp only)

theorem State.steerItem_ok (s : State) (wid : Nat) (mode : Nat) (ok : WItem → Bool) (k : WItem → State) (hs : s.Ok orig) (hk : ∀ (a0 : WItem), (k a0).Ok orig) :
    (State.steerItem s wid mode ok k).Ok orig := by
  unfold State.steerItem
  try dsimp only
  repeat' (first
    | with_reducible assumption
    | with_reducible apply State.finish_ok
    | with_reducible apply parts_ok
    | simp only [mk_ok]
    | with_reducible apply iteS_ok
    | intro _
    | split
    | with_reducible apply_assumption
    | dsimp only)

end Sys2Proof.Machine
end

