-- ==== Sys2Proof/Laws/Sound3.lean ====
section
/-! SUPPORT. Every shared operation keeps a sound state sound, and what no command takes back: Done, Mailbox, Domains, Plan, Update, Arbour, Access, HostPort, Svc, Tamper, Startup, Store, Slot, Idle. -/
namespace Sys2Proof.Machine
variable {orig : State}

set_option linter.unusedTactic false
set_option linter.unreachableTactic false

theorem State.updArb_ok (s : State) (f : Arb → Arb) (hs : s.Ok orig) :
    (State.updArb s f).Ok orig := by
  unfold State.updArb
  try dsimp only
  repeat' (first
    | with_reducible assumption
    | with_reducible apply parts_ok
    | simp only [mk_ok]
    | with_reducible apply iteS_ok
    | intro _
    | split
    | with_reducible apply_assumption
    | dsimp only)

theorem State.setWaits_ok (s : State) (g : Grp) (w : List Bytes) (hs : s.Ok orig) :
    (State.setWaits s g w).Ok orig := by
  unfold State.setWaits
  try dsimp only
  repeat' (first
    | with_reducible assumption
    | with_reducible apply State.updArb_ok
    | with_reducible apply parts_ok
    | simp only [mk_ok]
    | with_reducible apply iteS_ok
    | intro _
    | split
    | with_reducible apply_assumption
    | dsimp only)

theorem State.svcReply_ok (s : State) (cmd : Nat) (seq : Nat) (status : Nat) (data : Bytes) (hs : s.Ok orig) :
    (State.svcReply s cmd seq status data).Ok orig := by
  unfold State.svcReply
  try dsimp only
  repeat' (first
    | with_reducible assumption
    | with_reducible apply State.status_ok
    | with_reducible apply parts_ok
    | simp only [mk_ok]
    | with_reducible apply iteS_ok
    | intro _
    | split
    | with_reducible apply_assumption
    | dsimp only)

theorem State.complete_ok (s : State) (wid : Nat) (hs : s.Ok orig) :
    (State.complete s wid).Ok orig := by
  unfold State.complete
  try dsimp only
  repeat' (first
    | with_reducible assumption
    | with_reducible apply State.idleStart_ok
    | with_reducible apply State.pushPkt_ok
    | with_reducible apply State.status_ok
    | with_reducible apply State.svcReply_ok
    | with_reducible apply State.updArb_ok
    | with_reducible apply parts_ok
    | simp only [mk_ok]
    | with_reducible apply iteS_ok
    | intro _
    | split
    | with_reducible apply_assumption
    | dsimp only)

theorem State.completeAll_ok (s : State) (wids : List Nat) (status : Nat) (hs : s.Ok orig) :
    (State.completeAll s wids status).Ok orig := by
  unfold State.completeAll
  try dsimp only
  repeat' (first
    | with_reducible assumption
    | with_reducible apply State.complete_ok
    | with_reducible apply State.finish_ok
    | with_reducible apply State.status_ok
    | with_reducible apply foldl_ok
    | with_reducible apply parts_ok
    | simp only [mk_ok]
    | with_reducible apply iteS_ok
    | intro _
    | split
    | with_reducible apply_assumption
    | dsimp only)

theorem State.pushRefusal_ok (s : State) (g : Grp) (b : Bytes) (hs : s.Ok orig) :
    (State.pushRefusal s g b).Ok orig := by
  unfold State.pushRefusal
  try dsimp only
  repeat' (first
    | with_reducible assumption
    | with_reducible apply State.pushPkt_ok
    | with_reducible apply State.setWaits_ok
    | with_reducible apply parts_ok
    | simp only [mk_ok]
    | with_reducible apply iteS_ok
    | intro _
    | split
    | with_reducible apply_assumption
    | dsimp only)

theorem State.lockoutItems_ok (s : State) (d : Nat) (hs : s.Ok orig) :
    (State.lockoutItems s d).Ok orig := by
  unfold State.lockoutItems
  try dsimp only
  repeat' (first
    | with_reducible assumption
    | with_reducible apply State.completeAll_ok
    | with_reducible apply parts_ok
    | simp only [mk_ok]
    | with_reducible apply iteS_ok
    | intro _
    | split
    | with_reducible apply_assumption
    | dsimp only)

theorem State.loseD3_ok (s : State) (hs : s.Ok orig) :
    (State.loseD3 s).Ok orig := by
  unfold State.loseD3
  try dsimp only
  repeat' (first
    | with_reducible assumption
    | with_reducible apply State.setF_ok
    | with_reducible apply State.updArb_ok
    | with_reducible apply parts_ok
    | simp only [mk_ok]
    | with_reducible apply iteS_ok
    | intro _
    | split
    | with_reducible apply_assumption
    | dsimp only)

theorem State.updEnd_ok (s : State) (code : Nat) (part : Nat) (hs : s.Ok orig) :
    (State.updEnd s code part).Ok orig := by
  unfold State.updEnd
  try dsimp only
  repeat' (first
    | with_reducible assumption
    | with_reducible apply State.setF_ok
    | with_reducible apply parts_ok
    | (with_reducible apply noUpd_ok; rotate_left; exact rfl)
    | with_reducible apply upd_ok
    | simp only [mk_ok]
    | with_reducible apply iteS_ok
    | intro _
    | split
    | with_reducible apply_assumption
    | dsimp only)

theorem State.updRelease_ok (s : State) (lock : Nat) (hs : s.Ok orig) :
    (State.updRelease s lock).Ok orig := by
  unfold State.updRelease
  try dsimp only
  repeat' (first
    | with_reducible assumption
    | with_reducible apply State.updEnd_ok
    | with_reducible apply parts_ok
    | simp only [mk_ok]
    | with_reducible apply iteS_ok
    | intro _
    | split
    | with_reducible apply_assumption
    | dsimp only)

theorem State.mbxWake_ok (s : State) (c : Nat) (hs : s.Ok orig) :
    (State.mbxWake s c).Ok orig := by
  unfold State.mbxWake
  try dsimp only
  repeat' (first
    | with_reducible assumption
    | with_reducible apply State.raiseFlag_ok
    | with_reducible apply State.raiseTask_ok
    | with_reducible apply parts_ok
    | simp only [mk_ok]
    | with_reducible apply iteS_ok
    | intro _
    | split
    | with_reducible apply_assumption
    | dsimp only)

theorem State.mbxPostMsg_ok (s : State) (c : Nat) (hs : s.Ok orig) :
    (State.mbxPostMsg s c).Ok orig := by
  unfold State.mbxPostMsg
  try dsimp only
  repeat' (first
    | with_reducible assumption
    | with_reducible apply State.domEvent_ok
    | with_reducible apply State.mbxWake_ok
    | with_reducible apply State.setF_ok
    | with_reducible apply parts_ok
    | simp only [mk_ok]
    | with_reducible apply iteS_ok
    | intro _
    | split
    | with_reducible apply_assumption
    | dsimp only)

theorem State.mbxCtrlWrite_ok (s : State) (m : Master) (c : Nat) (v : Nat) (hs : s.Ok orig) :
    (State.mbxCtrlWrite s m c v).Ok orig := by
  unfold State.mbxCtrlWrite
  try dsimp only
  repeat' (first
    | with_reducible assumption
    | with_reducible apply State.irqGrp_ok
    | with_reducible apply State.mbxPostMsg_ok
    | with_reducible apply State.setF_ok
    | with_reducible apply parts_ok
    | simp only [mk_ok]
    | with_reducible apply iteS_ok
    | intro _
    | split
    | with_reducible apply_assumption
    | dsimp only)

theorem State.mbxDataWrite_ok (s : State) (c : Nat) (k : Nat) (v : Nat) (hs : s.Ok orig) :
    (State.mbxDataWrite s c k v).Ok orig := by
  unfold State.mbxDataWrite
  try dsimp only
  repeat' (first
    | with_reducible assumption
    | with_reducible apply State.setBit_ok
    | with_reducible apply State.setF_ok
    | with_reducible apply State.wr_ok
    | with_reducible apply parts_ok
    | simp only [mk_ok]
    | with_reducible apply iteS_ok
    | intro _
    | split
    | with_reducible apply_assumption
    | dsimp only)

theorem State.senderReset_ok (s : State) (c : Nat) (hs : s.Ok orig) :
    (State.senderReset s c).Ok orig := by
  unfold State.senderReset
  try dsimp only
  repeat' (first
    | with_reducible assumption
    | with_reducible apply State.setF_ok
    | with_reducible apply State.wr_ok
    | with_reducible apply foldl_ok
    | with_reducible apply parts_ok
    | simp only [mk_ok]
    | with_reducible apply iteS_ok
    | intro _
    | split
    | with_reducible apply_assumption
    | dsimp only)

theorem State.mbxDeviceReset_ok (s : State) (hs : s.Ok orig) :
    (State.mbxDeviceReset s).Ok orig := by
  unfold State.mbxDeviceReset
  try dsimp only
  repeat' (first
    | with_reducible assumption
    | with_reducible apply State.senderReset_ok
    | with_reducible apply foldl_ok
    | with_reducible apply parts_ok
    | simp only [mk_ok]
    | with_reducible apply iteS_ok
    | intro _
    | split
    | with_reducible apply_assumption
    | dsimp only)

theorem State.claimIrq_ok (s : State) (n : Nat) (hs : s.Ok orig) :
    (State.claimIrq s n).Ok orig := by
  unfold State.claimIrq
  try dsimp only
  repeat' (first
    | with_reducible assumption
    | with_reducible apply State.irq_ok
    | with_reducible apply State.irqGrp_ok
    | with_reducible apply parts_ok
    | simp only [mk_ok]
    | with_reducible apply iteS_ok
    | intro _
    | split
    | with_reducible apply_assumption
    | dsimp only)

theorem State.leaseStart_ok (s : State) (n : Nat) (hs : s.Ok orig) :
    (State.leaseStart s n).Ok orig := by
  unfold State.leaseStart
  try dsimp only
  repeat' (first
    | with_reducible assumption
    | with_reducible apply parts_ok
    | simp only [mk_ok]
    | with_reducible apply iteS_ok
    | intro _
    | split
    | with_reducible apply_assumption
    | dsimp only)

theorem State.claimFree_ok (s : State) (n : Nat) (hs : s.Ok orig) :
    (State.claimFree s n).Ok orig := by
  unfold State.claimFree
  try dsimp only
  repeat' (first
    | with_reducible assumption
    | with_reducible apply State.setF_ok
    | with_reducible apply parts_ok
    | simp only [mk_ok]
    | with_reducible apply iteS_ok
    | intro _
    | split
    | with_reducible apply_assumption
    | dsimp only)

theorem State.claimForce_ok (s : State) (n : Nat) (hs : s.Ok orig) :
    (State.claimForce s n).Ok orig := by
  unfold State.claimForce
  try dsimp only
  repeat' (first
    | with_reducible assumption
    | with_reducible apply State.claimFree_ok
    | with_reducible apply State.claimIrq_ok
    | with_reducible apply State.setF_ok
    | with_reducible apply parts_ok
    | simp only [mk_ok]
    | with_reducible apply iteS_ok
    | intro _
    | split
    | with_reducible apply_assumption
    | dsimp only)

theorem State.claimTroubleAt_ok (s : State) (id : Nat) (n : Nat) (hs : s.Ok orig) :
    (State.claimTroubleAt s id n).Ok orig := by
  unfold State.claimTroubleAt
  try dsimp only
  repeat' (first
    | with_reducible assumption
    | with_reducible apply State.claimForce_ok
    | with_reducible apply State.setF_ok
    | with_reducible apply parts_ok
    | simp only [mk_ok]
    | with_reducible apply iteS_ok
    | intro _
    | split
    | with_reducible apply_assumption
    | dsimp only)

theorem State.claimTrouble_ok (s : State) (m : Master) (hs : s.Ok orig) :
    (State.claimTrouble s m).Ok orig := by
  unfold State.claimTrouble
  try dsimp only
  repeat' (first
    | with_reducible assumption
    | with_reducible apply State.claimTroubleAt_ok
    | with_reducible apply foldl_ok
    | with_reducible apply parts_ok
    | simp only [mk_ok]
    | with_reducible apply iteS_ok
    | intro _
    | split
    | with_reducible apply_assumption
    | dsimp only)

theorem State.claimRead_ok (s : State) (m : Master) (n : Nat) (hs : s.Ok orig) :
    (State.claimRead s m n).2.Ok orig := by
  unfold State.claimRead
  try dsimp only
  repeat' (first
    | with_reducible assumption
    | with_reducible apply State.leaseStart_ok
    | with_reducible apply State.setF_ok
    | with_reducible apply parts_ok
    | simp only [mk_ok]
    | with_reducible apply iteS_ok
    | intro _
    | split
    | with_reducible apply_assumption
    | dsimp only)

theorem State.claimWrite_ok (s : State) (m : Master) (n : Nat) (v : Nat) (hs : s.Ok orig) :
    (State.claimWrite s m n v).Ok orig := by
  unfold State.claimWrite
  try dsimp only
  repeat' (first
    | with_reducible assumption
    | with_reducible apply State.claimFree_ok
    | with_reducible apply State.leaseStart_ok
    | with_reducible apply State.setF_ok
    | with_reducible apply parts_ok
    | simp only [mk_ok]
    | with_reducible apply iteS_ok
    | intro _
    | split
    | with_reducible apply_assumption
    | dsimp only)

theorem State.leaseWrite_ok (s : State) (m : Master) (n : Nat) (v : Nat) (hs : s.Ok orig) :
    (State.leaseWrite s m n v).Ok orig := by
  unfold State.leaseWrite
  try dsimp only
  repeat' (first
    | with_reducible assumption
    | with_reducible apply State.setF_ok
    | with_reducible apply parts_ok
    | simp only [mk_ok]
    | with_reducible apply iteS_ok
    | intro _
    | split
    | with_reducible apply_assumption
    | dsimp only)

theorem State.guardR_ok (s : State) (m : Master) (a : Nat) (k : State → DWord × State) (hs : s.Ok orig) (hk : ∀ (a0 : State), a0.Ok orig → (k a0).2.Ok orig) :
    (State.guardR s m a k).2.Ok orig := by
  unfold State.guardR
  try dsimp only
  repeat' (first
    | with_reducible assumption
    | with_reducible apply State.domEvent_ok
    | with_reducible apply State.secViol_ok
    | with_reducible apply parts_ok
    | simp only [mk_ok]
    | with_reducible apply iteS_ok
    | intro _
    | split
    | with_reducible apply_assumption
    | dsimp only)

theorem State.onBus_ok (r : DWord × State) (hr : r.2.Ok orig) :
    (State.onBus r).Ok orig := by
  unfold State.onBus
  try dsimp only
  repeat' (first
    | with_reducible assumption
    | with_reducible apply parts_ok
    | simp only [mk_ok]
    | with_reducible apply iteS_ok
    | intro _
    | split
    | with_reducible apply_assumption
    | dsimp only)

theorem State.hostReset_ok (s : State) (m : Master) (v : Nat) (hs : s.Ok orig) :
    (State.hostReset s m v).Ok orig := by
  unfold State.hostReset
  try dsimp only
  repeat' (first
    | with_reducible assumption
    | with_reducible apply State.claimTrouble_ok
    | with_reducible apply State.senderReset_ok
    | with_reducible apply State.setF_ok
    | with_reducible apply State.updRelease_ok
    | with_reducible apply foldl_ok
    | with_reducible apply parts_ok
    | simp only [mk_ok]
    | with_reducible apply iteS_ok
    | intro _
    | split
    | with_reducible apply_assumption
    | dsimp only)

theorem State.streamWrite_ok (s : State) (w : Nat) (v : DWord) (hs : s.Ok orig) :
    (State.streamWrite s w v).Ok orig := by
  unfold State.streamWrite
  try dsimp only
  repeat' (first
    | with_reducible assumption
    | with_reducible apply State.domEvent_ok
    | with_reducible apply State.streamPush_ok
    | with_reducible apply parts_ok
    | simp only [mk_ok]
    | with_reducible apply iteS_ok
    | intro _
    | split
    | with_reducible apply_assumption
    | dsimp only)

theorem State.strmCtrlWrite_ok (s : State) (w : Nat) (v : Nat) (hs : s.Ok orig) :
    (State.strmCtrlWrite s w v).Ok orig := by
  unfold State.strmCtrlWrite
  try dsimp only
  repeat' (first
    | with_reducible assumption
    | with_reducible apply State.flush_ok
    | with_reducible apply State.setF_ok
    | with_reducible apply parts_ok
    | simp only [mk_ok]
    | with_reducible apply iteS_ok
    | intro _
    | split
    | with_reducible apply_assumption
    | dsimp only)

theorem State.strmGrant_ok (s : State) (w : Nat) (m : Master) (hs : s.Ok orig) :
    (State.strmGrant s w m).Ok orig := by
  unfold State.strmGrant
  try dsimp only
  repeat' (first
    | with_reducible assumption
    | with_reducible apply parts_ok
    | simp only [mk_ok]
    | with_reducible apply iteS_ok
    | intro _
    | split
    | with_reducible apply_assumption
    | dsimp only)

theorem State.hostFlush_ok (s : State) (hs : s.Ok orig) :
    (State.hostFlush s).Ok orig := by
  unfold State.hostFlush
  try dsimp only
  repeat' (first
    | with_reducible assumption
    | with_reducible apply State.setF_ok
    | with_reducible apply State.xingLoses_ok
    | with_reducible apply foldl_ok
    | with_reducible apply parts_ok
    | simp only [mk_ok]
    | with_reducible apply iteS_ok
    | intro _
    | split
    | with_reducible apply_assumption
    | dsimp only)

theorem State.loseD2_ok (s : State) (hs : s.Ok orig) :
    (State.loseD2 s).Ok orig := by
  unfold State.loseD2
  try dsimp only
  repeat' (first
    | with_reducible assumption
    | with_reducible apply State.emptyStreams_ok
    | with_reducible apply State.hostFlush_ok
    | with_reducible apply State.resetRange_ok
    | with_reducible apply State.updArb_ok
    | with_reducible apply parts_ok
    | with_reducible apply plan_ok
    | exact rfl
    | simp only [mk_ok]
    | with_reducible apply iteS_ok
    | intro _
    | split
    | with_reducible apply_assumption
    | dsimp only)

theorem State.arbRegs_ok (s : State) (hs : s.Ok orig) : (State.arbRegs s).Ok orig := by
  have h := State.resetRange_ok (State.resetRange_ok hs R.ARB_FAULT (R.ARB_FAULT + 4)) R.ARB_LAT_MAX (R.ARB_BUSY_CNT + 4)
  exact ⟨⟨Sparse.wf_filter _ _ h.regs, h.1.2⟩, h.2⟩

theorem State.loseArbour_ok (s : State) (hs : s.Ok orig) : (State.loseArbour s).Ok orig := by
  unfold State.loseArbour
  extract_lets s1 s2 st s3 s4
  have h1 : s1.arbRegs.Ok orig := State.arbRegs_ok _ (State.mbxDeviceReset_ok _ (State.loseD3_ok _ hs))
  have h2 : s2.Ok orig := foldl_ok (fun t k h => State.claimTrouble_ok t _ h) _ h1
  have h3 : s3.Ok orig := State.updRelease_ok _ _ (iteS_ok (fun _ => State.setSwap_ok _ _ h2) (fun _ => h2))
  have h4 : s4.Ok orig := State.bands_ok _ _ (State.setF_ok _ _ _ h3)
  clear_value s4
  exact plan_ok h4 (p := { s4.plan with live := [] }) h4.staging

theorem State.linkSlow_ok (s : State) (hs : s.Ok orig) :
    (State.linkSlow s).Ok orig := by
  unfold State.linkSlow
  try dsimp only
  repeat' (first
    | with_reducible assumption
    | with_reducible apply State.setF_ok
    | with_reducible apply parts_ok
    | simp only [mk_ok]
    | with_reducible apply iteS_ok
    | intro _
    | split
    | with_reducible apply_assumption
    | dsimp only)

theorem State.bandLoses_ok (s : State) (b : Nat) (hs : s.Ok orig) :
    (State.bandLoses s b).Ok orig := by
  unfold State.bandLoses
  try dsimp only
  repeat' (first
    | with_reducible assumption
    | with_reducible apply State.frameLost_ok
    | with_reducible apply foldl_ok
    | with_reducible apply parts_ok
    | simp only [mk_ok]
    | with_reducible apply iteS_ok
    | intro _
    | split
    | with_reducible apply_assumption
    | dsimp only)

theorem State.expireSlots_ok (s : State) (doms : List Nat) (hs : s.Ok orig) :
    (State.expireSlots s doms).Ok orig := by
  unfold State.expireSlots
  try dsimp only
  repeat' (first
    | with_reducible assumption
    | with_reducible apply parts_ok
    | simp only [mk_ok]
    | with_reducible apply iteS_ok
    | intro _
    | split
    | with_reducible apply_assumption
    | dsimp only)

theorem State.loseDom_ok (s : State) (d : Nat) (retain : Bool) (hs : s.Ok orig) :
    (State.loseDom s d retain).Ok orig := by
  unfold State.loseDom
  try dsimp only
  repeat' (first
    | with_reducible assumption
    | with_reducible apply State.axFinish_ok
    | with_reducible apply State.bandLoses_ok
    | with_reducible apply State.claimTrouble_ok
    | with_reducible apply State.dropPend_ok
    | with_reducible apply State.each_ok
    | with_reducible apply State.endReq_ok
    | with_reducible apply State.finish_ok
    | with_reducible apply State.loseArbour_ok
    | with_reducible apply State.loseD2_ok
    | with_reducible apply State.resetRange_ok
    | with_reducible apply State.updBv_ok
    | with_reducible apply State.xingLoses_ok
    | with_reducible apply foldl_ok
    | with_reducible apply parts_ok
    | simp only [mk_ok]
    | with_reducible apply iteS_ok
    | intro _
    | split
    | with_reducible apply_assumption
    | dsimp only)

theorem State.shutdown_ok (s : State) (d : Nat) (hs : s.Ok orig) :
    (State.shutdown s d).Ok orig := by
  unfold State.shutdown
  try dsimp only
  repeat' (first
    | with_reducible assumption
    | with_reducible apply State.loseDom_ok
    | with_reducible apply State.setDom_ok
    | with_reducible apply parts_ok
    | simp only [mk_ok]
    | with_reducible apply iteS_ok
    | intro _
    | split
    | with_reducible apply_assumption
    | dsimp only)

theorem State.domLeave_ok (s : State) (d : Nat) (hs : s.Ok orig) :
    (State.domLeave s d).Ok orig := by
  unfold State.domLeave
  try dsimp only
  repeat' (first
    | with_reducible assumption
    | with_reducible apply State.setDom_ok
    | with_reducible apply State.shutdown_ok
    | with_reducible apply parts_ok
    | simp only [mk_ok]
    | with_reducible apply iteS_ok
    | intro _
    | split
    | with_reducible apply_assumption
    | dsimp only)

theorem State.domOnReq_ok (s : State) (d : Nat) (hs : s.Ok orig) :
    (State.domOnReq s d).Ok orig := by
  unfold State.domOnReq
  try dsimp only
  repeat' (first
    | with_reducible assumption
    | with_reducible apply State.domEvent_ok
    | with_reducible apply State.setDom_ok
    | with_reducible apply State.shutdown_ok
    | with_reducible apply State.startPwrUp_ok
    | with_reducible apply parts_ok
    | simp only [mk_ok]
    | with_reducible apply iteS_ok
    | intro _
    | split
    | with_reducible apply_assumption
    | dsimp only)

theorem State.domWake_ok (s : State) (d : Nat) (hs : s.Ok orig) :
    (State.domWake s d).Ok orig := by
  unfold State.domWake
  try dsimp only
  repeat' (first
    | with_reducible assumption
    | with_reducible apply State.domEvent_ok
    | with_reducible apply parts_ok
    | simp only [mk_ok]
    | with_reducible apply iteS_ok
    | intro _
    | split
    | with_reducible apply_assumption
    | dsimp only)

theorem State.domOffReq_ok (s : State) (d : Nat) (hs : s.Ok orig) :
    (State.domOffReq s d).Ok orig := by
  unfold State.domOffReq
  try dsimp only
  repeat' (first
    | with_reducible assumption
    | with_reducible apply State.domLeave_ok
    | with_reducible apply State.setBit_ok
    | with_reducible apply parts_ok
    | simp only [mk_ok]
    | with_reducible apply iteS_ok
    | intro _
    | split
    | with_reducible apply_assumption
    | dsimp only)

theorem State.domResetNow_ok (s : State) (ds : List Nat) (hs : s.Ok orig) :
    (State.domResetNow s ds).Ok orig := by
  unfold State.domResetNow
  try dsimp only
  repeat' (first
    | with_reducible assumption
    | with_reducible apply State.setF_ok
    | with_reducible apply State.updPower_ok
    | with_reducible apply parts_ok
    | simp only [mk_ok]
    | with_reducible apply iteS_ok
    | intro _
    | split
    | with_reducible apply_assumption
    | dsimp only)

theorem State.domResetOver_ok (s : State) (d : Nat) (hs : s.Ok orig) :
    (State.domResetOver s d).Ok orig := by
  unfold State.domResetOver
  try dsimp only
  repeat' (first
    | with_reducible assumption
    | with_reducible apply State.domResetNow_ok
    | with_reducible apply parts_ok
    | simp only [mk_ok]
    | with_reducible apply iteS_ok
    | intro _
    | split
    | with_reducible apply_assumption
    | dsimp only)

theorem State.reachOff_ok (s : State) (d : Nat) (hs : s.Ok orig) :
    (State.reachOff s d).Ok orig := by
  unfold State.reachOff
  try dsimp only
  repeat' (first
    | with_reducible assumption
    | with_reducible apply State.domResetOver_ok
    | with_reducible apply State.setDom_ok
    | with_reducible apply State.startPwrUp_ok
    | with_reducible apply parts_ok
    | simp only [mk_ok]
    | with_reducible apply iteS_ok
    | intro _
    | split
    | with_reducible apply_assumption
    | dsimp only)

theorem State.holdUp_ok (s : State) (hs : s.Ok orig) :
    (State.holdUp s).Ok orig := by
  unfold State.holdUp
  try dsimp only
  repeat' (first
    | with_reducible assumption
    | with_reducible apply State.domOnReq_ok
    | with_reducible apply foldl_ok
    | with_reducible apply parts_ok
    | simp only [mk_ok]
    | with_reducible apply iteS_ok
    | intro _
    | split
    | with_reducible apply_assumption
    | dsimp only)

theorem State.domFaultClear_ok (s : State) (d : Nat) (hs : s.Ok orig) :
    (State.domFaultClear s d).Ok orig := by
  unfold State.domFaultClear
  try dsimp only
  repeat' (first
    | with_reducible assumption
    | with_reducible apply State.clrBit_ok
    | with_reducible apply State.lockout_ok
    | with_reducible apply State.reachOff_ok
    | with_reducible apply State.updPower_ok
    | with_reducible apply parts_ok
    | simp only [mk_ok]
    | with_reducible apply iteS_ok
    | intro _
    | split
    | with_reducible apply_assumption
    | dsimp only)

theorem State.holdReset_ok (s : State) (d : Nat) (hs : s.Ok orig) :
    (State.holdReset s d).Ok orig := by
  unfold State.holdReset
  try dsimp only
  repeat' (first
    | with_reducible assumption
    | with_reducible apply State.loseDom_ok
    | with_reducible apply State.setDom_ok
    | with_reducible apply parts_ok
    | simp only [mk_ok]
    | with_reducible apply iteS_ok
    | intro _
    | split
    | with_reducible apply_assumption
    | dsimp only)

theorem State.lodgeReset_ok (s : State) (hs : s.Ok orig) :
    (State.lodgeReset s).Ok orig := by
  unfold State.lodgeReset
  try dsimp only
  repeat' (first
    | with_reducible assumption
    | with_reducible apply State.resetRange_ok
    | with_reducible apply State.setF_ok
    | with_reducible apply parts_ok
    | simp only [mk_ok]
    | with_reducible apply iteS_ok
    | intro _
    | split
    | with_reducible apply_assumption
    | dsimp only)

theorem State.resetDoms_ok (s : State) (src : ResetSrc) (doms : List Nat) (hs : s.Ok orig) :
    (State.resetDoms s src doms).Ok orig := by
  unfold State.resetDoms
  try dsimp only
  repeat' (first
    | with_reducible assumption
    | with_reducible apply State.domResetNow_ok
    | with_reducible apply State.domResetStop_ok
    | with_reducible apply State.expireSlots_ok
    | with_reducible apply State.holdReset_ok
    | with_reducible apply State.linkSlow_ok
    | with_reducible apply State.loseArbour_ok
    | with_reducible apply State.setBit_ok
    | with_reducible apply State.setF_ok
    | with_reducible apply State.setSwap_ok
    | with_reducible apply State.updPower_ok
    | with_reducible apply foldl_ok
    | with_reducible apply parts_ok
    | simp only [mk_ok]
    | with_reducible apply iteS_ok
    | intro _
    | split
    | with_reducible apply_assumption
    | dsimp only)

theorem State.resetAll_ok (s : State) (src : ResetSrc) (hs : s.Ok orig) :
    (State.resetAll s src).Ok orig := by
  unfold State.resetAll
  try dsimp only
  repeat' (first
    | with_reducible assumption
    | with_reducible apply State.lodgeReset_ok
    | with_reducible apply State.resetDoms_ok
    | with_reducible apply parts_ok
    | simp only [mk_ok]
    | with_reducible apply iteS_ok
    | intro _
    | split
    | with_reducible apply_assumption
    | dsimp only)

theorem State.holdEnd_ok (s : State) (src : ResetSrc) (hs : s.Ok orig) :
    (State.holdEnd s src).Ok orig := by
  unfold State.holdEnd
  try dsimp only
  repeat' (first
    | with_reducible assumption
    | with_reducible apply State.domOnReq_ok
    | with_reducible apply State.updPower_ok
    | with_reducible apply parts_ok
    | simp only [mk_ok]
    | with_reducible apply iteS_ok
    | intro _
    | split
    | with_reducible apply_assumption
    | dsimp only)

theorem State.rstReq_ok (s : State) (v : Nat) (hs : s.Ok orig) :
    (State.rstReq s v).Ok orig := by
  unfold State.rstReq
  try dsimp only
  repeat' (first
    | with_reducible assumption
    | with_reducible apply State.resetAll_ok
    | with_reducible apply State.resetDoms_ok
    | with_reducible apply parts_ok
    | simp only [mk_ok]
    | with_reducible apply iteS_ok
    | intro _
    | split
    | with_reducible apply_assumption
    | dsimp only)

theorem State.setLock_ok (s : State) (p : Pll) (v : Bool) (hs : s.Ok orig) :
    (State.setLock s p v).Ok orig := by
  unfold State.setLock
  try dsimp only
  repeat' (first
    | with_reducible assumption
    | with_reducible apply State.setF_ok
    | with_reducible apply State.updPower_ok
    | with_reducible apply parts_ok
    | simp only [mk_ok]
    | with_reducible apply iteS_ok
    | intro _
    | split
    | with_reducible apply_assumption
    | dsimp only)

theorem State.pllLose_ok (s : State) (p : Pll) (hs : s.Ok orig) :
    (State.pllLose s p).Ok orig := by
  unfold State.pllLose
  try dsimp only
  repeat' (first
    | with_reducible assumption
    | with_reducible apply State.setBit_ok
    | with_reducible apply State.setLock_ok
    | with_reducible apply parts_ok
    | simp only [mk_ok]
    | with_reducible apply iteS_ok
    | intro _
    | split
    | with_reducible apply_assumption
    | dsimp only)

theorem State.xingItems_ok (s : State) (i : Nat) (hs : s.Ok orig) :
    (State.xingItems s i).2.Ok orig := by
  unfold State.xingItems
  try dsimp only
  repeat' (first
    | with_reducible assumption
    | with_reducible apply State.updBand_ok
    | with_reducible apply State.updPgl_ok
    | with_reducible apply State.updSlv_ok
    | with_reducible apply parts_ok
    | simp only [mk_ok]
    | with_reducible apply iteS_ok
    | intro _
    | split
    | with_reducible apply_assumption
    | dsimp only)

theorem State.xingsUp_ok (s : State) (d : Nat) (hs : s.Ok orig) :
    (State.xingsUp s d).Ok orig := by
  unfold State.xingsUp
  try dsimp only
  repeat' (first
    | with_reducible assumption
    | with_reducible apply State.updXing_ok
    | with_reducible apply foldl_ok
    | with_reducible apply parts_ok
    | simp only [mk_ok]
    | with_reducible apply iteS_ok
    | intro _
    | split
    | with_reducible apply_assumption
    | dsimp only)

theorem State.pwrReq_ok (s : State) (v : Nat) (hs : s.Ok orig) :
    (State.pwrReq s v).Ok orig := by
  unfold State.pwrReq
  try dsimp only
  repeat' (first
    | with_reducible assumption
    | with_reducible apply State.setF_ok
    | with_reducible apply State.updPower_ok
    | with_reducible apply parts_ok
    | simp only [mk_ok]
    | with_reducible apply iteS_ok
    | intro _
    | split
    | with_reducible apply_assumption
    | dsimp only)

theorem State.frcFire_ok (s : State) (hs : s.Ok orig) :
    (State.frcFire s).Ok orig := by
  unfold State.frcFire
  try dsimp only
  repeat' (first
    | with_reducible assumption
    | with_reducible apply State.updPower_ok
    | with_reducible apply State.wakeBy_ok
    | with_reducible apply State.xingPulse_ok
    | with_reducible apply parts_ok
    | simp only [mk_ok]
    | with_reducible apply iteS_ok
    | intro _
    | split
    | with_reducible apply_assumption
    | dsimp only)

theorem State.wakeArm_ok (s : State) (hi : Nat) (hs : s.Ok orig) :
    (State.wakeArm s hi).Ok orig := by
  unfold State.wakeArm
  try dsimp only
  repeat' (first
    | with_reducible assumption
    | with_reducible apply State.frcFire_ok
    | with_reducible apply State.setF_ok
    | with_reducible apply State.updPower_ok
    | with_reducible apply parts_ok
    | simp only [mk_ok]
    | with_reducible apply iteS_ok
    | intro _
    | split
    | with_reducible apply_assumption
    | dsimp only)

theorem State.saveCompares_ok (s : State) (hs : s.Ok orig) :
    (State.saveCompares s).Ok orig := by
  unfold State.saveCompares
  try dsimp only
  repeat' (first
    | with_reducible assumption
    | with_reducible apply State.setF_ok
    | with_reducible apply State.updPower_ok
    | with_reducible apply State.updSdl_ok
    | with_reducible apply State.wakeArm_ok
    | with_reducible apply foldl_ok
    | with_reducible apply parts_ok
    | simp only [mk_ok]
    | with_reducible apply iteS_ok
    | intro _
    | split
    | with_reducible apply_assumption
    | dsimp only)

theorem State.restoreCompares_ok (s : State) (hs : s.Ok orig) :
    (State.restoreCompares s).Ok orig := by
  unfold State.restoreCompares
  try dsimp only
  repeat' (first
    | with_reducible assumption
    | with_reducible apply State.cmpEval_ok
    | with_reducible apply State.setF_ok
    | with_reducible apply State.updPower_ok
    | with_reducible apply State.updSdl_ok
    | with_reducible apply State.wakeArm_ok
    | with_reducible apply State.wrList_ok
    | with_reducible apply foldl_ok
    | with_reducible apply parts_ok
    | simp only [mk_ok]
    | with_reducible apply iteS_ok
    | intro _
    | split
    | with_reducible apply_assumption
    | dsimp only)

theorem State.entryStop_ok (s : State) (hs : s.Ok orig) :
    (State.entryStop s).Ok orig := by
  unfold State.entryStop
  try dsimp only
  repeat' (first
    | with_reducible assumption
    | with_reducible apply State.restoreCompares_ok
    | with_reducible apply State.setF_ok
    | with_reducible apply State.updPower_ok
    | with_reducible apply State.updSdl_ok
    | with_reducible apply parts_ok
    | simp only [mk_ok]
    | with_reducible apply iteS_ok
    | intro _
    | split
    | with_reducible apply_assumption
    | dsimp only)

theorem State.swapCancel_ok (s : State) (hs : s.Ok orig) :
    (State.swapCancel s).Ok orig := by
  unfold State.swapCancel
  try dsimp only
  repeat' (first
    | with_reducible assumption
    | with_reducible apply State.setF_ok
    | with_reducible apply State.setSwap_ok
    | with_reducible apply State.vbTrigger_ok
    | with_reducible apply parts_ok
    | simp only [mk_ok]
    | with_reducible apply iteS_ok
    | intro _
    | split
    | with_reducible apply_assumption
    | dsimp only)

theorem State.entryBegin_ok (s : State) (hs : s.Ok orig) :
    (State.entryBegin s).Ok orig := by
  unfold State.entryBegin
  try dsimp only
  repeat' (first
    | with_reducible assumption
    | with_reducible apply State.domLeave_ok
    | with_reducible apply State.saveCompares_ok
    | with_reducible apply State.swapCancel_ok
    | with_reducible apply State.updPower_ok
    | with_reducible apply State.updSdl_ok
    | with_reducible apply foldl_ok
    | with_reducible apply parts_ok
    | simp only [mk_ok]
    | with_reducible apply iteS_ok
    | intro _
    | split
    | with_reducible apply_assumption
    | dsimp only)

theorem State.entryDone_ok (s : State) (hs : s.Ok orig) :
    (State.entryDone s).Ok orig := by
  unfold State.entryDone
  try dsimp only
  repeat' (first
    | with_reducible assumption
    | with_reducible apply State.loseArbour_ok
    | with_reducible apply State.setF_ok
    | with_reducible apply State.updArb_ok
    | with_reducible apply State.updPower_ok
    | with_reducible apply parts_ok
    | simp only [mk_ok]
    | with_reducible apply iteS_ok
    | intro _
    | split
    | with_reducible apply_assumption
    | dsimp only)

theorem State.powerOff_ok (s : State) (mains : Bool) (_hs : s.Ok orig) : (State.powerOff s mains).Ok orig := by
  exact ⟨⟨rfl, rfl, rfl⟩, _hs.2.1, _hs.2.2.1, _hs.2.2.2.1, .inr rfl, _hs.2.2.2.2.2⟩

theorem State.shedDom_ok (s : State) (d : Nat) (hs : s.Ok orig) :
    (State.shedDom s d).Ok orig := by
  unfold State.shedDom
  try dsimp only
  repeat' (first
    | with_reducible assumption
    | with_reducible apply State.loseDom_ok
    | with_reducible apply State.setDom_ok
    | with_reducible apply parts_ok
    | simp only [mk_ok]
    | with_reducible apply iteS_ok
    | intro _
    | split
    | with_reducible apply_assumption
    | dsimp only)

theorem State.planSigned_ok (s : State) (what : KeyCheck) (b : Bytes) (hs : s.Ok orig) :
    (State.planSigned s what b).2.Ok orig := by
  unfold State.planSigned
  try dsimp only
  repeat' (first
    | with_reducible assumption
    | with_reducible apply State.idleStart_ok
    | with_reducible apply State.needD13_ok
    | with_reducible apply State.tryKeys_ok
    | with_reducible apply parts_ok
    | simp only [mk_ok]
    | with_reducible apply iteS_ok
    | intro _
    | split
    | with_reducible apply_assumption
    | dsimp only)

theorem State.checkImage_ok (s : State) (what : KeyCheck) (b : Bytes) (base : Option (List (Nat × Bytes))) (hs : s.Ok orig) :
    (State.checkImage s what b base).2.Ok orig := by
  unfold State.checkImage
  try dsimp only
  repeat' (first
    | with_reducible assumption
    | with_reducible apply State.planSigned_ok
    | with_reducible apply parts_ok
    | simp only [mk_ok]
    | with_reducible apply iteS_ok
    | intro _
    | split
    | with_reducible apply_assumption
    | dsimp only)

theorem State.moreImage_ok (s : State) (what : KeyCheck) (b : Bytes) (base : Option (List (Nat × Bytes))) (n : Nat) (ns : List Nat) (counted : Bool) (hs : s.Ok orig) :
    (State.moreImage s what b base n ns counted).2.Ok orig := by
  unfold State.moreImage
  try dsimp only
  repeat' (first
    | with_reducible assumption
    | with_reducible apply State.moreKeys_ok
    | with_reducible apply parts_ok
    | simp only [mk_ok]
    | with_reducible apply iteS_ok
    | intro _
    | split
    | with_reducible apply_assumption
    | dsimp only)

theorem State.swapRecord_ok (s : State) (hs : s.Ok orig) :
    (State.swapRecord s).Ok orig := by
  unfold State.swapRecord
  try dsimp only
  repeat' (first
    | with_reducible assumption
    | with_reducible apply State.vbTrigger_ok
    | with_reducible apply parts_ok
    | simp only [mk_ok]
    | with_reducible apply iteS_ok
    | intro _
    | split
    | with_reducible apply_assumption
    | dsimp only)

theorem State.swapRefuse_ok (s : State) (code : Nat) (hs : s.Ok orig) :
    (State.swapRefuse s code).Ok orig := by
  unfold State.swapRefuse
  try dsimp only
  repeat' (first
    | with_reducible assumption
    | with_reducible apply State.setF_ok
    | with_reducible apply State.setSwap_ok
    | with_reducible apply State.swapRecord_ok
    | with_reducible apply parts_ok
    | simp only [mk_ok]
    | with_reducible apply iteS_ok
    | intro _
    | split
    | with_reducible apply_assumption
    | dsimp only)

theorem State.swapStore_ok (s : State) (hs : s.Ok orig) :
    (State.swapStore s).Ok orig := by
  unfold State.swapStore
  try dsimp only
  repeat' (first
    | with_reducible assumption
    | with_reducible apply State.psRequest_ok
    | with_reducible apply parts_ok
    | simp only [mk_ok]
    | with_reducible apply iteS_ok
    | intro _
    | split
    | with_reducible apply_assumption
    | dsimp only)

theorem State.setSwapAsn_ok (s : State) (asn : Nat) (hs : s.Ok orig) :
    (State.setSwapAsn s asn).Ok orig := by
  unfold State.setSwapAsn
  try dsimp only
  repeat' (first
    | with_reducible assumption
    | with_reducible apply State.setF_ok
    | with_reducible apply parts_ok
    | simp only [mk_ok]
    | with_reducible apply iteS_ok
    | intro _
    | split
    | with_reducible apply_assumption
    | dsimp only)

theorem State.swapAccepted_ok (s : State) (hs : s.Ok orig) :
    (State.swapAccepted s).Ok orig := by
  unfold State.swapAccepted
  try dsimp only
  repeat' (first
    | with_reducible assumption
    | with_reducible apply State.setF_ok
    | with_reducible apply State.setSwap_ok
    | with_reducible apply State.setSwapAsn_ok
    | with_reducible apply parts_ok
    | simp only [mk_ok]
    | with_reducible apply iteS_ok
    | intro _
    | split
    | with_reducible apply_assumption
    | dsimp only)

theorem State.swapGo_ok (s : State) (len : Nat) (second : Bool) (hs : s.Ok orig) :
    (State.swapGo s len second).Ok orig := by
  unfold State.swapGo
  try dsimp only
  repeat' (first
    | with_reducible assumption
    | with_reducible apply State.raiseTask_ok
    | with_reducible apply State.setF_ok
    | with_reducible apply State.setSwap_ok
    | with_reducible apply parts_ok
    | simp only [mk_ok]
    | with_reducible apply iteS_ok
    | intro _
    | split
    | with_reducible apply_assumption
    | dsimp only)

theorem State.swapChecked_ok (s : State) (res : Option (Except (Nat × Nat) PlanParts)) (hs : s.Ok orig) :
    (State.swapChecked s res).Ok orig := by
  unfold State.swapChecked
  try dsimp only
  repeat' (first
    | with_reducible assumption
    | with_reducible apply State.setSwap_ok
    | with_reducible apply State.setSwapAsn_ok
    | with_reducible apply State.swapRefuse_ok
    | with_reducible apply State.swapStore_ok
    | with_reducible apply parts_ok
    | simp only [mk_ok]
    | with_reducible apply iteS_ok
    | intro _
    | split
    | with_reducible apply_assumption
    | dsimp only)

theorem State.swapCheck_ok (s : State) (hs : s.Ok orig) :
    (State.swapCheck s).Ok orig := by
  unfold State.swapCheck
  try dsimp only
  repeat' (first
    | with_reducible assumption
    | with_reducible apply State.checkImage_ok
    | with_reducible apply State.swapChecked_ok
    | with_reducible apply parts_ok
    | simp only [mk_ok]
    | with_reducible apply iteS_ok
    | intro _
    | split
    | with_reducible apply_assumption
    | dsimp only)

theorem State.swapGoOn_ok (s : State) (n : Nat) (ns : List Nat) (counted : Bool) (hs : s.Ok orig) :
    (State.swapGoOn s n ns counted).Ok orig := by
  unfold State.swapGoOn
  try dsimp only
  repeat' (first
    | with_reducible assumption
    | with_reducible apply State.moreImage_ok
    | with_reducible apply State.swapChecked_ok
    | with_reducible apply parts_ok
    | simp only [mk_ok]
    | with_reducible apply iteS_ok
    | intro _
    | split
    | with_reducible apply_assumption
    | dsimp only)

theorem State.swapAnnounced_ok (s : State) (hs : s.Ok orig) :
    (State.swapAnnounced s).Ok orig := by
  unfold State.swapAnnounced
  try dsimp only
  repeat' (first
    | with_reducible assumption
    | with_reducible apply State.swapCheck_ok
    | with_reducible apply parts_ok
    | simp only [mk_ok]
    | with_reducible apply iteS_ok
    | intro _
    | split
    | with_reducible apply_assumption
    | dsimp only)

theorem State.setRadio_ok (s : State) (r : Nat × Nat × Nat) (hs : s.Ok orig) :
    (State.setRadio s r).Ok orig := by
  unfold State.setRadio
  try dsimp only
  repeat' (first
    | with_reducible assumption
    | with_reducible apply State.startTrain_ok
    | with_reducible apply State.stopWords_ok
    | with_reducible apply State.updGzb_ok
    | with_reducible apply parts_ok
    | simp only [mk_ok]
    | with_reducible apply iteS_ok
    | intro _
    | split
    | with_reducible apply_assumption
    | dsimp only)

theorem State.takeCarrier_ok (s : State) (hs : s.Ok orig) :
    (State.takeCarrier s).Ok orig := by
  unfold State.takeCarrier
  try dsimp only
  repeat' (first
    | with_reducible assumption
    | with_reducible apply State.setF_ok
    | with_reducible apply State.setRadio_ok
    | with_reducible apply State.updGzb_ok
    | with_reducible apply parts_ok
    | simp only [mk_ok]
    | with_reducible apply iteS_ok
    | intro _
    | split
    | with_reducible apply_assumption
    | dsimp only)

theorem State.accelDefer_ok (s : State) (oldDec : Nat → Nat) (m : Nat) (hs : s.Ok orig) :
    (State.accelDefer s oldDec m).Ok orig := by
  unfold State.accelDefer
  try dsimp only
  repeat' (first
    | with_reducible assumption
    | with_reducible apply State.deferred_ok
    | with_reducible apply State.pglEvent_ok
    | with_reducible apply State.setF_ok
    | with_reducible apply State.updPm_ok
    | with_reducible apply parts_ok
    | simp only [mk_ok]
    | with_reducible apply iteS_ok
    | intro _
    | split
    | with_reducible apply_assumption
    | dsimp only)

theorem State.swapEffective_ok (s : State) (hs : s.Ok orig) : (State.swapEffective s).Ok orig := by
  unfold State.swapEffective
  extract_lets old oldDec secs p1 s1 s2 w3 s3 now moved s4
  have h1 : s1.Ok orig := plan_ok hs (p := s1.plan) hs.staging
  have h2 : s2.Ok orig := State.swapRecord_ok _ (State.setSwap_ok _ _ (State.takeCarrier_ok _ h1))
  have h3 : s3.Ok orig := h2
  have h4 : s4.Ok orig := iteS_ok (fun _ => foldl_ok (fun t m h => State.accelDefer_ok t _ _ h) _
    (foldl_ok (fun t m h => State.replan_ok t _ _ _ _ h) _ h3)) (fun _ => h3)
  clear_value s4
  exact State.holdUp_ok _ (iteS_ok (fun _ => State.updFleet_ok _ _ h4) (fun _ => h4))

theorem State.updShow_ok (s : State) (hs : s.Ok orig) :
    (State.updShow s).Ok orig := by
  unfold State.updShow
  try dsimp only
  repeat' (first
    | with_reducible assumption
    | with_reducible apply State.setF_ok
    | with_reducible apply parts_ok
    | simp only [mk_ok]
    | with_reducible apply iteS_ok
    | intro _
    | split
    | with_reducible apply_assumption
    | dsimp only)

theorem State.updRecord_ok (s : State) (hs : s.Ok orig) :
    (State.updRecord s).Ok orig := by
  unfold State.updRecord
  try dsimp only
  repeat' (first
    | with_reducible assumption
    | with_reducible apply State.vbTrigger_ok
    | with_reducible apply parts_ok
    | simp only [mk_ok]
    | with_reducible apply iteS_ok
    | intro _
    | split
    | with_reducible apply_assumption
    | dsimp only)

theorem State.putSlots_ok (s : State) (fw : Option (List (Nat × Bytes))) (plan : Option Bytes) (hs : s.Ok orig) :
    (State.putSlots s fw plan).Ok orig := by
  unfold State.putSlots
  extract_lets r f f1 f2
  have h1 : f1.svnFuses = f.svnFuses ∧ f1.wipeFuses = f.wipeFuses ∧ f1.revoked = f.revoked := by
    simp only [f1]
    split
    · split <;> exact ⟨rfl, rfl, rfl⟩
    · exact ⟨rfl, rfl, rfl⟩
  have h2 : f2.svnFuses = f1.svnFuses ∧ f2.wipeFuses = f1.wipeFuses ∧ f2.revoked = f1.revoked := by
    simp only [f2]
    split
    · split <;> exact ⟨rfl, rfl, rfl⟩
    · exact ⟨rfl, rfl, rfl⟩
  exact flash_ok hs (Nat.le_of_eq (h2.1.trans h1.1).symm) (Nat.le_of_eq (h2.2.1.trans h1.2.1).symm)
    (h2.2.2.trans h1.2.2)

theorem State.program_ok (s : State) (hs : s.Ok orig) :
    (State.program s).Ok orig := by
  unfold State.program
  try dsimp only
  repeat' (first
    | with_reducible assumption
    | with_reducible apply State.putSlots_ok
    | with_reducible apply parts_ok
    | with_reducible apply plan_ok
    | exact rfl
    | simp only [mk_ok]
    | with_reducible apply iteS_ok
    | intro _
    | split
    | with_reducible apply_assumption
    | dsimp only)

theorem State.updBegin_ok (s : State) (src : Nat) (h : Bytes) (hs : s.Ok orig) :
    (State.updBegin s src h).2.Ok orig := by
  unfold State.updBegin
  try dsimp only
  repeat' (first
    | with_reducible assumption
    | with_reducible apply State.program_ok
    | with_reducible apply State.setF_ok
    | with_reducible apply State.updEnd_ok
    | with_reducible apply parts_ok
    | (with_reducible apply noUpd_ok; rotate_left; exact rfl)
    | with_reducible apply upd_ok
    | simp only [mk_ok]
    | with_reducible apply iteS_ok
    | intro _
    | split
    | with_reducible apply_assumption
    | dsimp only)

theorem State.updData_ok (s : State) (src : Nat) (off : Nat) (b : Bytes) (hs : s.Ok orig) :
    (State.updData s src off b).2.Ok orig := by
  unfold State.updData
  split
  · exact hs
  · split
    · exact hs
    · split
      · exact hs
      · split
        · exact State.updEnd_ok _ _ _ hs
        · extract_lets u s1
          have h1 : s1.Ok orig := upd_ok hs (u := s1.upd) (memWrite_wf _ _ _ hs.bytes)
          clear_value s1
          exact State.program_ok _ (State.incF_ok _ _ _ h1)

theorem State.updVerdict_ok (s : State) (f : Option (Nat × Nat)) (hs : s.Ok orig) :
    (State.updVerdict s f).2.Ok orig := by
  unfold State.updVerdict
  try dsimp only
  repeat' (first
    | with_reducible assumption
    | with_reducible apply State.setF_ok
    | with_reducible apply State.updEnd_ok
    | with_reducible apply parts_ok
    | simp only [mk_ok]
    | with_reducible apply iteS_ok
    | intro _
    | split
    | with_reducible apply_assumption
    | dsimp only)

theorem State.updSigned_ok (s : State) (ok : Option Bool) (hs : s.Ok orig) :
    (State.updSigned s ok).2.Ok orig := by
  unfold State.updSigned
  try dsimp only
  repeat' (first
    | with_reducible assumption
    | with_reducible apply State.updVerdict_ok
    | with_reducible apply parts_ok
    | simp only [mk_ok]
    | with_reducible apply iteS_ok
    | intro _
    | split
    | with_reducible apply_assumption
    | dsimp only)

theorem State.updFinish_ok (s : State) (src : Nat) (seq : Nat) (hs : s.Ok orig) :
    (State.updFinish s src seq).2.Ok orig := by
  unfold State.updFinish
  try dsimp only
  repeat' (first
    | with_reducible assumption
    | with_reducible apply State.planSigned_ok
    | with_reducible apply State.setF_ok
    | with_reducible apply State.updEnd_ok
    | with_reducible apply State.updSigned_ok
    | with_reducible apply State.updVerdict_ok
    | with_reducible apply parts_ok
    | simp only [mk_ok]
    | with_reducible apply iteS_ok
    | intro _
    | split
    | with_reducible apply_assumption
    | dsimp only)

theorem State.updActivate_ok (s : State) (src : Nat) (hs : s.Ok orig) :
    (State.updActivate s src).2.Ok orig := by
  unfold State.updActivate
  try dsimp only
  repeat' (first
    | with_reducible assumption
    | with_reducible apply State.psRequest_ok
    | with_reducible apply State.setF_ok
    | with_reducible apply parts_ok
    | with_reducible apply plan_ok
    | exact rfl
    | simp only [mk_ok]
    | with_reducible apply iteS_ok
    | intro _
    | split
    | with_reducible apply_assumption
    | dsimp only)

theorem State.updConfirm_ok (s : State) (hs : s.Ok orig) :
    (State.updConfirm s).2.Ok orig := by
  unfold State.updConfirm
  try dsimp only
  repeat' (first
    | with_reducible assumption
    | with_reducible apply State.psRequest_ok
    | with_reducible apply State.setF_ok
    | with_reducible apply parts_ok
    | simp only [mk_ok]
    | with_reducible apply iteS_ok
    | intro _
    | split
    | with_reducible apply_assumption
    | dsimp only)

theorem State.updAbort_ok (s : State) (src : Nat) (hs : s.Ok orig) :
    (State.updAbort s src).2.Ok orig := by
  unfold State.updAbort
  try dsimp only
  repeat' (first
    | with_reducible assumption
    | with_reducible apply State.updEnd_ok
    | with_reducible apply parts_ok
    | simp only [mk_ok]
    | with_reducible apply iteS_ok
    | intro _
    | split
    | with_reducible apply_assumption
    | dsimp only)

theorem State.updCtrlWrite_ok (s : State) (v : Nat) (hs : s.Ok orig) :
    (State.updCtrlWrite s v).Ok orig := by
  unfold State.updCtrlWrite
  try dsimp only
  repeat' (first
    | with_reducible assumption
    | with_reducible apply State.setF_ok
    | with_reducible apply State.updConfirm_ok
    | with_reducible apply State.updEnd_ok
    | with_reducible apply parts_ok
    | simp only [mk_ok]
    | with_reducible apply iteS_ok
    | intro _
    | split
    | with_reducible apply_assumption
    | dsimp only)

theorem State.svcPacket_ok (s : State) (cmd : Nat) (seq : Nat) (k : State → State) (hs : s.Ok orig)
    (hk : ∀ (a0 : State), a0.Ok orig → (k a0).Ok orig) : (State.svcPacket s cmd seq k).Ok orig := by
  unfold State.svcPacket
  refine iteS_ok (fun _ => iteS_ok (fun _ => State.domEvent_ok _ _ _ hs) (fun _ => hs)) (fun _ => ?_)
  extract_lets s1 x1 x2 s2
  have h1 : s1.Ok orig := State.incF_ok _ _ _ hs
  have hu : Memory.wf s2.upd.bytes = true := by
    simp only [s2]
    split
    · exact hs.bytes
    · exact hs.bytes
  have h2 : s2.Ok orig := upd_ok h1 (u := s2.upd) hu
  clear_value s2
  refine iteS_ok (fun _ => h2) (fun _ => iteS_ok (fun _ => h2) (fun _ => iteS_ok
    (fun _ => State.svcReply_ok _ _ _ _ _ h2) (fun _ => hk _ h2)))

theorem State.updLink_ok (s : State) (cmd : Nat) (seq : Nat) (k : State → Nat × State) (hs : s.Ok orig) (hk : ∀ (a0 : State), a0.Ok orig → (k a0).2.Ok orig) :
    (State.updLink s cmd seq k).Ok orig := by
  unfold State.updLink
  try dsimp only
  repeat' (first
    | with_reducible assumption
    | with_reducible apply State.raiseTask_ok
    | with_reducible apply State.svcPacket_ok
    | with_reducible apply State.svcReply_ok
    | with_reducible apply parts_ok
    | simp only [mk_ok]
    | with_reducible apply iteS_ok
    | intro _
    | split
    | with_reducible apply_assumption
    | dsimp only)

theorem State.mbxReply_ok (s : State) (cmd : Nat) (st : Nat) (hs : s.Ok orig) :
    (State.mbxReply s cmd st).Ok orig := by
  unfold State.mbxReply
  try dsimp only
  repeat' (first
    | with_reducible assumption
    | with_reducible apply State.mbxCtrlWrite_ok
    | with_reducible apply State.mbxDataWrite_ok
    | with_reducible apply parts_ok
    | simp only [mk_ok]
    | with_reducible apply iteS_ok
    | intro _
    | split
    | with_reducible apply_assumption
    | dsimp only)

theorem State.updEndReply_ok (src : Nat) (seq : Nat) (r : Option Nat × State) (hr : r.2.Ok orig) :
    (State.updEndReply src seq r).Ok orig := by
  unfold State.updEndReply
  try dsimp only
  repeat' (first
    | with_reducible assumption
    | with_reducible apply State.mbxReply_ok
    | with_reducible apply State.svcReply_ok
    | with_reducible apply parts_ok
    | simp only [mk_ok]
    | with_reducible apply iteS_ok
    | intro _
    | split
    | with_reducible apply_assumption
    | dsimp only)

theorem State.updEndGoOn_ok (s : State) (src : Nat) (seq : Nat) (n : Nat) (ns : List Nat) (counted : Bool) (hs : s.Ok orig) :
    (State.updEndGoOn s src seq n ns counted).Ok orig := by
  unfold State.updEndGoOn
  try dsimp only
  repeat' (first
    | with_reducible assumption
    | with_reducible apply State.moreKeys_ok
    | with_reducible apply State.setF_ok
    | with_reducible apply State.updEnd_ok
    | with_reducible apply State.updEndReply_ok
    | with_reducible apply State.updSigned_ok
    | with_reducible apply parts_ok
    | simp only [mk_ok]
    | with_reducible apply iteS_ok
    | intro _
    | split
    | with_reducible apply_assumption
    | dsimp only)

theorem ite2P_ok {α : Type} {c : Prop} [Decidable c] {s t : α × State} (hs : s.2.Ok orig) (ht : t.2.Ok orig) :
    (if c then s else t).2.Ok orig := by
  split
  · exact hs
  · exact ht

theorem State.updHostTake_ok (s : State) (cmd : Nat) (k : State → State) (hs : s.Ok orig) (hk : ∀ (a0 : State), a0.Ok orig → (k a0).Ok orig) :
    (State.updHostTake s cmd k).Ok orig := by
  unfold State.updHostTake
  refine iteS_ok (fun _ => hs) (fun _ => ?_)
  extract_lets s1 u s2
  have h1 : s1.Ok orig := State.mbxCtrlWrite_ok _ _ _ _ hs
  have h2 : s2.Ok orig := iteS_ok (fun _ => upd_ok h1 (u := { s1.upd with lastFrc := s.now }) h1.bytes) (fun _ => h1)
  exact iteS_ok (fun _ => hk _ h2) (fun _ => State.mbxReply_ok _ _ _ h2)

theorem State.updHost_ok (s : State) (cmd : Nat) (k : State → Nat × State) (hs : s.Ok orig)
    (hk : ∀ (a0 : State), a0.Ok orig → (k a0).2.Ok orig) : (State.updHost s cmd k).Ok orig :=
  State.updHostTake_ok s cmd _ hs (fun t ht => State.mbxReply_ok _ _ _ (hk t ht))

theorem noPayload_ok (p : Bytes) (k : State → Nat × State) (s : State) (hk : ∀ (a0 : State), a0.Ok orig → (k a0).2.Ok orig) (hs : s.Ok orig) :
    (noPayload p k s).2.Ok orig := by
  unfold noPayload
  try dsimp only
  repeat' (first
    | with_reducible assumption
    | with_reducible apply parts_ok
    | simp only [mk_ok]
    | with_reducible apply iteS_ok
    | intro _
    | split
    | with_reducible apply_assumption
    | dsimp only)

theorem State.svnBurn_ok (s : State) (hs : s.Ok orig) : (State.svnBurn s).Ok orig := by
  unfold State.svnBurn
  refine iteS_ok (fun _ => hs) (fun _ => ?_)
  exact State.psRequest_ok _ _ _ (State.setF_ok _ _ _ (mk_ok.2 (flash_ok hs (Nat.le_max_left _ _) (Nat.le_refl _) rfl)))

theorem State.wiAccept_ok (s : State) (g : Grp) (b : Bytes) (hs : s.Ok orig) :
    (State.wiAccept s g b).Ok orig := by
  unfold State.wiAccept
  try dsimp only
  repeat' (first
    | with_reducible assumption
    | with_reducible apply State.addItem_ok
    | with_reducible apply State.complete_ok
    | with_reducible apply State.completeAll_ok
    | with_reducible apply State.domEvent_ok
    | with_reducible apply State.finish_ok
    | with_reducible apply parts_ok
    | simp only [mk_ok]
    | with_reducible apply iteS_ok
    | intro _
    | split
    | with_reducible apply_assumption
    | dsimp only)

theorem State.wiSubmit_ok (s : State) (g : Grp) (p : Pkt) (ps : List Pkt) (hs : s.Ok orig) :
    (State.wiSubmit s g p ps).Ok orig := by
  unfold State.wiSubmit
  try dsimp only
  repeat' (first
    | with_reducible assumption
    | with_reducible apply State.incF_ok
    | with_reducible apply State.pushRefusal_ok
    | with_reducible apply State.setStrm_ok
    | with_reducible apply State.wiAccept_ok
    | with_reducible apply parts_ok
    | simp only [mk_ok]
    | with_reducible apply iteS_ok
    | intro _
    | split
    | with_reducible apply_assumption
    | dsimp only)

theorem State.wiHead_ok (s : State) (g : Grp) (ok : Pkt → Bool) (hs : s.Ok orig) :
    (State.wiHead s g ok).Ok orig := by
  unfold State.wiHead
  try dsimp only
  repeat' (first
    | with_reducible assumption
    | with_reducible apply State.domEvent_ok
    | with_reducible apply State.setStrm_ok
    | with_reducible apply State.wiSubmit_ok
    | with_reducible apply parts_ok
    | simp only [mk_ok]
    | with_reducible apply iteS_ok
    | intro _
    | split
    | with_reducible apply_assumption
    | dsimp only)

theorem State.startOn_ok (s : State) (k : Nat) (lvl : Nat) (e : Nat × Nat × Option Nat) (lat : Nat) (hs : s.Ok orig) :
    (State.startOn s k lvl e lat).Ok orig := by
  unfold State.startOn
  try dsimp only
  repeat' (first
    | with_reducible assumption
    | with_reducible apply State.maxF_ok
    | with_reducible apply State.updArb_ok
    | with_reducible apply State.updItem_ok
    | with_reducible apply State.updTask_ok
    | with_reducible apply parts_ok
    | simp only [mk_ok]
    | with_reducible apply iteS_ok
    | intro _
    | split
    | with_reducible apply_assumption
    | dsimp only)

theorem State.takeRx_ok (s : State) (task : Nat) (hs : s.Ok orig) :
    (State.takeRx s task).Ok orig := by
  unfold State.takeRx
  try dsimp only
  repeat' (first
    | with_reducible assumption
    | with_reducible apply parts_ok
    | simp only [mk_ok]
    | with_reducible apply iteS_ok
    | intro _
    | split
    | with_reducible apply_assumption
    | dsimp only)

theorem State.coreFault_ok (s : State) (k : Nat) (overrun : Bool) (hs : s.Ok orig) :
    (State.coreFault s k overrun).Ok orig := by
  unfold State.coreFault
  try dsimp only
  repeat' (first
    | with_reducible assumption
    | with_reducible apply State.claimTrouble_ok
    | with_reducible apply State.complete_ok
    | with_reducible apply State.incF_ok
    | with_reducible apply State.resetAll_ok
    | with_reducible apply State.setBit_ok
    | with_reducible apply State.status_ok
    | with_reducible apply State.updArb_ok
    | with_reducible apply State.updItem_ok
    | with_reducible apply State.updTask_ok
    | with_reducible apply State.vbTrigger_ok
    | with_reducible apply parts_ok
    | simp only [mk_ok]
    | with_reducible apply iteS_ok
    | intro _
    | split
    | with_reducible apply_assumption
    | dsimp only)

theorem State.evtClr_ok (s : State) (secure : Bool) (t : Nat) (flag : Nat) (hs : s.Ok orig) :
    (State.evtClr s secure t flag).Ok orig := by
  unfold State.evtClr
  try dsimp only
  repeat' (first
    | with_reducible assumption
    | with_reducible apply State.clearFlag_ok
    | with_reducible apply State.setF_ok
    | with_reducible apply parts_ok
    | simp only [mk_ok]
    | with_reducible apply iteS_ok
    | intro _
    | split
    | with_reducible apply_assumption
    | dsimp only)

theorem State.maskWrite_ok (s : State) (m : Master) (v : Nat) (hs : s.Ok orig) :
    (State.maskWrite s m v).Ok orig := by
  unfold State.maskWrite
  try dsimp only
  repeat' (first
    | with_reducible assumption
    | with_reducible apply State.domEvent_ok
    | with_reducible apply State.updArb_ok
    | with_reducible apply State.updTask_ok
    | with_reducible apply parts_ok
    | simp only [mk_ok]
    | with_reducible apply iteS_ok
    | intro _
    | split
    | with_reducible apply_assumption
    | dsimp only)

theorem State.raiseMask_ok (s : State) (t : Nat) (mask : Nat) (hs : s.Ok orig) :
    (State.raiseMask s t mask).Ok orig := by
  unfold State.raiseMask
  try dsimp only
  repeat' (first
    | with_reducible assumption
    | with_reducible apply State.raiseFlag_ok
    | with_reducible apply foldl_ok
    | with_reducible apply parts_ok
    | simp only [mk_ok]
    | with_reducible apply iteS_ok
    | intro _
    | split
    | with_reducible apply_assumption
    | dsimp only)

theorem State.resumeAssign_ok (s : State) (i : WItem) (hs : s.Ok orig) :
    (State.resumeAssign s i).Ok orig := by
  unfold State.resumeAssign
  try dsimp only
  repeat' (first
    | with_reducible assumption
    | with_reducible apply State.pglAssign_ok
    | with_reducible apply parts_ok
    | simp only [mk_ok]
    | with_reducible apply iteS_ok
    | intro _
    | split
    | with_reducible apply_assumption
    | dsimp only)

theorem State.ethDown_ok (s : State) (n : Nat) (hs : s.Ok orig) :
    (State.ethDown s n).Ok orig := by
  unfold State.ethDown
  try dsimp only
  repeat' (first
    | with_reducible assumption
    | with_reducible apply State.claimTrouble_ok
    | with_reducible apply State.setF_ok
    | with_reducible apply parts_ok
    | simp only [mk_ok]
    | with_reducible apply iteS_ok
    | intro _
    | split
    | with_reducible apply_assumption
    | dsimp only)

theorem State.ethCtrl_ok (s : State) (n : Nat) (v : Nat) (hs : s.Ok orig) :
    (State.ethCtrl s n v).Ok orig := by
  unfold State.ethCtrl
  try dsimp only
  repeat' (first
    | with_reducible assumption
    | with_reducible apply State.ethDown_ok
    | with_reducible apply State.setF_ok
    | with_reducible apply parts_ok
    | simp only [mk_ok]
    | with_reducible apply iteS_ok
    | intro _
    | split
    | with_reducible apply_assumption
    | dsimp only)

theorem State.plainWrite_ok (s : State) (m : Master) (a : Nat) (v : Nat) (hw : Nat) (hs : s.Ok orig) :
    (State.plainWrite s m a v hw).Ok orig := by
  unfold State.plainWrite
  try dsimp only
  repeat' (first
    | with_reducible assumption
    | with_reducible apply State.wr_ok
    | with_reducible apply parts_ok
    | simp only [mk_ok]
    | with_reducible apply iteS_ok
    | intro _
    | split
    | with_reducible apply_assumption
    | dsimp only)

theorem State.eachDom_ok (s : State) (v : Nat) (f : State → Nat → State) (hs : s.Ok orig) (hf : ∀ (a0 : State) (a1 : Nat), a0.Ok orig → (f a0 a1).Ok orig) :
    (State.eachDom s v f).Ok orig := by
  unfold State.eachDom
  try dsimp only
  repeat' (first
    | with_reducible assumption
    | with_reducible apply foldl_ok
    | with_reducible apply parts_ok
    | simp only [mk_ok]
    | with_reducible apply iteS_ok
    | intro _
    | split
    | with_reducible apply_assumption
    | dsimp only)

theorem State.writeLodge_ok (s : State) (m : Master) (a : Nat) (v : Nat) (hw : Nat) (hs : s.Ok orig) :
    (State.writeLodge s m a v hw).Ok orig := by
  unfold State.writeLodge
  try dsimp only
  repeat' (first
    | with_reducible assumption
    | with_reducible apply State.domFaultClear_ok
    | with_reducible apply State.domOffReq_ok
    | with_reducible apply State.domOnReq_ok
    | with_reducible apply State.eachDom_ok
    | with_reducible apply State.plainWrite_ok
    | with_reducible apply State.pwrReq_ok
    | with_reducible apply State.rstReq_ok
    | with_reducible apply State.updXing_ok
    | with_reducible apply State.wakeArm_ok
    | with_reducible apply parts_ok
    | simp only [mk_ok]
    | with_reducible apply iteS_ok
    | intro _
    | split
    | with_reducible apply_assumption
    | dsimp only)

theorem State.writeGzb_ok (s : State) (m : Master) (a : Nat) (v : Nat) (hw : Nat) (hs : s.Ok orig) :
    (State.writeGzb s m a v hw).Ok orig := by
  unfold State.writeGzb
  try dsimp only
  repeat' (first
    | with_reducible assumption
    | with_reducible apply State.gzbFaultClear_ok
    | with_reducible apply State.plainWrite_ok
    | with_reducible apply State.raiseCause_ok
    | with_reducible apply parts_ok
    | simp only [mk_ok]
    | with_reducible apply iteS_ok
    | intro _
    | split
    | with_reducible apply_assumption
    | dsimp only)

theorem State.writeMbx_ok (s : State) (m : Master) (a : Nat) (v : Nat) (hw : Nat) (hs : s.Ok orig) :
    (State.writeMbx s m a v hw).Ok orig := by
  unfold State.writeMbx
  try dsimp only
  repeat' (first
    | with_reducible assumption
    | with_reducible apply State.claimWrite_ok
    | with_reducible apply State.hostReset_ok
    | with_reducible apply State.leaseWrite_ok
    | with_reducible apply State.mbxCtrlWrite_ok
    | with_reducible apply State.mbxDataWrite_ok
    | with_reducible apply State.plainWrite_ok
    | with_reducible apply parts_ok
    | simp only [mk_ok]
    | with_reducible apply iteS_ok
    | intro _
    | split
    | with_reducible apply_assumption
    | dsimp only)

theorem State.writeArb_ok (s : State) (m : Master) (a : Nat) (v : Nat) (hw : Nat) (hs : s.Ok orig) :
    (State.writeArb s m a v hw).Ok orig := by
  unfold State.writeArb
  try dsimp only
  repeat' (first
    | with_reducible assumption
    | with_reducible apply State.evtClr_ok
    | with_reducible apply State.evtSet_ok
    | with_reducible apply State.maskWrite_ok
    | with_reducible apply State.plainWrite_ok
    | with_reducible apply parts_ok
    | simp only [mk_ok]
    | with_reducible apply iteS_ok
    | intro _
    | split
    | with_reducible apply_assumption
    | dsimp only)

theorem State.writeSdl_ok (s : State) (m : Master) (a : Nat) (v : Nat) (hw : Nat) (hs : s.Ok orig) :
    (State.writeSdl s m a v hw).Ok orig := by
  unfold State.writeSdl
  try dsimp only
  repeat' (first
    | with_reducible assumption
    | with_reducible apply State.cmpArm_ok
    | with_reducible apply State.cmpDisarm_ok
    | with_reducible apply State.convert_ok
    | with_reducible apply State.plainWrite_ok
    | with_reducible apply State.ppsGate_ok
    | with_reducible apply parts_ok
    | simp only [mk_ok]
    | with_reducible apply iteS_ok
    | intro _
    | split
    | with_reducible apply_assumption
    | dsimp only)

theorem State.writeWkt_ok (s : State) (m : Master) (a : Nat) (v : Nat) (hw : Nat) (hs : s.Ok orig) :
    (State.writeWkt s m a v hw).Ok orig := by
  unfold State.writeWkt
  try dsimp only
  repeat' (first
    | with_reducible assumption
    | with_reducible apply State.axCtrl_ok
    | with_reducible apply State.axFaultClear_ok
    | with_reducible apply State.limitWrite_ok
    | with_reducible apply State.plainWrite_ok
    | with_reducible apply parts_ok
    | simp only [mk_ok]
    | with_reducible apply iteS_ok
    | intro _
    | split
    | with_reducible apply_assumption
    | dsimp only)

theorem State.writeEff_ok (s : State) (m : Master) (a : Nat) (v : Nat) (hw : Nat) (hs : s.Ok orig) :
    (State.writeEff s m a v hw).Ok orig := by
  have hp : (s.plainWrite m a v hw).Ok orig := State.plainWrite_ok _ _ _ _ _ hs
  unfold State.writeEff
  split
  · exact State.streamWrite_ok _ _ _ hs
  · refine iteS_ok (fun _ => iteS_ok (fun _ => hs) (fun _ => ?_)) (fun _ => ?_)
    · exact plan_ok hs (p := { s.plan with staging := memWrite s.plan.staging (a - 0x200000) (leBytes 4 v) })
        (memWrite_wf _ _ _ hs.staging)
    · generalize s.plainWrite m a v hw = t at hp
      split
      · exact iteS_ok (fun _ => iteS_ok (fun _ => State.swapGo_ok _ _ _ hs) (fun _ => hs)) (fun _ => hp)
      · exact State.writeLodge_ok _ _ _ _ _ hs
      · exact State.writeGzb_ok _ _ _ _ _ hs
      · exact State.writeMbx_ok _ _ _ _ _ hs
      · exact State.writeArb_ok _ _ _ _ _ hs
      · exact State.writeSdl_ok _ _ _ _ _ hs
      · exact State.writeWkt_ok _ _ _ _ _ hs
      · exact iteS_ok (fun _ => State.vbCtrlWrite_ok _ _ _ hs) (fun _ => hp)
      · exact iteS_ok (fun _ => State.ethCtrl_ok _ _ _ hs)
          (fun _ => iteS_ok (fun _ => State.ethCtrl_ok _ _ _ hs) (fun _ => hp))
      · exact iteS_ok (fun _ => State.updCtrlWrite_ok _ _ hs) (fun _ => hp)
      · exact iteS_ok (fun _ => State.strmCtrlWrite_ok _ _ _ hs) (fun _ => hp)

theorem State.hostWrite_ok (s : State) (m : Master) (a : Nat) (v : Nat) (hw : Nat) (hs : s.Ok orig) :
    (State.hostWrite s m a v hw).Ok orig := by
  unfold State.hostWrite
  try dsimp only
  repeat' (first
    | with_reducible assumption
    | with_reducible apply State.guardW_ok
    | with_reducible apply State.writeEff_ok
    | with_reducible apply parts_ok
    | simp only [mk_ok]
    | with_reducible apply iteS_ok
    | intro _
    | split
    | with_reducible apply_assumption
    | dsimp only)

theorem State.rcClear_ok (s : State) (m : Master) (a : Nat) (ev : Nat) (hs : s.Ok orig) :
    (State.rcClear s m a ev).Ok orig := by
  unfold State.rcClear
  try dsimp only
  repeat' (first
    | with_reducible assumption
    | with_reducible apply State.updTask_ok
    | with_reducible apply State.updXing_ok
    | with_reducible apply State.wr_ok
    | with_reducible apply parts_ok
    | simp only [mk_ok]
    | with_reducible apply iteS_ok
    | intro _
    | split
    | with_reducible apply_assumption
    | dsimp only)

theorem State.latchHi_ok (s : State) (lo : Nat) (v : Nat) (hs : s.Ok orig) :
    (State.latchHi s lo v).2.Ok orig := by
  unfold State.latchHi
  try dsimp only
  repeat' (first
    | with_reducible assumption
    | with_reducible apply State.wr_ok
    | with_reducible apply parts_ok
    | simp only [mk_ok]
    | with_reducible apply iteS_ok
    | intro _
    | split
    | with_reducible apply_assumption
    | dsimp only)

theorem State.frcReadQ_ok (s : State) (a : Nat) (hs : s.Ok orig) :
    ∀ r, State.frcRead? s a = some r → r.2.Ok orig := by
  intro r hr
  unfold State.frcRead? at hr
  split at hr
  · cases hr; exact State.latchHi_ok _ _ _ hs
  · split at hr
    · cases hr; exact State.latchHi_ok _ _ _ hs
    · split at hr
      · cases hr; exact State.latchHi_ok _ _ _ hs
      · split at hr
        · cases hr; exact State.latchHi_ok _ _ _ hs
        · split at hr
          · cases hr; exact State.latchHi_ok _ _ _ hs
          · cases hr

theorem State.readEff_ok (s : State) (m : Master) (a : Nat) (ev : Nat) (hs : s.Ok orig) :
    (State.readEff s m a ev).2.Ok orig := by
  have h1 : (s.rcClear m a ev).Ok orig := State.rcClear_ok _ _ _ _ hs
  unfold State.readEff
  split
  · exact State.streamPop_ok _ _ hs
  · refine ite2P_ok hs (ite2P_ok hs (ite2P_ok hs ?_))
    split
    · exact State.frcReadQ_ok _ _ hs _ ‹_›
    · exact ite2P_ok (State.tbSample_ok _ _ _ hs) (ite2P_ok (State.claimRead_ok _ _ _ hs) h1)

theorem State.hostRead_ok (s : State) (m : Master) (a : Nat) (ev : Nat) (hs : s.Ok orig) :
    (State.hostRead s m a ev).2.Ok orig := by
  unfold State.hostRead
  try dsimp only
  repeat' (first
    | with_reducible assumption
    | with_reducible apply State.guardR_ok
    | with_reducible apply State.readEff_ok
    | with_reducible apply parts_ok
    | simp only [mk_ok]
    | with_reducible apply iteS_ok
    | intro _
    | split
    | with_reducible apply_assumption
    | dsimp only)

theorem State.updHspi_ok (s : State) (f : Hspi → Hspi) (hs : s.Ok orig) :
    (State.updHspi s f).Ok orig := by
  unfold State.updHspi
  try dsimp only
  repeat' (first
    | with_reducible assumption
    | with_reducible apply parts_ok
    | simp only [mk_ok]
    | with_reducible apply iteS_ok
    | intro _
    | split
    | with_reducible apply_assumption
    | dsimp only)

theorem State.hspiDo_ok (s : State) (k : State → Sel → State) (hs : s.Ok orig) (hk : ∀ (a0 : State) (a1 : Sel), a0.Ok orig → (k a0 a1).Ok orig) :
    (State.hspiDo s k).Ok orig := by
  unfold State.hspiDo
  try dsimp only
  repeat' (first
    | with_reducible assumption
    | with_reducible apply State.updHspi_ok
    | with_reducible apply parts_ok
    | simp only [mk_ok]
    | with_reducible apply iteS_ok
    | intro _
    | split
    | with_reducible apply_assumption
    | dsimp only)

theorem readBurst_fold (m : Master) (a : Nat) : ∀ (l : List Nat) (r : List DWord × State), r.2.Ok orig →
    (l.foldl (fun (r : List DWord × State) k =>
      let x := r.2.hostRead m (burstAddr a k)
      (r.1 ++ [x.1], x.2)) r).2.Ok orig
  | [], _, h => h
  | k :: l, r, h => readBurst_fold m a l _ (State.hostRead_ok r.2 m (burstAddr a k) 0 h)

theorem State.readBurst_ok (s : State) (m : Master) (a : Nat) (n : Nat) (hs : s.Ok orig) :
    (State.readBurst s m a n).2.Ok orig := readBurst_fold m a _ _ hs

theorem State.spiReadNow_ok (s : State) (m : Master) (a : Nat) (n : Nat) (hs : s.Ok orig) :
    (State.spiReadNow s m a n).Ok orig := by
  unfold State.spiReadNow
  try dsimp only
  repeat' (first
    | with_reducible assumption
    | with_reducible apply State.readBurst_ok
    | with_reducible apply State.updHspi_ok
    | with_reducible apply parts_ok
    | simp only [mk_ok]
    | with_reducible apply iteS_ok
    | intro _
    | split
    | with_reducible apply_assumption
    | dsimp only)

theorem State.spiSample_ok (s : State) (m : Master) (a : Nat) (n : Nat) (hs : s.Ok orig) :
    (State.spiSample s m a n).Ok orig := by
  unfold State.spiSample
  try dsimp only
  repeat' (first
    | with_reducible assumption
    | with_reducible apply State.domEvent_ok
    | with_reducible apply State.spiRead_ok
    | with_reducible apply State.spiReadNow_ok
    | with_reducible apply State.updHspi_ok
    | with_reducible apply parts_ok
    | simp only [mk_ok]
    | with_reducible apply iteS_ok
    | intro _
    | split
    | with_reducible apply_assumption
    | dsimp only)

theorem State.spiRead_ok (s : State) (m : Master) (a : Nat) (n : Nat) (hs : s.Ok orig) :
    (State.spiRead s m a n).Ok orig := by
  unfold State.spiRead
  try dsimp only
  repeat' (first
    | with_reducible assumption
    | with_reducible apply State.spiSample_ok
    | with_reducible apply State.updHspi_ok
    | with_reducible apply parts_ok
    | simp only [mk_ok]
    | with_reducible apply iteS_ok
    | intro _
    | split
    | with_reducible apply_assumption
    | dsimp only)

theorem State.spiPoke_ok (s : State) (hs : s.Ok orig) :
    (State.spiPoke s).Ok orig := by
  unfold State.spiPoke
  try dsimp only
  repeat' (first
    | with_reducible assumption
    | with_reducible apply State.domEvent_ok
    | with_reducible apply parts_ok
    | simp only [mk_ok]
    | with_reducible apply iteS_ok
    | intro _
    | split
    | with_reducible apply_assumption
    | dsimp only)

theorem State.postWord_ok (s : State) (p : PostedWrite) (hs : s.Ok orig) :
    (State.postWord s p).Ok orig := by
  unfold State.postWord
  try dsimp only
  repeat' (first
    | with_reducible assumption
    | with_reducible apply State.updHspi_ok
    | with_reducible apply parts_ok
    | simp only [mk_ok]
    | with_reducible apply iteS_ok
    | intro _
    | split
    | with_reducible apply_assumption
    | dsimp only)

theorem State.updEth_ok (s : State) (f : Eth → Eth) (hs : s.Ok orig) :
    (State.updEth s f).Ok orig := by
  unfold State.updEth
  try dsimp only
  repeat' (first
    | with_reducible assumption
    | with_reducible apply parts_ok
    | simp only [mk_ok]
    | with_reducible apply iteS_ok
    | intro _
    | split
    | with_reducible apply_assumption
    | dsimp only)

theorem State.ethAnswer_ok (s : State) (x : EthOpen) (res : Nat) (d : List DWord) (hs : s.Ok orig) :
    (State.ethAnswer s x res d).Ok orig := by
  unfold State.ethAnswer
  try dsimp only
  repeat' (first
    | with_reducible assumption
    | with_reducible apply State.incF_ok
    | with_reducible apply State.updEth_ok
    | with_reducible apply foldl_ok
    | with_reducible apply parts_ok
    | simp only [mk_ok]
    | with_reducible apply iteS_ok
    | intro _
    | split
    | with_reducible apply_assumption
    | dsimp only)

theorem State.ethOpen_ok (s : State) (x : EthOpen) (hs : s.Ok orig) :
    (State.ethOpen s x).Ok orig := by
  unfold State.ethOpen
  try dsimp only
  repeat' (first
    | with_reducible assumption
    | with_reducible apply State.updEth_ok
    | with_reducible apply parts_ok
    | simp only [mk_ok]
    | with_reducible apply iteS_ok
    | intro _
    | split
    | with_reducible apply_assumption
    | dsimp only)

theorem State.ethSample_ok (s : State) (x : EthOpen) (hs : s.Ok orig) :
    (State.ethSample s x).Ok orig := by
  unfold State.ethSample
  try dsimp only
  repeat' (first
    | with_reducible assumption
    | with_reducible apply State.domEvent_ok
    | with_reducible apply State.ethAnswer_ok
    | with_reducible apply State.ethReq_ok
    | with_reducible apply State.incF_ok
    | with_reducible apply State.readBurst_ok
    | with_reducible apply parts_ok
    | simp only [mk_ok]
    | with_reducible apply iteS_ok
    | intro _
    | split
    | with_reducible apply_assumption
    | dsimp only)

theorem State.ethNew_ok (s : State) (x : EthOpen) (data : List DWord) (hs : s.Ok orig) :
    (State.ethNew s x data).Ok orig := by
  unfold State.ethNew
  try dsimp only
  repeat' (first
    | with_reducible assumption
    | with_reducible apply State.ethAnswer_ok
    | with_reducible apply State.ethOpen_ok
    | with_reducible apply State.ethSample_ok
    | with_reducible apply State.incF_ok
    | with_reducible apply State.spiPoke_ok
    | with_reducible apply State.updHspi_ok
    | with_reducible apply parts_ok
    | simp only [mk_ok]
    | with_reducible apply iteS_ok
    | intro _
    | split
    | with_reducible apply_assumption
    | dsimp only)

theorem State.ethReq_ok (s0 : State) (port : Nat) (src : BitVec 48) (seq : Nat) (cmd : Nat) (a : Nat) (n : Nat) (data : List DWord) (hs0 : s0.Ok orig) :
    (State.ethReq s0 port src seq cmd a n data).Ok orig := by
  unfold State.ethReq
  try dsimp only
  repeat' (first
    | with_reducible assumption
    | with_reducible apply State.ethNew_ok
    | with_reducible apply State.incF_ok
    | with_reducible apply State.updEth_ok
    | with_reducible apply parts_ok
    | simp only [mk_ok]
    | with_reducible apply iteS_ok
    | intro _
    | split
    | with_reducible apply_assumption
    | dsimp only)

theorem State.ethDeliver_ok (s : State) (port : Nat) (src : BitVec 48) (seq : Nat) (cmd : Nat) (a : Nat) (n : Nat) (data : List DWord) (hs : s.Ok orig) :
    (State.ethDeliver s port src seq cmd a n data).Ok orig := by
  unfold State.ethDeliver
  try dsimp only
  repeat' (first
    | with_reducible assumption
    | with_reducible apply State.ethReq_ok
    | with_reducible apply State.ethSample_ok
    | with_reducible apply parts_ok
    | simp only [mk_ok]
    | with_reducible apply iteS_ok
    | intro _
    | split
    | with_reducible apply_assumption
    | dsimp only)

theorem State.writeDone_ok (s : State) (p : PostedWrite) (hs : s.Ok orig) :
    (State.writeDone s p).Ok orig := by
  unfold State.writeDone
  try dsimp only
  repeat' (first
    | with_reducible assumption
    | with_reducible apply State.ethAnswer_ok
    | with_reducible apply State.ethSample_ok
    | with_reducible apply State.incF_ok
    | with_reducible apply State.spiSample_ok
    | with_reducible apply State.updEth_ok
    | with_reducible apply State.updHspi_ok
    | with_reducible apply foldl_ok
    | with_reducible apply parts_ok
    | simp only [mk_ok]
    | with_reducible apply iteS_ok
    | intro _
    | split
    | with_reducible apply_assumption
    | dsimp only)

theorem State.ethWake_ok (s : State) (hs : s.Ok orig) :
    (State.ethWake s).Ok orig := by
  unfold State.ethWake
  try dsimp only
  repeat' (first
    | with_reducible assumption
    | with_reducible apply State.wakeBy_ok
    | with_reducible apply parts_ok
    | simp only [mk_ok]
    | with_reducible apply iteS_ok
    | intro _
    | split
    | with_reducible apply_assumption
    | dsimp only)

theorem State.ethHold_ok (s : State) (port : Nat) (etype : Nat) (k : State → State) (hs : s.Ok orig) (hk : ∀ (a0 : State), a0.Ok orig → (k a0).Ok orig) :
    (State.ethHold s port etype k).Ok orig := by
  unfold State.ethHold
  try dsimp only
  repeat' (first
    | with_reducible assumption
    | with_reducible apply State.ethWake_ok
    | with_reducible apply State.incF_ok
    | with_reducible apply State.updEth_ok
    | with_reducible apply parts_ok
    | simp only [mk_ok]
    | with_reducible apply iteS_ok
    | intro _
    | split
    | with_reducible apply_assumption
    | dsimp only)

theorem State.ethIn_ok (s : State) (port : Nat) (src : BitVec 48) (seq : Nat) (cmd : Nat) (a : Nat) (n : Nat) (data : List DWord) (hs : s.Ok orig) :
    (State.ethIn s port src seq cmd a n data).Ok orig := by
  unfold State.ethIn
  try dsimp only
  repeat' (first
    | with_reducible assumption
    | with_reducible apply State.ethHold_ok
    | with_reducible apply State.ethReq_ok
    | with_reducible apply State.ethWake_ok
    | with_reducible apply State.hold_ok
    | with_reducible apply State.incF_ok
    | with_reducible apply parts_ok
    | simp only [mk_ok]
    | with_reducible apply iteS_ok
    | intro _
    | split
    | with_reducible apply_assumption
    | dsimp only)

theorem State.ptpServo_ok (s : State) (off : Int) (rate : Int) (hs : s.Ok orig) :
    (State.ptpServo s off rate).Ok orig := by
  unfold State.ptpServo
  try dsimp only
  repeat' (first
    | with_reducible assumption
    | with_reducible apply State.cmpStep_ok
    | with_reducible apply State.retimeAll_ok
    | with_reducible apply State.setF_ok
    | with_reducible apply State.updEth_ok
    | with_reducible apply State.updSdl_ok
    | with_reducible apply parts_ok
    | simp only [mk_ok]
    | with_reducible apply iteS_ok
    | intro _
    | split
    | with_reducible apply_assumption
    | dsimp only)

theorem State.ptpInstance_ok (s : State) (port : Nat) (r : PtpOut) (hs : s.Ok orig) :
    (State.ptpInstance s port r).Ok orig := by
  unfold State.ptpInstance
  try dsimp only
  repeat' (first
    | with_reducible assumption
    | with_reducible apply State.ptpFollow_ok
    | with_reducible apply State.ptpServo_ok
    | with_reducible apply State.ptpSet_ok
    | with_reducible apply State.setF_ok
    | with_reducible apply State.setI_ok
    | with_reducible apply State.updEth_ok
    | with_reducible apply parts_ok
    | simp only [mk_ok]
    | with_reducible apply iteS_ok
    | intro _
    | split
    | with_reducible apply_assumption
    | dsimp only)

theorem State.ptpServe_ok (s : State) (port : Nat) (x : PtpMsg) (stamp : List DWord) (hs : s.Ok orig) :
    (State.ptpServe s port x stamp).Ok orig := by
  unfold State.ptpServe
  try dsimp only
  repeat' (first
    | with_reducible assumption
    | with_reducible apply State.incF_ok
    | with_reducible apply State.updEth_ok
    | with_reducible apply parts_ok
    | simp only [mk_ok]
    | with_reducible apply iteS_ok
    | intro _
    | split
    | with_reducible apply_assumption
    | dsimp only)

theorem State.ptpTake_ok (s : State) (port : Nat) (x : PtpMsg) (r : PtpOut) (stamp : List DWord) (hs : s.Ok orig) :
    (State.ptpTake s port x r stamp).Ok orig := by
  unfold State.ptpTake
  try dsimp only
  repeat' (first
    | with_reducible assumption
    | with_reducible apply State.ptpInstance_ok
    | with_reducible apply State.ptpServe_ok
    | with_reducible apply State.updEth_ok
    | with_reducible apply parts_ok
    | simp only [mk_ok]
    | with_reducible apply iteS_ok
    | intro _
    | split
    | with_reducible apply_assumption
    | dsimp only)

theorem State.svcLen_ok (s : State) (cmd : Nat) (seq : Nat) (ok : Bool) (k : State → State) (hs : s.Ok orig) (hk : ∀ (a0 : State), a0.Ok orig → (k a0).Ok orig) :
    (State.svcLen s cmd seq ok k).Ok orig := by
  unfold State.svcLen
  try dsimp only
  repeat' (first
    | with_reducible assumption
    | with_reducible apply State.svcPacket_ok
    | with_reducible apply State.svcReply_ok
    | with_reducible apply parts_ok
    | simp only [mk_ok]
    | with_reducible apply iteS_ok
    | intro _
    | split
    | with_reducible apply_assumption
    | dsimp only)

theorem State.svcAccess_ok (s : State) (write : Bool) (seq : Nat) (a : Nat) (n : Nat) (data : List Word) (hs : s.Ok orig) :
    (State.svcAccess s write seq a n data).Ok orig := by
  unfold State.svcAccess
  try dsimp only
  repeat' (first
    | with_reducible assumption
    | with_reducible apply State.domEvent_ok
    | with_reducible apply State.hostWrite_ok
    | with_reducible apply State.readBurst_ok
    | with_reducible apply State.svcReply_ok
    | with_reducible apply foldl_ok
    | with_reducible apply parts_ok
    | simp only [mk_ok]
    | with_reducible apply iteS_ok
    | intro _
    | split
    | with_reducible apply_assumption
    | dsimp only)

theorem State.svcItem_ok (s : State) (seq : Nat) (b : Bytes) (hs : s.Ok orig) :
    (State.svcItem s seq b).Ok orig := by
  unfold State.svcItem
  try dsimp only
  repeat' (first
    | with_reducible assumption
    | with_reducible apply State.svcReply_ok
    | with_reducible apply State.wiAccept_ok
    | with_reducible apply parts_ok
    | simp only [mk_ok]
    | with_reducible apply iteS_ok
    | intro _
    | split
    | with_reducible apply_assumption
    | dsimp only)

theorem State.tamperFirst_ok (s : State) (bits : Nat) (hs : s.Ok orig) :
    (State.tamperFirst s bits).Ok orig := by
  unfold State.tamperFirst
  try dsimp only
  repeat' (first
    | with_reducible assumption
    | with_reducible apply State.setF_ok
    | with_reducible apply State.updOrg_ok
    | with_reducible apply parts_ok
    | simp only [mk_ok]
    | with_reducible apply iteS_ok
    | intro _
    | split
    | with_reducible apply_assumption
    | dsimp only)

theorem State.zeroise_ok (s : State) (hs : s.Ok orig) :
    (State.zeroise s).Ok orig := by
  unfold State.zeroise
  try dsimp only
  repeat' (first
    | with_reducible assumption
    | with_reducible apply State.setStopKeys_ok
    | with_reducible apply State.updOrg_ok
    | with_reducible apply parts_ok
    | simp only [mk_ok]
    | with_reducible apply iteS_ok
    | intro _
    | split
    | with_reducible apply_assumption
    | dsimp only)

theorem State.psAbandon_ok (s : State) (drop : PsReq → Bool) (hs : s.Ok orig) :
    (State.psAbandon s drop).Ok orig := by
  unfold State.psAbandon
  try dsimp only
  repeat' (first
    | with_reducible assumption
    | with_reducible apply parts_ok
    | simp only [mk_ok]
    | with_reducible apply iteS_ok
    | intro _
    | split
    | with_reducible apply_assumption
    | dsimp only)

theorem State.abortKeyOps_ok (s : State) (hs : s.Ok orig) :
    (State.abortKeyOps s).Ok orig := by
  unfold State.abortKeyOps
  try dsimp only
  repeat' (first
    | with_reducible assumption
    | with_reducible apply State.finish_ok
    | with_reducible apply State.kuNext_ok
    | with_reducible apply State.psAbandon_ok
    | with_reducible apply State.updOrg_ok
    | with_reducible apply foldl_ok
    | with_reducible apply parts_ok
    | simp only [mk_ok]
    | with_reducible apply iteS_ok
    | intro _
    | split
    | with_reducible apply_assumption
    | dsimp only)

theorem State.tamperRun_ok (s : State) (hs : s.Ok orig) :
    (State.tamperRun s).Ok orig := by
  unfold State.tamperRun
  try dsimp only
  repeat' (first
    | with_reducible assumption
    | with_reducible apply State.makeFree_ok
    | with_reducible apply State.updEnd_ok
    | with_reducible apply State.updOrg_ok
    | with_reducible apply foldl_ok
    | with_reducible apply parts_ok
    | simp only [mk_ok]
    | with_reducible apply iteS_ok
    | intro _
    | split
    | with_reducible apply_assumption
    | dsimp only)

theorem State.tamperRespond_ok (s : State) (st : Nat) (hs : s.Ok orig) :
    (State.tamperRespond s st).Ok orig := by
  unfold State.tamperRespond
  try dsimp only
  repeat' (first
    | with_reducible assumption
    | with_reducible apply State.resetAll_ok
    | with_reducible apply State.tamper_ok
    | with_reducible apply State.tamperRun_ok
    | with_reducible apply State.updPower_ok
    | with_reducible apply State.wakeBy_ok
    | with_reducible apply parts_ok
    | simp only [mk_ok]
    | with_reducible apply iteS_ok
    | intro _
    | split
    | with_reducible apply_assumption
    | dsimp only)

theorem State.tamper_ok (s : State) (bits : Nat) (hs : s.Ok orig) : (State.tamper s bits).Ok orig := by
  unfold State.tamper
  extract_lets st s1 s2 f3 s3 s4
  have h1 : s1.Ok orig := State.setF_ok _ _ _ (State.tamperFirst_ok _ _ hs)
  have h2 : s2.Ok orig := State.setF_ok _ _ _ h1
  have h3 : s3.Ok orig := mk_ok.2 (flash_ok h2 (Nat.le_refl _) (Nat.le_max_left _ _) rfl)
  have h4 : s4.Ok orig := State.endTest_ok _ _ (State.raiseCause_ok _ _ _ (State.zeroise_ok _ (State.abortKeyOps_ok _ h3)))
  clear_value s4
  exact State.tamperRespond_ok _ _ (State.vbTrigger_ok _ _ _ _ _ h4)

theorem State.tamperNow_ok (s : State) (now : Nat) (hs : s.Ok orig) :
    (State.tamperNow s now).Ok orig := by
  unfold State.tamperNow
  try dsimp only
  repeat' (first
    | with_reducible assumption
    | with_reducible apply State.setF_ok
    | with_reducible apply State.tamper_ok
    | with_reducible apply parts_ok
    | simp only [mk_ok]
    | with_reducible apply iteS_ok
    | intro _
    | split
    | with_reducible apply_assumption
    | dsimp only)

theorem State.tempMeasure_ok (s : State) (t : Int) (upd : Bool) (hs : s.Ok orig) :
    (State.tempMeasure s t upd).Ok orig := by
  unfold State.tempMeasure
  try dsimp only
  repeat' (first
    | with_reducible assumption
    | with_reducible apply State.setF_ok
    | with_reducible apply State.setI_ok
    | with_reducible apply State.tamperNow_ok
    | with_reducible apply parts_ok
    | simp only [mk_ok]
    | with_reducible apply iteS_ok
    | intro _
    | split
    | with_reducible apply_assumption
    | dsimp only)

theorem State.psSelect_ok (s : State) (hs : s.Ok orig) :
    (State.psSelect s).Ok orig := by
  unfold State.psSelect
  try dsimp only
  repeat' (first
    | with_reducible assumption
    | with_reducible apply State.setF_ok
    | with_reducible apply State.updShow_ok
    | with_reducible apply parts_ok
    | simp only [mk_ok]
    | with_reducible apply iteS_ok
    | intro _
    | split
    | with_reducible apply_assumption
    | dsimp only)

theorem State.vbScan_ok (s : State) (hs : s.Ok orig) :
    (State.vbScan s).Ok orig := by
  unfold State.vbScan
  try dsimp only
  repeat' (first
    | with_reducible assumption
    | with_reducible apply State.setF_ok
    | with_reducible apply parts_ok
    | simp only [mk_ok]
    | with_reducible apply iteS_ok
    | intro _
    | split
    | with_reducible apply_assumption
    | dsimp only)

theorem State.sampleInput_ok (s : State) (i : Nat) (good : Bool) (hs : s.Ok orig) :
    (State.sampleInput s i good).Ok orig := by
  unfold State.sampleInput
  try dsimp only
  repeat' (first
    | with_reducible assumption
    | with_reducible apply State.levelCause_ok
    | with_reducible apply State.setF_ok
    | with_reducible apply parts_ok
    | simp only [mk_ok]
    | with_reducible apply iteS_ok
    | intro _
    | split
    | with_reducible apply_assumption
    | dsimp only)

theorem State.startUp_ok (s : State) (p : StartPads) (hs : s.Ok orig) :
    (State.startUp s p).Ok orig := by
  unfold State.startUp
  try dsimp only
  repeat' (first
    | with_reducible assumption
    | with_reducible apply State.domOnReq_ok
    | with_reducible apply State.psSelect_ok
    | with_reducible apply State.sampleInput_ok
    | with_reducible apply State.setF_ok
    | with_reducible apply State.setRadio_ok
    | with_reducible apply State.svnBurn_ok
    | with_reducible apply State.tamper_ok
    | with_reducible apply State.tamperNow_ok
    | with_reducible apply State.vbScan_ok
    | with_reducible apply parts_ok
    | with_reducible apply restart_ok
    | simp only [mk_ok]
    | with_reducible apply iteS_ok
    | intro _
    | split
    | with_reducible apply_assumption
    | dsimp only)

theorem State.vbClean_ok (s : State) (y : Nat) (hs : s.Ok orig) :
    (State.vbClean s y).Ok orig := by
  unfold State.vbClean
  try dsimp only
  repeat' (first
    | with_reducible assumption
    | with_reducible apply State.setF_ok
    | with_reducible apply State.vbErase_ok
    | with_reducible apply parts_ok
    | simp only [mk_ok]
    | with_reducible apply iteS_ok
    | intro _
    | split
    | with_reducible apply_assumption
    | dsimp only)

theorem State.vbKeepErased_ok (s : State) (hs : s.Ok orig) :
    (State.vbKeepErased s).Ok orig := by
  unfold State.vbKeepErased
  try dsimp only
  repeat' (first
    | with_reducible assumption
    | with_reducible apply State.vbClean_ok
    | with_reducible apply parts_ok
    | simp only [mk_ok]
    | with_reducible apply iteS_ok
    | intro _
    | split
    | with_reducible apply_assumption
    | dsimp only)

theorem State.essStart_ok (s : State) (hs : s.Ok orig) :
    (State.essStart s).Ok orig := by
  unfold State.essStart
  try dsimp only
  repeat' (first
    | with_reducible assumption
    | with_reducible apply State.vbErase_ok
    | with_reducible apply parts_ok
    | simp only [mk_ok]
    | with_reducible apply iteS_ok
    | intro _
    | split
    | with_reducible apply_assumption
    | dsimp only)

theorem State.baseDue_ok (s : State) (hs : s.Ok orig) :
    (State.baseDue s).Ok orig := by
  unfold State.baseDue
  try dsimp only
  repeat' (first
    | with_reducible assumption
    | with_reducible apply State.setF_ok
    | with_reducible apply parts_ok
    | simp only [mk_ok]
    | with_reducible apply iteS_ok
    | intro _
    | split
    | with_reducible apply_assumption
    | dsimp only)

theorem State.vbApply_ok (s : State) (hs : s.Ok orig) :
    (State.vbApply s).Ok orig := by
  unfold State.vbApply
  try dsimp only
  repeat' (first
    | with_reducible assumption
    | with_reducible apply State.baseDue_ok
    | with_reducible apply State.essStart_ok
    | with_reducible apply State.setF_ok
    | with_reducible apply State.vbKeepErased_ok
    | with_reducible apply State.vbTrigger_ok
    | with_reducible apply parts_ok
    | simp only [mk_ok]
    | with_reducible apply iteS_ok
    | intro _
    | split
    | with_reducible apply_assumption
    | dsimp only)

theorem State.bootFinish_ok (s : State) (hs : s.Ok orig) :
    (State.bootFinish s).Ok orig := by
  unfold State.bootFinish
  try dsimp only
  repeat' (first
    | with_reducible assumption
    | with_reducible apply State.holdUp_ok
    | with_reducible apply State.irq_ok
    | with_reducible apply State.setF_ok
    | with_reducible apply State.vbApply_ok
    | with_reducible apply parts_ok
    | simp only [mk_ok]
    | with_reducible apply iteS_ok
    | intro _
    | split
    | with_reducible apply_assumption
    | dsimp only)

theorem State.keysDue_ok (s : State) (hs : s.Ok orig) :
    (State.keysDue s).Ok orig := by
  unfold State.keysDue
  try dsimp only
  repeat' (first
    | with_reducible assumption
    | with_reducible apply State.domEvent_ok
    | with_reducible apply State.drawKeys_ok
    | with_reducible apply State.loadJoinKey_ok
    | with_reducible apply parts_ok
    | simp only [mk_ok]
    | with_reducible apply iteS_ok
    | intro _
    | split
    | with_reducible apply_assumption
    | dsimp only)

theorem State.cmpOwners_ok (s : State) (hs : s.Ok orig) :
    (State.cmpOwners s).Ok orig := by
  unfold State.cmpOwners
  try dsimp only
  repeat' (first
    | with_reducible assumption
    | with_reducible apply State.setF_ok
    | with_reducible apply foldl_ok
    | with_reducible apply parts_ok
    | simp only [mk_ok]
    | with_reducible apply iteS_ok
    | intro _
    | split
    | with_reducible apply_assumption
    | dsimp only)

theorem State.slotRunDue_ok (s : State) (hs : s.Ok orig) :
    (State.slotRunDue s).Ok orig := by
  unfold State.slotRunDue
  try dsimp only
  repeat' (first
    | with_reducible assumption
    | with_reducible apply State.setSlotRun_ok
    | with_reducible apply parts_ok
    | simp only [mk_ok]
    | with_reducible apply iteS_ok
    | intro _
    | split
    | with_reducible apply_assumption
    | dsimp only)

theorem State.domLoad_ok (s : State) (d : Nat) (hs : s.Ok orig) :
    (State.domLoad s d).Ok orig := by
  unfold State.domLoad
  try dsimp only
  repeat' (first
    | with_reducible assumption
    | with_reducible apply State.bvStart_ok
    | with_reducible apply State.cmpOwners_ok
    | with_reducible apply State.setF_ok
    | with_reducible apply State.slotRunDue_ok
    | with_reducible apply State.wktLoad_ok
    | with_reducible apply foldl_ok
    | with_reducible apply parts_ok
    | simp only [mk_ok]
    | with_reducible apply iteS_ok
    | intro _
    | split
    | with_reducible apply_assumption
    | dsimp only)

theorem State.bootSettle_ok (s : State) (hs : s.Ok orig) :
    (State.bootSettle s).Ok orig := by
  unfold State.bootSettle
  try dsimp only
  repeat' (first
    | with_reducible assumption
    | with_reducible apply State.bootFinish_ok
    | with_reducible apply State.keysDue_ok
    | with_reducible apply parts_ok
    | simp only [mk_ok]
    | with_reducible apply iteS_ok
    | intro _
    | split
    | with_reducible apply_assumption
    | dsimp only)

theorem State.planRadio_ok (s : State) (hs : s.Ok orig) :
    (State.planRadio s).Ok orig := by
  unfold State.planRadio
  try dsimp only
  repeat' (first
    | with_reducible assumption
    | with_reducible apply State.psRequest_ok
    | with_reducible apply State.setF_ok
    | with_reducible apply State.takeCarrier_ok
    | with_reducible apply parts_ok
    | simp only [mk_ok]
    | with_reducible apply iteS_ok
    | intro _
    | split
    | with_reducible apply_assumption
    | dsimp only)

theorem State.planApply_ok (s : State) (hs : s.Ok orig) :
    (State.planApply s).Ok orig := by
  unfold State.planApply
  try dsimp only
  repeat' (first
    | with_reducible assumption
    | with_reducible apply State.bootSettle_ok
    | with_reducible apply State.domLeave_ok
    | with_reducible apply State.domLoad_ok
    | with_reducible apply State.domOnReq_ok
    | with_reducible apply State.joinTb1_ok
    | with_reducible apply State.planRadio_ok
    | with_reducible apply State.ppsGate_ok
    | with_reducible apply State.setF_ok
    | with_reducible apply State.updArb_ok
    | with_reducible apply State.updFleet_ok
    | with_reducible apply foldl_ok
    | with_reducible apply parts_ok
    | simp only [mk_ok]
    | with_reducible apply iteS_ok
    | intro _
    | split
    | with_reducible apply_assumption
    | dsimp only)

theorem State.planSkip_ok (s : State) (e : Nat × Nat) (hs : s.Ok orig) :
    (State.planSkip s e).Ok orig := by
  unfold State.planSkip
  try dsimp only
  repeat' (first
    | with_reducible assumption
    | with_reducible apply State.setBit_ok
    | with_reducible apply State.vbTrigger_ok
    | with_reducible apply parts_ok
    | simp only [mk_ok]
    | with_reducible apply iteS_ok
    | intro _
    | split
    | with_reducible apply_assumption
    | dsimp only)

theorem State.bootPlan_ok (s : State) (k : Nat) (p : PlanParts) (fall : Bool) (hs : s.Ok orig) :
    (State.bootPlan s k p fall).Ok orig := by
  unfold State.bootPlan
  extract_lets b sys x1 s1 s2 s3 s4
  have h1 : s1.Ok orig := plan_ok hs (p := s1.plan) hs.staging
  have h2 : s2.Ok orig := State.setPlanState_ok _ _ (State.setF_ok _ _ _ (State.setF_ok _ _ _
    (State.setF_ok _ _ _ h1)))
  have h3 : s3.Ok orig := foldl_ok (fun t e h => State.planSkip_ok t e h) _ h2
  have h4 : s4.Ok orig := iteS_ok (fun _ => State.vbTrigger_ok _ _ _ _ _ (State.setF_ok _ _ _
    (State.incF_ok _ _ _ h3))) (fun _ => h3)
  clear_value s4
  exact State.planApply_ok _ h4

theorem State.rollback_ok (s : State) (cause : Nat) (reset : Bool) (hs : s.Ok orig) :
    (State.rollback s cause reset).Ok orig := by
  unfold State.rollback
  try dsimp only
  repeat' (first
    | with_reducible assumption
    | with_reducible apply State.psRequest_ok
    | with_reducible apply parts_ok
    | simp only [mk_ok]
    | with_reducible apply iteS_ok
    | intro _
    | split
    | with_reducible apply_assumption
    | dsimp only)

theorem State.planRegs_ok (s : State) (hs : s.Ok orig) :
    (State.planRegs s).Ok orig := by
  unfold State.planRegs
  try dsimp only
  repeat' (first
    | with_reducible assumption
    | with_reducible apply State.setF_ok
    | with_reducible apply State.setPlanState_ok
    | with_reducible apply State.wr_ok
    | with_reducible apply parts_ok
    | simp only [mk_ok]
    | with_reducible apply iteS_ok
    | intro _
    | split
    | with_reducible apply_assumption
    | dsimp only)

theorem onlyStaging_ok {s : State} (h : s.Ok orig) (st : List (Nat × Byte)) (hw : Memory.wf st = true) :
    ({ s with plan := { staging := st } } : State).Ok orig := by
  simp only [mk_ok]
  exact plan_ok h hw

theorem State.planCleared_ok (s : State) (hs : s.Ok orig) : (State.planCleared s).Ok orig := by
  unfold State.planCleared
  exact onlyStaging_ok (State.planRegs_ok s hs) _ hs.staging

theorem State.bootRefused_ok (s : State) (a : Nat) (e : Nat × Nat) (r : UpdRec) (hs : s.Ok orig) :
    (State.bootRefused s a e r).Ok orig := by
  unfold State.bootRefused
  try dsimp only
  repeat' (first
    | with_reducible assumption
    | with_reducible apply State.bootSettle_ok
    | with_reducible apply State.domLeave_ok
    | with_reducible apply State.rollback_ok
    | with_reducible apply State.setF_ok
    | with_reducible apply State.setPlanState_ok
    | with_reducible apply foldl_ok
    | with_reducible apply parts_ok
    | simp only [mk_ok]
    | with_reducible apply iteS_ok
    | intro _
    | split
    | with_reducible apply_assumption
    | dsimp only)

theorem State.bootSecond_ok (s : State) (k : Nat) (r : UpdRec) (res : Option (Except (Nat × Nat) PlanParts)) (hs : s.Ok orig) :
    (State.bootSecond s k r res).Ok orig := by
  unfold State.bootSecond
  try dsimp only
  repeat' (first
    | with_reducible assumption
    | with_reducible apply State.bootPlan_ok
    | with_reducible apply State.bootRefused_ok
    | with_reducible apply State.rollback_ok
    | with_reducible apply State.setF_ok
    | with_reducible apply parts_ok
    | simp only [mk_ok]
    | with_reducible apply iteS_ok
    | intro _
    | split
    | with_reducible apply_assumption
    | dsimp only)

theorem State.bootFirst_ok (s : State) (k : Nat) (r : UpdRec) (res : Option (Except (Nat × Nat) PlanParts)) (hs : s.Ok orig) :
    (State.bootFirst s k r res).Ok orig := by
  unfold State.bootFirst
  try dsimp only
  repeat' (first
    | with_reducible assumption
    | with_reducible apply State.bootPlan_ok
    | with_reducible apply State.bootSecond_ok
    | with_reducible apply State.checkImage_ok
    | with_reducible apply parts_ok
    | simp only [mk_ok]
    | with_reducible apply iteS_ok
    | intro _
    | split
    | with_reducible apply_assumption
    | dsimp only)

theorem State.bootPlans_ok (s : State) (r : UpdRec) (hs : s.Ok orig) : (State.bootPlans s r).Ok orig :=
  State.bootFirst_ok _ _ _ _ (State.checkImage_ok _ _ _ _ (State.planCleared_ok s hs))

theorem State.bootSignGoOn_ok (s : State) (second : Bool) (r : UpdRec) (n : Nat) (ns : List Nat) (counted : Bool) (hs : s.Ok orig) :
    (State.bootSignGoOn s second r n ns counted).Ok orig := by
  unfold State.bootSignGoOn
  try dsimp only
  repeat' (first
    | with_reducible assumption
    | with_reducible apply State.bootFirst_ok
    | with_reducible apply State.bootSecond_ok
    | with_reducible apply State.moreImage_ok
    | with_reducible apply parts_ok
    | simp only [mk_ok]
    | with_reducible apply iteS_ok
    | intro _
    | split
    | with_reducible apply_assumption
    | dsimp only)

theorem State.bootKeys_ok (s : State) (path : Nat) (m : Bytes) (hs : s.Ok orig) :
    (State.bootKeys s path m).Ok orig := by
  unfold State.bootKeys
  try dsimp only
  repeat' (first
    | with_reducible assumption
    | with_reducible apply State.setF_ok
    | with_reducible apply State.updOrg_ok
    | with_reducible apply State.updPower_ok
    | with_reducible apply foldl_ok
    | with_reducible apply parts_ok
    | simp only [mk_ok]
    | with_reducible apply iteS_ok
    | intro _
    | split
    | with_reducible apply_assumption
    | dsimp only)

theorem State.bootRom_ok (s : State) (hs : s.Ok orig) : (State.bootRom s).Ok orig := by
  unfold State.bootRom
  extract_lets p1 s1
  have h1 : s1.Ok orig := onlyStaging_ok (State.bootKeys_ok s 2 measureRom hs) _ hs.staging
  clear_value s1
  exact State.setPlanState_ok _ _ (State.updPower_ok _ _ (State.wr_ok (State.wr_ok h1 _ _) _ _))

theorem State.bootRun_ok (s : State) (k : Nat) (r : UpdRec) (hs : s.Ok orig) :
    (State.bootRun s k r).Ok orig := by
  unfold State.bootRun
  try dsimp only
  repeat' (first
    | with_reducible assumption
    | with_reducible apply State.bootKeys_ok
    | with_reducible apply State.bootPlans_ok
    | with_reducible apply State.setF_ok
    | with_reducible apply parts_ok
    | simp only [mk_ok]
    | with_reducible apply iteS_ok
    | intro _
    | split
    | with_reducible apply_assumption
    | dsimp only)

theorem State.fwFail_ok (s : State) (k : Nat) (hs : s.Ok orig) :
    (State.fwFail s k).Ok orig := by
  unfold State.fwFail
  try dsimp only
  repeat' (first
    | with_reducible assumption
    | with_reducible apply State.setF_ok
    | with_reducible apply parts_ok
    | simp only [mk_ok]
    | with_reducible apply iteS_ok
    | intro _
    | split
    | with_reducible apply_assumption
    | dsimp only)

theorem State.bootLoad_ok (s : State) (r : UpdRec) (hs : s.Ok orig) :
    (State.bootLoad s r).Ok orig := by
  unfold State.bootLoad
  try dsimp only
  repeat' (first
    | with_reducible assumption
    | with_reducible apply State.bootRom_ok
    | with_reducible apply State.bootRun_ok
    | with_reducible apply State.fwFail_ok
    | with_reducible apply State.rollback_ok
    | with_reducible apply parts_ok
    | simp only [mk_ok]
    | with_reducible apply iteS_ok
    | intro _
    | split
    | with_reducible apply_assumption
    | dsimp only)

theorem State.bootStart_ok (s : State) (hs : s.Ok orig) :
    (State.bootStart s).Ok orig := by
  unfold State.bootStart
  try dsimp only
  repeat' (first
    | with_reducible assumption
    | with_reducible apply State.bootLoad_ok
    | with_reducible apply State.bootRom_ok
    | with_reducible apply State.domOnReq_ok
    | with_reducible apply State.psRequest_ok
    | with_reducible apply State.rollback_ok
    | with_reducible apply State.setF_ok
    | with_reducible apply State.updPower_ok
    | with_reducible apply parts_ok
    | simp only [mk_ok]
    | with_reducible apply iteS_ok
    | intro _
    | split
    | with_reducible apply_assumption
    | dsimp only)

theorem State.bootGoOn_ok (s : State) (r : UpdRec) (hs : s.Ok orig) :
    (State.bootGoOn s r).Ok orig := by
  unfold State.bootGoOn
  try dsimp only
  repeat' (first
    | with_reducible assumption
    | with_reducible apply State.bootLoad_ok
    | with_reducible apply parts_ok
    | simp only [mk_ok]
    | with_reducible apply iteS_ok
    | intro _
    | split
    | with_reducible apply_assumption
    | dsimp only)

theorem State.deliver_ok (s : State) (w : HeldWhat) (hs : s.Ok orig) :
    (State.deliver s w).Ok orig := by
  unfold State.deliver
  try dsimp only
  repeat' (first
    | with_reducible assumption
    | with_reducible apply State.ethDeliver_ok
    | with_reducible apply State.ethReq_ok
    | with_reducible apply State.hostRead_ok
    | with_reducible apply State.hostWrite_ok
    | with_reducible apply State.mbxWake_ok
    | with_reducible apply State.onBus_ok
    | with_reducible apply State.ptpTake_ok
    | with_reducible apply State.spiRead_ok
    | with_reducible apply State.spiSample_ok
    | with_reducible apply State.svcAccess_ok
    | with_reducible apply State.updArb_ok
    | with_reducible apply parts_ok
    | simp only [mk_ok]
    | with_reducible apply iteS_ok
    | intro _
    | split
    | with_reducible apply_assumption
    | dsimp only)

theorem State.deliverAll_ok (s : State) (d : Nat) (hs : s.Ok orig) :
    (State.deliverAll s d).Ok orig := by
  unfold State.deliverAll
  try dsimp only
  repeat' (first
    | with_reducible assumption
    | with_reducible apply State.deliver_ok
    | with_reducible apply State.updPower_ok
    | with_reducible apply foldl_ok
    | with_reducible apply parts_ok
    | simp only [mk_ok]
    | with_reducible apply iteS_ok
    | intro _
    | split
    | with_reducible apply_assumption
    | dsimp only)

theorem State.fabricUp_ok (s : State) (hs : s.Ok orig) :
    (State.fabricUp s).Ok orig := by
  unfold State.fabricUp
  try dsimp only
  repeat' (first
    | with_reducible assumption
    | with_reducible apply State.sdlOwed_ok
    | with_reducible apply State.spiPoke_ok
    | with_reducible apply State.startPwrUp_ok
    | with_reducible apply State.updEth_ok
    | with_reducible apply foldl_ok
    | with_reducible apply parts_ok
    | simp only [mk_ok]
    | with_reducible apply iteS_ok
    | intro _
    | split
    | with_reducible apply_assumption
    | dsimp only)

theorem State.arbourUp_ok (s : State) (hs : s.Ok orig) :
    (State.arbourUp s).Ok orig := by
  unfold State.arbourUp
  try dsimp only
  repeat' (first
    | with_reducible assumption
    | with_reducible apply State.bootStart_ok
    | with_reducible apply State.holdUp_ok
    | with_reducible apply State.raiseOwed_ok
    | with_reducible apply State.restoreCompares_ok
    | with_reducible apply State.setF_ok
    | with_reducible apply State.updArb_ok
    | with_reducible apply parts_ok
    | simp only [mk_ok]
    | with_reducible apply iteS_ok
    | intro _
    | split
    | with_reducible apply_assumption
    | dsimp only)

theorem State.domUp_ok (s : State) (d : Nat) (hs : s.Ok orig) :
    (State.domUp s d).Ok orig := by
  unfold State.domUp
  try dsimp only
  repeat' (first
    | with_reducible assumption
    | with_reducible apply State.arbourUp_ok
    | with_reducible apply State.bootSettle_ok
    | with_reducible apply State.deliverAll_ok
    | with_reducible apply State.domLoad_ok
    | with_reducible apply State.domResetOver_ok
    | with_reducible apply State.fabricUp_ok
    | with_reducible apply State.idleStart_ok
    | with_reducible apply State.keysDue_ok
    | with_reducible apply State.lateLatch_ok
    | with_reducible apply State.rollsDue_ok
    | with_reducible apply State.setBit_ok
    | with_reducible apply State.setDom_ok
    | with_reducible apply State.setLock_ok
    | with_reducible apply State.shutdown_ok
    | with_reducible apply State.xingsUp_ok
    | with_reducible apply parts_ok
    | simp only [mk_ok]
    | with_reducible apply iteS_ok
    | intro _
    | split
    | with_reducible apply_assumption
    | dsimp only)

theorem State.lockout_ok (s : State) (d : Nat) (hs : s.Ok orig) :
    (State.lockout s d).Ok orig := by
  unfold State.lockout
  try dsimp only
  repeat' (first
    | with_reducible assumption
    | with_reducible apply State.deliverAll_ok
    | with_reducible apply State.domResetOver_ok
    | with_reducible apply State.lockoutItems_ok
    | with_reducible apply State.setDom_ok
    | with_reducible apply State.vbTrigger_ok
    | with_reducible apply parts_ok
    | simp only [mk_ok]
    | with_reducible apply iteS_ok
    | intro _
    | split
    | with_reducible apply_assumption
    | dsimp only)

theorem State.railFault_ok (s : State) (d : Nat) (hs : s.Ok orig) :
    (State.railFault s d).Ok orig := by
  unfold State.railFault
  try dsimp only
  repeat' (first
    | with_reducible assumption
    | with_reducible apply State.bootSettle_ok
    | with_reducible apply State.domResetNow_ok
    | with_reducible apply State.domResetStop_ok
    | with_reducible apply State.expireSlots_ok
    | with_reducible apply State.irq_ok
    | with_reducible apply State.lockout_ok
    | with_reducible apply State.loseDom_ok
    | with_reducible apply State.setBit_ok
    | with_reducible apply State.setDom_ok
    | with_reducible apply State.setF_ok
    | with_reducible apply State.shutdown_ok
    | with_reducible apply State.updPower_ok
    | with_reducible apply parts_ok
    | simp only [mk_ok]
    | with_reducible apply iteS_ok
    | intro _
    | split
    | with_reducible apply_assumption
    | dsimp only)

theorem State.kuCommitted_ok (s : State) (wid : Nat) (ch : PsChange) (hs : s.Ok orig) :
    (State.kuCommitted s wid ch).Ok orig := by
  unfold State.kuCommitted
  try dsimp only
  repeat' (first
    | with_reducible assumption
    | with_reducible apply State.finish_ok
    | with_reducible apply State.kuNext_ok
    | with_reducible apply State.setF_ok
    | with_reducible apply State.updOrg_ok
    | with_reducible apply State.vbTrigger_ok
    | with_reducible apply parts_ok
    | simp only [mk_ok]
    | with_reducible apply iteS_ok
    | intro _
    | split
    | with_reducible apply_assumption
    | dsimp only)

theorem State.activated_ok (s : State) (hs : s.Ok orig) :
    (State.activated s).Ok orig := by
  unfold State.activated
  try dsimp only
  repeat' (first
    | with_reducible assumption
    | with_reducible apply State.resetAll_ok
    | with_reducible apply State.setF_ok
    | with_reducible apply State.updRecord_ok
    | with_reducible apply State.updShow_ok
    | with_reducible apply parts_ok
    | (with_reducible apply noUpd_ok; rotate_left; exact rfl)
    | with_reducible apply upd_ok
    | simp only [mk_ok]
    | with_reducible apply iteS_ok
    | intro _
    | split
    | with_reducible apply_assumption
    | dsimp only)

theorem State.rolled_ok (s : State) (reset : Bool) (r : UpdRec) (hs : s.Ok orig) :
    (State.rolled s reset r).Ok orig := by
  unfold State.rolled
  try dsimp only
  repeat' (first
    | with_reducible assumption
    | with_reducible apply State.bootGoOn_ok
    | with_reducible apply State.resetAll_ok
    | with_reducible apply State.setF_ok
    | with_reducible apply State.updRecord_ok
    | with_reducible apply State.updShow_ok
    | with_reducible apply parts_ok
    | simp only [mk_ok]
    | with_reducible apply iteS_ok
    | intro _
    | split
    | with_reducible apply_assumption
    | dsimp only)

theorem State.sessionRaised_ok (s : State) (c : Nat) (hs : s.Ok orig) :
    (State.sessionRaised s c).Ok orig := by
  unfold State.sessionRaised
  try dsimp only
  repeat' (first
    | with_reducible assumption
    | with_reducible apply State.joinStart_ok
    | with_reducible apply State.updFleet_ok
    | with_reducible apply foldl_ok
    | with_reducible apply parts_ok
    | simp only [mk_ok]
    | with_reducible apply iteS_ok
    | intro _
    | split
    | with_reducible apply_assumption
    | dsimp only)

theorem State.joinCounted_ok (s : State) (m : Nat) (session : Nat) (key : Bytes) (hs : s.Ok orig) :
    (State.joinCounted s m session key).Ok orig := by
  unfold State.joinCounted
  try dsimp only
  repeat' (first
    | with_reducible assumption
    | with_reducible apply State.joinFinish_ok
    | with_reducible apply parts_ok
    | simp only [mk_ok]
    | with_reducible apply iteS_ok
    | intro _
    | split
    | with_reducible apply_assumption
    | dsimp only)

theorem State.keyGoOn_ok (s : State) (what : KeyCheck) (n : Nat) (ns : List Nat) (counted : Bool) (hs : s.Ok orig) :
    (State.keyGoOn s what n ns counted).Ok orig := by
  unfold State.keyGoOn
  try dsimp only
  repeat' (first
    | with_reducible assumption
    | with_reducible apply State.bootSignGoOn_ok
    | with_reducible apply State.clearGoOn_ok
    | with_reducible apply State.swapGoOn_ok
    | with_reducible apply State.updEnd_ok
    | with_reducible apply State.updEndGoOn_ok
    | with_reducible apply parts_ok
    | simp only [mk_ok]
    | with_reducible apply iteS_ok
    | intro _
    | split
    | with_reducible apply_assumption
    | dsimp only)

theorem State.psTake_ok (s : State) (ch : PsChange) (hs : s.Ok orig) :
    (State.psTake s ch).Ok orig := by
  unfold State.psTake
  try dsimp only
  repeat' (first
    | with_reducible assumption
    | with_reducible apply State.setF_ok
    | with_reducible apply State.setSlot_ok
    | with_reducible apply parts_ok
    | simp only [mk_ok]
    | with_reducible apply iteS_ok
    | intro _
    | split
    | with_reducible apply_assumption
    | dsimp only)

theorem State.psDone_ok (s : State) (q : PsReq) (hs : s.Ok orig) :
    (State.psDone s q).Ok orig := by
  unfold State.psDone
  try dsimp only
  repeat' (first
    | with_reducible assumption
    | with_reducible apply State.activated_ok
    | with_reducible apply State.bootGoOn_ok
    | with_reducible apply State.clearStored_ok
    | with_reducible apply State.finish_ok
    | with_reducible apply State.joinCounted_ok
    | with_reducible apply State.joinKeyIn_ok
    | with_reducible apply State.keyGoOn_ok
    | with_reducible apply State.kuCommitted_ok
    | with_reducible apply State.psTake_ok
    | with_reducible apply State.rollback_ok
    | with_reducible apply State.rolled_ok
    | with_reducible apply State.sessionRaised_ok
    | with_reducible apply State.swapAccepted_ok
    | with_reducible apply State.updActivate_ok
    | with_reducible apply State.updConfirm_ok
    | with_reducible apply State.updRecord_ok
    | with_reducible apply State.updShow_ok
    | with_reducible apply parts_ok
    | simp only [mk_ok]
    | with_reducible apply iteS_ok
    | intro _
    | split
    | with_reducible apply_assumption
    | dsimp only)

theorem State.psFailed_ok (s : State) (q : PsReq) (hs : s.Ok orig) :
    (State.psFailed s q).Ok orig := by
  unfold State.psFailed
  try dsimp only
  repeat' (first
    | with_reducible assumption
    | with_reducible apply State.bootGoOn_ok
    | with_reducible apply State.clearRefuse_ok
    | with_reducible apply State.finish_ok
    | with_reducible apply State.keyGoOn_ok
    | with_reducible apply State.kuNext_ok
    | with_reducible apply State.psRequest_ok
    | with_reducible apply State.rollback_ok
    | with_reducible apply State.rolled_ok
    | with_reducible apply State.setF_ok
    | with_reducible apply State.updActivate_ok
    | with_reducible apply State.updConfirm_ok
    | with_reducible apply State.updOrg_ok
    | with_reducible apply parts_ok
    | simp only [mk_ok]
    | with_reducible apply iteS_ok
    | intro _
    | split
    | with_reducible apply_assumption
    | dsimp only)

theorem State.psNext_ok (s : State) (hs : s.Ok orig) :
    (State.psNext s).Ok orig := by
  unfold State.psNext
  try dsimp only
  repeat' (first
    | with_reducible assumption
    | with_reducible apply parts_ok
    | simp only [mk_ok]
    | with_reducible apply iteS_ok
    | intro _
    | split
    | with_reducible apply_assumption
    | dsimp only)

theorem State.psComplete_ok (s : State) (hs : s.Ok orig) :
    (State.psComplete s).Ok orig := by
  unfold State.psComplete
  try dsimp only
  repeat' (first
    | with_reducible assumption
    | with_reducible apply State.psDone_ok
    | with_reducible apply State.psNext_ok
    | with_reducible apply State.setF_ok
    | with_reducible apply foldl_ok
    | with_reducible apply parts_ok
    | simp only [mk_ok]
    | with_reducible apply iteS_ok
    | intro _
    | split
    | with_reducible apply_assumption
    | dsimp only)

theorem State.psFail_ok (s : State) (hs : s.Ok orig) :
    (State.psFail s).Ok orig := by
  unfold State.psFail
  try dsimp only
  repeat' (first
    | with_reducible assumption
    | with_reducible apply State.psFailed_ok
    | with_reducible apply State.psNext_ok
    | with_reducible apply State.setF_ok
    | with_reducible apply State.vbTrigger_ok
    | with_reducible apply foldl_ok
    | with_reducible apply parts_ok
    | simp only [mk_ok]
    | with_reducible apply iteS_ok
    | intro _
    | split
    | with_reducible apply_assumption
    | dsimp only)

theorem State.slotEnd_ok (s : State) (hs : s.Ok orig) :
    (State.slotEnd s).Ok orig := by
  unfold State.slotEnd
  try dsimp only
  repeat' (first
    | with_reducible assumption
    | with_reducible apply State.ackTimeout_ok
    | with_reducible apply State.noObs_ok
    | with_reducible apply State.setF_ok
    | with_reducible apply parts_ok
    | simp only [mk_ok]
    | with_reducible apply iteS_ok
    | intro _
    | split
    | with_reducible apply_assumption
    | dsimp only)

theorem State.setAsn_ok (s : State) (a : Nat) (hs : s.Ok orig) :
    (State.setAsn s a).Ok orig := by
  unfold State.setAsn
  try dsimp only
  repeat' (first
    | with_reducible assumption
    | with_reducible apply State.setF_ok
    | with_reducible apply State.updSdl_ok
    | with_reducible apply parts_ok
    | simp only [mk_ok]
    | with_reducible apply iteS_ok
    | intro _
    | split
    | with_reducible apply_assumption
    | dsimp only)

theorem State.filters_ok (s : State) (b : Nat) (hs : s.Ok orig) :
    (State.filters s b).Ok orig := by
  unfold State.filters
  try dsimp only
  repeat' (first
    | with_reducible assumption
    | with_reducible apply State.setF_ok
    | with_reducible apply foldl_ok
    | with_reducible apply parts_ok
    | simp only [mk_ok]
    | with_reducible apply iteS_ok
    | intro _
    | split
    | with_reducible apply_assumption
    | dsimp only)

theorem State.slotframeEnd_ok (s : State) (x : Mbr) (hs : s.Ok orig) :
    (State.slotframeEnd s x).Ok orig := by
  unfold State.slotframeEnd
  try dsimp only
  repeat' (first
    | with_reducible assumption
    | with_reducible apply State.fleetEvent_ok
    | with_reducible apply State.makeFree_ok
    | with_reducible apply State.pglSilent_ok
    | with_reducible apply State.updMbr_ok
    | with_reducible apply parts_ok
    | simp only [mk_ok]
    | with_reducible apply iteS_ok
    | intro _
    | split
    | with_reducible apply_assumption
    | dsimp only)

theorem State.swapBoundary_ok (s : State) (hs : s.Ok orig) :
    (State.swapBoundary s).Ok orig := by
  unfold State.swapBoundary
  try dsimp only
  repeat' (first
    | with_reducible assumption
    | with_reducible apply State.makeFree_ok
    | with_reducible apply State.swapEffective_ok
    | with_reducible apply foldl_ok
    | with_reducible apply parts_ok
    | simp only [mk_ok]
    | with_reducible apply iteS_ok
    | intro _
    | split
    | with_reducible apply_assumption
    | dsimp only)

theorem State.clearBoundary_ok (s : State) (hs : s.Ok orig) :
    (State.clearBoundary s).Ok orig := by
  unfold State.clearBoundary
  try dsimp only
  repeat' (first
    | with_reducible assumption
    | with_reducible apply State.gzbRun_ok
    | with_reducible apply State.pglClear_ok
    | with_reducible apply parts_ok
    | simp only [mk_ok]
    | with_reducible apply iteS_ok
    | intro _
    | split
    | with_reducible apply_assumption
    | dsimp only)

theorem State.boundaryActs_ok (s : State) (hs : s.Ok orig) :
    (State.boundaryActs s).Ok orig := by
  unfold State.boundaryActs
  try dsimp only
  repeat' (first
    | with_reducible assumption
    | with_reducible apply State.budgetBoundary_ok
    | with_reducible apply State.clearBoundary_ok
    | with_reducible apply State.fixLapse_ok
    | with_reducible apply State.keySwitches_ok
    | with_reducible apply State.payOwed_ok
    | with_reducible apply State.slotframeEnd_ok
    | with_reducible apply State.swapBoundary_ok
    | with_reducible apply State.updFleet_ok
    | with_reducible apply foldl_ok
    | with_reducible apply parts_ok
    | simp only [mk_ok]
    | with_reducible apply iteS_ok
    | intro _
    | split
    | with_reducible apply_assumption
    | dsimp only)

theorem State.queueOwn_ok (s : State) (m : Nat) (hs : s.Ok orig) :
    (State.queueOwn s m).Ok orig := by
  unfold State.queueOwn
  try dsimp only
  repeat' (first
    | with_reducible assumption
    | with_reducible apply State.dlPush_ok
    | with_reducible apply State.updMbr_ok
    | with_reducible apply foldl_ok
    | with_reducible apply parts_ok
    | simp only [mk_ok]
    | with_reducible apply iteS_ok
    | intro _
    | split
    | with_reducible apply_assumption
    | dsimp only)

theorem State.announceOwn_ok (s : State) (m : Nat) (hs : s.Ok orig) :
    (State.announceOwn s m).Ok orig := by
  unfold State.announceOwn
  try dsimp only
  repeat' (first
    | with_reducible assumption
    | with_reducible apply State.updMbr_ok
    | with_reducible apply parts_ok
    | simp only [mk_ok]
    | with_reducible apply iteS_ok
    | intro _
    | split
    | with_reducible apply_assumption
    | dsimp only)

theorem State.announceSlot_ok (s : State) (hs : s.Ok orig) :
    (State.announceSlot s).Ok orig := by
  unfold State.announceSlot
  try dsimp only
  repeat' (first
    | with_reducible assumption
    | with_reducible apply State.announceOwn_ok
    | with_reducible apply State.dlPush_ok
    | with_reducible apply State.updFleet_ok
    | with_reducible apply foldl_ok
    | with_reducible apply parts_ok
    | simp only [mk_ok]
    | with_reducible apply iteS_ok
    | intro _
    | split
    | with_reducible apply_assumption
    | dsimp only)

theorem State.announceEnd_ok (s : State) (hs : s.Ok orig) :
    (State.announceEnd s).Ok orig := by
  unfold State.announceEnd
  try dsimp only
  repeat' (first
    | with_reducible assumption
    | with_reducible apply State.swapAnnounced_ok
    | with_reducible apply parts_ok
    | simp only [mk_ok]
    | with_reducible apply iteS_ok
    | intro _
    | split
    | with_reducible apply_assumption
    | dsimp only)

theorem State.afterSend_ok (s : State) (b : Nat) (f : DlFrame) (hs : s.Ok orig) :
    (State.afterSend s b f).Ok orig := by
  unfold State.afterSend
  try dsimp only
  repeat' (first
    | with_reducible assumption
    | with_reducible apply State.frameDone_ok
    | with_reducible apply State.makeFree_ok
    | with_reducible apply State.rollsDue_ok
    | with_reducible apply State.updBand_ok
    | with_reducible apply parts_ok
    | simp only [mk_ok]
    | with_reducible apply iteS_ok
    | intro _
    | split
    | with_reducible apply_assumption
    | dsimp only)

theorem State.sendIn_ok (s : State) (b : Nat) (f : DlFrame) (hs : s.Ok orig) :
    (State.sendIn s b f).2.Ok orig := by
  unfold State.sendIn
  try dsimp only
  repeat' (first
    | with_reducible assumption
    | with_reducible apply State.afterSend_ok
    | with_reducible apply State.txFrame_ok
    | with_reducible apply parts_ok
    | simp only [mk_ok]
    | with_reducible apply iteS_ok
    | intro _
    | split
    | with_reducible apply_assumption
    | dsimp only)

theorem State.sendCorr_ok (s : State) (b : Nat) (hs : s.Ok orig) :
    (State.sendCorr s b).2.Ok orig := by
  unfold State.sendCorr
  try dsimp only
  repeat' (first
    | with_reducible assumption
    | with_reducible apply State.sendIn_ok
    | with_reducible apply State.updSlv_ok
    | with_reducible apply parts_ok
    | simp only [mk_ok]
    | with_reducible apply iteS_ok
    | intro _
    | split
    | with_reducible apply_assumption
    | dsimp only)

theorem State.sendQueued_ok (s : State) (b : Nat) (role : Nat) (hs : s.Ok orig) :
    (State.sendQueued s b role).2.Ok orig := by
  unfold State.sendQueued
  try dsimp only
  repeat' (first
    | with_reducible assumption
    | with_reducible apply State.sendCorr_ok
    | with_reducible apply State.sendIn_ok
    | with_reducible apply State.updBand_ok
    | with_reducible apply parts_ok
    | simp only [mk_ok]
    | with_reducible apply iteS_ok
    | intro _
    | split
    | with_reducible apply_assumption
    | dsimp only)

theorem State.sendLateFix_ok (s : State) (hs : s.Ok orig) :
    (State.sendLateFix s).2.Ok orig := by
  unfold State.sendLateFix
  try dsimp only
  repeat' (first
    | with_reducible assumption
    | with_reducible apply State.fixPull_ok
    | with_reducible apply State.fixesSent_ok
    | with_reducible apply State.sendIn_ok
    | with_reducible apply parts_ok
    | simp only [mk_ok]
    | with_reducible apply iteS_ok
    | intro _
    | split
    | with_reducible apply_assumption
    | dsimp only)

theorem State.beaconCell_ok (s : State) (hs : s.Ok orig) :
    (State.beaconCell s).Ok orig := by
  unfold State.beaconCell
  try dsimp only
  repeat' (first
    | with_reducible assumption
    | with_reducible apply State.announceSlot_ok
    | with_reducible apply State.raiseTask_ok
    | with_reducible apply State.sendIn_ok
    | with_reducible apply State.setF_ok
    | with_reducible apply State.updFleet_ok
    | with_reducible apply parts_ok
    | simp only [mk_ok]
    | with_reducible apply iteS_ok
    | intro _
    | split
    | with_reducible apply_assumption
    | dsimp only)

theorem State.resyncCell_ok (s : State) (hs : s.Ok orig) :
    (State.resyncCell s).Ok orig := by
  unfold State.resyncCell
  try dsimp only
  repeat' (first
    | with_reducible assumption
    | with_reducible apply State.sendIn_ok
    | with_reducible apply State.updFleet_ok
    | with_reducible apply State.updMbr_ok
    | with_reducible apply parts_ok
    | simp only [mk_ok]
    | with_reducible apply iteS_ok
    | intro _
    | split
    | with_reducible apply_assumption
    | dsimp only)

theorem State.wakeSlot_ok (s : State) (m : Nat) (hs : s.Ok orig) :
    (State.wakeSlot s m).Ok orig := by
  unfold State.wakeSlot
  try dsimp only
  repeat' (first
    | with_reducible assumption
    | with_reducible apply State.setF_ok
    | with_reducible apply State.updBand_ok
    | with_reducible apply State.updFleet_ok
    | with_reducible apply parts_ok
    | simp only [mk_ok]
    | with_reducible apply iteS_ok
    | intro _
    | split
    | with_reducible apply_assumption
    | dsimp only)

theorem State.downCell_ok (s : State) (b : Nat) (role : Nat) (hs : s.Ok orig) :
    (State.downCell s b role).Ok orig := by
  unfold State.downCell
  try dsimp only
  repeat' (first
    | with_reducible assumption
    | with_reducible apply State.sendCorr_ok
    | with_reducible apply State.sendIn_ok
    | with_reducible apply State.sendLateFix_ok
    | with_reducible apply State.sendQueued_ok
    | with_reducible apply parts_ok
    | simp only [mk_ok]
    | with_reducible apply iteS_ok
    | intro _
    | split
    | with_reducible apply_assumption
    | dsimp only)

theorem State.txCell_ok (s : State) (b : Nat) (hs : s.Ok orig) :
    (State.txCell s b).Ok orig := by
  unfold State.txCell
  try dsimp only
  repeat' (first
    | with_reducible assumption
    | with_reducible apply State.beaconCell_ok
    | with_reducible apply State.downCell_ok
    | with_reducible apply State.resyncCell_ok
    | with_reducible apply State.sendIn_ok
    | with_reducible apply State.wakeSlot_ok
    | with_reducible apply parts_ok
    | simp only [mk_ok]
    | with_reducible apply iteS_ok
    | intro _
    | split
    | with_reducible apply_assumption
    | dsimp only)

theorem State.predictCells_ok (s : State) (hs : s.Ok orig) :
    (State.predictCells s).Ok orig := by
  unfold State.predictCells
  try dsimp only
  repeat' (first
    | with_reducible assumption
    | with_reducible apply State.markDesync_ok
    | with_reducible apply foldl_ok
    | with_reducible apply parts_ok
    | simp only [mk_ok]
    | with_reducible apply iteS_ok
    | intro _
    | split
    | with_reducible apply_assumption
    | dsimp only)

theorem State.joinReload_ok (s : State) (hs : s.Ok orig) :
    (State.joinReload s).Ok orig := by
  unfold State.joinReload
  try dsimp only
  repeat' (first
    | with_reducible assumption
    | with_reducible apply State.loadJoinKey_ok
    | with_reducible apply State.updOrg_ok
    | with_reducible apply parts_ok
    | simp only [mk_ok]
    | with_reducible apply iteS_ok
    | intro _
    | split
    | with_reducible apply_assumption
    | dsimp only)

theorem State.fixGone_ok (s : State) (hs : s.Ok orig) :
    (State.fixGone s).Ok orig := by
  unfold State.fixGone
  try dsimp only
  repeat' (first
    | with_reducible assumption
    | with_reducible apply State.updBand_ok
    | with_reducible apply parts_ok
    | simp only [mk_ok]
    | with_reducible apply iteS_ok
    | intro _
    | split
    | with_reducible apply_assumption
    | dsimp only)

theorem State.runCells_ok (s : State) (hs : s.Ok orig) :
    (State.runCells s).Ok orig := by
  unfold State.runCells
  try dsimp only
  repeat' (first
    | with_reducible assumption
    | with_reducible apply State.fixGone_ok
    | with_reducible apply State.predictCells_ok
    | with_reducible apply State.queueOwn_ok
    | with_reducible apply State.segDrain_ok
    | with_reducible apply State.txCell_ok
    | with_reducible apply foldl_ok
    | with_reducible apply parts_ok
    | simp only [mk_ok]
    | with_reducible apply iteS_ok
    | intro _
    | split
    | with_reducible apply_assumption
    | dsimp only)

theorem State.followSlot_ok (s : State) (hs : s.Ok orig) :
    (State.followSlot s).Ok orig := by
  unfold State.followSlot
  try dsimp only
  repeat' (first
    | with_reducible assumption
    | with_reducible apply State.announceEnd_ok
    | with_reducible apply State.boundaryActs_ok
    | with_reducible apply State.filters_ok
    | with_reducible apply State.joinReload_ok
    | with_reducible apply State.raiseTask_ok
    | with_reducible apply State.runCells_ok
    | with_reducible apply parts_ok
    | simp only [mk_ok]
    | with_reducible apply iteS_ok
    | intro _
    | split
    | with_reducible apply_assumption
    | dsimp only)

theorem State.slotPulses_ok (s : State) (hs : s.Ok orig) :
    (State.slotPulses s).Ok orig := by
  unfold State.slotPulses
  try dsimp only
  repeat' (first
    | with_reducible assumption
    | with_reducible apply State.xingPulse_ok
    | with_reducible apply parts_ok
    | simp only [mk_ok]
    | with_reducible apply iteS_ok
    | intro _
    | split
    | with_reducible apply_assumption
    | dsimp only)

theorem State.padStep_ok (s : State) (b : Nat) (hs : s.Ok orig) :
    (State.padStep s b).Ok orig := by
  unfold State.padStep
  try dsimp only
  repeat' (first
    | with_reducible assumption
    | with_reducible apply State.updBand_ok
    | with_reducible apply parts_ok
    | simp only [mk_ok]
    | with_reducible apply iteS_ok
    | intro _
    | split
    | with_reducible apply_assumption
    | dsimp only)

end Sys2Proof.Machine
end

