-- ==== Sys2Proof/Laws/SoundExec.lean ====
section
/-! SUPPORT. Every meaning that answers a next state keeps a sound state sound, and what no command takes back. -/
namespace Sys2Proof.Machine
variable {orig : State}

set_option linter.unusedTactic false
set_option linter.unreachableTactic false

theorem NextOk.atAddr {a : Nat} {s : State} (h : s.Ok orig) : NextOk orig (Sys2Proof.Machine.atAddr a s) := by
  unfold Sys2Proof.Machine.atAddr
  split
  · exact NextOk.next h
  · exact NextOk.fault _

theorem execWktEnable_ok (m : Master) (n : Nat) (s : State) (hs : s.Ok orig) :
    NextOk orig (execWktEnable m n s) := by
  unfold execWktEnable
  try dsimp only
  repeat' (first
    | with_reducible assumption
    | with_reducible apply State.axEnable_ok
    | with_reducible apply State.guardW_ok
    | with_reducible apply NextOk.next
    | with_reducible apply NextOk.atAddr
    | with_reducible apply parts_ok
    | simp only [mk_ok]
    | with_reducible apply iteS_ok
    | intro _
    | split
    | with_reducible apply_assumption
    | dsimp only)

theorem execWktCheckDone_ok (n : Nat) (sc : Option Nat) (ia : Nat) (ib : Nat) (vm : Int) (s : State) (hs : s.Ok orig) :
    NextOk orig (execWktCheckDone n sc ia ib vm s) := by
  unfold execWktCheckDone
  try dsimp only
  repeat' (first
    | with_reducible assumption
    | with_reducible apply State.axFault_ok
    | with_reducible apply State.enterHold_ok
    | with_reducible apply State.setF_ok
    | with_reducible apply State.updAx_ok
    | with_reducible apply NextOk.next
    | with_reducible apply NextOk.atAddr
    | with_reducible apply parts_ok
    | simp only [mk_ok]
    | with_reducible apply iteS_ok
    | intro _
    | split
    | with_reducible apply_assumption
    | dsimp only)

theorem execWktDisable_ok (m : Master) (n : Nat) (s : State) (hs : s.Ok orig) :
    NextOk orig (execWktDisable m n s) := by
  unfold execWktDisable
  try dsimp only
  repeat' (first
    | with_reducible assumption
    | with_reducible apply State.axDisable_ok
    | with_reducible apply State.guardW_ok
    | with_reducible apply NextOk.next
    | with_reducible apply NextOk.atAddr
    | with_reducible apply parts_ok
    | simp only [mk_ok]
    | with_reducible apply iteS_ok
    | intro _
    | split
    | with_reducible apply_assumption
    | dsimp only)

theorem execWktZero_ok (m : Master) (n : Nat) (s : State) (hs : s.Ok orig) :
    NextOk orig (execWktZero m n s) := by
  unfold execWktZero
  try dsimp only
  repeat' (first
    | with_reducible assumption
    | with_reducible apply State.axZero_ok
    | with_reducible apply State.guardW_ok
    | with_reducible apply NextOk.next
    | with_reducible apply NextOk.atAddr
    | with_reducible apply parts_ok
    | simp only [mk_ok]
    | with_reducible apply iteS_ok
    | intro _
    | split
    | with_reducible apply_assumption
    | dsimp only)

theorem execWktMoveTable_ok (wid : Nat) (s : State) (hs : s.Ok orig) :
    NextOk orig (execWktMoveTable wid s) := by
  unfold execWktMoveTable
  try dsimp only
  repeat' (first
    | with_reducible assumption
    | with_reducible apply State.wktMove_ok
    | with_reducible apply NextOk.next
    | with_reducible apply NextOk.atAddr
    | with_reducible apply parts_ok
    | simp only [mk_ok]
    | with_reducible apply iteS_ok
    | intro _
    | split
    | with_reducible apply_assumption
    | dsimp only)

theorem execWktMoveTarget_ok (wid : Nat) (s : State) (hs : s.Ok orig) :
    NextOk orig (execWktMoveTarget wid s) := by
  unfold execWktMoveTarget
  try dsimp only
  repeat' (first
    | with_reducible assumption
    | with_reducible apply State.wktMove_ok
    | with_reducible apply NextOk.next
    | with_reducible apply NextOk.atAddr
    | with_reducible apply parts_ok
    | simp only [mk_ok]
    | with_reducible apply iteS_ok
    | intro _
    | split
    | with_reducible apply_assumption
    | dsimp only)

theorem execWktHomeStall_ok (wid : Nat) (s : State) (hs : s.Ok orig) :
    NextOk orig (execWktHomeStall wid s) := by
  unfold execWktHomeStall
  try dsimp only
  repeat' (first
    | with_reducible assumption
    | with_reducible apply State.wktHome_ok
    | with_reducible apply NextOk.next
    | with_reducible apply NextOk.atAddr
    | with_reducible apply parts_ok
    | simp only [mk_ok]
    | with_reducible apply iteS_ok
    | intro _
    | split
    | with_reducible apply_assumption
    | dsimp only)

theorem execWktHomeSwitch_ok (wid : Nat) (s : State) (hs : s.Ok orig) :
    NextOk orig (execWktHomeSwitch wid s) := by
  unfold execWktHomeSwitch
  try dsimp only
  repeat' (first
    | with_reducible assumption
    | with_reducible apply State.wktHome_ok
    | with_reducible apply NextOk.next
    | with_reducible apply NextOk.atAddr
    | with_reducible apply parts_ok
    | simp only [mk_ok]
    | with_reducible apply iteS_ok
    | intro _
    | split
    | with_reducible apply_assumption
    | dsimp only)

theorem execWktTableStart_ok (n : Nat) (s : State) (hs : s.Ok orig) :
    NextOk orig (execWktTableStart n s) := by
  unfold execWktTableStart
  try dsimp only
  repeat' (first
    | with_reducible assumption
    | with_reducible apply State.tryStart_ok
    | with_reducible apply NextOk.next
    | with_reducible apply NextOk.atAddr
    | with_reducible apply parts_ok
    | simp only [mk_ok]
    | with_reducible apply iteS_ok
    | intro _
    | split
    | with_reducible apply_assumption
    | dsimp only)

theorem execWktTableEnd_ok (n : Nat) (s : State) (hs : s.Ok orig) :
    NextOk orig (execWktTableEnd n s) := by
  unfold execWktTableEnd
  try dsimp only
  repeat' (first
    | with_reducible assumption
    | with_reducible apply State.axFinish_ok
    | with_reducible apply State.enterHold_ok
    | with_reducible apply State.setF_ok
    | with_reducible apply State.setI_ok
    | with_reducible apply State.tryStart_ok
    | with_reducible apply State.updAx_ok
    | with_reducible apply State.wktEvent_ok
    | with_reducible apply NextOk.next
    | with_reducible apply NextOk.atAddr
    | with_reducible apply parts_ok
    | simp only [mk_ok]
    | with_reducible apply iteS_ok
    | intro _
    | split
    | with_reducible apply_assumption
    | dsimp only)

theorem execWktRampEnd_ok (n : Nat) (s : State) (hs : s.Ok orig) :
    NextOk orig (execWktRampEnd n s) := by
  unfold execWktRampEnd
  try dsimp only
  repeat' (first
    | with_reducible assumption
    | with_reducible apply State.axEnd_ok
    | with_reducible apply State.enterHold_ok
    | with_reducible apply State.setI_ok
    | with_reducible apply NextOk.next
    | with_reducible apply NextOk.atAddr
    | with_reducible apply foldl_ok
    | with_reducible apply parts_ok
    | simp only [mk_ok]
    | with_reducible apply iteS_ok
    | intro _
    | split
    | with_reducible apply_assumption
    | dsimp only)

theorem execWktHomeFound_ok (n : Nat) (level : Bool) (s : State) (hs : s.Ok orig) :
    NextOk orig (execWktHomeFound n level s) := by
  unfold execWktHomeFound
  try dsimp only
  repeat' (first
    | with_reducible assumption
    | with_reducible apply State.homeBrake_ok
    | with_reducible apply State.homeEnd_ok
    | with_reducible apply State.wktEvent_ok
    | with_reducible apply NextOk.next
    | with_reducible apply NextOk.atAddr
    | with_reducible apply parts_ok
    | simp only [mk_ok]
    | with_reducible apply iteS_ok
    | intro _
    | split
    | with_reducible apply_assumption
    | dsimp only)

theorem execWktHomeNotFound_ok (n : Nat) (s : State) (hs : s.Ok orig) :
    NextOk orig (execWktHomeNotFound n s) := by
  unfold execWktHomeNotFound
  try dsimp only
  repeat' (first
    | with_reducible assumption
    | with_reducible apply State.homeBrake_ok
    | with_reducible apply NextOk.next
    | with_reducible apply NextOk.atAddr
    | with_reducible apply parts_ok
    | simp only [mk_ok]
    | with_reducible apply iteS_ok
    | intro _
    | split
    | with_reducible apply_assumption
    | dsimp only)

theorem execWktStall_ok (n : Nat) (s : State) (hs : s.Ok orig) :
    NextOk orig (execWktStall n s) := by
  unfold execWktStall
  try dsimp only
  repeat' (first
    | with_reducible assumption
    | with_reducible apply State.applyDeferred_ok
    | with_reducible apply State.axEnd_ok
    | with_reducible apply State.dropPend_ok
    | with_reducible apply State.incF_ok
    | with_reducible apply State.setAx_ok
    | with_reducible apply State.setBit_ok
    | with_reducible apply State.setF_ok
    | with_reducible apply State.setI_ok
    | with_reducible apply State.updAx_ok
    | with_reducible apply State.wktEvent_ok
    | with_reducible apply NextOk.next
    | with_reducible apply NextOk.atAddr
    | with_reducible apply foldl_ok
    | with_reducible apply parts_ok
    | simp only [mk_ok]
    | with_reducible apply iteS_ok
    | intro _
    | split
    | with_reducible apply_assumption
    | dsimp only)

theorem execWktOvercurrent_ok (n : Nat) (b : Bool) (i : Nat) (vm : Int) (s : State) (hs : s.Ok orig) :
    NextOk orig (execWktOvercurrent n b i vm s) := by
  unfold execWktOvercurrent
  try dsimp only
  repeat' (first
    | with_reducible assumption
    | with_reducible apply State.axFault_ok
    | with_reducible apply NextOk.next
    | with_reducible apply NextOk.atAddr
    | with_reducible apply parts_ok
    | simp only [mk_ok]
    | with_reducible apply iteS_ok
    | intro _
    | split
    | with_reducible apply_assumption
    | dsimp only)

theorem execWktVmLow_ok (n : Nat) (vm : Int) (s : State) (hs : s.Ok orig) :
    NextOk orig (execWktVmLow n vm s) := by
  unfold execWktVmLow
  try dsimp only
  repeat' (first
    | with_reducible assumption
    | with_reducible apply State.axFault_ok
    | with_reducible apply NextOk.next
    | with_reducible apply NextOk.atAddr
    | with_reducible apply parts_ok
    | simp only [mk_ok]
    | with_reducible apply iteS_ok
    | intro _
    | split
    | with_reducible apply_assumption
    | dsimp only)

theorem execWktVmOver_ok (n : Nat) (vm : Int) (s : State) (hs : s.Ok orig) :
    NextOk orig (execWktVmOver n vm s) := by
  unfold execWktVmOver
  try dsimp only
  repeat' (first
    | with_reducible assumption
    | with_reducible apply State.axFault_ok
    | with_reducible apply NextOk.next
    | with_reducible apply NextOk.atAddr
    | with_reducible apply parts_ok
    | simp only [mk_ok]
    | with_reducible apply iteS_ok
    | intro _
    | split
    | with_reducible apply_assumption
    | dsimp only)

theorem execWktVmHigh_ok (n : Nat) (vm : Int) (s : State) (hs : s.Ok orig) :
    NextOk orig (execWktVmHigh n vm s) := by
  unfold execWktVmHigh
  try dsimp only
  repeat' (first
    | with_reducible assumption
    | with_reducible apply State.setF_ok
    | with_reducible apply State.vmRead_ok
    | with_reducible apply NextOk.next
    | with_reducible apply NextOk.atAddr
    | with_reducible apply parts_ok
    | simp only [mk_ok]
    | with_reducible apply iteS_ok
    | intro _
    | split
    | with_reducible apply_assumption
    | dsimp only)

theorem execWktVmHighEnd_ok (n : Nat) (vm : Int) (s : State) (hs : s.Ok orig) :
    NextOk orig (execWktVmHighEnd n vm s) := by
  unfold execWktVmHighEnd
  try dsimp only
  repeat' (first
    | with_reducible assumption
    | with_reducible apply State.setF_ok
    | with_reducible apply State.vmRead_ok
    | with_reducible apply NextOk.next
    | with_reducible apply NextOk.atAddr
    | with_reducible apply parts_ok
    | simp only [mk_ok]
    | with_reducible apply iteS_ok
    | intro _
    | split
    | with_reducible apply_assumption
    | dsimp only)

theorem execWktVmReversed_ok (n : Nat) (vm : Int) (s : State) (hs : s.Ok orig) :
    NextOk orig (execWktVmReversed n vm s) := by
  unfold execWktVmReversed
  try dsimp only
  repeat' (first
    | with_reducible assumption
    | with_reducible apply State.axFault_ok
    | with_reducible apply NextOk.next
    | with_reducible apply NextOk.atAddr
    | with_reducible apply parts_ok
    | simp only [mk_ok]
    | with_reducible apply iteS_ok
    | intro _
    | split
    | with_reducible apply_assumption
    | dsimp only)

theorem execWktStandstillExpiry_ok (n : Nat) (s : State) (hs : s.Ok orig) :
    NextOk orig (execWktStandstillExpiry n s) := by
  unfold execWktStandstillExpiry
  try dsimp only
  repeat' (first
    | with_reducible assumption
    | with_reducible apply State.updAx_ok
    | with_reducible apply NextOk.next
    | with_reducible apply NextOk.atAddr
    | with_reducible apply parts_ok
    | simp only [mk_ok]
    | with_reducible apply iteS_ok
    | intro _
    | split
    | with_reducible apply_assumption
    | dsimp only)

theorem execWktReduceDone_ok (n : Nat) (s : State) (hs : s.Ok orig) :
    NextOk orig (execWktReduceDone n s) := by
  unfold execWktReduceDone
  try dsimp only
  repeat' (first
    | with_reducible assumption
    | with_reducible apply State.setF_ok
    | with_reducible apply State.updAx_ok
    | with_reducible apply NextOk.next
    | with_reducible apply NextOk.atAddr
    | with_reducible apply parts_ok
    | simp only [mk_ok]
    | with_reducible apply iteS_ok
    | intro _
    | split
    | with_reducible apply_assumption
    | dsimp only)

theorem execWktDecelWrite_ok (m : Master) (n : Nat) (e : Bool) (v : Word) (s : State) (hs : s.Ok orig) :
    NextOk orig (execWktDecelWrite m n e v s) := by
  unfold execWktDecelWrite
  try dsimp only
  repeat' (first
    | with_reducible assumption
    | with_reducible apply State.guardW_ok
    | with_reducible apply State.limitWrite_ok
    | with_reducible apply NextOk.next
    | with_reducible apply NextOk.atAddr
    | with_reducible apply parts_ok
    | simp only [mk_ok]
    | with_reducible apply iteS_ok
    | intro _
    | split
    | with_reducible apply_assumption
    | dsimp only)

theorem execWktLimitWrite_ok (m : Master) (n : Nat) (off : Nat) (v : Word) (s : State) (hs : s.Ok orig) :
    NextOk orig (execWktLimitWrite m n off v s) := by
  unfold execWktLimitWrite
  try dsimp only
  repeat' (first
    | with_reducible assumption
    | with_reducible apply State.guardW_ok
    | with_reducible apply State.limitWrite_ok
    | with_reducible apply NextOk.next
    | with_reducible apply NextOk.atAddr
    | with_reducible apply parts_ok
    | simp only [mk_ok]
    | with_reducible apply iteS_ok
    | intro _
    | split
    | with_reducible apply_assumption
    | dsimp only)

theorem execWktFaultClear_ok (m : Master) (n : Nat) (mask : Word) (absent : Nat) (s : State) (hs : s.Ok orig) :
    NextOk orig (execWktFaultClear m n mask absent s) := by
  unfold execWktFaultClear
  try dsimp only
  repeat' (first
    | with_reducible assumption
    | with_reducible apply State.axFaultClear_ok
    | with_reducible apply State.guardW_ok
    | with_reducible apply NextOk.next
    | with_reducible apply NextOk.atAddr
    | with_reducible apply parts_ok
    | simp only [mk_ok]
    | with_reducible apply iteS_ok
    | intro _
    | split
    | with_reducible apply_assumption
    | dsimp only)

theorem execWktPhaseGndShort_ok (n : Nat) (b : Bool) (v : Int) (vm : Int) (s : State) (hs : s.Ok orig) :
    NextOk orig (execWktPhaseGndShort n b v vm s) := by
  unfold execWktPhaseGndShort
  try dsimp only
  repeat' (first
    | with_reducible assumption
    | with_reducible apply State.axFault_ok
    | with_reducible apply NextOk.next
    | with_reducible apply NextOk.atAddr
    | with_reducible apply parts_ok
    | simp only [mk_ok]
    | with_reducible apply iteS_ok
    | intro _
    | split
    | with_reducible apply_assumption
    | dsimp only)

theorem execStopInputEdge_ok (i : Nat) (s : State) (hs : s.Ok orig) :
    NextOk orig (execStopInputEdge i s) := by
  unfold execStopInputEdge
  try dsimp only
  repeat' (first
    | with_reducible assumption
    | with_reducible apply State.levelCause_ok
    | with_reducible apply State.loopEdge_ok
    | with_reducible apply State.setF_ok
    | with_reducible apply State.updTest_ok
    | with_reducible apply NextOk.next
    | with_reducible apply NextOk.atAddr
    | with_reducible apply parts_ok
    | simp only [mk_ok]
    | with_reducible apply iteS_ok
    | intro _
    | split
    | with_reducible apply_assumption
    | dsimp only)

theorem execLoopReadsClosed_ok (i : Nat) (s : State) (hs : s.Ok orig) :
    NextOk orig (execLoopReadsClosed i s) := by
  unfold execLoopReadsClosed
  try dsimp only
  repeat' (first
    | with_reducible assumption
    | with_reducible apply State.clrBit_ok
    | with_reducible apply State.loopEdge_ok
    | with_reducible apply State.setF_ok
    | with_reducible apply State.updTest_ok
    | with_reducible apply NextOk.next
    | with_reducible apply NextOk.atAddr
    | with_reducible apply parts_ok
    | simp only [mk_ok]
    | with_reducible apply iteS_ok
    | intro _
    | split
    | with_reducible apply_assumption
    | dsimp only)

theorem execTestPulse_ok (i : Nat) (s : State) (hs : s.Ok orig) :
    NextOk orig (execTestPulse i s) := by
  unfold execTestPulse
  try dsimp only
  repeat' (first
    | with_reducible assumption
    | with_reducible apply State.setF_ok
    | with_reducible apply State.updTest_ok
    | with_reducible apply NextOk.next
    | with_reducible apply NextOk.atAddr
    | with_reducible apply parts_ok
    | simp only [mk_ok]
    | with_reducible apply iteS_ok
    | intro _
    | split
    | with_reducible apply_assumption
    | dsimp only)

theorem execFallJudgement_ok (i : Nat) (s : State) (hs : s.Ok orig) :
    NextOk orig (execFallJudgement i s) := by
  unfold execFallJudgement
  try dsimp only
  repeat' (first
    | with_reducible assumption
    | with_reducible apply State.gzbFault_ok
    | with_reducible apply State.updTest_ok
    | with_reducible apply NextOk.next
    | with_reducible apply NextOk.atAddr
    | with_reducible apply parts_ok
    | simp only [mk_ok]
    | with_reducible apply iteS_ok
    | intro _
    | split
    | with_reducible apply_assumption
    | dsimp only)

theorem execRiseJudgement_ok (i : Nat) (s : State) (hs : s.Ok orig) :
    NextOk orig (execRiseJudgement i s) := by
  unfold execRiseJudgement
  try dsimp only
  repeat' (first
    | with_reducible assumption
    | with_reducible apply State.gzbFault_ok
    | with_reducible apply State.levelCause_ok
    | with_reducible apply State.loopDiff_ok
    | with_reducible apply State.pulsePassed_ok
    | with_reducible apply State.setF_ok
    | with_reducible apply State.updTest_ok
    | with_reducible apply NextOk.next
    | with_reducible apply NextOk.atAddr
    | with_reducible apply parts_ok
    | simp only [mk_ok]
    | with_reducible apply iteS_ok
    | intro _
    | split
    | with_reducible apply_assumption
    | dsimp only)

theorem execTpShortDetect_ok (i : Nat) (s : State) (hs : s.Ok orig) :
    NextOk orig (execTpShortDetect i s) := by
  unfold execTpShortDetect
  try dsimp only
  repeat' (first
    | with_reducible assumption
    | with_reducible apply State.gzbFault_ok
    | with_reducible apply State.updTest_ok
    | with_reducible apply NextOk.next
    | with_reducible apply NextOk.atAddr
    | with_reducible apply parts_ok
    | simp only [mk_ok]
    | with_reducible apply iteS_ok
    | intro _
    | split
    | with_reducible apply_assumption
    | dsimp only)

theorem execLoopReverseDetect_ok (i : Nat) (s : State) (hs : s.Ok orig) :
    NextOk orig (execLoopReverseDetect i s) := by
  unfold execLoopReverseDetect
  try dsimp only
  repeat' (first
    | with_reducible assumption
    | with_reducible apply State.gzbFault_ok
    | with_reducible apply State.updTest_ok
    | with_reducible apply NextOk.next
    | with_reducible apply NextOk.atAddr
    | with_reducible apply parts_ok
    | simp only [mk_ok]
    | with_reducible apply iteS_ok
    | intro _
    | split
    | with_reducible apply_assumption
    | dsimp only)

theorem execMonitorSample_ok (a : Int) (b : Int) (s : State) (hs : s.Ok orig) :
    NextOk orig (execMonitorSample a b s) := by
  unfold execMonitorSample
  try dsimp only
  repeat' (first
    | with_reducible assumption
    | with_reducible apply State.faultEvents_ok
    | with_reducible apply State.monitor_ok
    | with_reducible apply State.padsRight_ok
    | with_reducible apply State.setI_ok
    | with_reducible apply NextOk.next
    | with_reducible apply NextOk.atAddr
    | with_reducible apply parts_ok
    | simp only [mk_ok]
    | with_reducible apply iteS_ok
    | intro _
    | split
    | with_reducible apply_assumption
    | dsimp only)

theorem execChMismatchDetect_ok (s : State) (hs : s.Ok orig) :
    NextOk orig (execChMismatchDetect s) := by
  unfold execChMismatchDetect
  try dsimp only
  repeat' (first
    | with_reducible assumption
    | with_reducible apply State.gzbFault_ok
    | with_reducible apply NextOk.next
    | with_reducible apply NextOk.atAddr
    | with_reducible apply parts_ok
    | simp only [mk_ok]
    | with_reducible apply iteS_ok
    | intro _
    | split
    | with_reducible apply_assumption
    | dsimp only)

theorem execDiscrepancyDetect_ok (s : State) (hs : s.Ok orig) :
    NextOk orig (execDiscrepancyDetect s) := by
  unfold execDiscrepancyDetect
  try dsimp only
  repeat' (first
    | with_reducible assumption
    | with_reducible apply State.gzbFault_ok
    | with_reducible apply NextOk.next
    | with_reducible apply NextOk.atAddr
    | with_reducible apply parts_ok
    | simp only [mk_ok]
    | with_reducible apply iteS_ok
    | intro _
    | split
    | with_reducible apply_assumption
    | dsimp only)

theorem execRfSelfTest_ok (power : Int) (off : Int) (s : State) (hs : s.Ok orig) :
    NextOk orig (execRfSelfTest power off s) := by
  unfold execRfSelfTest
  try dsimp only
  repeat' (first
    | with_reducible assumption
    | with_reducible apply State.gzbFault_ok
    | with_reducible apply State.updGzb_ok
    | with_reducible apply NextOk.next
    | with_reducible apply NextOk.atAddr
    | with_reducible apply parts_ok
    | simp only [mk_ok]
    | with_reducible apply iteS_ok
    | intro _
    | split
    | with_reducible apply_assumption
    | dsimp only)

theorem execCoilShortDetect_ok (k : Nat) (s : State) (hs : s.Ok orig) :
    NextOk orig (execCoilShortDetect k s) := by
  unfold execCoilShortDetect
  try dsimp only
  repeat' (first
    | with_reducible assumption
    | with_reducible apply State.gzbFault_ok
    | with_reducible apply State.relOff_ok
    | with_reducible apply NextOk.next
    | with_reducible apply NextOk.atAddr
    | with_reducible apply parts_ok
    | simp only [mk_ok]
    | with_reducible apply iteS_ok
    | intro _
    | split
    | with_reducible apply_assumption
    | dsimp only)

theorem execCoilOpenDetect_ok (k : Nat) (s : State) (hs : s.Ok orig) :
    NextOk orig (execCoilOpenDetect k s) := by
  unfold execCoilOpenDetect
  try dsimp only
  repeat' (first
    | with_reducible assumption
    | with_reducible apply State.gzbFault_ok
    | with_reducible apply NextOk.next
    | with_reducible apply NextOk.atAddr
    | with_reducible apply parts_ok
    | simp only [mk_ok]
    | with_reducible apply iteS_ok
    | intro _
    | split
    | with_reducible apply_assumption
    | dsimp only)

theorem execGzbFaultClear_ok (m : Master) (mask : Word) (absent : Nat) (s : State) (hs : s.Ok orig) :
    NextOk orig (execGzbFaultClear m mask absent s) := by
  unfold execGzbFaultClear
  try dsimp only
  repeat' (first
    | with_reducible assumption
    | with_reducible apply State.guardW_ok
    | with_reducible apply State.gzbFaultClear_ok
    | with_reducible apply NextOk.next
    | with_reducible apply NextOk.atAddr
    | with_reducible apply parts_ok
    | simp only [mk_ok]
    | with_reducible apply iteS_ok
    | intro _
    | split
    | with_reducible apply_assumption
    | dsimp only)

theorem execStopTrainRepeat_ok (s : State) (hs : s.Ok orig) :
    NextOk orig (execStopTrainRepeat s) := by
  unfold execStopTrainRepeat
  try dsimp only
  repeat' (first
    | with_reducible assumption
    | with_reducible apply State.startTrain_ok
    | with_reducible apply NextOk.next
    | with_reducible apply NextOk.atAddr
    | with_reducible apply parts_ok
    | simp only [mk_ok]
    | with_reducible apply iteS_ok
    | intro _
    | split
    | with_reducible apply_assumption
    | dsimp only)

theorem execStopTrainEnd_ok (s : State) (hs : s.Ok orig) :
    NextOk orig (execStopTrainEnd s) := by
  unfold execStopTrainEnd
  try dsimp only
  repeat' (first
    | with_reducible assumption
    | with_reducible apply State.incF_ok
    | with_reducible apply State.setF_ok
    | with_reducible apply State.updGzb_ok
    | with_reducible apply NextOk.next
    | with_reducible apply NextOk.atAddr
    | with_reducible apply parts_ok
    | simp only [mk_ok]
    | with_reducible apply iteS_ok
    | intro _
    | split
    | with_reducible apply_assumption
    | dsimp only)

theorem execGzbStopWrite_ok (m : Master) (v : Word) (s : State) (hs : s.Ok orig) :
    NextOk orig (execGzbStopWrite m v s) := by
  unfold execGzbStopWrite
  try dsimp only
  repeat' (first
    | with_reducible assumption
    | with_reducible apply State.guardW_ok
    | with_reducible apply State.raiseCause_ok
    | with_reducible apply NextOk.next
    | with_reducible apply NextOk.atAddr
    | with_reducible apply parts_ok
    | simp only [mk_ok]
    | with_reducible apply iteS_ok
    | intro _
    | split
    | with_reducible apply_assumption
    | dsimp only)

theorem execGzbInitExit_ok (s : State) (hs : s.Ok orig) :
    NextOk orig (execGzbInitExit s) := by
  unfold execGzbInitExit
  try dsimp only
  repeat' (first
    | with_reducible assumption
    | with_reducible apply State.setF_ok
    | with_reducible apply State.stopWords_ok
    | with_reducible apply NextOk.next
    | with_reducible apply NextOk.atAddr
    | with_reducible apply parts_ok
    | simp only [mk_ok]
    | with_reducible apply iteS_ok
    | intro _
    | split
    | with_reducible apply_assumption
    | dsimp only)

theorem execStopKeyLoad_ok (next : Bool) (s : State) (hs : s.Ok orig) :
    NextOk orig (execStopKeyLoad next s) := by
  unfold execStopKeyLoad
  try dsimp only
  repeat' (first
    | with_reducible assumption
    | with_reducible apply State.stopKeyLoad_ok
    | with_reducible apply NextOk.next
    | with_reducible apply NextOk.atAddr
    | with_reducible apply parts_ok
    | simp only [mk_ok]
    | with_reducible apply iteS_ok
    | intro _
    | split
    | with_reducible apply_assumption
    | dsimp only)

theorem execGzbClear_ok (wid : Nat) (s : State) (hs : s.Ok orig) :
    NextOk orig (execGzbClear wid s) := by
  unfold execGzbClear
  try dsimp only
  repeat' (first
    | with_reducible assumption
    | with_reducible apply State.gzbClear_ok
    | with_reducible apply NextOk.next
    | with_reducible apply NextOk.atAddr
    | with_reducible apply parts_ok
    | simp only [mk_ok]
    | with_reducible apply iteS_ok
    | intro _
    | split
    | with_reducible apply_assumption
    | dsimp only)

theorem execSnapTrigger_ok (src : Nat) (tb : Nat) (idx : Nat) (m : Master) (s : State) (hs : s.Ok orig) :
    NextOk orig (execSnapTrigger src tb idx m s) := by
  unfold execSnapTrigger
  try dsimp only
  repeat' (first
    | with_reducible assumption
    | with_reducible apply State.snap_ok
    | with_reducible apply State.vbTrigger_ok
    | with_reducible apply NextOk.next
    | with_reducible apply NextOk.atAddr
    | with_reducible apply parts_ok
    | simp only [mk_ok]
    | with_reducible apply iteS_ok
    | intro _
    | split
    | with_reducible apply_assumption
    | dsimp only)

theorem execVbSnapWrite_ok (m : Master) (v : Word) (s : State) (hs : s.Ok orig) :
    NextOk orig (execVbSnapWrite m v s) := by
  unfold execVbSnapWrite
  try dsimp only
  repeat' (first
    | with_reducible assumption
    | with_reducible apply State.guardW_ok
    | with_reducible apply State.vbCtrlWrite_ok
    | with_reducible apply NextOk.next
    | with_reducible apply NextOk.atAddr
    | with_reducible apply parts_ok
    | simp only [mk_ok]
    | with_reducible apply iteS_ok
    | intro _
    | split
    | with_reducible apply_assumption
    | dsimp only)

theorem execVbRecordAssemble_ok (k : Nat) (s : State) (hs : s.Ok orig) :
    NextOk orig (execVbRecordAssemble k s) := by
  unfold execVbRecordAssemble
  try dsimp only
  repeat' (first
    | with_reducible assumption
    | with_reducible apply State.assemble_ok
    | with_reducible apply NextOk.next
    | with_reducible apply NextOk.atAddr
    | with_reducible apply parts_ok
    | simp only [mk_ok]
    | with_reducible apply iteS_ok
    | intro _
    | split
    | with_reducible apply_assumption
    | dsimp only)

theorem execVbRecordProgrammed_ok (s : State) (hs : s.Ok orig) :
    NextOk orig (execVbRecordProgrammed s) := by
  unfold execVbRecordProgrammed
  try dsimp only
  repeat' (first
    | with_reducible assumption
    | with_reducible apply State.putEssential_ok
    | with_reducible apply State.putMain_ok
    | with_reducible apply State.vbDrop_ok
    | with_reducible apply NextOk.next
    | with_reducible apply NextOk.atAddr
    | with_reducible apply parts_ok
    | simp only [mk_ok]
    | with_reducible apply iteS_ok
    | intro _
    | split
    | with_reducible apply_assumption
    | dsimp only)

theorem execVbTokenRefill_ok (c : Nat) (s : State) (hs : s.Ok orig) :
    NextOk orig (execVbTokenRefill c s) := by
  unfold execVbTokenRefill
  try dsimp only
  repeat' (first
    | with_reducible assumption
    | with_reducible apply State.setBucket_ok
    | with_reducible apply NextOk.next
    | with_reducible apply NextOk.atAddr
    | with_reducible apply parts_ok
    | simp only [mk_ok]
    | with_reducible apply iteS_ok
    | intro _
    | split
    | with_reducible apply_assumption
    | dsimp only)

theorem execVbRead_ok (wid : Nat) (s : State) (hs : s.Ok orig) :
    NextOk orig (execVbRead wid s) := by
  unfold execVbRead
  try dsimp only
  repeat' (first
    | with_reducible assumption
    | with_reducible apply State.finish_ok
    | with_reducible apply State.vbReadStep_ok
    | with_reducible apply NextOk.next
    | with_reducible apply NextOk.atAddr
    | with_reducible apply parts_ok
    | simp only [mk_ok]
    | with_reducible apply iteS_ok
    | intro _
    | split
    | with_reducible apply_assumption
    | dsimp only)

theorem execVbMark_ok (wid : Nat) (s : State) (hs : s.Ok orig) :
    NextOk orig (execVbMark wid s) := by
  unfold execVbMark
  try dsimp only
  repeat' (first
    | with_reducible assumption
    | with_reducible apply State.finish_ok
    | with_reducible apply State.park_ok
    | with_reducible apply State.suppress_ok
    | with_reducible apply State.vbTrigger_ok
    | with_reducible apply NextOk.next
    | with_reducible apply NextOk.atAddr
    | with_reducible apply parts_ok
    | simp only [mk_ok]
    | with_reducible apply iteS_ok
    | intro _
    | split
    | with_reducible apply_assumption
    | dsimp only)

theorem execTestRun_ok (wid : Nat) (s : State) (hs : s.Ok orig) :
    NextOk orig (execTestRun wid s) := by
  unfold execTestRun
  try dsimp only
  repeat' (first
    | with_reducible assumption
    | with_reducible apply State.domEvent_ok
    | with_reducible apply State.finish_ok
    | with_reducible apply State.park_ok
    | with_reducible apply State.setF_ok
    | with_reducible apply State.testShow_ok
    | with_reducible apply NextOk.next
    | with_reducible apply NextOk.atAddr
    | with_reducible apply foldl_ok
    | with_reducible apply parts_ok
    | simp only [mk_ok]
    | with_reducible apply iteS_ok
    | intro _
    | split
    | with_reducible apply_assumption
    | dsimp only)

theorem execTestDurationExpiry_ok (flips : List Bool) (value : Nat) (s : State) (hs : s.Ok orig) :
    NextOk orig (execTestDurationExpiry flips value s) := by
  unfold execTestDurationExpiry
  try dsimp only
  repeat' (first
    | with_reducible assumption
    | with_reducible apply State.endTest_ok
    | with_reducible apply State.testShow_ok
    | with_reducible apply NextOk.next
    | with_reducible apply NextOk.atAddr
    | with_reducible apply foldl_ok
    | with_reducible apply parts_ok
    | simp only [mk_ok]
    | with_reducible apply iteS_ok
    | intro _
    | split
    | with_reducible apply_assumption
    | dsimp only)

theorem execPlanRequestIntake_ok (s : State) (hs : s.Ok orig) :
    NextOk orig (execPlanRequestIntake s) := by
  unfold execPlanRequestIntake
  try dsimp only
  repeat' (first
    | with_reducible assumption
    | with_reducible apply State.planIntake_ok
    | with_reducible apply NextOk.next
    | with_reducible apply NextOk.atAddr
    | with_reducible apply parts_ok
    | simp only [mk_ok]
    | with_reducible apply iteS_ok
    | intro _
    | split
    | with_reducible apply_assumption
    | dsimp only)

theorem execPlannerTake_ok (s : State) (hs : s.Ok orig) :
    NextOk orig (execPlannerTake s) := by
  unfold execPlannerTake
  try dsimp only
  repeat' (first
    | with_reducible assumption
    | with_reducible apply State.endReq_ok
    | with_reducible apply State.updPgl_ok
    | with_reducible apply NextOk.next
    | with_reducible apply NextOk.atAddr
    | with_reducible apply parts_ok
    | simp only [mk_ok]
    | with_reducible apply iteS_ok
    | intro _
    | split
    | with_reducible apply_assumption
    | dsimp only)

theorem execPlanDone_ok (tabs : List PlanTab) (s : State) (hs : s.Ok orig) :
    NextOk orig (execPlanDone tabs s) := by
  unfold execPlanDone
  try dsimp only
  repeat' (first
    | with_reducible assumption
    | with_reducible apply State.grantPlan_ok
    | with_reducible apply State.noPath_ok
    | with_reducible apply State.planEnd_ok
    | with_reducible apply State.setF_ok
    | with_reducible apply NextOk.next
    | with_reducible apply NextOk.atAddr
    | with_reducible apply parts_ok
    | simp only [mk_ok]
    | with_reducible apply iteS_ok
    | intro _
    | split
    | with_reducible apply_assumption
    | dsimp only)

theorem execPlanExhausted_ok (s : State) (hs : s.Ok orig) :
    NextOk orig (execPlanExhausted s) := by
  unfold execPlanExhausted
  try dsimp only
  repeat' (first
    | with_reducible assumption
    | with_reducible apply State.noPath_ok
    | with_reducible apply State.planEnd_ok
    | with_reducible apply NextOk.next
    | with_reducible apply NextOk.atAddr
    | with_reducible apply parts_ok
    | simp only [mk_ok]
    | with_reducible apply iteS_ok
    | intro _
    | split
    | with_reducible apply_assumption
    | dsimp only)

theorem execPosStaleExpiry_ok (m : Nat) (s : State) (hs : s.Ok orig) :
    NextOk orig (execPosStaleExpiry m s) := by
  unfold execPosStaleExpiry
  try dsimp only
  repeat' (first
    | with_reducible assumption
    | with_reducible apply State.pglEvent_ok
    | with_reducible apply State.setF_ok
    | with_reducible apply State.stopTable_ok
    | with_reducible apply State.updPm_ok
    | with_reducible apply NextOk.next
    | with_reducible apply NextOk.atAddr
    | with_reducible apply parts_ok
    | simp only [mk_ok]
    | with_reducible apply iteS_ok
    | intro _
    | split
    | with_reducible apply_assumption
    | dsimp only)

theorem execRtTick_ok (s : State) (hs : s.Ok orig) :
    NextOk orig (execRtTick s) := by
  unfold execRtTick
  try dsimp only
  repeat' (first
    | with_reducible assumption
    | with_reducible apply State.dropWins_ok
    | with_reducible apply NextOk.next
    | with_reducible apply NextOk.atAddr
    | with_reducible apply parts_ok
    | simp only [mk_ok]
    | with_reducible apply iteS_ok
    | intro _
    | split
    | with_reducible apply_assumption
    | dsimp only)

theorem execTaskDwellExpiry_ok (m : Nat) (s : State) (hs : s.Ok orig) :
    NextOk orig (execTaskDwellExpiry m s) := by
  unfold execTaskDwellExpiry
  try dsimp only
  repeat' (first
    | with_reducible assumption
    | with_reducible apply State.incF_ok
    | with_reducible apply State.pglEvent_ok
    | with_reducible apply State.planPush_ok
    | with_reducible apply State.updPm_ok
    | with_reducible apply NextOk.next
    | with_reducible apply NextOk.atAddr
    | with_reducible apply parts_ok
    | simp only [mk_ok]
    | with_reducible apply iteS_ok
    | intro _
    | split
    | with_reducible apply_assumption
    | dsimp only)

theorem execPglPlan_ok (wid : Nat) (pop : Bool) (s : State) (hs : s.Ok orig) :
    NextOk orig (execPglPlan wid pop s) := by
  unfold execPglPlan
  try dsimp only
  repeat' (first
    | with_reducible assumption
    | with_reducible apply State.pglPlan_ok
    | with_reducible apply State.planIntake_ok
    | with_reducible apply State.pushPop_ok
    | with_reducible apply NextOk.next
    | with_reducible apply NextOk.atAddr
    | with_reducible apply parts_ok
    | simp only [mk_ok]
    | with_reducible apply iteS_ok
    | intro _
    | split
    | with_reducible apply_assumption
    | dsimp only)

theorem execPglAssign_ok (wid : Nat) (pop : Bool) (s : State) (hs : s.Ok orig) :
    NextOk orig (execPglAssign wid pop s) := by
  unfold execPglAssign
  try dsimp only
  repeat' (first
    | with_reducible assumption
    | with_reducible apply State.pglAssign_ok
    | with_reducible apply State.planIntake_ok
    | with_reducible apply State.pushPop_ok
    | with_reducible apply NextOk.next
    | with_reducible apply NextOk.atAddr
    | with_reducible apply parts_ok
    | simp only [mk_ok]
    | with_reducible apply iteS_ok
    | intro _
    | split
    | with_reducible apply_assumption
    | dsimp only)

theorem execPglReleaseFuture_ok (wid : Nat) (s : State) (hs : s.Ok orig) :
    NextOk orig (execPglReleaseFuture wid s) := by
  unfold execPglReleaseFuture
  try dsimp only
  repeat' (first
    | with_reducible assumption
    | with_reducible apply State.finish_ok
    | with_reducible apply State.releaseFuture_ok
    | with_reducible apply NextOk.next
    | with_reducible apply NextOk.atAddr
    | with_reducible apply parts_ok
    | simp only [mk_ok]
    | with_reducible apply iteS_ok
    | intro _
    | split
    | with_reducible apply_assumption
    | dsimp only)

theorem execPglReleaseAll_ok (wid : Nat) (s : State) (hs : s.Ok orig) :
    NextOk orig (execPglReleaseAll wid s) := by
  unfold execPglReleaseAll
  try dsimp only
  repeat' (first
    | with_reducible assumption
    | with_reducible apply State.finish_ok
    | with_reducible apply State.releaseAll_ok
    | with_reducible apply NextOk.next
    | with_reducible apply NextOk.atAddr
    | with_reducible apply parts_ok
    | simp only [mk_ok]
    | with_reducible apply iteS_ok
    | intro _
    | split
    | with_reducible apply_assumption
    | dsimp only)

theorem execAntBiasOpen_ok (a : Nat) (ma : Nat) (s : State) (hs : s.Ok orig) :
    NextOk orig (execAntBiasOpen a ma s) := by
  unfold execAntBiasOpen
  try dsimp only
  repeat' (first
    | with_reducible assumption
    | with_reducible apply State.antSet_ok
    | with_reducible apply State.setBias_ok
    | with_reducible apply NextOk.next
    | with_reducible apply NextOk.atAddr
    | with_reducible apply parts_ok
    | simp only [mk_ok]
    | with_reducible apply iteS_ok
    | intro _
    | split
    | with_reducible apply_assumption
    | dsimp only)

theorem execAntBiasShort_ok (a : Nat) (ma : Nat) (s : State) (hs : s.Ok orig) :
    NextOk orig (execAntBiasShort a ma s) := by
  unfold execAntBiasShort
  try dsimp only
  repeat' (first
    | with_reducible assumption
    | with_reducible apply State.antSet_ok
    | with_reducible apply State.setBias_ok
    | with_reducible apply NextOk.next
    | with_reducible apply NextOk.atAddr
    | with_reducible apply parts_ok
    | simp only [mk_ok]
    | with_reducible apply iteS_ok
    | intro _
    | split
    | with_reducible apply_assumption
    | dsimp only)

theorem execAntBiasNormal_ok (a : Nat) (ma : Nat) (s : State) (hs : s.Ok orig) :
    NextOk orig (execAntBiasNormal a ma s) := by
  unfold execAntBiasNormal
  try dsimp only
  repeat' (first
    | with_reducible assumption
    | with_reducible apply State.antSet_ok
    | with_reducible apply State.setBias_ok
    | with_reducible apply NextOk.next
    | with_reducible apply NextOk.atAddr
    | with_reducible apply parts_ok
    | simp only [mk_ok]
    | with_reducible apply iteS_ok
    | intro _
    | split
    | with_reducible apply_assumption
    | dsimp only)

theorem execAntBiasRetry_ok (a : Nat) (s : State) (hs : s.Ok orig) :
    NextOk orig (execAntBiasRetry a s) := by
  unfold execAntBiasRetry
  try dsimp only
  repeat' (first
    | with_reducible assumption
    | with_reducible apply State.setBias_ok
    | with_reducible apply NextOk.next
    | with_reducible apply NextOk.atAddr
    | with_reducible apply parts_ok
    | simp only [mk_ok]
    | with_reducible apply iteS_ok
    | intro _
    | split
    | with_reducible apply_assumption
    | dsimp only)

theorem execAntSwitch_ok (s : State) (hs : s.Ok orig) :
    NextOk orig (execAntSwitch s) := by
  unfold execAntSwitch
  try dsimp only
  repeat' (first
    | with_reducible assumption
    | with_reducible apply State.switchAnt_ok
    | with_reducible apply NextOk.next
    | with_reducible apply NextOk.atAddr
    | with_reducible apply parts_ok
    | simp only [mk_ok]
    | with_reducible apply iteS_ok
    | intro _
    | split
    | with_reducible apply_assumption
    | dsimp only)

theorem execSearchStart_ok (p : Nat) (sky : Option SkyAim) (s : State) (hs : s.Ok orig) :
    NextOk orig (execSearchStart p sky s) := by
  unfold execSearchStart
  try dsimp only
  repeat' (first
    | with_reducible assumption
    | with_reducible apply State.domEvent_ok
    | with_reducible apply State.noteSky_ok
    | with_reducible apply State.runSearch_ok
    | with_reducible apply State.skySearch_ok
    | with_reducible apply State.updBv_ok
    | with_reducible apply NextOk.next
    | with_reducible apply NextOk.atAddr
    | with_reducible apply parts_ok
    | simp only [mk_ok]
    | with_reducible apply iteS_ok
    | intro _
    | split
    | with_reducible apply_assumption
    | dsimp only)

theorem execSearchDone_ok (p : Nat) (ds : List Detection) (s : State) (hs : s.Ok orig) :
    NextOk orig (execSearchDone p ds s) := by
  unfold execSearchDone
  try dsimp only
  repeat' (first
    | with_reducible assumption
    | with_reducible apply State.detected_ok
    | with_reducible apply State.finish_ok
    | with_reducible apply State.handoverAll_ok
    | with_reducible apply State.idleChan_ok
    | with_reducible apply State.idleStart_ok
    | with_reducible apply State.incF_ok
    | with_reducible apply State.queueSearch_ok
    | with_reducible apply State.setChan_ok
    | with_reducible apply State.updBv_ok
    | with_reducible apply NextOk.next
    | with_reducible apply NextOk.atAddr
    | with_reducible apply foldl_ok
    | with_reducible apply parts_ok
    | simp only [mk_ok]
    | with_reducible apply iteS_ok
    | intro _
    | split
    | with_reducible apply_assumption
    | dsimp only)

theorem execChPullInLock_ok (c : Nat) (s : State) (hs : s.Ok orig) :
    NextOk orig (execChPullInLock c s) := by
  unfold execChPullInLock
  try dsimp only
  repeat' (first
    | with_reducible assumption
    | with_reducible apply State.chanIn_ok
    | with_reducible apply State.setChan_ok
    | with_reducible apply NextOk.next
    | with_reducible apply NextOk.atAddr
    | with_reducible apply parts_ok
    | simp only [mk_ok]
    | with_reducible apply iteS_ok
    | intro _
    | split
    | with_reducible apply_assumption
    | dsimp only)

theorem execChPullInTimeout_ok (c : Nat) (s : State) (hs : s.Ok orig) :
    NextOk orig (execChPullInTimeout c s) := by
  unfold execChPullInTimeout
  try dsimp only
  repeat' (first
    | with_reducible assumption
    | with_reducible apply State.chanIn_ok
    | with_reducible apply State.pullInLost_ok
    | with_reducible apply NextOk.next
    | with_reducible apply NextOk.atAddr
    | with_reducible apply parts_ok
    | simp only [mk_ok]
    | with_reducible apply iteS_ok
    | intro _
    | split
    | with_reducible apply_assumption
    | dsimp only)

theorem execChPhaseLock_ok (c : Nat) (s : State) (hs : s.Ok orig) :
    NextOk orig (execChPhaseLock c s) := by
  unfold execChPhaseLock
  try dsimp only
  repeat' (first
    | with_reducible assumption
    | with_reducible apply State.chanIn_ok
    | with_reducible apply State.handover_ok
    | with_reducible apply State.setChan_ok
    | with_reducible apply NextOk.next
    | with_reducible apply NextOk.atAddr
    | with_reducible apply parts_ok
    | simp only [mk_ok]
    | with_reducible apply iteS_ok
    | intro _
    | split
    | with_reducible apply_assumption
    | dsimp only)

theorem execChPhaseSlip_ok (c : Nat) (s : State) (hs : s.Ok orig) :
    NextOk orig (execChPhaseSlip c s) := by
  unfold execChPhaseSlip
  try dsimp only
  repeat' (first
    | with_reducible assumption
    | with_reducible apply State.chanIn_ok
    | with_reducible apply State.setChan_ok
    | with_reducible apply NextOk.next
    | with_reducible apply NextOk.atAddr
    | with_reducible apply parts_ok
    | simp only [mk_ok]
    | with_reducible apply iteS_ok
    | intro _
    | split
    | with_reducible apply_assumption
    | dsimp only)

theorem execChSidePeak_ok (c : Nat) (s : State) (hs : s.Ok orig) :
    NextOk orig (execChSidePeak c s) := by
  unfold execChSidePeak
  try dsimp only
  repeat' (first
    | with_reducible assumption
    | with_reducible apply State.chanIn_ok
    | with_reducible apply State.setChan_ok
    | with_reducible apply NextOk.next
    | with_reducible apply NextOk.atAddr
    | with_reducible apply parts_ok
    | simp only [mk_ok]
    | with_reducible apply iteS_ok
    | intro _
    | split
    | with_reducible apply_assumption
    | dsimp only)

theorem execChLost_ok (c : Nat) (s : State) (hs : s.Ok orig) :
    NextOk orig (execChLost c s) := by
  unfold execChLost
  try dsimp only
  repeat' (first
    | with_reducible assumption
    | with_reducible apply State.chanIn_ok
    | with_reducible apply State.trackLost_ok
    | with_reducible apply NextOk.next
    | with_reducible apply NextOk.atAddr
    | with_reducible apply parts_ok
    | simp only [mk_ok]
    | with_reducible apply iteS_ok
    | intro _
    | split
    | with_reducible apply_assumption
    | dsimp only)

theorem execChReacqExpiry_ok (c : Nat) (s : State) (hs : s.Ok orig) :
    NextOk orig (execChReacqExpiry c s) := by
  unfold execChReacqExpiry
  try dsimp only
  repeat' (first
    | with_reducible assumption
    | with_reducible apply State.chanIn_ok
    | with_reducible apply State.releaseChan_ok
    | with_reducible apply NextOk.next
    | with_reducible apply NextOk.atAddr
    | with_reducible apply parts_ok
    | simp only [mk_ok]
    | with_reducible apply iteS_ok
    | intro _
    | split
    | with_reducible apply_assumption
    | dsimp only)

theorem execFloatChRelease_ok (c : Nat) (s : State) (hs : s.Ok orig) :
    NextOk orig (execFloatChRelease c s) := by
  unfold execFloatChRelease
  try dsimp only
  repeat' (first
    | with_reducible assumption
    | with_reducible apply State.chanIn_ok
    | with_reducible apply State.releaseChan_ok
    | with_reducible apply NextOk.next
    | with_reducible apply NextOk.atAddr
    | with_reducible apply parts_ok
    | simp only [mk_ok]
    | with_reducible apply iteS_ok
    | intro _
    | split
    | with_reducible apply_assumption
    | dsimp only)

theorem execBaseEpochLatch_ok (tb : Nat) (s : State) (hs : s.Ok orig) :
    NextOk orig (execBaseEpochLatch tb s) := by
  unfold execBaseEpochLatch
  try dsimp only
  repeat' (first
    | with_reducible assumption
    | with_reducible apply State.setF_ok
    | with_reducible apply State.updBv_ok
    | with_reducible apply State.xingPulse_ok
    | with_reducible apply NextOk.next
    | with_reducible apply NextOk.atAddr
    | with_reducible apply parts_ok
    | simp only [mk_ok]
    | with_reducible apply iteS_ok
    | intro _
    | split
    | with_reducible apply_assumption
    | dsimp only)

theorem execBaseRecordComplete_ok (obs : List BvObs) (s : State) (hs : s.Ok orig) :
    NextOk orig (execBaseRecordComplete obs s) := by
  unfold execBaseRecordComplete
  try dsimp only
  repeat' (first
    | with_reducible assumption
    | with_reducible apply State.obs_ok
    | with_reducible apply State.observe_ok
    | with_reducible apply State.raiseTask_ok
    | with_reducible apply State.slvBase_ok
    | with_reducible apply State.updBv_ok
    | with_reducible apply NextOk.next
    | with_reducible apply NextOk.atAddr
    | with_reducible apply parts_ok
    | simp only [mk_ok]
    | with_reducible apply iteS_ok
    | intro _
    | split
    | with_reducible apply_assumption
    | dsimp only)

theorem execTimeSolution_ok (r : TimeSol) (s : State) (hs : s.Ok orig) :
    NextOk orig (execTimeSolution r s) := by
  unfold execTimeSolution
  try dsimp only
  repeat' (first
    | with_reducible assumption
    | with_reducible apply State.handoverAll_ok
    | with_reducible apply State.navData_ok
    | with_reducible apply State.posChecks_ok
    | with_reducible apply State.solEnd_ok
    | with_reducible apply State.solFlags_ok
    | with_reducible apply State.solShow_ok
    | with_reducible apply State.surveyTake_ok
    | with_reducible apply State.updBv_ok
    | with_reducible apply NextOk.next
    | with_reducible apply NextOk.atAddr
    | with_reducible apply parts_ok
    | simp only [mk_ok]
    | with_reducible apply iteS_ok
    | intro _
    | split
    | with_reducible apply_assumption
    | dsimp only)

theorem execNoiseCheck_ok (c : Nat) (noise : Int) (s : State) (hs : s.Ok orig) :
    NextOk orig (execNoiseCheck c noise s) := by
  unfold execNoiseCheck
  try dsimp only
  repeat' (first
    | with_reducible assumption
    | with_reducible apply State.noiseSig_ok
    | with_reducible apply State.noiseSys_ok
    | with_reducible apply State.setBit_ok
    | with_reducible apply State.setI_ok
    | with_reducible apply State.updBv_ok
    | with_reducible apply NextOk.next
    | with_reducible apply NextOk.atAddr
    | with_reducible apply foldl_ok
    | with_reducible apply parts_ok
    | simp only [mk_ok]
    | with_reducible apply iteS_ok
    | intro _
    | split
    | with_reducible apply_assumption
    | dsimp only)

theorem execBvSurveyStart_ok (wid : Nat) (s : State) (hs : s.Ok orig) :
    NextOk orig (execBvSurveyStart wid s) := by
  unfold execBvSurveyStart
  try dsimp only
  repeat' (first
    | with_reducible assumption
    | with_reducible apply State.bvEvent_ok
    | with_reducible apply State.finish_ok
    | with_reducible apply State.startSurvey_ok
    | with_reducible apply State.surveyItem_ok
    | with_reducible apply NextOk.next
    | with_reducible apply NextOk.atAddr
    | with_reducible apply parts_ok
    | simp only [mk_ok]
    | with_reducible apply iteS_ok
    | intro _
    | split
    | with_reducible apply_assumption
    | dsimp only)

theorem execBvSurveySet_ok (wid : Nat) (s : State) (hs : s.Ok orig) :
    NextOk orig (execBvSurveySet wid s) := by
  unfold execBvSurveySet
  try dsimp only
  repeat' (first
    | with_reducible assumption
    | with_reducible apply State.bvEvent_ok
    | with_reducible apply State.finish_ok
    | with_reducible apply State.setF_ok
    | with_reducible apply State.setPos_ok
    | with_reducible apply State.surveyItem_ok
    | with_reducible apply NextOk.next
    | with_reducible apply NextOk.atAddr
    | with_reducible apply parts_ok
    | simp only [mk_ok]
    | with_reducible apply iteS_ok
    | intro _
    | split
    | with_reducible apply_assumption
    | dsimp only)

theorem execBvSurveyAbort_ok (wid : Nat) (s : State) (hs : s.Ok orig) :
    NextOk orig (execBvSurveyAbort wid s) := by
  unfold execBvSurveyAbort
  try dsimp only
  repeat' (first
    | with_reducible assumption
    | with_reducible apply State.endSurvey_ok
    | with_reducible apply State.finish_ok
    | with_reducible apply State.surveyItem_ok
    | with_reducible apply NextOk.next
    | with_reducible apply NextOk.atAddr
    | with_reducible apply parts_ok
    | simp only [mk_ok]
    | with_reducible apply iteS_ok
    | intro _
    | split
    | with_reducible apply_assumption
    | dsimp only)

theorem execBvSurveySelectAnt_ok (wid : Nat) (s : State) (hs : s.Ok orig) :
    NextOk orig (execBvSurveySelectAnt wid s) := by
  unfold execBvSurveySelectAnt
  try dsimp only
  repeat' (first
    | with_reducible assumption
    | with_reducible apply State.finish_ok
    | with_reducible apply State.surveyItem_ok
    | with_reducible apply State.switchAnt_ok
    | with_reducible apply NextOk.next
    | with_reducible apply NextOk.atAddr
    | with_reducible apply parts_ok
    | simp only [mk_ok]
    | with_reducible apply iteS_ok
    | intro _
    | split
    | with_reducible apply_assumption
    | dsimp only)

theorem execBvSearch_ok (wid : Nat) (s : State) (hs : s.Ok orig) :
    NextOk orig (execBvSearch wid s) := by
  unfold execBvSearch
  try dsimp only
  repeat' (first
    | with_reducible assumption
    | with_reducible apply State.finish_ok
    | with_reducible apply State.park_ok
    | with_reducible apply State.queueSearch_ok
    | with_reducible apply NextOk.next
    | with_reducible apply NextOk.atAddr
    | with_reducible apply parts_ok
    | simp only [mk_ok]
    | with_reducible apply iteS_ok
    | intro _
    | split
    | with_reducible apply_assumption
    | dsimp only)

theorem execObsIntake_ok (s : State) (hs : s.Ok orig) :
    NextOk orig (execObsIntake s) := by
  unfold execObsIntake
  try dsimp only
  repeat' (first
    | with_reducible assumption
    | with_reducible apply State.obsIntake_ok
    | with_reducible apply NextOk.next
    | with_reducible apply NextOk.atAddr
    | with_reducible apply parts_ok
    | simp only [mk_ok]
    | with_reducible apply iteS_ok
    | intro _
    | split
    | with_reducible apply_assumption
    | dsimp only)

theorem execLaneTake_ok (s : State) (hs : s.Ok orig) :
    NextOk orig (execLaneTake s) := by
  unfold execLaneTake
  try dsimp only
  repeat' (first
    | with_reducible assumption
    | with_reducible apply State.updSlv_ok
    | with_reducible apply NextOk.next
    | with_reducible apply NextOk.atAddr
    | with_reducible apply foldl_ok
    | with_reducible apply parts_ok
    | simp only [mk_ok]
    | with_reducible apply iteS_ok
    | intro _
    | split
    | with_reducible apply_assumption
    | dsimp only)

theorem execFixDelivery_ok (l : Nat) (s : State) (hs : s.Ok orig) :
    NextOk orig (execFixDelivery l s) := by
  unfold execFixDelivery
  try dsimp only
  repeat' (first
    | with_reducible assumption
    | with_reducible apply State.abandon_ok
    | with_reducible apply State.deliverFix_ok
    | with_reducible apply State.laneFree_ok
    | with_reducible apply NextOk.next
    | with_reducible apply NextOk.atAddr
    | with_reducible apply parts_ok
    | simp only [mk_ok]
    | with_reducible apply iteS_ok
    | intro _
    | split
    | with_reducible apply_assumption
    | dsimp only)

theorem execLaneDeadlineAbandon_ok (l : Nat) (s : State) (hs : s.Ok orig) :
    NextOk orig (execLaneDeadlineAbandon l s) := by
  unfold execLaneDeadlineAbandon
  try dsimp only
  repeat' (first
    | with_reducible assumption
    | with_reducible apply State.abandon_ok
    | with_reducible apply NextOk.next
    | with_reducible apply NextOk.atAddr
    | with_reducible apply parts_ok
    | simp only [mk_ok]
    | with_reducible apply iteS_ok
    | intro _
    | split
    | with_reducible apply_assumption
    | dsimp only)

theorem execLaneFault_ok (l : Nat) (s : State) (hs : s.Ok orig) :
    NextOk orig (execLaneFault l s) := by
  unfold execLaneFault
  try dsimp only
  repeat' (first
    | with_reducible assumption
    | with_reducible apply State.abandon_ok
    | with_reducible apply State.clrBit_ok
    | with_reducible apply State.laneFree_ok
    | with_reducible apply State.setF_ok
    | with_reducible apply State.updSlv_ok
    | with_reducible apply State.vbTrigger_ok
    | with_reducible apply NextOk.next
    | with_reducible apply NextOk.atAddr
    | with_reducible apply parts_ok
    | simp only [mk_ok]
    | with_reducible apply iteS_ok
    | intro _
    | split
    | with_reducible apply_assumption
    | dsimp only)

theorem execSlvRoverReset_ok (wid : Nat) (s : State) (hs : s.Ok orig) :
    NextOk orig (execSlvRoverReset wid s) := by
  unfold execSlvRoverReset
  try dsimp only
  repeat' (first
    | with_reducible assumption
    | with_reducible apply State.finish_ok
    | with_reducible apply State.roverItem_ok
    | with_reducible apply State.setRover_ok
    | with_reducible apply NextOk.next
    | with_reducible apply NextOk.atAddr
    | with_reducible apply parts_ok
    | simp only [mk_ok]
    | with_reducible apply iteS_ok
    | intro _
    | split
    | with_reducible apply_assumption
    | dsimp only)

theorem execSlvRoverDisable_ok (wid : Nat) (s : State) (hs : s.Ok orig) :
    NextOk orig (execSlvRoverDisable wid s) := by
  unfold execSlvRoverDisable
  try dsimp only
  repeat' (first
    | with_reducible assumption
    | with_reducible apply State.finish_ok
    | with_reducible apply State.roverItem_ok
    | with_reducible apply State.setRover_ok
    | with_reducible apply NextOk.next
    | with_reducible apply NextOk.atAddr
    | with_reducible apply parts_ok
    | simp only [mk_ok]
    | with_reducible apply iteS_ok
    | intro _
    | split
    | with_reducible apply_assumption
    | dsimp only)

theorem execSlvRoverEnable_ok (wid : Nat) (s : State) (hs : s.Ok orig) :
    NextOk orig (execSlvRoverEnable wid s) := by
  unfold execSlvRoverEnable
  try dsimp only
  repeat' (first
    | with_reducible assumption
    | with_reducible apply State.finish_ok
    | with_reducible apply State.roverItem_ok
    | with_reducible apply State.setRover_ok
    | with_reducible apply NextOk.next
    | with_reducible apply NextOk.atAddr
    | with_reducible apply parts_ok
    | simp only [mk_ok]
    | with_reducible apply iteS_ok
    | intro _
    | split
    | with_reducible apply_assumption
    | dsimp only)

theorem execSlvRoverQuery_ok (wid : Nat) (s : State) (hs : s.Ok orig) :
    NextOk orig (execSlvRoverQuery wid s) := by
  unfold execSlvRoverQuery
  try dsimp only
  repeat' (first
    | with_reducible assumption
    | with_reducible apply State.finish_ok
    | with_reducible apply State.roverItem_ok
    | with_reducible apply State.status_ok
    | with_reducible apply NextOk.next
    | with_reducible apply NextOk.atAddr
    | with_reducible apply parts_ok
    | simp only [mk_ok]
    | with_reducible apply iteS_ok
    | intro _
    | split
    | with_reducible apply_assumption
    | dsimp only)

theorem execRtcmBuild_ok (s : State) (hs : s.Ok orig) :
    NextOk orig (execRtcmBuild s) := by
  unfold execRtcmBuild
  try dsimp only
  repeat' (first
    | with_reducible assumption
    | with_reducible apply State.dlFill_ok
    | with_reducible apply State.incF_ok
    | with_reducible apply State.observe_ok
    | with_reducible apply State.setF_ok
    | with_reducible apply State.updBv_ok
    | with_reducible apply State.updSlv_ok
    | with_reducible apply NextOk.next
    | with_reducible apply NextOk.atAddr
    | with_reducible apply foldl_ok
    | with_reducible apply parts_ok
    | simp only [mk_ok]
    | with_reducible apply iteS_ok
    | intro _
    | split
    | with_reducible apply_assumption
    | dsimp only)

theorem execCorrAgeExpiry_ok (s : State) (hs : s.Ok orig) :
    NextOk orig (execCorrAgeExpiry s) := by
  unfold execCorrAgeExpiry
  try dsimp only
  repeat' (first
    | with_reducible assumption
    | with_reducible apply State.incF_ok
    | with_reducible apply State.setF_ok
    | with_reducible apply State.updSlv_ok
    | with_reducible apply NextOk.next
    | with_reducible apply NextOk.atAddr
    | with_reducible apply parts_ok
    | simp only [mk_ok]
    | with_reducible apply iteS_ok
    | intro _
    | split
    | with_reducible apply_assumption
    | dsimp only)

theorem execDlFixAssemble_ok (s : State) (hs : s.Ok orig) :
    NextOk orig (execDlFixAssemble s) := by
  unfold execDlFixAssemble
  try dsimp only
  repeat' (first
    | with_reducible assumption
    | with_reducible apply State.fixPull_ok
    | with_reducible apply State.fixesSent_ok
    | with_reducible apply State.updBand_ok
    | with_reducible apply NextOk.next
    | with_reducible apply NextOk.atAddr
    | with_reducible apply parts_ok
    | simp only [mk_ok]
    | with_reducible apply iteS_ok
    | intro _
    | split
    | with_reducible apply_assumption
    | dsimp only)

theorem execJoinKeyDone_ok (m : Nat) (s : State) (hs : s.Ok orig) :
    NextOk orig (execJoinKeyDone m s) := by
  unfold execJoinKeyDone
  try dsimp only
  repeat' (first
    | with_reducible assumption
    | with_reducible apply State.joinFinish_ok
    | with_reducible apply State.needD13_ok
    | with_reducible apply State.slotDenied_ok
    | with_reducible apply State.slotUse_ok
    | with_reducible apply State.updMbr_ok
    | with_reducible apply NextOk.next
    | with_reducible apply NextOk.atAddr
    | with_reducible apply foldl_ok
    | with_reducible apply parts_ok
    | simp only [mk_ok]
    | with_reducible apply iteS_ok
    | intro _
    | split
    | with_reducible apply_assumption
    | dsimp only)

theorem execIackRx_ok (b : Nat) (psdu : Bytes) (t : Nat) (s : State) (hs : s.Ok orig) :
    NextOk orig (execIackRx b psdu t s) := by
  unfold execIackRx
  try dsimp only
  repeat' (first
    | with_reducible assumption
    | with_reducible apply State.frameDone_ok
    | with_reducible apply State.setF_ok
    | with_reducible apply State.updBand_ok
    | with_reducible apply State.updFleet_ok
    | with_reducible apply State.updMbr_ok
    | with_reducible apply NextOk.next
    | with_reducible apply NextOk.atAddr
    | with_reducible apply parts_ok
    | simp only [mk_ok]
    | with_reducible apply iteS_ok
    | intro _
    | split
    | with_reducible apply_assumption
    | dsimp only)

theorem execIackTimeout_ok (b : Nat) (s : State) (hs : s.Ok orig) :
    NextOk orig (execIackTimeout b s) := by
  unfold execIackTimeout
  try dsimp only
  repeat' (first
    | with_reducible assumption
    | with_reducible apply State.ackTimeout_ok
    | with_reducible apply NextOk.next
    | with_reducible apply NextOk.atAddr
    | with_reducible apply parts_ok
    | simp only [mk_ok]
    | with_reducible apply iteS_ok
    | intro _
    | split
    | with_reducible apply_assumption
    | dsimp only)

theorem execBsSend_ok (wid : Nat) (s : State) (hs : s.Ok orig) :
    NextOk orig (execBsSend wid s) := by
  unfold execBsSend
  try dsimp only
  repeat' (first
    | with_reducible assumption
    | with_reducible apply State.bsSend_ok
    | with_reducible apply NextOk.next
    | with_reducible apply NextOk.atAddr
    | with_reducible apply parts_ok
    | simp only [mk_ok]
    | with_reducible apply iteS_ok
    | intro _
    | split
    | with_reducible apply_assumption
    | dsimp only)

theorem execBsMemberExpel_ok (wid : Nat) (s : State) (hs : s.Ok orig) :
    NextOk orig (execBsMemberExpel wid s) := by
  unfold execBsMemberExpel
  try dsimp only
  repeat' (first
    | with_reducible assumption
    | with_reducible apply State.expel_ok
    | with_reducible apply State.memberItem_ok
    | with_reducible apply NextOk.next
    | with_reducible apply NextOk.atAddr
    | with_reducible apply parts_ok
    | simp only [mk_ok]
    | with_reducible apply iteS_ok
    | intro _
    | split
    | with_reducible apply_assumption
    | dsimp only)

theorem execBsMemberResync_ok (wid : Nat) (s : State) (hs : s.Ok orig) :
    NextOk orig (execBsMemberResync wid s) := by
  unfold execBsMemberResync
  try dsimp only
  repeat' (first
    | with_reducible assumption
    | with_reducible apply State.finish_ok
    | with_reducible apply State.markDesync_ok
    | with_reducible apply State.memberItem_ok
    | with_reducible apply NextOk.next
    | with_reducible apply NextOk.atAddr
    | with_reducible apply parts_ok
    | simp only [mk_ok]
    | with_reducible apply iteS_ok
    | intro _
    | split
    | with_reducible apply_assumption
    | dsimp only)

theorem execFrameRxBad_ok (b : Nat) (c : Nat) (phr : Nat) (psdu : Bytes) (s : State) (hs : s.Ok orig) :
    NextOk orig (execFrameRxBad b c phr psdu s) := by
  unfold execFrameRxBad
  try dsimp only
  repeat' (first
    | with_reducible assumption
    | with_reducible apply State.incF_ok
    | with_reducible apply State.updBand_ok
    | with_reducible apply NextOk.next
    | with_reducible apply NextOk.atAddr
    | with_reducible apply parts_ok
    | simp only [mk_ok]
    | with_reducible apply iteS_ok
    | intro _
    | split
    | with_reducible apply_assumption
    | dsimp only)

theorem execJoinReqRx_ok (c : Nat) (psdu : Bytes) (e : Int) (s : State) (hs : s.Ok orig) :
    NextOk orig (execJoinReqRx c psdu e s) := by
  unfold execJoinReqRx
  try dsimp only
  repeat' (first
    | with_reducible assumption
    | with_reducible apply State.joinReq_ok
    | with_reducible apply State.rxAccept_ok
    | with_reducible apply State.rxOf_ok
    | with_reducible apply NextOk.next
    | with_reducible apply NextOk.atAddr
    | with_reducible apply parts_ok
    | simp only [mk_ok]
    | with_reducible apply iteS_ok
    | intro _
    | split
    | with_reducible apply_assumption
    | dsimp only)

theorem execCtrlRx_ok (b : Nat) (c : Nat) (psdu : Bytes) (e : Int) (s : State) (hs : s.Ok orig) :
    NextOk orig (execCtrlRx b c psdu e s) := by
  unfold execCtrlRx
  try dsimp only
  repeat' (first
    | with_reducible assumption
    | with_reducible apply State.ctrl_ok
    | with_reducible apply State.rxAccept_ok
    | with_reducible apply State.rxOf_ok
    | with_reducible apply NextOk.next
    | with_reducible apply NextOk.atAddr
    | with_reducible apply parts_ok
    | simp only [mk_ok]
    | with_reducible apply iteS_ok
    | intro _
    | split
    | with_reducible apply_assumption
    | dsimp only)

theorem execObsRx_ok (b : Nat) (c : Nat) (psdu : Bytes) (e : Int) (pop : Bool) (s : State) (hs : s.Ok orig) :
    NextOk orig (execObsRx b c psdu e pop s) := by
  unfold execObsRx
  try dsimp only
  repeat' (first
    | with_reducible assumption
    | with_reducible apply State.obs_ok
    | with_reducible apply State.obsIntake_ok
    | with_reducible apply State.pushPop_ok
    | with_reducible apply State.rxAccept_ok
    | with_reducible apply State.rxOf_ok
    | with_reducible apply NextOk.next
    | with_reducible apply NextOk.atAddr
    | with_reducible apply parts_ok
    | simp only [mk_ok]
    | with_reducible apply iteS_ok
    | intro _
    | split
    | with_reducible apply_assumption
    | dsimp only)

theorem execStopReqRx_ok (b : Nat) (c : Nat) (psdu : Bytes) (e : Int) (s : State) (hs : s.Ok orig) :
    NextOk orig (execStopReqRx b c psdu e s) := by
  unfold execStopReqRx
  try dsimp only
  repeat' (first
    | with_reducible assumption
    | with_reducible apply State.raiseCause_ok
    | with_reducible apply State.rxAccept_ok
    | with_reducible apply State.rxOf_ok
    | with_reducible apply NextOk.next
    | with_reducible apply NextOk.atAddr
    | with_reducible apply parts_ok
    | simp only [mk_ok]
    | with_reducible apply iteS_ok
    | intro _
    | split
    | with_reducible apply_assumption
    | dsimp only)

theorem execLeaveRx_ok (b : Nat) (c : Nat) (psdu : Bytes) (e : Int) (s : State) (hs : s.Ok orig) :
    NextOk orig (execLeaveRx b c psdu e s) := by
  unfold execLeaveRx
  try dsimp only
  repeat' (first
    | with_reducible assumption
    | with_reducible apply State.rxAccept_ok
    | with_reducible apply State.rxOf_ok
    | with_reducible apply State.rxPush_ok
    | with_reducible apply State.updFleet_ok
    | with_reducible apply NextOk.next
    | with_reducible apply NextOk.atAddr
    | with_reducible apply parts_ok
    | simp only [mk_ok]
    | with_reducible apply iteS_ok
    | intro _
    | split
    | with_reducible apply_assumption
    | dsimp only)

theorem execStatusRx_ok (b : Nat) (c : Nat) (psdu : Bytes) (e : Int) (s : State) (hs : s.Ok orig) :
    NextOk orig (execStatusRx b c psdu e s) := by
  unfold execStatusRx
  try dsimp only
  repeat' (first
    | with_reducible assumption
    | with_reducible apply State.rxAccept_ok
    | with_reducible apply State.rxOf_ok
    | with_reducible apply State.status_ok
    | with_reducible apply NextOk.next
    | with_reducible apply NextOk.atAddr
    | with_reducible apply parts_ok
    | simp only [mk_ok]
    | with_reducible apply iteS_ok
    | intro _
    | split
    | with_reducible apply_assumption
    | dsimp only)

theorem execFloodFrameRx_ok (b : Nat) (c : Nat) (psdu : Bytes) (e : Int) (s : State) (hs : s.Ok orig) :
    NextOk orig (execFloodFrameRx b c psdu e s) := by
  unfold execFloodFrameRx
  try dsimp only
  repeat' (first
    | with_reducible assumption
    | with_reducible apply State.raiseCause_ok
    | with_reducible apply State.rxAccept_ok
    | with_reducible apply State.rxOf_ok
    | with_reducible apply NextOk.next
    | with_reducible apply NextOk.atAddr
    | with_reducible apply parts_ok
    | simp only [mk_ok]
    | with_reducible apply iteS_ok
    | intro _
    | split
    | with_reducible apply_assumption
    | dsimp only)

theorem execSackSend_ok (b : Nat) (s : State) (hs : s.Ok orig) :
    NextOk orig (execSackSend b s) := by
  unfold execSackSend
  try dsimp only
  repeat' (first
    | with_reducible assumption
    | with_reducible apply State.incF_ok
    | with_reducible apply State.keyPad_ok
    | with_reducible apply State.makeFree_ok
    | with_reducible apply State.setF_ok
    | with_reducible apply State.updBand_ok
    | with_reducible apply NextOk.next
    | with_reducible apply NextOk.atAddr
    | with_reducible apply foldl_ok
    | with_reducible apply parts_ok
    | simp only [mk_ok]
    | with_reducible apply iteS_ok
    | intro _
    | split
    | with_reducible apply_assumption
    | dsimp only)

theorem execWurWordRx_ok (w : Nat) (s : State) (hs : s.Ok orig) :
    NextOk orig (execWurWordRx w s) := by
  unfold execWurWordRx
  try dsimp only
  repeat' (first
    | with_reducible assumption
    | with_reducible apply State.incF_ok
    | with_reducible apply State.setF_ok
    | with_reducible apply State.wakeBy_ok
    | with_reducible apply NextOk.next
    | with_reducible apply NextOk.atAddr
    | with_reducible apply parts_ok
    | simp only [mk_ok]
    | with_reducible apply iteS_ok
    | intro _
    | split
    | with_reducible apply_assumption
    | dsimp only)

theorem execOrgKeyUpdate_ok (wid : Nat) (s : State) (hs : s.Ok orig) :
    NextOk orig (execOrgKeyUpdate wid s) := by
  unfold execOrgKeyUpdate
  try dsimp only
  repeat' (first
    | with_reducible assumption
    | with_reducible apply State.kuStart_ok
    | with_reducible apply State.needD13_ok
    | with_reducible apply State.park_ok
    | with_reducible apply State.updOrg_ok
    | with_reducible apply NextOk.next
    | with_reducible apply NextOk.atAddr
    | with_reducible apply parts_ok
    | simp only [mk_ok]
    | with_reducible apply iteS_ok
    | intro _
    | split
    | with_reducible apply_assumption
    | dsimp only)

theorem execOrgDeriveNode_ok (wid : Nat) (s : State) (hs : s.Ok orig) :
    NextOk orig (execOrgDeriveNode wid s) := by
  unfold execOrgDeriveNode
  try dsimp only
  repeat' (first
    | with_reducible assumption
    | with_reducible apply State.deriveItem_ok
    | with_reducible apply State.finish_ok
    | with_reducible apply State.updOrg_ok
    | with_reducible apply NextOk.next
    | with_reducible apply NextOk.atAddr
    | with_reducible apply parts_ok
    | simp only [mk_ok]
    | with_reducible apply iteS_ok
    | intro _
    | split
    | with_reducible apply_assumption
    | dsimp only)

theorem execOrgDeriveInvalidate_ok (wid : Nat) (s : State) (hs : s.Ok orig) :
    NextOk orig (execOrgDeriveInvalidate wid s) := by
  unfold execOrgDeriveInvalidate
  try dsimp only
  repeat' (first
    | with_reducible assumption
    | with_reducible apply State.deriveItem_ok
    | with_reducible apply State.finish_ok
    | with_reducible apply State.setF_ok
    | with_reducible apply State.updOrg_ok
    | with_reducible apply NextOk.next
    | with_reducible apply NextOk.atAddr
    | with_reducible apply parts_ok
    | simp only [mk_ok]
    | with_reducible apply iteS_ok
    | intro _
    | split
    | with_reducible apply_assumption
    | dsimp only)

theorem execOrgDeriveRoll_ok (wid : Nat) (s : State) (hs : s.Ok orig) :
    NextOk orig (execOrgDeriveRoll wid s) := by
  unfold execOrgDeriveRoll
  try dsimp only
  repeat' (first
    | with_reducible assumption
    | with_reducible apply State.deriveItem_ok
    | with_reducible apply State.finish_ok
    | with_reducible apply State.rollKey_ok
    | with_reducible apply NextOk.next
    | with_reducible apply NextOk.atAddr
    | with_reducible apply parts_ok
    | simp only [mk_ok]
    | with_reducible apply iteS_ok
    | intro _
    | split
    | with_reducible apply_assumption
    | dsimp only)

theorem execOrgDeriveAttest_ok (wid : Nat) (s : State) (hs : s.Ok orig) :
    NextOk orig (execOrgDeriveAttest wid s) := by
  unfold execOrgDeriveAttest
  try dsimp only
  repeat' (first
    | with_reducible assumption
    | with_reducible apply State.deriveItem_ok
    | with_reducible apply State.finish_ok
    | with_reducible apply State.random_ok
    | with_reducible apply NextOk.next
    | with_reducible apply NextOk.atAddr
    | with_reducible apply parts_ok
    | simp only [mk_ok]
    | with_reducible apply iteS_ok
    | intro _
    | split
    | with_reducible apply_assumption
    | dsimp only)

theorem execOrgDeriveHmac_ok (wid : Nat) (s : State) (hs : s.Ok orig) :
    NextOk orig (execOrgDeriveHmac wid s) := by
  unfold execOrgDeriveHmac
  try dsimp only
  repeat' (first
    | with_reducible assumption
    | with_reducible apply State.deriveItem_ok
    | with_reducible apply State.finish_ok
    | with_reducible apply State.park_ok
    | with_reducible apply State.slotDenied_ok
    | with_reducible apply State.slotUse_ok
    | with_reducible apply NextOk.next
    | with_reducible apply NextOk.atAddr
    | with_reducible apply parts_ok
    | simp only [mk_ok]
    | with_reducible apply iteS_ok
    | intro _
    | split
    | with_reducible apply_assumption
    | dsimp only)

theorem execTamperKeyRedraw_ok (s : State) (hs : s.Ok orig) :
    NextOk orig (execTamperKeyRedraw s) := by
  unfold execTamperKeyRedraw
  try dsimp only
  repeat' (first
    | with_reducible assumption
    | with_reducible apply State.drawKeys_ok
    | with_reducible apply State.loadJoinKey_ok
    | with_reducible apply State.needD13_ok
    | with_reducible apply State.updOrg_ok
    | with_reducible apply NextOk.next
    | with_reducible apply NextOk.atAddr
    | with_reducible apply parts_ok
    | simp only [mk_ok]
    | with_reducible apply iteS_ok
    | intro _
    | split
    | with_reducible apply_assumption
    | dsimp only)

theorem execCmpArm_ok (m : Master) (k : Nat) (i : Nat) (disarmToo : Bool) (s : State) (hs : s.Ok orig) :
    NextOk orig (execCmpArm m k i disarmToo s) := by
  unfold execCmpArm
  try dsimp only
  repeat' (first
    | with_reducible assumption
    | with_reducible apply State.cmpArm_ok
    | with_reducible apply State.guardW_ok
    | with_reducible apply NextOk.next
    | with_reducible apply NextOk.atAddr
    | with_reducible apply parts_ok
    | simp only [mk_ok]
    | with_reducible apply iteS_ok
    | intro _
    | split
    | with_reducible apply_assumption
    | dsimp only)

theorem execCmpDisarm_ok (m : Master) (k : Nat) (i : Nat) (s : State) (hs : s.Ok orig) :
    NextOk orig (execCmpDisarm m k i s) := by
  unfold execCmpDisarm
  try dsimp only
  repeat' (first
    | with_reducible assumption
    | with_reducible apply State.cmpDisarm_ok
    | with_reducible apply State.guardW_ok
    | with_reducible apply NextOk.next
    | with_reducible apply NextOk.atAddr
    | with_reducible apply parts_ok
    | simp only [mk_ok]
    | with_reducible apply iteS_ok
    | intro _
    | split
    | with_reducible apply_assumption
    | dsimp only)

theorem execCmpFire_ok (k : Nat) (i : Nat) (s : State) (hs : s.Ok orig) :
    NextOk orig (execCmpFire k i s) := by
  unfold execCmpFire
  try dsimp only
  repeat' (first
    | with_reducible assumption
    | with_reducible apply State.cmpHit_ok
    | with_reducible apply NextOk.next
    | with_reducible apply NextOk.atAddr
    | with_reducible apply foldl_ok
    | with_reducible apply parts_ok
    | simp only [mk_ok]
    | with_reducible apply iteS_ok
    | intro _
    | split
    | with_reducible apply_assumption
    | dsimp only)

theorem execCmpPulseEnd_ok (gpio : Nat) (s : State) (hs : s.Ok orig) :
    NextOk orig (execCmpPulseEnd gpio s) := by
  unfold execCmpPulseEnd
  try dsimp only
  repeat' (first
    | with_reducible assumption
    | with_reducible apply NextOk.next
    | with_reducible apply NextOk.atAddr
    | with_reducible apply parts_ok
    | simp only [mk_ok]
    | with_reducible apply iteS_ok
    | intro _
    | split
    | with_reducible apply_assumption
    | dsimp only)

theorem execConvGo_ok (m : Master) (s : State) (hs : s.Ok orig) :
    NextOk orig (execConvGo m s) := by
  unfold execConvGo
  try dsimp only
  repeat' (first
    | with_reducible assumption
    | with_reducible apply State.convert_ok
    | with_reducible apply State.guardW_ok
    | with_reducible apply NextOk.next
    | with_reducible apply NextOk.atAddr
    | with_reducible apply parts_ok
    | simp only [mk_ok]
    | with_reducible apply iteS_ok
    | intro _
    | split
    | with_reducible apply_assumption
    | dsimp only)

theorem execTbNsRead_ok (m : Master) (k : Nat) (s : State) (hs : s.Ok orig) :
    NextOk orig (execTbNsRead m k s) := by
  unfold execTbNsRead
  try dsimp only
  repeat' (first
    | with_reducible assumption
    | with_reducible apply State.domEvent_ok
    | with_reducible apply State.secViol_ok
    | with_reducible apply State.tbSample_ok
    | with_reducible apply NextOk.next
    | with_reducible apply NextOk.atAddr
    | with_reducible apply parts_ok
    | simp only [mk_ok]
    | with_reducible apply iteS_ok
    | intro _
    | split
    | with_reducible apply_assumption
    | dsimp only)

theorem execTb0Second_ok (freq : Int) (est : Nat) (func : Nat) (s : State) (hs : s.Ok orig) :
    NextOk orig (execTb0Second freq est func s) := by
  unfold execTb0Second
  try dsimp only
  repeat' (first
    | with_reducible assumption
    | with_reducible apply State.enterHoldover_ok
    | with_reducible apply State.joinTb1_ok
    | with_reducible apply State.measured0_ok
    | with_reducible apply State.ptpSilent_ok
    | with_reducible apply State.retimeAll_ok
    | with_reducible apply State.setF_ok
    | with_reducible apply State.setI_ok
    | with_reducible apply State.setSlotRun_ok
    | with_reducible apply State.updBv_ok
    | with_reducible apply State.updSdl_ok
    | with_reducible apply NextOk.next
    | with_reducible apply NextOk.atAddr
    | with_reducible apply foldl_ok
    | with_reducible apply parts_ok
    | simp only [mk_ok]
    | with_reducible apply iteS_ok
    | intro _
    | split
    | with_reducible apply_assumption
    | dsimp only)

theorem execHoldLimitExpiry_ok (s : State) (hs : s.Ok orig) :
    NextOk orig (execHoldLimitExpiry s) := by
  unfold execHoldLimitExpiry
  try dsimp only
  repeat' (first
    | with_reducible assumption
    | with_reducible apply State.untrusted_ok
    | with_reducible apply NextOk.next
    | with_reducible apply NextOk.atAddr
    | with_reducible apply parts_ok
    | simp only [mk_ok]
    | with_reducible apply iteS_ok
    | intro _
    | split
    | with_reducible apply_assumption
    | dsimp only)

theorem execTb0StepApply_ok (s : State) (hs : s.Ok orig) :
    NextOk orig (execTb0StepApply s) := by
  unfold execTb0StepApply
  try dsimp only
  repeat' (first
    | with_reducible assumption
    | with_reducible apply State.setF_ok
    | with_reducible apply State.stepTb0_ok
    | with_reducible apply State.updSdl_ok
    | with_reducible apply NextOk.next
    | with_reducible apply NextOk.atAddr
    | with_reducible apply parts_ok
    | simp only [mk_ok]
    | with_reducible apply iteS_ok
    | intro _
    | split
    | with_reducible apply_assumption
    | dsimp only)

theorem execRef10OkSet_ok (s : State) (hs : s.Ok orig) :
    NextOk orig (execRef10OkSet s) := by
  unfold execRef10OkSet
  try dsimp only
  repeat' (first
    | with_reducible assumption
    | with_reducible apply State.setF_ok
    | with_reducible apply NextOk.next
    | with_reducible apply NextOk.atAddr
    | with_reducible apply parts_ok
    | simp only [mk_ok]
    | with_reducible apply iteS_ok
    | intro _
    | split
    | with_reducible apply_assumption
    | dsimp only)

theorem execRef10Loss_ok (s : State) (hs : s.Ok orig) :
    NextOk orig (execRef10Loss s) := by
  unfold execRef10Loss
  try dsimp only
  repeat' (first
    | with_reducible assumption
    | with_reducible apply State.setF_ok
    | with_reducible apply NextOk.next
    | with_reducible apply NextOk.atAddr
    | with_reducible apply parts_ok
    | simp only [mk_ok]
    | with_reducible apply iteS_ok
    | intro _
    | split
    | with_reducible apply_assumption
    | dsimp only)

theorem execPpsInEdge_ok (phase : Nat) (s : State) (hs : s.Ok orig) :
    NextOk orig (execPpsInEdge phase s) := by
  unfold execPpsInEdge
  try dsimp only
  repeat' (first
    | with_reducible assumption
    | with_reducible apply State.capture_ok
    | with_reducible apply State.setF_ok
    | with_reducible apply State.updSdl_ok
    | with_reducible apply State.wakeBy_ok
    | with_reducible apply NextOk.next
    | with_reducible apply NextOk.atAddr
    | with_reducible apply parts_ok
    | simp only [mk_ok]
    | with_reducible apply iteS_ok
    | intro _
    | split
    | with_reducible apply_assumption
    | dsimp only)

theorem execPpsInLoss_ok (s : State) (hs : s.Ok orig) :
    NextOk orig (execPpsInLoss s) := by
  unfold execPpsInLoss
  try dsimp only
  repeat' (first
    | with_reducible assumption
    | with_reducible apply State.setF_ok
    | with_reducible apply State.updSdl_ok
    | with_reducible apply NextOk.next
    | with_reducible apply NextOk.atAddr
    | with_reducible apply parts_ok
    | simp only [mk_ok]
    | with_reducible apply iteS_ok
    | intro _
    | split
    | with_reducible apply_assumption
    | dsimp only)

theorem execSnapInEdge_ok (phase : Nat) (s : State) (hs : s.Ok orig) :
    NextOk orig (execSnapInEdge phase s) := by
  unfold execSnapInEdge
  try dsimp only
  repeat' (first
    | with_reducible assumption
    | with_reducible apply State.capture_ok
    | with_reducible apply State.snapCode_ok
    | with_reducible apply State.wakeBy_ok
    | with_reducible apply NextOk.next
    | with_reducible apply NextOk.atAddr
    | with_reducible apply parts_ok
    | simp only [mk_ok]
    | with_reducible apply iteS_ok
    | intro _
    | split
    | with_reducible apply_assumption
    | dsimp only)

theorem execGpioCaptureEdge_ok (pin : Nat) (phase : Nat) (s : State) (hs : s.Ok orig) :
    NextOk orig (execGpioCaptureEdge pin phase s) := by
  unfold execGpioCaptureEdge
  try dsimp only
  repeat' (first
    | with_reducible assumption
    | with_reducible apply State.capture_ok
    | with_reducible apply NextOk.next
    | with_reducible apply NextOk.atAddr
    | with_reducible apply parts_ok
    | simp only [mk_ok]
    | with_reducible apply iteS_ok
    | intro _
    | split
    | with_reducible apply_assumption
    | dsimp only)

theorem execPpsOutPulse_ok (s : State) (hs : s.Ok orig) :
    NextOk orig (execPpsOutPulse s) := by
  unfold execPpsOutPulse
  try dsimp only
  repeat' (first
    | with_reducible assumption
    | with_reducible apply NextOk.next
    | with_reducible apply NextOk.atAddr
    | with_reducible apply parts_ok
    | simp only [mk_ok]
    | with_reducible apply iteS_ok
    | intro _
    | split
    | with_reducible apply_assumption
    | dsimp only)

theorem execPpsOutFall_ok (s : State) (hs : s.Ok orig) :
    NextOk orig (execPpsOutFall s) := by
  unfold execPpsOutFall
  try dsimp only
  repeat' (first
    | with_reducible assumption
    | with_reducible apply NextOk.next
    | with_reducible apply NextOk.atAddr
    | with_reducible apply parts_ok
    | simp only [mk_ok]
    | with_reducible apply iteS_ok
    | intro _
    | split
    | with_reducible apply_assumption
    | dsimp only)

theorem execSdlArm_ok (wid : Nat) (s : State) (hs : s.Ok orig) :
    NextOk orig (execSdlArm wid s) := by
  unfold execSdlArm
  try dsimp only
  repeat' (first
    | with_reducible assumption
    | with_reducible apply State.cmpEval_ok
    | with_reducible apply State.finish_ok
    | with_reducible apply State.setF_ok
    | with_reducible apply State.wr_ok
    | with_reducible apply NextOk.next
    | with_reducible apply NextOk.atAddr
    | with_reducible apply parts_ok
    | simp only [mk_ok]
    | with_reducible apply iteS_ok
    | intro _
    | split
    | with_reducible apply_assumption
    | dsimp only)

theorem execSdlSteerRate_ok (wid : Nat) (s : State) (hs : s.Ok orig) :
    NextOk orig (execSdlSteerRate wid s) := by
  unfold execSdlSteerRate
  try dsimp only
  repeat' (first
    | with_reducible assumption
    | with_reducible apply State.finish_ok
    | with_reducible apply State.retimeAll_ok
    | with_reducible apply State.steerItem_ok
    | with_reducible apply State.updSdl_ok
    | with_reducible apply NextOk.next
    | with_reducible apply NextOk.atAddr
    | with_reducible apply parts_ok
    | simp only [mk_ok]
    | with_reducible apply iteS_ok
    | intro _
    | split
    | with_reducible apply_assumption
    | dsimp only)

theorem execSdlSteerSlew_ok (wid : Nat) (s : State) (hs : s.Ok orig) :
    NextOk orig (execSdlSteerSlew wid s) := by
  unfold execSdlSteerSlew
  try dsimp only
  repeat' (first
    | with_reducible assumption
    | with_reducible apply State.finish_ok
    | with_reducible apply State.retimeAll_ok
    | with_reducible apply State.steerItem_ok
    | with_reducible apply State.updSdl_ok
    | with_reducible apply NextOk.next
    | with_reducible apply NextOk.atAddr
    | with_reducible apply parts_ok
    | simp only [mk_ok]
    | with_reducible apply iteS_ok
    | intro _
    | split
    | with_reducible apply_assumption
    | dsimp only)

theorem execTbSlewDone_ok (s : State) (hs : s.Ok orig) :
    NextOk orig (execTbSlewDone s) := by
  unfold execTbSlewDone
  try dsimp only
  repeat' (first
    | with_reducible assumption
    | with_reducible apply State.retimeAll_ok
    | with_reducible apply State.updSdl_ok
    | with_reducible apply NextOk.next
    | with_reducible apply NextOk.atAddr
    | with_reducible apply parts_ok
    | simp only [mk_ok]
    | with_reducible apply iteS_ok
    | intro _
    | split
    | with_reducible apply_assumption
    | dsimp only)

theorem execSdlSteerStep_ok (wid : Nat) (s : State) (hs : s.Ok orig) :
    NextOk orig (execSdlSteerStep wid s) := by
  unfold execSdlSteerStep
  try dsimp only
  repeat' (first
    | with_reducible assumption
    | with_reducible apply State.cmpStep_ok
    | with_reducible apply State.finish_ok
    | with_reducible apply State.setF_ok
    | with_reducible apply State.steerItem_ok
    | with_reducible apply State.updSdl_ok
    | with_reducible apply NextOk.next
    | with_reducible apply NextOk.atAddr
    | with_reducible apply parts_ok
    | simp only [mk_ok]
    | with_reducible apply iteS_ok
    | intro _
    | split
    | with_reducible apply_assumption
    | dsimp only)

theorem execSdlSteerTod_ok (wid : Nat) (s : State) (hs : s.Ok orig) :
    NextOk orig (execSdlSteerTod wid s) := by
  unfold execSdlSteerTod
  try dsimp only
  repeat' (first
    | with_reducible assumption
    | with_reducible apply State.finish_ok
    | with_reducible apply State.steerItem_ok
    | with_reducible apply State.updSdl_ok
    | with_reducible apply NextOk.next
    | with_reducible apply NextOk.atAddr
    | with_reducible apply parts_ok
    | simp only [mk_ok]
    | with_reducible apply iteS_ok
    | intro _
    | split
    | with_reducible apply_assumption
    | dsimp only)

theorem execMbxGo_ok (m : Master) (c : Nat) (v : Word) (s : State) (hs : s.Ok orig) :
    NextOk orig (execMbxGo m c v s) := by
  unfold execMbxGo
  try dsimp only
  repeat' (first
    | with_reducible assumption
    | with_reducible apply State.guardW_ok
    | with_reducible apply State.mbxCtrlWrite_ok
    | with_reducible apply NextOk.next
    | with_reducible apply NextOk.atAddr
    | with_reducible apply parts_ok
    | simp only [mk_ok]
    | with_reducible apply iteS_ok
    | intro _
    | split
    | with_reducible apply_assumption
    | dsimp only)

theorem execMbxTake_ok (m : Master) (c : Nat) (v : Word) (s : State) (hs : s.Ok orig) :
    NextOk orig (execMbxTake m c v s) := by
  unfold execMbxTake
  try dsimp only
  repeat' (first
    | with_reducible assumption
    | with_reducible apply State.guardW_ok
    | with_reducible apply State.mbxCtrlWrite_ok
    | with_reducible apply NextOk.next
    | with_reducible apply NextOk.atAddr
    | with_reducible apply parts_ok
    | simp only [mk_ok]
    | with_reducible apply iteS_ok
    | intro _
    | split
    | with_reducible apply_assumption
    | dsimp only)

theorem execMbxDataWrite_ok (m : Master) (c : Nat) (k : Nat) (v : Word) (s : State) (hs : s.Ok orig) :
    NextOk orig (execMbxDataWrite m c k v s) := by
  unfold execMbxDataWrite
  try dsimp only
  repeat' (first
    | with_reducible assumption
    | with_reducible apply State.guardW_ok
    | with_reducible apply State.mbxDataWrite_ok
    | with_reducible apply NextOk.next
    | with_reducible apply NextOk.atAddr
    | with_reducible apply parts_ok
    | simp only [mk_ok]
    | with_reducible apply iteS_ok
    | intro _
    | split
    | with_reducible apply_assumption
    | dsimp only)

theorem execMbxHostReset_ok (m : Master) (key : Nat) (s : State) (hs : s.Ok orig) :
    NextOk orig (execMbxHostReset m key s) := by
  unfold execMbxHostReset
  try dsimp only
  repeat' (first
    | with_reducible assumption
    | with_reducible apply State.guardW_ok
    | with_reducible apply State.hostReset_ok
    | with_reducible apply NextOk.next
    | with_reducible apply NextOk.atAddr
    | with_reducible apply parts_ok
    | simp only [mk_ok]
    | with_reducible apply iteS_ok
    | intro _
    | split
    | with_reducible apply_assumption
    | dsimp only)

theorem execMbxRepost_ok (c : Nat) (s : State) (hs : s.Ok orig) :
    NextOk orig (execMbxRepost c s) := by
  unfold execMbxRepost
  try dsimp only
  repeat' (first
    | with_reducible assumption
    | with_reducible apply State.mbxWake_ok
    | with_reducible apply State.setF_ok
    | with_reducible apply State.updArb_ok
    | with_reducible apply NextOk.next
    | with_reducible apply NextOk.atAddr
    | with_reducible apply parts_ok
    | simp only [mk_ok]
    | with_reducible apply iteS_ok
    | intro _
    | split
    | with_reducible apply_assumption
    | dsimp only)

theorem claims_ok (n : Nat) : ∀ (l : List Master) (r : List DWord × State), r.2.Ok orig →
    (l.foldl (fun (r : List DWord × State) m =>
      let x := r.2.guardR m (R.MBX_CLAIMn n) (fun t => let y := t.claimRead m n; (y.1.setWidth 64, y.2))
      (r.1 ++ [x.1], x.2)) r).2.Ok orig
  | [], _, h => h
  | m :: l, r, h => claims_ok n l _ (State.guardR_ok r.2 m (R.MBX_CLAIMn n)
      (fun t => let y := t.claimRead m n; (y.1.setWidth 64, y.2)) h (fun t ht => State.claimRead_ok t m n ht))

theorem execClaimAcquire_ok (ms : List Master) (n : Nat) (s : State) (hs : s.Ok orig) :
    NextOk orig (execClaimAcquire ms n s) :=
  NextOk.next (iteS_ok (fun _ => hs) (fun _ => claims_ok n _ _ hs))

theorem execClaimRelease_ok (m : Master) (n : Nat) (s : State) (hs : s.Ok orig) :
    NextOk orig (execClaimRelease m n s) := by
  unfold execClaimRelease
  try dsimp only
  repeat' (first
    | with_reducible assumption
    | with_reducible apply State.claimWrite_ok
    | with_reducible apply State.guardW_ok
    | with_reducible apply NextOk.next
    | with_reducible apply NextOk.atAddr
    | with_reducible apply parts_ok
    | simp only [mk_ok]
    | with_reducible apply iteS_ok
    | intro _
    | split
    | with_reducible apply_assumption
    | dsimp only)

theorem execClaimRenew_ok (m : Master) (n : Nat) (s : State) (hs : s.Ok orig) :
    NextOk orig (execClaimRenew m n s) := by
  unfold execClaimRenew
  try dsimp only
  repeat' (first
    | with_reducible assumption
    | with_reducible apply State.claimWrite_ok
    | with_reducible apply State.guardW_ok
    | with_reducible apply NextOk.next
    | with_reducible apply NextOk.atAddr
    | with_reducible apply parts_ok
    | simp only [mk_ok]
    | with_reducible apply iteS_ok
    | intro _
    | split
    | with_reducible apply_assumption
    | dsimp only)

theorem execClaimBadWrite_ok (m : Master) (n : Nat) (v : Word) (s : State) (hs : s.Ok orig) :
    NextOk orig (execClaimBadWrite m n v s) := by
  unfold execClaimBadWrite
  try dsimp only
  repeat' (first
    | with_reducible assumption
    | with_reducible apply State.claimWrite_ok
    | with_reducible apply State.guardW_ok
    | with_reducible apply NextOk.next
    | with_reducible apply NextOk.atAddr
    | with_reducible apply parts_ok
    | simp only [mk_ok]
    | with_reducible apply iteS_ok
    | intro _
    | split
    | with_reducible apply_assumption
    | dsimp only)

theorem execClaimLeaseWrite_ok (m : Master) (n : Nat) (v : Word) (s : State) (hs : s.Ok orig) :
    NextOk orig (execClaimLeaseWrite m n v s) := by
  unfold execClaimLeaseWrite
  try dsimp only
  repeat' (first
    | with_reducible assumption
    | with_reducible apply State.guardW_ok
    | with_reducible apply State.leaseWrite_ok
    | with_reducible apply NextOk.next
    | with_reducible apply NextOk.atAddr
    | with_reducible apply parts_ok
    | simp only [mk_ok]
    | with_reducible apply iteS_ok
    | intro _
    | split
    | with_reducible apply_assumption
    | dsimp only)

theorem execClaimLeaseExpiry_ok (n : Nat) (s : State) (hs : s.Ok orig) :
    NextOk orig (execClaimLeaseExpiry n s) := by
  unfold execClaimLeaseExpiry
  try dsimp only
  repeat' (first
    | with_reducible assumption
    | with_reducible apply State.claimForce_ok
    | with_reducible apply State.claimIrq_ok
    | with_reducible apply State.setF_ok
    | with_reducible apply NextOk.next
    | with_reducible apply NextOk.atAddr
    | with_reducible apply parts_ok
    | simp only [mk_ok]
    | with_reducible apply iteS_ok
    | intro _
    | split
    | with_reducible apply_assumption
    | dsimp only)

theorem execClaimOwnerTrouble_ok (m : Master) (s : State) (hs : s.Ok orig) :
    NextOk orig (execClaimOwnerTrouble m s) := by
  unfold execClaimOwnerTrouble
  try dsimp only
  repeat' (first
    | with_reducible assumption
    | with_reducible apply State.claimTrouble_ok
    | with_reducible apply NextOk.next
    | with_reducible apply NextOk.atAddr
    | with_reducible apply parts_ok
    | simp only [mk_ok]
    | with_reducible apply iteS_ok
    | intro _
    | split
    | with_reducible apply_assumption
    | dsimp only)

theorem streamRead_fold (w : Nat) : ∀ (l : List Master) (r : List DWord × State), r.2.Ok orig →
    (l.foldl (fun (r : List DWord × State) m =>
      let x := (r.2.strmGrant w m).guardR m (strmPort w) (·.streamPop w)
      (r.1 ++ [x.1], x.2)) r).2.Ok orig
  | [], _, h => h
  | m :: l, r, h => streamRead_fold w l _ (State.guardR_ok _ m (strmPort w) _ (State.strmGrant_ok r.2 w m h)
      (fun t ht => State.streamPop_ok t w ht))

theorem execStreamRead_ok (ms : List Master) (w : Nat) (s : State) (hs : s.Ok orig) :
    NextOk orig (execStreamRead ms w s) :=
  NextOk.next (iteS_ok (fun _ => hs) (fun _ => streamRead_fold w _ ([], s) hs))

theorem execStreamWrite_ok (m : Master) (w : Nat) (v : DWord) (s : State) (hs : s.Ok orig) :
    NextOk orig (execStreamWrite m w v s) := by
  unfold execStreamWrite
  try dsimp only
  repeat' (first
    | with_reducible assumption
    | with_reducible apply State.guardW_ok
    | with_reducible apply State.streamWrite_ok
    | with_reducible apply NextOk.next
    | with_reducible apply NextOk.atAddr
    | with_reducible apply parts_ok
    | simp only [mk_ok]
    | with_reducible apply iteS_ok
    | intro _
    | split
    | with_reducible apply_assumption
    | dsimp only)

theorem execStreamFlush_ok (m : Master) (w : Nat) (s : State) (hs : s.Ok orig) :
    NextOk orig (execStreamFlush m w s) := by
  unfold execStreamFlush
  try dsimp only
  repeat' (first
    | with_reducible assumption
    | with_reducible apply State.guardW_ok
    | with_reducible apply State.strmCtrlWrite_ok
    | with_reducible apply NextOk.next
    | with_reducible apply NextOk.atAddr
    | with_reducible apply parts_ok
    | simp only [mk_ok]
    | with_reducible apply iteS_ok
    | intro _
    | split
    | with_reducible apply_assumption
    | dsimp only)

theorem execDomOnRequest_ok (m : Master) (d : Nat) (s : State) (hs : s.Ok orig) :
    NextOk orig (execDomOnRequest m d s) := by
  unfold execDomOnRequest
  try dsimp only
  repeat' (first
    | with_reducible assumption
    | with_reducible apply State.domOnReq_ok
    | with_reducible apply State.guardW_ok
    | with_reducible apply NextOk.next
    | with_reducible apply NextOk.atAddr
    | with_reducible apply parts_ok
    | simp only [mk_ok]
    | with_reducible apply iteS_ok
    | intro _
    | split
    | with_reducible apply_assumption
    | dsimp only)

theorem execDomOffRequest_ok (m : Master) (d : Nat) (s : State) (hs : s.Ok orig) :
    NextOk orig (execDomOffRequest m d s) := by
  unfold execDomOffRequest
  try dsimp only
  repeat' (first
    | with_reducible assumption
    | with_reducible apply State.domOffReq_ok
    | with_reducible apply State.guardW_ok
    | with_reducible apply NextOk.next
    | with_reducible apply NextOk.atAddr
    | with_reducible apply parts_ok
    | simp only [mk_ok]
    | with_reducible apply iteS_ok
    | intro _
    | split
    | with_reducible apply_assumption
    | dsimp only)

theorem execDomShutdownDone_ok (d : Nat) (s : State) (hs : s.Ok orig) :
    NextOk orig (execDomShutdownDone d s) := by
  unfold execDomShutdownDone
  try dsimp only
  repeat' (first
    | with_reducible assumption
    | with_reducible apply State.domResetOver_ok
    | with_reducible apply State.reachOff_ok
    | with_reducible apply State.setDom_ok
    | with_reducible apply State.shutdown_ok
    | with_reducible apply State.startPwrUp_ok
    | with_reducible apply NextOk.next
    | with_reducible apply NextOk.atAddr
    | with_reducible apply parts_ok
    | simp only [mk_ok]
    | with_reducible apply iteS_ok
    | intro _
    | split
    | with_reducible apply_assumption
    | dsimp only)

theorem execDomIdleTimeout_ok (d : Nat) (s : State) (hs : s.Ok orig) :
    NextOk orig (execDomIdleTimeout d s) := by
  unfold execDomIdleTimeout
  try dsimp only
  repeat' (first
    | with_reducible assumption
    | with_reducible apply State.raiseTask_ok
    | with_reducible apply State.shutdown_ok
    | with_reducible apply NextOk.next
    | with_reducible apply NextOk.atAddr
    | with_reducible apply parts_ok
    | simp only [mk_ok]
    | with_reducible apply iteS_ok
    | intro _
    | split
    | with_reducible apply_assumption
    | dsimp only)

theorem execDomFaultClear_ok (m : Master) (d : Nat) (s : State) (hs : s.Ok orig) :
    NextOk orig (execDomFaultClear m d s) := by
  unfold execDomFaultClear
  try dsimp only
  repeat' (first
    | with_reducible assumption
    | with_reducible apply State.domFaultClear_ok
    | with_reducible apply State.guardW_ok
    | with_reducible apply NextOk.next
    | with_reducible apply NextOk.atAddr
    | with_reducible apply parts_ok
    | simp only [mk_ok]
    | with_reducible apply iteS_ok
    | intro _
    | split
    | with_reducible apply_assumption
    | dsimp only)

theorem execResetPinAssert_ok (lowNs : Nat) (taken : Bool) (s : State) (hs : s.Ok orig) :
    NextOk orig (execResetPinAssert lowNs taken s) := by
  unfold execResetPinAssert
  try dsimp only
  repeat' (first
    | with_reducible assumption
    | with_reducible apply State.resetAll_ok
    | with_reducible apply State.updPower_ok
    | with_reducible apply NextOk.next
    | with_reducible apply NextOk.atAddr
    | with_reducible apply parts_ok
    | simp only [mk_ok]
    | with_reducible apply iteS_ok
    | intro _
    | split
    | with_reducible apply_assumption
    | dsimp only)

theorem execResetPinRelease_ok (s : State) (hs : s.Ok orig) :
    NextOk orig (execResetPinRelease s) := by
  unfold execResetPinRelease
  try dsimp only
  repeat' (first
    | with_reducible assumption
    | with_reducible apply State.holdEnd_ok
    | with_reducible apply State.updPower_ok
    | with_reducible apply NextOk.next
    | with_reducible apply NextOk.atAddr
    | with_reducible apply parts_ok
    | simp only [mk_ok]
    | with_reducible apply iteS_ok
    | intro _
    | split
    | with_reducible apply_assumption
    | dsimp only)

theorem execResetHoldEnd_ok (src : ResetSrc) (s : State) (hs : s.Ok orig) :
    NextOk orig (execResetHoldEnd src s) := by
  unfold execResetHoldEnd
  try dsimp only
  repeat' (first
    | with_reducible assumption
    | with_reducible apply State.holdEnd_ok
    | with_reducible apply State.tamper_ok
    | with_reducible apply NextOk.next
    | with_reducible apply NextOk.atAddr
    | with_reducible apply parts_ok
    | simp only [mk_ok]
    | with_reducible apply iteS_ok
    | intro _
    | split
    | with_reducible apply_assumption
    | dsimp only)

theorem execSwResetAll_ok (m : Master) (key : Nat) (s : State) (hs : s.Ok orig) :
    NextOk orig (execSwResetAll m key s) := by
  unfold execSwResetAll
  try dsimp only
  repeat' (first
    | with_reducible assumption
    | with_reducible apply State.guardW_ok
    | with_reducible apply State.rstReq_ok
    | with_reducible apply NextOk.next
    | with_reducible apply NextOk.atAddr
    | with_reducible apply parts_ok
    | simp only [mk_ok]
    | with_reducible apply iteS_ok
    | intro _
    | split
    | with_reducible apply_assumption
    | dsimp only)

theorem execSwResetDomains_ok (m : Master) (key : Nat) (doms : Nat) (s : State) (hs : s.Ok orig) :
    NextOk orig (execSwResetDomains m key doms s) := by
  unfold execSwResetDomains
  try dsimp only
  repeat' (first
    | with_reducible assumption
    | with_reducible apply State.guardW_ok
    | with_reducible apply State.rstReq_ok
    | with_reducible apply NextOk.next
    | with_reducible apply NextOk.atAddr
    | with_reducible apply parts_ok
    | simp only [mk_ok]
    | with_reducible apply iteS_ok
    | intro _
    | split
    | with_reducible apply_assumption
    | dsimp only)

theorem execPllLockLoss_ok (p : Pll) (s : State) (hs : s.Ok orig) :
    NextOk orig (execPllLockLoss p s) := by
  unfold execPllLockLoss
  try dsimp only
  repeat' (first
    | with_reducible assumption
    | with_reducible apply State.pllLose_ok
    | with_reducible apply NextOk.next
    | with_reducible apply NextOk.atAddr
    | with_reducible apply parts_ok
    | simp only [mk_ok]
    | with_reducible apply iteS_ok
    | intro _
    | split
    | with_reducible apply_assumption
    | dsimp only)

theorem execPllLossReset_ok (p : Pll) (s : State) (hs : s.Ok orig) :
    NextOk orig (execPllLossReset p s) := by
  unfold execPllLossReset
  try dsimp only
  repeat' (first
    | with_reducible assumption
    | with_reducible apply State.resetDoms_ok
    | with_reducible apply NextOk.next
    | with_reducible apply NextOk.atAddr
    | with_reducible apply parts_ok
    | simp only [mk_ok]
    | with_reducible apply iteS_ok
    | intro _
    | split
    | with_reducible apply_assumption
    | dsimp only)

theorem execTcxoFail_ok (s : State) (hs : s.Ok orig) :
    NextOk orig (execTcxoFail s) := by
  unfold execTcxoFail
  try dsimp only
  repeat' (first
    | with_reducible assumption
    | with_reducible apply State.enterHoldover_ok
    | with_reducible apply State.pllLose_ok
    | with_reducible apply State.raiseCause_ok
    | with_reducible apply State.setF_ok
    | with_reducible apply State.untrusted_ok
    | with_reducible apply NextOk.next
    | with_reducible apply NextOk.atAddr
    | with_reducible apply foldl_ok
    | with_reducible apply parts_ok
    | simp only [mk_ok]
    | with_reducible apply iteS_ok
    | intro _
    | split
    | with_reducible apply_assumption
    | dsimp only)

theorem execTcxoRestore_ok (s : State) (hs : s.Ok orig) :
    NextOk orig (execTcxoRestore s) := by
  unfold execTcxoRestore
  try dsimp only
  repeat' (first
    | with_reducible assumption
    | with_reducible apply State.setF_ok
    | with_reducible apply NextOk.next
    | with_reducible apply NextOk.atAddr
    | with_reducible apply parts_ok
    | simp only [mk_ok]
    | with_reducible apply iteS_ok
    | intro _
    | split
    | with_reducible apply_assumption
    | dsimp only)

theorem execXo32Fail_ok (s : State) (hs : s.Ok orig) :
    NextOk orig (execXo32Fail s) := by
  unfold execXo32Fail
  try dsimp only
  repeat' (first
    | with_reducible assumption
    | with_reducible apply State.setF_ok
    | with_reducible apply NextOk.next
    | with_reducible apply NextOk.atAddr
    | with_reducible apply parts_ok
    | simp only [mk_ok]
    | with_reducible apply iteS_ok
    | intro _
    | split
    | with_reducible apply_assumption
    | dsimp only)

theorem execPulseRoundtripDone_ok (id : Nat) (s : State) (hs : s.Ok orig) :
    NextOk orig (execPulseRoundtripDone id s) := by
  unfold execPulseRoundtripDone
  try dsimp only
  repeat' (first
    | with_reducible assumption
    | with_reducible apply State.updXing_ok
    | with_reducible apply State.xingPulse_ok
    | with_reducible apply NextOk.next
    | with_reducible apply NextOk.atAddr
    | with_reducible apply parts_ok
    | simp only [mk_ok]
    | with_reducible apply iteS_ok
    | intro _
    | split
    | with_reducible apply_assumption
    | dsimp only)

theorem execXingResync_ok (id : Nat) (dir : Nat) (s : State) (hs : s.Ok orig) :
    NextOk orig (execXingResync id dir s) := by
  unfold execXingResync
  try dsimp only
  repeat' (first
    | with_reducible assumption
    | with_reducible apply State.updXing_ok
    | with_reducible apply State.xingItems_ok
    | with_reducible apply NextOk.next
    | with_reducible apply NextOk.atAddr
    | with_reducible apply parts_ok
    | simp only [mk_ok]
    | with_reducible apply iteS_ok
    | intro _
    | split
    | with_reducible apply_assumption
    | dsimp only)

theorem execPwrReqWatch_ok (m : Master) (key : Nat) (s : State) (hs : s.Ok orig) :
    NextOk orig (execPwrReqWatch m key s) := by
  unfold execPwrReqWatch
  try dsimp only
  repeat' (first
    | with_reducible assumption
    | with_reducible apply State.guardW_ok
    | with_reducible apply State.pwrReq_ok
    | with_reducible apply NextOk.next
    | with_reducible apply NextOk.atAddr
    | with_reducible apply parts_ok
    | simp only [mk_ok]
    | with_reducible apply iteS_ok
    | intro _
    | split
    | with_reducible apply_assumption
    | dsimp only)

theorem execPwrReqDeep_ok (m : Master) (key : Nat) (s : State) (hs : s.Ok orig) :
    NextOk orig (execPwrReqDeep m key s) := by
  unfold execPwrReqDeep
  try dsimp only
  repeat' (first
    | with_reducible assumption
    | with_reducible apply State.guardW_ok
    | with_reducible apply State.pwrReq_ok
    | with_reducible apply NextOk.next
    | with_reducible apply NextOk.atAddr
    | with_reducible apply parts_ok
    | simp only [mk_ok]
    | with_reducible apply iteS_ok
    | intro _
    | split
    | with_reducible apply_assumption
    | dsimp only)

theorem execWakeFrcArm_ok (m : Master) (hi : Word) (s : State) (hs : s.Ok orig) :
    NextOk orig (execWakeFrcArm m hi s) := by
  unfold execWakeFrcArm
  try dsimp only
  repeat' (first
    | with_reducible assumption
    | with_reducible apply State.guardW_ok
    | with_reducible apply State.wakeArm_ok
    | with_reducible apply NextOk.next
    | with_reducible apply NextOk.atAddr
    | with_reducible apply parts_ok
    | simp only [mk_ok]
    | with_reducible apply iteS_ok
    | intro _
    | split
    | with_reducible apply_assumption
    | dsimp only)

theorem execFrcCmpMatch_ok (s : State) (hs : s.Ok orig) :
    NextOk orig (execFrcCmpMatch s) := by
  unfold execFrcCmpMatch
  try dsimp only
  repeat' (first
    | with_reducible assumption
    | with_reducible apply State.frcFire_ok
    | with_reducible apply NextOk.next
    | with_reducible apply NextOk.atAddr
    | with_reducible apply parts_ok
    | simp only [mk_ok]
    | with_reducible apply iteS_ok
    | intro _
    | split
    | with_reducible apply_assumption
    | dsimp only)

theorem execPowerStateEntry_ok (s : State) (hs : s.Ok orig) :
    NextOk orig (execPowerStateEntry s) := by
  unfold execPowerStateEntry
  try dsimp only
  repeat' (first
    | with_reducible assumption
    | with_reducible apply State.domLeave_ok
    | with_reducible apply State.entryBegin_ok
    | with_reducible apply State.entryDone_ok
    | with_reducible apply State.setF_ok
    | with_reducible apply NextOk.next
    | with_reducible apply NextOk.atAddr
    | with_reducible apply foldl_ok
    | with_reducible apply parts_ok
    | simp only [mk_ok]
    | with_reducible apply iteS_ok
    | intro _
    | split
    | with_reducible apply_assumption
    | dsimp only)

theorem execWakeEvent_ok (s : State) (hs : s.Ok orig) :
    NextOk orig (execWakeEvent s) := by
  unfold execWakeEvent
  try dsimp only
  repeat' (first
    | with_reducible assumption
    | with_reducible apply State.domWake_ok
    | with_reducible apply State.entryStop_ok
    | with_reducible apply State.setBit_ok
    | with_reducible apply State.setF_ok
    | with_reducible apply State.updPower_ok
    | with_reducible apply State.xingPulse_ok
    | with_reducible apply NextOk.next
    | with_reducible apply NextOk.atAddr
    | with_reducible apply foldl_ok
    | with_reducible apply parts_ok
    | simp only [mk_ok]
    | with_reducible apply iteS_ok
    | intro _
    | split
    | with_reducible apply_assumption
    | dsimp only)

theorem execMainsApply_ok (stays : Bool) (s : State) (hs : s.Ok orig) :
    NextOk orig (execMainsApply stays s) := by
  unfold execMainsApply
  try dsimp only
  repeat' (first
    | with_reducible assumption
    | with_reducible apply State.powerOff_ok
    | with_reducible apply NextOk.next
    | with_reducible apply NextOk.atAddr
    | with_reducible apply parts_ok
    | simp only [mk_ok]
    | with_reducible apply iteS_ok
    | intro _
    | split
    | with_reducible apply_assumption
    | dsimp only)

theorem execSupplyLossDeclare_ok (s : State) (hs : s.Ok orig) :
    NextOk orig (execSupplyLossDeclare s) := by
  unfold execSupplyLossDeclare
  try dsimp only
  repeat' (first
    | with_reducible assumption
    | with_reducible apply State.raiseCause_ok
    | with_reducible apply State.setF_ok
    | with_reducible apply State.shedDom_ok
    | with_reducible apply State.updPower_ok
    | with_reducible apply State.vbTrigger_ok
    | with_reducible apply NextOk.next
    | with_reducible apply NextOk.atAddr
    | with_reducible apply foldl_ok
    | with_reducible apply parts_ok
    | simp only [mk_ok]
    | with_reducible apply iteS_ok
    | intro _
    | split
    | with_reducible apply_assumption
    | dsimp only)

theorem execDeferredShed_ok (s : State) (hs : s.Ok orig) :
    NextOk orig (execDeferredShed s) := by
  unfold execDeferredShed
  try dsimp only
  repeat' (first
    | with_reducible assumption
    | with_reducible apply State.shedDom_ok
    | with_reducible apply State.updPower_ok
    | with_reducible apply NextOk.next
    | with_reducible apply NextOk.atAddr
    | with_reducible apply foldl_ok
    | with_reducible apply parts_ok
    | simp only [mk_ok]
    | with_reducible apply iteS_ok
    | intro _
    | split
    | with_reducible apply_assumption
    | dsimp only)

theorem execSupplyReturn_ok (s : State) (hs : s.Ok orig) :
    NextOk orig (execSupplyReturn s) := by
  unfold execSupplyReturn
  try dsimp only
  repeat' (first
    | with_reducible assumption
    | with_reducible apply State.setF_ok
    | with_reducible apply State.startPwrUp_ok
    | with_reducible apply State.updPower_ok
    | with_reducible apply NextOk.next
    | with_reducible apply NextOk.atAddr
    | with_reducible apply foldl_ok
    | with_reducible apply parts_ok
    | simp only [mk_ok]
    | with_reducible apply iteS_ok
    | intro _
    | split
    | with_reducible apply_assumption
    | dsimp only)

theorem execHoldupExpiry_ok (s : State) (hs : s.Ok orig) :
    NextOk orig (execHoldupExpiry s) := by
  unfold execHoldupExpiry
  try dsimp only
  repeat' (first
    | with_reducible assumption
    | with_reducible apply State.powerOff_ok
    | with_reducible apply NextOk.next
    | with_reducible apply NextOk.atAddr
    | with_reducible apply parts_ok
    | simp only [mk_ok]
    | with_reducible apply iteS_ok
    | intro _
    | split
    | with_reducible apply_assumption
    | dsimp only)

theorem execCoreRailFault_ok (d : Nat) (s : State) (hs : s.Ok orig) :
    NextOk orig (execCoreRailFault d s) := by
  unfold execCoreRailFault
  try dsimp only
  repeat' (first
    | with_reducible assumption
    | with_reducible apply State.powerOff_ok
    | with_reducible apply NextOk.next
    | with_reducible apply NextOk.atAddr
    | with_reducible apply parts_ok
    | simp only [mk_ok]
    | with_reducible apply iteS_ok
    | intro _
    | split
    | with_reducible apply_assumption
    | dsimp only)

theorem execSwapGo_ok (m : Master) (len : Nat) (second : Bool) (s : State) (hs : s.Ok orig) :
    NextOk orig (execSwapGo m len second s) := by
  unfold execSwapGo
  try dsimp only
  repeat' (first
    | with_reducible assumption
    | with_reducible apply State.guardW_ok
    | with_reducible apply State.swapGo_ok
    | with_reducible apply NextOk.next
    | with_reducible apply NextOk.atAddr
    | with_reducible apply parts_ok
    | simp only [mk_ok]
    | with_reducible apply iteS_ok
    | intro _
    | split
    | with_reducible apply_assumption
    | dsimp only)

theorem execSwapVerifyDone_ok (s : State) (hs : s.Ok orig) :
    NextOk orig (execSwapVerifyDone s) := by
  unfold execSwapVerifyDone
  try dsimp only
  repeat' (first
    | with_reducible assumption
    | with_reducible apply State.swapCheck_ok
    | with_reducible apply NextOk.next
    | with_reducible apply NextOk.atAddr
    | with_reducible apply parts_ok
    | simp only [mk_ok]
    | with_reducible apply iteS_ok
    | intro _
    | split
    | with_reducible apply_assumption
    | dsimp only)

theorem execUpdBegin_ok (r : UpdRoute) (s : State) (hs : s.Ok orig) :
    NextOk orig (execUpdBegin r s) := by
  unfold execUpdBegin
  try dsimp only
  repeat' (first
    | with_reducible assumption
    | with_reducible apply State.ctrl_ok
    | with_reducible apply State.updBegin_ok
    | with_reducible apply State.updHost_ok
    | with_reducible apply State.updLink_ok
    | with_reducible apply NextOk.next
    | with_reducible apply NextOk.atAddr
    | with_reducible apply parts_ok
    | simp only [mk_ok]
    | with_reducible apply iteS_ok
    | intro _
    | split
    | with_reducible apply_assumption
    | dsimp only)

theorem execUpdData_ok (r : UpdRoute) (s : State) (hs : s.Ok orig) :
    NextOk orig (execUpdData r s) := by
  unfold execUpdData
  try dsimp only
  repeat' (first
    | with_reducible assumption
    | with_reducible apply State.ctrl_ok
    | with_reducible apply State.updData_ok
    | with_reducible apply State.updHost_ok
    | with_reducible apply State.updLink_ok
    | with_reducible apply NextOk.next
    | with_reducible apply NextOk.atAddr
    | with_reducible apply parts_ok
    | simp only [mk_ok]
    | with_reducible apply iteS_ok
    | intro _
    | split
    | with_reducible apply_assumption
    | dsimp only)

theorem execUpdEnd_ok (r : UpdRoute) (s : State) (hs : s.Ok orig) :
    NextOk orig (execUpdEnd r s) := by
  unfold execUpdEnd
  try dsimp only
  repeat' (first
    | with_reducible assumption
    | with_reducible apply State.ctrl_ok
    | with_reducible apply State.raiseTask_ok
    | with_reducible apply State.svcPacket_ok
    | with_reducible apply State.svcReply_ok
    | with_reducible apply State.updEndReply_ok
    | with_reducible apply State.updFinish_ok
    | with_reducible apply State.updHostTake_ok
    | with_reducible apply NextOk.next
    | with_reducible apply NextOk.atAddr
    | with_reducible apply parts_ok
    | simp only [mk_ok]
    | with_reducible apply iteS_ok
    | intro _
    | split
    | with_reducible apply_assumption
    | dsimp only)

theorem execUpdActivate_ok (r : UpdRoute) (s : State) (hs : s.Ok orig) :
    NextOk orig (execUpdActivate r s) := by
  unfold execUpdActivate
  try dsimp only
  repeat' (first
    | with_reducible assumption
    | with_reducible apply State.ctrl_ok
    | with_reducible apply State.updActivate_ok
    | with_reducible apply State.updHost_ok
    | with_reducible apply State.updLink_ok
    | with_reducible apply noPayload_ok
    | with_reducible apply NextOk.next
    | with_reducible apply NextOk.atAddr
    | with_reducible apply parts_ok
    | simp only [mk_ok]
    | with_reducible apply iteS_ok
    | intro _
    | split
    | with_reducible apply_assumption
    | dsimp only)

theorem execUpdAbort_ok (r : UpdRoute) (s : State) (hs : s.Ok orig) :
    NextOk orig (execUpdAbort r s) := by
  unfold execUpdAbort
  try dsimp only
  repeat' (first
    | with_reducible assumption
    | with_reducible apply State.ctrl_ok
    | with_reducible apply State.guardW_ok
    | with_reducible apply State.updAbort_ok
    | with_reducible apply State.updCtrlWrite_ok
    | with_reducible apply State.updHost_ok
    | with_reducible apply State.updLink_ok
    | with_reducible apply noPayload_ok
    | with_reducible apply NextOk.next
    | with_reducible apply NextOk.atAddr
    | with_reducible apply parts_ok
    | simp only [mk_ok]
    | with_reducible apply iteS_ok
    | intro _
    | split
    | with_reducible apply_assumption
    | dsimp only)

theorem execUpdConfirm_ok (r : UpdRoute) (s : State) (hs : s.Ok orig) :
    NextOk orig (execUpdConfirm r s) := by
  unfold execUpdConfirm
  try dsimp only
  repeat' (first
    | with_reducible assumption
    | with_reducible apply State.ctrl_ok
    | with_reducible apply State.guardW_ok
    | with_reducible apply State.updConfirm_ok
    | with_reducible apply State.updCtrlWrite_ok
    | with_reducible apply State.updHost_ok
    | with_reducible apply State.updLink_ok
    | with_reducible apply noPayload_ok
    | with_reducible apply NextOk.next
    | with_reducible apply NextOk.atAddr
    | with_reducible apply parts_ok
    | simp only [mk_ok]
    | with_reducible apply iteS_ok
    | intro _
    | split
    | with_reducible apply_assumption
    | dsimp only)

theorem execUpdLockTimeout_ok (s : State) (hs : s.Ok orig) :
    NextOk orig (execUpdLockTimeout s) := by
  unfold execUpdLockTimeout
  try dsimp only
  repeat' (first
    | with_reducible assumption
    | with_reducible apply State.updEnd_ok
    | with_reducible apply NextOk.next
    | with_reducible apply NextOk.atAddr
    | with_reducible apply parts_ok
    | simp only [mk_ok]
    | with_reducible apply iteS_ok
    | intro _
    | split
    | with_reducible apply_assumption
    | dsimp only)

theorem execSvnFuseBurn_ok (s : State) (hs : s.Ok orig) :
    NextOk orig (execSvnFuseBurn s) := by
  unfold execSvnFuseBurn
  try dsimp only
  repeat' (first
    | with_reducible assumption
    | with_reducible apply State.svnBurn_ok
    | with_reducible apply NextOk.next
    | with_reducible apply NextOk.atAddr
    | with_reducible apply parts_ok
    | simp only [mk_ok]
    | with_reducible apply iteS_ok
    | intro _
    | split
    | with_reducible apply_assumption
    | dsimp only)

theorem execWorkItemSubmit_ok (g : Grp) (s : State) (hs : s.Ok orig) :
    NextOk orig (execWorkItemSubmit g s) := by
  unfold execWorkItemSubmit
  try dsimp only
  repeat' (first
    | with_reducible assumption
    | with_reducible apply State.wiHead_ok
    | with_reducible apply NextOk.next
    | with_reducible apply NextOk.atAddr
    | with_reducible apply parts_ok
    | simp only [mk_ok]
    | with_reducible apply iteS_ok
    | intro _
    | split
    | with_reducible apply_assumption
    | dsimp only)

theorem execCancel_ok (g : Grp) (s : State) (hs : s.Ok orig) :
    NextOk orig (execCancel g s) := by
  unfold execCancel
  try dsimp only
  repeat' (first
    | with_reducible assumption
    | with_reducible apply State.wiHead_ok
    | with_reducible apply NextOk.next
    | with_reducible apply NextOk.atAddr
    | with_reducible apply parts_ok
    | simp only [mk_ok]
    | with_reducible apply iteS_ok
    | intro _
    | split
    | with_reducible apply_assumption
    | dsimp only)

theorem execDispatch_ok (lat : Nat) (s : State) (hs : s.Ok orig) :
    NextOk orig (execDispatch lat s) := by
  unfold execDispatch
  try dsimp only
  repeat' (first
    | with_reducible assumption
    | with_reducible apply State.startOn_ok
    | with_reducible apply NextOk.next
    | with_reducible apply NextOk.atAddr
    | with_reducible apply parts_ok
    | simp only [mk_ok]
    | with_reducible apply iteS_ok
    | intro _
    | split
    | with_reducible apply_assumption
    | dsimp only)

theorem execWorkItemComplete_ok (r : RunEnd) (s : State) (hs : s.Ok orig) :
    NextOk orig (execWorkItemComplete r s) := by
  unfold execWorkItemComplete
  try dsimp only
  repeat' (first
    | with_reducible assumption
    | with_reducible apply State.complete_ok
    | with_reducible apply State.takeRx_ok
    | with_reducible apply State.updArb_ok
    | with_reducible apply State.updTask_ok
    | with_reducible apply NextOk.next
    | with_reducible apply NextOk.atAddr
    | with_reducible apply parts_ok
    | simp only [mk_ok]
    | with_reducible apply iteS_ok
    | intro _
    | split
    | with_reducible apply_assumption
    | dsimp only)

theorem execWiDonePush_ok (g : Grp) (s : State) (hs : s.Ok orig) :
    NextOk orig (execWiDonePush g s) := by
  unfold execWiDonePush
  try dsimp only
  repeat' (first
    | with_reducible assumption
    | with_reducible apply State.pushPkt_ok
    | with_reducible apply State.setWaits_ok
    | with_reducible apply State.updArb_ok
    | with_reducible apply NextOk.next
    | with_reducible apply NextOk.atAddr
    | with_reducible apply parts_ok
    | simp only [mk_ok]
    | with_reducible apply iteS_ok
    | intro _
    | split
    | with_reducible apply_assumption
    | dsimp only)

theorem execCoreOverrun_ok (k : Nat) (s : State) (hs : s.Ok orig) :
    NextOk orig (execCoreOverrun k s) := by
  unfold execCoreOverrun
  try dsimp only
  repeat' (first
    | with_reducible assumption
    | with_reducible apply State.coreFault_ok
    | with_reducible apply NextOk.next
    | with_reducible apply NextOk.atAddr
    | with_reducible apply parts_ok
    | simp only [mk_ok]
    | with_reducible apply iteS_ok
    | intro _
    | split
    | with_reducible apply_assumption
    | dsimp only)

theorem execCoreAccessFault_ok (k : Nat) (s : State) (hs : s.Ok orig) :
    NextOk orig (execCoreAccessFault k s) := by
  unfold execCoreAccessFault
  try dsimp only
  repeat' (first
    | with_reducible assumption
    | with_reducible apply State.coreFault_ok
    | with_reducible apply NextOk.next
    | with_reducible apply NextOk.atAddr
    | with_reducible apply parts_ok
    | simp only [mk_ok]
    | with_reducible apply iteS_ok
    | intro _
    | split
    | with_reducible apply_assumption
    | dsimp only)

theorem execWdtDispatchTimeout_ok (s : State) (hs : s.Ok orig) :
    NextOk orig (execWdtDispatchTimeout s) := by
  unfold execWdtDispatchTimeout
  try dsimp only
  repeat' (first
    | with_reducible assumption
    | with_reducible apply State.resetAll_ok
    | with_reducible apply NextOk.next
    | with_reducible apply NextOk.atAddr
    | with_reducible apply parts_ok
    | simp only [mk_ok]
    | with_reducible apply iteS_ok
    | intro _
    | split
    | with_reducible apply_assumption
    | dsimp only)

theorem execEvtSet_ok (m : Master) (task : Nat) (flag : Nat) (s : State) (hs : s.Ok orig) :
    NextOk orig (execEvtSet m task flag s) := by
  unfold execEvtSet
  try dsimp only
  repeat' (first
    | with_reducible assumption
    | with_reducible apply State.evtSet_ok
    | with_reducible apply State.guardW_ok
    | with_reducible apply NextOk.next
    | with_reducible apply NextOk.atAddr
    | with_reducible apply parts_ok
    | simp only [mk_ok]
    | with_reducible apply iteS_ok
    | intro _
    | split
    | with_reducible apply_assumption
    | dsimp only)

theorem execEvtClr_ok (m : Master) (task : Nat) (flag : Nat) (setToo : Bool) (s : State) (hs : s.Ok orig) :
    NextOk orig (execEvtClr m task flag setToo s) := by
  unfold execEvtClr
  try dsimp only
  repeat' (first
    | with_reducible assumption
    | with_reducible apply State.evtClr_ok
    | with_reducible apply State.evtSet_ok
    | with_reducible apply State.guardW_ok
    | with_reducible apply NextOk.next
    | with_reducible apply NextOk.atAddr
    | with_reducible apply parts_ok
    | simp only [mk_ok]
    | with_reducible apply iteS_ok
    | intro _
    | split
    | with_reducible apply_assumption
    | dsimp only)

theorem execTaskMaskWrite_ok (m : Master) (mask : Word) (s : State) (hs : s.Ok orig) :
    NextOk orig (execTaskMaskWrite m mask s) := by
  unfold execTaskMaskWrite
  try dsimp only
  repeat' (first
    | with_reducible assumption
    | with_reducible apply State.guardW_ok
    | with_reducible apply State.maskWrite_ok
    | with_reducible apply NextOk.next
    | with_reducible apply NextOk.atAddr
    | with_reducible apply parts_ok
    | simp only [mk_ok]
    | with_reducible apply iteS_ok
    | intro _
    | split
    | with_reducible apply_assumption
    | dsimp only)

theorem execNop_ok (wid : Nat) (s : State) (hs : s.Ok orig) :
    NextOk orig (execNop wid s) := by
  unfold execNop
  try dsimp only
  repeat' (first
    | with_reducible assumption
    | with_reducible apply State.finish_ok
    | with_reducible apply NextOk.next
    | with_reducible apply NextOk.atAddr
    | with_reducible apply parts_ok
    | simp only [mk_ok]
    | with_reducible apply iteS_ok
    | intro _
    | split
    | with_reducible apply_assumption
    | dsimp only)

theorem execSignal_ok (wid : Nat) (s : State) (hs : s.Ok orig) :
    NextOk orig (execSignal wid s) := by
  unfold execSignal
  try dsimp only
  repeat' (first
    | with_reducible assumption
    | with_reducible apply State.finish_ok
    | with_reducible apply State.raiseMask_ok
    | with_reducible apply State.setF_ok
    | with_reducible apply NextOk.next
    | with_reducible apply NextOk.atAddr
    | with_reducible apply parts_ok
    | simp only [mk_ok]
    | with_reducible apply iteS_ok
    | intro _
    | split
    | with_reducible apply_assumption
    | dsimp only)

theorem execQueuePushResume_ok (wid : Nat) (s : State) (hs : s.Ok orig) :
    NextOk orig (execQueuePushResume wid s) := by
  unfold execQueuePushResume
  try dsimp only
  repeat' (first
    | with_reducible assumption
    | with_reducible apply State.bsSend_ok
    | with_reducible apply State.expel_ok
    | with_reducible apply State.pglPlan_ok
    | with_reducible apply State.raiseTask_ok
    | with_reducible apply State.resumeAssign_ok
    | with_reducible apply State.updArb_ok
    | with_reducible apply State.vbReadStep_ok
    | with_reducible apply NextOk.next
    | with_reducible apply NextOk.atAddr
    | with_reducible apply parts_ok
    | simp only [mk_ok]
    | with_reducible apply iteS_ok
    | intro _
    | split
    | with_reducible apply_assumption
    | dsimp only)

theorem execRegisterWrite_ok (m : Master) (addr : Nat) (v : Word) (hw : Word) (s : State) (hs : s.Ok orig) :
    NextOk orig (execRegisterWrite m addr v hw s) := by
  unfold execRegisterWrite
  try dsimp only
  repeat' (first
    | with_reducible assumption
    | with_reducible apply State.hostWrite_ok
    | with_reducible apply NextOk.next
    | with_reducible apply NextOk.atAddr
    | with_reducible apply parts_ok
    | simp only [mk_ok]
    | with_reducible apply iteS_ok
    | intro _
    | split
    | with_reducible apply_assumption
    | dsimp only)

theorem execRcFieldRead_ok (m : Master) (addr : Nat) (ev : Word) (s : State) (hs : s.Ok orig) :
    NextOk orig (execRcFieldRead m addr ev s) := by
  unfold execRcFieldRead
  try dsimp only
  repeat' (first
    | with_reducible assumption
    | with_reducible apply State.hostRead_ok
    | with_reducible apply State.onBus_ok
    | with_reducible apply NextOk.next
    | with_reducible apply NextOk.atAddr
    | with_reducible apply parts_ok
    | simp only [mk_ok]
    | with_reducible apply iteS_ok
    | intro _
    | split
    | with_reducible apply_assumption
    | dsimp only)

theorem execAbsentUnitAccess_ok (m : Master) (addr : Nat) (w : Option Word) (s : State) (hs : s.Ok orig) :
    NextOk orig (execAbsentUnitAccess m addr w s) := by
  unfold execAbsentUnitAccess
  try dsimp only
  repeat' (first
    | with_reducible assumption
    | with_reducible apply State.hostRead_ok
    | with_reducible apply State.hostWrite_ok
    | with_reducible apply State.onBus_ok
    | with_reducible apply NextOk.next
    | with_reducible apply NextOk.atAddr
    | with_reducible apply parts_ok
    | simp only [mk_ok]
    | with_reducible apply iteS_ok
    | intro _
    | split
    | with_reducible apply_assumption
    | dsimp only)

theorem execFrcLoRead_ok (m : Master) (s : State) (hs : s.Ok orig) :
    NextOk orig (execFrcLoRead m s) := by
  unfold execFrcLoRead
  try dsimp only
  repeat' (first
    | with_reducible assumption
    | with_reducible apply State.hostRead_ok
    | with_reducible apply State.onBus_ok
    | with_reducible apply NextOk.next
    | with_reducible apply NextOk.atAddr
    | with_reducible apply parts_ok
    | simp only [mk_ok]
    | with_reducible apply iteS_ok
    | intro _
    | split
    | with_reducible apply_assumption
    | dsimp only)

theorem execGzbEdgeFrcLoRead_ok (m : Master) (s : State) (hs : s.Ok orig) :
    NextOk orig (execGzbEdgeFrcLoRead m s) := by
  unfold execGzbEdgeFrcLoRead
  try dsimp only
  repeat' (first
    | with_reducible assumption
    | with_reducible apply State.hostRead_ok
    | with_reducible apply State.onBus_ok
    | with_reducible apply NextOk.next
    | with_reducible apply NextOk.atAddr
    | with_reducible apply parts_ok
    | simp only [mk_ok]
    | with_reducible apply iteS_ok
    | intro _
    | split
    | with_reducible apply_assumption
    | dsimp only)

theorem execOrgTamperFrcLoRead_ok (m : Master) (s : State) (hs : s.Ok orig) :
    NextOk orig (execOrgTamperFrcLoRead m s) := by
  unfold execOrgTamperFrcLoRead
  try dsimp only
  repeat' (first
    | with_reducible assumption
    | with_reducible apply State.hostRead_ok
    | with_reducible apply State.onBus_ok
    | with_reducible apply NextOk.next
    | with_reducible apply NextOk.atAddr
    | with_reducible apply parts_ok
    | simp only [mk_ok]
    | with_reducible apply iteS_ok
    | intro _
    | split
    | with_reducible apply_assumption
    | dsimp only)

theorem execVbSnapFrcLoRead_ok (m : Master) (k : Nat) (s : State) (hs : s.Ok orig) :
    NextOk orig (execVbSnapFrcLoRead m k s) := by
  unfold execVbSnapFrcLoRead
  try dsimp only
  repeat' (first
    | with_reducible assumption
    | with_reducible apply State.hostRead_ok
    | with_reducible apply State.onBus_ok
    | with_reducible apply NextOk.next
    | with_reducible apply NextOk.atAddr
    | with_reducible apply parts_ok
    | simp only [mk_ok]
    | with_reducible apply iteS_ok
    | intro _
    | split
    | with_reducible apply_assumption
    | dsimp only)

theorem execHspiSelectFall_ok (sel : Sel) (s : State) (hs : s.Ok orig) :
    NextOk orig (execHspiSelectFall sel s) := by
  unfold execHspiSelectFall
  try dsimp only
  repeat' (first
    | with_reducible assumption
    | with_reducible apply State.updHspi_ok
    | with_reducible apply State.wakeBy_ok
    | with_reducible apply NextOk.next
    | with_reducible apply NextOk.atAddr
    | with_reducible apply parts_ok
    | simp only [mk_ok]
    | with_reducible apply iteS_ok
    | intro _
    | split
    | with_reducible apply_assumption
    | dsimp only)

theorem execHspiSelectRise_ok (sel : Sel) (midByte : Bool) (s : State) (hs : s.Ok orig) :
    NextOk orig (execHspiSelectRise sel midByte s) := by
  unfold execHspiSelectRise
  try dsimp only
  repeat' (first
    | with_reducible assumption
    | with_reducible apply State.spiRead_ok
    | with_reducible apply State.updHspi_ok
    | with_reducible apply NextOk.next
    | with_reducible apply NextOk.atAddr
    | with_reducible apply parts_ok
    | simp only [mk_ok]
    | with_reducible apply iteS_ok
    | intro _
    | split
    | with_reducible apply_assumption
    | dsimp only)

theorem execHspiStatus_ok (s : State) (hs : s.Ok orig) :
    NextOk orig (execHspiStatus s) := by
  unfold execHspiStatus
  try dsimp only
  repeat' (first
    | with_reducible assumption
    | with_reducible apply State.hspiDo_ok
    | with_reducible apply NextOk.next
    | with_reducible apply NextOk.atAddr
    | with_reducible apply parts_ok
    | simp only [mk_ok]
    | with_reducible apply iteS_ok
    | intro _
    | split
    | with_reducible apply_assumption
    | dsimp only)

theorem execHspiClear_ok (mask : Word) (s : State) (hs : s.Ok orig) :
    NextOk orig (execHspiClear mask s) := by
  unfold execHspiClear
  try dsimp only
  repeat' (first
    | with_reducible assumption
    | with_reducible apply State.hspiDo_ok
    | with_reducible apply State.secViol_ok
    | with_reducible apply State.updHspi_ok
    | with_reducible apply NextOk.next
    | with_reducible apply NextOk.atAddr
    | with_reducible apply parts_ok
    | simp only [mk_ok]
    | with_reducible apply iteS_ok
    | intro _
    | split
    | with_reducible apply_assumption
    | dsimp only)

theorem execHspiUnknownCmd_ok (code : Byte) (s : State) (hs : s.Ok orig) :
    NextOk orig (execHspiUnknownCmd code s) := by
  unfold execHspiUnknownCmd
  try dsimp only
  repeat' (first
    | with_reducible assumption
    | with_reducible apply State.hspiDo_ok
    | with_reducible apply State.updHspi_ok
    | with_reducible apply NextOk.next
    | with_reducible apply NextOk.atAddr
    | with_reducible apply parts_ok
    | simp only [mk_ok]
    | with_reducible apply iteS_ok
    | intro _
    | split
    | with_reducible apply_assumption
    | dsimp only)

theorem execHspiRead_ok (addr : Nat) (nbytes : Nat) (s : State) (hs : s.Ok orig) :
    NextOk orig (execHspiRead addr nbytes s) := by
  unfold execHspiRead
  try dsimp only
  repeat' (first
    | with_reducible assumption
    | with_reducible apply State.hspiDo_ok
    | with_reducible apply State.spiRead_ok
    | with_reducible apply NextOk.next
    | with_reducible apply NextOk.atAddr
    | with_reducible apply parts_ok
    | simp only [mk_ok]
    | with_reducible apply iteS_ok
    | intro _
    | split
    | with_reducible apply_assumption
    | dsimp only)

theorem execHspiWrite_ok (addr : Nat) (data : Bytes) (s : State) (hs : s.Ok orig) :
    NextOk orig (execHspiWrite addr data s) := by
  unfold execHspiWrite
  try dsimp only
  repeat' (first
    | with_reducible assumption
    | with_reducible apply State.hspiDo_ok
    | with_reducible apply State.postWord_ok
    | with_reducible apply State.spiPoke_ok
    | with_reducible apply State.updHspi_ok
    | with_reducible apply NextOk.next
    | with_reducible apply NextOk.atAddr
    | with_reducible apply foldl_ok
    | with_reducible apply parts_ok
    | simp only [mk_ok]
    | with_reducible apply iteS_ok
    | intro _
    | split
    | with_reducible apply_assumption
    | dsimp only)

theorem execHspiWriteComplete_ok (s : State) (hs : s.Ok orig) :
    NextOk orig (execHspiWriteComplete s) := by
  unfold execHspiWriteComplete
  try dsimp only
  repeat' (first
    | with_reducible assumption
    | with_reducible apply State.hostWrite_ok
    | with_reducible apply State.spiPoke_ok
    | with_reducible apply State.updHspi_ok
    | with_reducible apply State.writeDone_ok
    | with_reducible apply NextOk.next
    | with_reducible apply NextOk.atAddr
    | with_reducible apply parts_ok
    | simp only [mk_ok]
    | with_reducible apply iteS_ok
    | intro _
    | split
    | with_reducible apply_assumption
    | dsimp only)

theorem execEthHostRead_ok (port : Nat) (src : BitVec 48) (seq : Nat) (addr : Nat) (count : Nat) (s : State) (hs : s.Ok orig) :
    NextOk orig (execEthHostRead port src seq addr count s) := by
  unfold execEthHostRead
  try dsimp only
  repeat' (first
    | with_reducible assumption
    | with_reducible apply State.ethIn_ok
    | with_reducible apply NextOk.next
    | with_reducible apply NextOk.atAddr
    | with_reducible apply parts_ok
    | simp only [mk_ok]
    | with_reducible apply iteS_ok
    | intro _
    | split
    | with_reducible apply_assumption
    | dsimp only)

theorem execEthHostWrite_ok (port : Nat) (src : BitVec 48) (seq : Nat) (addr : Nat) (count : Nat) (data : List Word) (s : State) (hs : s.Ok orig) :
    NextOk orig (execEthHostWrite port src seq addr count data s) := by
  unfold execEthHostWrite
  try dsimp only
  repeat' (first
    | with_reducible assumption
    | with_reducible apply State.ethIn_ok
    | with_reducible apply NextOk.next
    | with_reducible apply NextOk.atAddr
    | with_reducible apply parts_ok
    | simp only [mk_ok]
    | with_reducible apply iteS_ok
    | intro _
    | split
    | with_reducible apply_assumption
    | dsimp only)

theorem execEthHostStatus_ok (port : Nat) (src : BitVec 48) (seq : Nat) (s : State) (hs : s.Ok orig) :
    NextOk orig (execEthHostStatus port src seq s) := by
  unfold execEthHostStatus
  try dsimp only
  repeat' (first
    | with_reducible assumption
    | with_reducible apply State.ethIn_ok
    | with_reducible apply NextOk.next
    | with_reducible apply NextOk.atAddr
    | with_reducible apply parts_ok
    | simp only [mk_ok]
    | with_reducible apply iteS_ok
    | intro _
    | split
    | with_reducible apply_assumption
    | dsimp only)

theorem execEthFrameRx_ok (port : Nat) (dst : BitVec 48) (etype : Nat) (fcsOk : Bool) (ptpMcast : Bool) (room : Bool) (req : Option (BitVec 48 × Nat × Nat)) (s : State) (hs : s.Ok orig) :
    NextOk orig (execEthFrameRx port dst etype fcsOk ptpMcast room req s) := by
  unfold execEthFrameRx
  try dsimp only
  repeat' (first
    | with_reducible assumption
    | with_reducible apply State.ethHold_ok
    | with_reducible apply State.ethIn_ok
    | with_reducible apply State.ethWake_ok
    | with_reducible apply State.incF_ok
    | with_reducible apply NextOk.next
    | with_reducible apply NextOk.atAddr
    | with_reducible apply parts_ok
    | simp only [mk_ok]
    | with_reducible apply iteS_ok
    | intro _
    | split
    | with_reducible apply_assumption
    | dsimp only)

theorem execEthLinkUp_ok (port : Nat) (speed : Nat) (mdix : Bool) (full : Bool) (polInv : Nat) (pairMap : Nat) (s : State) (hs : s.Ok orig) :
    NextOk orig (execEthLinkUp port speed mdix full polInv pairMap s) := by
  unfold execEthLinkUp
  try dsimp only
  repeat' (first
    | with_reducible assumption
    | with_reducible apply State.setF_ok
    | with_reducible apply State.updEth_ok
    | with_reducible apply NextOk.next
    | with_reducible apply NextOk.atAddr
    | with_reducible apply parts_ok
    | simp only [mk_ok]
    | with_reducible apply iteS_ok
    | intro _
    | split
    | with_reducible apply_assumption
    | dsimp only)

theorem execEthLinkDown_ok (port : Nat) (s : State) (hs : s.Ok orig) :
    NextOk orig (execEthLinkDown port s) := by
  unfold execEthLinkDown
  try dsimp only
  repeat' (first
    | with_reducible assumption
    | with_reducible apply State.ethDown_ok
    | with_reducible apply NextOk.next
    | with_reducible apply NextOk.atAddr
    | with_reducible apply parts_ok
    | simp only [mk_ok]
    | with_reducible apply iteS_ok
    | intro _
    | split
    | with_reducible apply_assumption
    | dsimp only)

theorem execEthCtrlWrite_ok (m : Master) (port : Nat) (v : Word) (s : State) (hs : s.Ok orig) :
    NextOk orig (execEthCtrlWrite m port v s) := by
  unfold execEthCtrlWrite
  try dsimp only
  repeat' (first
    | with_reducible assumption
    | with_reducible apply State.ethCtrl_ok
    | with_reducible apply State.guardW_ok
    | with_reducible apply NextOk.next
    | with_reducible apply NextOk.atAddr
    | with_reducible apply parts_ok
    | simp only [mk_ok]
    | with_reducible apply iteS_ok
    | intro _
    | split
    | with_reducible apply_assumption
    | dsimp only)

theorem execPtpMessageRx_ok (port : Nat) (phase : Nat) (x : PtpMsg) (r : PtpOut) (s : State) (hs : s.Ok orig) :
    NextOk orig (execPtpMessageRx port phase x r s) := by
  unfold execPtpMessageRx
  try dsimp only
  repeat' (first
    | with_reducible assumption
    | with_reducible apply State.ethHold_ok
    | with_reducible apply State.hold_ok
    | with_reducible apply State.incF_ok
    | with_reducible apply State.ptpTake_ok
    | with_reducible apply NextOk.next
    | with_reducible apply NextOk.atAddr
    | with_reducible apply parts_ok
    | simp only [mk_ok]
    | with_reducible apply iteS_ok
    | intro _
    | split
    | with_reducible apply_assumption
    | dsimp only)

theorem execPtpMessageTx_ok (port : Nat) (phase : Nat) (x : PtpMsg) (s : State) (hs : s.Ok orig) :
    NextOk orig (execPtpMessageTx port phase x s) := by
  unfold execPtpMessageTx
  try dsimp only
  repeat' (first
    | with_reducible assumption
    | with_reducible apply State.incF_ok
    | with_reducible apply State.updEth_ok
    | with_reducible apply NextOk.next
    | with_reducible apply NextOk.atAddr
    | with_reducible apply parts_ok
    | simp only [mk_ok]
    | with_reducible apply iteS_ok
    | intro _
    | split
    | with_reducible apply_assumption
    | dsimp only)

theorem execSvcRxInvert_ok (s : State) (hs : s.Ok orig) :
    NextOk orig (execSvcRxInvert s) := by
  unfold execSvcRxInvert
  try dsimp only
  repeat' (first
    | with_reducible assumption
    | with_reducible apply State.setF_ok
    | with_reducible apply NextOk.next
    | with_reducible apply NextOk.atAddr
    | with_reducible apply parts_ok
    | simp only [mk_ok]
    | with_reducible apply iteS_ok
    | intro _
    | split
    | with_reducible apply_assumption
    | dsimp only)

theorem execSvcPresentAssert_ok (s : State) (hs : s.Ok orig) :
    NextOk orig (execSvcPresentAssert s) := by
  unfold execSvcPresentAssert
  try dsimp only
  repeat' (first
    | with_reducible assumption
    | with_reducible apply State.setF_ok
    | with_reducible apply State.wakeBy_ok
    | with_reducible apply NextOk.next
    | with_reducible apply NextOk.atAddr
    | with_reducible apply parts_ok
    | simp only [mk_ok]
    | with_reducible apply iteS_ok
    | intro _
    | split
    | with_reducible apply_assumption
    | dsimp only)

theorem execSvcPresentRelease_ok (s : State) (hs : s.Ok orig) :
    NextOk orig (execSvcPresentRelease s) := by
  unfold execSvcPresentRelease
  try dsimp only
  repeat' (first
    | with_reducible assumption
    | with_reducible apply State.claimTrouble_ok
    | with_reducible apply State.setF_ok
    | with_reducible apply State.updRelease_ok
    | with_reducible apply NextOk.next
    | with_reducible apply NextOk.atAddr
    | with_reducible apply parts_ok
    | simp only [mk_ok]
    | with_reducible apply iteS_ok
    | intro _
    | split
    | with_reducible apply_assumption
    | dsimp only)

theorem execSvcPacketBad_ok (s : State) (hs : s.Ok orig) :
    NextOk orig (execSvcPacketBad s) := by
  unfold execSvcPacketBad
  try dsimp only
  repeat' (first
    | with_reducible assumption
    | with_reducible apply State.incF_ok
    | with_reducible apply State.setF_ok
    | with_reducible apply NextOk.next
    | with_reducible apply NextOk.atAddr
    | with_reducible apply parts_ok
    | simp only [mk_ok]
    | with_reducible apply iteS_ok
    | intro _
    | split
    | with_reducible apply_assumption
    | dsimp only)

theorem execSvcRateTimeout_ok (s : State) (hs : s.Ok orig) :
    NextOk orig (execSvcRateTimeout s) := by
  unfold execSvcRateTimeout
  try dsimp only
  repeat' (first
    | with_reducible assumption
    | with_reducible apply State.setF_ok
    | with_reducible apply NextOk.next
    | with_reducible apply NextOk.atAddr
    | with_reducible apply parts_ok
    | simp only [mk_ok]
    | with_reducible apply iteS_ok
    | intro _
    | split
    | with_reducible apply_assumption
    | dsimp only)

theorem execSvcHello_ok (seq : Nat) (payload : Bytes) (s : State) (hs : s.Ok orig) :
    NextOk orig (execSvcHello seq payload s) := by
  unfold execSvcHello
  try dsimp only
  repeat' (first
    | with_reducible assumption
    | with_reducible apply State.svcLen_ok
    | with_reducible apply State.svcReply_ok
    | with_reducible apply NextOk.next
    | with_reducible apply NextOk.atAddr
    | with_reducible apply parts_ok
    | simp only [mk_ok]
    | with_reducible apply iteS_ok
    | intro _
    | split
    | with_reducible apply_assumption
    | dsimp only)

theorem execSvcSetRate_ok (seq : Nat) (payload : Bytes) (s : State) (hs : s.Ok orig) :
    NextOk orig (execSvcSetRate seq payload s) := by
  unfold execSvcSetRate
  try dsimp only
  repeat' (first
    | with_reducible assumption
    | with_reducible apply State.setF_ok
    | with_reducible apply State.svcLen_ok
    | with_reducible apply State.svcReply_ok
    | with_reducible apply NextOk.next
    | with_reducible apply NextOk.atAddr
    | with_reducible apply parts_ok
    | simp only [mk_ok]
    | with_reducible apply iteS_ok
    | intro _
    | split
    | with_reducible apply_assumption
    | dsimp only)

theorem execSvcReset_ok (seq : Nat) (payload : Bytes) (s : State) (hs : s.Ok orig) :
    NextOk orig (execSvcReset seq payload s) := by
  unfold execSvcReset
  try dsimp only
  repeat' (first
    | with_reducible assumption
    | with_reducible apply State.resetAll_ok
    | with_reducible apply State.svcLen_ok
    | with_reducible apply State.svcReply_ok
    | with_reducible apply NextOk.next
    | with_reducible apply NextOk.atAddr
    | with_reducible apply parts_ok
    | simp only [mk_ok]
    | with_reducible apply iteS_ok
    | intro _
    | split
    | with_reducible apply_assumption
    | dsimp only)

theorem execSvcRead_ok (seq : Nat) (payload : Bytes) (s : State) (hs : s.Ok orig) :
    NextOk orig (execSvcRead seq payload s) := by
  unfold execSvcRead
  try dsimp only
  repeat' (first
    | with_reducible assumption
    | with_reducible apply State.svcAccess_ok
    | with_reducible apply State.svcLen_ok
    | with_reducible apply State.svcReply_ok
    | with_reducible apply NextOk.next
    | with_reducible apply NextOk.atAddr
    | with_reducible apply parts_ok
    | simp only [mk_ok]
    | with_reducible apply iteS_ok
    | intro _
    | split
    | with_reducible apply_assumption
    | dsimp only)

theorem execSvcWrite_ok (seq : Nat) (payload : Bytes) (s : State) (hs : s.Ok orig) :
    NextOk orig (execSvcWrite seq payload s) := by
  unfold execSvcWrite
  try dsimp only
  repeat' (first
    | with_reducible assumption
    | with_reducible apply State.svcAccess_ok
    | with_reducible apply State.svcLen_ok
    | with_reducible apply NextOk.next
    | with_reducible apply NextOk.atAddr
    | with_reducible apply parts_ok
    | simp only [mk_ok]
    | with_reducible apply iteS_ok
    | intro _
    | split
    | with_reducible apply_assumption
    | dsimp only)

theorem execSvcSubmit_ok (seq : Nat) (payload : Bytes) (s : State) (hs : s.Ok orig) :
    NextOk orig (execSvcSubmit seq payload s) := by
  unfold execSvcSubmit
  try dsimp only
  repeat' (first
    | with_reducible assumption
    | with_reducible apply State.svcItem_ok
    | with_reducible apply State.svcPacket_ok
    | with_reducible apply NextOk.next
    | with_reducible apply NextOk.atAddr
    | with_reducible apply parts_ok
    | simp only [mk_ok]
    | with_reducible apply iteS_ok
    | intro _
    | split
    | with_reducible apply_assumption
    | dsimp only)

theorem execTamperSense_ok (now : Nat) (s : State) (hs : s.Ok orig) :
    NextOk orig (execTamperSense now s) := by
  unfold execTamperSense
  try dsimp only
  repeat' (first
    | with_reducible assumption
    | with_reducible apply State.tamperNow_ok
    | with_reducible apply State.xingPulse_ok
    | with_reducible apply NextOk.next
    | with_reducible apply NextOk.atAddr
    | with_reducible apply parts_ok
    | simp only [mk_ok]
    | with_reducible apply iteS_ok
    | intro _
    | split
    | with_reducible apply_assumption
    | dsimp only)

theorem execTempMeasure_ok (t : Int) (upd : Bool) (s : State) (hs : s.Ok orig) :
    NextOk orig (execTempMeasure t upd s) := by
  unfold execTempMeasure
  try dsimp only
  repeat' (first
    | with_reducible assumption
    | with_reducible apply State.tempMeasure_ok
    | with_reducible apply NextOk.next
    | with_reducible apply NextOk.atAddr
    | with_reducible apply parts_ok
    | simp only [mk_ok]
    | with_reducible apply iteS_ok
    | intro _
    | split
    | with_reducible apply_assumption
    | dsimp only)

theorem execStartupBegin_ok (p : StartPads) (s : State) (hs : s.Ok orig) :
    NextOk orig (execStartupBegin p s) := by
  unfold execStartupBegin
  try dsimp only
  repeat' (first
    | with_reducible assumption
    | with_reducible apply State.startUp_ok
    | with_reducible apply NextOk.next
    | with_reducible apply NextOk.atAddr
    | with_reducible apply parts_ok
    | simp only [mk_ok]
    | with_reducible apply iteS_ok
    | intro _
    | split
    | with_reducible apply_assumption
    | dsimp only)

theorem execDomPwrUpDone_ok (d : Nat) (s : State) (hs : s.Ok orig) :
    NextOk orig (execDomPwrUpDone d s) := by
  unfold execDomPwrUpDone
  try dsimp only
  repeat' (first
    | with_reducible assumption
    | with_reducible apply State.domUp_ok
    | with_reducible apply NextOk.next
    | with_reducible apply NextOk.atAddr
    | with_reducible apply parts_ok
    | simp only [mk_ok]
    | with_reducible apply iteS_ok
    | intro _
    | split
    | with_reducible apply_assumption
    | dsimp only)

theorem execPllRelock_ok (p : Pll) (s : State) (hs : s.Ok orig) :
    NextOk orig (execPllRelock p s) := by
  unfold execPllRelock
  try dsimp only
  repeat' (first
    | with_reducible assumption
    | with_reducible apply State.deliverAll_ok
    | with_reducible apply State.domOnReq_ok
    | with_reducible apply State.raiseOwed_ok
    | with_reducible apply State.setLock_ok
    | with_reducible apply State.updPower_ok
    | with_reducible apply NextOk.next
    | with_reducible apply NextOk.atAddr
    | with_reducible apply foldl_ok
    | with_reducible apply parts_ok
    | simp only [mk_ok]
    | with_reducible apply iteS_ok
    | intro _
    | split
    | with_reducible apply_assumption
    | dsimp only)

theorem execDomRailFault_ok (d : Nat) (s : State) (hs : s.Ok orig) :
    NextOk orig (execDomRailFault d s) := by
  unfold execDomRailFault
  try dsimp only
  repeat' (first
    | with_reducible assumption
    | with_reducible apply State.railFault_ok
    | with_reducible apply NextOk.next
    | with_reducible apply NextOk.atAddr
    | with_reducible apply parts_ok
    | simp only [mk_ok]
    | with_reducible apply iteS_ok
    | intro _
    | split
    | with_reducible apply_assumption
    | dsimp only)

theorem execPsWriteComplete_ok (ok : Bool) (s : State) (hs : s.Ok orig) :
    NextOk orig (execPsWriteComplete ok s) := by
  unfold execPsWriteComplete
  try dsimp only
  repeat' (first
    | with_reducible assumption
    | with_reducible apply State.psComplete_ok
    | with_reducible apply State.psFail_ok
    | with_reducible apply NextOk.next
    | with_reducible apply NextOk.atAddr
    | with_reducible apply parts_ok
    | simp only [mk_ok]
    | with_reducible apply iteS_ok
    | intro _
    | split
    | with_reducible apply_assumption
    | dsimp only)

theorem execSlotStart_ok (s : State) (hs : s.Ok orig) :
    NextOk orig (execSlotStart s) := by
  unfold execSlotStart
  try dsimp only
  repeat' (first
    | with_reducible assumption
    | with_reducible apply State.followSlot_ok
    | with_reducible apply State.setAsn_ok
    | with_reducible apply State.slotEnd_ok
    | with_reducible apply State.slotPulses_ok
    | with_reducible apply State.swapBoundary_ok
    | with_reducible apply NextOk.next
    | with_reducible apply NextOk.atAddr
    | with_reducible apply parts_ok
    | simp only [mk_ok]
    | with_reducible apply iteS_ok
    | intro _
    | split
    | with_reducible apply_assumption
    | dsimp only)

theorem State.frcTick_sound {s : State} (h : s.Sound) : s.frcTick.Sound := by
  unfold State.frcTick
  split
  · exact h
  · exact h

theorem State.sound_ok {s : State} (h : s.Sound) : s.Ok s :=
  State.ok_iff.2 ⟨h, rfl, rfl, rfl, .inl rfl, Nat.le_refl _, Nat.le_refl _, Nat.le_refl _, rfl⟩

/-- A tick keeps a sound state sound. -/
theorem State.idle_sound {s : State} (h : s.Sound) : s.idle.Sound := by
  have h1 : ((s.frcTick.padStep 0).padStep 1).Ok s.frcTick :=
    State.padStep_ok _ _ (State.padStep_ok _ _ (State.sound_ok (State.frcTick_sound h)))
  unfold State.idle
  split
  · exact h
  · exact (iteS_ok (fun _ => State.each_ok h1 _ fun t a => State.axTick_ok t a) fun _ => h1).1

end Sys2Proof.Machine
end

