-- ==== Sys2Proof/Machine/Pads.lean ====
section
/-! DEFINITION. What the module's pads carry (spec/02 R57–R59, R66–R73, R78, spec/05 R174, spec/07 R240, R241): the drive of
every pad that the module controls, from the state. Pads that the module only reads are inputs of commands. -/
namespace Sys2Proof.Machine

/-- The pads of R57 and R58 that the module drives or terminates. -/
inductive Pad where
  | gnssAnt (a : Nat)
  | rfa
  | rfb
  | paEn (b : Nat)
  | lnaEn (b : Nat)
  | vaux
  | vioRef
  | ppsOut
  | ref10Out
  | gpio (n : Nat)
  | hspiIo (n : Nat)
  | irqS
  | irqNs
  | ethTrd (port : Nat)
  | ethLedLink (port : Nat)
  | ethLedAct (port : Nat)
  | svcTx
  | stopTp (i : Nat)
  | stopRel (k : Nat)
  | wktHigh (n k : Nat)
  | wktLow (n k : Nat)
  | wktSense (n k : Nat)
deriving DecidableEq, Repr

/-- What a pad carries: a level, a supply in mV, one folded back to 25 mA (`limited`), no drive, a 50 Ω termination, a
pull-down, the axis's motor supply or GND through 10 kΩ, a MOSFET's gate turned on (R81), a sinking driver, a signal on a channel (none: the wake channel),
stop signalling, the receive path of a radio, a 10 MHz square wave at TB0's rate, or (`active`) what its unit's traffic puts
there. -/
inductive Drive where
  | low
  | high
  | supply (mV : Nat)
  | limited
  | off
  | hiZ
  | term50
  | pullDown
  | motorSupply
  | gnd
  | sinking
  | sending (chan : Option Nat)
  | stopSignal
  | receive
  | wakeReceive
  | clock10
  | gateOn
  | active
deriving DecidableEq, Repr

def Drive.level (b : Bool) : Drive := if b then .high else .low

/-- A band's RF pad: Gazebo's keying first (R72, R348), then Bandstand's transmission, its receive path, and with its domain
down the wake-up receiver on RFA, 50 Ω on RFB (R57). A part without band B has a fixed 50 Ω there (R59). -/
def State.rfDrive (s : State) (b : Nat) : Drive :=
  if b = 1 ∧ !s.present U.BSB then .term50
  else if s.blanked b then .stopSignal
  else if s.keying b then .sending (((s.band b).air.getLast?).bind (·.chan))
  else if s.bandRun b then .receive
  else if b = 0 then .wakeReceive else .term50

/-- What a pad carries while the module is powered: its unit's drive, and the state of R57 and R58 while its domain is down
or the plan has not configured it. In Off nothing is driven. -/
def State.drive (s : State) (p : Pad) : Drive :=
  if s.power.off then (match p with
    | .gnssAnt _ => .term50
    | .rfa => .wakeReceive
    | .rfb => .term50
    | .stopRel _ => .off
    | .wktHigh _ _ => .motorSupply
    | .wktLow _ _ => .gnd
    | .vaux => .off
    | .vioRef => .off
    | .paEn _ | .lnaEn _ | .ppsOut | .ref10Out => .low
    | .irqS | .irqNs => .high
    | .gpio _ => .pullDown
    | .stopTp _ => .sinking
    | _ => .hiZ)
  else match p with
    | .gnssAnt a =>
      match s.pads.antBias.getD a 0 with
      | 1 => .supply 3300
      | 2 => .supply 5000
      | 3 => .limited
      | _ => .term50
    | .rfa => s.rfDrive 0
    | .rfb => s.rfDrive 1
    | .paEn b => if b = 1 ∧ !s.present U.BSB then .low else Drive.level (if b = 0 then s.pads.paEnA else s.pads.paEnB)
    | .lnaEn b => if b = 1 ∧ !s.present U.BSB then .low else Drive.level (if b = 0 then s.pads.lnaEnA else s.pads.lnaEnB)
    | .vaux => if s.pads.vaux then .supply 5000 else .off
    | .vioRef => .supply 3300
    | .ppsOut => Drive.level s.pads.ppsOut
    | .ref10Out => if s.flag F.SDL_CTRL_REF10_OUT_EN ∧ s.domOn 2 then .clock10 else .low
    | .gpio n =>
      if !s.domOn 2 ∨ !s.planActive then .pullDown
      else
        let fn := leAt (s.sec T.PINS) n 1
        let v := s.pads.gpio.getD n false
        if fn = 1 ∨ fn = 3 then Drive.level v else if fn = 2 then (if v then .hiZ else .low) else .pullDown
    | .hspiIo _ => if s.hspi.waiting.isSome then .active else .hiZ
    | .irqS => Drive.level (!s.irqLine true)
    | .irqNs => Drive.level (!s.irqLine false)
    | .ethTrd port => if s.domOn 11 ∧ port < 2 ∧ s.flag (F.ETH_Pn_CTRL_EN port) then .active else .hiZ
    | .ethLedLink port => if s.domOn 11 ∧ port < 2 ∧ s.flag (F.ETH_Pn_STAT_LINK port) then .sinking else .hiZ
    | .ethLedAct port => if s.domOn 11 ∧ port < 2 ∧ s.flag (F.ETH_Pn_STAT_LINK port) then .active else .hiZ
    | .svcTx => if s.pads.svcPresent then .active else .hiZ
    | .stopTp i =>
      if s.power.porHeld ∨ 1 < i then .sinking
      else if s.flag (gzPulse i) ∧ !s.since (s.gzb.test i).tpFrc 300 then .sinking else .supply 24000
    | .stopRel k => if (if k = 0 then s.pads.rel1 else s.pads.rel2) then .sinking else .off
    | .wktHigh n k => if s.gateOn n (2 * k) then .gateOn else .motorSupply
    | .wktLow n k => if s.gateOn n (2 * k + 1) then .gateOn else .gnd
    | .wktSense _ _ => .hiZ

end Sys2Proof.Machine
end

