-- ==== Sys2Proof/WellFormed.lean ====
section
/-! DEFINITION. Well-formed commands: each operand that names a part of the module (a master, a domain, a band, a
channel, a claim, an axis, a time base, a compare, a register address) lies in the range the spec gives that part. -/
namespace Sys2Proof

/-- An Arbour core's number is 0–7 (R161). -/
def Master.wf : Master → Bool
  | .core k => k < 8
  | _ => true

/-- Time bases are 0–3, each with compares 0–31 (R219, R233). -/
def cmpRange (k i : Nat) : Bool := k < 4 && i < 32

/-- Every operand in its range. -/
def Instr.wf : Instr → Bool
  | .registerWrite m addr _ _ => m.wf && addr < 2 ^ 32
  | .rcFieldRead m addr _ => m.wf && addr < 2 ^ 32
  | .absentUnitAccess m addr _ => m.wf && addr < 2 ^ 32
  | .mainsApply _ => true
  | .startupBegin p => p.tamper < 2 ^ 16
  | .supplyLossDeclare => true
  | .deferredShed => true
  | .supplyReturn => true
  | .holdupExpiry => true
  | .coreRailFault d => d < 2
  | .pwrReqWatch m _ => m.wf
  | .pwrReqDeep m _ => m.wf
  | .powerStateEntry => true
  | .wakeEvent => true
  | .domOnRequest m d => m.wf && d < 14
  | .domOffRequest m d => m.wf && d < 14
  | .domPwrUpDone d => d < 14
  | .domShutdownDone d => d < 14
  | .domRailFault d => d < 14
  | .domIdleTimeout d => d < 14
  | .domFaultClear m d => m.wf && d < 14
  | .wakeFrcArm m _ => m.wf
  | .frcCmpMatch => true
  | .frcLoRead m => m.wf
  | .gzbEdgeFrcLoRead m => m.wf
  | .orgTamperFrcLoRead m => m.wf
  | .vbSnapFrcLoRead m k => m.wf && k < 2
  | .tcxoFail => true
  | .tcxoRestore => true
  | .xo32Fail => true
  | .pllLockLoss _ => true
  | .pllRelock _ => true
  | .pllLossReset _ => true
  | .resetPinAssert _ _ => true
  | .resetPinRelease => true
  | .swResetAll m _ => m.wf
  | .swResetDomains m _ _ => m.wf
  | .resetHoldEnd _ => true
  | .xingResync id dir => id < 12 && dir < 2
  | .pulseRoundtripDone id => 1 ≤ id && id ≤ 6
  | .swapGo m _ _ => m.wf
  | .swapVerifyDone => true
  | .hspiSelectFall _ => true
  | .hspiSelectRise _ _ => true
  | .hspiRead addr _ => addr < 2 ^ 32
  | .hspiWrite addr _ => addr < 2 ^ 32
  | .hspiStatus => true
  | .hspiClear _ => true
  | .hspiUnknownCmd _ => true
  | .hspiWriteComplete => true
  | .ethHostRead port _ seq addr _ => port < 2 && seq < 2 ^ 16 && addr < 2 ^ 32
  | .ethHostWrite port _ seq addr _ _ => port < 2 && seq < 2 ^ 16 && addr < 2 ^ 32
  | .ethHostStatus port _ seq => port < 2 && seq < 2 ^ 16
  | .ethFrameRx port _ _ _ _ _ req => port < 2 && req.all (fun r => r.2.1 < 256 && r.2.2 < 2 ^ 16)
  | .ethLinkUp port _ _ _ _ _ => port < 2
  | .ethLinkDown port => port < 2
  | .ethCtrlWrite m port _ => m.wf && port < 2
  | .ptpMessageRx port phase x r => port < 2 && phase < 16 && x.mtype < 4 && r.gmClass < 256
  | .ptpMessageTx port phase x => port < 2 && phase < 16 && x.mtype < 4
  | .mbxGo m c _ => m.wf && c < 32
  | .mbxTake m c _ => m.wf && c < 32
  | .mbxDataWrite m c k _ => m.wf && c < 32 && k < 16
  | .mbxHostReset m _ => m.wf
  | .mbxRepost c => c < 32
  | .claimAcquire ms n => ms.all Master.wf && n < 32
  | .claimRelease m n => m.wf && n < 32
  | .claimRenew m n => m.wf && n < 32
  | .claimBadWrite m n _ => m.wf && n < 32
  | .claimLeaseWrite m n _ => m.wf && n < 32
  | .claimLeaseExpiry n => n < 32
  | .claimOwnerTrouble m => m.wf
  | .streamRead ms w => ms.all Master.wf && w < 16
  | .streamWrite m w _ => m.wf && w < 16
  | .streamFlush m w => m.wf && w < 16
  | .queuePushResume wid => wid < 2 ^ 32
  | .workItemSubmit _ => true
  | .dispatch _ => true
  | .workItemComplete _ => true
  | .wiDonePush _ => true
  | .coreOverrun k => k < 8
  | .coreAccessFault k => k < 8
  | .wdtDispatchTimeout => true
  | .evtSet m task flag => m.wf && task < 256 && flag < 32
  | .evtClr m task flag _ => m.wf && task < 256 && flag < 32
  | .taskMaskWrite m _ => m.wf
  | .nop wid => wid < 2 ^ 32
  | .signal wid => wid < 2 ^ 32
  | .cancel _ => true
  | .sdlArm wid => wid < 2 ^ 32
  | .sdlSteerRate wid => wid < 2 ^ 32
  | .sdlSteerSlew wid => wid < 2 ^ 32
  | .sdlSteerStep wid => wid < 2 ^ 32
  | .sdlSteerTod wid => wid < 2 ^ 32
  | .tb0Second _ _ _ => true
  | .holdLimitExpiry => true
  | .tb0StepApply => true
  | .ref10OkSet => true
  | .ref10Loss => true
  | .slotStart => true
  | .tbNsRead m k => m.wf && k < 4
  | .cmpArm m k i _ => m.wf && cmpRange k i
  | .cmpDisarm m k i => m.wf && cmpRange k i
  | .cmpFire k i => cmpRange k i
  | .convGo m => m.wf
  | .ppsInEdge phase => phase < 16
  | .ppsInLoss => true
  | .snapInEdge phase => phase < 16
  | .gpioCaptureEdge pin phase => pin < 16 && phase < 16
  | .ppsOutPulse => true
  | .ppsOutFall => true
  | .antBiasOpen a _ => a < 2
  | .antBiasShort a _ => a < 2
  | .antBiasRetry a => a < 2
  | .antSwitch => true
  | .searchStart _ _ => true
  | .searchDone _ _ => true
  | .chPullInLock c => c < 320
  | .chPullInTimeout c => c < 320
  | .chPhaseLock c => c < 320
  | .chPhaseSlip c => c < 320
  | .chSidePeak c => c < 320
  | .chLost c => c < 320
  | .chReacqExpiry c => c < 320
  | .floatChRelease c => c < 320
  | .baseEpochLatch _ => true
  | .baseRecordComplete _ => true
  | .timeSolution _ => true
  | .noiseCheck c _ => c < 8
  | .bvSurveyStart wid => wid < 2 ^ 32
  | .bvSurveySet wid => wid < 2 ^ 32
  | .bvSurveyAbort wid => wid < 2 ^ 32
  | .bvSurveySelectAnt wid => wid < 2 ^ 32
  | .bvSearch wid => wid < 2 ^ 32
  | .obsIntake => true
  | .laneTake => true
  | .fixDelivery l => l < 4
  | .laneDeadlineAbandon l => l < 4
  | .laneFault l => l < 4
  | .slvRoverReset wid => wid < 2 ^ 32
  | .slvRoverDisable wid => wid < 2 ^ 32
  | .slvRoverEnable wid => wid < 2 ^ 32
  | .slvRoverQuery wid => wid < 2 ^ 32
  | .rtcmBuild => true
  | .corrAgeExpiry => true
  | .dlFixAssemble => true
  | .stopTrainRepeat => true
  | .sackSend b => b < 2
  | .frameRxBad b c _ psdu => b < 2 && c < 8 && psdu.length ≤ 480
  | .joinReqRx c psdu _ => c < 4 && psdu.length ≤ 480
  | .joinKeyDone m => 1 ≤ m && m ≤ 128
  | .ctrlRx b c psdu _ => b < 2 && c < 8 && psdu.length ≤ 480
  | .obsRx b c psdu _ _ => b < 2 && c < 8 && psdu.length ≤ 480
  | .stopReqRx b c psdu _ => b < 2 && c < 8 && psdu.length ≤ 480
  | .leaveRx b c psdu _ => b < 2 && c < 8 && psdu.length ≤ 480
  | .statusRx b c psdu _ => b < 2 && c < 8 && psdu.length ≤ 480
  | .floodFrameRx b c psdu _ => b < 2 && c < 8 && psdu.length ≤ 480
  | .iackRx b psdu _ => b < 2 && psdu.length ≤ 480
  | .iackTimeout b => b < 2
  | .wurWordRx w => w < 2 ^ 32
  | .bsSend wid => wid < 2 ^ 32
  | .bsMemberExpel wid => wid < 2 ^ 32
  | .bsMemberResync wid => wid < 2 ^ 32
  | .planRequestIntake => true
  | .plannerTake => true
  | .planDone _ => true
  | .planExhausted => true
  | .posStaleExpiry m => 1 ≤ m && m ≤ 128
  | .rtTick => true
  | .taskDwellExpiry m => 1 ≤ m && m ≤ 128
  | .pglPlan wid _ => wid < 2 ^ 32
  | .pglAssign wid _ => wid < 2 ^ 32
  | .pglReleaseFuture wid => wid < 2 ^ 32
  | .pglReleaseAll wid => wid < 2 ^ 32
  | .stopInputEdge i => i < 3
  | .gzbStopWrite m _ => m.wf
  | .gzbInitExit => true
  | .stopKeyLoad _ => true
  | .testPulse i => i < 2
  | .fallJudgement i => i < 2
  | .riseJudgement i => i < 2
  | .tpShortDetect i => i < 2
  | .loopReverseDetect i => i < 2
  | .monitorSample _ _ => true
  | .chMismatchDetect => true
  | .discrepancyDetect => true
  | .rfSelfTest _ _ => true
  | .coilShortDetect k => k < 2
  | .coilOpenDetect k => k < 2
  | .gzbFaultClear m _ _ => m.wf
  | .gzbClear wid => wid < 2 ^ 32
  | .psWriteComplete _ => true
  | .wktEnable m n => m.wf && n < 4
  | .wktCheckDone n sc _ _ _ => n < 4 && (match sc with | some k => k < 8 | none => true)
  | .wktDisable m n => m.wf && n < 4
  | .wktZero m n => m.wf && n < 4
  | .wktMoveTable wid => wid < 2 ^ 32
  | .wktMoveTarget wid => wid < 2 ^ 32
  | .wktHomeStall wid => wid < 2 ^ 32
  | .wktHomeSwitch wid => wid < 2 ^ 32
  | .wktTableStart n => n < 4
  | .wktTableEnd n => n < 4
  | .wktRampEnd n => n < 4
  | .wktHomeFound n _ => n < 4
  | .wktHomeNotFound n => n < 4
  | .wktStall n => n < 4
  | .wktOvercurrent n _ _ _ => n < 4
  | .wktPhaseGndShort n _ _ _ => n < 4
  | .wktVmLow n _ => n < 4
  | .wktVmOver n _ => n < 4
  | .wktVmHigh n _ => n < 4
  | .wktStandstillExpiry n => n < 4
  | .wktReduceDone n => n < 4
  | .wktDecelWrite m n _ _ => m.wf && n < 4
  | .wktLimitWrite m n off _ => m.wf && n < 4 && off < 2 ^ 12
  | .wktFaultClear m n _ _ => m.wf && n < 4
  | .orgKeyUpdate wid => wid < 2 ^ 32
  | .orgDeriveNode wid => wid < 2 ^ 32
  | .orgDeriveInvalidate wid => wid < 2 ^ 32
  | .orgDeriveRoll wid => wid < 2 ^ 32
  | .orgDeriveAttest wid => wid < 2 ^ 32
  | .orgDeriveHmac wid => wid < 2 ^ 32
  | .tamperSense _ => true
  | .tamperKeyRedraw => true
  | .tempMeasure _ _ => true
  | .svcRxInvert => true
  | .svcPresentAssert => true
  | .svcPresentRelease => true
  | .svcPacketBad => true
  | .svcHello seq _ => seq < 2 ^ 16
  | .svcSetRate seq _ => seq < 2 ^ 16
  | .svcRateTimeout => true
  | .svcRead seq _ => seq < 2 ^ 16
  | .svcWrite seq _ => seq < 2 ^ 16
  | .svcSubmit seq _ => seq < 2 ^ 16
  | .svcReset seq _ => seq < 2 ^ 16
  | .updBegin _ => true
  | .updData _ => true
  | .updEnd _ => true
  | .updActivate _ => true
  | .updAbort _ => true
  | .updConfirm _ => true
  | .updLockTimeout => true
  | .svnFuseBurn => true
  | .snapTrigger src tb idx m => src < 32 && tb < 4 && idx < 32 && m.wf
  | .vbSnapWrite m _ => m.wf
  | .vbRecordAssemble _ => true
  | .vbRecordProgrammed => true
  | .vbTokenRefill c => c < 256
  | .vbRead wid => wid < 2 ^ 32
  | .vbMark wid => wid < 2 ^ 32
  | .testRun wid => wid < 2 ^ 32
  | .testDurationExpiry _ v => v < 65536
  | .loopReadsClosed i => i < 3
  | .stopTrainEnd => true
  | .antBiasNormal a _ => a < 2
  | .cmpPulseEnd gpio => gpio < 16
  | .tbSlewDone => true
  | .wktVmHighEnd n _ => n < 4
  | .wktVmReversed n _ => n < 4

end Sys2Proof
end

