-- ==== Sys2Proof/Tests/Slice0.lean ====
section
/-! SUPPORT. Tests of the model: the checks of WellFormed, a few effects read from the spec, and for every statement with
hypotheses a concrete state and operands that meet them. -/
namespace Sys2Proof.Tests

set_option Elab.async false
open Sys2Proof Sys2Proof.Machine

/-! ### Small states -/

/-- A state with some fields set. -/
def put (s : State) (l : List (Fld × Nat)) : State := l.foldl (fun s p => s.setF p.1 p.2) s

/-- The module in Run with every domain ON, every PLL in lock and no plan. -/
def up : State :=
  put { State.reset with power := { porHeld := false, lockA := true, lockB := true } }
    ((allDoms.map fun d => (F.dom d, DS.on)) ++ [(F.LODGE_PWR_STATE_STATE, 2), (F.LODGE_CLK_STAT_TCXO_OK, 1),
      (F.LODGE_CLK_STAT_SYS_LOCK, 1), (F.LODGE_CLK_STAT_CORR_LOCK, 1), (F.LODGE_CLK_STAT_ETH_LOCK, 1)])

/-- A section body of `n` bytes: fields at their offsets (offset, bytes, value), the rest 0. -/
def body (n : Nat) (l : List (Nat × Nat × Nat)) : Bytes :=
  l.foldl (fun b p => b.take p.1 ++ leBytes p.2.1 p.2.2 ++ b.drop (p.1 + p.2.1)) (List.replicate n (byte 0))

/-- A plan with these sections in force, every unit expected. -/
def plan (secs : List (Nat × Bytes)) (s : State) : State :=
  State.setF { s with plan := { s.plan with sections := secs, units := 0xFFFF } } F.SYS_PLAN_STAT_STATE 2

/-- A work item of the secure group, running on core 0. -/
def job (typ : Nat) (args : List Nat) (payload : Bytes := []) : WItem :=
  { wid := 1, grp := .sec, typ := typ, task := 16, quiet := false, tag := 7, args := args, payload := payload, stamp := 0
    phase := .running 0, finished := false, status := 0, result := [], mark := 0, stopped := false, prog := [] }

/-- A state with one work item in flight. -/
def with1 (i : WItem) (s : State) : State :=
  { s with arb := { s.arb with items := [i], cores := [1, 0, 0, 0, 0, 0, 0, 0] } }

/-- A host task for NOP, every access allowed. -/
def task16 : TaskSt :=
  { id := 16, prio := 4, event := false, all := false, mask := 0, handler := W.NOP, conc := 2, access := 0x1F, qmax := 8 }

/-- A host task run by its flags. -/
def task17 : TaskSt := { task16 with id := 17, event := true, mask := 2, handler := 0 }

/-- A state with both host tasks. -/
def tasked (s : State) : State := { s with arb := { s.arb with tasks := [task16, task17] } }

/-- A one-step Sync of domain 0 over UDP. -/
def sync1 : PtpMsg := ⟨0, 0, true, true, 0, 0, 0⟩

/-! ### WellFormed refuses what it must: for each check a term that only it refuses -/

theorem test_wf_accesses :
    ([.registerWrite (.core 8) 0 0 0, .registerWrite .csS (2 ^ 32) 0 0, .rcFieldRead .csS (2 ^ 32) 0, .frcLoRead (.core 8),
      .absentUnitAccess .csS (2 ^ 32) none, .hspiRead (2 ^ 32) 1, .hspiWrite (2 ^ 32) [], .vbSnapFrcLoRead .csS 2,
      .streamRead [.csS] 16, .tbNsRead .csS 4, .claimAcquire [.core 8] 0, .claimAcquire [] 32] : List Instr).all
        (fun i => !i.wf) = true := by decide +kernel

theorem test_wf_lodge :
    ([.coreRailFault 2, .domOnRequest .csS 14, .domPwrUpDone 14, .xingResync 12 0, .xingResync 0 2, .pulseRoundtripDone 0,
      .pulseRoundtripDone 7, .wktLimitWrite .csS 0 (2 ^ 12) 0, .wktLimitWrite .csS 4 0 0] : List Instr).all
        (fun i => !i.wf) = true := by decide +kernel

theorem test_wf_host :
    ([.ethHostRead 2 0 0 0 1, .ethHostRead 0 0 (2 ^ 16) 0 1, .ethHostRead 0 0 0 (2 ^ 32) 1, .ethLinkDown 2, .ptpMessageTx 0 16 sync1,
      .ptpMessageTx 2 0 sync1, .ptpMessageTx 0 0 { sync1 with mtype := 4 }, .mbxRepost 32, .mbxDataWrite .csS 0 16 0, .svcHello (2 ^ 16) []] : List Instr).all
        (fun i => !i.wf) = true := by decide +kernel

theorem test_wf_arbour :
    ([.nop (2 ^ 32), .coreOverrun 8, .evtSet .csS 256 0, .evtSet .csS 0 32, .cmpFire 4 0, .cmpFire 0 32, .ppsInEdge 16,
      .gpioCaptureEdge 16 0, .cmpPulseEnd 16, .snapTrigger 32 0 0 .csS, .snapTrigger 0 4 0 .csS, .vbTokenRefill 256] :
        List Instr).all (fun i => !i.wf) = true := by decide +kernel

theorem test_wf_units :
    ([.antBiasRetry 2, .chLost 320, .noiseCheck 8 0, .laneFault 4, .sackSend 2, .ctrlRx 2 0 [] 0, .ctrlRx 0 8 [] 0,
      .ctrlRx 0 0 (List.replicate 481 (byte 0)) 0, .joinReqRx 4 [] 0, .joinKeyDone 0, .joinKeyDone 129, .wurWordRx (2 ^ 32),
      .stopInputEdge 3, .testDurationExpiry [] 65536, .testPulse 2, .coilOpenDetect 2, .wktTableEnd 4] : List Instr).all (fun i => !i.wf) = true := by
  decide +kernel

/-- Their well-formed neighbours at the last value of each range. -/
theorem test_wf_limits :
    ([.registerWrite (.core 7) (2 ^ 32 - 1) 0 0, .domPwrUpDone 13, .xingResync 11 1, .pulseRoundtripDone 6, .ethLinkDown 1,
      .mbxRepost 31, .evtSet .csS 255 31, .cmpFire 3 31, .cmpPulseEnd 15, .antBiasRetry 1, .chLost 319, .laneFault 3,
      .ctrlRx 1 7 (List.replicate 480 (byte 0)) 0, .joinKeyDone 128, .wktTableEnd 3, .vbTokenRefill 255] : List Instr).all
        (fun i => i.wf) = true := by decide +kernel

/-! ### Published test vectors of the algorithms the spec names -/

/-- FIPS 180-4 examples: SHA-256 of "abc". -/
theorem test_sha256_abc : beNat (sha256 (ascii "abc")) =
    0xba7816bf8f01cfea414140de5dae2223b00361a396177a9cb410ff61f20015ad := by decide +kernel

/-- FIPS 180-4 examples: SHA-384 of "abc". -/
theorem test_sha384_abc : beNat (sha384 (ascii "abc")) =
    0xcb00753f45a35e8bb5a03d699ac65007272c32ab0eded1631a8b605a43ff5bed8086072ba1e7cc2358baeca134c825a7 := by
  decide +kernel

/-- RFC 4231, case 2: HMAC-SHA-256 with key "Jefe". -/
theorem test_hmac_jefe : beNat (hmacSha256 (ascii "Jefe") (ascii "what do ya want for nothing?")) =
    0x5bdcc146bf60754e6a042426089575c75a003f089d2739839dec58b964ec3843 := by decide +kernel

/-- RFC 3610, packet vector 1: CCM with a nonce of 13 bytes and a tag of 8. -/
theorem test_ccm_rfc3610 :
    (let n (a k : Nat) : Bytes := (List.range k).map (fun i => byte (a + i))
     let r := ccmSeal (n 0xC0 16) ([byte 0, byte 0, byte 0, byte 3, byte 2, byte 1, byte 0] ++ n 0xA0 6) (n 0 8) (n 8 23) 8
     beNat (r.1 ++ r.2)) = 0x588c979a61c663d2f066d0c2c0f989806d5f6b61dac38417e8d12cfdf926e0 := by decide +kernel

/-- The check value of CRC-32C over "123456789". -/
theorem test_crc32c : crc32c (ascii "123456789") = 0xE3069283 := by decide +kernel

/-! ### Witnesses: the queue, registers -/

/-- A state with FRC at `n`. -/
def at_ (n : Nat) (s : State) : State := { s with frc := BitVec.ofNat 64 n }

theorem test_wit_StepRunsTheFrontCommand : ∃ (c : Instr) (q : List Instr) (s : State), s.pending = c :: q :=
  ⟨.wakeEvent, [.frcCmpMatch], { up with pending := [.wakeEvent, .frcCmpMatch] }, rfl⟩

/-- Band A is to transmit from FRC 1 to FRC 5, its amplifier used. -/
def sending : State :=
  let s := plan [(T.PINS, body 64 [(18, 1, 3)])] up
  { s with bsa := { s.bsa with tx := some (1, 5) } }

/-- FRC after one step. -/
def frcAfter (s : State) : Nat := match step s with
  | .next t => t.now
  | _ => 0

theorem test_wit_IdleStepTicksFrc :
    (State.reset.pending = [] ∧ State.reset.powered = false) ∧
    (up.pending = [] ∧ up.powered = true ∧ up.degraded = false ∧ up.bsa.tx = none ∧ up.bsb.tx = none) ∧
    (up.setF F.LODGE_CLK_STAT_FRC_DEGRADED 1).degraded = true ∧
    (sending.powered = true ∧ sending.bsa.tx = some (1, 5) ∧ sending.bsb.tx = none ∧ sending.blanked 0 = false ∧
      sending.extPa 0 = true ∧ 1 ≤ frcAfter sending ∧ frcAfter sending < 5 ∧ 5 ≤ frcAfter (at_ 4 sending)) := by decide +kernel

theorem test_wit_EveryStepKeepsSound : ∃ t, State.reset.Sound ∧ step State.reset = .next t :=
  ⟨_, ⟨rfl, rfl, rfl⟩, rfl⟩

theorem test_wit_NoCommandTakesBack : ∃ t, step { up with pending := [.frcCmpMatch] } = .next t := ⟨_, rfl⟩

theorem test_wit_RegisterWriteThatDoesNotReach :
    up.wrAcc .csNs (accAddr 0x20008) = .viol ∧ { up with part := .ewg9620 }.wrAcc .csS (accAddr 0xB0000) = .none ∧
    (up.setF (F.dom 6) DS.off).wrAcc .csS (accAddr 0x60000) = .held 6 := by decide +kernel

theorem test_wit_RegisterWriteChangesItsBits :
    up.wrAcc .csS (accAddr R.LODGE_WAKE_EN) = .ok ∧ ownEffect (accAddr R.LODGE_WAKE_EN) = false ∧
    (regRow (accAddr R.LODGE_WAKE_EN)).isSome = true := by decide +kernel

theorem test_wit_RegisterReadReturnsAndClears :
    up.rdAcc .csNs (accAddr 3) = .ok ∧ accAddr 3 / 0x10000 ∈ [0, 2, 6, 7, 8, 9, 10, 11] ∧ accAddr 3 ≠ R.GZB_EDGE_FRC_LO ∧
    (regRow (accAddr 3)).isSome = true := by decide +kernel

theorem test_wit_AccessesWithoutRegister :
    (0xB0000 < 2 ^ 32 ∧ { up with part := .ewg9620 }.blockAbsent (0xB0000 / 0x10000) = true) ∧ 2 ^ 32 ≤ 2 ^ 32 := by
  decide +kernel

theorem test_wit_ReadsOfOneSample :
    up.rdAcc .csNs R.LODGE_FRC_LO = .ok ∧ up.rdAcc .csS R.GZB_EDGE_FRC_LO = .ok ∧
    (Master.csS.secure = true ∧ up.rdAcc .csS R.ORG_TAMPER_FRC_LO = .ok) ∧ up.rdAcc .csS (R.VB_SNAP0_FRC_LO + 8) = .ok ∧
    up.rdAcc .csS (R.SDL_TBk_NS 3) = .ok := by decide +kernel

/-! ### Witnesses: mains, power states, domains, resets -/

theorem test_wit_MainsAndStartup :
    State.reset.power.porHeld = true ∧
    (let s := up.updPower (fun p => { p with mains := false }); s.powered = true ∧ s.power.mains = false) ∧
    up.power.off = false ∧ (up.powered = true ∧ up.power.mains = true) ∧
    (let s := up.updPower (fun p => { p with mains := false, shed := some 0 })
     s.power.shed = some 0 ∧ s.vb.trigs.any (fun t => decide (t.frc.toNat ≤ 0)) = false ∧
      s.vb.queue.any (fun r => decide (leAt r.bytes 16 8 ≤ 0)) = false ∧ s.anyEmergency = false) ∧
    (State.reset.power.off = false ∧ State.reset.power.mains = true) ∧ up.power.porHeld = false := by decide +kernel

def asleep : State := put up [(F.LODGE_PWR_STATE_STATE, 3)]

theorem test_wit_PowerStateRequests :
    up.wrAcc .csS R.LODGE_PWR_REQ = .ok ∧ (0 % 65536 ≠ 0xC3A5 ∧ 0xC3A5 % 65536 = 0xC3A5) ∧
    (up.getF F.LODGE_PWR_STATE_STATE = 2 ∧ up.sleepRefusal = 0) ∧ (up.setF F.SYS_SWAP_STAT_STATE 3).sleepRefusal ≠ 0 ∧
    (asleep.wrAcc .tool R.LODGE_PWR_REQ = .ok ∧ asleep.getF F.LODGE_PWR_STATE_STATE = 3 ∧ asleep.sleepRefusal = 0) ∧
    (put up [(F.LODGE_PWR_STATE_STATE, 6)]).getF F.LODGE_PWR_STATE_STATE = 6 ∧
    { up with fleet := { up.fleet with mbrs := [{ id := 1, state := 2 }] } }.anyJoined = true := by decide +kernel

/-- On the way to `e`, its writes done where `q`; each of the domains `ds` OFF. -/
def goingTo (e : Nat) (q : Bool) (ds : List Nat) : State :=
  (put up (ds.map (fun d => (F.dom d, DS.off)))).updPower (fun p => { p with entering := e, quiet := q, boot := true })

/-- Every write that an entry waits for is done. -/
def noWrites (s : State) : Bool := s.ps.running = [] && s.ps.waiting = [] && s.vb.queue = [] && s.vb.trigs = []

theorem test_wit_PowerStateEntryAndWake_entry :
    ∀ e ∈ [3, 4],
      (let s := goingTo e false []; s.power.entering = e ∧ noWrites s = true ∧ s.power.quiet = false) ∧
      (let s := goingTo e true []; { s with ps := { s.ps with waiting := [⟨.freeze, .clearSeq 1⟩] } }.ps.waiting ≠ []) ∧
      (let s := goingTo e true []; noWrites s = true ∧ s.power.quiet = true ∧ ∃ d ∈ s.entryDoms, s.domDown d = false) ∧
      (let s := goingTo e true (allDoms.filter (· ≠ 2))
       (∀ d ∈ s.entryDoms, s.domDown d = true) ∧ s.dom 2 = DS.on) ∧
      (let s := goingTo e true allDoms
       (∀ d ∈ s.entryDoms, s.domDown d = true) ∧ s.domDown 2 = true ∧ s.power.boot = true) := by decide +kernel

/-- The wake sources in `STATE` st, source 1 enabled and seen where `w`. -/
def waking (st e : Nat) (w : Bool) : State :=
  (put up [(F.LODGE_PWR_STATE_STATE, st), (⟨R.LODGE_WAKE_EN, 0, 9⟩, 2)]).updPower
    (fun p => { p with entering := e, wakeReq := if w then 2 else 1 })

/-- Does only a wake from deep standby count? -/
def deep (s : State) : Bool :=
  s.getF F.LODGE_PWR_STATE_STATE = 4 || (s.getF F.LODGE_PWR_STATE_STATE = 5 && s.power.entering = 4)

theorem test_wit_PowerStateEntryAndWake :
    (∀ x ∈ [(5, 3), (5, 4), (3, 0), (6, 0), (4, 0)],
      (waking x.1 x.2 true).powered = true ∧ (waking x.1 x.2 true).getF F.LODGE_PWR_STATE_STATE = x.1 ∧
      (waking x.1 x.2 true).wakeBits (deep (waking x.1 x.2 true)) ≠ [] ∧
      (waking x.1 x.2 false).wakeBits (deep (waking x.1 x.2 false)) = []) ∧
    up.wrAcc .csS R.LODGE_WAKE_FRC_HI = .ok ∧ up.now < 0 + 2 ^ 32 * ((1 : Word).toNat % 2 ^ 31) ∧
    (let s := up.setF F.LODGE_WAKE_FRC_LO_WAKE_FRC 0
     s.getF F.LODGE_WAKE_FRC_LO_WAKE_FRC + 2 ^ 32 * ((0x80000000 : Word).toNat % 2 ^ 31) ≤ s.now ∧
      s.wrAcc .csS R.LODGE_WAKE_FRC_HI = .ok ∧ (0x80000000 : Word).toNat.testBit 31 = true ∧ (0 : Word).toNat.testBit 31 = false) ∧
    (let s := (put up [(F.LODGE_WAKE_FRC_LO_WAKE_FRC, 0), (F.LODGE_WAKE_FRC_HI_WAKE_FRC, 0)]).updPower
       (fun p => { p with wakeArmed := true })
     s.power.wakeArmed = true ∧ s.wakeFrc ≤ s.now ∧ up.power.wakeArmed = false ∧
      (s.setF F.LODGE_WAKE_FRC_LO_WAKE_FRC 1).now < (s.setF F.LODGE_WAKE_FRC_LO_WAKE_FRC 1).wakeFrc) := by
  decide +kernel

/-- A state with domain `d` in state `st`, its unit there. -/
def domIn (d st : Nat) : State := up.setF (F.dom d) st

theorem test_wit_DomainRequests :
    (∀ d ∈ [2, 13], 2 ≤ d ∧ d ≤ 13 ∧ up.powered = true ∧ up.domAbsent d = false ∧ up.domUnused d = false ∧
      up.dom 2 = DS.on ∧ up.wrAcc .csS R.LODGE_DOM_ON = .ok ∧ up.dom d = DS.on) ∧
    (let s := up.setF F.SYS_PLAN_STAT_STATE 3; s.domUnused 4 = true ∧ s.domUnused 12 = true) ∧
    (∀ st ∈ [DS.off, DS.pwrUp, DS.shutdown, DS.pendingOn, DS.pendingOff, DS.lockout], let s := domIn 13 st
      s.hasHeld 13 = false ∧ s.dom 13 = st ∧ s.domUnused 13 = false ∧ s.dom 2 = DS.on ∧
      s.wrAcc .csS R.LODGE_DOM_ON = .ok) ∧
    (up.dom 2 = DS.on ∧ up.offRefused 2 = true ∧ up.wrAcc .csS R.LODGE_DOM_OFF = .ok) ∧
    (∀ st ∈ [DS.on, DS.pwrUp, DS.pendingOn], let s := (plan [] up).setF (F.dom 4) st
      s.dom 4 = st ∧ s.offRefused 4 = true ∧ s.wrAcc .csS R.LODGE_DOM_OFF = .ok) ∧
    (∀ st ∈ [DS.on, DS.pwrUp, DS.pendingOn, DS.off, DS.shutdown, DS.pendingOff, DS.lockout], let s := domIn 13 st
      s.dom 13 = st ∧ s.offRefused 13 = false ∧ s.hasHeld 13 = false ∧ s.wrAcc .csS R.LODGE_DOM_OFF = .ok) := by
  decide +kernel

theorem test_wit_DomainTransitions :
    (∀ d ∈ [3, 13], let s := domIn d DS.shutdown
      s.powered = true ∧ s.domAbsent d = false ∧ s.dom 2 = DS.on ∧ s.dom d = DS.shutdown ∧ s.hasHeld d = false ∧
      s.heldOn d = false ∧ s.wanted d = false ∧ s.power.domReset.contains d = false ∧
      (s.updPower (fun p => { p with held := [(d, .work)] })).hasHeld d = true) ∧
    (∀ d ∈ [4, 12], let s := (domIn d DS.shutdown).setF F.SYS_PLAN_STAT_STATE 3
      s.domUnused d = true ∧ s.dom d = DS.shutdown ∧ s.dom 2 = DS.on ∧ s.power.domReset.contains d = false ∧
        (domIn d DS.shutdown).domUnused d = false) ∧
    (∀ d ∈ [3, 13], (domIn d DS.pendingOn).dom d = DS.pendingOn ∧ (domIn d DS.pwrUp).mayRise d = true ∧
      (domIn d DS.off).mayRise d = false ∧ up.domDown d = false ∧ (domIn d DS.off).domDown d = true) ∧
    (∀ d ∈ [5, 13], let s := at_ 520000 up
      s.domOn d = true ∧ s.hasHeld d = false ∧ s.wanted d = false ∧ s.idleBusy d = false ∧
      s.since (s.idleFrom d) (1000 * s.idleMs d) = true ∧
      (at_ 519999 up).since (s.idleFrom d) (1000 * s.idleMs d) = false ∧ (domIn d DS.off).domOn d = false) ∧
    ({ up with bv := { up.bv with searches := [{ cls := 1, sys := 0, svid := 5, sig := 0 }] } }.idleBusy 5 = true) ∧
    (let s := (domIn 13 DS.off).setF F.LODGE_DOM_FLAGS_FAULT 0x800
     s.wrAcc .csS R.LODGE_DOM_FLAGS = .ok ∧ s.bit F.LODGE_DOM_FLAGS_FAULT (13 - 2) = true ∧ s.dom 13 ≠ DS.lockout) := by
  decide +kernel

theorem test_wit_ResetSources :
    999 < 1000 ∧ (up.powered = true ∧ up.power.resetPinLow = false ∧ 10000 ≤ 10000 ∧ 1000 ≤ 1000) ∧
    (up.updPower (fun p => { p with resetPinLow := true })).power.resetPinLow = true ∧
    (∀ src ∈ [ResetSrc.swReset, .wdtSys, .tamper, .update],
      (up.updPower (fun p => { p with resetHolds := [⟨src, allDoms⟩] })).power.resetHolds.any (·.src = src) = true) ∧
    up.wrAcc .csS R.LODGE_RST_REQ = .ok ∧ (0xC3A4 % 65536 ≠ 0xC3A5 ∧ 0xC3A5 % 65536 = 0xC3A5) ∧
    allDoms.filter (4 : Nat).testBit ≠ [] ∧ allDoms.filter (0xC003 : Nat).testBit = [] := by decide +kernel

theorem test_wit_ClocksAndCrossings :
    (∀ p ∈ [Pll.sys, .corr, .eth], (pllLockBit p).isSome = true ∧ up.pllLocked p = true) ∧
    (up.pllLocked .bandA = true ∧ up.pllLocked .bandB = true) ∧
    (let s := up.setF F.LODGE_CLK_STAT_SYS_LOCK 0
     s.pllLocked .sys = false ∧ s.flag F.LODGE_CLK_STAT_TCXO_OK = true ∧ s.power.boot = false ∧
      (pllDoms .sys).filter (fun d => !s.domDown d) ≠ [] ∧ s.power.resetHolds = []) ∧
    (up.setF F.LODGE_CLK_STAT_TCXO_OK 0).flag F.LODGE_CLK_STAT_TCXO_OK = false ∧
    (∀ id ∈ [1, 6], (up.xings[id]?).isSome = true ∧ (∀ d ∈ xingDoms id, up.domOn d = true) ∧
      ∀ dir ∈ [0, 1], (up.xings[xingIdx id dir]?).any (fun x => !x.resync) = true ∧
        ((up.updXing (xingIdx id dir) (fun x => { x with resync := true })).xings[xingIdx id dir]?).any (·.resync) = true) ∧
    ((up.updXing 7 (fun x => { x with resync := true })).xings[7]?).any (·.resync) = true := by decide +kernel

/-- What the checks of a swap make of it: none while a use of a key is counted, else whether it passes. -/
def judged (s : State) : Option Bool :=
  let r := s.checkImage .swap s.swap.image (s.swapBase s.swap.image)
  r.1.map (fun v => match r.2.swapJudged r.2.swap.image v with | .ok _ => true | .error _ => false)

/-- Two nodes and the straight edge of 1 m from one to the other. -/
def laneGraph : Bytes :=
  body 64 [(0, 2, 2), (2, 2, 1), (16, 2, 1), (18, 2, 1), (32, 2, 2), (34, 2, 1), (36, 4, 1000), (48, 2, 1), (50, 2, 1),
    (52, 2, 2), (56, 4, 1000), (60, 2, 2000), (62, 2, 0xFFFF)]

/-- A swap of that LANE_GRAPH over plan 5, SWAP_SEQ 3, its signature of KEY_ID 7 (z, z) for the digest z. -/
def swapImage : Bytes :=
  body 76 [(0, 4, 0x4E414C50), (4, 2, 1), (6, 2, 80), (8, 2, 0x9640), (10, 2, 1), (12, 4, 264), (16, 4, 5), (24, 4, 3), (32, 4, 80),
    (36, 2, 1), (40, 4, 160)] ++ leBytes 4 0xfd91712a ++ body 16 [(0, 2, T.LANE_GRAPH), (4, 4, 96), (8, 4, 64), (12, 4, 0x71d453a2)] ++
  laneGraph ++ body 8 [(0, 4, 7), (4, 2, 2)] ++ (List.replicate 2 (beBytes 48
    0xe3822bc007588013e14bd83765eb1577ff79661c26b3ae23c61e50065ee490fed414597a8cb13fc5996cbd181e72a870)).flatten

/-- A swap in VERIFYING, its image in the buffer, the key of its signature, R − G for the point R with x = z, in slot 9. -/
def verifying (img : Bytes) (k : KeySlot) : State :=
  let s := put up [(F.SYS_SWAP_STAT_STATE, 1), (F.SYS_PLAN_ID, 5)]
  { s with
    swap := { s.swap with image := img }
    org := { s.org with slots := [(9, { k with cls := Cls.PLAN_SIGN, keyId := 7, key := byte 4 ::
      (beBytes 48 0x3787c571d44a445a91e65431604dd3178bf0d5b7357dff354cf6855110192e42376353ae07c7e37342bdc94a7a73e51c ++
       beBytes 48 0xbc06b6a8e908a9a3aa306f9381c01011435d4d2ef62747ef0b8f1a5057ac6aa47ee4938c67fb24b8bf1054d2a321a391) })] } }

theorem test_wit_SwapRequestAndVerify :
    up.wrAcc .csS R.SYS_SWAP_CTRL = .ok ∧
    (∀ st ∈ [1, 3], (up.setF F.SYS_SWAP_STAT_STATE st).getF F.SYS_SWAP_STAT_STATE ∈ [1, 2, 3]) ∧
    up.getF F.SYS_SWAP_STAT_STATE ∉ [1, 2, 3] ∧
    (let s := verifying [] {}
     s.getF F.SYS_SWAP_STAT_STATE = 1 ∧ s.swap.storing = false ∧ s.swapCounting = false ∧ judged s = some false) ∧
    judged (verifying swapImage { limited := true, persist := true, uses := 1 }) = none ∧
    { up with ps := { up.ps with waiting := [⟨.keyCount .swap 9 [], .clearSeq 1⟩] } }.swapCounting = true := by
  decide +kernel

theorem test_wit_SwapRequestAndVerify_passes : judged (verifying swapImage {}) = some true ∧
    (let r := (verifying swapImage {}).checkImage .swap swapImage ((verifying swapImage {}).swapBase swapImage)
     r.2.getF F.SYS_SWAP_STAT_STATE ≠ 2) := by decide +kernel

/-! ### Witnesses: host port, mailboxes, claims, streams -/

/-- The host's select S low, its transaction open or not. -/
def selected (t : Option Sel) : State := { up with hspi := { up.hspi with lowS := true, txn := t } }

/-- A write of LODGE_WAKE_EN posted by CS_S. -/
def posted (a : Nat) : PostedWrite := ⟨.csS, a, 1, false, none⟩

theorem test_wit_HspiTransactions :
    (Sel.ns ≠ Sel.s ∧ up.power.off = false ∧ up.hspi.low .s = false ∧ up.hspi.txn ≠ some .ns) ∧
    (let s := { up with hspi := { up.hspi with lowNs := true, txn := some .ns } }
     s.hspi.low .s = false ∧ s.hspi.txn = some .ns) ∧
    (let s := selected (some .s); s.hspi.low .s = true ∧ s.hspi.txn = some .s) ∧
    (let s := selected none
     s.hspiSel? = some .s ∧ (7 : Byte) ∉ [(2 : Byte), 3, 5, 6] ∧ s.hspi.queue = [] ∧ 0xFFFFFFFF < 2 ^ 32 ∧
      s.rdAcc Sel.s.master (accAddr 0xFFFFFFFF) = .ok ∧ (List.replicate 128 (byte 0)).length % wordLen 0x10004 = 0 ∧
      s.hspi.used + 128 / 4 ≤ 32) ∧
    (let s := { selected none with hspi := { lowS := true, queue := [posted R.LODGE_WAKE_EN] } }
     s.hspi.queue = [posted R.LODGE_WAKE_EN] ∧ s.hspi.queue ≠ [] ∧ s.hspi.waiting = none ∧ s.hspiSel? = some .s ∧
      (posted R.LODGE_WAKE_EN).req = none ∧ s.eth.opened = [] ∧ s.wrAcc .csS (accAddr R.LODGE_WAKE_EN) = .ok ∧
      ownEffect (accAddr R.LODGE_WAKE_EN) = false) ∧
    { up with part := .ewg9620 }.wrAcc .csS (accAddr 0xB0000) = .none := by decide +kernel

/-- Both Ethernet ports enabled, linked and serving the host channel. -/
def linked : State :=
  put up [(F.ETH_Pn_CTRL_EN 0, 1), (F.ETH_Pn_CTRL_EN 1, 1), (F.ETH_Pn_STAT_LINK 0, 1), (F.ETH_Pn_STAT_LINK 1, 1),
    (F.ETH_Pn_CTRL_HOST_CH 0, 1), (F.ETH_Pn_CTRL_HOST_CH 1, 1), (F.ETH_Pn_CTRL_ADV 1, 4)]

/-- PTP runs on both ports, each a time receiver of domain 0 over UDP. -/
def ptpUp : State :=
  put (plan [(T.TIME, body 64 [(16, 1, 1), (17, 1, 3), (19, 1, 1)])] linked) [(F.ETH_Pn_STAT_PTP 0, 1), (F.ETH_Pn_STAT_PTP 1, 1)]

theorem test_wit_EthernetPortsAndPtp :
    (up.powered = true ∧ up.domOn 11 = true) ∧
    (let s := linked.setF (F.ETH_Pn_STAT_LINK 1) 0
     s.flag (F.ETH_Pn_CTRL_EN 1) = true ∧ s.flag (F.ETH_Pn_STAT_LINK 1) = false ∧
      (s.getF (F.ETH_Pn_CTRL_ADV 1)).testBit (3 - 1) = true ∧ s.wrAcc .csS (R.ETH_Pn_CTRL 1) = .ok) ∧
    (linked.flag (F.ETH_Pn_STAT_LINK 1) = true ∧ linked.eth.lastPort ≠ 1) ∧
    (linked.ethUp 1 = true ∧ linked.ethWatch = false ∧ 7 ∉ [2, 3, 5]) ∧
    (let s := linked.setF (F.dom 2) DS.off; s.ethUp 1 = true ∧ s.ethWatch = true ∧ s.domOn 11 = true) ∧
    (let s := State.setF { ptpUp with eth := { ptpUp.eth with ptpClients := List.replicate 64 (1, 0) } } ⟨R.SDL_PTP_STAT, 4, 4⟩ 6
     s.ptpOn 1 = true ∧ s.ptpState 1 = 6 ∧ s.eth.ptpClients.contains (1, sync1.src) = true ∧
      s.eth.ptpClients.contains (1, 5) = false ∧ 64 ≤ (s.eth.ptpClients.filter (fun p => decide (p.1 = 1))).length) ∧
    (0 : Word).getLsbD 0 = false ∧
    (∀ p ∈ [0, 1], ptpUp.ptpOn p = true ∧ ptpUp.ptpMine sync1 = true ∧ ptpUp.ptpSends p sync1 = false ∧
      (ptpUp.setF ⟨R.SDL_PTP_STAT, 4 * p, 4⟩ 6).ptpSends p sync1 = true ∧
      (ptpUp.setF ⟨R.SDL_PTP_STAT, 4 * p, 4⟩ 6).ptpOn p = true ∧ ptpUp.ptpMine { sync1 with domain := 5 } = false ∧
      ptpUp.ptpStates p ⟨8, 9, 6, none, 0, 0, false⟩ = false ∧ ptpUp.ptpStates p ⟨9, 7, 6, none, 0, 0, false⟩ = true ∧
      { ptpUp with eth := { ptpUp.eth with ptpSlave := some p } }.ptpStates p ⟨9, 7, 6, none, 0, 0, false⟩ = true ∧
      { ptpUp with eth := { ptpUp.eth with ptpSlave := some p } }.ptpOn p = true) := by decide +kernel

/-- A request of source 5 with SEQ 9, kept with its reply or open. -/
def asked (kept : Bool) : State :=
  if kept then { linked with eth := { linked.eth with kept := [⟨5, 9, 0, 5, 0, 1, 0, []⟩] } }
  else { linked with eth := { linked.eth with opened := [⟨5, 9, 0, 3, 0x10000, 1, 0, []⟩] } }

theorem test_wit_EthernetHostChannel :
    (∀ p ∈ [0, 1], linked.ethUp p = true ∧ linked.flag (F.ETH_Pn_CTRL_HOST_CH p) = true ∧ linked.testing p = false ∧
      linked.ethWatch = false) ∧
    (asked true).eth.kept.any (fun r => decide (r.src = 5 ∧ r.seq = 9)) = true ∧
    ((asked false).eth.kept.any (fun r => decide (r.src = 5 ∧ r.seq = 9)) = false ∧
      (asked false).eth.opened.any (fun r => decide (r.src = 5 ∧ r.seq = 9)) = true) ∧
    (linked.eth.kept.any (fun r => decide (r.src = 5 ∧ r.seq = 9)) = false ∧
      linked.eth.opened.any (fun r => decide (r.src = 5 ∧ r.seq = 9)) = false) ∧
    (0x10000 < 2 ^ 32 ∧ ethCount 0x10000 257 = false ∧ ethCount 0x10000 256 = true ∧ ethCount 0x10000 1 = true ∧
      portOf 0x10000 = none) ∧
    (linked.hspi.queue = [] ∧ (((linked.incF (F.ETH_Pn_RX_OK 1)).ethWake).updEth (fun e =>
      { e with lastPort := 1 })).rdAcc .eth (accAddr 0x10000) = .ok) ∧
    { linked with hspi := { linked.hspi with queue := [posted 0x10000] } }.hspi.queue ≠ [] ∧
    (32 < linked.hspi.used + 33 * 1 ∧ linked.hspi.used + 32 * 1 ≤ 32 ∧ linked.hspi.used + 16 * 2 ≤ 32) ∧
    (⟨5, 9, 0, 3, 0x10000, 1, 0, []⟩ : EthOpen).again = [] := by decide +kernel

/-- A plan that maps mailbox channel 0 to flag 1 of task 17. -/
def mapped : State := plan [(T.TASKS, body 64 [(4, 2, 8), (6, 2, 8), (16, 2, 0x111)])] (tasked up)

/-- Channel 0's wake is to be raised again, its message still there where `go`. -/
def reposted (go : Nat) (s : State) : State :=
  put { s with arb := { s.arb with repost := [0] } } [(F.MBX_CTRL_GO 0, go), (F.SYS_BOOT_STAT_STEP, 9)]

theorem test_wit_MailboxMessages :
    (up.wrAcc (.core 0) (R.MBX_CTRL 31) = .ok ∧ up.flag (F.MBX_CTRL_GO 31) = false ∧ (Master.core 0).isCore = true ∧
      chanH2d 31 = false) ∧
    (mapped.wrAcc .csS (R.MBX_CTRL 0) = .ok ∧ mapped.flag (F.MBX_CTRL_GO 0) = false ∧ Master.csS.isCore = false ∧
      chanH2d 0 = true ∧ (mapped.mbxMap? 0).isSome = true) ∧
    (let s := up.setF (F.MBX_CTRL_GO 0) 1
     s.wrAcc (.core 0) (R.MBX_CTRL 0) = .ok ∧ s.flag (F.MBX_CTRL_GO 0) = true ∧ chanSender (.core 0) 0 = false) ∧
    (up.wrAcc .csS (0x30000 + 0x80 * 31 + 4 * 15) = .ok ∧ up.flag (F.MBX_CTRL_GO 31) = false) ∧
    (∀ m ∈ [Master.csS, .csNs], up.wrAcc m R.MBX_HRST = .ok) ∧ (0 % 65536 ≠ 0xC3A5 ∧ 0xC3A5 % 65536 = 0xC3A5) ∧
    (∀ go ∈ [0, 1], let s := reposted go mapped
      s.arb.repost.contains 0 = true ∧ s.domOn 3 = true ∧ s.power.boot = false ∧ 9 ≤ s.getF F.SYS_BOOT_STAT_STEP ∧
      s.flag (F.MBX_CTRL_GO 0) = decide (go = 1) ∧ (s.mbxMap? 0).isSome = true) ∧
    (let s := reposted 1 up
     s.arb.repost.contains 0 = true ∧ s.domOn 3 = true ∧ s.power.boot = false ∧ 9 ≤ s.getF F.SYS_BOOT_STAT_STEP ∧
      s.mbxMap? 0 = none) ∧
    (up.arb.repost.contains 0 = false ∧ (up.setF (F.dom 3) DS.off).domOn 3 = false) := by
  decide +kernel

theorem test_wit_MailboxWritesWhilePosted :
    ∀ c ∈ [0, 31], let s := up.setF (F.MBX_CTRL_GO c) 1
      s.flag (F.MBX_CTRL_GO c) = true ∧ s.wrAcc .csS (0x30000 + 0x80 * c + 4 * 15) = .ok ∧
      s.wrAcc .csS (R.MBX_CTRL c) = .ok ∧ (1 : Word).getLsbD 1 = false := by decide +kernel

theorem test_wit_ClaimGoesToTheLowestMaster :
    up.flag (F.MBX_CLAIM_INFOn_HELD 31) = false ∧ ([Master.core 7, .csS, .tool].map Master.id).Nodup ∧
    Master.core 7 ∈ [Master.core 7, .csS, .tool] ∧ (Master.core 7).id < 256 ∧
    (∀ m ∈ [Master.core 7, .csS, .tool], (Master.core 7).id ≤ m.id ∧ up.rdAcc m (R.MBX_CLAIMn 31) = .ok) := by
  decide +kernel

/-- Claim 31 held by CS_S. -/
def claimed : State := put up [(F.MBX_CLAIM_INFOn_HELD 31, 1), (F.MBX_CLAIM_INFOn_OWNER 31, Master.csS.id)]

theorem test_wit_HeldClaimsAndLeases :
    (claimed.flag (F.MBX_CLAIM_INFOn_HELD 31) = true ∧ claimed.rdAcc .csS (R.MBX_CLAIMn 31) = .ok ∧
      claimed.wrAcc .csS (R.MBX_CLAIMn 31) = .ok ∧ claimed.getF (F.MBX_CLAIM_INFOn_OWNER 31) = Master.csS.id ∧
      2 ≤ (2 : Word).toNat) ∧
    (claimed.wrAcc .tool (R.MBX_CLAIMn 31) = .ok ∧ claimed.getF (F.MBX_CLAIM_INFOn_OWNER 31) ≠ Master.tool.id) ∧
    (claimed.wrAcc .csS (R.MBX_CLAIM_LEASEn 31) = .ok ∧ up.flag (F.MBX_CLAIM_INFOn_HELD 31) = false ∧
      up.wrAcc .csS (R.MBX_CLAIM_LEASEn 31) = .ok) ∧
    (let s := { claimed with leases := claimed.leases.set 31 { us := 2 } }
     (s.leases.getD 31 {}).expired = false ∧ (at_ 25 s).since (s.leases.getD 31 {}).start ((s.leases.getD 31 {}).us - 1) = false ∧
      (at_ 26 s).since (s.leases.getD 31 {}).start ((s.leases.getD 31 {}).us - 1) = true) ∧
    ((claimed.leases.getD 31 {}).expired = false ∧ claimed.flag (F.MBX_CLAIM_INFOn_TROUBLE 31) = false ∧
      (claimed.setF (F.MBX_CLAIM_INFOn_TROUBLE 31) 1).flag (F.MBX_CLAIM_INFOn_TROUBLE 31) = true) := by decide +kernel

/-- Window `w` with one packet of `n` words. -/
def filled (w n : Nat) : State :=
  { up with strms := up.strms.set w { pkts := [⟨List.replicate n ⟨0, 4, true, 0⟩, true, false⟩], seq := 1 } }

theorem test_wit_StreamPorts :
    (winCfg 0 = some ⟨false, false, 1024, false⟩ ∧ 0 < up.strms.length ∧ masterOf Master.csS.id = .csS ∧
      up.rdAcc .csS (strmPort 0) = .ok ∧ (up.strm 0).head? (up.flag (F.SYS_STRM_CTRL_CUT_THROUGH 0)) = none) ∧
    (((filled 0 1).strm 0).head? ((filled 0 1).flag (F.SYS_STRM_CTRL_CUT_THROUGH 0))).isSome = true ∧
    (filled 0 1).getF (F.SYS_STRM_WM_WM 0) = 0 ∧
    (up.rdAcc .csS (strmPort 5) = .ok ∧ up.wrAcc .csS (strmPort 5) = .ok ∧ up.domOn 3 = true ∧
      (up.strm 5).level < 256 ∧ up.getF (F.SYS_STRM_WM_WM 5) = 0 ∧ (winCfg 5).any (·.isIn) = true ∧
      (winCfg 5).any (·.depth = 256) = true ∧ 5 < up.strms.length) ∧
    (256 ≤ ((filled 5 256).strm 5).level ∧ 5 < (filled 5 256).strms.length) ∧
    ((2 ^ 62 : DWord).getLsbD 62 = true ∧ (up.setDom 3 DS.off).domOn 3 = false ∧
      (up.setDom 3 DS.off).wrAcc .csS (strmPort 5) = .ok) ∧
    (up.wrAcc .csS (R.SYS_STRM_CTRL 0) = .ok ∧ up.wrAcc .csS (R.SYS_STRM_CTRL 5) = .ok ∧
      (winCfg 5).any (·.fleet) = true ∧ Sparse.wf resetOf up.regs = true ∧ Memory.wf up.plan.staging = true ∧
      Memory.wf up.upd.bytes = true) := by decide +kernel

/-! ### Witnesses: Arbour -/

/-- A packet of these bytes. -/
def pkt (b : Bytes) : Pkt := ⟨(List.range (b.length / 4)).map (fun k => ⟨word (leAt b (4 * k) 4), 4, false, k⟩), true, false⟩

/-- WI_SUBMIT of the secure group with one item of a type and task, PAYLOAD_LEN as given. -/
def submitted (typ task len : Nat) : State :=
  let s := tasked up
  { s with strms := s.strms.set 5 { pkts := [pkt (body 32 [(0, 2, typ), (2, 1, task), (8, 2, len)])], seq := 8 } }

/-- The first failing check of the item at the head of WI_SUBMIT. -/
def refusal (s : State) : Option (Nat × Nat) :=
  match takePkt (s.strm 5).pkts with
  | some (p, ps) => (s.setStrm 5 { s.strm 5 with pkts := ps }).wiRefusal .sec
      (s.quota .sec ≤ s.inFlightOf .sec || 512 ≤ s.inFlight)
      (wiFormed p.data p.words.length ((p.words.getLast?.map (·.bytes)).getD 0)) p.data
  | none => some (99, 0)

theorem test_wit_WorkItemSubmission :
    (let s := submitted W.NOP 16 0
     s.domOn 2 = true ∧ s.domOn 3 = true ∧ (takePkt (s.strm (submitWin .sec)).pkts).isSome = true ∧ refusal s = none ∧
      s.route .sec W.NOP 16 = some task16 ∧ s.domOn task16.dom = true) ∧
    refusal (submitted W.NOP 16 4) = some (St.MALFORMED, 0) ∧ refusal (submitted W.SDL_STEER 16 0) = some (St.NO_PLAN, 0) ∧
    refusal (submitted W.CANCEL 0 0) = none := by decide +kernel

/-- A host task run by its flags, its flag raised. -/
def task17r : TaskSt := { task17 with prio := 0, flags := 2 }

/-- A state where it alone is to run. -/
def raised : State := { up with arb := { up.arb with tasks := [task17r] } }

/-- Its routine's domain is ON, whatever unit has the routine. -/
theorem raised_entry : raised.entry? task17r = some (0, none) := by
  have hd : ∀ u, raised.domOn (unitDom u) = true := by
    intro u; unfold unitDom; repeat' split
    all_goals decide +kernel
  have hg : task17r.gate = true ∧ raised.taskRuns task17r < task17r.conc := by decide +kernel
  have ho : raised.domOn task17r.dom = true := by
    rw [show task17r.dom = unitDom (Config.routineUnit 0) by simp [TaskSt.dom, task17r, task17, task16, handlerDom]]; exact hd _
  simp [State.entry?, hg, ho]; decide

theorem raised_pick : raised.pick 16 0 = some (17, 0, none) := by
  have ht : raised.allTasks.filter (·.prio = 0) = (raised.task? 0).toList ++ [task17r] := by decide +kernel
  have h0 : (raised.task? 0).toList.filterMap (fun t => (raised.entry? t).map (fun e => (t.id, e.1, e.2))) = [] := by
    decide +kernel
  have he : raised.entriesAt 0 = [(17, 0, none)] := by
    rw [State.entriesAt, ht, List.filterMap_append, h0]; simp [raised_entry]; rfl
  have ho : raised.oldestAt 0 = some (17, 0, none) := by
    rw [State.oldestAt, he]; decide +kernel
  have hr : ¬ (raised.reserveLevel < 0 ∧ raised.idleCores.length ≤ raised.reserveCores) := by decide +kernel
  rw [State.pick, if_neg hr, ho]

theorem test_wit_DispatchStartsTheOldestEntry_event : raised.domOn 3 = true ∧ raised.idleCores.head? = some 0 ∧
    raised.pick 16 0 = some (17, 0, none) ∧ raised.arb.tasks.find? (·.id = 17) = some task17r :=
  ⟨by decide +kernel, by decide +kernel, raised_pick, by decide +kernel⟩

theorem test_wit_DispatchStartsTheOldestEntry :
    (let i := { job W.NOP [] with phase := .queued }
     let s := { tasked up with arb := { (tasked up).arb with items := [i] } }
     s.domOn 3 = true ∧ s.idleCores.head? = some 0 ∧ s.pick 16 0 = some (16, 0, some 1) ∧ s.item? 1 = some i) ∧
    { up with arb := { up.arb with cores := List.replicate 8 1 } }.idleCores = [] ∧ up.pick 16 0 = none := by decide +kernel

theorem test_wit_CompletionAndRecords :
    (let i := { job W.NOP [] with finished := true, quiet := true }
     let s := with1 i up
     s.item? 1 = some i ∧ i.phase = .running 0 ∧ i.grp ≠ .int ∧ i.status = St.OK ∧ s.linkItem 1 = false) ∧
    (let i := { job W.NOP [] with finished := true }
     let s := with1 i up
     s.item? 1 = some i ∧ i.quiet = false ∧ s.linkItem 1 = false ∧
      s.canPush .sec (recordOf i.typ i.task i.status i.tag i.result 0 (s.now % 2 ^ 32)).length = true) ∧
    (let s := { up with arb := { up.arb with tasks := [{ task17 with runs := [7] }] } }
     s.arb.tasks.find? (·.id = 17) = some { task17 with runs := [7] } ∧ [7].contains 7 = true) ∧
    (∀ g ∈ [Grp.sec, .ns], let s := up.setWaits g [List.replicate 64 (byte 0)]
      g ≠ .int ∧ s.domOn 2 = true ∧ s.waits g = [List.replicate 64 (byte 0)] ∧ s.hasRoom (doneWin g) (packLen 64) = true) ∧
    (let i := { job W.NOP [] with finished := true, phase := .done 0 }
     let s := with1 i up
     s.waits .sec = [] ∧ s.doneWaiting .sec = [i] ∧ s.hasRoom (doneWin .sec) (packLen i.record.length) = true) := by
  decide +kernel

theorem test_wit_CoreFaultsAndWatchdog :
    up.domOn 3 = true ∧ up.arb.cores.getD 7 0 ≠ 1 ∧
    (let s := with1 (job W.NOP []) up
     s.arb.cores.getD 0 0 = 1 ∧ s.arb.coreFaults = [] ∧ (s.itemOn 0).isSome = true) ∧
    (let s := { up with arb := { up.arb with cores := List.replicate 8 1 } }
     s.arb.cores.getD 7 0 = 1 ∧ s.arb.coreFaults = [] ∧ s.itemOn 7 = none) ∧
    (with1 { job W.NOP [] with phase := .queued } (tasked up)).lowReady.isSome = true ∧ up.lowReady = none := by
  decide +kernel

theorem test_wit_EventFlags :
    ((tasked up).wrAcc .csNs R.ARB_EVT_SET = .ok ∧ (tasked up).mayEvent Master.csNs.secure 17 = true) ∧
    (up.wrAcc .csS R.ARB_EVT_SET = .ok ∧ up.mayEvent Master.csS.secure 15 = false) ∧
    ((tasked up).wrAcc .csS R.ARB_EVT_CLR = .ok ∧ (tasked up).mayEvent Master.csS.secure 16 = true ∧
      (tasked up).arb.tasks.find? (·.id = 16) = some task16) ∧
    (up.wrAcc .csS R.ARB_EVT_CLR = .ok ∧ up.mayEvent Master.csS.secure 255 = false) := by decide +kernel

theorem test_wit_ItemsOfArbour :
    (let s := (tasked up).setF (F.ARB_TASK_SEL_TASK.bank .csS) 16
     s.wrAcc .csS R.ARB_TASK_MASK = .ok ∧ s.getF (F.ARB_TASK_SEL_TASK.bank .csS) = 16 ∧
      s.arb.tasks.find? (·.id = 16) = some task16 ∧ task16.maskRw = true ∧ task16.may .sec = true ∧
      task16.event = false) ∧
    (let x := { task16 with access := 3 }
     let s := State.setF { up with arb := { up.arb with tasks := [x] } } (F.ARB_TASK_SEL_TASK.bank .csS) 16
     s.arb.tasks.find? (·.id = s.getF (F.ARB_TASK_SEL_TASK.bank .csS)) = some x ∧ x.maskRw = false) ∧
    up.arb.tasks.find? (·.id = up.getF (F.ARB_TASK_SEL_TASK.bank .csS)) = none ∧
    ((with1 (job W.NOP []) up).active? 1 W.NOP).isSome = true ∧
    (let i := job W.SIGNAL [17, 0x80000001]
     let s := with1 i (tasked up)
     s.active? 1 W.SIGNAL = some i ∧ s.mayEvent (i.grp ≠ .ns) (i.arg 0) = true) ∧
    (let i := job W.SIGNAL [15, 1]
     let s := with1 i (tasked up)
     s.active? 1 W.SIGNAL = some i ∧ s.mayEvent (i.grp ≠ .ns) (i.arg 0) = false) ∧
    (let s := { up with arb := { up.arb with waitInternal := [9] } }
     s.arb.waitInternal = [9] ∧ s.domOn 3 = true ∧ s.power.boot = false ∧ s.inFlight < 512) ∧
    (∀ i ∈ [{ job W.VB_READ [] with prog := [0, 0, 0, 0] }, { job W.PGL_PLAN [] with prog := [1] },
        { job W.BS_SEND [0x100] with prog := [2] }],
      let s := with1 i up
      s.item? 1 = some i ∧ i.finished = false ∧ i.phase.isDone = false ∧ i.prog ≠ [] ∧
        s.domOn (bandDom (bitsOf (i.arg 0) 8 1)) = true) := by decide +kernel

/-! ### Witnesses: Sundial -/

/-- An armed compare 127 with its target at 1 µs. -/
def armed : State := put up [(F.SDL_CMP_CTRL_ARMED 127, 1), (F.SDL_CMP_NS 127, 1000)]

theorem test_wit_Compares :
    (let s := put up [(F.SDL_CMP_CTRL_OWNER 127, 1), (F.SDL_CMP_SEC_LO 127, 9)]
     s.wrAcc .csS (R.SDL_CMP_CTRL 127) = .ok ∧ s.cmpMay 3 31 Master.csS.isCore Master.csS.secure = true ∧
      s.badTarget 127 Master.csS.secure = false ∧ s.tbNs 3 < s.cmpTarget 127) ∧
    (let s := put up [(F.SDL_CMP_CTRL_OWNER 127, 2)]
     s.cmpMay 3 31 false false = true ∧ s.badTarget 127 false = false ∧ s.cmpTarget 127 ≤ s.tbNs 3 ∧
      s.getF (F.SDL_CMP_PERIOD 127) = 0 ∧ s.flag (F.SDL_CMP_ACT_DISCARD_IF_LATE 127) = false ∧
      (s.setF (F.SDL_CMP_ACT_DISCARD_IF_LATE 127) 1).flag (F.SDL_CMP_ACT_DISCARD_IF_LATE 127) = true) ∧
    (let s := put up [(F.SDL_CMP_CTRL_OWNER 0, 1), (F.SDL_CMP_ACT_EVENT 0, 1)]
     s.wrAcc .csS (R.SDL_CMP_CTRL 0) = .ok ∧ s.cmpMay 0 0 false true = true ∧ s.badTarget 0 true = true) ∧
    (up.wrAcc .csNs (R.SDL_CMP_CTRL 0) = .ok ∧ up.cmpMay 0 0 Master.csNs.isCore Master.csNs.secure = false) ∧
    (up.domOn 2 = true ∧ up.flag (F.SDL_CMP_CTRL_ARMED 0) = false) ∧
    (armed.domOn 2 = true ∧ armed.flag (F.SDL_CMP_CTRL_ARMED 127) = true ∧
      (at_ 25 armed).now < armed.frcOf 3 (armed.cmpTarget 127) ∧
      (at_ 26 armed).frcOf 3 ((at_ 26 armed).cmpTarget 127) ≤ (at_ 26 armed).now ∧
      armed.getF (F.SDL_CMP_PERIOD 127) = 0 ∧
      (armed.setF (F.SDL_CMP_PERIOD 127) 5).getF (F.SDL_CMP_PERIOD 127) ≠ 0) := by decide +kernel

/-- PPS_OUT enabled, at a whole second of TB0 or a tick before it. -/
def ppsAt (n : Nat) : State := at_ n (up.setF F.SDL_CTRL_PPS_OUT_EN 1)

theorem test_wit_ConversionsAndCaptures :
    up.wrAcc .csNs R.SDL_CONV_GO = .ok ∧
    (let s := at_ 26 (up.updSdl (fun d => { d with pulses := [(15, 26)] }))
     (15, 26) ∈ s.sdl.pulses ∧ 26 ≤ s.now ∧ (∀ p ∈ s.sdl.pulses, p.1 = 14 → s.now < p.2) ∧
      (∀ p ∈ (at_ 25 s).sdl.pulses, p.1 = 15 → (at_ 25 s).now < p.2)) ∧
    (let s := ppsAt 26000000
     s.power.off = false ∧ s.flag F.SDL_CTRL_PPS_OUT_EN = true ∧ s.reached (s.timeF 6 1) 1000000000 = true ∧
      s.timeFlag 3 = false ∧ (ppsAt 25999999).reached 0 1000000000 = false ∧ up.flag F.SDL_CTRL_PPS_OUT_EN = false) ∧
    (let s := (plan [(T.TIME, body 64 [(1, 1, 8)])] up).setF F.SDL_STAT_UNTRUSTED 1
     s.timeFlag 3 = true ∧ s.flag F.SDL_STAT_UNTRUSTED = true ∧
      (s.setF F.SDL_STAT_UNTRUSTED 0).flag F.SDL_STAT_UNTRUSTED = false ∧
      (s.setF F.SDL_STAT_STATE Tb.LOCKED).getF F.SDL_STAT_STATE ≠ Tb.FREE) ∧
    (let s := { at_ 2600000 up with pads := { up.pads with ppsOut := true } }
     s.pads.ppsOut = true ∧ s.since s.sdl.ppsFrc s.ppsWidth = true ∧ (at_ 2599999 s).since 0 s.ppsWidth = false) ∧
    ((at_ 28599999 up).since up.sdl.ppsInFrc 1100000 = false ∧ (at_ 28600000 up).since up.sdl.ppsInFrc 1100000 = true) ∧
    ppsSteady [2000000000, 1000000000, 0] = true ∧
    (plan [(T.PINS, body 64 [(15, 1, 4)])] up).gpioFn 15 = 4 := by decide +kernel

/-- As TB0 reaches its first second. -/
def second (s : State) : State := at_ 26000000 s

theorem test_wit_Tb0Discipline :
    ((at_ 25999999 up).reached 0 1000000000 = false ∧ (second up).reached 0 1000000000 = true) ∧
    (∀ n ∈ [0, 1], let s := at_ 156000000 ptpUp
      s.ptpPort n = true ∧ s.flag (F.ETH_Pn_STAT_PTP n) = true ∧ s.domOn 3 = true ∧ s.domOn 11 = true ∧ s.testing n = false ∧
        s.timeF 23 1 ≠ 2 ∧ s.since (s.eth.ptpRx.getD n 0) 6000000 = true ∧ s.eth.ptpSlave ≠ some n ∧
        (at_ 155999999 ptpUp).since 0 6000000 = false) ∧
    (∀ p ∈ [plan [(T.TIME, body 64 [])] up, up], ∀ st ∈ [Tb.FREE, Tb.LOCKING, Tb.LOCKED, Tb.HOLDOVER],
      let s := second (p.setF F.SDL_STAT_STATE st)
      s.power.off = false ∧ (s.planActive = false ∨ s.srcValid = false) ∧ s.timeFlag 1 = false ∧
        s.getF F.SDL_STAT_STATE = st ∧ [0, 1].foldl State.ptpSilent s = s) ∧
    (let s := second { (plan [(T.TIME, body 64 [])] up).setF F.BV_STAT_TIME_VALID 1 with bv := { up.bv with meas := some (-7) } }
     s.power.off = false ∧ s.planActive = true ∧ s.srcValid = true ∧ s.degraded = false ∧ s.tb0Offset = some (-7) ∧
      s.getF F.SDL_STAT_STATE ≠ Tb.HOLDOVER ∧ [0, 1].foldl State.ptpSilent s = s) ∧
    ((up.setF F.SDL_CTRL_STEP_ALLOWED 1).flag F.SDL_CTRL_STEP_ALLOWED = true ∧ up.flag F.SDL_CTRL_STEP_ALLOWED = false ∧
      up.sdl.stepItem = false ∧ 1000000 < (1000001 : Int).natAbs ∧ (-1000000 : Int).natAbs ≤ 1000000) ∧
    (let s := (plan [(T.TIME, body 64 [])] up).setF F.SDL_STAT_STATE Tb.HOLDOVER
     s.getF F.SDL_STAT_STATE = Tb.HOLDOVER ∧ s.holdLimit ≤ s.holdTime ∧ s.timeFlag 3 = false) ∧
    (let p := plan [(T.SLOTFRAME, body 16 [(0, 2, 40)])] (put up [(F.SDL_STAT_SLOT_RUN, 1), (F.SDL_CTRL_STEP_ALLOWED, 1)])
     let s := p.updSdl (fun d => { d with stepBy := some 5 })
     s.sdl.stepBy = some 5 ∧ s.flag F.SDL_STAT_SLOT_RUN = true ∧ s.flag F.SDL_CTRL_STEP_ALLOWED = true ∧
      (at_ 64999 s).reached 0 2500000 = false ∧
      (at_ 65000 s).reached 0 2500000 = true ∧ asnOf ((at_ 65000 s).tbNs 0) % max s.slotL 1 ≠ 0 ∧
      (at_ (40 * 65000) s).reached 0 2500000 = true ∧ asnOf ((at_ (40 * 65000) s).tbNs 0) % max s.slotL 1 = 0) ∧
    (let s := second (up.updSdl (fun d => { d with stepBy := some 5 }))
     s.sdl.stepBy = some 5 ∧ s.flag F.SDL_STAT_SLOT_RUN = false ∧ (s.updSdl (fun d => { d with stepItem := true })).sdl.stepItem = true ∧
      s.stepDue = true ∧ s.sdl.stepItem = false ∧ s.flag F.SDL_CTRL_STEP_ALLOWED = false) := by decide +kernel

/-- TB0 follows PPS_IN, and may be stepped. -/
def extSrc (s : State) : State := put (plan [(T.TIME, body 64 [(0, 1, 1)])] s) [(F.SDL_CTRL_STEP_ALLOWED, 1)]

theorem test_wit_SundialWorkItems :
    (∀ a ∈ [0x1F03, 0x11F03], let i := job W.SDL_ARM [a] (body 8 [])
      let s := with1 i (up.setF (F.SDL_CMP_CTRL_OWNER 127) 1)
      s.active? 1 W.SDL_ARM = some i ∧ s.domOn 2 = true ∧ i.payload.length = 8 ∧
        s.cmpMay (bitsOf (i.arg 0) 0 2) (bitsOf (i.arg 0) 8 5) (i.grp = .int) (i.grp ≠ .ns) = true ∧
        (leAt i.payload 0 4).testBit 1 = false) ∧
    (let i := job W.SDL_ARM [0x1F03] (body 8 [(0, 1, 2), (4, 1, 15)])
     (leAt i.payload 0 4).testBit 1 = true ∧
      (with1 i up).mayEvent (i.grp ≠ .ns) (bitsOf (leAt i.payload 4 4) 0 8) = false) ∧
    (let i := job W.SDL_ARM [0x1F03] (body 8 [(0, 1, 2), (4, 1, 17)])
     (with1 i (tasked up)).mayEvent (i.grp ≠ .ns) (bitsOf (leAt i.payload 4 4) 0 8) = true) ∧
    up.cmpMay 3 31 false true = false ∧
    (∀ a ∈ [[3, 4], [3, 0, 5], [2, 0, 5], [2, 1, 5, 1], [3, 1, 5, 0], [3, 1, 5, 1], [3, 1, 5, 500000], [3, 1, 5, 500001],
        [3, 2, 0, 1], [1, 2, 0, 1], [2, 2, 0, 1], [0, 2, 0, 1], [1, 3, 0, 1]],
      ((with1 (job W.SDL_STEER a) up).active? 1 W.SDL_STEER).isSome = true ∧ up.tb0Src ≠ 1) ∧
    (∀ k ∈ [2, 3], let s := extSrc (with1 (job W.SDL_STEER [0, k, 0, 1]) up)
     s.tb0Src = 1 ∧ (s.active? 1 W.SDL_STEER).isSome = true ∧ s.flag F.SDL_CTRL_STEP_ALLOWED = true ∧
      (s.setF F.SDL_CTRL_STEP_ALLOWED 0).flag F.SDL_CTRL_STEP_ALLOWED = false) ∧
    (let s := up.updSdl (fun d => { d with slew3 := 65536, slew3Left := -1 })
     s.sdl.slew3 ≠ 0 ∧ ¬ (s.sdl.slew3Left.natAbs * (26000 * 65536) ≤ (25999 - s.sdl.slew3Frc) * s.sdl.slew3.natAbs) ∧
      s.sdl.slew3Left.natAbs * (26000 * 65536) ≤ (26000 - s.sdl.slew3Frc) * s.sdl.slew3.natAbs) := by decide +kernel

theorem test_wit_SlotStart :
    (up.domOn 2 = true ∧ up.sdl.lastSlot ≠ some (asnOf (up.tbNs 0)) ∧ up.flag F.SDL_STAT_SLOT_RUN = false ∧
      up.planActive = false ∧ (domIn 2 DS.off).domOn 2 = false) ∧
    (let s := plan [(T.SLOTFRAME, body 16 [(0, 2, 40)])] up
     s.planActive = true ∧ s.domOn 3 = true ∧ (s.setAsn (asnOf (s.tbNs 0))).slotIdx = 0 ∧
      ((at_ 65000 s).setAsn (asnOf ((at_ 65000 s).tbNs 0))).slotIdx ≠ 0) ∧
    (let s := (plan [] up).setF F.SDL_STAT_SLOT_RUN 1
     s.flag F.SDL_STAT_SLOT_RUN = true ∧ s.planActive = true ∧ s.sdl.lastSlot ≠ some (asnOf (s.tbNs 0))) := by
  decide +kernel

/-! ### Witnesses: Wicket -/

/-- A plan with axis 3 used: supply limits 9 to 48 V, VMAX, ACC, DEC, EDEC and JERK ceilings of 1000, STANDSTILL
100 ms, STALL_STEPS 2. -/
def wicketSec : Bytes :=
  body 256 [(192, 1, 9), (200, 2, 500), (208, 2, 100), (215, 1, 2), (210, 2, 90), (212, 2, 480), (214, 1, 80), (216, 4, 10), (220, 4, 1000), (224, 4, 1000),
    (228, 4, 1000), (232, 4, 1000), (236, 4, 1000), (240, 4, 0), (244, 4, 100000)]

/-- Axis 3 in a state, homed, its limits at their ceilings; no stop stands. -/
def axis (st : Nat) : State :=
  put (plan [(T.WICKET, wicketSec)] up) [(F.WKT_AXn_STAT_STATE 3, st), (F.WKT_AXn_STAT_HOMED 3, 1),
    (F.WKT_AXn_VMAX 3, 1000), (F.WKT_AXn_JERK 3, 100000), (F.WKT_AXn_ACC 3, 1000), (F.WKT_AXn_DEC 3, 1000),
    (F.WKT_AXn_EDEC 3, 1000), (F.GZB_STAT_STATE, Gz.RUN)]

theorem test_wit_AxisControl :
    ((axis Ax.DISABLED).wrAcc .csS (R.WKT_AXn_CTRL 3) = .ok ∧ (axis Ax.DISABLED).axUsed 3 = true ∧
      (axis Ax.DISABLED).axState 3 = Ax.DISABLED ∧ up.axUsed 3 = false) ∧
    (∀ st ∈ [Ax.MOVING, Ax.HOMING, Ax.EMERGENCY, Ax.HOLD, Ax.STALLED], (axis st).axState 3 = st ∧
      ((axis st).ax 3).pend = none) ∧
    (∀ st ∈ [Ax.DISABLED, Ax.CHECKING, Ax.FAULT], (axis st).axState 3 = st ∧ (axis st).wrAcc .csS (R.WKT_AXn_CTRL 3) = .ok) ∧
    (let s := (axis Ax.CHECKING).setF (F.WKT_AXn_IRUN_IRUN 3) 1000
     s.wktOn 3 = true ∧ s.axState 3 = Ax.CHECKING ∧ (-300 : Int) ≤ 900 ∧ s.vmMin 3 ≤ 900 ∧ 4800 ≤ s.vmMax 3 ∧
      (-301 : Int) < -300 ∧ (-300 : Int) < s.vmMin 3 ∧ (899 : Int) < s.vmMin 3 ∧ s.vmMax 3 < 4801 ∧
      10 * 99 < s.getF (F.WKT_AXn_IRUN_IRUN 3) ∧ ¬ 10 * 100 < s.getF (F.WKT_AXn_IRUN_IRUN 3)) ∧
    (let s := axis Ax.HOLD
     s.wrAcc .csS (R.WKT_AXn_VMAX 3) = .ok ∧ (1000 : Word).toNat ≤ s.axCeil 3 28 ∧ s.axCeil 3 28 < (1001 : Word).toNat ∧
      s.wrAcc .csS (R.WKT_AXn_DEC 3) = .ok ∧ (s.ax 3).edecNew = none ∧ (1000 : Word).toNat ≤ 2 * s.axCeil 3 36 ∧
      (1000 : Word).toNat ≤ s.getF (F.WKT_AXn_EDEC 3) ∧ s.getF (F.WKT_AXn_EDEC 3) < (1001 : Word).toNat ∧
      2 * s.axCeil 3 36 < (2001 : Word).toNat ∧ s.brakingTo 3 = none ∧ s.wrAcc .csS (R.WKT_AXn_EDEC 3) = .ok ∧
      (1000 : Word).toNat ≤ 2 * s.axCeil 3 40 ∧ s.getF (F.WKT_AXn_DEC 3) ≤ (1000 : Word).toNat ∧
      2 * s.axCeil 3 40 < (2001 : Word).toNat ∧ (999 : Word).toNat < s.getF (F.WKT_AXn_DEC 3)) ∧
    (let s := (axis Ax.FAULT).setF (F.WKT_AXn_FAULT_STALL 3) 1
     let f : Fld := ⟨R.WKT_AXn_FAULT 3, 0, 11⟩
     s.wrAcc .csS (R.WKT_AXn_FAULT 3) = .ok ∧ s.getF f ≠ 0 ∧ s.axState 3 = Ax.FAULT ∧
      s.getF f - (s.getF f &&& (2047 : Word).toNat &&& 2047) = 0 ∧ s.getF f - (s.getF f &&& (2047 : Word).toNat &&& 0) ≠ 0) ∧
    (let s := (axis Ax.HOLD).updAx 3 (fun a => { a with reducing := true })
     s.wktOn 3 = true ∧ s.axState 3 = Ax.HOLD ∧ s.getF (F.WKT_AXn_STAT_REDUCED 3) = 0 ∧ (s.ax 3).reducing = true ∧
      (at_ 4264000 s).since (s.ax 3).holdFrc (s.standstillUs 3 + 64000) = true ∧
      (at_ 4263999 s).since (s.ax 3).holdFrc (s.standstillUs 3 + 64000) = false) := by decide +kernel

/-- Two knots of a table, at rest at both ends. -/
def knots2 : Bytes := body 28 [(0, 1, 2), (16, 4, 1000000), (20, 4, 100)]

theorem test_wit_AxisMoves :
    (let i := job W.WKT_MOVE [3] knots2
     (with1 i up).active? 1 W.WKT_MOVE = some i ∧ bitsOf (i.arg 0) 4 2 ≠ 1 ∧
      ((with1 i up).moveRefused i (wktKnots i.payload)).isSome = true ∧
      (wktKnots i.payload).isSome = true ∧
      (with1 i (axis Ax.HOLD)).moveRefused i (some ((wktKnots i.payload).getD [])) = none) ∧
    (let i := job W.WKT_MOVE [0x13, 50]
     (with1 i up).active? 1 W.WKT_MOVE = some i ∧ bitsOf (i.arg 0) 4 2 = 1 ∧
      ((with1 i up).moveRefused i (wktKnots i.payload)).isSome = true ∧ i.payload = [] ∧
      (with1 i (axis Ax.HOLD)).moveRefused i none = none) ∧
    (∀ a ∈ [3, 0x103], let i := job W.WKT_HOME [a, 1000, 0, 500]
      let s := with1 i (axis Ax.HOLD)
      s.active? 1 W.WKT_HOME = some i ∧ homeTaken s i = true ∧ (with1 i up).stopStands = true ∧
        s.stopStands = false ∧ (with1 { i with stopped := true } s).active? 1 W.WKT_HOME = some { i with stopped := true }) ∧
    (let w : WktMove := { wid := 1, knots := [⟨0, 0, 0⟩, ⟨1000000, 100, 0⟩], shared := false, rel := false, target := none }
     let s := (axis Ax.HOLD).updAx 3 (fun a => { a with pend := some w })
     s.wktOn 3 = true ∧ (s.ax 3).pend = some w ∧ w.shared = false ∧ w.target = none ∧ s.axState 3 = Ax.HOLD ∧
      w.knots.head?.map (·.s) = some (s.getI (F.WKT_AXn_POS 3)) ∧
      w.knots.head?.map (·.s) ≠ some ((s.setF (F.WKT_AXn_POS 3) 1).getI (F.WKT_AXn_POS 3))) ∧
    (let w : WktMove := { wid := 1, knots := [⟨0, 0, 0⟩, ⟨1000000, 100, 0⟩], shared := false, rel := false, target := none }
     let s := (axis Ax.MOVING).updAx 3 (fun a => { a with cur := some w })
     s.axState 3 = Ax.MOVING ∧ (s.ax 3).cur = some w ∧ (s.ax 3).pend = none ∧ (at_ 26000000 s).moveOver 3 w = true ∧
      (at_ 25999999 s).moveOver 3 w = false) ∧
    (let s := at_ 26 ((axis Ax.EMERGENCY).updAx 3 (fun a => { a with rampV := 1 / 1000 }))
     s.axState 3 = Ax.EMERGENCY ∧ ratAbs (s.ax 3).rampV ≤ s.getF (F.WKT_AXn_EDEC 3) * s.secsFrom (s.ax 3).rampFrc ∧
      (at_ 25 s).getF (F.WKT_AXn_EDEC 3) * (at_ 25 s).secsFrom ((at_ 25 s).ax 3).rampFrc <
        ratAbs ((at_ 25 s).ax 3).rampV) := by decide +kernel

/-- A homing run of axis 3 over 500 units at 10 units/s from 0, on its switch or its stall, that ends in braking where `o`. -/
def run (sw : Bool) (o : Option Nat) : Homing := ⟨1, sw, true, true, 10, 0, 500, 1000, o⟩

/-- Axis 3 in that run. -/
def homingOn (sw : Bool) (o : Option Nat := none) : State := (axis Ax.HOMING).updAx 3 (fun a => { a with
  homing := some (run sw o), stallRun := if sw then 0 else 2 })

theorem test_wit_AxisMoves_home :
    (∀ sw ∈ [true, false], ((homingOn sw).ax 3).homing = some (run sw none) ∧ (run sw none).ended = none ∧
      (run sw none).switch = sw ∧ (run sw none).level = true ∧ (run sw (some 0x86)).ended ≠ none ∧
      (homingOn sw).wktOn 3 = true ∧ (homingOn sw).axState 3 = Ax.HOMING) ∧
    (homingOn false).stallSeen 3 = true ∧ ((homingOn false).updAx 3 (fun a => { a with stallRun := 1 })).stallSeen 3 = false ∧
    (let s := at_ (51 * 26000000) (homingOn true)
     ((500 : Nat) : Rat) ≤ ratAbs ((s.axSV 3).1 - (s.ax 3).rampS)) ∧
    (let s := at_ (49 * 26000000) (homingOn true)
     ratAbs ((s.axSV 3).1 - (s.ax 3).rampS) < ((500 : Nat) : Rat)) ∧
    (let s := (homingOn true (some 0)).updAx 3 (fun a => { a with braking := some 1000, rampV := 1 / 1000 })
     (s.ax 3).homing = some (run true (some 0)) ∧ (s.ax 3).braking = some 1000 ∧
      ratAbs ((at_ 26 s).ax 3).rampV ≤ 1000 * (at_ 26 s).secsFrom ((at_ 26 s).ax 3).rampFrc ∧
      1000 * (at_ 25 s).secsFrom ((at_ 25 s).ax 3).rampFrc < ratAbs ((at_ 25 s).ax 3).rampV) := by decide +kernel

/-- Axis 3 in HOLD at rest, its choppers in an on-phase begun at FRC 0, or with every gate off. -/
def chopping (c : Chop) : State :=
  (axis Ax.HOLD).updAx 3 (fun a => { a with winds := List.replicate 2 { phase := c, prev := c, read := true } })

theorem test_wit_AxisFaults :
    (let s := axis Ax.MOVING
     s.wktOn 3 = true ∧ s.axUsed 3 = true ∧ s.vmMin 3 ≤ 900 ∧ (899 : Int) < s.vmMin 3 ∧ s.vmMax 3 < 4801 ∧
      4700 ≤ s.vmMax 3 - 100) ∧
    ((-301 : Int) < -300 ∧ (6300 : Int) < 6301) ∧
    ((axis Ax.MOVING).axOc 3 < 501 ∧ 500 ≤ (axis Ax.MOVING).axOc 3) ∧
    (∀ sw ∈ [0, 4], (chopping .on).gateOn 3 sw = true ∧ (chopping .slow).gateOn 3 sw = false ∧ (599 : Int) < 900 - 300 ∧
      (900 - 300 : Int) ≤ 600) ∧
    (∀ b ∈ [0, 1], let s := at_ 1040 (chopping .on)
      s.chopOn 3 = true ∧ s.zeroHold 3 b = false ∧ s.wktOn 3 = true ∧ s.axUsed 3 = true ∧
        (s.ax 3).winds[b]? = some { phase := .on, prev := .on, read := true } ∧ false = decide (s.windTarget 3 b < 0) ∧
        0 + 1040 ≤ s.now) ∧
    (∀ n ∈ [1, 2], let s := (axis Ax.MOVING).updAx 3 (fun a => { a with stallRun := n })
      s.axState 3 = Ax.MOVING ∧ (s.ax 3).homing = none ∧ s.stallSeen 3 = decide (n = 2) ∧ s.axStallStop 3 = false) ∧
    (let s := (plan [(T.WICKET, body 256 [(192, 1, 5)])] (axis Ax.MOVING)).updAx 3 (fun a => { a with stallRun := 1 })
     s.wktOn 3 = true ∧ s.axUsed 3 = true ∧ s.axStallStop 3 = true ∧ s.stallSeen 3 = true) := by decide +kernel

/-! ### Witnesses: Gazebo -/

/-- Loop 1 closed and in a test pulse since FRC 26. -/
def pulsing (n : Nat) (f : LoopTest → LoopTest) : State :=
  at_ n ((put up [(gzInput 1, 1), (gzPulse 1, 1)]).updTest 1 (fun t => f { t with tpFrc := 26 }))

theorem test_wit_LoopInputsAndPulses :
    up.gzOn = true ∧ up.flag (gzInput 2) = false ∧
    (let s := up.setF (gzInput 2) 1; s.flag (gzInput 2) = true ∧ s.inOther 2 0 50 = false) ∧
    (let s := put up [(gzInput 1, 1)]
     s.flag (gzInput 1) = true ∧ s.flag (gzPulse 1) = false ∧ s.inOther 1 0 50 = false) ∧
    (let s := pulsing 1326 id
     let u := s.setF (gzInput 0) 1
     s.inOther 0 0 50 = true ∧ (pulsing 1327 id).inOther 0 0 50 = false ∧ u.flag (gzInput 0) = true ∧
      u.flag (gzPulse 0) = false) ∧
    (let s := pulsing 26 id; s.flag (gzInput 1) = true ∧ s.flag (gzPulse 1) = true ∧ s.inOther 1 0 50 = false) ∧
    ((pulsing 7825 id).inOther 0 300 350 = false ∧ (pulsing 7826 id).inOther 0 300 350 = true) ∧
    (up.flag (gzPulse 0) = false ∧ up.flag (gzPulse 1) = false ∧ up.pulseDue 1 = true ∧
      (up.updTest 1 (fun t => { t with tpFrc := 1 })).pulseDue 1 = false) ∧
    ((pulsing 1325 id).since 26 50 = false ∧ (pulsing 1326 id).since ((pulsing 1326 id).gzb.test 1).tpFrc 50 = true) ∧
    ((pulsing 9125 id).since 26 350 = false ∧
      (let s := pulsing 9126 id
       s.since (s.gzb.test 1).tpFrc 350 = true ∧ s.flag (gzInput 1) = true ∧
        ((s.gzb.test 1).otherFell && (s.gzb.test 1).otherRose) = false ∧ (s.gzb.test 1).fallFail = false ∧
        (s.gzb.test 1).tpLimit = false ∧ (s.gzb.test 1).reversed = false ∧
        (s.setF (gzInput 1) 0).flag (gzInput 1) = false)) ∧
    (let s := pulsing 9126 (fun t => { t with fallFail := true })
     (s.gzb.test 1).fallFail = true ∧ (s.gzb.test 1).otherFell = false ∧ s.since (s.gzb.test 1).tpFrc 350 = true) ∧
    ((pulsing 9126 (fun t => { t with tpLimit := true })).gzb.test 1).tpLimit = true ∧
    ((pulsing 9126 (fun t => { t with reversed := true })).gzb.test 1).reversed = true ∧
    (let s := pulsing 9126 (fun t => { t with otherFell := true, otherRose := true })
     (s.gzb.test 1).otherFell = true ∧ (s.gzb.test 1).otherRose = true ∧ s.flag (gzInput 1) = true) := by decide +kernel

theorem test_wit_SelfTestFaults :
    up.gzOn = true ∧ (up.updGzb (fun g => { g with diffFrc := some 26 })).gzb.diffFrc = some 26 ∧ up.gzb.diffFrc = none ∧
    ((up.flag (gzInput 0) = true → (500 : Int) < 1499) ∧ (up.flag (gzInput 0) = false → (1499 : Int) < 1500)) ∧
    (((up.setF (gzInput 1) 1).flag (gzInput 1) = true → (500 : Int) < 501) ∧ up.gzb.faultDue = []) ∧
    (up.gzb.train = none ∧ up.rfPhase = true ∧ up.rfLimit ≤ 70 ∧ (69 : Int) < up.rfLimit ∧ (-200 : Int) ≤ 200) ∧
    (at_ 650025 (up.updTest 0 fun t => { t with tpFrc := 26 })).rfPhase = false ∧
    (at_ 650026 (up.updTest 0 fun t => { t with tpFrc := 26 })).rfPhase = true ∧
    (let s := { up with gzb := { up.gzb with rfResults := [false] } }
     s.gzb.rfResults.head? = some false ∧ up.gzb.rfResults.head? ≠ some false) ∧
    { up with gzb := { up.gzb with train := some ⟨0, true, false, true⟩ } }.gzb.train.isSome = true ∧
    (∀ k ∈ [0, 1], let s := State.setF { up with pads := { up.pads with rel1 := true, rel2 := true } } ⟨R.GZB_CFG, k, 1⟩ 1
      s.relUsed k = true ∧ s.relOn k = true) ∧
    up.wrAcc .csS R.GZB_FAULT = .ok := by decide +kernel

theorem test_wit_NewStop :
    (up.setF F.GZB_STAT_STATE Gz.RUN).gzState = Gz.RUN ∧ (up.setF F.GZB_STAT_STATE Gz.CLEARING).gzState = Gz.CLEARING ∧
    (∀ i ∈ [0, 1], let s := put up [(F.GZB_STAT_STATE, Gz.RUN), (gzInput i, 1)]
      s.gzOn = true ∧ s.gzState = Gz.RUN ∧ s.flag (gzInput i) = true ∧ s.flag (gzPulse i) = false ∧
        s.bit F.GZB_CAUSE_NOW_LEVEL i = false) ∧
    (let s := put up [(F.GZB_STAT_STATE, Gz.STOPPED), (F.GZB_CAUSE_CAUSE, 0x400)]
     s.gzState ≠ Gz.RUN ∧ s.gzState ≠ Gz.CLEARING ∧ s.bit F.GZB_CAUSE_CAUSE 10 = true) ∧
    (up.wrAcc .csS R.GZB_STOP = .ok ∧ (0xC3A50001 : Word).getLsbD 0 = true ∧ (0xC3A50001 : Word).toNat / 65536 = 0xC3A5 ∧
      (0xC3A50000 : Word).getLsbD 0 = false ∧ (0x00000001 : Word).toNat / 65536 ≠ 0xC3A5) := by decide +kernel


/-- A band entry 0xFF with a key. -/
def groupKey : BsKey := { entry := 0xFF, key := List.replicate 16 (byte 1), next := some (List.replicate 16 (byte 2)) }

theorem test_wit_TrainsAndClear :
    (let s := { up with gzb := { up.gzb with radio := some (1, 2, 3) } }
     s.gzOn = true ∧ s.stopStands = true ∧ s.gzb.train = none ∧ s.gzb.radio = some (1, 2, 3) ∧ s.trainSlot = true ∧
      (at_ 65000 s).trainSlot = true ∧ (at_ 26 s).trainSlot = false) ∧
    (∀ ini ∈ [true, false], let x : Train := ⟨26, ini, !ini, true⟩
     let us := if ini then 544 else 68
     let s := { up with gzb := { up.gzb with train := some x } }
     s.gzb.train = some x ∧ s.gzb.train ≠ none ∧ (at_ (26 * us + 25) s).since x.frc (if x.initial then 544 else 68) = false ∧
      (at_ (26 * us + 26) s).since x.frc (if x.initial then 544 else 68) = true) ∧
    (let s := put up [(F.GZB_STAT_STATE, Gz.INIT), (F.GZB_STAT_KEY_VALID, 1), (F.GZB_STAT_WORD_READY, 1)]
     s.gzState = Gz.INIT ∧ s.flag F.GZB_STAT_KEY_VALID = true ∧ s.flag F.GZB_STAT_WORD_READY = true) ∧
    (up.setF F.GZB_STAT_STATE Gz.RUN).gzState ≠ Gz.INIT ∧ up.flag F.GZB_STAT_KEY_VALID = false ∧
    (let s := { up with bsa := { up.bsa with keys := [groupKey] } }
     s.gzOn = true ∧ s.domOn 8 = true ∧ s.keysWithheld = false ∧ s.bsa.key? 0xFF = some groupKey ∧
      groupKey.next.isSome = true) ∧
    (let i := job W.GZB_CLEAR [5, 9] (List.replicate 16 (byte 0))
     let s := put (with1 i up) [(F.GZB_STAT_STATE, Gz.STOPPED), (F.GZB_STAT_STOP_CNT, 5), (F.GZB_CLEAR_SEQ, 8)]
     s.active? 1 W.GZB_CLEAR = some i ∧ i.phase = .running 0 ∧ i.payload.length = 16 ∧ s.gzState = Gz.STOPPED ∧
      s.domOn 13 = true ∧ (s.setDom 13 DS.off).domOn 13 = false ∧
      bitsOf (i.arg 0) 0 16 = s.getF F.GZB_STAT_STOP_CNT ∧ s.getF F.GZB_CLEAR_SEQ < i.arg 1 ∧
      i.arg 1 ≤ (s.setF F.GZB_CLEAR_SEQ 9).getF F.GZB_CLEAR_SEQ ∧
      ((s.idleStart 13).tryKeys (.clear 1) (fun k => decide ((hmacSha256 k (clearMsg (bitsOf (i.arg 0) 0 16) (i.arg 1))).take 16 = i.payload))
        (s.slotsOf Cls.CLEAR_AUTH)).1 = some false ∧
      (let s := { s with org := { s.org with slots := [(0, { cls := Cls.CLEAR_AUTH, limited := true, persist := true, uses := 1 })] } }
       ((s.idleStart 13).tryKeys (.clear 1) (fun k => decide ((hmacSha256 k (clearMsg (bitsOf (i.arg 0) 0 16) (i.arg 1))).take 16 = i.payload))
        (s.slotsOf Cls.CLEAR_AUTH)).1 = none)) ∧
    (let i := job W.GZB_CLEAR [5, 9]
     i.payload.length ≠ 16 ∧ (with1 i up).gzState ≠ Gz.STOPPED ∧ bitsOf (i.arg 0) 0 16 ≠ up.getF F.GZB_STAT_STOP_CNT) ∧
    (let t := put up [(F.GZB_STAT_STATE, Gz.STOPPED), (F.GZB_STAT_STOP_CNT, 5), (F.GZB_CLEAR_SEQ, 9)]
     t.clearAgain 5 0 = none ∧ t.clearAgain 4 0 = some 0x81 ∧ t.clearAgain 5 1 = some 0x84 ∧ up.clearAgain 5 0 = some 0x80) := by
  decide +kernel

/-! ### Witnesses: the Visitor book, tests -/

/-- A trigger of a code that waits for its record. -/
def trig (code : Nat) (bank : Option Nat) : VbTrig := ⟨code, [], 0, 0, 0, 0, 0, bank, false, none⟩

/-- A state at 40 ms with triggers that wait since FRC 0. -/
def waitsRec (l : List VbTrig) (n : Nat := 1040000) : State := at_ n { up with vb := { up.vb with trigs := l } }

theorem test_wit_SnapsAndRecords :
    (up.power.off = false ∧ 20 % 32 ≠ 0 ∧ 20 % 16 = 4 ∧ 32 % 32 = 0) ∧
    (let s := waitsRec [trig 0x50 (some 0), trig 0x51 (some 1)]
     s.bankBusy 0 = true ∧ s.bankBusy 1 = true ∧ s.vb.trigs[1]? = some (trig 0x51 (some 1)) ∧
      s.trigReady (trig 0x51 (some 1)) = true ∧ s.flag F.VB_STAT_FROZEN = false ∧
      (s.vb.queue.map (·.bytes.length)).sum + (s.recordBytes (trig 0x51 (some 1)) (s.getF F.VB_SEQ)).length ≤ 57344) ∧
    (let s := put (waitsRec [trig 1 (some 0)] 519999) [(⟨bankBase 0 0, 16, 2⟩, Snap.PENDING)]
     s.trigReady (trig 1 (some 0)) = false ∧ (at_ 520000 s).trigReady (trig 1 (some 0)) = true) ∧
    (up.wrAcc .csNs R.VB_CTRL = .ok ∧ (1 : Word).getLsbD 1 = false ∧ (2 : Word).getLsbD 1 = true) ∧
    (let r : VbRec := { seq := 0, code := 0x50, boot := 0, bytes := List.replicate 64 (byte 0), ess := false }
     let s := { up with vb := { up.vb with queue := [r] } }
     s.vb.queue = [r] ∧ s.flag F.VB_STAT_FROZEN = false ∧ (s.setF F.VB_STAT_FROZEN 1).flag F.VB_STAT_FROZEN = true ∧
      r.wid = none ∧ s.vb.basePending = false ∧ s.vb.off + r.bytes.length ≤ 65536) ∧
    (let s := plan [(T.RECORDER, body 2100 [(16 + 8 * 255 + 1, 1, 4), (16 + 8 * 255 + 2, 2, 9)])]
       (up.setBucket ⟨255, 3, 0, 0⟩)
     s.vb.buckets.find? (·.code = 255) = some ⟨255, 3, 0, 0⟩ ∧ (s.vbCfg 255).refill ≠ 0) := by decide +kernel

/-- A queue so full that no record fits. -/
def fullQueue : State :=
  let s := waitsRec [trig 0x51 none]
  { s with vb := { s.vb with queue := List.replicate 64 {
      seq := 0, code := 0x50, boot := 0, bytes := List.replicate 896 (byte 0), ess := false } } }

theorem test_wit_SnapsAndRecords_full :
    let s0 : State := { fullQueue with vb := { fullQueue.vb with trigs := fullQueue.vb.trigs.eraseIdx 0 } }
    fullQueue.vb.trigs[0]? = some (trig 0x51 none) ∧ fullQueue.trigReady (trig 0x51 none) = true ∧ (trig 0x51 none).wid = none ∧
      (if vbFixed 0x51 then 65536 else 57344) < (fullQueue.vb.queue.map (·.bytes.length)).sum +
        (s0.recordBytes (trig 0x51 none) (fullQueue.getF F.VB_SEQ)).length := by decide +kernel

theorem test_wit_BookItemsAndTests :
    (∀ n ∈ [0, 1, 65535, 65536], ((with1 (job W.VB_READ [0, n]) up).active? 1 W.VB_READ).isSome = true) ∧
    (let i := job W.VB_MARK [0x80] (List.replicate 256 (byte 0))
     let s := with1 i (plan [(T.RECORDER, body 2100 [(16 + 8 * 0x80, 1, 9), (16 + 8 * 0x80 + 1, 1, 4),
       (16 + 8 * 0x80 + 2, 2, 9)])] up)
     s.active? 1 W.VB_MARK = some i ∧ i.phase = .running 0 ∧ (s.vbCfg 0x80).enable = true ∧ s.hasToken 0x80 = true ∧
      (s.setBucket ⟨0x80, 4, 0, 0⟩).hasToken 0x80 = false) ∧
    (256 < (job W.VB_MARK [0x7F] (List.replicate 257 (byte 0))).payload.length ∧
      bitsOf ((job W.VB_MARK [0x7F]).arg 0) 0 8 < 0x80) ∧
    (∀ n ∈ [1, 60000], let i := job W.TEST_RUN [0x2000, n]
      let s := with1 i up
      s.active? 1 W.TEST_RUN = some i ∧ s.linkAbsent 0 = false ∧ s.testSub 0 (i.arg 2) = true ∧
        testForm 0 (bitsOf (i.arg 0) 8 4) (bitsOf (i.arg 0) 12 4) = true ∧ s.testPermitted 1 0 (i.arg 2) = true ∧
        s.test = none ∧ (testDoms 0).all s.domOn = true) ∧
    (let i := job W.TEST_RUN [0x0003, 1]
     let s := with1 i { up with fleet := { up.fleet with mbrs := [{ id := 1, state := 2 }] } }
     s.active? 1 W.TEST_RUN = some i ∧ s.linkAbsent 3 = false ∧ s.testSub 3 (i.arg 2) = true ∧
      testForm 3 (bitsOf (i.arg 0) 8 4) (bitsOf (i.arg 0) 12 4) = true ∧ s.testPermitted 1 3 (i.arg 2) = false) ∧
    (∀ a ∈ [[9, 1, 4], [7, 1, 8], [10, 1], [0, 0], [0, 60001]],
      ((with1 (job W.TEST_RUN a) up).active? 1 W.TEST_RUN).isSome = true) ∧
    (∀ l ∈ [(2, 3), (5, 64), (6, 16), (7, 8), (9, 4)], up.testSub l.1 l.2 = false) ∧
    (∀ l ∈ [(2, 115200), (5, 15), (7, 7), (8, 9)], up.testSub l.1 l.2 = true) ∧
    (let x : LinkTest := { wid := 1, link := 0, pattern := 0, loop := 2, ms := 1, arg2 := 0, arg3 := 0, gen := 127 }
     let s := { up with test := some x }
     s.test = some x ∧ s.test.isSome = true ∧ x.prbs = true ∧ (testDoms x.link).all s.domOn = true ∧
      (at_ 25999 s).since x.frc (1000 * x.ms) = false ∧ (at_ 26000 s).since x.frc (1000 * x.ms) = true) := by
  decide +kernel

/-! ### Witnesses: Pergola -/

/-- Class 0: 0.3 m/s, 0.3 m/s², TOL_POS 50 mm. -/
def classes0 : Bytes :=
  body 40 [(10, 2, 300), (12, 2, 300), (14, 2, 300), (16, 2, 300), (18, 2, 3000), (20, 2, 2000), (28, 2, 50), (32, 2, 100)]

/-- The site with member 1 at node 1, ACTIVE. -/
def site : State :=
  let s := plan [(T.LANE_GRAPH, laneGraph), (T.CLASSES, classes0), (T.MEMBERS, body 24 [(0, 2, 1), (8, 1, 1), (10, 2, 1), (13, 1, 1)])]
    (up.setF F.GZB_STAT_STATE Gz.RUN)
  { s with
    fleet := { s.fleet with mbrs := [{ id := 1, state := Ms.ACTIVE }] }
    pgl := { s.pgl with mbrs := [{ id := 1, pos := some (0, 0), edge := 1 }] } }

def toGoal (g : Nat) : PReq := { member := 1, prio := 3, goal := g }

/-- The best path to node 2 (R402 by hand): four jerk phases of 1 s, 400 mm at VMAX between them. -/
def bestKnots : List Knot := [⟨0, 0, 0⟩, ⟨100, 50, 150⟩, ⟨200, 300, 300⟩, ⟨333, 700, 300⟩, ⟨433, 950, 150⟩, ⟨533, 1000, 0⟩]

/-- The site while a stop stands. -/
def frozen (s : State) : State := s.setF F.PGL_STAT_FROZEN 1

theorem test_wit_PlannerCommands :
    (let s := { site with pgl := { site.pgl with queue := [toGoal 2] } }
     s.pglOn = true ∧ s.pglFrozen = false ∧ (frozen s).pglFrozen = true ∧ s.pgl.store.length < 64 ∧
      s.pgl.store.all (fun x => decide (x.member ≠ 1)) = true) ∧
    (site.pgl.queue = [] ∧ 64 ≤ (List.replicate 64 (toGoal 2)).length) ∧
    (∀ g ∈ [2, 7], let s := { site with pgl := { site.pgl with store := [toGoal g] } }
      s.nextReq = some (toGoal g) ∧ s.pglFrozen = false ∧ s.pgl.planning = none ∧ s.planBar 1 = none ∧
        s.qRoom .seg = true ∧ (s.graph.node? 2).isSome = true ∧ s.graph.node? 7 = none) ∧
    ({ site with pgl := { site.pgl with seg := List.replicate 64 (1, ⟨1, 0, 0, 0, [1], [], 0⟩) } }.qRoom .seg = false) ∧
    (let s := { up with pgl := { up.pgl with store := [toGoal 2] } }
     s.nextReq = some (toGoal 2) ∧ s.planBar 1 = some 0x80) ∧
    (let s := { site with pgl := { site.pgl with planning := some (toGoal 2) } }
     s.pgl.planning = some (toGoal 2) ∧ ((at_ 52025 s).now - s.pgl.takeFrc) / 26 ≤ 2000 ∧
      2000 < ((at_ 52026 s).now - s.pgl.takeFrc) / 26) := by decide +kernel

theorem test_wit_PlannerCommands_best : site.search (toGoal 2) = (some ⟨[1], bestKnots⟩, false) := by decide +kernel

theorem test_wit_PlannerCommands_ok :
    let ts := site.fillTabs (toGoal 2) [⟨0, [1], bestKnots⟩] (site.pm 1).nextSeq 0
    site.planOk (toGoal 2) (some ⟨[1], bestKnots⟩) ts = true := by decide +kernel

theorem test_wit_PlannerCommands_none : site.search (toGoal 1) = (none, false) := by decide +kernel

/-- Member 1 on its way along edge 1 under a table from ASN 0. -/
def onTheWay (s : State) : State :=
  s.updPm 1 (fun x => { x with tabs := [⟨1, 0, 0, 0, [1], [⟨0, 0, 0⟩, ⟨200, 1000, 0⟩], 0⟩] })

theorem test_wit_PlannerCommands_time :
    (let s := onTheWay site
     s.pglFrozen = false ∧ (frozen s).pglFrozen = true ∧ (s.pm? 1).isSome = true ∧ (s.pm 1).posLost = false ∧
      (s.pm 1).executing s.asn = true ∧
      (at_ (26 * (1000 * (s.clsOf 1).posStale)) s).since (s.pm 1).posFrc (1000 * (s.clsOf 1).posStale) = true ∧
      (at_ (26 * (1000 * (s.clsOf 1).posStale) - 1) s).since (s.pm 1).posFrc (1000 * (s.clsOf 1).posStale) = false) ∧
    (site.pm 1).executing site.asn = false ∧
    (∀ n ∈ [0, 1], let t : PTask := { id := 5, stops := [(2, 0, 0), (1, 3, 0)], cur := n, dwell := some 0 }
      let s := site.updPm 1 (fun x => { x with task := some t })
      (s.pm 1).task = some t ∧ s.pglFrozen = false ∧ t.dwell = some 0 ∧ t.suspended = false ∧
        s.pgl.queue.length < 64 ∧ s.pgl.waitReq = [] ∧ (at_ 78000 s).since 0 3000 = true ∧ (at_ 77999 s).since 0 3000 = false ∧
        (t.stops[1]? = some (1, 3, 0) ∧ t.stops[2]? = none)) := by decide +kernel

/-- A stop that stands. -/
def stopped (s : State) : State := put s [(F.GZB_STAT_STATE, Gz.STOPPED)]

/-- The payload of a PGL_ASSIGN with one stop at node 2. -/
def oneStop : Bytes := body 8 [(0, 2, 2)]

theorem test_wit_PergolaItems :
    (∀ a ∈ [0x1001, 0x1002], ∀ g ∈ [2, 7], let i := job W.PGL_PLAN [a, g, 0]
      let s := with1 i site
      s.active? 1 W.PGL_PLAN = some i ∧ i.fresh = true ∧ s.stopStands = false ∧ (stopped s).stopStands = true ∧
        s.planBar 1 = none ∧ s.planBar 2 = some 0x80 ∧ s.graph.node? 7 = none ∧
        (s.graph.node? 2).any (·.park) = true ∧ (i.arg 0).testBit 12 = true) ∧
    (∀ who ∈ [1, 0xF0], let i := job W.PGL_ASSIGN [0x100 + who, 9] oneStop
      let s := with1 i site
      let stops := stopsOf 1 i.payload
      s.active? 1 W.PGL_ASSIGN = some i ∧ i.fresh = true ∧ bitsOf (i.arg 0) 8 8 = 1 ∧ i.payload.length = 8 ∧ i.arg 1 ≠ 0 ∧
        bitsOf (i.arg 0) 0 8 = who ∧ stops.all (fun p => (s.graph.node? p.1).any (fun x => x.park || x.wait)) = true ∧
        (stops.getLast?.bind (fun p => s.graph.node? p.1)).any (·.park) = true ∧ s.planBar 1 = none ∧ s.planBar 2 = some 0x80 ∧
        s.stopStands = false ∧ (stopped s).stopStands = true ∧ (job W.PGL_ASSIGN [0x0101, 0] oneStop).arg 1 = 0 ∧
        s.qualifies 0xF0 1 = true ∧ s.groupPick? 0xF0 2 = some 1 ∧ s.memberRecs.any (fun r => s.qualifies 0xF0 r.id) = true ∧
        s.memberRecs.any (fun r => s.qualifies 0xF1 r.id) = false) ∧
    (∀ k ∈ [0, 1, 2], let i := job W.PGL_RELEASE [1, k]
      let s := with1 i site
      s.active? 1 W.PGL_RELEASE = some i ∧ i.arg 1 = k ∧ s.stopStands = false ∧ (stopped s).stopStands = true ∧
        (s.mbr 1).state = Ms.ACTIVE ∧ (s.mbr 2).state ≠ Ms.ACTIVE ∧ (s.mbr 1).state ≠ Ms.FREE ∧ (s.mbr 1).silent = false ∧
        (s.mbr 2).state = Ms.FREE) := by decide +kernel


/-! ### Witnesses: Belvedere -/

/-- A base with its antenna positions known: OBS_INTERVAL 1 s, a partition for GPS of one engine. -/
def base (l : List (Fld × Nat)) : State :=
  let s := plan [(T.GNSS_TRK, body 60 [(0, 1, 1), (1, 1, 10), (2, 2, 1000), (10, 1, 2), (16, 2, 4)]),
    (T.GNSS_ACQ, body 28 [(0, 1, 1), (8, 1, 1), (10, 1, 1), (11, 1, 1), (12, 4, 0xFFFFF1), (16, 2, 500)])] (put up l)
  { s with bv := { s.bv with pos := [some [1, 2, 3], some [4, 5, 6]] } }

/-- Slot 1 is a UL_OBS slot, 16 records wait for D7. -/
def ulBase : State :=
  let s := plan [(T.GNSS_TRK, body 60 [(0, 1, 1), (2, 2, 1000)]), (T.SLOTFRAME, body 16 [(0, 2, 40)]),
    (T.CELL_MAP, body 12 [(2, 2, 1), (8, 1, 2), (10, 1, Role.UL_OBS)])] (put up [(F.SDL_STAT_SLOT_RUN, 1)])
  { s with bv := { s.bv with baseQ := List.replicate 16 ⟨0, false, false, []⟩ } }

/-- A record latched. -/
def latch1 : BvLatch :=
  { tb := 3000000000, ul := true, base := true, multiple := true, ant := 0, flags := 5, bias := 0, frc := 0, chans := [] }

theorem test_wit_AntennasAndEpochs :
    (let s := { up with pads := { up.pads with antBias := [1, 1] } }
     s.biasOn 0 = true ∧ s.biasOn 1 = true ∧ (1 < 2 ∧ 120 < 121 ∧ 2 ≤ 2 ∧ 120 ≤ 120) ∧
      (s.setF (antState 1) 3).getF (antState 1) = 3 ∧ s.getF (antState 1) ≠ 3 ∧
      (s.setF (antState 0) 1).getF (antState 0) = 1) ∧
    (let s := base [(antState 0, 2), (antState 1, 1)]
     s.bvOn = true ∧ s.bvRole = 1 ∧ s.ant = 0 ∧ 2 ≤ s.getF (antState 0) ∧ s.getF (antState 1) = 1 ∧
      (s.bv.pos.getD 1 none).isSome = true ∧ (s.setF F.BV_STAT_ANT_ACTIVE 1).ant ≠ 0) ∧
    (let s := at_ 78000000 (base [])
     s.bvOn = true ∧ (s.isUl 3000000000 || s.isMult 3000000000) = true ∧ s.comes 0 3000000000 = true ∧
      s.bv.lastTb ≠ some 3000000000 ∧ (s.domOn 7 && 16 ≤ s.bv.baseQ.length) = false ∧
      (s.isUl 2500001 || s.isMult 2500001) = false ∧ (at_ 77999999 s).comes 0 3000000000 = false ∧
      (s.updBv (fun b => { b with lastTb := some 3000000000 })).bv.lastTb = some 3000000000) ∧
    (let s := at_ 65000 ulBase
     s.bvOn = true ∧ s.isUl 2500000 = true ∧ s.isMult 2500000 = false ∧ s.comes 0 2500000 = true ∧ s.bv.lastTb ≠ some 2500000 ∧
      (s.domOn 7 && 16 ≤ s.bv.baseQ.length) = true) ∧
    (up.bv.latched = none ∧ (up.updBv (fun b => { b with latched := some latch1 })).bv.latched = some latch1) ∧
    (obsSorted [] = true ∧ [].all BvObs.ok = true ∧ obsSorted [⟨0, 0, 2, 0, true, false, 0, 0, 0, 0⟩,
      ⟨0, 0, 1, 0, true, false, 0, 0, 0, 0⟩] = false ∧ BvObs.ok ⟨1, 7, 1, 13, true, false, 0, 0, 0, 0⟩ = false ∧
      BvObs.ok ⟨1, 6, 1, 13, true, false, 0, 0, 0, 0⟩ = true) ∧
    ((domIn 7 DS.off).domOn 7 = false ∧ latch1.base = true ∧ State.reset.bvOn = false) ∧
    (7 ≤ 7 ∧ up.domOn 4 = true ∧ up.bvOn = true ∧
      (if ((50 * up.integ 25 1 : Nat) : Int) < 0 then up.bv.noiseMs.getD 7 0 + 10 else 0) < 100) := by decide +kernel

/-- A channel with a satellite signal. -/
def chan (st sig : Nat) : BvChan := { ch := 0, state := st, sys := 0, svid := 5, sig := sig }

def withChan (x : BvChan) (s : State) : State := { s with bv := { s.bv with chans := [x] } }

/-- A link test of the front-end chain that the channel's signal is on. -/
def chainTest : LinkTest := { wid := 1, link := 7, pattern := 0, loop := 1, ms := 1, arg2 := (chan 0 0).chain, arg3 := 0 }

theorem test_wit_ChannelsAndSearches :
    (∀ st ∈ [Ch.SEARCH, Ch.PULL_IN, Ch.CODE_LOCK, Ch.PHASE_LOCK, Ch.LOST], ∀ sig ∈ [0, 1],
      (withChan (chan st sig) (base [])).chan? 0 = some (chan st sig) ∧ (base []).chan? 0 = none ∧ (base []).bvOn = true ∧
        (base []).suspended (chan st sig) = false) ∧
    ({ base [] with test := some chainTest }.suspended (chan Ch.CODE_LOCK 0) = true) ∧
    ((base []).partOf? 1 = none ∧ ((base []).partOf? 0).isSome = true) ∧
    ((1 : Nat) ∈ [1, 4, 9, 16] ∧ (0 : Nat) ∉ [1, 4, 9, 16]) ∧
    (let x := { chan Ch.CODE_LOCK 0 with float := true, elev := 9, lowFrc := some 26 }
     x.float = true ∧ x.elev < (withChan x (base [])).elevMask ∧ x.lowFrc = some 26 ∧ (base []).suspended x = false ∧
      (chan Ch.CODE_LOCK 0).float = false ∧ (base []).elevMask ≤ 10) ∧
    (let q : BvSearch := { cls := 1, sys := 0, svid := 5, sig := 0, ch := some 0 }
     let s := withChan (chan Ch.LOST 0) (base [])
     let s1 := { s with bv := { s.bv with searches := [q] } }
     s1.nextSearch 0 = some q ∧ s1.domOn 5 = true ∧ (s1.setF (F.dom 5) DS.off).domOn 5 = false ∧ s.nextSearch 0 = none ∧
      s1.bv.running.any (fun r => decide (r.1 = 0)) = false) := by decide +kernel

/-- A search for a signal on a channel, or of a work item. -/
def searchOf (wid : Option Nat) : BvSearch :=
  { cls := 1, sys := 0, svid := 5, sig := 0, ch := if wid = none then some 0 else none, wid := wid }

/-- It runs since FRC 0. -/
def searching (st : Nat) (wid : Option Nat) : State :=
  let s := withChan (chan st 0) (base [])
  { s with bv := { s.bv with running := [(0, searchOf wid)] } }

/-- What it detects: the satellite, with a peak. -/
def found (peak : Nat) : List Detection := [⟨5, peak, 0, 0⟩]

theorem test_wit_ChannelsAndSearches_done :
    ∀ st ∈ [Ch.SEARCH, Ch.LOST], ∀ w ∈ [none, some 1], let s := searching st w
      let q := searchOf w
      s.bv.running.find? (fun r => decide (r.1 = 0)) = some (0, q) ∧ s.chan? 0 = some (chan st 0) ∧
        (at_ (26000 * s.searchMs 0 q) s).since q.start (1000 * s.searchMs 0 q) = true ∧
        (at_ (26000 * s.searchMs 0 q - 1) s).since q.start (1000 * s.searchMs 0 q) = false ∧
        (found 1).all (s.detects 0 q) = true ∧ ((found 1).map (·.svid)).Nodup ∧
        (found 0).all (s.detects 0 q) = false ∧ [].all (s.detects 0 q) = true := by decide +kernel

theorem test_wit_ChannelsAndSearches_items :
    (∀ k ∈ [0, 1, 2, 3, 4], let i := job W.BV_SURVEY [k, 60, 604800, 5]
      let s := with1 i (base [])
      s.active? 1 W.BV_SURVEY = some i ∧ i.arg 0 = k ∧ s.fleetBars = false ∧ s.getF F.BV_STAT_SURVEY ≠ 1 ∧
        (s.setF F.BV_STAT_SURVEY 1).getF F.BV_STAT_SURVEY = 1 ∧ i.arg 1 ≤ 86400 ∧ i.arg 1 ≤ i.arg 2 ∧ i.arg 2 ≤ 604800 ∧
        5 ≤ i.arg 3 ∧ s.bv.survey = none ∧ (s.startSurvey 60 60 5).bv.survey.isSome = true) ∧
    (let s := put { base [] with fleet := { up.fleet with mbrs := [{ id := 1, state := Ms.ACTIVE }] } }
       [(F.GZB_STAT_STATE, Gz.RUN)]
     s.fleetBars = true) ∧
    (job W.BV_SURVEY [1] (List.replicate 24 (byte 1))).payload.length = 24 ∧
    (let i := job W.BV_SURVEY [3, 2]
     let s := with1 i (base [(antState 1, 1)])
     s.active? 1 W.BV_SURVEY = some i ∧ s.bvRole = 1 ∧ (s.bv.pos.getD (i.arg 1 - 1) none).isSome = true ∧
      s.getF (antState (i.arg 1 - 1)) = 1 ∧ (base []).getF (antState 1) ≠ 1 ∧ up.bv.pos.getD 1 none = none) ∧
    (∀ sig ∈ [21, 22], let i := job W.BV_SEARCH [6 + 65536 * sig, 0, 0, 0x4000]
      let s := with1 i (base [])
      s.active? 1 W.BV_SEARCH = some i ∧ i.phase = .running 0 ∧ bitsOf (i.arg 0) 16 5 = sig ∧
        sigSys.getD 21 7 = bitsOf (i.arg 0) 0 3 ∧ cohOk 21 (bitsOf (i.arg 3) 0 8) = true ∧ bitsOf (i.arg 3) 8 8 ≤ 64 ∧
        (s.partOf? 21).isSome = true ∧ up.partOf? 21 = none) := by decide +kernel

/-- A second that gives the channel's satellite its ephemeris. -/
def sol1 : TimeSol :=
  ⟨100, -7, 0, [], [], [], none, none, [⟨0, 5, 0, [26560000000, 0, 0], [0, 0, 0], [0, 0, 0]⟩], [], none, []⟩

theorem test_wit_AntennasAndEpochs_sol :
    (let s := withChan { chan Ch.CODE_LOCK 0 with elev := 40 } (base [])
     s.bvOn = true ∧ (s.navData sol1).solSats = [(0, 5)]) ∧ ((base []).navData sol1).solSats = [] := by decide +kernel

/-! ### Witnesses: SOLVE and the corrections -/

/-- An observables payload: one satellite, one signal, of the epoch with ASN 0. -/
def obsPay : Bytes := body 19 [(0, 1, 1), (1, 1, 1), (2, 1, 1)]

def obsRec (p : Bytes) : ObsRec := ⟨1, 0, p, 0, false⟩

theorem test_wit_SolveRecords :
    up.slvOn = true ∧ up.slv.obsIn = [] ∧ up.fixRoom = true ∧ (up.setF (F.dom 9) 0).fixRoom = false ∧
    obsOk obsPay = true ∧ 6 ≤ obsPay.length ∧ obsOk [] = false ∧
    (let s := { up with slv := { up.slv with obsIn := [obsRec obsPay] } }
     s.slv.obsIn = [obsRec obsPay] ∧ (s.rover 1).enabled = true ∧ s.epochAsn (leAt obsPay 4 2) = 0 ∧
      s.decision? 1 0 = none ∧ (State.slvBase { s with slv := { s.slv with obsIn := [] } }).baseOf? 0 = none) ∧
    (let s := { up with slv := { up.slv with
       obsIn := [obsRec obsPay], store := [⟨0, true, false, []⟩], decided := [(1, 0, true)] } }
     ((State.slvBase { s with slv := { s.slv with obsIn := [] } }).baseOf? 0).isSome = true ∧ s.decision? 1 0 = some true) ∧
    ((up.setRover { up.rover 1 with enabled := false }).rover 1).enabled = false ∧
    (let s := { put up [(F.SLV_STAT_LANE_OK, 15)] with slv := { up.slv with pend := [obsRec obsPay] } }
     (fromToken s.slv.token ([0, 1, 2, 3].filter s.laneIdle)).head? = some 0 ∧ s.slv.pend = [obsRec obsPay]) ∧
    up.slv.pend = [] := by decide +kernel

/-- Four GPS satellites with L1 C/A. -/
def obs4 : Bytes :=
  body 52 ([(0, 1, 1), (1, 1, 4), (2, 1, 4)] ++ (List.range 4).flatMap (fun i =>
    [(8 + 4 * i, 4, 8 * (i + 1) + 512 * 8), (24 + 7 * i, 7, i)]))

/-- The base's record of the same signals. -/
def base4 : Bytes := body 120 ((2, 2, 4) :: (List.range 4).map (fun i => (24 + 24 * i, 4, 0x80 + 256 * (i + 1))))

/-- Satellites high above the equator, with their ephemerides. -/
def eph4 : List Eph :=
  [(26560000000, 0, 0), (26000000000, 5000000000, 0), (26000000000, -5000000000, 0), (26000000000, 0, 5000000000)].zipIdx.map
    (fun (p, i) => ⟨0, i + 1, 0, [p.1, p.2.1, p.2.2], [0, 0, 0], [0, 0, 0]⟩)

theorem test_wit_SolveRecords_lanes :
    (let x := { obsRec obs4 with frc := 0 }
     let s := { put up [(F.SLV_STAT_LANE_OK, 15)] with
       bv := { up.bv with ephem := eph4, pos := [some [63781370000, 0, 0], none] }
       slv := { up.slv with lanes := [some x, none, none, none], store := [⟨0, true, false, base4⟩] } }
     obsOk obs4 = true ∧ s.slv.lanes.getD 0 none = some x ∧ s.slv.lanes.getD 1 none = none ∧ s.fixRoom = true ∧
      (sdSats (s.recSds x (s.baseOf? x.asn))).length = 4 ∧ (sdSats (s.recSds x none)).length < 4 ∧ s.laneDone x 4 = false ∧ (at_ 260000 s).laneDone x 4 = true ∧
      ((at_ 260000 s).tbNs 0 : Int) ≤ s.asnTime 0 + 35000000 ∧ (s.tbNs 0 : Int) < s.asnTime 0 + 35000000 ∧
      s.bit F.SLV_STAT_LANE_OK 0 = true ∧ s.bit F.SLV_STAT_LANE_OK 3 = true ∧
      (at_ 910000 s).asnTime 0 + 35000000 ≤ (at_ 910000 s).tbNs 0 ∧ (at_ 910026 s).asnTime 0 + 35000000 < (at_ 910026 s).tbNs 0) := by
  decide +kernel

/-- The site with the RTCM output on, records due each slot. -/
def caster (l : List (Fld × Nat)) : State :=
  plan [(T.RTCM_OUT, body 32 [(2, 1, 1), (3, 1, 0), (4, 1, 2), (5, 1, 1), (6, 2, 60)]), (T.GNSS_TRK, body 60 [(2, 2, 1000)])]
    (put up l)

def epoch1 (mult : Bool) : BaseEpoch := ⟨1000000000, false, mult, []⟩

theorem test_wit_RoversAndCorrections :
    (∀ k ∈ [0, 1, 2, 3, 4], let i := job W.SLV_ROVER [k, 1]
      let s := with1 i site
      s.active? 1 W.SLV_ROVER = some i ∧ i.arg 0 = k ∧ s.slvOn = true ∧ (s.memberRec? 1).isSome = true ∧
        (s.clsOf 1).selfSolve = false ∧ (with1 i up).memberRec? 1 = none ∧
        ((plan [(T.CLASSES, body 40 [(8, 1, 1)]), (T.MEMBERS, body 24 [(0, 2, 1), (8, 1, 1)])] s).clsOf 1).selfSolve = true) ∧
    (∀ mult ∈ [true, false], let s := { caster [] with bv := { up.bv with rtcmIn := [epoch1 mult] } }
      s.bv.rtcmIn = [epoch1 mult] ∧ s.bvOn = true ∧ (s.sec? T.RTCM_OUT).isSome = true ∧ (∀ v ∈ [0, 1, 4], (s.setF F.BV_STAT_SURVEY v).getF F.BV_STAT_SURVEY = v)) ∧
    (let s := { caster [(F.BV_STAT_SURVEY, 2)] with
      bv := { up.bv with rtcmIn := [epoch1 true] }, slv := { up.slv with sets := 1 } }
     2 ≤ s.getF F.BV_STAT_SURVEY ∧ s.corrRadio = false ∧
      (plan [(T.RTCM_OUT, body 32 [(2, 1, 3)]), (T.CLASSES, body 40 [(8, 1, 1)]), (T.MEMBERS, body 24 [(0, 2, 1), (8, 1, 1)])]
        { up with fleet := site.fleet }).corrRadio = true) ∧
    (let s := { caster [] with slv := { up.slv with corr := [⟨0, [byte 1]⟩] } }
     let old (s : State) (c : CorrMsg) : Bool := c.tb + s.rtcmOut 5 1 * 1000000000 ≤ s.tbNs 0
     s.slv.corr.any (old s) = false ∧ { s with frc := 26000000 }.slv.corr.any (old { s with frc := 26000000 }) = true) := by
  decide +kernel

/-! ### Witnesses: Bandstand and the fleet -/

/-- Both bands follow a cell map: slot 0 a CTRL cell of member 1 on band A and a DL_FIX cell on band B. -/
def onAir (s : State) : State :=
  put (plan [(T.CELL_MAP, body 16 [(2, 2, 2), (10, 1, Role.CTRL), (11, 1, 1), (13, 1, 16),
      (14, 1, Role.DL_FIX), (15, 1, 0xFF)]),
    (T.SLOTFRAME, body 16 [(0, 2, 1), (2, 2, 0x1234)])] s)
    [(F.SDL_STAT_SLOT_RUN, 1), (F.GZB_STAT_STATE, Gz.RUN)]

theorem test_wit_RoversAndCorrections_fix :
    (let s := at_ 52000 (onAir up)
     let next := (s.slotIdx + 1) % max s.slotL 1
     s.bandRun 1 = true ∧ s.stopStands = false ∧ s.fixSlots.contains next = true ∧ s.bsb.fix = none ∧ 2000 ≤ s.slotUs ∧
      s.domOn 7 = true ∧ s.domOn 9 = true ∧ (s.xings.getD 8 {}).resync = false ∧ (at_ 51973 s).slotUs < 2000) ∧
    (stopped (onAir up)).stopStands = true ∧ up.bandRun 1 = false ∧
    { onAir up with bsb := { up.bsb with fix := some { dst := 0xFF, ftype := 6, tsh := [], enc := [] } } }.bsb.fix.isSome = true := by
  decide +kernel


/-- The key of entry 1. -/
def airKey : Bytes := List.replicate 16 (byte 7)

/-- The base hears member 1. -/
def hears : State :=
  let s := (onAir up).setF (F.BS_FILT_JOINEDk_MEMBERS 0 0) 1
  { s with bsa := { s.bsa with keys := [{ entry := 1, key := airKey, rx := 0 }] } }

/-- A STOP_REQ of member 1 with FCNT 1, ACK_REQ set; a flood frame with MSG_ID 3 where `fl`. -/
def stopReq (fl : Bool) : Bytes :=
  if fl then [187, 0, 1, 9, 1, 0, 3, 0, 2, 226, 46, 129, 122, 129, 11].map byte
  else [59, 0, 1, 9, 1, 0, 149, 174, 90, 40, 8, 197].map byte

/-- The frame as the checks pass it. -/
def heard (fl : Bool) : RxIn :=
  ⟨0, 0, ⟨0, 0, 0, Role.CTRL, 1⟩, 1, 0, 9, 0xB, true, if fl then some 3 else none, 1, 1, [], [], 0⟩

theorem test_wit_ReceivedFrames :
    (∀ fl ∈ [true, false], (match hears.rxCheck 0 0 (stopReq fl) 0 with | .ok x => decide (x = heard fl) | .gone _ => false) = true ∧
      bitsOf (leAt (stopReq fl) 0 1) 0 4 = 0xB ∧ (leAt (stopReq fl) 0 1).testBit 7 = fl) ∧
    (hears.inWindow 0 0 0 = true ∧ (hears.band 0).demod.contains 0 = false ∧ up.inWindow 0 0 0 = false ∧
      ((hears.updBand 0 (fun x => { x with demod := 0 :: x.demod })).band 0).demod.contains 0 = true) ∧
    (∀ fl ∈ [true, false], (match (hears.updBand 0 (fun x => { x with demod := 0 :: x.demod })).rxCheck 0 0 (stopReq fl) 0 with
      | .ok x => decide (x = heard fl) | .gone _ => false) = true) ∧
    (match up.rxCheck 0 0 (stopReq false) 0 with | .ok _ => false | .gone u => decide (u = up)) = true ∧
    (let b (s : State) : Bool := ((s.band 0).lastSeq.find? (·.1 = 1)).any (fun p => decide (p.2 = 9))
     b hears = false ∧ b { hears with bsa := { hears.bsa with lastSeq := [(1, 9)] } } = true) ∧
    (bitsOf (leAt (stopReq false) 0 1) 0 4 ≠ 1 ∧ hears.slv.obsIn = [] ∧
      { hears with slv := { hears.slv with obsIn := [obsRec obsPay] } }.slv.obsIn ≠ []) ∧
    (hears.bandRun 0 = true ∧ hears.bandRun 1 = true ∧ up.bandRun 0 = false ∧ (hears.rxCell? 0 0).isSome = true ∧ hears.blanked 0 = false ∧
      { hears with gzb := { hears.gzb with train := some ⟨0, true, false, true⟩ } }.blanked 0 = true ∧
      ((List.range 8).filter (Nat.testBit 0x80)).length % 2 = 1) := by decide +kernel

/-- A downlink frame to member 1 with SEQ 9, sent `n` times. -/
def sentFrame (n : Nat) : DlFrame := { dst := 1, ftype := 7, tsh := [], enc := [], seq := some 9, tries := n }

/-- An IACK on band A. -/
def iack (seq : Nat) : Bytes := let b := [byte 0x0E, byte seq]
  b ++ fcsOf 0 0x1234 b

theorem test_wit_FleetLinks :
    (let s := { up with
      org := { up.org with slots := [(4, { cls := Cls.FLEET_ROOT, key := airKey })] }
      fleet := { up.fleet with mbrs := [{ id := 1, state := Ms.KEYING, keyAsk := true }] } }
     (s.mbr 1).state = Ms.KEYING ∧ (s.mbr 1).keyAsk = true ∧ s.domOn 13 = true ∧ (s.setDom 13 DS.off).domOn 13 = false ∧ s.keysWithheld = false ∧
      s.dlRoom 0 = true ∧ s.slotFor? Cls.FLEET_ROOT = some 4 ∧ (s.slot 4).waits = false ∧ (s.mbr 2).state ≠ Ms.KEYING) ∧
    (let s := { up with org := { up.org with slots := [(4, { cls := Cls.FLEET_ROOT, key := airKey, limited := true, persist := true, uses := 9 })] } }
     s.slotFor? Cls.FLEET_ROOT = some 4 ∧ (s.slot 4).waits = true) ∧
    (∀ n ∈ [1, 3, 255], let s := { onAir up with bsa := { up.bsa with wait := some (sentFrame n), tx := some (0, 26) } }
      let s := s.setF (F.BS_RETRY_TRIES 0) 3
      (s.band 0).wait = some (sentFrame n) ∧ s.blanked 0 = false ∧ (sentFrame n).tag ≠ .resync ∧ s.triesMax 0 = 3 ∧
        (s.ackOver 0 = false ∧ (at_ 7098 s).ackOver 0 = true ∧ (at_ 7097 s).ackOver 0 = false) ∧
        (iack 9).length = 2 + fcsLen 0 ∧ (iack 9).drop 2 = fcsOf 0 s.networkId ((iack 9).take 2) ∧
        leAt ((iack 9).take 2) 0 1 = 0x0E ∧ some (leAt ((iack 9).take 2) 1 1) = (sentFrame n).seq ∧
        some (leAt ((iack 8).take 2) 1 1) ≠ (sentFrame n).seq) ∧
    ({ sentFrame 1 with tag := .resync }.tag = .resync ∧ (sentFrame 2).tries < 3) ∧
    ((up.band 0).wait = none ∧ (up.band 0).sack = [] ∧ up.sackDue 1 = false) ∧
    (let s := at_ 50440 { onAir up with bsa := { up.bsa with sack := [⟨0, 1, true, false, 0, 9⟩] } }
     (s.band 0).sack ≠ [] ∧ s.sackDue 0 = true ∧ (at_ 50439 s).sackDue 0 = false ∧ s.bandRun 0 = true ∧ s.blanked 0 = false ∧
      s.fleet.leaving = [] ∧ ((s.band 0).sack.filter (·.busy)) = [] ∧
      allZero ((List.range 4).flatMap (s.sackEntry 0)) = false) := by
  decide +kernel

theorem test_wit_FleetLinks_items :
    (∀ d ∈ [0, 1, 2, 128, 0xFF], ∀ p ∈ [0x7F, 0x80], let i := job W.BS_SEND [d, p] [byte 1]
      let s := with1 i site
      s.active? 1 W.BS_SEND = some i ∧ i.onCore = true ∧ s.domOn (bandDom (bitsOf (i.arg 0) 8 1)) = true ∧ i.prog = [] ∧
        bitsOf (i.arg 0) 0 8 = d ∧ (i.arg 0).testBit 9 = false ∧ (i.arg 0).testBit 10 = false ∧
        bitsOf (i.arg 1) 0 8 = p ∧ s.joined 1 = true ∧ s.joined 2 = false ∧ s.stopStands = false ∧
        (stopped s).stopStands = true ∧ (pieces (fragLen 0 false false) 1024 i.payload).length ≤ 16) ∧
    (16 < (pieces (fragLen 0 false false) 1024 (List.replicate 1024 (byte 0))).length) ∧
    (∀ k ∈ [0, 1, 2], ∀ m ∈ [1, 2], let i := job W.BS_MEMBER [k, m]
      let s := with1 i site
      s.active? 1 W.BS_MEMBER = some i ∧ s.domOn 8 = true ∧ i.arg 0 = k ∧ i.arg 1 = m ∧ i.prog = [] ∧ s.dlRoom 0 = true) ∧
    ({ site with bsa := { site.bsa with dl := List.replicate 64 (sentFrame 0) } }.dlRoom 0 = false) ∧
    (∀ st ∈ [2, 3], let s := put (onAir up) [(F.LODGE_PWR_STATE_STATE, st), (F.LODGE_WUR_CTRL_TOL, 1)]
      s.knownNet = some 0x1234 ∧ s.power.off = false ∧ s.wurBlanked = false ∧ s.getF F.LODGE_PWR_STATE_STATE = st ∧
        ((st = 3 || st = 5 && s.power.entering = 3) = true ↔ st = 3)) ∧
    (let s := (put up [(F.LODGE_PWR_STATE_STATE, 5)]).updPower (fun p => { p with entering := 3 })
     (s.getF F.LODGE_PWR_STATE_STATE = 3 || s.getF F.LODGE_PWR_STATE_STATE = 5 && s.power.entering = 3) = true) ∧
    ({ up with gzb := { up.gzb with train := some ⟨0, true, false, true⟩ } }.wurBlanked = true) ∧
    (hamming (wakeWord 0x1234 0) (wakeWord 0x1234 0) = 0 ∧ hamming (wakeWord 0x1234 0 ^^^ 3) (wakeWord 0x1234 0) = 2) := by
  decide +kernel

/-! ### Witnesses: Orangery, tamper, temperature, the store -/

/-- The tree of a normal start, one created node under node 1, a HOST_HMAC key in slot 9. -/
def keyed : State :=
  { up with org := { up.org with
      nodes := fixedNodes 1 ++ [⟨8, Nd.VALID, 1, ascii "A"⟩]
      slots := [(9, { cls := Cls.HOST_HMAC, key := List.replicate 32 (byte 3) })] } }

/-- Every index taken: node 8 under node 1, the others under node 8. -/
def manyNodes : List OrgNode := (List.range 24).map (fun k => ⟨k + 8, Nd.VALID, if k = 0 then 1 else 8, [byte k]⟩)

/-- Without D13, and D13 OFF for an item that waits for it. -/
theorem test_wit_KeyItems_noEngine :
    (∀ k ∈ [0, 1, 2, 3, 4], let i := job W.ORG_DERIVE [k]
     let s := (with1 i keyed).setDom 13 DS.off
     i.onCore = true ∧ s.domOn 13 = false ∧ s.active? 1 W.ORG_DERIVE = some i) ∧
    (let i := job W.ORG_KEY_UPDATE []
     let s := (with1 i keyed).setDom 13 DS.off
     s.domOn 13 = false ∧ s.active? 1 W.ORG_KEY_UPDATE = some i ∧ s.powered = true ∧ s.domUnused 13 = false ∧
      s.hasHeld 13 = false ∧ s.dom 13 = DS.off ∧ s.dom 2 = DS.on ∧ s.needD13.dom 13 = DS.pwrUp) := by decide +kernel

theorem test_wit_KeyItems :
    (let i := job W.ORG_KEY_UPDATE []
     let s := with1 i keyed
     i.onCore = true ∧ s.domOn 13 = true ∧ s.active? 1 W.ORG_KEY_UPDATE = some i ∧ s.org.commit = none ∧
      (s.updOrg (fun o => { o with commit := some 2 })).org.commit.isSome = true) ∧
    (∀ k ∈ [0, 1, 2, 3, 4, 5], (with1 (job W.ORG_DERIVE [k]) keyed).active? 1 W.ORG_DERIVE = some (job W.ORG_DERIVE [k])) ∧
    (keyed.nodeState 3 ≠ Nd.VALID ∧ keyed.nodeState 1 = Nd.VALID ∧ keyed.nodeState 2 = Nd.VALID ∧ keyed.nodeState 8 = Nd.VALID ∧
      (((List.range 24).map (· + 8)).find? (fun n => decide (keyed.nodeState n = Nd.FREE))) = some 9 ∧
      keyed.org.nodes.any (fun x => x.parent = 1 ∧ x.idx ≠ 0 ∧ x.label = [byte 1]) = false ∧
      keyed.org.nodes.all (fun x => decide (x.state ≠ Nd.VALID) || !keyed.under 8 32 x.idx) = true) ∧
    (let s := { keyed with bsa := { keyed.bsa with keys := [{ groupKey with next := none }] } }
     let s1 := { keyed with bsa := { keyed.bsa with keys := [groupKey] } }
     s.nextHeld 0xFF = false ∧ s.keysWithheld = false ∧ (s.bsa.key? 0xFF).isSome = true ∧ s1.nextHeld 0xFF = true) ∧
    (keyed.slotServes 9 Cls.HOST_HMAC = true ∧ (keyed.slot 9).waits = false ∧ keyed.slotServes 8 Cls.HOST_HMAC = false ∧
      (keyed.bsa.key? 0xF0).isSome = false ∧ keyed.nextHeld 0xF0 = false) ∧
    (let s := { keyed with org := { keyed.org with
       slots := [(9, { cls := Cls.HOST_HMAC, key := [byte 3], limited := true, persist := true, uses := 1 })] } }
     s.slotServes 9 Cls.HOST_HMAC = true ∧ (s.slot 9).waits = true) ∧
    (let s := { keyed with org := { keyed.org with
       nodes := manyNodes ++ fixedNodes 1 } }
     (((List.range 24).map (· + 8)).find? (fun n => decide (s.nodeState n = Nd.FREE))) = none ∧ s.nodeState 8 = Nd.VALID ∧
      s.org.nodes.any (fun x => x.parent = 8 ∧ x.idx ≠ 0 ∧ x.label = [byte 1]) = true ∧
      (s.org.nodes.filter (fun x => x.state = Nd.VALID ∧ s.under 8 32 x.idx)).length = 23) ∧
    ((keyed.setF F.ORG_TAMPER_NOW 1).keysWithheld = true) := by decide +kernel

theorem test_wit_TamperTemperatureStore :
    up.powered = true ∧ up.getF F.ORG_TAMPER_NOW = 0 ∧ up.bit F.ORG_TAMPER_NOW 3 = false ∧
    (0 % 64 = up.getF F.ORG_TAMPER_NOW ∧ 0 % 64 ≠ (up.setF F.ORG_TAMPER_NOW 5).getF F.ORG_TAMPER_NOW) ∧
    (({ up with ps := { up.ps with running := [⟨.freeze, .clearSeq 1⟩], tries := 1 } } : State).ps.tries ≠ 0) ∧
    (∀ b ∈ [0, 1, 2, 3, 4, 5], Nat.testBit 0 b = true → up.bit F.ORG_TAMPER_NOW b = true) ∧
    (let s := { up with org := { up.org with redraw := true } }
     s.org.redraw = true ∧ s.keysWithheld = false ∧ s.domOn 8 = true ∧ s.domOn 13 = true ∧
      (s.setDom 13 DS.off).domOn 13 = false) ∧
    (up.setF F.ORG_TAMPER_NOW 4).keysWithheld = true ∧ up.ps.running = [] ∧ up.ps.tries = 0 ∧
    (let q : PsReq := ⟨.survey, .survey 0 [1, 2, 3]⟩
     let s := { up with ps := { up.ps with running := [q], sel := some {} } }
     s.ps.running = [q] ∧ s.ps.waiting = [] ∧ s.ps.sel.isSome = true ∧ s.ps.running ≠ []) := by decide +kernel

/-! ### Witnesses: field update and the link -/

/-- An update session of the link in a state. -/
def session (st : Nat) (s : State) : State := put s [(F.UPD_STAT_LOCK, 1), (F.UPD_STAT_SESSION, st)]

theorem test_wit_UpdateSessions :
    (LinkTakes up 0 ∧ LinkTakes up 255) ∧ up.getF F.UPD_STAT_LOCK = 0 ∧
    (let p := body 400 [(20, 2, 1)]
     400 ≤ p.length ∧ p.length = 336 + 64 * leAt p 20 2) ∧
    ((session 1 up).holdsLock 1 = true ∧ (session 1 up).updSession = 1 ∧ (session 1 up).endFault = none) ∧
    ((session 1 up).endPlan? = none) ∧
    (let h := body 144 [(20, 2, 1), (128, 1, 0x10)] ++ (beBytes 48
       0x38b060a751ac96384cd9327eb1b1e36a21fdb71114be07434c0cc7bf63f6e1da274edebfe76f65fbd51ad2f14898b95b)
     let s := { session 1 up with upd := { (session 1 up).upd with head := h } }
     s.endFault = none ∧ s.endPlan? = some (0, []) ∧ (imageFault s.part [] 0).isSome = true ∧ s.holdsLock 1 = true ∧
      s.updSession = 1) ∧
    ((session 3 up).holdsLock 1 = true ∧ (session 3 up).updSession = 3 ∧ (session 3 up).anyJoined = false) ∧
    up.mayConfirm = false ∧
    (let s := plan [] { put up [(F.SYS_BOOT_STAT_DONE, 1)] with
      ps := { up.ps with sel := some { upd := some { state := 1, svnPending := true, svnTarget := 3 } } } }
     s.mayConfirm = true ∧ s.updRec.svnPending = true ∧ up.updRec.svnPending = false ∧
      (s.ps.running ++ s.ps.waiting).any (fun q => decide (q.who = .updOther)) = false) ∧
    (up.wrAcc .csS R.UPD_CTRL = .ok ∧ (0xC3A40003 : Word).toNat / 65536 ≠ 0xC3A5) ∧
    (let s : State := { session 1 up with frc := 1560000000 }
     s.getF F.UPD_STAT_LOCK ≠ 0 ∧ s.updSession ≠ 4 ∧ s.since s.upd.lastFrc 60000000 = true) ∧
    up.since up.upd.lastFrc 60000000 = false := by
  unfold LinkTakes
  decide +kernel

theorem test_wit_IsbenLink :
    up.powered = true ∧ up.linkServed = true ∧ up.svc.rateProven = true ∧ LinkTakes up 7 ∧
    (let s := { up with svc := { up.svc with rateProven := false } }
     s.svc.rateProven = false ∧ (at_ 26000000 s).since s.svc.rateFrc 1000000 = true ∧
      (at_ 25999999 s).since s.svc.rateFrc 1000000 = false) ∧
    (let s := { up with svc := { up.svc with keptSeq := some 7 } }
     s.linkServed = true ∧ s.svc.keptSeq = some (263 % 256)) ∧
    (rateCode (leAt (leBytes 4 12000000) 0 4) = some 4 ∧ rateCode (leAt (leBytes 4 9600) 0 4) = none) ∧
    (let p := leBytes 4 (R.UPD_STAT) ++ leBytes 2 1024
     p.length = 6 ∧ 1 ≤ leAt p 4 2 ∧ leAt p 4 2 * wordLen (leAt p 0 4) ≤ 4096) ∧
    (let p := leBytes 4 R.UPD_STAT ++ leBytes 4 1
     5 ≤ p.length ∧ (p.drop 4).length % wordLen (leAt p 0 4) = 0) ∧
    (leAt (leBytes 2 0xC3A5) 0 2 = 0xC3A5 ∧ leAt (leBytes 2 1) 0 2 ≠ 0xC3A5) := by
  unfold LinkTakes
  decide +kernel

/-! ### A clear that passes its checks

The device's UID is an open constant, so the TAG cannot be written out: it is the one the key gives. -/

theorem sha_rounds_length (p : Sha) : ∀ (ks : List Nat) (i : Nat) (ws v : List Nat), v.length = 8 →
    (p.rounds ks i ws v).length = 8
  | [], _, _, _, h => by simpa [Sha.rounds] using h
  | _ :: ks, i, ws, v, h => by
    match v, h with
    | [a, b, c, d, e, f, g, x], _ =>
      simp only [Sha.rounds]
      exact sha_rounds_length p ks _ _ _ rfl

theorem sha_blocks_length (p : Sha) : ∀ (n : Nat) (h : List Nat) (bs : Bytes), h.length = 8 → (p.blocks n h bs).length = 8
  | 0, _, _, h => by simpa [Sha.blocks] using h
  | n + 1, hs, bs, h => by
    rw [Sha.blocks]
    refine sha_blocks_length p n _ _ ?_
    simp [Sha.block, sha_rounds_length p _ _ _ _ h, h]

theorem leBytes_len : ∀ n v : Nat, (leBytes n v).length = n
  | 0, _ => rfl
  | n + 1, v => by simp [leBytes, leBytes_len n]

theorem flatMap_beBytes_length (n : Nat) : ∀ l : List Nat, (l.flatMap (beBytes n)).length = n * l.length
  | [] => by simp
  | x :: l => by
    simp [flatMap_beBytes_length n l, beBytes, leBytes_len, Nat.mul_add, Nat.add_comm]

theorem sha256_length (bs : Bytes) : (sha256 bs).length = 32 := by
  rw [sha256, Sha.hash, flatMap_beBytes_length, sha_blocks_length _ _ _ _ rfl]
  rfl

def clearTag : Bytes := (hmacSha256 [byte 1] (clearMsg 5 9)).take 16

/-- STOPPED with both channels proven and a CLEAR_AUTH key in slot 6, a clear with the TAG of that key running. -/
def clearing : State :=
  put (with1 (job W.GZB_CLEAR [5, 9] clearTag) { onAir up with
      org := { up.org with slots := [(6, { cls := Cls.CLEAR_AUTH, key := [byte 1] })] } })
    [(F.GZB_STAT_STATE, Gz.STOPPED), (F.GZB_STAT_STOP_CNT, 5), (F.GZB_CLEAR_SEQ, 8), (F.GZB_STAT_PROVEN_A, 1),
      (F.GZB_STAT_PROVEN_B, 1), (F.GZB_STAT_KEY_VALID, 1), (F.GZB_STAT_WORD_READY, 1)]

theorem test_wit_TrainsAndClear_accepts :
    clearing.active? 1 W.GZB_CLEAR = some (job W.GZB_CLEAR [5, 9] clearTag) ∧ clearTag.length = 16 ∧
    clearing.gzState = Gz.STOPPED ∧ 5 = clearing.getF F.GZB_STAT_STOP_CNT ∧ clearing.getF F.GZB_CLEAR_SEQ < 9 ∧
    (clearing.idleStart 13).tryKeys (.clear 1) (fun k => decide ((hmacSha256 k (clearMsg 5 9)).take 16 = clearTag)) (clearing.slotsOf Cls.CLEAR_AUTH)
      = (some true, clearing.idleStart 13) ∧ clearing.domOn 13 = true ∧
    clearing.clearLate 0 = none ∧ clearing.clearLate 1 = some 0x84 := by
  refine ⟨rfl, by simp [clearTag, hmacSha256, sha256_length], by decide +kernel, by decide +kernel, by decide +kernel, ?_, by decide +kernel, by decide +kernel,
    by decide +kernel⟩
  have h : clearing.slotsOf Cls.CLEAR_AUTH = [6] := by decide +kernel
  have h1 : ((clearing.idleStart 13).slot 6).isSealed = false := by decide +kernel
  have h2 : (clearing.idleStart 13).slotHasUse 6 = true := by decide +kernel
  have h3 : ((clearing.idleStart 13).slot 6).key = [byte 1] := by decide +kernel
  have h4 : ((clearing.idleStart 13).slot 6).limited = false := by decide +kernel
  have h5 : ((clearing.idleStart 13).slot 6).waits = false := by decide +kernel
  simp [h, State.tryKeys, h1, h2, h3, h4, h5, clearTag, State.slotUse]


end Sys2Proof.Tests
end

section
/-! SUPPORT. Register accesses: where an access goes, what becomes of a write and of a read there. -/
namespace Sys2Proof.Machine

/-! ### Where an access goes -/

theorem atAddr_of_lt {a : Nat} (h : a < 2 ^ 32) (s : State) : atAddr a s = .next s :=
  if_pos (decide_eq_true h)

theorem atAddr_of_le {a : Nat} (h : 2 ^ 32 ≤ a) (s : State) : atAddr a s = .fault .unmappedAddress :=
  if_neg (by simpa [inSpace] using h)

/-- Below the stream windows no data port is met. -/
theorem portOf_of_lt {a : Nat} (h : a < 0x1000000) : portOf a = none := if_neg (by omega)

theorem accAddr_of_lt {a : Nat} (h : a < 0x1000000) : accAddr a = a / 4 * 4 := by
  rw [accAddr, portOf_of_lt h]

theorem accAddr_of_aligned {a : Nat} (h : a < 0x1000000) (h4 : a % 4 = 0) : accAddr a = a := by
  rw [accAddr_of_lt h]
  omega

theorem inStaging_of_lt {a : Nat} (h : a < 0x200000) : inStaging a = false := decide_eq_false (by omega)

/-! ### Reset values -/

/-- A map with no entry for a key reads its default there. -/
theorem Sparse.read_of_forall_ne {α : Type} (d : Nat → α) {a : Nat} : ∀ {m : List (Nat × α)}, (∀ p ∈ m, p.1 ≠ a) →
    Sparse.read d m a = d a
  | [], _ => rfl
  | (k, v) :: m, h => by
    have hk : a ≠ k := (h (k, v) (by simp)).symm
    rw [Sparse.read, if_neg hk, Sparse.read_of_forall_ne d fun p hp => h p (List.mem_cons_of_mem _ hp)]

theorem resetOf_of_lease {a : Nat} (h : 0x31200 ≤ a ∧ a < 0x31280) : resetOf a = 1000 := if_pos h

theorem resetOf_of_unlisted {a : Nat} (h : ¬ (0x31200 ≤ a ∧ a < 0x31280)) (hn : ∀ p ∈ resetTable, p.1 ≠ a) :
    resetOf a = 0 := by
  rw [resetOf, if_neg h, Sparse.read_of_forall_ne _ hn]

/-- After reset every register reads its reset value. -/
theorem State.reset_rd (a : Nat) : State.reset.rd a = resetOf a := rfl

/-! ### What becomes of a write -/

theorem exec_registerWrite {a : Nat} (h : a < 2 ^ 32) (m : Master) (v hw : Word) (s : State) :
    exec (.registerWrite m a v hw) s =
      .next (s.guardW m (accAddr a) v.toNat fun t => t.writeEff m (accAddr a) v.toNat hw.toNat) :=
  atAddr_of_lt h _

theorem State.guardW_viol {s : State} {m : Master} {a : Nat} (h : s.wrAcc m a = .viol) (v : Nat) (k : State → State) :
    s.guardW m a v k = s.secViol := by
  rw [State.guardW, h]

theorem State.guardW_none {s : State} {m : Master} {a : Nat} (h : s.wrAcc m a = .none) (v : Nat) (k : State → State) :
    s.guardW m a v k = s := by
  rw [State.guardW, h]

theorem State.guardW_held {s : State} {m : Master} {a d : Nat} (h : s.wrAcc m a = .held d) (v : Nat)
    (k : State → State) : s.guardW m a v k = s.domEvent d (.regWrite m a (BitVec.ofNat 64 v)) := by
  rw [State.guardW, h]

theorem State.guardW_ok_eq {s : State} {m : Master} {a : Nat} (h : s.wrAcc m a = .ok) (v : Nat) (k : State → State) :
    s.guardW m a v k = k s := by
  rw [State.guardW, h]

theorem State.secViol_getF (s : State) : s.secViol.getF F.SYS_IRQ_S_STAT_SEC_VIOL = 1 :=
  State.getF_setF_same s F.SYS_IRQ_S_STAT_SEC_VIOL 1 (by decide)

/-- A violation shows in its interrupt status bit alone. -/
theorem State.secViol_onlyFields (s : State) : OnlyFields s s.secViol [F.SYS_IRQ_S_STAT_SEC_VIOL] :=
  OnlyFields.setF s F.SYS_IRQ_S_STAT_SEC_VIOL 1 (by decide)

/-- The writes of the units that gather those of their block in one operation. -/
def unitWrite : Nat → Option (State → Master → Nat → Nat → Nat → State)
  | 1 => some State.writeLodge
  | 2 => some State.writeGzb
  | 3 => some State.writeMbx
  | 4 => some State.writeArb
  | 5 => some State.writeSdl
  | 11 => some State.writeWkt
  | _ => none

/-- A write goes to the unit of its block. -/
theorem State.writeEff_unit {a b : Nat} {f : State → Master → Nat → Nat → Nat → State} (hb : a / 0x10000 = b)
    (hf : unitWrite b = some f) (s : State) (m : Master) (v hw : Nat) : s.writeEff m a v hw = f s m a v hw := by
  unfold unitWrite at hf
  split at hf
  case h_7 => exact nomatch hf
  all_goals
    rw [← Option.some.inj hf, State.writeEff, portOf_of_lt (by omega)]
    simp only [inStaging_of_lt (show a < 0x200000 by omega), if_neg Bool.false_ne_true, hb]

/-! ### What becomes of a read -/

theorem exec_rcFieldRead {a : Nat} (h : a < 2 ^ 32) (m : Master) (ev : Word) (s : State) :
    exec (.rcFieldRead m a ev) s = .next (State.onBus (s.hostRead m a ev.toNat)) :=
  atAddr_of_lt h _

theorem State.guardR_none {s : State} {m : Master} {a : Nat} (h : s.rdAcc m a = .none) (k : State → DWord × State) :
    s.guardR m a k = (0, s) := by
  rw [State.guardR, h]

theorem State.guardR_ok_eq {s : State} {m : Master} {a : Nat} (h : s.rdAcc m a = .ok) (k : State → DWord × State) :
    s.guardR m a k = k s := by
  rw [State.guardR, h]

/-- A read of the low half of an FRC value kept is that read alone. -/
theorem State.readEff_of_frcRead {s : State} {a : Nat} {r : DWord × State} (hf : s.frcRead? a = some r)
    (h : a < 0x200000) {m : Master} (hz : readsZero m a = false) (ev : Nat) : s.readEff m a ev = r := by
  rw [State.readEff, portOf_of_lt (by omega)]
  simp only [hz, inStaging_of_lt h, hf]
  rw [if_neg Bool.false_ne_true, if_neg Bool.false_ne_true, if_neg (by omega)]

/-- A read of any other register below the staging buffer, a time base and a claim apart, shows the register and clears
its RC fields. -/
theorem State.readEff_of_register {s : State} {a : Nat} (hf : s.frcRead? a = none) (h : a < 0x200000) {m : Master}
    (hz : readsZero m a = false) (htb : a < 0x50100 ∨ 0x50180 ≤ a) (hcl : a < 0x31000 ∨ 0x31080 ≤ a) (ev : Nat) :
    s.readEff m a ev = ((s.regValue m a).setWidth 64, s.rcClear m a ev) := by
  rw [State.readEff, portOf_of_lt (by omega)]
  simp only [hz, inStaging_of_lt h, hf]
  rw [if_neg Bool.false_ne_true, if_neg Bool.false_ne_true, if_neg (by omega), if_neg (by omega), if_neg (by omega)]

/-! ### The value of a read on the bus -/

@[simp] theorem State.onBus_bus (v : DWord) (t : State) : (State.onBus (v, t)).bus = [v] := rfl
@[simp] theorem State.onBus_rd (v : DWord) (t : State) (a : Nat) : (State.onBus (v, t)).rd a = t.rd a := rfl

theorem OnlyFields.onBus {s t : State} {fs : List Fld} (h : OnlyFields s t fs) (v : DWord) :
    OnlyFields s (State.onBus (v, t)) fs := h

/-- A read that changes registers alone changes registers and the bus. -/
theorem State.onBus_frame {s t : State} {v : DWord} (h : t = { s with regs := t.regs }) :
    State.onBus (v, t) = { s with regs := (State.onBus (v, t)).regs, bus := (State.onBus (v, t)).bus } := by
  rw [h]
  rfl

/-! ### Absent units -/

/-- An access to the block of an absent unit has no effect (R3). -/
theorem State.wrAcc_of_absent {s : State} {a : Nat} (h : s.blockAbsent (a / 0x10000) = true) (m : Master) :
    s.wrAcc m a = .none := by
  rw [State.wrAcc, if_pos (.inl h)]

theorem State.rdAcc_of_absent {s : State} {a : Nat} (h : s.blockAbsent (a / 0x10000) = true) (m : Master) :
    s.rdAcc m a = .none := by
  rw [State.rdAcc, if_pos (.inl h)]

/-- No unit stands in a block above 16. -/
theorem blockUnit_of_lt {blk : Nat} (h : 16 < blk) : blockUnit blk = none := by
  obtain ⟨n, rfl⟩ := Nat.exists_eq_add_of_le' (show 17 ≤ blk from h)
  rfl

/-- The block of an absent unit lies below the stream windows. -/
theorem State.addr_lt_of_absent {s : State} {a : Nat} (h : s.blockAbsent (a / 0x10000) = true) : a < 0x110000 := by
  by_contra hlt
  rw [State.blockAbsent, blockUnit_of_lt (by omega)] at h
  cases h

/-- An access to the block of an absent unit goes to that block. -/
theorem State.accAddr_absent {s : State} {a : Nat} (h : s.blockAbsent (a / 0x10000) = true) :
    s.blockAbsent (accAddr a / 0x10000) = true := by
  have hlt := State.addr_lt_of_absent h
  rwa [accAddr_of_lt (by omega), show a / 4 * 4 / 0x10000 = a / 0x10000 by omega]

end Sys2Proof.Machine
end

section
/-! SUPPORT. Every command, and so every step, keeps a sound state sound. -/
namespace Sys2Proof.Machine
variable {orig : State}

/-- A command that answers a next state keeps a sound state sound, and what no command takes back: each command by the
lemma of its meaning. -/
theorem exec_ok (c : Instr) (s : State) (hs : s.Ok orig) : NextOk orig (exec c s) :=
  match c with
  | .registerWrite m addr v hw => execRegisterWrite_ok m addr v hw s hs
  | .rcFieldRead m addr ev => execRcFieldRead_ok m addr ev s hs
  | .absentUnitAccess m addr w => execAbsentUnitAccess_ok m addr w s hs
  | .mainsApply stays => execMainsApply_ok stays s hs
  | .startupBegin p => execStartupBegin_ok p s hs
  | .supplyLossDeclare => execSupplyLossDeclare_ok s hs
  | .deferredShed => execDeferredShed_ok s hs
  | .supplyReturn => execSupplyReturn_ok s hs
  | .holdupExpiry => execHoldupExpiry_ok s hs
  | .coreRailFault d => execCoreRailFault_ok d s hs
  | .pwrReqWatch m key => execPwrReqWatch_ok m key s hs
  | .pwrReqDeep m key => execPwrReqDeep_ok m key s hs
  | .powerStateEntry => execPowerStateEntry_ok s hs
  | .wakeEvent => execWakeEvent_ok s hs
  | .domOnRequest m d => execDomOnRequest_ok m d s hs
  | .domOffRequest m d => execDomOffRequest_ok m d s hs
  | .domPwrUpDone d => execDomPwrUpDone_ok d s hs
  | .domShutdownDone d => execDomShutdownDone_ok d s hs
  | .domRailFault d => execDomRailFault_ok d s hs
  | .domIdleTimeout d => execDomIdleTimeout_ok d s hs
  | .domFaultClear m d => execDomFaultClear_ok m d s hs
  | .wakeFrcArm m hi => execWakeFrcArm_ok m hi s hs
  | .frcCmpMatch => execFrcCmpMatch_ok s hs
  | .frcLoRead m => execFrcLoRead_ok m s hs
  | .gzbEdgeFrcLoRead m => execGzbEdgeFrcLoRead_ok m s hs
  | .orgTamperFrcLoRead m => execOrgTamperFrcLoRead_ok m s hs
  | .vbSnapFrcLoRead m k => execVbSnapFrcLoRead_ok m k s hs
  | .tcxoFail => execTcxoFail_ok s hs
  | .tcxoRestore => execTcxoRestore_ok s hs
  | .xo32Fail => execXo32Fail_ok s hs
  | .pllLockLoss p => execPllLockLoss_ok p s hs
  | .pllRelock p => execPllRelock_ok p s hs
  | .pllLossReset p => execPllLossReset_ok p s hs
  | .resetPinAssert lowNs taken => execResetPinAssert_ok lowNs taken s hs
  | .resetPinRelease => execResetPinRelease_ok s hs
  | .swResetAll m key => execSwResetAll_ok m key s hs
  | .swResetDomains m key doms => execSwResetDomains_ok m key doms s hs
  | .resetHoldEnd src => execResetHoldEnd_ok src s hs
  | .xingResync id dir => execXingResync_ok id dir s hs
  | .pulseRoundtripDone id => execPulseRoundtripDone_ok id s hs
  | .swapGo m len second => execSwapGo_ok m len second s hs
  | .swapVerifyDone => execSwapVerifyDone_ok s hs
  | .hspiSelectFall sel => execHspiSelectFall_ok sel s hs
  | .hspiSelectRise sel midByte => execHspiSelectRise_ok sel midByte s hs
  | .hspiRead addr nbytes => execHspiRead_ok addr nbytes s hs
  | .hspiWrite addr data => execHspiWrite_ok addr data s hs
  | .hspiStatus => execHspiStatus_ok s hs
  | .hspiClear mask => execHspiClear_ok mask s hs
  | .hspiUnknownCmd code => execHspiUnknownCmd_ok code s hs
  | .hspiWriteComplete => execHspiWriteComplete_ok s hs
  | .ethHostRead port src seq addr count => execEthHostRead_ok port src seq addr count s hs
  | .ethHostWrite port src seq addr count data => execEthHostWrite_ok port src seq addr count data s hs
  | .ethHostStatus port src seq => execEthHostStatus_ok port src seq s hs
  | .ethFrameRx port dst etype fcsOk ptpMcast room req => execEthFrameRx_ok port dst etype fcsOk ptpMcast room req s hs
  | .ethLinkUp port speed mdix full polInv pairMap => execEthLinkUp_ok port speed mdix full polInv pairMap s hs
  | .ethLinkDown port => execEthLinkDown_ok port s hs
  | .ethCtrlWrite m port v => execEthCtrlWrite_ok m port v s hs
  | .ptpMessageRx port phase x r => execPtpMessageRx_ok port phase x r s hs
  | .ptpMessageTx port phase x => execPtpMessageTx_ok port phase x s hs
  | .mbxGo m c v => execMbxGo_ok m c v s hs
  | .mbxTake m c v => execMbxTake_ok m c v s hs
  | .mbxDataWrite m c k v => execMbxDataWrite_ok m c k v s hs
  | .mbxHostReset m key => execMbxHostReset_ok m key s hs
  | .mbxRepost c => execMbxRepost_ok c s hs
  | .claimAcquire ms n => execClaimAcquire_ok ms n s hs
  | .claimRelease m n => execClaimRelease_ok m n s hs
  | .claimRenew m n => execClaimRenew_ok m n s hs
  | .claimBadWrite m n v => execClaimBadWrite_ok m n v s hs
  | .claimLeaseWrite m n v => execClaimLeaseWrite_ok m n v s hs
  | .claimLeaseExpiry n => execClaimLeaseExpiry_ok n s hs
  | .claimOwnerTrouble m => execClaimOwnerTrouble_ok m s hs
  | .streamRead ms w => execStreamRead_ok ms w s hs
  | .streamWrite m w v => execStreamWrite_ok m w v s hs
  | .streamFlush m w => execStreamFlush_ok m w s hs
  | .queuePushResume wid => execQueuePushResume_ok wid s hs
  | .workItemSubmit g => execWorkItemSubmit_ok g s hs
  | .dispatch lat => execDispatch_ok lat s hs
  | .workItemComplete r => execWorkItemComplete_ok r s hs
  | .wiDonePush g => execWiDonePush_ok g s hs
  | .coreOverrun k => execCoreOverrun_ok k s hs
  | .coreAccessFault k => execCoreAccessFault_ok k s hs
  | .wdtDispatchTimeout => execWdtDispatchTimeout_ok s hs
  | .evtSet m task flag => execEvtSet_ok m task flag s hs
  | .evtClr m task flag setToo => execEvtClr_ok m task flag setToo s hs
  | .taskMaskWrite m mask => execTaskMaskWrite_ok m mask s hs
  | .nop wid => execNop_ok wid s hs
  | .signal wid => execSignal_ok wid s hs
  | .cancel g => execCancel_ok g s hs
  | .sdlArm wid => execSdlArm_ok wid s hs
  | .sdlSteerRate wid => execSdlSteerRate_ok wid s hs
  | .sdlSteerSlew wid => execSdlSteerSlew_ok wid s hs
  | .sdlSteerStep wid => execSdlSteerStep_ok wid s hs
  | .sdlSteerTod wid => execSdlSteerTod_ok wid s hs
  | .tb0Second freq est func => execTb0Second_ok freq est func s hs
  | .holdLimitExpiry => execHoldLimitExpiry_ok s hs
  | .tb0StepApply => execTb0StepApply_ok s hs
  | .ref10OkSet => execRef10OkSet_ok s hs
  | .ref10Loss => execRef10Loss_ok s hs
  | .slotStart => execSlotStart_ok s hs
  | .tbNsRead m k => execTbNsRead_ok m k s hs
  | .cmpArm m k n disarmToo => execCmpArm_ok m k n disarmToo s hs
  | .cmpDisarm m k n => execCmpDisarm_ok m k n s hs
  | .cmpFire k n => execCmpFire_ok k n s hs
  | .convGo m => execConvGo_ok m s hs
  | .ppsInEdge phase => execPpsInEdge_ok phase s hs
  | .ppsInLoss => execPpsInLoss_ok s hs
  | .snapInEdge phase => execSnapInEdge_ok phase s hs
  | .gpioCaptureEdge pin phase => execGpioCaptureEdge_ok pin phase s hs
  | .ppsOutPulse => execPpsOutPulse_ok s hs
  | .ppsOutFall => execPpsOutFall_ok s hs
  | .antBiasOpen a ma => execAntBiasOpen_ok a ma s hs
  | .antBiasShort a ma => execAntBiasShort_ok a ma s hs
  | .antBiasRetry a => execAntBiasRetry_ok a s hs
  | .antSwitch => execAntSwitch_ok s hs
  | .searchStart p sky => execSearchStart_ok p sky s hs
  | .searchDone p ds => execSearchDone_ok p ds s hs
  | .chPullInLock c => execChPullInLock_ok c s hs
  | .chPullInTimeout c => execChPullInTimeout_ok c s hs
  | .chPhaseLock c => execChPhaseLock_ok c s hs
  | .chPhaseSlip c => execChPhaseSlip_ok c s hs
  | .chSidePeak c => execChSidePeak_ok c s hs
  | .chLost c => execChLost_ok c s hs
  | .chReacqExpiry c => execChReacqExpiry_ok c s hs
  | .floatChRelease c => execFloatChRelease_ok c s hs
  | .baseEpochLatch tb => execBaseEpochLatch_ok tb s hs
  | .baseRecordComplete obs => execBaseRecordComplete_ok obs s hs
  | .timeSolution r => execTimeSolution_ok r s hs
  | .noiseCheck c noise => execNoiseCheck_ok c noise s hs
  | .bvSurveyStart wid => execBvSurveyStart_ok wid s hs
  | .bvSurveySet wid => execBvSurveySet_ok wid s hs
  | .bvSurveyAbort wid => execBvSurveyAbort_ok wid s hs
  | .bvSurveySelectAnt wid => execBvSurveySelectAnt_ok wid s hs
  | .bvSearch wid => execBvSearch_ok wid s hs
  | .obsIntake => execObsIntake_ok s hs
  | .laneTake => execLaneTake_ok s hs
  | .fixDelivery l => execFixDelivery_ok l s hs
  | .laneDeadlineAbandon l => execLaneDeadlineAbandon_ok l s hs
  | .laneFault l => execLaneFault_ok l s hs
  | .slvRoverReset wid => execSlvRoverReset_ok wid s hs
  | .slvRoverDisable wid => execSlvRoverDisable_ok wid s hs
  | .slvRoverEnable wid => execSlvRoverEnable_ok wid s hs
  | .slvRoverQuery wid => execSlvRoverQuery_ok wid s hs
  | .rtcmBuild => execRtcmBuild_ok s hs
  | .corrAgeExpiry => execCorrAgeExpiry_ok s hs
  | .dlFixAssemble => execDlFixAssemble_ok s hs
  | .stopTrainRepeat => execStopTrainRepeat_ok s hs
  | .sackSend b => execSackSend_ok b s hs
  | .frameRxBad b c phr psdu => execFrameRxBad_ok b c phr psdu s hs
  | .joinReqRx c psdu e => execJoinReqRx_ok c psdu e s hs
  | .joinKeyDone m => execJoinKeyDone_ok m s hs
  | .ctrlRx b c psdu e => execCtrlRx_ok b c psdu e s hs
  | .obsRx b c psdu e pop => execObsRx_ok b c psdu e pop s hs
  | .stopReqRx b c psdu e => execStopReqRx_ok b c psdu e s hs
  | .leaveRx b c psdu e => execLeaveRx_ok b c psdu e s hs
  | .statusRx b c psdu e => execStatusRx_ok b c psdu e s hs
  | .floodFrameRx b c psdu e => execFloodFrameRx_ok b c psdu e s hs
  | .iackRx b psdu t => execIackRx_ok b psdu t s hs
  | .iackTimeout b => execIackTimeout_ok b s hs
  | .wurWordRx w => execWurWordRx_ok w s hs
  | .bsSend wid => execBsSend_ok wid s hs
  | .bsMemberExpel wid => execBsMemberExpel_ok wid s hs
  | .bsMemberResync wid => execBsMemberResync_ok wid s hs
  | .planRequestIntake => execPlanRequestIntake_ok s hs
  | .plannerTake => execPlannerTake_ok s hs
  | .planDone tabs => execPlanDone_ok tabs s hs
  | .planExhausted => execPlanExhausted_ok s hs
  | .posStaleExpiry m => execPosStaleExpiry_ok m s hs
  | .rtTick => execRtTick_ok s hs
  | .taskDwellExpiry m => execTaskDwellExpiry_ok m s hs
  | .pglPlan wid pop => execPglPlan_ok wid pop s hs
  | .pglAssign wid pop => execPglAssign_ok wid pop s hs
  | .pglReleaseFuture wid => execPglReleaseFuture_ok wid s hs
  | .pglReleaseAll wid => execPglReleaseAll_ok wid s hs
  | .stopInputEdge k => execStopInputEdge_ok k s hs
  | .gzbStopWrite m v => execGzbStopWrite_ok m v s hs
  | .gzbInitExit => execGzbInitExit_ok s hs
  | .stopKeyLoad next => execStopKeyLoad_ok next s hs
  | .testPulse n => execTestPulse_ok n s hs
  | .fallJudgement n => execFallJudgement_ok n s hs
  | .riseJudgement n => execRiseJudgement_ok n s hs
  | .tpShortDetect n => execTpShortDetect_ok n s hs
  | .loopReverseDetect n => execLoopReverseDetect_ok n s hs
  | .monitorSample a b => execMonitorSample_ok a b s hs
  | .chMismatchDetect => execChMismatchDetect_ok s hs
  | .discrepancyDetect => execDiscrepancyDetect_ok s hs
  | .rfSelfTest power off => execRfSelfTest_ok power off s hs
  | .coilShortDetect k => execCoilShortDetect_ok k s hs
  | .coilOpenDetect k => execCoilOpenDetect_ok k s hs
  | .gzbFaultClear m mask absent => execGzbFaultClear_ok m mask absent s hs
  | .gzbClear wid => execGzbClear_ok wid s hs
  | .psWriteComplete ok => execPsWriteComplete_ok ok s hs
  | .wktEnable m n => execWktEnable_ok m n s hs
  | .wktCheckDone n sc ia ib vm => execWktCheckDone_ok n sc ia ib vm s hs
  | .wktDisable m n => execWktDisable_ok m n s hs
  | .wktZero m n => execWktZero_ok m n s hs
  | .wktMoveTable wid => execWktMoveTable_ok wid s hs
  | .wktMoveTarget wid => execWktMoveTarget_ok wid s hs
  | .wktHomeStall wid => execWktHomeStall_ok wid s hs
  | .wktHomeSwitch wid => execWktHomeSwitch_ok wid s hs
  | .wktTableStart n => execWktTableStart_ok n s hs
  | .wktTableEnd n => execWktTableEnd_ok n s hs
  | .wktRampEnd n => execWktRampEnd_ok n s hs
  | .wktHomeFound n level => execWktHomeFound_ok n level s hs
  | .wktHomeNotFound n => execWktHomeNotFound_ok n s hs
  | .wktStall n => execWktStall_ok n s hs
  | .wktOvercurrent n b cur vm => execWktOvercurrent_ok n b cur vm s hs
  | .wktPhaseGndShort n b v vm => execWktPhaseGndShort_ok n b v vm s hs
  | .wktVmLow n vm => execWktVmLow_ok n vm s hs
  | .wktVmOver n vm => execWktVmOver_ok n vm s hs
  | .wktVmHigh n vm => execWktVmHigh_ok n vm s hs
  | .wktStandstillExpiry n => execWktStandstillExpiry_ok n s hs
  | .wktReduceDone n => execWktReduceDone_ok n s hs
  | .wktDecelWrite m n e v => execWktDecelWrite_ok m n e v s hs
  | .wktLimitWrite m n off v => execWktLimitWrite_ok m n off v s hs
  | .wktFaultClear m n mask absent => execWktFaultClear_ok m n mask absent s hs
  | .orgKeyUpdate wid => execOrgKeyUpdate_ok wid s hs
  | .orgDeriveNode wid => execOrgDeriveNode_ok wid s hs
  | .orgDeriveInvalidate wid => execOrgDeriveInvalidate_ok wid s hs
  | .orgDeriveRoll wid => execOrgDeriveRoll_ok wid s hs
  | .orgDeriveAttest wid => execOrgDeriveAttest_ok wid s hs
  | .orgDeriveHmac wid => execOrgDeriveHmac_ok wid s hs
  | .tamperSense now => execTamperSense_ok now s hs
  | .tamperKeyRedraw => execTamperKeyRedraw_ok s hs
  | .tempMeasure t upd => execTempMeasure_ok t upd s hs
  | .svcRxInvert => execSvcRxInvert_ok s hs
  | .svcPresentAssert => execSvcPresentAssert_ok s hs
  | .svcPresentRelease => execSvcPresentRelease_ok s hs
  | .svcPacketBad => execSvcPacketBad_ok s hs
  | .svcHello seq payload => execSvcHello_ok seq payload s hs
  | .svcSetRate seq payload => execSvcSetRate_ok seq payload s hs
  | .svcRateTimeout => execSvcRateTimeout_ok s hs
  | .svcRead seq payload => execSvcRead_ok seq payload s hs
  | .svcWrite seq payload => execSvcWrite_ok seq payload s hs
  | .svcSubmit seq payload => execSvcSubmit_ok seq payload s hs
  | .svcReset seq payload => execSvcReset_ok seq payload s hs
  | .updBegin r => execUpdBegin_ok r s hs
  | .updData r => execUpdData_ok r s hs
  | .updEnd r => execUpdEnd_ok r s hs
  | .updActivate r => execUpdActivate_ok r s hs
  | .updAbort r => execUpdAbort_ok r s hs
  | .updConfirm r => execUpdConfirm_ok r s hs
  | .updLockTimeout => execUpdLockTimeout_ok s hs
  | .svnFuseBurn => execSvnFuseBurn_ok s hs
  | .snapTrigger src tb idx m => execSnapTrigger_ok src tb idx m s hs
  | .vbSnapWrite m v => execVbSnapWrite_ok m v s hs
  | .vbRecordAssemble k => execVbRecordAssemble_ok k s hs
  | .vbRecordProgrammed => execVbRecordProgrammed_ok s hs
  | .vbTokenRefill c => execVbTokenRefill_ok c s hs
  | .vbRead wid => execVbRead_ok wid s hs
  | .vbMark wid => execVbMark_ok wid s hs
  | .testRun wid => execTestRun_ok wid s hs
  | .testDurationExpiry flips value => execTestDurationExpiry_ok flips value s hs
  | .loopReadsClosed k => execLoopReadsClosed_ok k s hs
  | .stopTrainEnd => execStopTrainEnd_ok s hs
  | .antBiasNormal a ma => execAntBiasNormal_ok a ma s hs
  | .cmpPulseEnd gpio => execCmpPulseEnd_ok gpio s hs
  | .tbSlewDone => execTbSlewDone_ok s hs
  | .wktVmHighEnd n vm => execWktVmHighEnd_ok n vm s hs
  | .wktVmReversed n vm => execWktVmReversed_ok n vm s hs

/-- The front command runs on the state with the queue's rest, which is as sound as the state. -/
theorem step_sound {s t : State} (h : s.Sound) (hstep : step s = .next t) : t.Sound := by
  unfold step at hstep
  split at hstep
  next =>
    cases hstep
    exact State.idle_sound h
  next c q _ =>
    have hq : ({ s with pending := q } : State).Sound := h
    exact (exec_ok c _ (State.sound_ok hq) t hstep).1

/-- Settles O3: a tick keeps a sound state sound, and so does every command. -/
theorem everyStepKeepsSound : Obligations.EveryStepKeepsSound := by
  unfold Obligations.EveryStepKeepsSound
  intro s t hs hstep
  exact step_sound hs hstep

end Sys2Proof.Machine
end

section
/-! SUPPORT. The machine right after reset, and the accesses that reach no register. -/
namespace Sys2Proof.Machine

/-- Settles O5: no register is stored right after reset, so each reads its reset value. -/
theorem resetState : Obligations.ResetState := by
  unfold Obligations.ResetState
  have htable : ∀ p ∈ resetTable, resetOf p.1 = p.2 := by decide
  refine ⟨⟨rfl, rfl, rfl⟩, rfl, rfl, rfl, htable, fun a hlo hhi => ?_, fun a hout hn => ?_⟩
  · rw [State.reset_rd, resetOf_of_lease ⟨hlo, hhi⟩]
  · rw [State.reset_rd, resetOf_of_unlisted (by omega) hn]

/-- Settles O6: the case of `State.wrAcc` decides. -/
theorem registerWriteThatDoesNotReach : Obligations.RegisterWriteThatDoesNotReach := by
  unfold Obligations.RegisterWriteThatDoesNotReach
  intro m a v hw s ha
  rw [exec_registerWrite ha]
  refine ⟨fun h => ?_, fun h => ?_, fun d h => ?_⟩
  · rw [State.guardW_viol h]
    exact ⟨_, rfl, State.secViol_getF s, State.secViol_onlyFields s, rfl⟩
  · rw [State.guardW_none h]
  · rw [State.guardW_held h]

/-- A write to the block of an absent unit is ignored. -/
theorem exec_absentUnitAccess_write {s : State} {a : Nat} (ha : a < 2 ^ 32) (h : s.blockAbsent (a / 0x10000) = true)
    (m : Master) (v : Word) : exec (.absentUnitAccess m a (some v)) s = .next s := by
  change atAddr a (if s.blockAbsent (a / 0x10000) then s.hostWrite m a v.toNat else s) = _
  rw [if_pos h, atAddr_of_lt ha, State.hostWrite,
    State.guardW_none (State.wrAcc_of_absent (State.accAddr_absent h) m)]

/-- A read of the block of an absent unit returns 0. -/
theorem exec_absentUnitAccess_read {s : State} {a : Nat} (ha : a < 2 ^ 32) (h : s.blockAbsent (a / 0x10000) = true)
    (m : Master) : exec (.absentUnitAccess m a none) s = .next { s with bus := [0] } := by
  change atAddr a (if s.blockAbsent (a / 0x10000) then State.onBus (s.hostRead m a) else s) = _
  rw [if_pos h, atAddr_of_lt ha, State.hostRead,
    State.guardR_none (State.rdAcc_of_absent (State.accAddr_absent h) m)]
  rfl

/-- Settles O9: the gate of an absent block lets no access through, and an address past the space stops any. -/
theorem accessesWithoutRegister : Obligations.AccessesWithoutRegister := by
  unfold Obligations.AccessesWithoutRegister
  refine ⟨fun m a s ha h => ⟨exec_absentUnitAccess_write ha h m, exec_absentUnitAccess_read ha h m⟩, ?_⟩
  intro m a v hw w n data s ha
  exact ⟨atAddr_of_le ha _, atAddr_of_le ha _, atAddr_of_le ha _, atAddr_of_le ha _, atAddr_of_le ha _⟩

end Sys2Proof.Machine
end

section
/-! SUPPORT. A register read: the value on the bus, the RC fields cleared. -/
namespace Sys2Proof.Machine

theorem word_getLsbD (n : Nat) {i : Nat} (hi : i < 32) : (word n).getLsbD i = n.testBit i := by
  rw [word, BitVec.getLsbD_ofNat, decide_eq_true hi, Bool.true_and]

/-- A register word with its RC bits cleared but for those of `ev`. -/
def rcWord (old rc ev : Nat) : Word := word ((old &&& ((2 ^ 32 - 1) ^^^ rc)) ||| (ev &&& rc))

theorem rcWord_getLsbD (old ev : Word) (rc : Nat) {i : Nat} (hi : i < 32) :
    (rcWord old.toNat rc ev.toNat).getLsbD i =
      ((old.getLsbD i && !rc.testBit i) || (ev.getLsbD i && rc.testBit i)) := by
  rw [rcWord, word_getLsbD _ hi, Nat.testBit_or, Nat.testBit_and, Nat.testBit_xor, Nat.testBit_two_pow_sub_one,
    Nat.testBit_and, BitVec.testBit_toNat, BitVec.testBit_toNat]
  simp [hi]

/-- RC fields clear in the master's own copy of the register; two registers show counts kept elsewhere. -/
theorem State.rcClear_eq {a : Nat} {r : RegRow} (hr : regRow a = some r) (hts : a ≠ R.ARB_TASK_STAT)
    (hxs : a ≠ R.LODGE_XING_STAT) (s : State) (m : Master) (ev : Nat) :
    s.rcClear m a ev =
      if r.rc = 0 then s else s.wr (homeAddr r m a) (rcWord (s.rd (homeAddr r m a)).toNat r.rc ev) := by
  rw [State.rcClear, hr]
  simp only [if_neg hts, if_neg hxs, rcWord]

/-- A read that only clears RC fields: the bits, and what it leaves unchanged. -/
theorem State.rcClear_spec {a : Nat} {r : RegRow} (hr : regRow a = some r) (hts : a ≠ R.ARB_TASK_STAT)
    (hxs : a ≠ R.LODGE_XING_STAT) (s : State) (m : Master) (ev : Word) :
    (∀ i, i < 32 → ((s.rcClear m a ev.toNat).rd (homeAddr r m a)).getLsbD i =
      (((s.rd (homeAddr r m a)).getLsbD i && !r.rc.testBit i) || (ev.getLsbD i && r.rc.testBit i))) ∧
    OnlyFields s (s.rcClear m a ev.toNat) [regFld (homeAddr r m a)] ∧
    s.rcClear m a ev.toNat = { s with regs := (s.rcClear m a ev.toNat).regs } := by
  rw [State.rcClear_eq hr hts hxs]
  split
  next hrc => exact ⟨fun i _ => by simp [hrc], OnlyFields.refl _ _, rfl⟩
  next hrc =>
    refine ⟨fun i hi => ?_, OnlyFields.wr _ _ _ _ rfl, rfl⟩
    rw [State.rd_wr_same, rcWord_getLsbD _ _ _ hi]

/-- The low halves of FRC values kept stand in blocks 1, 2, 12 and 13. -/
theorem State.frcRead?_none {a : Nat} (h1 : a < 0x10000 ∨ 0x20000 ≤ a) (hg : a ≠ R.GZB_EDGE_FRC_LO) (h12 : a < 0xC0000)
    (s : State) : s.frcRead? a = none := by
  have hl : a ≠ R.LODGE_FRC_LO := by simp only [R.LODGE_FRC_LO]; omega
  have ho : a ≠ R.ORG_TAMPER_FRC_LO := by simp only [R.ORG_TAMPER_FRC_LO]; omega
  have hv0 : a ≠ R.VB_SNAP0_FRC_LO := by simp only [R.VB_SNAP0_FRC_LO]; omega
  have hv1 : a ≠ R.VB_SNAP1_FRC_LO := by simp only [R.VB_SNAP1_FRC_LO]; omega
  simp only [State.frcRead?, if_neg hl, if_neg hg, if_neg ho, if_neg hv0, if_neg hv1]

/-- In the blocks where no read but GZB_EDGE_FRC_LO's latches or acts, a read returns the value and clears RC fields. -/
theorem State.readEff_plain {a : Nat} (hb : a / 0x10000 ∈ [0, 2, 6, 7, 8, 9, 10, 11]) (hg : a ≠ R.GZB_EDGE_FRC_LO)
    (s : State) (m : Master) (ev : Nat) : s.readEff m a ev = ((s.regValue m a).setWidth 64, s.rcClear m a ev) := by
  have ha : a < 0x10000 ∨ (0x20000 ≤ a ∧ a < 0x30000) ∨ (0x60000 ≤ a ∧ a < 0xC0000) := by
    simp only [List.mem_cons, List.not_mem_nil, or_false] at hb
    omega
  have hz : readsZero m a = false := by
    simp only [readsZero, Bool.and_eq_false_iff, Bool.or_eq_false_iff, decide_eq_false_iff_not]
    omega
  have hf : s.frcRead? a = none := State.frcRead?_none (by omega) hg (by omega) s
  exact State.readEff_of_register hf (by omega) hz (by omega) (by omega) ev

/-- Settles O8: the read reaches its register, whose RC fields clear. -/
theorem registerReadReturnsAndClears : Obligations.RegisterReadReturnsAndClears := by
  unfold Obligations.RegisterReadReturnsAndClears
  intro m a ev s r ha hacc hb hg hr
  have hts : accAddr a ≠ R.ARB_TASK_STAT := by
    intro h
    rw [h] at hb
    exact absurd hb (by decide)
  have hxs : accAddr a ≠ R.LODGE_XING_STAT := by
    intro h
    rw [h] at hb
    exact absurd hb (by decide)
  obtain ⟨hbits, honly, hframe⟩ := State.rcClear_spec hr hts hxs s m ev
  refine ⟨_, exec_rcFieldRead ha m ev s, ?_⟩
  rw [State.hostRead, State.guardR_ok_eq hacc, State.readEff_plain hb hg]
  refine ⟨State.onBus_bus _ _, hbits, honly.onBus _, State.onBus_frame hframe⟩

end Sys2Proof.Machine
end

section
/-! SUPPORT. Reads of the low part of a time: FRC values with their high half latched, time bases sampled. -/
namespace Sys2Proof.Machine

theorem State.hostRead_of_frcRead {s : State} {m : Master} {a : Nat} {r : DWord × State} (hacc : s.rdAcc m a = .ok)
    (hf : s.frcRead? a = some r) (h : a < 0x200000) (h4 : a % 4 = 0) (hz : readsZero m a = false) :
    s.hostRead m a = r := by
  have ha : accAddr a = a := accAddr_of_aligned (by omega) h4
  rw [State.hostRead, ha, State.guardR_ok_eq hacc, State.readEff_of_frcRead hf h hz]

/-- Outside the blocks ORG, SVC/UPD and TEST no read returns 0 for the master's group alone. -/
theorem readsZero_of_block {m : Master} {a : Nat} (h : a / 0x10000 ≠ 12 ∧ a / 0x10000 ≠ 15 ∧ a / 0x10000 ≠ 16) :
    readsZero m a = false := by
  simp [readsZero, h]

theorem readsZero_of_secure {m : Master} (h : m.secure = true) (a : Nat) : readsZero m a = false := by
  simp [readsZero, h]

/-- The low half of a 64-bit value as a number. -/
theorem ofNat_mod_two_pow_32 (v : DWord) : BitVec.ofNat 64 (v.toNat % 2 ^ 32) = v &&& 0xFFFFFFFF := by
  apply BitVec.eq_of_toNat_eq
  rw [BitVec.toNat_ofNat, BitVec.toNat_and, show (0xFFFFFFFF : DWord).toNat = 2 ^ 32 - 1 from rfl,
    Nat.and_two_pow_sub_one_eq_mod]
  omega

theorem word_toNat_of_lt {n : Nat} (h : n < 2 ^ 32) : (word n).toNat = n := by
  rw [word, BitVec.toNat_ofNat, Nat.mod_eq_of_lt h]

/-- A command that reads the low half of a kept FRC value `v` and reaches its register latches the high half of `v`. -/
theorem latchesHigh_of_frcRead {c : Instr} {s : State} {m : Master} {a : Nat} {v : DWord}
    (hc : exec c s = .next (State.onBus (s.hostRead m a))) (hacc : s.rdAcc m a = .ok)
    (hf : s.frcRead? a = some (s.latchHi a v.toNat)) (h : a < 0x200000) (h4 : a % 4 = 0) (hz : readsZero m a = false) :
    LatchesHigh c s a v := by
  rw [State.hostRead_of_frcRead hacc hf h h4 hz] at hc
  refine ⟨_, hc, ?_, ?_, (OnlyFields.wr s (a + 4) _ _ rfl).onBus _, State.onBus_frame rfl⟩
  · rw [State.latchHi, State.onBus_bus, ofNat_mod_two_pow_32]
  · rw [State.latchHi, State.onBus_rd, State.rd_wr_same, word_toNat_of_lt (by omega)]

theorem frcLoRead_latchesHigh {m : Master} {s : State} (h : s.rdAcc m R.LODGE_FRC_LO = .ok) :
    LatchesHigh (.frcLoRead m) s R.LODGE_FRC_LO s.frc :=
  latchesHigh_of_frcRead rfl h rfl (by decide) rfl (readsZero_of_block (by decide))

theorem gzbEdgeFrcLoRead_latchesHigh {m : Master} {s : State} (h : s.rdAcc m R.GZB_EDGE_FRC_LO = .ok) :
    LatchesHigh (.gzbEdgeFrcLoRead m) s R.GZB_EDGE_FRC_LO s.gzb.edgeFrc :=
  latchesHigh_of_frcRead rfl h rfl (by decide) rfl (readsZero_of_block (by decide))

/-- The non-secure group reads the ORG block as 0 (R162), so the latch is the secure group's. -/
theorem orgTamperFrcLoRead_latchesHigh {m : Master} {s : State} (hm : m.secure = true)
    (h : s.rdAcc m R.ORG_TAMPER_FRC_LO = .ok) :
    LatchesHigh (.orgTamperFrcLoRead m) s R.ORG_TAMPER_FRC_LO (s.org.tamperFrc.getD 0) := by
  have hv : (s.org.tamperFrc.map (·.toNat)).getD 0 = (s.org.tamperFrc.getD 0).toNat := by
    cases s.org.tamperFrc <;> rfl
  refine latchesHigh_of_frcRead rfl h ?_ (by decide) rfl (readsZero_of_secure hm _)
  rw [← hv]
  rfl

theorem vbSnapFrcLoRead_latchesHigh {m : Master} {k : Nat} {s : State} (hk : k < 2)
    (h : s.rdAcc m (R.VB_SNAP0_FRC_LO + 8 * k) = .ok) :
    LatchesHigh (.vbSnapFrcLoRead m k) s (R.VB_SNAP0_FRC_LO + 8 * k) (s.vb.banks.getD k {}).frc :=
  match k, hk with
  | 0, _ => latchesHigh_of_frcRead rfl h rfl (by decide) rfl (readsZero_of_block (by decide))
  | 1, _ => latchesHigh_of_frcRead rfl h rfl (by decide) rfl (readsZero_of_block (by decide))

/-- A read of SDL_TBk_NS that reaches the register samples the time base for its master. -/
theorem exec_tbNsRead {m : Master} {k : Nat} {s : State} (hk : k < 4) (h : s.rdAcc m (R.SDL_TBk_NS k) = .ok) :
    exec (.tbNsRead m k) s =
      .next (State.onBus ((s.tbSample m k).1.setWidth 64, (s.tbSample m k).2)) := by
  change Host.Outcome.next (if 3 < k then s else _) = _
  rw [if_neg (by omega), h]
  rfl

/-! ### The sample of a time base -/

/-- A register write keeps a state that differs in registers alone so. -/
theorem State.wr_frame {s t : State} (h : t = { s with regs := t.regs }) (a : Nat) (v : Word) :
    t.wr a v = { s with regs := (t.wr a v).regs } := by
  rw [h]
  rfl

/-- Two registers of one master's bank differ where their addresses do. -/
theorem bankAddr_ne {m : Master} {a b : Nat} (h : a ≠ b) : bankAddr m a ≠ bankAddr m b :=
  fun he => h (Nat.add_left_cancel he)

/-- A 64-bit value shown in two registers, low word and high word. -/
theorem word_lo_add_hi {n : Nat} (h : n < 2 ^ 64) : (word n).toNat + 2 ^ 32 * (word (n / 2 ^ 32)).toNat = n := by
  rw [word, word, BitVec.toNat_ofNat, BitVec.toNat_ofNat]
  omega

/-- A sample writes seconds and FRC of its instant to the master's own copies. -/
theorem State.tbSample_state (s : State) (m : Master) (k : Nat) :
    (s.tbSample m k).2 =
      (((s.wr (bankAddr m (R.SDL_TBk_SEC_LO k)) (word (secField (s.tbNs k)))).wr
        (bankAddr m (R.SDL_TBk_SEC_HI k)) (word (secField (s.tbNs k) / 2 ^ 32))).wr
        (bankAddr m (R.SDL_TBk_SMP_FRC_LO k)) (word s.now)).wr
        (bankAddr m (R.SDL_TBk_SMP_FRC_HI k)) (word (s.now / 2 ^ 32)) := rfl

theorem State.tbSample_seconds (s : State) (m : Master) (k : Nat) :
    ((s.tbSample m k).2.rd (bankAddr m (R.SDL_TBk_SEC_LO k))).toNat +
      2 ^ 32 * ((s.tbSample m k).2.rd (bankAddr m (R.SDL_TBk_SEC_HI k))).toNat =
      s.tbNs k / 1000000000 % 2 ^ 48 := by
  rw [State.tbSample_state,
    State.rd_wr_other _ _ (bankAddr_ne (by simp)), State.rd_wr_other _ _ (bankAddr_ne (by simp)),
    State.rd_wr_other _ _ (bankAddr_ne (by simp)), State.rd_wr_same,
    State.rd_wr_other _ _ (bankAddr_ne (by simp)), State.rd_wr_other _ _ (bankAddr_ne (by simp)), State.rd_wr_same]
  exact word_lo_add_hi (Nat.lt_trans (Nat.mod_lt _ (by decide)) (by decide))

theorem State.tbSample_frc (s : State) (m : Master) (k : Nat) :
    ((s.tbSample m k).2.rd (bankAddr m (R.SDL_TBk_SMP_FRC_LO k))).toNat +
      2 ^ 32 * ((s.tbSample m k).2.rd (bankAddr m (R.SDL_TBk_SMP_FRC_HI k))).toNat = s.frc.toNat := by
  rw [State.tbSample_state, State.rd_wr_other _ _ (bankAddr_ne (by simp)), State.rd_wr_same, State.rd_wr_same]
  exact word_lo_add_hi s.frc.isLt

theorem State.tbSample_onlyFields (s : State) (m : Master) (k : Nat) :
    OnlyFields s (s.tbSample m k).2 [regFld (bankAddr m (R.SDL_TBk_SEC_LO k)), regFld (bankAddr m (R.SDL_TBk_SEC_HI k)),
      regFld (bankAddr m (R.SDL_TBk_SMP_FRC_LO k)), regFld (bankAddr m (R.SDL_TBk_SMP_FRC_HI k))] := by
  rw [State.tbSample_state]
  exact (((OnlyFields.wr s _ _ _ rfl).trans (OnlyFields.wr _ _ _ _ rfl)).trans (OnlyFields.wr _ _ _ _ rfl)).trans
    (OnlyFields.wr _ _ _ _ rfl)

theorem State.tbSample_ns (s : State) (m : Master) (k : Nat) :
    (s.tbSample m k).1.setWidth 64 = BitVec.ofNat 64 (s.tbNs k % 1000000000) := by
  apply BitVec.eq_of_toNat_eq
  change ((word (s.tbNs k % 1000000000)).setWidth 64).toNat = _
  rw [BitVec.toNat_setWidth, word_toNat_of_lt (by omega), BitVec.toNat_ofNat]

theorem State.tbSample_frame (s : State) (m : Master) (k : Nat) :
    (s.tbSample m k).2 = { s with regs := (s.tbSample m k).2.regs } := by
  rw [State.tbSample_state]
  exact State.wr_frame (State.wr_frame (State.wr_frame (State.wr_frame rfl _ _) _ _) _ _) _ _

/-- Settles O10: each FRC value by the read that latches, a time base by its sample. -/
theorem readsOfOneSample : Obligations.ReadsOfOneSample := by
  unfold Obligations.ReadsOfOneSample
  refine ⟨fun m s => ⟨frcLoRead_latchesHigh, gzbEdgeFrcLoRead_latchesHigh, orgTamperFrcLoRead_latchesHigh,
    fun k => vbSnapFrcLoRead_latchesHigh⟩, fun m k s hk hacc => ?_⟩
  refine ⟨_, exec_tbNsRead hk hacc, ?_, ?_, ?_, (State.tbSample_onlyFields s m k).onBus _,
    State.onBus_frame (State.tbSample_frame s m k)⟩
  · rw [State.onBus_bus, State.tbSample_ns]
  · rw [State.onBus_rd, State.onBus_rd, State.tbSample_seconds]
  · rw [State.onBus_rd, State.onBus_rd, State.tbSample_frc]

end Sys2Proof.Machine
end

section
/-! SUPPORT. The commands that are writes of one register. -/
namespace Sys2Proof.Machine

section
variable (s : State) (m : Master) (v hw : Nat)

/-! ### The effect of a write, by register -/

theorem State.writeEff_pwrReq : s.writeEff m R.LODGE_PWR_REQ v hw = s.pwrReq v := by
  rw [State.writeEff_unit rfl rfl, State.writeLodge, if_pos rfl]

theorem State.writeEff_domOn : s.writeEff m R.LODGE_DOM_ON v hw = s.eachDom v State.domOnReq := by
  rw [State.writeEff_unit rfl rfl, State.writeLodge, if_neg (by decide), if_pos rfl]

theorem State.writeEff_domOff : s.writeEff m R.LODGE_DOM_OFF v hw = s.eachDom v State.domOffReq := by
  rw [State.writeEff_unit rfl rfl, State.writeLodge, if_neg (by decide), if_neg (by decide), if_pos rfl]

theorem State.writeEff_wakeArm : s.writeEff m R.LODGE_WAKE_FRC_HI v hw = s.wakeArm v := by
  rw [State.writeEff_unit rfl rfl, State.writeLodge, if_neg (by decide), if_neg (by decide), if_neg (by decide),
    if_neg (by decide), if_pos rfl]

theorem State.writeEff_rstReq : s.writeEff m R.LODGE_RST_REQ v hw = s.rstReq v := by
  rw [State.writeEff_unit rfl rfl, State.writeLodge, if_neg (by decide), if_neg (by decide), if_neg (by decide),
    if_neg (by decide), if_neg (by decide), if_pos rfl]

theorem State.writeEff_gzbStop : s.writeEff m R.GZB_STOP v hw =
    if v.testBit 0 ∧ bitsOf v 16 16 = 0xC3A5 then s.raiseCause Cause.HOST else s := by
  rw [State.writeEff_unit rfl rfl, State.writeGzb, if_pos rfl]

theorem State.writeEff_taskMask : s.writeEff m R.ARB_TASK_MASK v hw = s.maskWrite m v := by
  rw [State.writeEff_unit rfl rfl, State.writeArb, if_neg (by decide), if_neg (by decide), if_pos rfl]

theorem State.writeEff_hostReset : s.writeEff m R.MBX_HRST v hw = s.hostReset m v := by
  rw [State.writeEff_unit rfl rfl, State.writeMbx, if_neg (by decide), if_neg (by decide), if_neg (by decide),
    if_pos rfl]

theorem State.writeEff_mbxData {c k : Nat} (hc : c < 32) (hk : k < 16) :
    s.writeEff m (0x30000 + 0x80 * c + 4 * k) v hw = s.mbxDataWrite c k v := by
  rw [State.writeEff_unit (b := 3) (by omega) rfl, State.writeMbx, if_pos (by omega), if_pos (by omega),
    show (0x30000 + 0x80 * c + 4 * k - 0x30000) / 0x80 = c by omega,
    show (0x30000 + 0x80 * c + 4 * k - 0x30000) % 0x80 / 4 = k by omega]

theorem State.writeEff_mbxCtrl {c : Nat} (hc : c < 32) :
    s.writeEff m (0x30040 + 0x80 * c) v hw = s.mbxCtrlWrite m c v := by
  rw [State.writeEff_unit (b := 3) (by omega) rfl, State.writeMbx, if_pos (by omega), if_neg (by omega),
    if_pos (by omega),
    show (0x30040 + 0x80 * c - 0x30000) / 0x80 = c by omega]

theorem State.writeEff_claim {n : Nat} (hn : n < 32) :
    s.writeEff m (0x31000 + 4 * n) v hw = s.claimWrite m n v := by
  rw [State.writeEff_unit (b := 3) (by omega) rfl, State.writeMbx, if_neg (by omega), if_pos (by omega),
    show (0x31000 + 4 * n - 0x30000 - 0x1000) / 4 = n by omega]

theorem State.writeEff_lease {n : Nat} (hn : n < 32) :
    s.writeEff m (0x31200 + 4 * n) v hw = s.leaseWrite m n v := by
  rw [State.writeEff_unit (b := 3) (by omega) rfl, State.writeMbx, if_neg (by omega), if_neg (by omega),
    if_pos (by omega),
    show (0x31200 + 4 * n - 0x30000 - 0x1200) / 4 = n by omega]

/-- Each Ethernet port's control register is its own. -/
theorem State.writeEff_ethCtrl {p : Nat} (hp : p < 2) :
    s.writeEff m (0xE0004 + 0x100 * p) v hw = s.ethCtrl p v := by
  rw [State.writeEff, portOf_of_lt (by omega)]
  simp only [inStaging_of_lt (show 0xE0004 + 0x100 * p < 0x200000 by omega), if_neg Bool.false_ne_true,
    show (0xE0004 + 0x100 * p) / 0x10000 = 14 by omega]
  match p, hp with
  | 0, _ => rw [if_pos rfl]
  | 1, _ => rw [if_neg (by decide), if_pos rfl]

end

/-- A mask of one domain is a request for that domain. -/
theorem State.eachDom_two_pow {d : Nat} (h2 : 2 ≤ d) (h13 : d ≤ 13) (s : State) (f : State → Nat → State) :
    s.eachDom (2 ^ d) f = f s d := by
  have hd : allDoms.filter (2 ^ d).testBit = [d] := by
    interval_cases d <;> rfl
  rw [State.eachDom, hd]
  rfl

/-! ### Commands -/

/-- The gate of a register before the effect `k` of a write there is a write of that register. -/
theorem guardW_eq_registerWrite {m : Master} {a n : Nat} {v : Word} {k : State → State} (hv : v.toNat = n)
    (ha : a < 0x1000000) (h4 : a % 4 = 0) (hk : ∀ t : State, t.writeEff m a n 0 = k t) (s : State) :
    .next (s.guardW m a n k) = exec (.registerWrite m a v 0) s := by
  subst hv
  rw [exec_registerWrite (by omega), accAddr_of_aligned ha h4, ← funext hk]
  rfl

/-- The same under the test that an operand names a part of the module. -/
theorem guardW_ite_eq_registerWrite {m : Master} {a n : Nat} {v : Word} {k : State → State} {c : Prop} [Decidable c]
    (hc : c) (hv : v.toNat = n) (ha : a < 0x1000000) (h4 : a % 4 = 0) (hk : ∀ t : State, t.writeEff m a n 0 = k t)
    (s : State) : .next (if c then s.guardW m a n k else s) = exec (.registerWrite m a v 0) s := by
  rw [if_pos hc, guardW_eq_registerWrite hv ha h4 hk]

/-- A keyed request word: the key in the high half, the request in the low half. -/
theorem keyWord_toNat (key : Nat) {n : Nat} (h : n < 65536) :
    (word (key % 65536 * 65536 + n)).toNat = key % 65536 * 65536 + n := word_toNat_of_lt (by omega)

theorem domMask_toNat {d : Nat} (h : d ≤ 13) : (word (2 ^ d)).toNat = 2 ^ d :=
  word_toNat_of_lt (Nat.pow_lt_pow_right (by decide) (by omega))

/-- Settles O11: each command is the gate of its register before the effect that a write there has. -/
theorem commandsAreRegisterWrites : Obligations.CommandsAreRegisterWrites := by
  unfold Obligations.CommandsAreRegisterWrites
  intro m v s
  refine ⟨fun key => ?_, fun key => ?_, fun d h2 h13 => ?_, fun d h2 h13 => ?_, ?_, fun key => ?_, fun c hc => ?_,
    fun c hc => ?_, fun c k hc hk => ?_, fun key => ?_, fun n hn => ?_, fun n hn => ?_, fun p hp => ?_, ?_, ?_⟩
  · exact guardW_eq_registerWrite (keyWord_toNat key (by decide)) (by decide) rfl (fun t => t.writeEff_pwrReq m _ 0) s
  · exact guardW_eq_registerWrite (keyWord_toNat key (by decide)) (by decide) rfl (fun t => t.writeEff_pwrReq m _ 0) s
  · exact guardW_eq_registerWrite (domMask_toNat h13) (by decide) rfl
      (fun t => (t.writeEff_domOn m _ 0).trans (t.eachDom_two_pow h2 h13 _)) s
  · exact guardW_eq_registerWrite (domMask_toNat h13) (by decide) rfl
      (fun t => (t.writeEff_domOff m _ 0).trans (t.eachDom_two_pow h2 h13 _)) s
  · exact guardW_eq_registerWrite rfl (by decide) rfl (fun t => t.writeEff_wakeArm m _ 0) s
  · exact guardW_eq_registerWrite (keyWord_toNat key (by decide)) (by decide) rfl (fun t => t.writeEff_rstReq m _ 0) s
  · exact guardW_ite_eq_registerWrite hc rfl (by omega) (by omega) (fun t => t.writeEff_mbxCtrl m _ 0 hc) s
  · exact guardW_ite_eq_registerWrite hc rfl (by omega) (by omega) (fun t => t.writeEff_mbxCtrl m _ 0 hc) s
  · exact guardW_ite_eq_registerWrite ⟨hc, hk⟩ rfl (by omega) (by omega) (fun t => t.writeEff_mbxData m _ 0 hc hk) s
  · exact guardW_eq_registerWrite (keyWord_toNat key (by decide)) (by decide) rfl
      (fun t => t.writeEff_hostReset m _ 0) s
  · exact guardW_ite_eq_registerWrite hn rfl (by omega) (by omega) (fun t => t.writeEff_claim m _ 0 hn) s
  · exact guardW_ite_eq_registerWrite hn rfl (by omega) (by omega) (fun t => t.writeEff_lease m _ 0 hn) s
  · exact guardW_ite_eq_registerWrite hp rfl (by omega) (by omega) (fun t => t.writeEff_ethCtrl m _ 0 hp) s
  · exact guardW_eq_registerWrite rfl (by decide) rfl (fun t => t.writeEff_taskMask m _ 0) s
  · exact guardW_eq_registerWrite rfl (by decide) rfl (fun t => t.writeEff_gzbStop m _ 0) s

end Sys2Proof.Machine
end

section
/-! SUPPORT. A write of SDL_CTRL acts on a pad besides its own bits (R240). -/
namespace Sys2Proof.Machine

theorem State.writeEff_sdlCtrl (s : State) (m : Master) (v hw : Nat) :
    s.writeEff m R.SDL_CTRL v hw = (s.plainWrite m R.SDL_CTRL v hw).ppsGate := by
  rw [State.writeEff_unit rfl rfl, State.writeSdl, if_neg (by decide), if_pos rfl]

/-- With PPS_OUT_EN clear PPS_OUT is low. -/
theorem State.ppsGate_low {s : State} (h : s.flag F.SDL_CTRL_PPS_OUT_EN = false) : s.ppsGate.pads.ppsOut = false := by
  rw [State.ppsGate, h]
  rfl

/-- D2 ON with its clock, and PPS_OUT high. -/
def ppsHigh : State :=
  { (State.reset.setF (F.dom 2) DS.on).setF F.LODGE_CLK_STAT_SYS_LOCK 1 with pads := { ppsOut := true } }

theorem ppsHigh_wrAcc : ppsHigh.wrAcc .csS (accAddr R.SDL_CTRL) = .ok := by decide +kernel

/-- A write of 0 to SDL_CTRL clears PPS_OUT_EN. -/
theorem ppsHigh_disabled : (ppsHigh.plainWrite .csS R.SDL_CTRL 0 0).flag F.SDL_CTRL_PPS_OUT_EN = false := by
  decide +kernel

theorem regRow_sdlCtrl : regRow (accAddr R.SDL_CTRL) = some ⟨0x50004, 0, 1, 0, 1, 0x107, 0, 0, true, false⟩ := by
  decide +kernel

/-- Refutes O7: SDL_CTRL is not in `ownEffect`, yet a write of 0 to it clears PPS_OUT_EN and so brings the pad PPS_OUT
low (R240), a change beyond the register file. -/
theorem not_registerWriteChangesItsBits : ¬ Obligations.RegisterWriteChangesItsBits := by
  unfold Obligations.RegisterWriteChangesItsBits
  intro h
  obtain ⟨t, hexec, -, -, hframe⟩ :=
    h .csS R.SDL_CTRL 0 0 ppsHigh _ (by decide) ppsHigh_wrAcc (by decide) regRow_sdlCtrl
  have hlow : t.pads.ppsOut = false := by
    rw [exec_registerWrite (by decide), State.guardW_ok_eq ppsHigh_wrAcc,
      accAddr_of_aligned (by decide) rfl, State.writeEff_sdlCtrl] at hexec
    cases hexec
    exact State.ppsGate_low ppsHigh_disabled
  have hhigh : t.pads.ppsOut = true := by
    rw [hframe]
    rfl
  rw [hlow] at hhigh
  cases hhigh

end Sys2Proof.Machine
end

section
/-! SUPPORT. Fields that share no bit, decided. -/
namespace Sys2Proof.Machine

/-- Shares a field no bit with any of a list? -/
def Fld.apartFrom (g : Fld) (fs : List Fld) : Bool :=
  fs.all fun f => g.addr ≠ f.addr || g.lo + g.width ≤ f.lo || f.lo + f.width ≤ g.lo

theorem Fld.apartFrom_iff {g : Fld} {fs : List Fld} : g.apartFrom fs = true ↔ ∀ f ∈ fs, f.apart g := by
  simp [Fld.apartFrom, Fld.apart, List.all_eq_true, or_assoc]

/-- A field apart from those written reads as before. -/
theorem OnlyFields.getF {s t : State} {fs : List Fld} {g : Fld} (h : OnlyFields s t fs) (hg : g.apartFrom fs = true) :
    t.getF g = s.getF g := h g (Fld.apartFrom_iff.1 hg)

end Sys2Proof.Machine
end

section
/-! SUPPORT. The state of a domain after a write of it, and the domains that power up as mains return. -/
namespace Sys2Proof.Machine

/-- A field write keeps a state that differs in registers alone so. -/
theorem State.setF_frame {s t : State} (h : t = { s with regs := t.regs }) (f : Fld) (v : Nat) :
    t.setF f v = { s with regs := (t.setF f v).regs } := State.wr_frame h _ _

/-! ### One domain's state -/

theorem domFld_apart {d e : Nat} (h : e ≠ d) : (F.dom d).apart (F.dom e) := by
  simp only [Fld.apart, F.dom]
  omega

theorem domFld_bits (d : Nat) : (F.dom d).lo + (F.dom d).width ≤ 32 := by
  simp only [F.dom]
  omega

theorem mem_allDoms {d : Nat} : d ∈ allDoms ↔ 2 ≤ d ∧ d ≤ 13 := by
  simp only [allDoms, List.mem_cons, List.not_mem_nil, or_false]
  omega

/-- A domain's state stands in the registers and in the part's units. -/
theorem State.dom_congr {s t : State} {d : Nat} (hpart : t.part = s.part) (h : t.getF (F.dom d) = s.getF (F.dom d)) :
    t.dom d = s.dom d := by
  have habsent : t.domAbsent d = s.domAbsent d := by
    unfold State.domAbsent State.present
    rw [hpart]
  rw [State.dom, State.dom, habsent, h]

theorem State.setDom_frame (s : State) (d st : Nat) : s.setDom d st = { s with regs := (s.setDom d st).regs } := by
  unfold State.setDom
  split_ifs <;> rfl

@[simp] theorem State.setDom_part (s : State) (d st : Nat) : (s.setDom d st).part = s.part := by
  rw [State.setDom_frame]

theorem State.setDom_onlyFields (s : State) (d st : Nat) : OnlyFields s (s.setDom d st) [F.dom d] := by
  unfold State.setDom
  split_ifs
  · exact OnlyFields.refl _ _
  · exact OnlyFields.setF s _ _ (domFld_bits d)

theorem State.dom_setDom_same {s : State} {d st : Nat} (hd : d ∈ allDoms) (ha : s.domAbsent d = false) (hst : st < 16) :
    (s.setDom d st).dom d = st := by
  have hrange := mem_allDoms.1 hd
  have hset : s.setDom d st = s.setF (F.dom d) st := by
    rw [State.setDom, ha, if_neg (by simp; omega)]
  have ha' : (s.setF (F.dom d) st).domAbsent d = false := ha
  rw [hset, State.dom, if_neg (by omega), ha', if_neg Bool.false_ne_true,
    State.getF_setF_same _ _ _ (domFld_bits d)]
  exact Nat.mod_eq_of_lt hst

theorem State.dom_setDom_other {s : State} {d e : Nat} (h : e ≠ d) (st : Nat) : (s.setDom d st).dom e = s.dom e :=
  State.dom_congr (by simp) (s.setDom_onlyFields d st _ (by simpa using domFld_apart h))

/-- A domain that is OFF is none of an absent unit. -/
theorem State.not_absent_of_off {s : State} {d : Nat} (h : s.dom d = DS.off) : s.domAbsent d = false := by
  rw [← Bool.not_eq_true]
  intro ha
  unfold State.dom at h
  split_ifs at h

theorem State.not_isOn_of_dom {s : State} {d : Nat} (h : s.dom d ≠ DS.on) : s.isOn d = false := decide_eq_false h

/-- D2 is no domain of an absent unit, so it takes the state it is given. -/
theorem State.dom_two_setDom (s : State) {st : Nat} (hst : st < 16) : (s.setDom 2 st).dom 2 = st :=
  State.dom_setDom_same (by decide) rfl hst

/-- What the start of a power-up does: the domain powers up with D2 ON; else D2 alone is written, and does not come ON by
that. -/
theorem State.startPwrUp_cases (s : State) (d : Nat) :
    s.startPwrUp d = s.setDom d DS.pwrUp ∧ (d = 2 ∨ s.isOn 2 = true) ∨
      s.isOn 2 = false ∧ d ≠ 2 ∧ (s.startPwrUp d = s ∨ ∃ st < 16, st ≠ DS.on ∧ s.startPwrUp d = s.setDom 2 st) := by
  by_cases h2 : d = 2 ∨ s.isOn 2 = true
  · exact .inl ⟨if_pos h2, h2⟩
  · obtain ⟨hd, hon⟩ := not_or.1 h2
    refine .inr ⟨Bool.not_eq_true _ ▸ hon, hd, ?_⟩
    unfold State.startPwrUp
    rw [if_neg h2]
    split_ifs
    · exact .inr ⟨_, by decide, by decide, rfl⟩
    · exact .inr ⟨_, by decide, by decide, rfl⟩
    · exact .inr ⟨_, by decide, by decide, rfl⟩
    · exact .inl rfl

/-! ### Mains back -/

/-- A domain that is OFF, in use, and waited for by an event held or an item. -/
def State.DueUp (s : State) (d : Nat) : Prop :=
  s.dom d = DS.off ∧ s.domUnused d = false ∧ (s.hasHeld d = true ∨ s.wanted d = true)

/-- The start of a power-up of a domain, where one is due. -/
def State.wakeDue (s : State) (d : Nat) : State :=
  if s.dom d = DS.off ∧ !s.domUnused d ∧ (s.hasHeld d ∨ s.wanted d) then s.startPwrUp d else s

theorem State.wakeDue_of_due {s : State} {d : Nat} (h : s.DueUp d) : s.wakeDue d = s.startPwrUp d := by
  obtain ⟨hoff, hused, hwait⟩ := h
  exact if_pos ⟨hoff, by rw [hused]; rfl, hwait⟩

theorem State.wakeDue_of_not_due {s : State} {d : Nat} (h : ¬ s.DueUp d) : s.wakeDue d = s :=
  if_neg fun ⟨hoff, hused, hwait⟩ => h ⟨hoff, by simpa using hused, hwait⟩

/-- What a power-up that is due may do: its own domain or D2 written, or nothing. -/
theorem State.wakeDue_cases (s : State) (d : Nat) :
    s.wakeDue d = s ∨ (∃ st, s.wakeDue d = s.setDom d st) ∨ ∃ st, s.wakeDue d = s.setDom 2 st := by
  by_cases hdue : s.DueUp d
  · rw [State.wakeDue_of_due hdue]
    rcases s.startPwrUp_cases d with ⟨h, -⟩ | ⟨-, -, h | ⟨st, -, -, h⟩⟩
    · exact .inr (.inl ⟨_, h⟩)
    · exact .inl h
    · exact .inr (.inr ⟨st, h⟩)
  · exact .inl (State.wakeDue_of_not_due hdue)

theorem State.wakeDue_frame (s : State) (d : Nat) : s.wakeDue d = { s with regs := (s.wakeDue d).regs } := by
  rcases s.wakeDue_cases d with h | ⟨st, h⟩ | ⟨st, h⟩
  · rw [h]
  · rw [h]
    exact s.setDom_frame d st
  · rw [h]
    exact s.setDom_frame 2 st

theorem State.wakeDue_onlyFields (s : State) {d : Nat} (hd : d ∈ allDoms) :
    OnlyFields s (s.wakeDue d) (allDoms.map F.dom) := by
  rcases s.wakeDue_cases d with h | ⟨st, h⟩ | ⟨st, h⟩
  · rw [h]
    exact OnlyFields.refl _ _
  · rw [h]
    exact (s.setDom_onlyFields d st).mono (by simpa using ⟨d, hd, rfl⟩)
  · rw [h]
    exact (s.setDom_onlyFields 2 st).mono (by decide)

theorem State.dom_wakeDue_other {s : State} {d e : Nat} (h : e ≠ d) (h2 : e ≠ 2) : (s.wakeDue d).dom e = s.dom e := by
  rcases s.wakeDue_cases d with hw | ⟨st, hw⟩ | ⟨st, hw⟩
  · rw [hw]
  · rw [hw, State.dom_setDom_other h]
  · rw [hw, State.dom_setDom_other h2]

/-- A power-up that is due needs D2 ON, else the domain stays OFF. -/
theorem State.dom_wakeDue_same {s : State} {d : Nat} (hd : d ∈ allDoms) (h2 : d ≠ 2) (hdue : s.DueUp d) :
    (s.wakeDue d).dom d = if s.isOn 2 = true then DS.pwrUp else s.dom d := by
  rw [State.wakeDue_of_due hdue]
  rcases s.startPwrUp_cases d with ⟨h, hon⟩ | ⟨hon, -, h | ⟨st, -, -, h⟩⟩
  · rw [h, State.dom_setDom_same hd (State.not_absent_of_off hdue.1) (by decide), if_pos (hon.resolve_left h2)]
  · rw [h, hon, if_neg Bool.false_ne_true]
  · rw [h, hon, if_neg Bool.false_ne_true, State.dom_setDom_other h2]

/-- No power-up brings D2 ON at once, or takes it from there. -/
theorem State.wakeDue_isOn_two (s : State) (d : Nat) : (s.wakeDue d).isOn 2 = s.isOn 2 := by
  by_cases hdue : s.DueUp d
  · rw [State.wakeDue_of_due hdue]
    rcases s.startPwrUp_cases d with ⟨h, hon⟩ | ⟨hon, -, h | ⟨st, hst, hne, h⟩⟩
    · rw [h]
      by_cases hd : d = 2
      · subst hd
        rw [State.not_isOn_of_dom (s := s) (by rw [hdue.1]; decide),
          State.not_isOn_of_dom (by rw [State.dom_two_setDom s (by decide)]; decide)]
      · rw [State.isOn, State.dom_setDom_other (Ne.symm hd), State.isOn]
    · rw [h]
    · rw [h, hon, State.not_isOn_of_dom (by rwa [State.dom_two_setDom s hst])]
  · rw [State.wakeDue_of_not_due hdue]

/-- What a domain waits for stands outside the registers but for the plan's state. -/
theorem State.dueUp_congr {s t : State} {d : Nat} (hframe : t = { s with regs := t.regs, power := t.power })
    (hheld : t.power.held = s.power.held) (hplan : t.getF F.SYS_PLAN_STAT_STATE = s.getF F.SYS_PLAN_STAT_STATE)
    (hdom : t.dom d = s.dom d) : t.DueUp d ↔ s.DueUp d := by
  have hactive : t.planActive = s.planActive := by rw [State.planActive, State.planActive, hplan]
  have hused : t.domUnused d = s.domUnused d := by
    unfold State.domUnused State.expected
    rw [hplan, hactive, hframe]
    rfl
  have hheld' : t.hasHeld d = s.hasHeld d := by rw [State.hasHeld, State.hasHeld, hheld]
  have hwanted : t.wanted d = s.wanted d := by
    rw [hframe]
    rfl
  rw [State.DueUp, State.DueUp, hdom, hused, hheld', hwanted]

theorem State.wakeDue_plan (s : State) {d : Nat} (hd : d ∈ allDoms) :
    (s.wakeDue d).getF F.SYS_PLAN_STAT_STATE = s.getF F.SYS_PLAN_STAT_STATE :=
  (s.wakeDue_onlyFields hd).getF (by decide)

theorem State.foldl_wakeDue_frame (ds : List Nat) (s : State) :
    ds.foldl State.wakeDue s = { s with regs := (ds.foldl State.wakeDue s).regs } := by
  induction ds generalizing s with
  | nil => rfl
  | cons d ds ih =>
    rw [List.foldl_cons, ih, State.wakeDue_frame]

theorem State.foldl_wakeDue_onlyFields {ds : List Nat} (hds : ∀ d ∈ ds, d ∈ allDoms) (s : State) :
    OnlyFields s (ds.foldl State.wakeDue s) (allDoms.map F.dom) := by
  induction ds generalizing s with
  | nil => exact OnlyFields.refl _ _
  | cons d ds ih =>
    rw [List.foldl_cons]
    refine ((s.wakeDue_onlyFields (hds d (by simp))).trans
      (ih (fun e he => hds e (List.mem_cons_of_mem _ he)) _)).mono fun f hf => ?_
    rcases List.mem_append.1 hf with h | h <;> exact h

/-- Each domain of the list takes its own power-up, where one is due and D2 is ON. -/
theorem State.dom_foldl_wakeDue {ds : List Nat} (hds : ∀ d ∈ ds, d ∈ allDoms) (hnodup : ds.Nodup) (s : State) {e : Nat}
    (h2 : e ≠ 2) : (e ∈ ds ∧ s.DueUp e ∧ s.isOn 2 = true → (ds.foldl State.wakeDue s).dom e = DS.pwrUp) ∧
      (¬ (e ∈ ds ∧ s.DueUp e ∧ s.isOn 2 = true) → (ds.foldl State.wakeDue s).dom e = s.dom e) := by
  induction ds generalizing s with
  | nil => exact ⟨fun h => absurd h.1 (List.not_mem_nil), fun _ => rfl⟩
  | cons d ds ih =>
    obtain ⟨hd, hnodup'⟩ := List.nodup_cons.1 hnodup
    obtain ⟨hup, hkeep⟩ := ih (fun e he => hds e (List.mem_cons_of_mem _ he)) hnodup' (s.wakeDue d)
    rw [List.foldl_cons]
    by_cases hde : e = d
    · subst hde
      rw [hkeep fun h => hd h.1]
      by_cases hdue : s.DueUp e
      · rw [State.dom_wakeDue_same (hds e (by simp)) h2 hdue]
        exact ⟨fun h => if_pos h.2.2, fun h => if_neg fun hon => h ⟨by simp, hdue, hon⟩⟩
      · rw [State.wakeDue_of_not_due hdue]
        exact ⟨fun h => absurd h.2.1 hdue, fun _ => rfl⟩
    · have hdom := State.dom_wakeDue_other (s := s) hde h2
      have hdue : (s.wakeDue d).DueUp e ↔ s.DueUp e :=
        State.dueUp_congr (by rw [State.wakeDue_frame]) (by rw [State.wakeDue_frame])
          (s.wakeDue_plan (hds d (by simp))) hdom
      rw [List.mem_cons, or_iff_right hde]
      rw [hdue, s.wakeDue_isOn_two] at hup hkeep
      exact ⟨hup, fun h => (hkeep h).trans hdom⟩

/-- The state as mains return, before the domains that wait power up. -/
def State.mainsBack (s : State) : State :=
  (s.updPower (fun p => { p with mains := true, shed := none })).setF F.GZB_CAUSE_NOW_SUPPLY_LOW 0

theorem exec_supplyReturn {s : State} (hp : s.powered = true) (hm : s.power.mains = false) :
    exec .supplyReturn s = .next (allDoms.foldl State.wakeDue s.mainsBack) := by
  change execSupplyReturn s = _
  rw [execSupplyReturn, hp, hm]
  rfl

theorem State.mainsBack_onlyFields (s : State) : OnlyFields s s.mainsBack [F.GZB_CAUSE_NOW_SUPPLY_LOW] :=
  OnlyFields.setF (s.updPower _) F.GZB_CAUSE_NOW_SUPPLY_LOW 0 (by decide)

theorem State.mainsBack_dom (s : State) {d : Nat} (hd : d ∈ allDoms) : s.mainsBack.dom d = s.dom d :=
  State.dom_congr rfl (s.mainsBack_onlyFields _ fun f hf => by
    have hrange := mem_allDoms.1 hd
    rw [List.mem_singleton.1 hf]
    refine .inl ?_
    simp only [F.dom]
    omega)

/-- Mains back leave what waits for a domain. -/
theorem State.mainsBack_dueUp (s : State) {d : Nat} (hd : d ∈ allDoms) : s.mainsBack.DueUp d ↔ s.DueUp d :=
  State.dueUp_congr rfl rfl (s.mainsBack_onlyFields.getF (by decide)) (s.mainsBack_dom hd)

theorem State.mainsBack_isOn_two (s : State) : s.mainsBack.isOn 2 = s.isOn 2 := by
  rw [State.isOn, State.isOn, s.mainsBack_dom (by decide)]

/-- Mains back drop what is left of the shedding, and bring up a domain that is waited for. -/
theorem supplyReturn_spec {s : State} (hp : s.powered = true) (hm : s.power.mains = false) :
    ∃ t, exec .supplyReturn s = .next t ∧ t.power = { s.power with mains := true, shed := none } ∧
      t.getF F.GZB_CAUSE_NOW_SUPPLY_LOW = 0 ∧ OnlyFields s t (F.GZB_CAUSE_NOW_SUPPLY_LOW :: allDoms.map F.dom) ∧
      (∀ d ∈ allDoms, d ≠ 2 → t.dom d = if s.dom d = DS.off ∧ s.domUnused d = false ∧
        (s.hasHeld d = true ∨ s.wanted d = true) ∧ s.isOn 2 = true then DS.pwrUp else s.dom d) ∧
      t = { s with regs := t.regs, power := t.power } := by
  have honly := State.foldl_wakeDue_onlyFields (fun d h => h) s.mainsBack
  have hframe := State.foldl_wakeDue_frame allDoms s.mainsBack
  refine ⟨_, exec_supplyReturn hp hm, ?_, ?_, s.mainsBack_onlyFields.trans honly, fun d hd h2 => ?_, ?_⟩
  · rw [hframe]
    rfl
  · rw [honly.getF (by decide)]
    exact State.getF_setF_same _ _ _ (by decide)
  · obtain ⟨hup, hkeep⟩ := State.dom_foldl_wakeDue (fun d h => h) (by decide) s.mainsBack (e := d) h2
    rw [s.mainsBack_dueUp hd, s.mainsBack_isOn_two] at hup hkeep
    rw [s.mainsBack_dom hd] at hkeep
    have hiff : d ∈ allDoms ∧ s.DueUp d ∧ s.isOn 2 = true ↔ s.dom d = DS.off ∧ s.domUnused d = false ∧
        (s.hasHeld d = true ∨ s.wanted d = true) ∧ s.isOn 2 = true := by
      rw [State.DueUp, and_iff_right hd, and_assoc, and_assoc]
    rw [hiff] at hup hkeep
    split_ifs with h
    · exact hup h
    · exact hkeep h
  · rw [hframe]
    rfl

/-! ### Through Off -/

theorem State.powerOff_comesFromOff (s : State) (mains : Bool) : ComesFromOff s (s.powerOff mains) mains :=
  ⟨rfl, rfl, rfl, rfl, rfl, rfl⟩

/-! ### The other commands -/

theorem exec_mainsApply {s : State} (h : s.power.porHeld = true) (stays : Bool) :
    exec (.mainsApply stays) s = .next (s.powerOff stays) := congrArg Host.Outcome.next (if_pos h)

theorem exec_holdupExpiry {s : State} (hp : s.powered = true) (hm : s.power.mains = false) :
    exec .holdupExpiry s = .next (s.powerOff false) := congrArg Host.Outcome.next (if_pos ⟨hp, by rw [hm]; rfl⟩)

theorem exec_coreRailFault {s : State} {d : Nat} (hd : d < 2) (h : s.power.off = false) :
    exec (.coreRailFault d) s = .next (s.powerOff s.power.mains) :=
  congrArg Host.Outcome.next (if_pos ⟨hd, by rw [h]; rfl⟩)

/-- Settles O12: what runs through Off leaves the module as it comes from there; of the rest only the return of mains
loops over the domains. -/
theorem mainsAndStartup : Obligations.MainsAndStartup := by
  unfold Obligations.MainsAndStartup
  refine ⟨fun s => ⟨fun stays h => ⟨_, exec_mainsApply h stays, s.powerOff_comesFromOff stays⟩,
    fun hp hm => ⟨_, exec_holdupExpiry hp hm, s.powerOff_comesFromOff false⟩,
    fun d hd h => ⟨_, exec_coreRailFault hd h, s.powerOff_comesFromOff _⟩⟩,
    fun s hp => ⟨fun hm => ?_, fun f hshed htrigs hqueue hem => ?_, supplyReturn_spec hp⟩,
    fun p s => ⟨fun hoff hpor hm => ?_, fun h => congrArg Host.Outcome.next (if_pos ?_)⟩⟩
  · exact congrArg Host.Outcome.next (if_neg (by simp [hp, hm]))
  · change execDeferredShed s = _
    rw [execDeferredShed, hshed]
    exact congrArg Host.Outcome.next (if_neg (by simp [htrigs, hqueue, hem]))
  · exact congrArg Host.Outcome.next (if_neg (by simp [hoff, hpor, hm]))
  · rcases h with h | h <;> simp [h]

end Sys2Proof.Machine
end

section
/-! SUPPORT. A step on an empty queue: the tick of FRC and what the radio pads take from it. -/
namespace Sys2Proof.Machine

theorem State.not_stands_still {s : State} (h : s.powered = true) : (s.power.off || s.power.porHeld) = false := by
  rw [State.powered, Bool.and_eq_true, Bool.not_eq_true', Bool.not_eq_true'] at h
  rw [h.1, h.2, Bool.or_false]

theorem State.idle_of_not_powered {s : State} (h : s.powered = false) : s.idle = s := by
  refine if_pos ?_
  rwa [State.powered, ← Bool.not_or, Bool.not_eq_false'] at h

/-- FRC and the radio pads after one tick. -/
def State.ticked (s : State) : State := (s.frcTick.padStep 0).padStep 1

theorem State.idle_of_powered {s : State} (h : s.powered = true) :
    s.idle = if s.ticked.wktOn 0 then s.ticked.each [0, 1, 2, 3] State.axTick else s.ticked := by
  rw [State.idle, State.not_stands_still h, if_neg Bool.false_ne_true]
  rfl

theorem step_of_pending_nil {s : State} (h : s.pending = []) : step s = .next s.idle := by
  rw [step, h]

/-! ### FRC -/

theorem State.frcTick_of_not_degraded {s : State} (h : s.degraded = false) :
    s.frcTick = { s with frc := s.frc + 1 } := by
  rw [State.frcTick, h, if_neg Bool.false_ne_true]

theorem State.frcTick_of_degraded {s : State} (h : s.degraded = true) :
    s.frcTick = { s with
      frc := s.frc + BitVec.ofNat 64 (793 + (s.power.frcFrac + 29952) / 65536)
      power := { s.power with frcFrac := (s.power.frcFrac + 29952) % 65536 } } := by
  rw [State.frcTick, if_pos h]

theorem State.frcTick_frame (s : State) :
    s.frcTick = { s with frc := s.frcTick.frc, power := { s.power with frcFrac := s.frcTick.power.frcFrac } } := by
  cases h : s.degraded
  · rw [State.frcTick_of_not_degraded h]
  · rw [State.frcTick_of_degraded h]

@[simp] theorem State.frcTick_pads (s : State) : s.frcTick.pads = s.pads := by rw [State.frcTick_frame]
@[simp] theorem State.frcTick_bsa (s : State) : s.frcTick.bsa = s.bsa := by rw [State.frcTick_frame]
@[simp] theorem State.frcTick_bsb (s : State) : s.frcTick.bsb = s.bsb := by rw [State.frcTick_frame]

/-! ### The radio pads -/

theorem State.padStep_of_tx_none {s : State} {b : Nat} (h : (s.band b).tx = none) : s.padStep b = s := by
  rw [State.padStep, h]

theorem State.padStep_frame (s : State) (b : Nat) :
    s.padStep b = { s with pads := (s.padStep b).pads, bsa := (s.padStep b).bsa, bsb := (s.padStep b).bsb } := by
  cases htx : (s.band b).tx with
  | none => rw [State.padStep_of_tx_none htx]
  | some p =>
    simp only [State.padStep, htx, State.updBand]
    split_ifs <;> rfl

@[simp] theorem State.padStep_frc (s : State) (b : Nat) : (s.padStep b).frc = s.frc := by rw [State.padStep_frame]
@[simp] theorem State.padStep_power (s : State) (b : Nat) : (s.padStep b).power = s.power := by rw [State.padStep_frame]

/-- A step of band A's pads leaves band B. -/
@[simp] theorem State.padStep_zero_bsb (s : State) : (s.padStep 0).bsb = s.bsb := by
  cases htx : (s.band 0).tx with
  | none => rw [State.padStep_of_tx_none htx]
  | some p =>
    simp only [State.padStep, htx, State.updBand, if_true]
    split_ifs <;> rfl

/-- Past its end a transmission is over: PA_EN_A low, LNA_EN_A at rest. -/
theorem State.padStep_zero_ended {s : State} {f u : Nat} (htx : s.bsa.tx = some (f, u)) (hb : s.blanked 0 = false)
    (hu : u ≤ s.now) : (s.padStep 0).bsa.tx = none ∧ (s.padStep 0).pads.paEnA = false ∧
      (s.padStep 0).pads.lnaEnA = s.lnaRest 0 := by
  have hband : (s.band 0).tx = some (f, u) := htx
  have hblank : (s.updBand 0 fun x => { x with tx := none }).blanked 0 = false := hb
  simp only [State.padStep, hband, if_pos hu, hblank, if_neg Bool.false_ne_true, if_true, and_self, and_true]
  rfl

/-- Between its two FRCs a transmission holds PA_EN_A high and LNA_EN_A low. -/
theorem State.padStep_zero_sending {s : State} {f u : Nat} (htx : s.bsa.tx = some (f, u)) (hb : s.blanked 0 = false)
    (hf : f ≤ s.now) (hu : s.now < u) (hext : s.extPa 0 = true) :
    (s.padStep 0).pads.paEnA = true ∧ (s.padStep 0).pads.lnaEnA = false := by
  have hband : (s.band 0).tx = some (f, u) := htx
  simp only [State.padStep, hband, if_neg (Nat.not_le.2 hu), if_pos (And.intro hf hext), hb, if_neg Bool.false_ne_true,
    if_true, and_self]

/-! ### The tick -/

@[simp] theorem State.ticked_frc (s : State) : s.ticked.frc = s.frcTick.frc := by
  rw [State.ticked, State.padStep_frc, State.padStep_frc]

@[simp] theorem State.ticked_power (s : State) : s.ticked.power = s.frcTick.power := by
  rw [State.ticked, State.padStep_power, State.padStep_power]

theorem State.ticked_frame (s : State) : s.ticked = { s with
    frc := s.ticked.frc, power := { s.power with frcFrac := s.ticked.power.frcFrac }, pads := s.ticked.pads
    bsa := s.ticked.bsa, bsb := s.ticked.bsb } := by
  have h : s.ticked = { s.frcTick with pads := s.ticked.pads, bsa := s.ticked.bsa, bsb := s.ticked.bsb } := by
    rw [State.ticked, State.padStep_frame _ 1, State.padStep_frame _ 0]
  rw [s.ticked_frc, s.ticked_power]
  rw [State.frcTick_frame] at h
  exact h

/-- With no transmission on band B the pads step with band A alone. -/
theorem State.ticked_of_bsb_none {s : State} (h : s.bsb.tx = none) : s.ticked = s.frcTick.padStep 0 := by
  refine State.padStep_of_tx_none ?_
  change (s.frcTick.padStep 0).bsb.tx = none
  rw [State.padStep_zero_bsb, State.frcTick_bsb, h]

theorem State.ticked_of_no_tx {s : State} (ha : s.bsa.tx = none) (hb : s.bsb.tx = none) : s.ticked = s.frcTick := by
  rw [State.ticked_of_bsb_none hb]
  refine State.padStep_of_tx_none ?_
  change s.frcTick.bsa.tx = none
  rw [State.frcTick_bsa, ha]

/-- FRC's tick leaves what the pads take their rest from. -/
theorem State.frcTick_lnaRest (s : State) (b : Nat) : s.frcTick.lnaRest b = s.lnaRest b := by
  cases h : s.degraded
  · rw [State.frcTick_of_not_degraded h]
    rfl
  · rw [State.frcTick_of_degraded h]
    rfl

theorem State.frcTick_blanked (s : State) (b : Nat) : s.frcTick.blanked b = s.blanked b := by
  rw [State.frcTick_frame]
  rfl

theorem State.frcTick_extPa (s : State) (b : Nat) : s.frcTick.extPa b = s.extPa b := by
  rw [State.frcTick_frame]
  rfl

/-- Settles O2: the tick of FRC, the pads of each band, then the axes where Wicket runs. -/
theorem idleStepTicksFrc : Obligations.IdleStepTicksFrc := by
  unfold Obligations.IdleStepTicksFrc
  intro s hpending
  rw [step_of_pending_nil hpending]
  cases hp : s.powered with
  | false =>
    refine ⟨s, fun _ => ⟨by rw [State.idle_of_not_powered hp], rfl⟩, nofun, rfl, nofun, nofun,
      fun _ _ => ⟨rfl, rfl, rfl⟩, nofun⟩
  | true =>
    refine ⟨s.ticked, nofun, fun _ => by rw [State.idle_of_powered hp], s.ticked_frame, fun _ hd => ?_, fun _ hd => ?_,
      fun ha hb => ?_, fun f u _ ha hb hblank => ?_⟩
    · rw [s.ticked_frc, s.ticked_power, State.frcTick_of_not_degraded hd]
      exact ⟨rfl, rfl⟩
    · rw [s.ticked_frc, s.ticked_power, State.frcTick_of_degraded hd]
      exact ⟨rfl, rfl⟩
    · rw [State.ticked_of_no_tx ha hb]
      exact ⟨s.frcTick_pads, s.frcTick_bsa, s.frcTick_bsb⟩
    · have htx : s.frcTick.bsa.tx = some (f, u) := by rw [s.frcTick_bsa, ha]
      have hblank' : s.frcTick.blanked 0 = false := by rw [s.frcTick_blanked, hblank]
      rw [State.now, s.ticked_frc, State.ticked_of_bsb_none hb]
      refine ⟨fun hu => ?_, fun hf hu hext => ?_⟩
      · rw [← s.frcTick_lnaRest]
        exact State.padStep_zero_ended htx hblank' hu
      · exact State.padStep_zero_sending htx hblank' hf hu (by rw [s.frcTick_extPa, hext])

end Sys2Proof.Machine
end

section
/-! SUPPORT. What event records, SNAPs and Visitor book triggers leave of the registers: those of every unit but the
recorder, the shadow banks and the stream windows apart. -/
namespace Sys2Proof.Machine

/-- A register of a unit other than the recorder's, outside the shadow banks. -/
def UnitReg (a : Nat) : Prop := a < 0x110000 ∧ a / 0x10000 ≠ 13 ∧ a % 0x10000 < 0xF000

/-- Every register of `P` reads in `t` as in `s`. -/
def SameOn (P : Nat → Prop) (s t : State) : Prop := ∀ a, P a → t.rd a = s.rd a

section
variable {P Q : Nat → Prop} {s t u : State}

theorem SameOn.refl (s : State) : SameOn P s s := fun _ _ => rfl

theorem SameOn.of_regs (h : t.regs = s.regs) : SameOn P s t := fun _ _ => by
  rw [State.rd, State.rd, h]

theorem SameOn.trans (h1 : SameOn P s t) (h2 : SameOn P t u) : SameOn P s u := fun a ha => (h2 a ha).trans (h1 a ha)

theorem SameOn.mono (h : SameOn P s t) (hQ : ∀ a, Q a → P a) : SameOn Q s t := fun a ha => h a (hQ a ha)

theorem SameOn.getF (h : SameOn P s t) {f : Fld} (hf : P f.addr) : t.getF f = s.getF f := by
  rw [State.getF, State.getF, h _ hf]

theorem SameOn.wr {a : Nat} (h : ¬ P a) (v : Word) : SameOn P s (s.wr a v) := fun _ hb =>
  State.rd_wr_other s v fun he => h (he ▸ hb)

theorem SameOn.setF {f : Fld} (h : ¬ P f.addr) (v : Nat) : SameOn P s (s.setF f v) := SameOn.wr h _

theorem SameOn.foldl {α : Type} {f : State → α → State} {xs : List α} (hf : ∀ x ∈ xs, ∀ t, SameOn P t (f t x))
    (s : State) : SameOn P s (xs.foldl f s) := by
  induction xs generalizing s with
  | nil => exact SameOn.refl s
  | cons x xs ih => exact (hf x (by simp) s).trans (ih (fun y hy => hf y (List.mem_cons_of_mem _ hy)) _)

end

/-! ### Stream windows -/

theorem not_unitReg_of_window {a : Nat} (h : 0x1000000 ≤ a) : ¬ UnitReg a := fun ⟨hlt, _, _⟩ => by omega

theorem State.setStrm_frame (s : State) (w : Nat) (q : Strm) :
    s.setStrm w q = { s with regs := (s.setStrm w q).regs, strms := (s.setStrm w q).strms } := by
  simp only [State.setStrm]
  split_ifs <;> rfl

theorem State.setStrm_sameUnits (s : State) (w : Nat) (q : Strm) : SameOn UnitReg s (s.setStrm w q) := by
  simp only [State.setStrm]
  split_ifs
  · exact SameOn.trans (SameOn.of_regs rfl) (SameOn.setF (not_unitReg_of_window (by simp only; omega)) _)
  · exact SameOn.of_regs rfl

/-- A packet offered to a window is dropped with its domain off, admitted, or counted. -/
theorem State.observe_cases (s : State) (w : Nat) (bs : Bytes) :
    s.observe w bs = s ∨ (∃ q, s.observe w bs = s.setStrm w q) ∨
      s.observe w bs = s.incF (F.SYS_STRM_OVERRUN_OVERRUN w) := by
  unfold State.observe
  split_ifs
  · exact .inl rfl
  · exact .inr (.inl ⟨_, rfl⟩)
  · exact .inr (.inr rfl)

/-- A packet offered to a window changes the windows and registers. -/
theorem State.observe_frame (s : State) (w : Nat) (bs : Bytes) :
    s.observe w bs = { s with regs := (s.observe w bs).regs, strms := (s.observe w bs).strms } := by
  rcases s.observe_cases w bs with h | ⟨q, h⟩ | h
  · rw [h]
  · rw [h]
    exact s.setStrm_frame w q
  · rw [h]
    generalize F.SYS_STRM_OVERRUN_OVERRUN w = f
    rfl

theorem State.observe_sameUnits (s : State) (w : Nat) (bs : Bytes) : SameOn UnitReg s (s.observe w bs) := by
  rcases s.observe_cases w bs with h | ⟨q, h⟩ | h
  · rw [h]
    exact SameOn.refl s
  · rw [h]
    exact s.setStrm_sameUnits w q
  · rw [h]
    exact SameOn.setF (not_unitReg_of_window (by simp only; omega)) _

/-! ### Shadow banks -/

/-- The words of a bank lie past the registers of its block. -/
theorem not_unitReg_of_bank {blk k i : Nat} (hk : k < 2) (hi : i < 16) : ¬ UnitReg (bankBase blk k + 4 * i) :=
  fun ⟨_, _, h⟩ => by
    simp only [bankBase] at h
    omega

theorem not_unitReg_bankBase {blk k : Nat} (hk : k < 2) : ¬ UnitReg (bankBase blk k) :=
  fun ⟨_, _, h⟩ => by
    simp only [bankBase] at h
    omega

theorem State.wrList_sameUnits {ws : List Word} {a : Nat} (h : ∀ i < ws.length, ¬ UnitReg (a + 4 * i)) (s : State) :
    SameOn UnitReg s (s.wrList a ws) := by
  induction ws generalizing a s with
  | nil => exact SameOn.refl s
  | cons w ws ih =>
    refine (SameOn.wr (h 0 (by simp)) w).trans (ih (fun i hi => ?_) _)
    have := h (i + 1) (by simpa using hi)
    rwa [show a + 4 * (i + 1) = a + 4 + 4 * i by omega] at this

/-- No block has more shadowed words than its bank holds. -/
theorem State.shadowWords_length (s : State) (blk : Nat) : (s.shadowWords blk).length ≤ 15 := by
  unfold State.shadowWords
  split <;> simp

theorem State.latchBlock_sameUnits (s : State) (blk : Nat) {k : Nat} (hk : k < 2) (st : Nat) :
    SameOn UnitReg s (s.latchBlock blk k st) := by
  refine State.wrList_sameUnits (fun i hi => not_unitReg_of_bank hk (Nat.lt_of_lt_of_le hi ?_)) s
  have h := s.shadowWords_length blk
  split_ifs
  · simp
  · rw [List.length_cons, List.length_append, List.length_replicate]
    omega

theorem State.latchAll_sameUnits (s : State) {k : Nat} (hk : k < 2) : SameOn UnitReg s (s.latchAll k) :=
  SameOn.foldl (fun blk _ t => by
    split_ifs
    · exact SameOn.refl t
    · exact t.latchBlock_sameUnits blk hk _
    · exact t.latchBlock_sameUnits blk hk _) s

theorem not_unitReg_recorder {a : Nat} (h : a / 0x10000 = 13) : ¬ UnitReg a := fun ⟨_, hne, _⟩ => hne h

/-- There are two banks. -/
theorem State.snapBank_lt {s : State} {src k : Nat} (h : s.snapBank src = some k) : k < 2 := by
  simp only [State.snapBank] at h
  split at h
  case h_1 =>
    cases h
    split_ifs <;> decide
  case h_2 | h_3 =>
    cases h
    decide
  case h_4 => split_ifs at h <;> cases h <;> decide

theorem State.snap_sameUnits (s : State) (src : Nat) : SameOn UnitReg s (s.snap src).2 := by
  unfold State.snap
  split
  next =>
    exact (SameOn.setF (not_unitReg_recorder rfl) _).trans (SameOn.setF (not_unitReg_recorder rfl) _)
  next k hk =>
    refine SameOn.trans ?_ (State.latchAll_sameUnits _ (State.snapBank_lt hk))
    exact (SameOn.setF (not_unitReg_recorder (a := F.VB_SNAP_STAT_LAST_SEQ.addr) rfl) _).trans (SameOn.of_regs rfl)

theorem State.snapJoin_sameUnits (s : State) {k : Nat} (hk : k < 2) : SameOn UnitReg s (s.snapJoin k) := by
  refine SameOn.trans (SameOn.of_regs rfl) (SameOn.foldl (fun blk _ t => ?_) _)
  split_ifs
  · exact SameOn.refl t
  · exact SameOn.setF (not_unitReg_bankBase hk) _

theorem State.tickSnap_lt {s : State} {k : Nat} (h : s.tickSnap = some k) : k < 2 := by
  have hmem := List.mem_of_find?_eq_some h
  simp only [List.mem_cons, List.not_mem_nil, or_false] at hmem
  omega

theorem State.codeSnap_sameUnits (s : State) {own : Option (Option Nat)} (hown : ∀ k, own = some (some k) → k < 2) :
    SameOn UnitReg s (s.codeSnap own).2 := by
  unfold State.codeSnap
  split
  next => exact SameOn.refl s
  next k => exact s.snapJoin_sameUnits (hown k rfl)
  next =>
    split
    next k hk => exact s.snapJoin_sameUnits (State.tickSnap_lt hk)
    next => exact s.snap_sameUnits 16

/-! ### Triggers -/

/-- An internal item raised changes the scheduler alone. -/
theorem State.raiseTask_frame (s : State) (t : Nat) : s.raiseTask t = { s with arb := (s.raiseTask t).arb } := by
  unfold State.raiseTask
  split_ifs <;> rfl

theorem State.raiseTask_sameUnits (s : State) (t : Nat) : SameOn UnitReg s (s.raiseTask t) :=
  SameOn.of_regs (by rw [State.raiseTask_frame])

theorem State.spendToken_sameUnits (s : State) (c : Nat) : SameOn UnitReg s (s.spendToken c) := by
  unfold State.spendToken
  simp only
  split_ifs <;> exact SameOn.of_regs rfl

theorem State.suppress_sameUnits (s : State) (c : Nat) : SameOn UnitReg s (s.suppress c) :=
  (SameOn.of_regs rfl).trans ((SameOn.setF (not_unitReg_recorder rfl) _).trans
    (SameOn.setF (not_unitReg_recorder rfl) _))

/-- A Visitor book code writes no register of another unit; `own` names one of the two banks, if any. -/
theorem State.vbTrigger_sameUnits_of_own (s : State) (code : Nat) (data : Bytes) {own : Option (Option Nat)}
    (hown : ∀ k, own = some (some k) → k < 2) (wid : Option Nat) :
    SameOn UnitReg s (s.vbTrigger code data own wid) := by
  have hsnap : SameOn UnitReg s (if (s.vbCfg code).snap = true then (s.spendToken code).codeSnap own
      else (own, s.spendToken code)).2 := by
    refine (s.spendToken_sameUnits code).trans ?_
    split_ifs
    · exact (s.spendToken code).codeSnap_sameUnits hown
    · exact SameOn.refl _
  unfold State.vbTrigger
  simp only
  split
  next => exact SameOn.refl s
  next =>
    split
    next => exact s.suppress_sameUnits code
    next => exact (hsnap.trans (SameOn.of_regs rfl)).trans (State.raiseTask_sameUnits _ 12)

theorem State.vbTrigger_sameUnits (s : State) (code : Nat) (data : Bytes) (wid : Option Nat) :
    SameOn UnitReg s (s.vbTrigger code data none wid) := s.vbTrigger_sameUnits_of_own (own := none) code data nofun wid

/-- The bank that a SNAP takes is one of the two. -/
theorem State.snap_bank_lt {s : State} {src k : Nat} (h : (s.snap src).1 = some k) : k < 2 := by
  unfold State.snap at h
  split at h
  next => exact nomatch h
  next j hj =>
    rw [← Option.some.inj h]
    exact State.snapBank_lt hj

end Sys2Proof.Machine
end

section
/-! SUPPORT. Wicket's axis registers through events, and a winding's tick with the chopper on. -/
namespace Sys2Proof.Machine

/-! ### Axis registers -/

theorem State.lt_four_of_wktOn {s : State} {n : Nat} (h : s.wktOn n = true) : n < 4 := by
  simp only [State.wktOn, Bool.and_eq_true, decide_eq_true_eq] at h
  exact h.1.1

theorem unitReg_axis {n c : Nat} (hn : n < 4) (hc : c < 0x40) : UnitReg (0xB0100 + c + 0x40 * n) := by
  refine ⟨?_, ?_, ?_⟩ <;> omega

/-- Different registers of one axis. -/
theorem axisReg_ne {c d : Nat} (h : c ≠ d) (n : Nat) : c + 0x40 * n ≠ d + 0x40 * n := by omega

/-- A register of an axis is none of those of all axes. -/
theorem axisReg_ne_common {c d : Nat} (h : d < c) (n : Nat) : c + 0x40 * n ≠ d := by omega

theorem State.wktEvent_sameUnits (s : State) (kind n info : Nat) (value : Int) :
    SameOn UnitReg s (s.wktEvent kind n info value) := s.observe_sameUnits _ _

/-- An event changes the windows and registers. -/
theorem State.wktEvent_frame {s t : State} (h : t = { s with regs := t.regs }) (kind n info : Nat) (value : Int) :
    t.wktEvent kind n info value = { s with
      regs := (t.wktEvent kind n info value).regs, strms := (t.wktEvent kind n info value).strms } := by
  have he : t.wktEvent kind n info value = { t with
    regs := (t.wktEvent kind n info value).regs, strms := (t.wktEvent kind n info value).strms } := t.observe_frame _ _
  generalize t.wktEvent kind n info value = u at he ⊢
  rw [he, h]

/-- An axis register that is neither STAT nor WKT_STAT keeps its value through a change of the axis's state. -/
theorem State.setAx_getF_other (s : State) {n st : Nat} {f : Fld} (hu : UnitReg f.addr) (h1 : f.addr ≠ 0xB0000)
    (h2 : f.addr ≠ 0xB0100 + 0x40 * n) : (s.setAx n st).getF f = s.getF f := by
  unfold State.setAx
  split_ifs
  · rfl
  · rw [(State.wktEvent_sameUnits _ 1 n st _).getF hu]
    unfold State.setMask State.setBit State.clrBit
    split_ifs <;> simp only [State.getF_setF_other, ne_eq, h1, h2, not_false_eq_true]

/-- An axis is in the state it is put in. -/
theorem State.axState_setAx (s : State) {n st : Nat} (hn : n < 4) (hst : st < 8) : (s.setAx n st).axState n = st := by
  unfold State.setAx
  split_ifs with h
  · exact h
  · rw [State.axState, (State.wktEvent_sameUnits _ 1 n st _).getF (unitReg_axis (c := 0) hn (by decide))]
    have hne : (F.WKT_AXn_STAT_STATE n).addr ≠ 0xB0000 := by simp only; omega
    have hset : (s.setF (F.WKT_AXn_STAT_STATE n) st).getF (F.WKT_AXn_STAT_STATE n) = st := by
      rw [State.getF_setF_same _ _ _ (by simp)]
      exact Nat.mod_eq_of_lt hst
    unfold State.setMask State.setBit State.clrBit
    split_ifs <;> simp only [State.getF_setF_other, ne_eq, hne, not_false_eq_true, hset]

/-- A deferred deceleration writes DEC and EDEC alone. -/
theorem State.applyDeferred_getF_other (s : State) {n : Nat} {f : Fld} (h1 : f.addr ≠ R.WKT_AXn_DEC n)
    (h2 : f.addr ≠ R.WKT_AXn_EDEC n) : (s.applyDeferred n).getF f = s.getF f := by
  unfold State.applyDeferred
  rw [State.updAx_getF]
  cases (s.ax n).decNew <;> cases (s.ax n).edecNew <;> simp only [State.getF_setF_other, ne_eq, h1, h2, not_false_eq_true]

/-! ### Faults -/

/-- The registers of an axis in FAULT: its bits added, its position held, a deferred deceleration taken. -/
def State.faulted (s : State) (n bits : Nat) (p : Int) (g : Axis → Axis) : State :=
  ((((((s.setF ⟨R.WKT_AXn_FAULT n, 0, 11⟩ bits).setBit F.WKT_STAT_FAULT_SEEN n).setI (F.WKT_AXn_POS n) p).updAx n
    g).applyDeferred n).setAx n Ax.FAULT)

theorem State.faulted_axState (s : State) {n : Nat} (hn : n < 4) (bits : Nat) (p : Int) (g : Axis → Axis) :
    (s.faulted n bits p g).axState n = Ax.FAULT := State.axState_setAx _ hn (by decide)

theorem State.faulted_fault (s : State) {n : Nat} (hn : n < 4) (bits : Nat) (p : Int) (g : Axis → Axis) :
    (s.faulted n bits p g).getF ⟨R.WKT_AXn_FAULT n, 0, 11⟩ = bits % 2 ^ 11 := by
  rw [State.faulted,
    State.setAx_getF_other _ (unitReg_axis (c := 8) hn (by decide)) (axisReg_ne_common (by decide) n)
      (axisReg_ne (by decide) n),
    State.applyDeferred_getF_other _ (axisReg_ne (by decide) n) (axisReg_ne (by decide) n), State.updAx_getF, State.setI,
    State.getF_setF_other _ _ _ _ (axisReg_ne (by decide) n), State.setBit,
    State.getF_setF_other _ _ _ _ (axisReg_ne_common (by decide) n), State.getF_setF_same _ _ _ (by simp)]

/-- What a fault does to the registers of the units. -/
theorem State.axFault_sameUnits (s : State) (n bits : Nat) (vm : Int) : ∃ s1 p g,
    SameOn UnitReg (State.faulted s1 n (s.getF ⟨R.WKT_AXn_FAULT n, 0, 11⟩ ||| bits) p g) (s.axFault n bits vm) := by
  unfold State.axFault
  simp only
  split_ifs
  · exact ⟨_, _, _, SameOn.refl _⟩
  · exact ⟨_, _, _, State.wktEvent_sameUnits _ _ _ _ _⟩
  · exact ⟨_, _, _, State.vbTrigger_sameUnits _ _ _ _⟩
  · exact ⟨_, _, _, (State.wktEvent_sameUnits _ _ _ _ _).trans (State.vbTrigger_sameUnits _ _ _ _)⟩

/-- A fault adds its bits to those of the axis, and the axis is in FAULT. -/
theorem State.axFault_spec (s : State) {n : Nat} (hn : n < 4) (bits : Nat) (vm : Int) :
    (s.axFault n bits vm).axState n = Ax.FAULT ∧ (s.axFault n bits vm).getF ⟨R.WKT_AXn_FAULT n, 0, 11⟩ =
      (s.getF ⟨R.WKT_AXn_FAULT n, 0, 11⟩ ||| bits) % 2 ^ 11 := by
  obtain ⟨s1, p, g, h⟩ := s.axFault_sameUnits n bits vm
  constructor
  · rw [State.axState, h.getF (unitReg_axis (c := 0) hn (by decide))]
    exact s1.faulted_axState hn _ p g
  · rw [h.getF (unitReg_axis (c := 8) hn (by decide)), s1.faulted_fault hn]

/-! ### The chopper -/

/-- An on-phase past TON_MAX, its valley current read, ends: at its current, or as a limit or a short. -/
theorem Wind.tick_of_tonMax {w : Wind} {now : Nat} (hon : w.phase = .on) (hmax : w.frc + 1040 ≤ now)
    (hread : w.read = true) (dead toff fast : Nat) (target hyst full i : Int) :
    w.tick now dead toff fast target hyst full i = (w.turn (if fast = 1 then .fast else .slow) now dead,
      if 2 * target + hyst + 2 * w.ofs ≤ 2 * i then none else some (if full < 20 * i then .limit else .short)) := by
  unfold Wind.tick
  rw [if_neg (by omega), hon]
  simp only
  rw [if_neg (by omega), hread, if_pos rfl, if_pos (show 1040 ≤ now - w.frc by omega)]
  split_ifs <;> rfl

/-- The motor supply an axis has been read at last, or shows. -/
def State.axVm (s : State) (n : Nat) : Int :=
  (s.ax n).vm.getD (BitVec.ofNat 16 (s.measured (R.WKT_AXn_VM n) 16)).toInt

/-- A winding's current above OC is a fault, whatever the chopper does. -/
theorem State.windTick_of_oc {s : State} {n b : Nat} (h : s.chopOn n = true)
    (hoc : s.axOc n < (s.windCurrent n b).natAbs) : s.windTick n b = s.axFault n (if b = 0 then 1 else 2) (s.axVm n) := by
  unfold State.windTick
  simp only [h]
  rw [if_neg (by decide), if_pos hoc]
  rfl

/-- The state with a winding's chopper put. -/
def State.putWind (s : State) (n b : Nat) (w : Wind) : State :=
  s.updAx n (fun a => { a with winds := updAt b (fun _ => w) a.winds })

/-- An on-phase past TON_MAX of a winding whose current is within OC. -/
theorem State.windTick_of_tonMax {s : State} {n b : Nat} {w : Wind} (h : s.chopOn n = true)
    (hoc : ¬ s.axOc n < (s.windCurrent n b).natAbs) (hw : (s.ax n).winds[b]? = some w)
    (hz : s.zeroHold n b = false) (hon : w.phase = .on) (hneg : w.neg = decide (s.windTarget n b < 0))
    (hmax : w.frc + 1040 ≤ s.now) (hread : w.read = true) : ∃ w',
    let i : Int := if w.neg then -s.windCurrent n b else s.windCurrent n b
    let full : Int := 2500000 / max (leAt (s.axRec n) 2 2) 1
    s.windTick n b =
      if 2 * ((s.windTarget n b).natAbs : Int) + leAt (s.axRec n) 10 2 + 2 * w.ofs ≤ 2 * i then s.putWind n b w'
      else if full < 20 * i then (s.putWind n b w').incF (F.WKT_AXn_CNT_TON_LIMIT n)
      else (s.putWind n b w').axFault n (if b = 0 then 4 else 8) (s.axVm n) := by
  have hget : (s.ax n).winds.getD b {} = w := by rw [List.getD_eq_getElem?_getD, hw, Option.getD_some]
  refine ⟨w.turn (if b2n (!s.flag (F.WKT_AXn_STAT_VM_HIGH_NOW n)) = 1 then .fast else .slow) s.now
    (nsTicks (leAt (s.axRec n) 14 2)), ?_⟩
  unfold State.windTick
  simp only [h, hget, hz]
  rw [if_neg (by decide), if_neg hoc, if_neg (by decide), ← hneg, if_pos rfl, Wind.tick_of_tonMax hon hmax hread]
  split_ifs <;> rfl

/-! ### The motor supply -/

theorem State.vmHighNow_spec (s : State) (n : Nat) (vm : Int) (v : Nat) (hv : v < 2) : ∃ t,
    (s.vmRead n vm).setF (F.WKT_AXn_STAT_VM_HIGH_NOW n) v = t ∧ t.getF (F.WKT_AXn_STAT_VM_HIGH_NOW n) = v ∧
      t.axes = updAt n (fun a => { a with vm := some vm }) s.axes ∧
      OnlyFields s t [F.WKT_AXn_STAT_VM_HIGH_NOW n] ∧ t = { s with regs := t.regs, axes := t.axes } := by
  refine ⟨_, rfl, ?_, rfl, OnlyFields.setF (s.vmRead n vm) _ _ (by simp), rfl⟩
  rw [State.getF_setF_same _ _ _ (by simp)]
  exact Nat.mod_eq_of_lt hv

/-! ### Stalls -/

/-- What a stall shows: STALL and its counter raised, HOMED cleared. -/
def State.stallShown (s : State) (n : Nat) : State :=
  ((((s.setF (F.WKT_AXn_FAULT_STALL n) 1).setBit F.WKT_STAT_FAULT_SEEN n).setBit F.WKT_STAT_STALL_SEEN n).incF
    (F.WKT_AXn_CNT_STALLS n)).setF (F.WKT_AXn_STAT_HOMED n) 0

/-- A stall's event, and the count of zero crossings begun again. -/
def State.stallTold (s : State) (n : Nat) : State :=
  ((s.stallShown n).wktEvent 3 n (s.getF (F.WKT_AXn_LOAD_PHI n)) (s.axS n)).updAx n (fun a => { a with stallRun := 0 })

theorem exec_wktStall_unseen {s : State} {n : Nat} (h : s.stallSeen n = false) : exec (.wktStall n) s = .next s := by
  change execWktStall n s = _
  unfold execWktStall
  simp only [h]
  rw [if_neg (by simp)]

/-- A stall in MOVING, with no homing run. -/
theorem exec_wktStall_moving {s : State} {n : Nat} (hw : s.wktOn n = true) (hm : s.axState n = Ax.MOVING)
    (hh : (s.ax n).homing = none) (hseen : s.stallSeen n = true) : exec (.wktStall n) s =
      .next (if s.axStallStop n then
        ((((((s.ax n).inForce.foldl (fun t w => t.axEnd n w 0x87 (s.axS n)) ((s.stallTold n).dropPend n 0x87)).setI
          (F.WKT_AXn_POS n) (s.axS n)).updAx n (fun a => { a with
            cur := none, homing := none, braking := none, ending := []
            iset := s.getF (F.WKT_AXn_IRUN_IHOLD n) })).applyDeferred n).setAx n Ax.STALLED)
        else s.stallTold n) := by
  change execWktStall n s = _
  unfold execWktStall
  simp only [hh, hm, hw, hseen]
  rw [if_pos (by simp)]
  rfl

theorem State.stallShown_frame (s : State) (n : Nat) : s.stallShown n = { s with regs := (s.stallShown n).regs } :=
  State.setF_frame (State.setF_frame (State.setF_frame (State.setF_frame (State.setF_frame rfl _ _) _ _) _ _) _ _) _ _

/-- A change of an axis besides windows and registers. -/
theorem State.updAx_frame {s t : State} (h : t = { s with regs := t.regs, strms := t.strms }) (n : Nat) (g : Axis → Axis) :
    t.updAx n g = { s with regs := (t.updAx n g).regs, strms := (t.updAx n g).strms, axes := (t.updAx n g).axes } ∧
      (t.updAx n g).axes = updAt n g s.axes := by
  rw [h]
  exact ⟨rfl, rfl⟩

theorem State.stallTold_frame (s : State) (n : Nat) :
    s.stallTold n = { s with
      regs := (s.stallTold n).regs, strms := (s.stallTold n).strms, axes := (s.stallTold n).axes } ∧
      (s.stallTold n).axes = updAt n (fun a => { a with stallRun := 0 }) s.axes :=
  State.updAx_frame (State.wktEvent_frame (s.stallShown_frame n) _ _ _ _) n _

/-- The fields of an axis read after a stall as it has shown them. -/
theorem State.stallTold_getF (s : State) {n : Nat} {f : Fld} (hf : UnitReg f.addr) :
    (s.stallTold n).getF f = (s.stallShown n).getF f := by
  rw [State.stallTold, State.updAx_getF, (State.wktEvent_sameUnits _ _ _ _ _).getF hf]

theorem State.stallShown_onlyFields (s : State) (n : Nat) : OnlyFields s (s.stallShown n) [F.WKT_AXn_FAULT_STALL n,
    F.WKT_STAT_FAULT_SEEN, F.WKT_STAT_STALL_SEEN, F.WKT_AXn_CNT_STALLS n, F.WKT_AXn_STAT_HOMED n] :=
  ((((OnlyFields.setF s _ _ (by simp)).snoc _ _ (by simp)).snoc _ _ (by simp)).snoc _ _ (by simp)).snoc _ _ (by simp)

theorem State.stallShown_homed (s : State) (n : Nat) : (s.stallShown n).getF (F.WKT_AXn_STAT_HOMED n) = 0 :=
  State.getF_setF_same _ _ _ (by simp)

theorem State.stallShown_stall (s : State) (n : Nat) : (s.stallShown n).getF (F.WKT_AXn_FAULT_STALL n) = 1 := by
  unfold State.stallShown State.incF State.setBit
  rw [State.getF_setF_other _ _ _ _ (axisReg_ne (by decide) n), State.getF_setF_other _ _ _ _ (axisReg_ne (by decide) n),
    State.getF_setF_other _ _ _ _ (axisReg_ne_common (by decide) n),
    State.getF_setF_other _ _ _ _ (axisReg_ne_common (by decide) n), State.getF_setF_same _ _ _ (by simp)]
  rfl

/-- A field raised by one, no further than its largest value. -/
theorem State.getF_incF_same (s : State) (f : Fld) (n : Nat) (h : f.lo + f.width ≤ 32) :
    (s.incF f n).getF f = min (s.getF f + n) (2 ^ f.width - 1) := by
  rw [State.incF, State.getF_setF_same _ _ _ h]
  exact Nat.mod_eq_of_lt (Nat.lt_of_le_of_lt (Nat.min_le_right _ _) (Nat.sub_lt (Nat.two_pow_pos _) (by decide)))

theorem State.stallShown_count (s : State) (n : Nat) : (s.stallShown n).getF (F.WKT_AXn_CNT_STALLS n) =
    min (s.getF (F.WKT_AXn_CNT_STALLS n) + 1) (2 ^ (F.WKT_AXn_CNT_STALLS n).width - 1) := by
  unfold State.stallShown State.setBit
  rw [State.getF_setF_other _ _ _ _ (axisReg_ne (by decide) n), State.getF_incF_same _ _ _ (by simp),
    State.getF_setF_other _ _ _ _ (axisReg_ne_common (by decide) n),
    State.getF_setF_other _ _ _ _ (axisReg_ne_common (by decide) n),
    State.getF_setF_other _ _ _ _ (axisReg_ne (by decide) n)]

/-- A stall that does not stop the axis leaves its state. -/
theorem State.stallShown_axState (s : State) (n : Nat) : (s.stallShown n).axState n = s.axState n := by
  refine s.stallShown_onlyFields n _ fun f hf => ?_
  simp only [List.mem_cons, List.not_mem_nil, or_false] at hf
  rcases hf with rfl | rfl | rfl | rfl | rfl
  · exact .inl (axisReg_ne (by decide) n)
  · exact .inl (axisReg_ne_common (by decide) n)
  · exact .inl (axisReg_ne_common (by decide) n)
  · exact .inl (axisReg_ne (by decide) n)
  · exact .inr (.inl (by simp))

/-- Settles O41: each fault is the axis's one fault operation; a stall is what it shows, and its end where it stops the
axis. -/
theorem axisFaults : Obligations.AxisFaults := by
  unfold Obligations.AxisFaults
  intro n vm s hw hu
  have hn := State.lt_four_of_wktOn hw
  refine ⟨fun i hi => ⟨?_, ?_⟩, fun b i hi => ?_, fun v hv => ⟨fun hg => ?_, fun hg => ?_⟩, fun b v hv => ?_,
    fun b hb hc => ⟨?_, fun w hwind hz hon hneg hmax hread => ?_⟩, ?_, fun bits => s.axFault_spec hn bits vm, fun h => ?_, fun h => ?_,
    fun h => ?_, fun h => ?_, fun h => ?_, fun hm hh => ⟨exec_wktStall_unseen, fun hseen hstop => ?_, fun hseen hstop => ?_⟩⟩
  · exact congrArg Host.Outcome.next (if_pos ⟨hw, hu, hi⟩)
  · exact congrArg Host.Outcome.next (if_pos ⟨hw, hu, hi⟩)
  · exact congrArg Host.Outcome.next (if_neg fun h => absurd h.2.2 (by omega))
  · exact congrArg Host.Outcome.next (if_pos ⟨hw, hu, hg, hv⟩)
  · exact congrArg Host.Outcome.next (if_pos ⟨hw, hu, hg, hv⟩)
  · refine congrArg Host.Outcome.next (if_neg fun ⟨_, _, hg, hlt⟩ => ?_)
    rcases hv with h | h
    · omega
    · exact absurd (h.symm.trans hg) (by decide)
  · by_cases hoc : s.axOc n < (s.windCurrent n b).natAbs
    · exact ⟨s, by rw [if_pos hoc, State.windTick_of_oc hc hoc]; rfl⟩
    · exact ⟨s.windTick n b, (if_neg hoc).symm⟩
  · by_cases hoc : s.axOc n < (s.windCurrent n b).natAbs
    · exact ⟨s, rfl, by rw [if_pos hoc, State.windTick_of_oc hc hoc]; rfl⟩
    · obtain ⟨w', hw'⟩ := State.windTick_of_tonMax hc hoc hwind hz hon hneg hmax hread
      exact ⟨s.putWind n b w', rfl, hw'.trans (if_neg hoc).symm⟩
  · rintro c bits (⟨heq, h⟩ | ⟨heq, h⟩ | ⟨heq, h⟩) <;> cases heq <;>
      exact congrArg Host.Outcome.next (if_pos ⟨hw, hu, h⟩)
  · exact congrArg Host.Outcome.next (if_neg fun hlt => absurd hlt.2.2 (by omega))
  · exact congrArg Host.Outcome.next (if_neg fun hlt => absurd hlt.2.2 (by omega))
  · exact congrArg Host.Outcome.next (if_neg fun hlt => absurd hlt.2.2 (by omega))
  · obtain ⟨t, ht, hspec⟩ := s.vmHighNow_spec n vm 1 (by decide)
    exact ⟨t, congrArg Host.Outcome.next ((if_pos ⟨hw, hu, h⟩).trans ht), hspec⟩
  · obtain ⟨t, ht, hspec⟩ := s.vmHighNow_spec n vm 0 (by decide)
    exact ⟨t, congrArg Host.Outcome.next ((if_pos ⟨hw, h⟩).trans ht), hspec⟩
  · refine ⟨s.stallTold n, ?_, ?_, ?_, ?_, ?_, ?_, (s.stallTold_frame n).1⟩
    · rw [exec_wktStall_moving hw hm hh hseen, hstop, if_neg Bool.false_ne_true]
    · rw [s.stallTold_getF (unitReg_axis (c := 8) hn (by decide)), s.stallShown_stall]
    · rw [s.stallTold_getF (unitReg_axis (c := 0) hn (by decide)), s.stallShown_homed]
    · rw [State.axState, s.stallTold_getF (unitReg_axis (c := 0) hn (by decide))]
      exact (s.stallShown_axState n).trans hm
    · rw [s.stallTold_getF (unitReg_axis (c := 0x3C) hn (by decide)), s.stallShown_count]
    · exact (s.stallTold_frame n).2
  · rw [exec_wktStall_moving hw hm hh hseen, if_pos hstop]
    rfl

end Sys2Proof.Machine
end

section
/-! SUPPORT. GZB_FAULT through a new stop, and what the self-test latches and clears there. -/
namespace Sys2Proof.Machine

/-! ### GZB_FAULT through a cause -/

/-- The register of the self-test's faults. -/
abbrev IsFaultReg (a : Nat) : Prop := a = R.GZB_FAULT

theorem not_isFaultReg_of_lt {a : Nat} (h : R.GZB_FAULT < a) : ¬ IsFaultReg a := Nat.ne_of_gt h

/-- What leaves the registers of the units leaves GZB_FAULT. -/
theorem SameOn.fault {s t : State} (h : SameOn UnitReg s t) : SameOn IsFaultReg s t :=
  h.mono fun a ha => by
    rw [ha]
    exact ⟨by decide, by decide, by decide⟩

theorem SameOn.updAx {P : Nat → Prop} (s : State) (n : Nat) (g : Axis → Axis) : SameOn P s (s.updAx n g) :=
  SameOn.of_regs rfl

/-- What a stop changes besides registers. -/
theorem SameOn.withStop {P : Nat → Prop} (s : State) (g : Gzb) (p : Pads) (w : Power) :
    SameOn P s { s with gzb := g, pads := p, power := w } := SameOn.of_regs rfl

theorem State.gzbEvent_sameUnits (s : State) (kind info value member : Nat) :
    SameOn UnitReg s (s.gzbEvent kind info value member) :=
  (s.observe_sameUnits _ _).trans (State.observe_sameUnits _ _ _)

theorem State.setMask_sameFault (s : State) {f : Fld} (h : ¬ IsFaultReg f.addr) (n : Nat) (b : Bool) :
    SameOn IsFaultReg s (s.setMask f n b) := by
  unfold State.setMask
  split_ifs <;> exact SameOn.setF h _

theorem State.setAx_sameFault (s : State) (n st : Nat) : SameOn IsFaultReg s (s.setAx n st) := by
  unfold State.setAx
  split_ifs
  · exact SameOn.refl s
  · refine SameOn.trans ?_ (State.wktEvent_sameUnits _ _ _ _ _).fault
    exact (((SameOn.setF (not_isFaultReg_of_lt (Nat.lt_add_right _ (by decide))) _).trans
      (State.setMask_sameFault _ (by decide) _ _)).trans (State.setMask_sameFault _ (by decide) _ _)).trans
      (State.setMask_sameFault _ (by decide) _ _)

theorem State.dropPend_sameFault (s : State) (n st : Nat) : SameOn IsFaultReg s (s.dropPend n st) := by
  unfold State.dropPend
  split <;> exact SameOn.of_regs rfl

theorem State.axStop_sameFault (s : State) (n : Nat) : SameOn IsFaultReg s (s.axStop n) := by
  unfold State.axStop
  simp only
  split_ifs
  · refine SameOn.trans (SameOn.trans (s.dropPend_sameFault n 0x84) ?_) (State.setAx_sameFault _ _ _)
    exact (SameOn.setF (not_isFaultReg_of_lt (Nat.lt_add_right _ (by decide))) _).trans
      (SameOn.updAx _ n _)
  · exact s.dropPend_sameFault n _
  · exact SameOn.refl s

theorem State.wktStop_sameFault (s : State) : SameOn IsFaultReg s s.wktStop := by
  unfold State.wktStop
  split_ifs
  · exact SameOn.foldl (fun n _ t => t.axStop_sameFault n) s
  · exact SameOn.refl s

theorem State.pglFreeze_sameFault (s : State) : SameOn IsFaultReg s s.pglFreeze := by
  unfold State.pglFreeze
  simp only
  split_ifs
  · exact SameOn.refl s
  · refine SameOn.trans (SameOn.trans ?_ (SameOn.of_regs rfl)) ((SameOn.setF (by decide) _).trans (SameOn.setF (by decide) _))
    refine SameOn.foldl (fun r _ t => ?_) s
    split <;> exact SameOn.of_regs rfl

theorem State.stopWords_sameFault (s : State) : SameOn IsFaultReg s s.stopWords := by
  unfold State.stopWords
  split
  · exact (SameOn.setF (by decide) _).trans (SameOn.of_regs rfl)
  · exact SameOn.setF (by decide) _

theorem State.startTrain_sameFault (s : State) (initial : Bool) : SameOn IsFaultReg s (s.startTrain initial) := by
  unfold State.startTrain
  split
  · exact SameOn.refl s
  · exact SameOn.trans (SameOn.setF (f := F.GZB_STAT_KEYING) (by decide) 1) (SameOn.of_regs rfl)

theorem State.irq_sameFault (s : State) (b : Nat) : SameOn IsFaultReg s (s.irq b) :=
  (SameOn.setF (f := ⟨0x200, b, 1⟩) (show 0x200 ≠ R.GZB_FAULT by decide) 1).trans
    (SameOn.setF (f := ⟨0x208, b, 1⟩) (show 0x208 ≠ R.GZB_FAULT by decide) 1)

theorem State.endTest_sameFault (s : State) (st : Nat) : SameOn IsFaultReg s (s.endTest st) := by
  unfold State.endTest
  split
  · exact SameOn.refl s
  next t _ =>
    have hdone : SameOn IsFaultReg s ((s.finish t.wid st (s.testResult t)).setF F.TEST_STAT_DONE_SEEN 1) :=
      (SameOn.of_regs rfl).trans (SameOn.setF (by decide) 1)
    simp only
    split_ifs
    · exact (hdone.trans (SameOn.of_regs rfl)).trans (SameOn.setF (by decide) 1)
    · exact hdone.trans (SameOn.of_regs rfl)

/-- The registers that show a new stop. -/
def State.stopShown (s : State) (bit : Nat) : State :=
  (((((s.setF F.GZB_STAT_STATE Gz.STOPPED).setF F.GZB_STAT_CH_A_RUN 0).setF F.GZB_STAT_CH_B_RUN 0).setF
    F.GZB_STAT_STOP_CNT (nextCnt (s.getF F.GZB_STAT_STOP_CNT))).setF F.GZB_CAUSE_FIRST bit).setF F.GZB_CAUSE_CAUSE
      (2 ^ bit ||| s.getF F.GZB_CAUSE_NOW_LEVEL)

theorem State.stopShown_sameFault (s : State) (bit : Nat) : SameOn IsFaultReg s (s.stopShown bit) :=
  (((((SameOn.setF (by decide) _).trans (SameOn.setF (by decide) _)).trans (SameOn.setF (by decide) _)).trans
    (SameOn.setF (by decide) _)).trans (SameOn.setF (by decide) _)).trans (SameOn.setF (by decide) _)

theorem State.newStop_sameFault (s : State) (bit member : Nat) : SameOn IsFaultReg s (s.newStop bit member) := by
  unfold State.newStop
  refine SameOn.trans ?_ (State.raiseTask_sameUnits _ 0).fault
  refine SameOn.trans ?_ (State.endTest_sameFault _ _)
  refine SameOn.trans ?_ (State.gzbEvent_sameUnits _ _ _ _ _).fault
  refine SameOn.trans ?_ (State.irq_sameFault _ _)
  refine SameOn.trans ?_ (State.vbTrigger_sameUnits_of_own _ _ _
    (fun k hk => State.snap_bank_lt (Option.some.inj hk)) _).fault
  refine SameOn.trans ?_ (State.snap_sameUnits _ _).fault
  refine SameOn.trans ?_ (State.pglFreeze_sameFault _)
  refine SameOn.trans ?_ (State.wktStop_sameFault _)
  refine SameOn.trans ?_ (State.startTrain_sameFault _ _)
  refine SameOn.trans ?_ (State.stopWords_sameFault _)
  exact (s.stopShown_sameFault bit).trans (SameOn.withStop _ _ _ _)

theorem State.addCause_sameFault (s : State) (bit : Nat) : SameOn IsFaultReg s (s.addCause bit) := by
  unfold State.addCause
  split_ifs
  · exact SameOn.refl s
  · refine SameOn.trans (SameOn.trans ?_ (State.gzbEvent_sameUnits _ _ _ _ _).fault) (State.vbTrigger_sameUnits _ _ _ _).fault
    exact SameOn.setF (by decide) _

/-- A cause raised, be it a new stop or not, leaves GZB_FAULT. -/
theorem State.raiseCause_sameFault (s : State) (bit member : Nat) : SameOn IsFaultReg s (s.raiseCause bit member) := by
  have hcount : SameOn IsFaultReg s
      (if bit < 3 then s else { s with gzb := { s.gzb with causes := s.gzb.causes + 1 } }) := by
    split_ifs <;> exact SameOn.of_regs rfl
  refine hcount.trans ?_
  unfold State.raiseCause
  simp only
  generalize (if bit < 3 then s else { s with gzb := { s.gzb with causes := s.gzb.causes + 1 } }) = u
  split_ifs
  · exact u.newStop_sameFault bit member
  · exact u.addCause_sameFault bit

/-! ### A fault latched -/

/-- GZB_FAULT's bits. -/
abbrev faultFld : Fld := ⟨R.GZB_FAULT, 0, 16⟩

/-- A bit of a field reads 1 once set. -/
theorem State.bit_setBit_same (s : State) {f : Fld} {i : Nat} (h : f.lo + f.width ≤ 32) (hi : i < f.width) :
    (s.setBit f i).bit f i = true := by
  rw [State.bit, State.setBit, State.getF_setF_same _ _ _ h, Nat.testBit_mod_two_pow, Nat.testBit_or,
    Nat.testBit_two_pow_self, Bool.or_true, decide_eq_true hi, Bool.true_and]

theorem SameOn.faultBit {s t : State} (h : SameOn IsFaultReg s t) (b : Nat) : t.bit faultFld b = s.bit faultFld b := by
  rw [State.bit, State.bit, h.getF rfl]

theorem State.gzbFault_bit (s : State) {b : Nat} (hb : b < 16) : (s.gzbFault b).bit faultFld b = true := by
  unfold State.gzbFault
  simp only
  rw [(State.raiseCause_sameFault _ _ _).faultBit]
  split
  next h => exact h
  next =>
    rw [(State.vbTrigger_sameUnits _ _ _ _).fault.faultBit]
    split
    · rw [(State.gzbEvent_sameUnits _ _ _ _ _).fault.faultBit]
      exact s.bit_setBit_same (by decide) hb
    · exact s.bit_setBit_same (f := faultFld) (by decide) hb

/-! ### Samples that agree -/

/-- A comparator that agrees with its sample. -/
def State.Agrees (s : State) (i : Nat) (v : Int) : Prop :=
  (s.flag (gzInput i) = true → 500 < v) ∧ (s.flag (gzInput i) = false → v < 1500)

theorem State.monitor_of_agrees {s : State} {i : Nat} {v : Int} (h : s.Agrees i v) :
    s.monitor i v = s.updTest i (fun t => { t with mismatch := 0, mmOpen := 0 }) := by
  obtain ⟨hclosed, hopen⟩ := h
  unfold State.monitor
  cases hf : s.flag (gzInput i)
  · have := hopen hf
    simp [show ¬ 1500 ≤ v by omega]
  · have := hclosed hf
    simp [show ¬ v ≤ 500 by omega]

/-- What a comparator reads stands in the registers. -/
theorem State.Agrees.of_flag {s t : State} {i : Nat} {v : Int} (h : s.Agrees i v)
    (hf : t.flag (gzInput i) = s.flag (gzInput i)) : t.Agrees i v := by
  rwa [State.Agrees, hf]

theorem State.faultEvents_of_none {s : State} (h : s.gzb.faultDue = []) :
    s.faultEvents = s.updGzb (fun g => { g with faultDue := [] }) := by
  rw [State.faultEvents, h]
  rfl

/-- The samples shown. -/
def State.sampled (s : State) (a b : Int) : State := (s.setI F.GZB_LOOP_V_IN_A a).setI F.GZB_LOOP_V_IN_B b

theorem State.sampled_onlyFields (s : State) (a b : Int) :
    OnlyFields s (s.sampled a b) [F.GZB_LOOP_V_IN_A, F.GZB_LOOP_V_IN_B] :=
  (OnlyFields.setF s _ _ (by decide)).snoc _ _ (by decide)

theorem State.sampled_flag (s : State) (a b : Int) (i : Nat) : (s.sampled a b).flag (gzInput i) = s.flag (gzInput i) := by
  have hne : (gzInput i).addr ≠ R.GZB_LOOP_V := show R.GZB_STAT ≠ R.GZB_LOOP_V by decide
  unfold State.flag State.sampled State.setI
  rw [State.getF_setF_other _ _ _ _ hne, State.getF_setF_other _ _ _ _ hne]

/-- An integer shown in a field. -/
theorem State.getF_setI_same (s : State) {f : Fld} (h : f.lo + f.width ≤ 32) (v : Int) :
    (s.setI f v).getF f = (v % 2 ^ f.width).toNat := by
  rw [State.setI, State.getF_setF_same _ _ _ h]
  refine Nat.mod_eq_of_lt ((Int.toNat_lt' (Nat.two_pow_pos _)).2 ?_)
  exact_mod_cast Int.emod_lt_of_pos v (by positivity)

theorem State.sampled_inA (s : State) (a b : Int) :
    (s.sampled a b).getF F.GZB_LOOP_V_IN_A = (a % 65536).toNat := by
  have hB := (OnlyFields.setF (s.setI F.GZB_LOOP_V_IN_A a) F.GZB_LOOP_V_IN_B (b % 2 ^ 16).toNat (by decide)).getF
    (g := F.GZB_LOOP_V_IN_A) (by decide)
  exact hB.trans (State.getF_setI_same s (by decide) a)

theorem State.sampled_inB (s : State) (a b : Int) :
    (s.sampled a b).getF F.GZB_LOOP_V_IN_B = (b % 65536).toNat := State.getF_setI_same _ (by decide) b

/-- The self-test after samples that agree: no mismatch counted, no fault. -/
def State.agreed (s : State) (a b : Int) : State :=
  ((((s.padsRight 0 a).padsRight 1 b).updTest 0 (fun t => { t with mismatch := 0, mmOpen := 0 })).updTest 1
    (fun t => { t with mismatch := 0, mmOpen := 0 })).updGzb (fun g => { g with faultDue := [] })

theorem State.agreed_eq {s : State} {a b : Int} (ha : s.Agrees 0 a) (hb : s.Agrees 1 b) (hdue : s.gzb.faultDue = []) :
    ((((s.padsRight 0 a).padsRight 1 b).monitor 0 a).monitor 1 b).faultEvents = s.agreed a b := by
  have h0 : ((s.padsRight 0 a).padsRight 1 b).Agrees 0 a := ha
  have h1 : (((s.padsRight 0 a).padsRight 1 b).updTest 0 fun t => { t with mismatch := 0, mmOpen := 0 }).Agrees 1 b := hb
  rw [State.monitor_of_agrees h0, State.monitor_of_agrees h1]
  exact State.faultEvents_of_none hdue

theorem State.agreed_regs (s : State) (a b : Int) : (s.agreed a b).regs = s.regs := by
  simp only [State.agreed, State.padsRight, State.updTest, State.updGzb_regs]

theorem State.agreed_mismatch (s : State) (a b : Int) :
    ((s.agreed a b).gzb.test 0).mismatch = 0 ∧ ((s.agreed a b).gzb.test 1).mismatch = 0 := ⟨rfl, rfl⟩

theorem State.agreed_frame {s t : State} (h : t = { s with regs := t.regs }) (a b : Int) :
    t.agreed a b = { s with regs := (t.agreed a b).regs, gzb := (t.agreed a b).gzb } := by
  rw [h]
  rfl

theorem exec_monitorSample {s : State} (h : s.gzOn = true) (a b : Int) : exec (.monitorSample a b) s =
    .next ((((((s.sampled a b).padsRight 0 a).padsRight 1 b).monitor 0 a).monitor 1 b).faultEvents) :=
  congrArg Host.Outcome.next (if_pos h)

theorem State.sampled_frame (s : State) (a b : Int) : s.sampled a b = { s with regs := (s.sampled a b).regs } :=
  State.setF_frame (State.setF_frame rfl _ _) _ _

theorem State.sampled_faultDue (s : State) (a b : Int) : (s.sampled a b).gzb.faultDue = s.gzb.faultDue := by
  rw [s.sampled_frame]

/-- Samples that agree with both comparators. -/
theorem monitorSample_of_agrees {s : State} {a b : Int} (h : s.gzOn = true) (ha : s.Agrees 0 a) (hb : s.Agrees 1 b)
    (hdue : s.gzb.faultDue = []) : ∃ t, exec (.monitorSample a b) s = .next t ∧
      t.getF F.GZB_LOOP_V_IN_A = (a % 65536).toNat ∧ t.getF F.GZB_LOOP_V_IN_B = (b % 65536).toNat ∧
      (t.gzb.test 0).mismatch = 0 ∧ (t.gzb.test 1).mismatch = 0 ∧
      OnlyFields s t [F.GZB_LOOP_V_IN_A, F.GZB_LOOP_V_IN_B] ∧ t = { s with regs := t.regs, gzb := t.gzb } := by
  have honly : OnlyFields (s.sampled a b) ((s.sampled a b).agreed a b) [] := OnlyFields.of_regs (State.agreed_regs _ _ _) _
  obtain ⟨h0, h1⟩ := (s.sampled a b).agreed_mismatch a b
  refine ⟨(s.sampled a b).agreed a b, ?_, ?_, ?_, h0, h1, (s.sampled_onlyFields a b).trans honly,
    State.agreed_frame (s.sampled_frame a b) a b⟩
  · rw [exec_monitorSample h, State.agreed_eq (ha.of_flag (s.sampled_flag a b 0)) (hb.of_flag (s.sampled_flag a b 1))
      ((s.sampled_faultDue a b).trans hdue)]
  · rw [honly.getF rfl, s.sampled_inA]
  · rw [honly.getF rfl, s.sampled_inB]

/-! ### The RF self-test -/

/-- The RF self-test passes: enough power, near enough to the wake channel. -/
def State.rfOk (s : State) (power off : Int) : Bool := s.rfLimit ≤ power ∧ -200 ≤ off ∧ off ≤ 200

theorem exec_rfSelfTest {s : State} (h : s.gzOn = true) (ht : s.gzb.train = none) (hp : s.rfPhase = true) (power off : Int) :
    exec (.rfSelfTest power off) s = .next (if s.gzb.rfResults.head? = some false ∧ s.rfOk power off = false then
      State.gzbFault { s with gzb := { s.gzb with rfResults := [false] } } 11
      else { s with gzb := { s.gzb with rfResults := [s.rfOk power off] } }) := by
  change execRfSelfTest power off s = _
  rw [execRfSelfTest, if_pos ⟨h, by rw [ht]; rfl, hp⟩]
  change Host.Outcome.next (if s.gzb.rfResults.head? = some false ∧ s.rfOk power off = false then
    (s.updGzb fun g => { g with rfResults := [s.rfOk power off] }).gzbFault 11
    else s.updGzb fun g => { g with rfResults := [s.rfOk power off] }) = _
  split_ifs with hfail
  · rw [hfail.2]
    rfl
  · rfl

/-! ### A W1C write -/

/-- A number with a bit that it has taken off. -/
theorem testBit_sub_two_pow {x i : Nat} (h : x.testBit i = true) (j : Nat) :
    (x - 2 ^ i).testBit j = (x.testBit j && decide (j ≠ i)) := by
  have hput : x - 2 ^ i = putBits x i 1 0 := by
    have hbit : x / 2 ^ i % 2 = 1 := by simpa [Nat.testBit_eq_decide_div_mod_eq] using h
    have hdiv : x / 2 ^ (i + 1) = x / 2 ^ i / 2 := by rw [Nat.pow_succ, Nat.div_div_eq_div_mul]
    have hx := Nat.div_add_mod x (2 ^ i)
    unfold putBits
    rw [hdiv, Nat.zero_mod, Nat.zero_mul, show 2 ^ (i + 1) = 2 ^ i * 2 from Nat.pow_succ ..]
    generalize 2 ^ i = p at *
    have hq : x / p = 2 * (x / p / 2) + 1 := by omega
    generalize x / p / 2 = q at *
    rw [hq] at hx
    have hexp : p * (2 * q + 1) = q * (p * 2) + p := by ring
    omega
  by_cases hj : j = i
  · subst hj
    have hsame := bitsOf_testBit (putBits x j 1 0) j 1 0
    rw [bitsOf_putBits_same] at hsame
    rw [hput]
    simpa using hsame.symm
  · rw [hput, putBits_testBit_other x i 1 0 j (by omega), decide_eq_true hj, Bool.and_true]

/-- A bit of a field cleared, the others kept. -/
theorem State.bit_clrBit (s : State) {f : Fld} (h : f.lo + f.width ≤ 32) (i j : Nat) :
    (s.clrBit f i).bit f j = (s.bit f j && decide (j ≠ i)) := by
  have hlt : s.getF f < 2 ^ f.width := Nat.mod_lt _ (Nat.two_pow_pos _)
  unfold State.bit State.clrBit
  rw [State.getF_setF_same _ _ _ h]
  split_ifs with hi
  · rw [Nat.mod_eq_of_lt (Nat.lt_of_le_of_lt (Nat.sub_le _ _) hlt), testBit_sub_two_pow hi]
  · rw [Nat.mod_eq_of_lt hlt]
    by_cases hj : j = i
    · subst hj
      simp [hi]
    · simp [hj]

/-- The bit of one fault cleared, where the write names it and its condition is over by `o`; a clear of TP_SHORT or
REVERSED ends that condition. -/
def State.faultClearBit (o : State) (mask absent : Nat) (t : State) (b : Nat) : State :=
  if mask.testBit b ∧ ¬ o.faultHolds b absent then
    let t1 := t.clrBit faultFld b
    if b < 2 then t1.updTest b (fun x => { x with tpLimit := false })
    else if b = 5 ∨ b = 6 then t1.updTest (b - 5) (fun x => { x with reversed := false }) else t1
  else t

theorem State.gzbFaultClear_eq (s : State) (mask absent : Nat) :
    s.gzbFaultClear mask absent = (List.range 16).foldl (s.faultClearBit mask absent) s := rfl

/-- A bit cleared is one write of GZB_FAULT besides the self-test's own state. -/
theorem State.faultClearBit_cases (o : State) (mask absent : Nat) (t : State) (b : Nat) :
    (mask.testBit b && !o.faultHolds b absent) = true ∧
        (∃ g, o.faultClearBit mask absent t b = { t.clrBit faultFld b with gzb := g }) ∨
      (mask.testBit b && !o.faultHolds b absent) = false ∧ o.faultClearBit mask absent t b = t := by
  unfold State.faultClearBit
  by_cases h : mask.testBit b ∧ ¬ o.faultHolds b absent
  · refine .inl ⟨by simpa using h, ?_⟩
    rw [if_pos h]
    simp only
    split_ifs
    · exact ⟨_, rfl⟩
    · exact ⟨_, rfl⟩
    · exact ⟨(t.clrBit faultFld b).gzb, rfl⟩
  · exact .inr ⟨by simpa using h, if_neg h⟩

theorem State.faultClearBit_bit (o : State) (mask absent : Nat) (t : State) (b j : Nat) :
    (o.faultClearBit mask absent t b).bit faultFld j =
      (t.bit faultFld j && !(decide (j = b) && (mask.testBit b && !o.faultHolds b absent))) := by
  rcases o.faultClearBit_cases mask absent t b with ⟨h, g, ht⟩ | ⟨h, ht⟩
  · have hbit : (o.faultClearBit mask absent t b).bit faultFld j = (t.clrBit faultFld b).bit faultFld j := by
      rw [ht]
      rfl
    rw [hbit, State.bit_clrBit _ (by decide), h, Bool.and_true, decide_not]
  · rw [ht, h, Bool.and_false, Bool.not_false, Bool.and_true]

theorem State.foldl_faultClearBit_bit (o : State) (mask absent j : Nat) (bs : List Nat) (t : State) :
    (bs.foldl (o.faultClearBit mask absent) t).bit faultFld j =
      (t.bit faultFld j && !(decide (j ∈ bs) && (mask.testBit j && !o.faultHolds j absent))) := by
  induction bs generalizing t with
  | nil => simp
  | cons b bs ih =>
    rw [List.foldl_cons, ih, State.faultClearBit_bit]
    by_cases hj : j = b
    · subst hj
      cases t.bit faultFld j <;> cases mask.testBit j && !o.faultHolds j absent <;> simp
    · simp [hj]

theorem State.foldl_faultClearBit_frame (o : State) (mask absent : Nat) (bs : List Nat) (t : State) :
    OnlyFields t (bs.foldl (o.faultClearBit mask absent) t) [faultFld] ∧
      bs.foldl (o.faultClearBit mask absent) t = { t with
        regs := (bs.foldl (o.faultClearBit mask absent) t).regs
        gzb := (bs.foldl (o.faultClearBit mask absent) t).gzb } := by
  induction bs generalizing t with
  | nil => exact ⟨OnlyFields.refl _ _, rfl⟩
  | cons b bs ih =>
    rw [List.foldl_cons]
    obtain ⟨honly, hframe⟩ := ih (o.faultClearBit mask absent t b)
    rcases o.faultClearBit_cases mask absent t b with ⟨-, g, ht⟩ | ⟨-, ht⟩
    · have hclr : OnlyFields t (o.faultClearBit mask absent t b) [faultFld] := by
        rw [ht]
        exact OnlyFields.setF t faultFld _ (by decide)
      refine ⟨(hclr.trans honly).mono (by simp), ?_⟩
      rw [hframe, ht]
      rfl
    · rw [ht] at honly hframe ⊢
      exact ⟨honly, hframe⟩

/-- A W1C write clears the bits that it names and whose condition is over, and those alone. -/
theorem State.gzbFaultClear_spec (s : State) (mask absent : Nat) :
    (∀ b, b < 16 → (s.gzbFaultClear mask absent).bit faultFld b =
      (s.bit faultFld b && !(mask.testBit b && !s.faultHolds b absent))) ∧
      OnlyFields s (s.gzbFaultClear mask absent) [faultFld] ∧ s.gzbFaultClear mask absent = { s with
        regs := (s.gzbFaultClear mask absent).regs, gzb := (s.gzbFaultClear mask absent).gzb } := by
  rw [State.gzbFaultClear_eq]
  refine ⟨fun b hb => ?_, s.foldl_faultClearBit_frame mask absent _ s⟩
  rw [State.foldl_faultClearBit_bit, decide_eq_true (List.mem_range.2 hb), Bool.true_and]

theorem exec_gzbFaultClear {s : State} {m : Master} (h : s.wrAcc m R.GZB_FAULT = .ok) (mask : Word) (absent : Nat) :
    exec (.gzbFaultClear m mask absent) s = .next (s.gzbFaultClear mask.toNat absent) :=
  congrArg Host.Outcome.next (State.guardW_ok_eq h _ _)

/-- Settles O43: each detection is the one fault operation, which latches its bit whatever the cause it raises does; the
clear goes bit by bit. -/
theorem selfTestFaults : Obligations.SelfTestFaults := by
  unfold Obligations.SelfTestFaults
  intro s hon
  refine ⟨fun i hi => ⟨?_, ?_⟩, ?_, fun f hf => ?_, fun hf => ?_, fun bit hb => s.gzbFault_bit hb,
    fun a b ha1 ha2 hb1 hb2 hdue => ?_, fun power off ht hp => ⟨fun h1 h2 h3 => ?_, fun hfail hlast => ?_,
    fun hfail hlast => ?_⟩, fun power off h => ?_, fun k hk hu hr => ⟨?_, ?_⟩, fun m mask absent hacc => ?_⟩
  · exact congrArg Host.Outcome.next (if_pos ⟨hon, hi⟩)
  · exact congrArg Host.Outcome.next (if_pos ⟨hon, hi⟩)
  · exact congrArg Host.Outcome.next (if_pos hon)
  · change execDiscrepancyDetect s = _
    rw [execDiscrepancyDetect, hf, Option.any_some]
    by_cases hs : s.since f 500000 = true
    · rw [if_pos hs, if_pos ⟨hon, hs⟩]
    · rw [if_neg hs, if_neg fun h => hs h.2]
  · exact congrArg Host.Outcome.next (if_neg fun h => by simp [hf] at h)
  · exact monitorSample_of_agrees hon ⟨ha1, ha2⟩ ⟨hb1, hb2⟩ hdue
  · have hok : s.rfOk power off = true := decide_eq_true ⟨h1, h2, h3⟩
    rw [exec_rfSelfTest hon ht hp, hok, if_neg (by simp)]
  · have hok : s.rfOk power off = false := decide_eq_false fun ⟨h1, h2, h3⟩ => by omega
    rw [exec_rfSelfTest hon ht hp, hok, if_pos ⟨hlast, rfl⟩]
  · have hok : s.rfOk power off = false := decide_eq_false fun ⟨h1, h2, h3⟩ => by omega
    rw [exec_rfSelfTest hon ht hp, hok, if_neg fun h => hlast h.1]
  · refine congrArg Host.Outcome.next (if_neg fun ⟨_, hnone, hphase⟩ => ?_)
    rcases h with h | h
    · simp [Option.isNone_iff_eq_none.1 hnone] at h
    · exact absurd (h.symm.trans hphase) (by decide)
  · exact congrArg Host.Outcome.next (if_pos ⟨hon, hk, hu, hr⟩)
  · change execCoilOpenDetect k s = _
    rw [execCoilOpenDetect]
    by_cases hs : s.since s.gzb.relFrc 20000 = true
    · rw [if_pos hs, if_pos ⟨hon, hk, hu, hr, hs⟩]
    · rw [if_neg hs, if_neg fun h => hs h.2.2.2.2]
  · exact ⟨_, exec_gzbFaultClear hacc mask absent, s.gzbFaultClear_spec mask.toNat absent⟩

end Sys2Proof.Machine
end

section
/-! SUPPORT. The Isben link: what becomes of a packet, and its pads. -/
namespace Sys2Proof.Machine

/-! ### A packet -/

/-- A packet counted changes besides registers what a packet taken does. -/
theorem State.counted_frame {s t : State} (h : t = { s with regs := t.regs }) (u : Upd) (v : Svc) :
    { t with svc := v, upd := u } = { s with regs := t.regs, svc := v, upd := u } := by
  rw [h]

theorem linkTook_frame (s : State) : linkTook s = { s with
    regs := (s.incF F.SVC_CNT_RX_OK).regs, upd := (linkTook s).upd, svc := { s.svc with rateProven := true } } :=
  State.counted_frame (t := s.incF F.SVC_CNT_RX_OK) (State.setF_frame rfl _ _) _ _

theorem linkTook_onlyFields (s : State) : OnlyFields s (linkTook s) [F.SVC_CNT_RX_OK] := by
  have h : OnlyFields (s.incF F.SVC_CNT_RX_OK) (linkTook s) [] := OnlyFields.of_regs (by rw [linkTook_frame]) _
  exact (OnlyFields.setF s F.SVC_CNT_RX_OK _ (by decide)).trans h

/-- A packet that reaches its command runs it. -/
theorem State.svcPacket_of_takes {s : State} {seq : Nat} (h : LinkTakes s seq) (cmd : Nat) (k : State → State) :
    s.svcPacket cmd seq k = k (linkTook s) := by
  obtain ⟨hserved, hkept, hsubmit, hrec⟩ := h
  unfold State.svcPacket
  rw [hserved, if_neg (by decide)]
  simp only [if_neg hkept, hsubmit, hrec]
  rw [if_neg Bool.false_ne_true, if_neg (by simp)]
  rfl

theorem State.svcLen_of_takes {s : State} {seq : Nat} (h : LinkTakes s seq) (cmd : Nat) {ok : Bool} (hok : ok = true)
    (k : State → State) : s.svcLen cmd seq ok k = k (linkTook s) := by
  rw [State.svcLen, State.svcPacket_of_takes h, hok, if_pos rfl]

/-- The reply kept goes out again. -/
def State.resend (s : State) (kept : Bytes) : State := { s with svc := { s.svc with sent := kept } }

theorem State.resend_frame {s t : State} (h : t = { s with regs := t.regs, upd := t.upd, svc := t.svc }) (kept : Bytes) :
    t.resend kept = { s with regs := (t.resend kept).regs, upd := (t.resend kept).upd, svc := (t.resend kept).svc } := by
  rw [h]
  rfl

theorem State.resend_regs (s : State) (kept : Bytes) : (s.resend kept).regs = s.regs := rfl

/-- The answer to a packet that repeats the SEQ of the last reply. -/
def State.resent (s : State) : State := (linkTook s).resend s.svc.kept

theorem State.resent_onlyFields (s : State) : OnlyFields s s.resent [F.SVC_CNT_RX_OK] :=
  (linkTook_onlyFields s).trans (OnlyFields.of_regs (State.resend_regs _ _) [])

theorem State.resent_frame (s : State) :
    s.resent = { s with regs := s.resent.regs, upd := s.resent.upd, svc := s.resent.svc } :=
  State.resend_frame (t := linkTook s) (by rw [linkTook_frame]) s.svc.kept

/-- A packet that repeats the SEQ of the last reply runs nothing, and the reply kept goes out again. -/
theorem State.svcPacket_of_kept {s : State} {seq : Nat} (hserved : s.linkServed = true)
    (hkept : s.svc.keptSeq = some (seq % 256)) (cmd : Nat) (k : State → State) :
    s.svcPacket cmd seq k = s.resent := by
  unfold State.svcPacket
  rw [hserved, if_neg (by decide)]
  simp only [if_pos hkept]
  rfl

theorem exec_link_of_kept {s : State} {seq : Nat} (p : Bytes) (hserved : s.linkServed = true)
    (hkept : s.svc.keptSeq = some (seq % 256)) : ∀ c ∈ [Instr.svcHello seq p, .svcSetRate seq p, .svcRead seq p,
      .svcWrite seq p, .svcSubmit seq p, .svcReset seq p], exec c s = .next s.resent := by
  have hpacket (cmd : Nat) (k : State → State) : s.svcPacket cmd seq k = s.resent := s.svcPacket_of_kept hserved hkept cmd k
  simp only [List.forall_mem_cons, List.not_mem_nil, false_implies, implies_true, and_true]
  refine ⟨?_, ?_, ?_, ?_, ?_, ?_⟩
  all_goals exact congrArg Host.Outcome.next (hpacket _ _)

/-! ### Commands -/

/-- A packet taken leaves the recovery ROM's flag. -/
theorem linkTook_recovery {s : State} (h : s.flag F.SYS_BOOT_STAT_RECOVERY = false) :
    (linkTook s).flag F.SYS_BOOT_STAT_RECOVERY = false := by
  rwa [State.flag, (linkTook_onlyFields s).getF (by decide)]

theorem exec_svcHello_of_takes {s : State} {seq : Nat} (h : LinkTakes s seq) : exec (.svcHello seq []) s =
    .next ((linkTook s).svcReply 1 (seq % 256) 0 (leBytes 2 (partCode s.part) ++
      [byte s.siStep, byte 0] ++ uidBytes ++ leBytes 4 ((linkTook s).rd R.UPD_STAT).toNat)) := by
  have hrec : (linkTook s).getF F.SYS_BOOT_STAT_RECOVERY = 0 := by
    simpa [State.flag] using linkTook_recovery h.2.2.2
  have hpart : (linkTook s).part = s.part := by rw [linkTook_frame]
  have hsi : (linkTook s).siStep = s.siStep := by rw [linkTook_frame]
  change execSvcHello seq [] s = _
  rw [execSvcHello, State.svcLen_of_takes h 1 (ok := ([] : Bytes).isEmpty) rfl, hrec, hpart, hsi]

/-- A code of R507's rates. -/
theorem rateCode_lt {n r : Nat} (h : rateCode n = some r) : r < 5 := by
  obtain ⟨hlt, -⟩ := List.idxOf?_eq_some_iff.1 h
  exact hlt

/-- The rate changed after the reply. -/
def State.rateSet (s : State) (seq r now : Nat) : State :=
  { (s.svcReply 2 (seq % 256) 0).setF F.SVC_STAT_RATE r with
    svc := { (s.svcReply 2 (seq % 256) 0).svc with rateProven := false, rateFrc := now } }

theorem State.rateSet_rate (s : State) (seq now : Nat) {r : Nat} (h : r < 5) :
    (s.rateSet seq r now).getF F.SVC_STAT_RATE = r := by
  have hset := State.getF_setF_same (s.svcReply 2 (seq % 256) 0) F.SVC_STAT_RATE r (by decide)
  exact hset.trans (Nat.mod_eq_of_lt (Nat.lt_of_lt_of_le h (by decide)))

theorem State.rateSet_onlyFields (s : State) (seq r now : Nat) :
    OnlyFields s (s.rateSet seq r now) [F.SVC_STAT_RATE] := by
  have h : OnlyFields s ((s.svcReply 2 (seq % 256) 0).setF F.SVC_STAT_RATE r) [F.SVC_STAT_RATE] :=
    OnlyFields.setF (s.svcReply 2 (seq % 256) 0) _ _ (by decide)
  exact h

theorem svcSetRate_of_takes {s : State} {seq : Nat} (h : LinkTakes s seq) {p : Bytes} (hp : p.length = 4) {r : Nat}
    (hr : rateCode (leAt p 0 4) = some r) : exec (.svcSetRate seq p) s = .next ((linkTook s).rateSet seq r s.now) := by
  change execSvcSetRate seq p s = _
  rw [execSvcSetRate, State.svcLen_of_takes h 2 (decide_eq_true hp), hr]
  rfl

theorem svcSetRate_of_unknown {s : State} {seq : Nat} (h : LinkTakes s seq) {p : Bytes} (hp : p.length = 4)
    (hr : rateCode (leAt p 0 4) = none) :
    exec (.svcSetRate seq p) s = .next ((linkTook s).svcReply 2 (seq % 256) 4) := by
  change execSvcSetRate seq p s = _
  rw [execSvcSetRate, State.svcLen_of_takes h 2 (decide_eq_true hp), hr]

theorem svcRead_of_takes {s : State} {seq : Nat} (h : LinkTakes s seq) {p : Bytes} (hp : p.length = 6)
    (h1 : 1 ≤ leAt p 4 2) (h2 : leAt p 4 2 * wordLen (leAt p 0 4) ≤ 4096) : exec (.svcRead seq p) s =
      .next ((linkTook s).svcAccess false (seq % 256) (leAt p 0 4) (leAt p 4 2) []) := by
  change execSvcRead seq p s = _
  rw [execSvcRead, State.svcLen_of_takes h 3 (by simp [hp, h1, h2]), linkTook_recovery h.2.2.2]
  exact congrArg Host.Outcome.next (if_neg (by simp))

theorem svcWrite_of_takes {s : State} {seq : Nat} (h : LinkTakes s seq) {p : Bytes} (hp : 5 ≤ p.length)
    (h1 : (p.drop 4).length % wordLen (leAt p 0 4) = 0) : exec (.svcWrite seq p) s =
      .next ((linkTook s).svcAccess true (seq % 256) (leAt p 0 4) ((p.drop 4).length / wordLen (leAt p 0 4))
        ((List.range ((p.drop 4).length / 4)).map (fun k => word (leAt (p.drop 4) (4 * k) 4)))) := by
  change execSvcWrite seq p s = _
  rw [execSvcWrite, State.svcLen_of_takes h 4 (by rw [decide_eq_true hp, decide_eq_true h1]; rfl)]

theorem svcSubmit_of_takes {s : State} {seq : Nat} (h : LinkTakes s seq) (p : Bytes) :
    exec (.svcSubmit seq p) s = .next ((linkTook s).svcItem (seq % 256) p) := by
  change execSvcSubmit seq p s = _
  rw [execSvcSubmit, State.svcPacket_of_takes h]

theorem svcReset_of_takes {s : State} {seq : Nat} (h : LinkTakes s seq) {p : Bytes} (hp : p.length = 2) :
    exec (.svcReset seq p) s = .next (if leAt p 0 2 = 0xC3A5 then
      ((linkTook s).svcReply 0x16 (seq % 256) 0).resetAll .swReset else (linkTook s).svcReply 0x16 (seq % 256) 4) := by
  change execSvcReset seq p s = _
  rw [execSvcReset, State.svcLen_of_takes h 0x16 (decide_eq_true hp)]

/-! ### Pads and rate -/

/-- SVC_STAT as SVC_PRESENT is asserted. -/
def State.presentShown (s : State) : State :=
  ((s.setF F.SVC_STAT_PRESENT 1).setF F.SVC_STAT_PRESENT_SEEN 1).setF F.SVC_STAT_RATE 0

theorem State.presentShown_onlyFields (s : State) : OnlyFields s s.presentShown
    [F.SVC_STAT_PRESENT, F.SVC_STAT_PRESENT_SEEN, F.SVC_STAT_RATE] :=
  ((OnlyFields.setF s _ _ (by decide)).snoc _ _ (by decide)).snoc _ _ (by decide)

theorem State.presentShown_fields (s : State) : s.presentShown.getF F.SVC_STAT_PRESENT = 1 ∧
    s.presentShown.getF F.SVC_STAT_PRESENT_SEEN = 1 ∧ s.presentShown.getF F.SVC_STAT_RATE = 0 := by
  have hrate := OnlyFields.setF ((s.setF F.SVC_STAT_PRESENT 1).setF F.SVC_STAT_PRESENT_SEEN 1) F.SVC_STAT_RATE 0 (by decide)
  have hseen := OnlyFields.setF (s.setF F.SVC_STAT_PRESENT 1) F.SVC_STAT_PRESENT_SEEN 1 (by decide)
  refine ⟨?_, ?_, State.getF_setF_same _ _ _ (by decide)⟩
  · exact ((hrate.getF (by decide)).trans (hseen.getF (by decide))).trans (State.getF_setF_same s _ _ (by decide))
  · exact (hrate.getF (by decide)).trans (State.getF_setF_same _ F.SVC_STAT_PRESENT_SEEN 1 (by decide))

/-- The module with SVC_PRESENT asserted: a wake source, at the first rate. -/
def State.toolPresent (s : State) : State := { s with
  pads := { s.pads with svcPresent := true }, power := { s.power with wakeReq := s.power.wakeReq ||| 2 ^ 6 }
  svc := { s.svc with rateProven := true } }

theorem State.toolPresent_frame {s t : State} (h : t = { s with regs := t.regs }) :
    t.toolPresent = { s with regs := t.toolPresent.regs, pads := t.toolPresent.pads, power := t.toolPresent.power
                             svc := { s.svc with rateProven := true } } ∧
      t.toolPresent.pads = { s.pads with svcPresent := true } ∧
      t.toolPresent.power = { s.power with wakeReq := s.power.wakeReq ||| 2 ^ 6 } := by
  rw [h]
  exact ⟨rfl, rfl, rfl⟩

theorem State.toolPresent_eq (s : State) : { s.wakeBy 6 with
    pads := { s.pads with svcPresent := true }, svc := { s.svc with rateProven := true } } = s.toolPresent := rfl

theorem State.toolPresent_regs (s : State) : s.toolPresent.regs = s.regs := rfl

theorem exec_svcPresentAssert {s : State} (h : s.powered = true) :
    exec .svcPresentAssert s = .next s.presentShown.toolPresent :=
  congrArg Host.Outcome.next ((if_neg (by simp [h])).trans s.presentShown.toolPresent_eq)

theorem svcPresentAssert_spec {s : State} (h : s.powered = true) : ∃ t, exec .svcPresentAssert s = .next t ∧
    t.getF F.SVC_STAT_PRESENT = 1 ∧ t.getF F.SVC_STAT_PRESENT_SEEN = 1 ∧ t.getF F.SVC_STAT_RATE = 0 ∧
    t.pads = { s.pads with svcPresent := true } ∧ t.power = { s.power with wakeReq := s.power.wakeReq ||| 2 ^ 6 } ∧
    OnlyFields s t [F.SVC_STAT_PRESENT, F.SVC_STAT_PRESENT_SEEN, F.SVC_STAT_RATE] ∧
    t = { s with regs := t.regs, pads := t.pads, power := t.power, svc := { s.svc with rateProven := true } } := by
  obtain ⟨h1, h2, h3⟩ := s.presentShown_fields
  obtain ⟨hframe, hpads, hpower⟩ := State.toolPresent_frame (s := s) (t := s.presentShown)
    (State.setF_frame (State.setF_frame (State.setF_frame rfl _ _) _ _) _ _)
  have hregs : OnlyFields s.presentShown s.presentShown.toolPresent [] := OnlyFields.of_regs (State.toolPresent_regs _) _
  exact ⟨_, exec_svcPresentAssert h, (hregs.getF rfl).trans h1, (hregs.getF rfl).trans h2, (hregs.getF rfl).trans h3, hpads,
    hpower, s.presentShown_onlyFields.trans hregs, hframe⟩

theorem svcRxInvert_spec {s : State} (h : s.powered = true) : ∃ t, exec .svcRxInvert s = .next t ∧
    t.pads = { s.pads with svcRxInvert := !s.pads.svcRxInvert } ∧
    t.getF F.SVC_STAT_RX_INV = b2n (!s.pads.svcRxInvert) ∧ OnlyFields s t [F.SVC_STAT_RX_INV] ∧
    t = { s with regs := t.regs, pads := t.pads } := by
  refine ⟨_, congrArg Host.Outcome.next (if_neg (by simp [h])), rfl, ?_,
    OnlyFields.setF s F.SVC_STAT_RX_INV (b2n (!s.pads.svcRxInvert)) (by decide), rfl⟩
  refine (State.getF_setF_same s F.SVC_STAT_RX_INV (b2n (!s.pads.svcRxInvert)) (by decide)).trans ?_
  cases s.pads.svcRxInvert <;> rfl

theorem svcPacketBad_spec {s : State} (h : s.linkServed = true) : ∃ t, exec .svcPacketBad s = .next t ∧
    t.getF F.SVC_STAT_CRC_SEEN = 1 ∧ OnlyFields s t [F.SVC_CNT_RX_BAD, F.SVC_STAT_CRC_SEEN] ∧
    t = { s with regs := t.regs } :=
  ⟨_, congrArg Host.Outcome.next (if_pos h), State.getF_setF_same _ _ _ (by decide),
    (OnlyFields.setF s _ _ (by decide)).snoc _ _ (by decide), State.setF_frame (State.setF_frame rfl _ _) _ _⟩

theorem svcRateTimeout_spec {s : State} (hp : s.powered = true) (hr : s.svc.rateProven = false)
    (hs : s.since s.svc.rateFrc 1000000 = true) : ∃ t, exec .svcRateTimeout s = .next t ∧ t.getF F.SVC_STAT_RATE = 0 ∧
      OnlyFields s t [F.SVC_STAT_RATE] ∧ t = { s with regs := t.regs, svc := { s.svc with rateProven := true } } := by
  refine ⟨_, congrArg Host.Outcome.next (if_pos ⟨hp, by rw [hr]; rfl, hs⟩), State.getF_setF_same s _ _ (by decide),
    OnlyFields.setF s F.SVC_STAT_RATE 0 (by decide), rfl⟩

/-- Settles O59: a packet that is taken runs its command on the state that took it, one that repeats the SEQ runs
nothing. -/
theorem isbenLink : Obligations.IsbenLink := by
  unfold Obligations.IsbenLink
  intro seq p s
  refine ⟨svcRxInvert_spec, svcPresentAssert_spec, fun h => ?_, svcPacketBad_spec, svcRateTimeout_spec, fun h => ?_,
    fun hserved hkept c hc => ?_, fun htakes => ⟨exec_svcHello_of_takes htakes, fun hp r hr => ?_,
      svcSetRate_of_unknown htakes, svcRead_of_takes htakes, svcWrite_of_takes htakes, svcSubmit_of_takes htakes p,
      fun hp hkey => ?_, fun hp hkey => ?_⟩⟩
  · exact congrArg Host.Outcome.next (if_neg (by simp [h]))
  · refine congrArg Host.Outcome.next (if_neg fun ⟨_, hr, hs⟩ => ?_)
    rcases h with h | h
    · simp [h] at hr
    · exact absurd (h.symm.trans hs) (by decide)
  · exact ⟨s.resent, exec_link_of_kept p hserved hkept c hc, rfl, s.resent_onlyFields, s.resent_frame⟩
  · exact ⟨_, svcSetRate_of_takes htakes hp hr, (linkTook s).rateSet_rate seq s.now (rateCode_lt hr), rfl,
      (linkTook_onlyFields s).trans ((linkTook s).rateSet_onlyFields seq r s.now)⟩
  · rw [svcReset_of_takes htakes hp, if_pos hkey]
  · rw [svcReset_of_takes htakes hp, if_neg hkey]

end Sys2Proof.Machine
end

section
/-! SUPPORT. The antenna inputs, and the epochs a base latches. -/
namespace Sys2Proof.Machine

/-! ### A field written with its own value -/

theorem putBits_bitsOf (x lo w : Nat) : putBits x lo w (bitsOf x lo w) = x := by
  refine Nat.eq_of_testBit_eq fun i => ?_
  by_cases h : i < lo ∨ lo + w ≤ i
  · exact putBits_testBit_other _ _ _ _ _ h
  · have hi : i - lo < w := by omega
    have hself : bitsOf (putBits x lo w (bitsOf x lo w)) lo w = bitsOf x lo w := by
      rw [bitsOf_putBits_same, bitsOf, Nat.mod_mod]
    have hbit := congrArg (fun v => v.testBit (i - lo)) hself
    simpa only [bitsOf_testBit, decide_eq_true hi, Bool.true_and, show lo + (i - lo) = i by omega] using hbit

/-- A field written with the value it holds leaves every field as it reads. -/
theorem State.setF_self (s : State) {f : Fld} (h : f.lo + f.width ≤ 32) {v : Nat} (hv : s.getF f = v) :
    OnlyFields s (s.setF f v) [] := by
  subst hv
  intro g _
  by_cases ha : g.addr = f.addr
  · rw [State.getF, State.getF, ha, State.rd_setF s f _ h, State.getF, putBits_bitsOf, ha]
  · exact State.getF_setF_other s f g _ ha

/-! ### An input's state -/

theorem antState_bits {a : Nat} (ha : a < 2) : (antState a).lo + (antState a).width ≤ 32 := by
  simp only [antState]
  omega

theorem antMa_bits {a : Nat} (ha : a < 2) : (antMa a).lo + (antMa a).width ≤ 32 := by
  simp only [antMa]
  omega

theorem antMa_apart_antState {a : Nat} (ha : a < 2) : (antMa a).apart (antState a) := by
  simp only [Fld.apart, antMa, antState]
  omega

theorem antState_apart_antMa {a : Nat} (ha : a < 2) : (antState a).apart (antMa a) := by
  simp only [Fld.apart, antMa, antState]
  omega

/-- An input that stays NORMAL shows its new current. -/
theorem State.antSet_normal {s : State} {a : Nat} (h : s.getF (antState a) = 1) (ma : Nat) :
    s.antSet a 1 ma = (s.setF (antMa a) (min ma 255)).setF (antState a) 1 := by
  unfold State.antSet
  simp only
  rw [if_pos h, if_neg fun h2 => absurd h2.1 (by decide), if_neg (by decide)]

theorem State.antSet_normal_spec {s : State} {a : Nat} (ha : a < 2) (h : s.getF (antState a) = 1) (ma : Nat) :
    ∃ t, s.antSet a 1 ma = t ∧ t.getF (antMa a) = min ma 255 ∧ t.getF (antState a) = 1 ∧
      OnlyFields s t [antMa a] ∧ t = { s with regs := t.regs } := by
  have hma := OnlyFields.setF s (antMa a) (min ma 255) (antMa_bits ha)
  have hst : (s.setF (antMa a) (min ma 255)).getF (antState a) = 1 :=
    (hma _ (by simpa using antMa_apart_antState ha)).trans h
  have hself := State.setF_self _ (antState_bits ha) hst
  refine ⟨_, State.antSet_normal h ma, ?_, (hself _ (by simp)).trans hst, hma.trans hself,
    State.setF_frame (State.setF_frame rfl _ _) _ _⟩
  rw [hself _ (by simp), State.getF_setF_same _ _ _ (antMa_bits ha)]
  exact Nat.mod_eq_of_lt (Nat.lt_succ_of_le (Nat.min_le_right _ _))

theorem exec_antBiasRetry_short {s : State} {a : Nat} (ha : a < 2) (hb : s.biasOn a = true)
    (h : s.getF (antState a) = 3) : exec (.antBiasRetry a) s =
      .next (if s.since (s.pads.biasFrc.getD a 0) 1000000 then s.setBias a (s.biasPlan a) else s) := by
  change execAntBiasRetry a s = _
  rw [execAntBiasRetry]
  by_cases hs : s.since (s.pads.biasFrc.getD a 0) 1000000 = true
  · rw [if_pos hs, if_pos ⟨ha, hb, h, hs⟩]
  · rw [if_neg hs, if_neg fun hc => hs hc.2.2.2]

theorem exec_antSwitch {s : State} (hon : s.bvOn = true) (hrole : s.bvRole = 1) (hant : s.ant = 0)
    (h0 : 2 ≤ s.getF (antState 0)) (h1 : s.getF (antState 1) = 1) (hpos : (s.bv.pos.getD 1 none).isSome = true) :
    exec .antSwitch s = .next (if s.since (s.bv.antFrc.getD 0 0) 1000000 then s.switchAnt 1 else s) := by
  change execAntSwitch s = _
  rw [execAntSwitch]
  by_cases hs : s.since (s.bv.antFrc.getD 0 0) 1000000 = true
  · rw [if_pos hs, if_pos ⟨hon, hrole, hant, h0, h1, hpos, hs⟩]
  · rw [if_neg hs, if_neg fun ⟨_, _, _, _, _, _, hc⟩ => hs hc]

/-! ### Epochs latched -/

theorem State.updBv_congr (s : State) {f g : Bv → Bv} (h : f s.bv = g s.bv) : s.updBv f = s.updBv g := by
  rw [State.updBv, State.updBv, h]

theorem State.xingPulse_bv (s : State) (i : Nat) : (s.xingPulse i).bv = s.bv := by
  unfold State.xingPulse
  split_ifs <;> rfl

theorem exec_baseEpochLatch_not {s : State} {tb : Nat}
    (h : (s.isUl tb || s.isMult tb) = false ∨ s.comes 0 tb = false ∨ s.bv.lastTb = some tb) :
    exec (.baseEpochLatch tb) s = .next s := by
  refine congrArg Host.Outcome.next (if_pos (.inr ?_))
  rcases h with h | h | h
  · exact .inl (by simpa using h)
  · exact .inr (.inl (by simp [h]))
  · exact .inr (.inr h)

/-- The record of an epoch that finds room, as it is latched. -/
def State.epochLatched (s : State) (tb : Nat) (b : Bv) : Bv := { b with
  lastTb := some tb
  latched := some { tb := tb, ul := s.isUl tb, base := s.isUl tb && s.domOn 7, multiple := s.isMult tb, ant := s.ant
                    flags := s.baseFlags + 4 * b2n (s.isUl tb), bias := (s.rd R.BV_CLK_BIAS).toNat, frc := s.now
                    chans := if s.bv.switched then b.chans.map (fun (x : BvChan) => { x with slip := true })
                      else b.chans }
  switched := false
  chans := b.chans.map (fun (x : BvChan) => { x with slip := false }) }

theorem exec_baseEpochLatch_room {s : State} {tb : Nat} (hon : s.bvOn = true) (hdue : (s.isUl tb || s.isMult tb) = true)
    (hcomes : s.comes 0 tb = true) (hlast : s.bv.lastTb ≠ some tb)
    (hroom : (s.domOn 7 && decide (16 ≤ s.bv.baseQ.length)) = false) :
    exec (.baseEpochLatch tb) s = .next ((s.xingPulse 5).updBv (s.epochLatched tb)) := by
  change execBaseEpochLatch tb s = _
  rw [execBaseEpochLatch]
  simp only [hroom, Bool.false_eq_true, and_false, false_and, if_false, Bool.not_false, Bool.and_true]
  rw [if_neg (by simp_all)]
  refine congrArg Host.Outcome.next (State.updBv_congr _ ?_)
  simp only [State.epochLatched, State.xingPulse_bv]

theorem exec_baseEpochLatch_full {s : State} {tb : Nat} (hon : s.bvOn = true) (hul : s.isUl tb = true)
    (hmult : s.isMult tb = false) (hcomes : s.comes 0 tb = true) (hlast : s.bv.lastTb ≠ some tb)
    (hfull : (s.domOn 7 && decide (16 ≤ s.bv.baseQ.length)) = true) : exec (.baseEpochLatch tb) s =
      .next (((s.xingPulse 5).setF F.BV_STAT_BASE_SKIP 1).updBv (fun b => { b with lastTb := some tb })) := by
  change execBaseEpochLatch tb s = _
  rw [execBaseEpochLatch]
  simp only [hfull, hul, hmult, Bool.false_eq_true, not_false_eq_true, and_self, if_true]
  rw [if_neg (by simp_all)]

end Sys2Proof.Machine
end

section
/-! SUPPORT. The record of a base epoch: its bytes, and what its completion changes. -/
namespace Sys2Proof.Machine

/-! ### Little-endian fields of a record -/

theorem length_leBytes (n v : Nat) : (leBytes n v).length = n := by
  induction n generalizing v with
  | zero => rfl
  | succ n ih => rw [leBytes, List.length_cons, ih]

theorem leNat_leBytes (n v : Nat) : leNat (leBytes n v) = v % 256 ^ n := by
  induction n generalizing v with
  | zero => rw [leBytes, leNat, Nat.pow_zero, Nat.mod_one]
  | succ n ih => rw [leBytes, leNat, ih, byte, BitVec.toNat_ofNat, Nat.pow_succ' (m := 256), Nat.mod_mul]

theorem leAt_append_right {p : Bytes} {o : Nat} (h : p.length ≤ o) (q : Bytes) (n : Nat) :
    leAt (p ++ q) o n = leAt q (o - p.length) n := by
  rw [leAt, leAt, List.drop_append, List.drop_eq_nil_of_le h, List.nil_append]

theorem leAt_leBytes (n v : Nat) (q : Bytes) : leAt (leBytes n v ++ q) 0 n = v % 256 ^ n := by
  rw [leAt, List.drop_zero, List.take_left' (length_leBytes n v), leNat_leBytes]

/-- The 24 bytes ahead of the entries of a base record (R264). -/
def baseHead (e : BvLatch) (n seq : Nat) : Bytes :=
  [byte 1, byte (e.ant + 1)] ++ leBytes 2 n ++ leBytes 4 (nsField e.tb) ++ leBytes 6 (secField e.tb) ++ leBytes 2 seq ++
    leBytes 4 e.bias ++ [byte e.flags, byte 0, byte 0, byte 0]

theorem leAt_baseHead_ant (e : BvLatch) (n seq : Nat) (q : Bytes) :
    leAt (baseHead e n seq ++ q) 0 1 = 1 ∧ leAt (baseHead e n seq ++ q) 1 1 = (e.ant + 1) % 256 := by
  simp [baseHead, leAt, leNat, byte]

theorem leAt_baseHead_seq (e : BvLatch) (n seq : Nat) (q : Bytes) :
    leAt (baseHead e n seq ++ q) 14 2 = seq % 65536 := by
  have hsplit : baseHead e n seq ++ q = ([byte 1, byte (e.ant + 1)] ++ leBytes 2 n ++ leBytes 4 (nsField e.tb) ++
      leBytes 6 (secField e.tb)) ++ (leBytes 2 seq ++ (leBytes 4 e.bias ++ [byte e.flags, byte 0, byte 0, byte 0] ++ q)) := by
    simp only [baseHead, List.append_assoc]
  rw [hsplit, leAt_append_right (by simp [length_leBytes])]
  simpa [length_leBytes] using leAt_leBytes 2 seq _

theorem leAt_baseHead_flags (e : BvLatch) (n seq : Nat) (q : Bytes) :
    leAt (baseHead e n seq ++ q) 20 1 = e.flags % 256 := by
  rw [baseHead, List.append_assoc, leAt_append_right (by simp [length_leBytes])]
  simp [length_leBytes, leAt, leNat, byte]

/-! ### What a completed record changes -/

theorem State.raiseTask_bv (s : State) (t : Nat) : (s.raiseTask t).bv = s.bv := by rw [State.raiseTask_frame]

theorem State.observe_bv (s : State) (w : Nat) (bs : Bytes) : (s.observe w bs).bv = s.bv := by rw [State.observe_frame]

/-- SOLVE's intake of BASE changes SOLVE and BASE. -/
theorem State.slvBase_frame (s : State) : s.slvBase = { s with slv := s.slvBase.slv, bv := s.slvBase.bv } := by
  unfold State.slvBase
  split_ifs <;> rfl

theorem State.slvBase_bv (s : State) : ∃ q, s.slvBase.bv = { s.bv with baseQ := q } := by
  unfold State.slvBase
  split_ifs
  · exact ⟨s.bv.baseQ, rfl⟩
  · exact ⟨_, rfl⟩

theorem State.slvBase_of_off {s : State} (h : s.domOn 7 = false) : s.slvBase = s := by
  rw [State.slvBase, h]
  rfl

/-- Belvedere once the record of the latched epoch is told; `due` are the channels whose slip is still to be told. -/
def Bv.told (b : Bv) (base : Bool) (r : BaseEpoch) (due : BvChan → Bool) : Bv := { b with
  latched := none, seq := (b.seq + 1) % 65536
  baseQ := if base then b.baseQ ++ [r] else b.baseQ, rtcmIn := b.rtcmIn ++ [r]
  chans := b.chans.map (fun (x : BvChan) => { x with slip := x.slip || due x }) }

/-- The record told, and its sinks. -/
def State.baseTold (s : State) (base : Bool) (r : BaseEpoch) (due : BvChan → Bool) : State :=
  (((s.updBv (fun b => b.told base r due)).observe Win.RAW_OBS r.body).slvBase).raiseTask 9

theorem exec_baseRecordComplete_not {s : State} {e : BvLatch} {obs : List BvObs} (h : s.bv.latched = some e)
    (hbad : obsSorted obs = false ∨ obs.all BvObs.ok = false) : exec (.baseRecordComplete obs) s = .next s := by
  change execBaseRecordComplete obs s = _
  simp only [execBaseRecordComplete, h]
  rw [if_pos]
  rcases hbad with hb | hb <;> simp [hb]

/-- The entries of the record of an epoch, each with its channel. -/
def State.baseEntries (s : State) (e : BvLatch) (obs : List BvObs) : List (Bytes × Nat) :=
  obs.filterMap (fun o => (s.obsChan? e o).map (fun x => (s.obsEntry e o x, x.ch)))

/-- Has a channel a slip of the epoch that no entry tells? -/
def BvLatch.slipDue (e : BvLatch) (es : List (Bytes × Nat)) (x : BvChan) : Bool :=
  !(es.map (·.2)).contains x.ch && e.chans.any (fun y => y.ch = x.ch && y.svid = x.svid && y.sig = x.sig && y.slip)

/-- The record of an epoch. -/
def State.baseEpoch (s : State) (e : BvLatch) (obs : List BvObs) : BaseEpoch :=
  { tb := e.tb, ul := e.ul, multiple := e.multiple
    body := baseHead e (s.baseEntries e obs).length s.bv.seq ++ (s.baseEntries e obs).flatMap (·.1) }

theorem exec_baseRecordComplete {s : State} {e : BvLatch} {obs : List BvObs} (h : s.bv.latched = some e)
    (hs : obsSorted obs = true) (hok : obs.all BvObs.ok = true) : exec (.baseRecordComplete obs) s =
      .next (s.baseTold e.base (s.baseEpoch e obs) (e.slipDue (s.baseEntries e obs))) := by
  change execBaseRecordComplete obs s = _
  simp only [execBaseRecordComplete, h]
  rw [if_neg (by simp only [hs, hok, Bool.not_true, Bool.false_eq_true, or_self, not_false_eq_true])]
  rfl

theorem State.baseTold_frame (s : State) (base : Bool) (r : BaseEpoch) (due : BvChan → Bool) :
    s.baseTold base r due = { s with
      regs := (s.baseTold base r due).regs, bv := (s.baseTold base r due).bv, slv := (s.baseTold base r due).slv
      strms := (s.baseTold base r due).strms, arb := (s.baseTold base r due).arb } := by
  rw [State.baseTold, State.raiseTask_frame, State.slvBase_frame, State.observe_frame]
  rfl

theorem State.baseTold_bv (s : State) (base : Bool) (r : BaseEpoch) (due : BvChan → Bool) :
    ∃ q, (s.baseTold base r due).bv = { s.bv.told base r due with baseQ := q } := by
  obtain ⟨q, hq⟩ := ((s.updBv (fun b => b.told base r due)).observe Win.RAW_OBS r.body).slvBase_bv
  refine ⟨q, ?_⟩
  rw [State.baseTold, State.raiseTask_bv, hq, State.observe_bv]
  rfl

/-- A packet offered to a window leaves what D7 runs by. -/
theorem State.domOn_seven_observe (s : State) (w : Nat) (bs : Bytes) : (s.observe w bs).domOn 7 = s.domOn 7 := by
  have hu : UnitReg (F.dom 7).addr := ⟨by decide, by decide, by decide⟩
  have hl : UnitReg F.LODGE_CLK_STAT_CORR_LOCK.addr := ⟨by decide, by decide, by decide⟩
  have hdom : (s.observe w bs).dom 7 = s.dom 7 :=
    State.dom_congr (by rw [State.observe_frame]) ((s.observe_sameUnits w bs).getF hu)
  have hlock : (s.observe w bs).flag F.LODGE_CLK_STAT_CORR_LOCK = s.flag F.LODGE_CLK_STAT_CORR_LOCK := by
    rw [State.flag, State.flag, (s.observe_sameUnits w bs).getF hl]
  have hclk : ∀ u : State, u.clocked 7 = u.flag F.LODGE_CLK_STAT_CORR_LOCK := fun u => rfl
  rw [State.domOn, State.domOn, State.isOn, State.isOn, hdom, hclk, hclk, hlock]

/-- With D7 off the record stays in BASE. -/
theorem State.baseTold_baseQ {s : State} (h : s.domOn 7 = false) (base : Bool) (r : BaseEpoch) (due : BvChan → Bool) :
    (s.baseTold base r due).bv = s.bv.told base r due := by
  have h7 : ((s.updBv (fun b => b.told base r due)).observe Win.RAW_OBS r.body).domOn 7 = false :=
    (State.domOn_seven_observe _ _ _).trans h
  rw [State.baseTold, State.slvBase_of_off h7, State.raiseTask_bv, State.observe_bv]
  rfl

theorem baseRecordComplete_spec {s : State} {e : BvLatch} {obs : List BvObs} (h : s.bv.latched = some e)
    (hs : obsSorted obs = true) (hok : obs.all BvObs.ok = true) : ∃ t body, exec (.baseRecordComplete obs) s = .next t ∧
      t.bv.latched = none ∧ t.bv.seq = (s.bv.seq + 1) % 65536 ∧
      t.bv.rtcmIn = s.bv.rtcmIn ++ [{ tb := e.tb, ul := e.ul, multiple := e.multiple, body := body }] ∧
      (s.domOn 7 = false → e.base = true →
        t.bv.baseQ = s.bv.baseQ ++ [{ tb := e.tb, ul := e.ul, multiple := e.multiple, body := body }]) ∧
      leAt body 0 1 = 1 ∧ leAt body 1 1 = (e.ant + 1) % 256 ∧ leAt body 14 2 = s.bv.seq % 65536 ∧
      leAt body 20 1 = e.flags % 256 ∧
      t = { s with regs := t.regs, bv := t.bv, slv := t.slv, strms := t.strms, arb := t.arb, power := t.power } := by
  obtain ⟨q, hq⟩ := s.baseTold_bv e.base (s.baseEpoch e obs) (e.slipDue (s.baseEntries e obs))
  obtain ⟨hver, hant⟩ := leAt_baseHead_ant e (s.baseEntries e obs).length s.bv.seq ((s.baseEntries e obs).flatMap (·.1))
  refine ⟨_, (s.baseEpoch e obs).body, exec_baseRecordComplete h hs hok, ?_, ?_, ?_, fun h7 hbase => ?_, hver, hant,
    leAt_baseHead_seq e _ _ _, leAt_baseHead_flags e _ _ _, ?_⟩
  · rw [hq, Bv.told]
  · rw [hq, Bv.told]
  · rw [hq]
    rfl
  · rw [State.baseTold_baseQ h7, Bv.told, hbase]
    rfl
  · generalize e.slipDue (s.baseEntries e obs) = due
    generalize s.baseEpoch e obs = r
    rw [State.baseTold_frame]

end Sys2Proof.Machine
end

section
/-! SUPPORT. What a second's solution leaves: the parts of other units, and once shown NSV and BV_CLK_BIAS. -/
namespace Sys2Proof.Machine

/-! ### The flash, the axes and the fleet -/

/-- The flash, the axes and the fleet stay as they are. -/
def SameRest (s t : State) : Prop := t.flash = s.flash ∧ t.axes = s.axes ∧ t.fleet = s.fleet

section
variable {s t u : State}

theorem SameRest.refl (s : State) : SameRest s s := ⟨rfl, rfl, rfl⟩

theorem SameRest.trans (h1 : SameRest s t) (h2 : SameRest t u) : SameRest s u :=
  ⟨h2.1.trans h1.1, h2.2.1.trans h1.2.1, h2.2.2.trans h1.2.2⟩

theorem SameRest.wr (s : State) (a : Nat) (v : Word) : SameRest s (s.wr a v) := ⟨rfl, rfl, rfl⟩

theorem SameRest.setF (s : State) (f : Fld) (v : Nat) : SameRest s (s.setF f v) := SameRest.wr s _ _

theorem SameRest.withVb (s : State) (v : Vb) : SameRest s { s with vb := v } := ⟨rfl, rfl, rfl⟩

theorem SameRest.updBv (s : State) (g : Bv → Bv) : SameRest s (s.updBv g) := ⟨rfl, rfl, rfl⟩

theorem SameRest.ite {c : Prop} [Decidable c] (ht : SameRest s t) (hu : SameRest s u) :
    SameRest s (if c then t else u) := by
  split
  · exact ht
  · exact hu

theorem SameRest.foldl {α : Type} {f : State → α → State} (hf : ∀ x t, SameRest t (f t x)) (xs : List α) (s : State) :
    SameRest s (xs.foldl f s) :=
  List.foldlRecOn xs f (motive := SameRest s) (SameRest.refl s) fun t ht x _ => ht.trans (hf x t)

end

theorem State.observe_sameRest (s : State) (w : Nat) (bs : Bytes) : SameRest s (s.observe w bs) := by
  rw [State.observe_frame]
  exact ⟨rfl, rfl, rfl⟩

theorem State.raiseTask_sameRest (s : State) (t : Nat) : SameRest s (s.raiseTask t) := by
  rw [State.raiseTask_frame]
  exact ⟨rfl, rfl, rfl⟩

theorem State.wrList_sameRest (ws : List Word) (a : Nat) (s : State) : SameRest s (s.wrList a ws) := by
  induction ws generalizing a s with
  | nil => exact SameRest.refl s
  | cons w ws ih => exact (SameRest.wr s a w).trans (ih _ _)

theorem State.latchAll_sameRest (s : State) (k : Nat) : SameRest s (s.latchAll k) :=
  SameRest.foldl (fun blk t => by
    split_ifs
    · exact SameRest.refl t
    · exact State.wrList_sameRest _ _ t
    · exact State.wrList_sameRest _ _ t) _ s

theorem State.snap_sameRest (s : State) (src : Nat) : SameRest s (s.snap src).2 := by
  unfold State.snap
  split
  next => exact (SameRest.setF _ _ _).trans (SameRest.setF _ _ _)
  next k _ => exact ((SameRest.setF _ _ _).trans (SameRest.withVb _ _)).trans (State.latchAll_sameRest _ k)

theorem State.snapJoin_sameRest (s : State) (k : Nat) : SameRest s (s.snapJoin k) := by
  refine (SameRest.withVb s _).trans (SameRest.foldl (fun blk t => ?_) _ _)
  split_ifs
  · exact SameRest.refl t
  · exact SameRest.setF t _ _

theorem State.codeSnap_sameRest (s : State) (own : Option (Option Nat)) : SameRest s (s.codeSnap own).2 := by
  unfold State.codeSnap
  split
  next => exact SameRest.refl s
  next k => exact s.snapJoin_sameRest k
  next =>
    split
    next k _ => exact s.snapJoin_sameRest k
    next => exact s.snap_sameRest 16

theorem State.spendToken_sameRest (s : State) (c : Nat) : SameRest s (s.spendToken c) := by
  unfold State.spendToken
  simp only
  split_ifs <;> exact SameRest.withVb s _

theorem State.suppress_sameRest (s : State) (c : Nat) : SameRest s (s.suppress c) :=
  (SameRest.withVb s _).trans ((SameRest.setF _ _ _).trans (SameRest.setF _ _ _))

theorem State.vbTrigger_sameRest (s : State) (code : Nat) (data : Bytes) (own : Option (Option Nat)) (wid : Option Nat) :
    SameRest s (s.vbTrigger code data own wid) := by
  have hsnap : SameRest s (if (s.vbCfg code).snap = true then (s.spendToken code).codeSnap own
      else (own, s.spendToken code)).2 := by
    refine (s.spendToken_sameRest code).trans ?_
    split_ifs
    · exact (s.spendToken code).codeSnap_sameRest own
    · exact SameRest.refl _
  unfold State.vbTrigger
  simp only
  split
  next => exact SameRest.refl s
  next =>
    split
    next => exact s.suppress_sameRest code
    next => exact (hsnap.trans (SameRest.withVb _ _)).trans (State.raiseTask_sameRest _ 12)

theorem State.bvEvent_sameRest (s : State) (kind index value : Nat) : SameRest s (s.bvEvent kind index value) :=
  (s.observe_sameRest _ _).trans (State.vbTrigger_sameRest _ _ _ _ _)

/-! ### The checks of a second -/

theorem State.setChan_sameRest (s : State) (x : BvChan) : SameRest s (s.setChan x) := SameRest.updBv s _

theorem State.putFlags_sameRest (s : State) (old new : BvChan) (checks : Nat) :
    SameRest s (s.putFlags old new checks) := by
  unfold State.putFlags
  simp only
  split_ifs
  · exact s.setChan_sameRest _
  · exact (s.setChan_sameRest _).trans (State.bvEvent_sameRest _ _ _ _)

theorem State.evalSig_sameRest (s : State) (sigs : List SigEval) (e : SigEval) : SameRest s (s.evalSig sigs e) := by
  unfold State.evalSig
  split
  · exact SameRest.refl s
  · exact SameRest.ite (s.setChan_sameRest _) (s.putFlags_sameRest _ _ _)

/-- A flag of a system, latched where it is set. -/
theorem State.seenIf_sameRest (s : State) (b : Bool) (f : Fld) : SameRest s (if b = true then s.setF f 1 else s) := by
  split_ifs
  · exact SameRest.setF s f 1
  · exact SameRest.refl s

theorem State.putSys_sameRest (s : State) (y : Nat) (newS newN : Bool) (checks : Nat) :
    SameRest s (s.putSys y newS newN checks) := by
  unfold State.putSys
  simp only
  have hshown := fun a b => (((((SameRest.setF s ⟨R.BV_SYS_FLAGS, y, 1⟩ (b2n newS)).trans
    (SameRest.setF _ ⟨R.BV_SYS_FLAGS, 8 + y, 1⟩ (b2n newN))).trans
    (State.seenIf_sameRest _ newS ⟨R.BV_SYS_FLAGS, 16 + y, 1⟩)).trans
    (State.seenIf_sameRest _ newN ⟨R.BV_SYS_FLAGS, 24 + y, 1⟩)).trans
    (SameRest.setF _ F.BV_STAT_SPOOF_ANY a)).trans (SameRest.setF _ F.BV_STAT_INTERF_ANY b)
  exact SameRest.ite (hshown _ _)
    (((hshown _ _).trans (SameRest.setF _ F.BV_STAT_INTEG_CHG 1)).trans (State.bvEvent_sameRest _ _ _ _))

theorem State.evalSys_sameRest (s : State) (y raised checks : Nat) : SameRest s (s.evalSys y raised checks) :=
  (SameRest.updBv s _).trans (State.putSys_sameRest _ _ _ _ _)

theorem State.solFlags_sameRest (s : State) (r : TimeSol) (sats : List (Nat × Nat)) : SameRest s (s.solFlags r sats) :=
  (((SameRest.setF s F.BV_CHECK_FAIL _).trans (SameRest.setF _ F.BV_CHECK_FAIL_SEEN _)).trans
    (SameRest.foldl (fun e t => t.evalSig_sameRest r.sigs e) _ _)).trans
    (SameRest.foldl (fun y t => t.evalSys_sameRest y _ _) _ _)

theorem State.posCheck_sameRest (s : State) (a : Nat) (fail : Option Bool) : SameRest s (s.posCheck a fail) := by
  unfold State.posCheck
  split
  · exact SameRest.updBv s _
  · exact SameRest.refl s

theorem State.navData_sameRest (s : State) (r : TimeSol) : SameRest s (s.navData r) := by
  unfold State.navData
  simp only
  split
  · exact ((((SameRest.updBv s _).trans (SameRest.updBv _ _)).trans (SameRest.setF _ F.SDL_UTC_TAI_UTC _)).trans
      (SameRest.setF _ F.SDL_UTC_VALID 1)).trans ((SameRest.setF _ F.SDL_UTC_LEAP_PEND _).trans
      (SameRest.setF _ F.SDL_UTC_LEAP_NEG _))
  · exact (SameRest.updBv s _).trans (SameRest.updBv _ _)

/-! ### What follows the showing -/

/-- NSV and BV_CLK_BIAS read as before, and the parts of other units stay. -/
def SolKept (s t : State) : Prop :=
  (t.getF F.BV_STAT_NSV = s.getF F.BV_STAT_NSV ∧ t.getF F.BV_CLK_BIAS = s.getF F.BV_CLK_BIAS) ∧ SameRest s t

section
variable {s t u : State}

theorem SolKept.refl (s : State) : SolKept s s := ⟨⟨rfl, rfl⟩, SameRest.refl s⟩

theorem SolKept.trans (h1 : SolKept s t) (h2 : SolKept t u) : SolKept s u :=
  ⟨⟨h2.1.1.trans h1.1.1, h2.1.2.trans h1.1.2⟩, h1.2.trans h2.2⟩

theorem SolKept.ite {c : Prop} [Decidable c] (ht : SolKept s t) (hu : SolKept s u) :
    SolKept s (if c then t else u) := by
  split
  · exact ht
  · exact hu

theorem SolKept.foldl {α : Type} {f : State → α → State} (hf : ∀ x t, SolKept t (f t x)) (xs : List α) (s : State) :
    SolKept s (xs.foldl f s) :=
  List.foldlRecOn xs f (motive := SolKept s) (SolKept.refl s) fun t ht x _ => ht.trans (hf x t)

theorem SolKept.of_sameUnits (h : SameOn UnitReg s t) (hr : SameRest s t) : SolKept s t :=
  ⟨⟨h.getF ⟨by decide, by decide, by decide⟩, h.getF ⟨by decide, by decide, by decide⟩⟩, hr⟩

end

theorem SolKept.wr (s : State) {a : Nat} (h1 : R.BV_STAT ≠ a) (h2 : R.BV_CLK_BIAS ≠ a) (v : Word) :
    SolKept s (s.wr a v) :=
  ⟨⟨by rw [State.getF, State.getF, State.rd_wr_other s v h1], by rw [State.getF, State.getF, State.rd_wr_other s v h2]⟩,
    SameRest.wr s a v⟩

theorem SolKept.setF (s : State) {f : Fld} (h1 : R.BV_STAT ≠ f.addr) (h2 : R.BV_CLK_BIAS ≠ f.addr) (v : Nat) :
    SolKept s (s.setF f v) := SolKept.wr s h1 h2 _

/-- A field of BV_STAT beside NSV. -/
theorem SolKept.setStat (s : State) {f : Fld} (h : F.BV_STAT_NSV.apartFrom [f] = true) (ha : f.addr = R.BV_STAT)
    (hw : f.lo + f.width ≤ 32) (v : Nat) : SolKept s (s.setF f v) :=
  ⟨⟨(OnlyFields.setF s f v hw).getF h, State.getF_setF_other s f _ v (by rw [ha]; decide)⟩, SameRest.setF s f v⟩

theorem SolKept.updBv (s : State) (g : Bv → Bv) : SolKept s (s.updBv g) := ⟨⟨rfl, rfl⟩, SameRest.updBv s g⟩

theorem SolKept.updPower (s : State) (g : Power → Power) : SolKept s (s.updPower g) := ⟨⟨rfl, rfl⟩, ⟨rfl, rfl, rfl⟩⟩

theorem State.bvEvent_solKept (s : State) (kind index value : Nat) : SolKept s (s.bvEvent kind index value) :=
  SolKept.of_sameUnits ((s.observe_sameUnits _ _).trans (State.vbTrigger_sameUnits _ _ _ _))
    (s.bvEvent_sameRest kind index value)

theorem State.isbStep_solKept (s : State) (r : TimeSol) (sats : List (Nat × Nat)) (y : Nat) :
    SolKept s (s.isbStep r sats y) := by
  have h1 : 0x60000 ≠ 0x60060 + 0x4 * y := by omega
  have h2 : 0x60050 ≠ 0x60060 + 0x4 * y := by omega
  exact (((SolKept.updBv s _).trans (SolKept.setF (f := F.BV_ISBs y) _ h1 h2 _)).trans
    (SolKept.setF (f := ⟨R.BV_ISB_VALID, y, 1⟩) _ (by simp) (by simp) _)).trans
    (SolKept.setF (f := ⟨R.BV_ISB_VALID, 8 + y, 1⟩) _ (by simp) (by simp) _)

theorem State.solEnd_solKept (s : State) (r : TimeSol) (ok : Bool) : SolKept s (s.solEnd r ok) := by
  have hmeas := SolKept.updBv s (fun b => { b with
    meas := if ok then some (roundRat ((r.bias : Int) / (10 : Rat))) else none })
  exact SolKept.ite hmeas (((hmeas.trans (SolKept.setStat (f := F.BV_STAT_TIME_VALID) _ (by decide) rfl (by decide) _)).trans
      (SolKept.setStat (f := F.BV_STAT_INTEG_CHG) _ (by decide) rfl (by decide) 1)).trans (State.bvEvent_solKept _ _ _ _))

theorem State.endSurvey_solKept (s : State) (st : Nat) : SolKept s (s.endSurvey st) :=
  (((SolKept.setStat (f := F.BV_STAT_SURVEY) s (by decide) rfl (by decide) st).trans (SolKept.updBv _ _)).trans
    (SolKept.setStat (f := F.BV_STAT_SURVEY_DONE) _ (by decide) rfl (by decide) 1)).trans (State.bvEvent_solKept _ _ _ _)

theorem State.psRequest_solKept (s : State) (who : PsWho) (ch : PsChange) : SolKept s (s.psRequest who ch) := by
  unfold State.psRequest
  split_ifs <;> exact ⟨⟨rfl, rfl⟩, ⟨rfl, rfl, rfl⟩⟩

theorem State.surveySecond_solKept (s : State) (p : List Int) : SolKept s (s.surveySecond p) := by
  unfold State.surveySecond
  split
  · exact SolKept.refl s
  · have hshown := fun (g : Bv → Bv) (a b : Word) => ((SolKept.updBv s g).trans
      (SolKept.wr _ (a := R.BV_SURVEY_TIME) (by decide) (by decide) a)).trans
      (SolKept.wr _ (a := R.BV_SURVEY_SIGMA) (by decide) (by decide) b)
    simp only
    split_ifs
    · exact (((hshown _ _ _).trans (SolKept.updBv _ _)).trans (State.psRequest_solKept _ _ _)).trans
        (State.endSurvey_solKept _ 2)
    · exact (hshown _ _ _).trans (State.endSurvey_solKept _ 4)
    · exact hshown _ _ _

theorem State.surveyTake_solKept (s : State) (r : TimeSol) : SolKept s (s.surveyTake r) := by
  unfold State.surveyTake
  split
  · exact s.surveySecond_solKept _
  · exact SolKept.refl s

theorem State.handTo_solKept (s : State) (ant sys svid sig elev : Nat) : SolKept s (s.handTo ant sys svid sig elev) := by
  unfold State.handTo
  split
  · split_ifs
    · exact (SolKept.updBv s _).trans ((SolKept.updBv _ _).trans (SolKept.updPower _ _))
    · exact SolKept.refl s
  · unfold State.assign
    split
    · exact SolKept.updBv s _
    · exact SolKept.refl s

theorem State.handoverAll_solKept (s : State) : SolKept s s.handoverAll :=
  SolKept.foldl (fun x t => SolKept.foldl (fun n u => by
    split_ifs
    · exact u.handTo_solKept _ _ _ _ _
    · exact SolKept.refl u) _ t) _ s

/-! ### The showing -/

/-- A field written signed reads what was written, in its width. -/
theorem State.getI_setI_same (s : State) {f : Fld} (h : f.lo + f.width ≤ 32) (v : Int) :
    (s.setI f v).getI f = (BitVec.ofInt f.width v).toInt := by
  refine congrArg BitVec.toInt (BitVec.eq_of_toNat_eq ?_)
  rw [s.getF_setI_same h, BitVec.toNat_ofNat, BitVec.toNat_ofInt]
  refine Nat.mod_eq_of_lt ((Int.toNat_lt' (Nat.two_pow_pos _)).2 ?_)
  exact_mod_cast Int.emod_lt_of_pos v (by positivity)

/-- The satellites used and, where there are any, the clock's bias and drift. -/
def State.solClock (s : State) (r : TimeSol) (sats : List (Nat × Nat)) : State :=
  if sats = [] then s.setF F.BV_STAT_NSV (min sats.length 255)
  else ((s.setF F.BV_STAT_NSV (min sats.length 255)).setI F.BV_CLK_BIAS r.bias).setI F.BV_CLK_DRIFT r.drift

theorem State.solClock_nsv (s : State) (r : TimeSol) (sats : List (Nat × Nat)) :
    (s.solClock r sats).getF F.BV_STAT_NSV = min sats.length 255 := by
  have hnsv : (s.setF F.BV_STAT_NSV (min sats.length 255)).getF F.BV_STAT_NSV = min sats.length 255 := by
    rw [State.getF_setF_same _ _ _ (by decide)]
    exact Nat.mod_eq_of_lt (Nat.lt_succ_of_le (Nat.min_le_right _ _))
  unfold State.solClock
  split
  · exact hnsv
  · rw [State.setI, State.getF_setF_other _ _ _ _ (by decide), State.setI, State.getF_setF_other _ _ _ _ (by decide), hnsv]

theorem State.solClock_bias (s : State) (r : TimeSol) {sats : List (Nat × Nat)} (h : sats ≠ []) :
    (s.solClock r sats).getI F.BV_CLK_BIAS = (BitVec.ofInt F.BV_CLK_BIAS.width r.bias).toInt := by
  rw [State.solClock, if_neg h, ← State.getI_setI_same (s.setF F.BV_STAT_NSV (min sats.length 255)) (by decide) r.bias]
  refine congrArg (fun v => (BitVec.ofNat F.BV_CLK_BIAS.width v).toInt) ?_
  exact State.getF_setF_other _ _ _ _ (by decide)

theorem State.solClock_sameRest (s : State) (r : TimeSol) (sats : List (Nat × Nat)) : SameRest s (s.solClock r sats) :=
  SameRest.ite (SameRest.setF s _ _)
    (((SameRest.setF s _ _).trans (SameRest.setF _ F.BV_CLK_BIAS _)).trans (SameRest.setF _ F.BV_CLK_DRIFT _))

/-- The rest of what a second shows leaves NSV and the bias. -/
theorem State.solShow_solKept (s : State) (r : TimeSol) (sats : List (Nat × Nat)) :
    SolKept (s.solClock r sats) (s.solShow r sats) := by
  unfold State.solShow
  refine SolKept.trans ?_ (SolKept.foldl (fun y t => t.isbStep_solKept r sats y) _ _)
  rw [← State.solClock]
  split
  · exact (SolKept.setF (f := F.BV_POS_DEV_HORIZONTAL) _ (by decide) (by decide) _).trans
      (SolKept.setF (f := F.BV_POS_DEV_VERTICAL) _ (by decide) (by decide) _)
  · exact SolKept.refl _

/-! ### The second -/

/-- The state whose solution is shown: after the navigation data, the position checks and the flags. -/
def State.solChecked (s : State) (r : TimeSol) : State :=
  ((s.navData r).posChecks r (s.navData r).solSats).solFlags r (s.navData r).solSats

theorem State.solChecked_sameRest (s : State) (r : TimeSol) : SameRest s (s.solChecked r) :=
  ((s.navData_sameRest r).trans ((State.posCheck_sameRest _ 0 _).trans (State.posCheck_sameRest _ 1 _))).trans
    (State.solFlags_sameRest _ r _)

/-- What follows the showing of a solution, with its validity. -/
def State.solTail (s : State) (r : TimeSol) (sats : List (Nat × Nat)) (ok : Bool) : State :=
  (((s.solEnd r ok).updBv (fun b => { b with
    lastBias := if sats = [] then none else some r.bias, stepped := false })).surveyTake r).handoverAll

theorem State.solTail_solKept (s : State) (r : TimeSol) (sats : List (Nat × Nat)) (ok : Bool) :
    SolKept s (s.solTail r sats ok) :=
  (((s.solEnd_solKept r ok).trans (SolKept.updBv _ _)).trans (State.surveyTake_solKept _ r)).trans
    (State.handoverAll_solKept _)

theorem exec_timeSolution {s : State} (h : s.bvOn = true) (r : TimeSol) : ∃ ok, exec (.timeSolution r) s =
    .next (((s.solChecked r).solShow r (s.navData r).solSats).solTail r (s.navData r).solSats ok) :=
  ⟨(s.solChecked r).solValid r (s.navData r).solSats ((s.navData r).checkEn 3 && (s.navData r).clockFails r),
    congrArg Host.Outcome.next (if_neg (not_not.2 h))⟩

theorem timeSolution_spec {s : State} (h : s.bvOn = true) (r : TimeSol) : ∃ t, exec (.timeSolution r) s = .next t ∧
    t.getF F.BV_STAT_NSV = min (s.navData r).solSats.length 255 ∧
    ((s.navData r).solSats ≠ [] → t.getI F.BV_CLK_BIAS = (BitVec.ofInt F.BV_CLK_BIAS.width r.bias).toInt) ∧
    t.flash = s.flash ∧ t.axes = s.axes ∧ t.fleet = s.fleet := by
  obtain ⟨ok, hexec⟩ := exec_timeSolution h r
  obtain ⟨⟨hnsv, hbias⟩, hrest⟩ := ((s.solChecked r).solShow_solKept r (s.navData r).solSats).trans
    (State.solTail_solKept _ r (s.navData r).solSats ok)
  refine ⟨_, hexec, hnsv.trans (State.solClock_nsv _ r _), fun hne => ?_, ?_⟩
  · rw [State.getI, hbias]
    exact State.solClock_bias _ r hne
  · exact ((s.solChecked_sameRest r).trans (State.solClock_sameRest _ r _)).trans hrest

/-! ### A chain's noise -/

/-- What a noise measurement shows and counts, in field `f` and for `ms`. -/
def State.noiseTaken (s : State) (f : Fld) (c : Nat) (noise : Int) (ms : Nat) : State :=
  (s.setI f noise).updBv (fun b => { b with noiseMs := b.noiseMs.set c ms })

theorem State.noiseTaken_spec (s : State) {f : Fld} (h : f.lo + f.width ≤ 32) (c : Nat) (noise : Int) (ms : Nat) :
    (s.noiseTaken f c noise ms).getI f = (BitVec.ofInt f.width noise).toInt ∧
      (s.noiseTaken f c noise ms).bv = { s.bv with noiseMs := s.bv.noiseMs.set c ms } ∧
      OnlyFields s (s.noiseTaken f c noise ms) [f] ∧
      s.noiseTaken f c noise ms = { s with
        regs := (s.noiseTaken f c noise ms).regs, bv := (s.noiseTaken f c noise ms).bv } :=
  ⟨s.getI_setI_same h noise, rfl, OnlyFields.setF s f _ h, rfl⟩

theorem getD_set_lt {l : List Nat} {c v n : Nat} (hv : v < n) : (l.set c v).getD c 0 < n := by
  by_cases hc : c < l.length
  · simpa [hc] using hv
  · rw [List.getD_eq_default _ _ (by simpa using hc)]
    omega

/-- A chain above its limit for less than 100 ms is not noisy. -/
theorem State.noiseTaken_quiet (s : State) (f : Fld) (c : Nat) (noise : Int) {ms : Nat} (h : ms < 100) :
    (s.noiseTaken f c noise ms).noisyChain c = false := by
  have hlt := getD_set_lt (l := s.bv.noiseMs) (c := c) h
  have hbv : (s.noiseTaken f c noise ms).bv.noiseMs = s.bv.noiseMs.set c ms := rfl
  rw [State.noisyChain, hbv, decide_eq_false (Nat.not_le.2 hlt), Bool.and_false]

theorem exec_noiseCheck {s : State} {c : Nat} (hc : c ≤ 7) (h4 : s.domOn 4 = true) (hon : s.bvOn = true) {noise : Int}
    {ms : Nat} (hms : (if ((50 * s.integ 25 1 : Nat) : Int) < noise then s.bv.noiseMs.getD c 0 + 10 else 0) = ms)
    (hlow : ms < 100) : exec (.noiseCheck c noise) s = .next (s.noiseTaken (F.BV_NOISEc c) c noise ms) := by
  have hquiet := s.noiseTaken_quiet (F.BV_NOISEc c) c noise hlow
  change execNoiseCheck c noise s = _
  rw [execNoiseCheck, if_neg (by simp [h4, hon, hc]), hms]
  exact congrArg Host.Outcome.next (if_neg (Bool.eq_false_iff.1 hquiet))

end Sys2Proof.Machine
end

section
/-! O50. -/
namespace Sys2Proof.Machine

/-- Settles O50: the antennas and the epoch latch branch by branch; the record by its bytes; the solution through what each
part of a second keeps. -/
theorem antennasAndEpochs : Obligations.AntennasAndEpochs := by
  unfold Obligations.AntennasAndEpochs
  intro s
  refine ⟨fun a ma ha hb => ⟨fun hma => ?_, fun hma => ?_, fun hlo hhi => ?_, exec_antBiasRetry_short ha hb, fun hst => ?_⟩,
    fun a ma ha h => State.antSet_normal_spec ha h ma, exec_antSwitch, fun h => ?_, fun tb hon => ?_, fun h obs => ?_,
    fun e obs h => ⟨exec_baseRecordComplete_not h, baseRecordComplete_spec h⟩, fun r h => ?_,
    fun r h => timeSolution_spec h r, fun c noise hc h4 hon => ?_⟩
  · exact congrArg Host.Outcome.next (if_pos ⟨ha, hb, hma⟩)
  · exact ⟨_, rfl, congrArg Host.Outcome.next (if_pos ⟨ha, hb, hma⟩)⟩
  · exact congrArg Host.Outcome.next (if_pos ⟨ha, hb, hlo, hhi⟩)
  · exact congrArg Host.Outcome.next (if_neg fun ⟨_, _, hc, _⟩ => hst hc)
  · exact congrArg Host.Outcome.next (if_neg fun ⟨_, _, hc, _⟩ => h hc)
  · intro ul mult full
    exact ⟨exec_baseEpochLatch_not, fun hdue hcomes hlast => ⟨exec_baseEpochLatch_room hon hdue hcomes hlast,
      fun hfull hul hmult => exec_baseEpochLatch_full hon hul hmult hcomes hlast hfull⟩⟩
  · change execBaseRecordComplete obs s = _
    rw [execBaseRecordComplete, h]
  · exact congrArg Host.Outcome.next (if_pos (by simp [h]))
  · intro ms hms
    exact ⟨_, exec_noiseCheck hc h4 hon rfl hms, State.noiseTaken_spec s (by simp) c noise ms⟩

end Sys2Proof.Machine
end

section
/-! SUPPORT. What no command takes back, as one value: the operations that leave it, unit by unit. -/
namespace Sys2Proof.Machine

/-- What no command takes back: the part and its stepping, the commands that wait, FRC, the count of free values drawn, the
fuses blown and the signers revoked. -/
def State.lasting (s : State) : Part × Nat × List Instr × DWord × Nat × Nat × Nat × List Nat :=
  (s.part, s.siStep, s.pending, s.frc, s.freeCtr, s.flash.svnFuses, s.flash.wipeFuses, s.flash.revoked)

@[congr] theorem lasting_congr (s : State) : s.lasting = s.lasting := (rfl)

@[simp] theorem lasting_mk {part : Part} {siStep : Nat} {frc : DWord} {regs : List (Nat × Word)} {pending : List Instr}
    {bus : List DWord} {freeCtr : Nat} {power : Power} {xings : List Xing} {pads : Pads} {plan : Plan} {swap : Swap}
    {hspi : Hspi} {eth : Eth} {mbxDirty : List Nat} {leases : List Lease} {strms : List Strm} {arb : Arb} {sdl : Sdl}
    {gzb : Gzb} {vb : Vb} {ps : Ps} {test : Option LinkTest} {axes : List Axis} {bv : Bv} {slv : Slv} {bsa bsb : Band}
    {fleet : Fleet} {pgl : Pgl} {org : Org} {flash : Flash} {upd : Upd} {svc : Svc} :
    (State.mk part siStep frc regs pending bus freeCtr power xings pads plan swap hspi eth mbxDirty leases strms arb sdl gzb
      vb ps test axes bv slv bsa bsb fleet pgl org flash upd svc).lasting =
      (part, siStep, pending, frc, freeCtr, flash.svnFuses, flash.wipeFuses, flash.revoked) := (rfl)

@[simp] theorem lasting_eta (s : State) :
    (s.part, s.siStep, s.pending, s.frc, s.freeCtr, s.flash.svnFuses, s.flash.wipeFuses, s.flash.revoked) = s.lasting := (rfl)

@[simp] theorem lasting_ite {c : Prop} [Decidable c] (s t : State) :
    (if c then s else t).lasting = if c then s.lasting else t.lasting := apply_ite State.lasting c s t

@[simp] theorem lasting_snd_ite {α : Type} {c : Prop} [Decidable c] (x y : α × State) :
    (if c then x else y).2.lasting = if c then x.2.lasting else y.2.lasting := apply_ite (·.2.lasting) c x y

@[simp] theorem lasting_elim {α : Type} (o : Option α) (s : State) (g : α → State) :
    (o.elim s g).lasting = o.elim s.lasting fun a => (g a).lasting := by
  cases o <;> rfl

@[simp] theorem elim_same {α β : Type} (o : Option α) (b : β) : (o.elim b fun _ => b) = b := by
  cases o <;> rfl

@[simp] theorem lasting_foldl {α : Type} {g : State → α → State} (h : ∀ t a, (g t a).lasting = t.lasting) :
    ∀ (l : List α) (s : State), (l.foldl g s).lasting = s.lasting
  | [], _ => rfl
  | a :: l, s => (lasting_foldl h l (g s a)).trans (h s a)

@[simp] theorem lasting_each {α : Type} {g : State → α → State} (h : ∀ t a, (g t a).lasting = t.lasting) (s : State)
    (l : List α) : (s.each l g).lasting = s.lasting := lasting_foldl h l s

@[simp] theorem lasting_wr (s : State) (a : Nat) (v : Word) : (s.wr a v).lasting = s.lasting := (rfl)
@[simp] theorem lasting_resetRange (s : State) (lo hi : Nat) : (s.resetRange lo hi).lasting = s.lasting := (rfl)


/-- A frame gone leaves a state with what no command takes back. -/
def RxOut.Keeps (s : State) : RxOut → Prop
  | .gone t => t.lasting = s.lasting
  | .ok _ => True

@[simp] theorem RxOut.keeps_gone {s t : State} : (RxOut.gone t).Keeps s ↔ t.lasting = s.lasting := Iff.rfl
@[simp] theorem RxOut.keeps_ok {s : State} {x : RxIn} : (RxOut.ok x).Keeps s ↔ True := Iff.rfl

theorem RxOut.Keeps.ite {s : State} {c : Prop} [Decidable c] {x y : RxOut} (hx : x.Keeps s) (hy : y.Keeps s) :
    (if c then x else y).Keeps s := by
  split
  · exact hx
  · exact hy

/-! ### Fields -/

@[simp] theorem State.setF_lasting (s : State) (f : Fld) (v : Nat) : (s.setF f v).lasting = s.lasting := by
  unfold State.setF; simp
@[simp] theorem State.setBit_lasting (s : State) (f : Fld) (i : Nat) : (s.setBit f i).lasting = s.lasting := by
  unfold State.setBit; simp
@[simp] theorem State.clrBit_lasting (s : State) (f : Fld) (i : Nat) : (s.clrBit f i).lasting = s.lasting := by
  unfold State.clrBit; simp
@[simp] theorem State.incF_lasting (s : State) (f : Fld) (n : Nat) : (s.incF f n).lasting = s.lasting := by
  unfold State.incF; simp
@[simp] theorem State.maxF_lasting (s : State) (f : Fld) (n : Nat) : (s.maxF f n).lasting = s.lasting := by
  unfold State.maxF; simp
@[simp] theorem State.setI_lasting (s : State) (f : Fld) (v : Int) : (s.setI f v).lasting = s.lasting := by
  unfold State.setI; simp

/-! ### Base -/

@[simp] theorem State.setDom_lasting (s : State) (d st : Nat) : (s.setDom d st).lasting = s.lasting := by
  unfold State.setDom; simp
@[simp] theorem State.irq_lasting (s : State) (b : Nat) : (s.irq b).lasting = s.lasting := by unfold State.irq; simp
@[simp] theorem State.irqGrp_lasting (s : State) (sec : Bool) (b : Nat) : (s.irqGrp sec b).lasting = s.lasting := by
  unfold State.irqGrp; simp
@[simp] theorem State.secViol_lasting (s : State) : s.secViol.lasting = s.lasting := by unfold State.secViol; simp
@[simp] theorem State.setSwap_lasting (s : State) (st : Nat) : (s.setSwap st).lasting = s.lasting := by
  unfold State.setSwap; simp
@[simp] theorem State.setPlanState_lasting (s : State) (st : Nat) : (s.setPlanState st).lasting = s.lasting := by
  unfold State.setPlanState; simp
@[simp] theorem State.updItem_lasting (s : State) (wid : Nat) (f : WItem → WItem) :
    (s.updItem wid f).lasting = s.lasting := by
  unfold State.updItem; simp
@[simp] theorem State.finish_lasting (s : State) (wid status : Nat) (result : Bytes) :
    (s.finish wid status result).lasting = s.lasting := by
  unfold State.finish; simp

@[simp] theorem State.park_lasting (s : State) (wid : Nat) : (s.park wid).lasting = s.lasting := by
  unfold State.park
  split
  · split <;> simp
  · simp

@[simp] theorem State.updPower_lasting (s : State) (f : Power → Power) : (s.updPower f).lasting = s.lasting := by
  unfold State.updPower; simp
@[simp] theorem State.idleStart_lasting (s : State) (d : Nat) : (s.idleStart d).lasting = s.lasting := by
  unfold State.idleStart; simp
@[simp] theorem State.updXing_lasting (s : State) (i : Nat) (f : Xing → Xing) :
    (s.updXing i f).lasting = s.lasting := by
  unfold State.updXing; simp
@[simp] theorem State.xingPulse_lasting (s : State) (i : Nat) : (s.xingPulse i).lasting = s.lasting := by
  unfold State.xingPulse; simp
@[simp] theorem State.xingLoses_lasting (s : State) (i : Nat) (some' : Bool) :
    (s.xingLoses i some').lasting = s.lasting := by
  unfold State.xingLoses; simp
@[simp] theorem State.wakeBy_lasting (s : State) (b : Nat) : (s.wakeBy b).lasting = s.lasting := by
  unfold State.wakeBy; simp

/-! ### Axes -/

@[simp] theorem State.updAx_lasting (s : State) (n : Nat) (f : Axis → Axis) : (s.updAx n f).lasting = s.lasting := by
  unfold State.updAx; simp

/-! ### Streams -/

@[simp] theorem State.setStrm_lasting (s : State) (w : Nat) (q : Strm) : (s.setStrm w q).lasting = s.lasting := by
  unfold State.setStrm; simp
@[simp] theorem State.pushPkt_lasting (s : State) (w : Nat) (bs : Bytes) : (s.pushPkt w bs).lasting = s.lasting := by
  unfold State.pushPkt; simp
@[simp] theorem State.observe_lasting (s : State) (w : Nat) (bs : Bytes) : (s.observe w bs).lasting = s.lasting := by
  unfold State.observe; simp

@[simp] theorem State.streamPop_lasting (s : State) (w : Nat) : (s.streamPop w).2.lasting = s.lasting := by
  unfold State.streamPop
  repeat' split
  all_goals simp

@[simp] theorem State.streamPush_lasting (s : State) (w : Nat) (v : DWord) :
    (s.streamPush w v).lasting = s.lasting := by
  unfold State.streamPush
  split <;> simp

@[simp] theorem State.flush_lasting (s : State) (w : Nat) : (s.flush w).lasting = s.lasting := by
  unfold State.flush
  split <;> simp

@[simp] theorem State.emptyStreams_lasting (s : State) : s.emptyStreams.lasting = s.lasting := by
  unfold State.emptyStreams; simp
@[simp] theorem State.gzbEvent_lasting (s : State) (kind info value member : Nat) :
    (s.gzbEvent kind info value member).lasting = s.lasting := by
  unfold State.gzbEvent; simp
@[simp] theorem State.nsEvent_lasting (s : State) (unit kind member info value : Nat) :
    (s.nsEvent unit kind member info value).lasting = s.lasting := by
  unfold State.nsEvent; simp
@[simp] theorem State.sdlEvent_lasting (s : State) (kind index tb late t frc : Nat) (secure : Bool) :
    (s.sdlEvent kind index tb late t frc secure).lasting = s.lasting := by
  unfold State.sdlEvent; simp
@[simp] theorem State.sdlOwed_lasting (s : State) : s.sdlOwed.lasting = s.lasting := by unfold State.sdlOwed; simp

/-! ### Arbour's core -/

@[simp] theorem State.hold_lasting (s : State) (d : Nat) (w : HeldWhat) : (s.hold d w).lasting = s.lasting := by
  unfold State.hold; simp
@[simp] theorem State.startPwrUp_lasting (s : State) (d : Nat) : (s.startPwrUp d).lasting = s.lasting := by
  unfold State.startPwrUp; simp
@[simp] theorem State.domEvent_lasting (s : State) (d : Nat) (w : HeldWhat) : (s.domEvent d w).lasting = s.lasting := by
  unfold State.domEvent; simp
@[simp] theorem State.needD13_lasting (s : State) : s.needD13.lasting = s.lasting := by unfold State.needD13; simp
@[simp] theorem State.updTask_lasting (s : State) (t : Nat) (f : TaskSt → TaskSt) :
    (s.updTask t f).lasting = s.lasting := by
  unfold State.updTask; simp

@[simp] theorem State.raiseFlag_lasting (s : State) (t flag : Nat) : (s.raiseFlag t flag).lasting = s.lasting := by
  unfold State.raiseFlag
  dsimp only
  split <;> simp

@[simp] theorem State.clearFlag_lasting (s : State) (t flag : Nat) : (s.clearFlag t flag).lasting = s.lasting := by
  unfold State.clearFlag; simp
@[simp] theorem State.evtSet_lasting (s : State) (secure : Bool) (t flag : Nat) :
    (s.evtSet secure t flag).lasting = s.lasting := by
  unfold State.evtSet; simp
@[simp] theorem State.addItem_lasting (s : State) (g : Grp) (typ task : Nat) (quiet : Bool) (tag : Nat) (args : List
    Nat) (payload : Bytes) :
    (s.addItem g typ task quiet tag args payload).lasting = s.lasting := by
  unfold State.addItem; simp
@[simp] theorem State.raiseTask_lasting (s : State) (t : Nat) : (s.raiseTask t).lasting = s.lasting := by
  unfold State.raiseTask; simp
@[simp] theorem State.raiseOwed_lasting (s : State) : s.raiseOwed.lasting = s.lasting := by unfold State.raiseOwed; simp

/-! ### The recorder -/

@[simp] theorem State.wrList_lasting (s : State) (a : Nat) (ws : List Word) : (s.wrList a ws).lasting = s.lasting := by
  induction ws generalizing s a with
  | nil => rfl
  | cons w ws ih => exact ih _ _

@[simp] theorem State.latchBlock_lasting (s : State) (blk k st : Nat) : (s.latchBlock blk k st).lasting = s.lasting :=
    by
  exact State.wrList_lasting _ _ _

@[simp] theorem State.latchAll_lasting (s : State) (k : Nat) : (s.latchAll k).lasting = s.lasting := by
  unfold State.latchAll; simp
@[simp] theorem State.lateLatch_lasting (s : State) (d : Nat) : (s.lateLatch d).lasting = s.lasting := by
  unfold State.lateLatch; simp

@[simp] theorem State.snap_lasting (s : State) (src : Nat) : (s.snap src).2.lasting = s.lasting := by
  unfold State.snap
  split <;> simp only [lasting_mk, lasting_eta, State.setF_lasting, State.incF_lasting, State.latchAll_lasting]

@[simp] theorem State.setBucket_lasting (s : State) (b : Bucket) : (s.setBucket b).lasting = s.lasting := by
  unfold State.setBucket; simp
@[simp] theorem State.spendToken_lasting (s : State) (c : Nat) : (s.spendToken c).lasting = s.lasting := by
  unfold State.spendToken; simp
@[simp] theorem State.suppress_lasting (s : State) (c : Nat) : (s.suppress c).lasting = s.lasting := by
  unfold State.suppress; simp
@[simp] theorem State.snapJoin_lasting (s : State) (k : Nat) : (s.snapJoin k).lasting = s.lasting := by
  unfold State.snapJoin; simp

@[simp] theorem State.codeSnap_lasting (s : State) (own : Option (Option Nat)) :
    (s.codeSnap own).2.lasting = s.lasting := by
  unfold State.codeSnap
  repeat' split
  all_goals simp

@[simp] theorem State.vbTrigger_lasting (s : State) (code : Nat) (data : Bytes) (own : Option (Option Nat)) (wid :
    Option Nat) :
    (s.vbTrigger code data own wid).lasting = s.lasting := by
  unfold State.vbTrigger
  dsimp only
  repeat' split
  all_goals simp

@[simp] theorem State.snapCode_lasting (s : State) (src code : Nat) (data : Bytes) :
    (s.snapCode src code data).lasting = s.lasting := by
  unfold State.snapCode; simp

/-! ### The gate of register accesses -/

@[simp] theorem State.guardW_lasting {s : State} {m : Master} {a v : Nat} {k : State → State}
    (hk : ∀ t, (k t).lasting = t.lasting) : (s.guardW m a v k).lasting = s.lasting := by
  unfold State.guardW
  split <;> simp [hk]

/-! ### Wicket -/

@[simp] theorem State.wktLoad_lasting (s : State) (n : Nat) : (s.wktLoad n).lasting = s.lasting := by
  unfold State.wktLoad; simp
@[simp] theorem State.wktEvent_lasting (s : State) (kind n info : Nat) (value : Int) :
    (s.wktEvent kind n info value).lasting = s.lasting := by
  unfold State.wktEvent; simp
@[simp] theorem State.setMask_lasting (s : State) (f : Fld) (n : Nat) (b : Bool) :
    (s.setMask f n b).lasting = s.lasting := by
  unfold State.setMask; simp
@[simp] theorem State.setAx_lasting (s : State) (n st : Nat) : (s.setAx n st).lasting = s.lasting := by
  unfold State.setAx; simp

@[simp] theorem State.applyDeferred_lasting (s : State) (n : Nat) : (s.applyDeferred n).lasting = s.lasting := by
  unfold State.applyDeferred
  dsimp only
  repeat' split
  all_goals simp

@[simp] theorem State.enterHold_lasting (s : State) (n : Nat) (p : Int) : (s.enterHold n p).lasting = s.lasting := by
  unfold State.enterHold; simp
@[simp] theorem State.axFinish_lasting (s : State) (n wid st : Nat) : (s.axFinish n wid st).lasting = s.lasting := by
  unfold State.axFinish; simp
@[simp] theorem State.axEnd_lasting (s : State) (n wid st : Nat) (p : Int) :
    (s.axEnd n wid st p).lasting = s.lasting := by
  unfold State.axEnd; simp

@[simp] theorem State.dropPend_lasting (s : State) (n st : Nat) : (s.dropPend n st).lasting = s.lasting := by
  unfold State.dropPend
  split <;> simp

@[simp] theorem State.startTable_lasting (s : State) (n : Nat) (m : WktMove) (ks : List Knot) :
    (s.startTable n m ks).lasting = s.lasting := by
  unfold State.startTable; simp

@[simp] theorem State.tryStart_lasting (s : State) (n : Nat) : (s.tryStart n).lasting = s.lasting := by
  unfold State.tryStart
  split <;> simp

@[simp] theorem State.sharedStart_lasting (s : State) (n : Nat) : (s.sharedStart n).lasting = s.lasting := by
  unfold State.sharedStart
  split <;> simp

@[simp] theorem State.wktStart_lasting (s : State) (mask : Nat) : (s.wktStart mask).lasting = s.lasting := by
  unfold State.wktStart; simp
@[simp] theorem State.axStop_lasting (s : State) (n : Nat) : (s.axStop n).lasting = s.lasting := by
  unfold State.axStop; simp
@[simp] theorem State.wktStop_lasting (s : State) : s.wktStop.lasting = s.lasting := by unfold State.wktStop; simp
@[simp] theorem State.axFault_lasting (s : State) (n bits : Nat) (vm : Int) :
    (s.axFault n bits vm).lasting = s.lasting := by
  unfold State.axFault; simp
@[simp] theorem State.limIgnored_lasting (s : State) (n : Nat) : (s.limIgnored n).lasting = s.lasting := by
  unfold State.limIgnored; simp
@[simp] theorem State.deferred_lasting (s : State) (n info v : Nat) : (s.deferred n info v).lasting = s.lasting := by
  unfold State.deferred; simp

@[simp] theorem State.writeDec_lasting (s : State) (n v : Nat) : (s.writeDec n v).lasting = s.lasting := by
  unfold State.writeDec
  split <;> simp

@[simp] theorem State.writeEdec_lasting (s : State) (n v : Nat) : (s.writeEdec n v).lasting = s.lasting := by
  unfold State.writeEdec; simp
@[simp] theorem State.limitWrite_lasting (s : State) (n off v : Nat) : (s.limitWrite n off v).lasting = s.lasting := by
  unfold State.limitWrite; simp
@[simp] theorem State.axEnable_lasting (s : State) (n : Nat) : (s.axEnable n).lasting = s.lasting := by
  unfold State.axEnable; simp
@[simp] theorem State.axDisable_lasting (s : State) (n : Nat) : (s.axDisable n).lasting = s.lasting := by
  unfold State.axDisable; simp
@[simp] theorem State.axZero_lasting (s : State) (n : Nat) : (s.axZero n).lasting = s.lasting := by
  unfold State.axZero; simp
@[simp] theorem State.axCtrl_lasting (s : State) (n v : Nat) : (s.axCtrl n v).lasting = s.lasting := by
  unfold State.axCtrl; simp
@[simp] theorem State.axFaultClear_lasting (s : State) (n mask absent : Nat) :
    (s.axFaultClear n mask absent).lasting = s.lasting := by
  unfold State.axFaultClear; simp

@[simp] theorem State.wktMove_lasting (s : State) (i : WItem) : (s.wktMove i).lasting = s.lasting := by
  unfold State.wktMove
  dsimp only
  split <;> simp

@[simp] theorem State.wktHome_lasting (s : State) (i : WItem) : (s.wktHome i).lasting = s.lasting := by
  unfold State.wktHome; simp
@[simp] theorem State.homeEnd_lasting (s : State) (n wid st : Nat) (p : Int) :
    (s.homeEnd n wid st p).lasting = s.lasting := by
  unfold State.homeEnd; simp
@[simp] theorem State.homeBrake_lasting (s : State) (n : Nat) (h : Homing) (p v : Rat) (st : Nat) :
    (s.homeBrake n h p v st).lasting = s.lasting := by
  unfold State.homeBrake; simp

@[simp] theorem State.homeStep_lasting (s : State) (n : Nat) : (s.homeStep n).lasting = s.lasting := by
  unfold State.homeStep
  dsimp only
  repeat' split
  all_goals simp

@[simp] theorem State.vmRead_lasting (s : State) (n : Nat) (vm : Int) : (s.vmRead n vm).lasting = s.lasting := by
  unfold State.vmRead; simp

/-! ### Stops -/

@[simp] theorem State.psRequest_lasting (s : State) (who : PsWho) (ch : PsChange) :
    (s.psRequest who ch).lasting = s.lasting := by
  unfold State.psRequest; simp

@[simp] theorem State.endTest_lasting (s : State) (st : Nat) : (s.endTest st).lasting = s.lasting := by
  unfold State.endTest
  split <;> simp only [lasting_mk, lasting_eta, State.setF_lasting, State.finish_lasting, lasting_ite, ite_self]

@[simp] theorem State.stopWords_lasting (s : State) : s.stopWords.lasting = s.lasting := by
  unfold State.stopWords
  split <;> simp only [lasting_mk, lasting_eta, State.setF_lasting]

@[simp] theorem State.startTrain_lasting (s : State) (initial : Bool) : (s.startTrain initial).lasting = s.lasting := by
  unfold State.startTrain
  split <;> simp only [lasting_mk, lasting_eta, State.setF_lasting]

@[simp] theorem State.pglFreeze_lasting (s : State) : s.pglFreeze.lasting = s.lasting := by
  unfold State.pglFreeze
  split
  · rfl
  · simp only [lasting_mk, lasting_eta, State.incF_lasting, State.setF_lasting]
    refine lasting_foldl (fun t r => ?_) _ _
    split <;> simp

@[simp] theorem State.newStop_lasting (s : State) (bit member : Nat) : (s.newStop bit member).lasting = s.lasting := by
  unfold State.newStop
  simp only [lasting_mk, lasting_eta, State.setF_lasting, State.irq_lasting, State.gzbEvent_lasting,
      State.raiseTask_lasting, State.snap_lasting, State.vbTrigger_lasting, State.wktStop_lasting,
      State.endTest_lasting, State.stopWords_lasting, State.startTrain_lasting, State.pglFreeze_lasting]

@[simp] theorem State.addCause_lasting (s : State) (bit : Nat) : (s.addCause bit).lasting = s.lasting := by
  unfold State.addCause; simp
@[simp] theorem State.raiseCause_lasting (s : State) (bit member : Nat) :
    (s.raiseCause bit member).lasting = s.lasting := by
  unfold State.raiseCause; simp

@[simp] theorem State.gzbFault_lasting (s : State) (bit : Nat) : (s.gzbFault bit).lasting = s.lasting := by
  unfold State.gzbFault
  simp only [lasting_mk, lasting_eta, State.setBit_lasting, State.gzbEvent_lasting, State.vbTrigger_lasting,
      State.raiseCause_lasting, lasting_ite, ite_self]

@[simp] theorem State.domResetStop_lasting (s : State) : s.domResetStop.lasting = s.lasting := by
  unfold State.domResetStop; simp

/-! ### Keys -/

@[simp] theorem State.setSlot_lasting (s : State) (n : Nat) (k : KeySlot) : (s.setSlot n k).lasting = s.lasting := by
  unfold State.setSlot; simp
@[simp] theorem State.slotDenied_lasting (s : State) (n : Nat) : (s.slotDenied n).lasting = s.lasting := by
  unfold State.slotDenied; simp
@[simp] theorem State.slotUse_lasting (s : State) (n : Nat) (who : PsWho) : (s.slotUse n who).lasting = s.lasting := by
  unfold State.slotUse; simp

@[simp] theorem State.tryKeys_lasting (s : State) (what : KeyCheck) (ok : Bytes → Bool) (ns : List Nat) :
    (s.tryKeys what ok ns).2.lasting = s.lasting := by
  induction ns generalizing s with
  | nil => rfl
  | cons n ns ih =>
    unfold State.tryKeys
    simp [ih]

@[simp] theorem State.moreKeys_lasting (s : State) (what : KeyCheck) (ok : Bytes → Bool) (n : Nat) (ns : List Nat)
    (counted : Bool) :
    (s.moreKeys what ok n ns counted).2.lasting = s.lasting := by
  unfold State.moreKeys
  split <;> simp

@[simp] theorem State.bands_lasting (s : State) (f : Band → Band) : (s.bands f).lasting = s.lasting := by
  unfold State.bands; simp
@[simp] theorem State.loadKey_lasting (s : State) (e : Nat) (key : Bytes) (session : Nat) :
    (s.loadKey e key session).lasting = s.lasting := by
  unfold State.loadKey; simp
@[simp] theorem State.loadNext_lasting (s : State) (e : Nat) (key : Bytes) :
    (s.loadNext e key).lasting = s.lasting := by
  unfold State.loadNext; simp
@[simp] theorem State.updGzb_lasting (s : State) (f : Gzb → Gzb) : (s.updGzb f).lasting = s.lasting := by
  unfold State.updGzb; simp
@[simp] theorem State.setStopKeys_lasting (s : State) (cur nxt : Option Bytes) :
    (s.setStopKeys cur nxt).lasting = s.lasting := by
  unfold State.setStopKeys; simp

@[simp] theorem State.stopKeyLoad_lasting (s : State) (next : Bool) : (s.stopKeyLoad next).lasting = s.lasting := by
  unfold State.stopKeyLoad
  repeat' split
  all_goals simp

@[simp] theorem State.stopKeySwitch_lasting (s : State) : s.stopKeySwitch.lasting = s.lasting := by
  unfold State.stopKeySwitch
  split <;> simp

/-! ### Gazebo -/

@[simp] theorem State.updTest_lasting (s : State) (i : Nat) (f : LoopTest → LoopTest) :
    (s.updTest i f).lasting = s.lasting := by
  unfold State.updTest; simp
@[simp] theorem State.levelCause_lasting (s : State) (i : Nat) : (s.levelCause i).lasting = s.lasting := by
  unfold State.levelCause; simp
@[simp] theorem State.loopDiff_lasting (s : State) : s.loopDiff.lasting = s.lasting := by unfold State.loopDiff; simp
@[simp] theorem State.loopEdge_lasting (s : State) (i : Nat) : (s.loopEdge i).lasting = s.lasting := by
  unfold State.loopEdge; simp
@[simp] theorem State.pulsePassed_lasting (s : State) (i : Nat) : (s.pulsePassed i).lasting = s.lasting := by
  unfold State.pulsePassed; simp
@[simp] theorem State.padsRight_lasting (s : State) (i : Nat) (v : Int) : (s.padsRight i v).lasting = s.lasting := by
  unfold State.padsRight; simp
@[simp] theorem State.monitor_lasting (s : State) (i : Nat) (v : Int) : (s.monitor i v).lasting = s.lasting := by
  unfold State.monitor; simp
@[simp] theorem State.faultEvents_lasting (s : State) : s.faultEvents.lasting = s.lasting := by
  unfold State.faultEvents; simp
@[simp] theorem State.relOff_lasting (s : State) (k : Nat) : (s.relOff k).lasting = s.lasting := by
  unfold State.relOff; simp
@[simp] theorem State.gzbFaultClear_lasting (s : State) (mask absent : Nat) :
    (s.gzbFaultClear mask absent).lasting = s.lasting := by
  unfold State.gzbFaultClear; simp
@[simp] theorem State.clearRefuse_lasting (s : State) (wid st seq : Nat) :
    (s.clearRefuse wid st seq).lasting = s.lasting := by
  unfold State.clearRefuse; simp

@[simp] theorem State.clearSigned_lasting (s : State) (i : WItem) (ok : Option Bool) :
    (s.clearSigned i ok).lasting = s.lasting := by
  unfold State.clearSigned
  repeat' split
  all_goals simp

@[simp] theorem State.gzbClear_lasting (s : State) (i : WItem) : (s.gzbClear i).lasting = s.lasting := by
  unfold State.gzbClear; simp

@[simp] theorem State.clearGoOn_lasting (s : State) (wid n : Nat) (ns : List Nat) (counted : Bool) :
    (s.clearGoOn wid n ns counted).lasting = s.lasting := by
  unfold State.clearGoOn
  split <;> simp

@[simp] theorem State.clearAccept_lasting (s : State) (wid cnt seq : Nat) :
    (s.clearAccept wid cnt seq).lasting = s.lasting := by
  unfold State.clearAccept; simp

@[simp] theorem State.clearRecheck_lasting (s : State) (wid cnt seq mark : Nat) :
    (s.clearRecheck wid cnt seq mark).lasting = s.lasting := by
  unfold State.clearRecheck
  split <;> simp

@[simp] theorem State.clearStored_lasting (s : State) (wid cnt seq mark : Nat) :
    (s.clearStored wid cnt seq mark).lasting = s.lasting := by
  unfold State.clearStored; simp
@[simp] theorem State.gzbRun_lasting (s : State) : s.gzbRun.lasting = s.lasting := by unfold State.gzbRun; simp

/-! ### The Visitor book -/

@[simp] theorem State.vbCtrlWrite_lasting (s : State) (m : Master) (v : Nat) :
    (s.vbCtrlWrite m v).lasting = s.lasting := by
  unfold State.vbCtrlWrite; simp

@[simp] theorem State.vbDrop_lasting (s : State) (wid : Option Nat) : (s.vbDrop wid).lasting = s.lasting := by
  unfold State.vbDrop
  split <;> simp

@[simp] theorem State.assemble_lasting (s : State) (t : VbTrig) : (s.assemble t).lasting = s.lasting := by
  unfold State.assemble
  simp only [lasting_mk, lasting_eta, State.setF_lasting, State.vbDrop_lasting, lasting_ite, ite_self]

@[simp] theorem State.vbErase_lasting (s : State) (x : Nat) : (s.vbErase x).lasting = s.lasting := by
  unfold State.vbErase; simp

@[simp] theorem State.vbPut_lasting (s : State) (r : VbRec) (sector off : Nat) :
    (s.vbPut r sector off).lasting = s.lasting := by
  unfold State.vbPut
  split <;> simp only [lasting_mk, lasting_eta, State.setF_lasting, State.finish_lasting, State.psRequest_lasting,
      lasting_ite, ite_self]

@[simp] theorem State.putEssential_lasting (s : State) (r : VbRec) : (s.putEssential r).lasting = s.lasting := by
  unfold State.putEssential; simp
@[simp] theorem State.putMain_lasting (s : State) (r : VbRec) : (s.putMain r).lasting = s.lasting := by
  unfold State.putMain; simp

@[simp] theorem State.pushRecs_lasting (s : State) (k : Nat) (rs : List VbRec) (c : Nat × Nat × Nat) :
    (s.pushRecs k rs c).1.lasting = s.lasting := by
  induction k generalizing s rs c with
  | zero => rfl
  | succ k ih =>
    cases rs with
    | nil => rfl
    | cons r rs =>
      unfold State.pushRecs
      split <;> simp [ih]

@[simp] theorem State.vbReadStep_lasting (s : State) (i : WItem) : (s.vbReadStep i).lasting = s.lasting := by
  unfold State.vbReadStep; simp
@[simp] theorem State.testShow_lasting (s : State) (t : LinkTest) : (s.testShow t).lasting = s.lasting := by
  unfold State.testShow; simp

/-! ### Queues -/

@[simp] theorem State.pushPop_lasting {s : State} {q : FleetQ} {pop : Bool} {push take : State → State}
    (hpush : ∀ t, (push t).lasting = t.lasting) (htake : ∀ t, (take t).lasting = t.lasting) :
    (s.pushPop q pop push take).lasting = s.lasting := by
  unfold State.pushPop
  simp [hpush, htake]

/-! ### The radio -/

@[simp] theorem State.updBand_lasting (s : State) (b : Nat) (f : Band → Band) :
    (s.updBand b f).lasting = s.lasting := by
  unfold State.updBand; simp
@[simp] theorem State.dlPush_lasting (s : State) (b : Nat) (f : DlFrame) : (s.dlPush b f).lasting = s.lasting := by
  unfold State.dlPush; simp
@[simp] theorem State.dlHead_lasting (s : State) (b : Nat) (f : DlFrame) : (s.dlHead b f).lasting = s.lasting := by
  unfold State.dlHead; simp
@[simp] theorem State.nextMsg_lasting (s : State) : s.nextMsg.2.lasting = s.lasting := by unfold State.nextMsg; simp
@[simp] theorem State.keyPad_lasting (s : State) (b from_ us : Nat) : (s.keyPad b from_ us).lasting = s.lasting := by
  unfold State.keyPad; simp

theorem State.txFrame_lasting {s : State} {b : Nat} {f : DlFrame} {r : DlFrame × State} (h : s.txFrame b f = some r) :
    r.2.lasting = s.lasting := by
  unfold State.txFrame at h
  split at h
  · cases h
  · split at h
    · cases h
    · cases h
      dsimp only
      cases f.flood <;> cases f.msgId <;> cases f.seq <;> simp

@[simp] theorem State.fleetEvent_lasting (s : State) (kind member info value : Nat) (data : Bytes) :
    (s.fleetEvent kind member info value data).lasting = s.lasting := by
  unfold State.fleetEvent; simp
@[simp] theorem State.setMbr_lasting (s : State) (x : Mbr) : (s.setMbr x).lasting = s.lasting := by
  unfold State.setMbr; simp
@[simp] theorem State.updMbr_lasting (s : State) (m : Nat) (f : Mbr → Mbr) : (s.updMbr m f).lasting = s.lasting := by
  unfold State.updMbr; simp

/-! ### Pergola -/

@[simp] theorem State.updPgl_lasting (s : State) (f : Pgl → Pgl) : (s.updPgl f).lasting = s.lasting := by
  unfold State.updPgl; simp
@[simp] theorem State.setPm_lasting (s : State) (x : PMbr) : (s.setPm x).lasting = s.lasting := by
  unfold State.setPm; simp
@[simp] theorem State.updPm_lasting (s : State) (m : Nat) (f : PMbr → PMbr) : (s.updPm m f).lasting = s.lasting := by
  unfold State.updPm; simp
@[simp] theorem State.pglEvent_lasting (s : State) (kind m info value : Nat) :
    (s.pglEvent kind m info value).lasting = s.lasting := by
  unfold State.pglEvent; simp
@[simp] theorem State.grant_lasting (s : State) (w : Win) : (s.grant w).lasting = s.lasting := by
  unfold State.grant; simp
@[simp] theorem State.grantForced_lasting (s : State) (w : Win) : (s.grantForced w).lasting = s.lasting := by
  unfold State.grantForced; simp
@[simp] theorem State.dropWins_lasting (s : State) (ok : Win → Bool) : (s.dropWins ok).lasting = s.lasting := by
  unfold State.dropWins; simp

@[simp] theorem State.dlGrant_lasting (s : State) (b : Nat) : (s.dlGrant b).lasting = s.lasting := by
  unfold State.dlGrant
  dsimp only
  repeat' split
  all_goals simp

@[simp] theorem State.dlFill_lasting (s : State) (b : Nat) : (s.dlFill b).lasting = s.lasting := by
  unfold State.dlFill; simp
@[simp] theorem State.segDrain_lasting (s : State) : s.segDrain.lasting = s.lasting := by unfold State.segDrain; simp
@[simp] theorem State.enterSeg_lasting (s : State) (m : Nat) (t : SegTab) : (s.enterSeg m t).lasting = s.lasting := by
  unfold State.enterSeg; simp

@[simp] theorem State.sendTabs_lasting (m : Nat) (dwell : Option Int) (ts : List SegTab) (s : State) :
    (State.sendTabs m dwell ts s).lasting = s.lasting := by
  induction ts generalizing s with
  | nil => rfl
  | cons t ts ih =>
    unfold State.sendTabs
    simp [ih]

@[simp] theorem State.planPush_lasting (s : State) (r : PReq) : (s.planPush r).lasting = s.lasting := by
  unfold State.planPush; simp
@[simp] theorem State.replan_lasting (s : State) (m why dev : Nat) (prio : Option Nat) :
    (s.replan m why dev prio).lasting = s.lasting := by
  unfold State.replan; simp

@[simp] theorem State.endReq_lasting (s : State) (r : PReq) (st : Nat) (res : Bytes) :
    (s.endReq r st res).lasting = s.lasting := by
  unfold State.endReq
  split <;> simp

@[simp] theorem State.endStored_lasting (s : State) (m st : Nat) : (s.endStored m st).lasting = s.lasting := by
  unfold State.endStored; simp
@[simp] theorem State.tellOverlap_lasting (s : State) (m e : Nat) (start : Int) (stop : Option Int) :
    (s.tellOverlap m e start stop).lasting = s.lasting := by
  unfold State.tellOverlap; simp

@[simp] theorem State.sendForced_lasting (m : Nat) (ts : List SegTab) (s : State) :
    (State.sendForced m ts s).lasting = s.lasting := by
  induction ts generalizing s with
  | nil => rfl
  | cons t ts ih =>
    unfold State.sendForced
    simp [ih]

@[simp] theorem State.stopTable_lasting (s : State) (m : Nat) : (s.stopTable m).lasting = s.lasting := by
  unfold State.stopTable
  dsimp only
  split <;> simp

@[simp] theorem State.forceOut_lasting (s : State) (m e : Nat) (start : Int) :
    (s.forceOut m e start).lasting = s.lasting := by
  unfold State.forceOut; simp
@[simp] theorem State.force_lasting (s : State) (m kind : Nat) (es : List Nat) :
    (s.force m kind es).lasting = s.lasting := by
  unfold State.force; simp
@[simp] theorem State.parkSpan_lasting (s : State) (m : Nat) : (s.parkSpan m).lasting = s.lasting := by
  unfold State.parkSpan; simp
@[simp] theorem State.parkHere_lasting (s : State) (m : Nat) : (s.parkHere m).lasting = s.lasting := by
  unfold State.parkHere; simp

@[simp] theorem State.closeParks_lasting (s : State) (m : Nat) (ts : List SegTab) :
    (s.closeParks m ts).lasting = s.lasting := by
  unfold State.closeParks
  split <;> simp

@[simp] theorem State.rebase_lasting (s : State) (m : Nat) : (s.rebase m).lasting = s.lasting := by
  unfold State.rebase; simp

@[simp] theorem State.stopReached_lasting (s : State) (m : Nat) : (s.stopReached m).lasting = s.lasting := by
  unfold State.stopReached
  dsimp only
  repeat' split
  all_goals simp

@[simp] theorem State.deviation_lasting (s : State) (m : Nat) (matched : Int × Int) (epoch : Nat) :
    (s.deviation m matched epoch).lasting = s.lasting := by
  unfold State.deviation
  dsimp only
  split <;> simp

@[simp] theorem State.thawMember_lasting (s : State) (m : Nat) : (s.thawMember m).lasting = s.lasting := by
  unfold State.thawMember; simp

@[simp] theorem State.pglPosition_lasting (s : State) (m : Nat) (e n : Int) (epoch : Nat) :
    (s.pglPosition m e n epoch).lasting = s.lasting := by
  unfold State.pglPosition
  split
  · rfl
  · dsimp only
    split
    · rfl
    · simp only [State.stopReached_lasting, lasting_ite, State.thawMember_lasting, State.parkSpan_lasting,
        State.deviation_lasting, State.pglEvent_lasting, State.setF_lasting, State.updPm_lasting, ite_self]

@[simp] theorem State.pglFix_lasting (s : State) (m : Nat) (rec : Bytes) : (s.pglFix m rec).lasting = s.lasting := by
  unfold State.pglFix; simp

@[simp] theorem State.holdMember_lasting (s : State) (m info : Nat) : (s.holdMember m info).lasting = s.lasting := by
  unfold State.holdMember
  dsimp only
  split <;> simp

@[simp] theorem State.pglSilent_lasting (s : State) (m : Nat) : (s.pglSilent m).lasting = s.lasting := by
  unfold State.pglSilent; simp
@[simp] theorem State.pglSilentEnd_lasting (s : State) (m : Nat) : (s.pglSilentEnd m).lasting = s.lasting := by
  unfold State.pglSilentEnd; simp
@[simp] theorem State.leftMember_lasting (s : State) (m : Nat) : (s.leftMember m).lasting = s.lasting := by
  unfold State.leftMember; simp
@[simp] theorem State.pglLeave_lasting (s : State) (m reason : Nat) : (s.pglLeave m reason).lasting = s.lasting := by
  unfold State.pglLeave; simp
@[simp] theorem State.pglActive_lasting (s : State) (m : Nat) : (s.pglActive m).lasting = s.lasting := by
  unfold State.pglActive; simp
@[simp] theorem State.dropTabs_lasting (s : State) (m : Nat) (gone : List Nat) :
    (s.dropTabs m gone).lasting = s.lasting := by
  unfold State.dropTabs; simp

@[simp] theorem State.segReport_lasting (s : State) (m q : Nat) : (s.segReport m q).lasting = s.lasting := by
  unfold State.segReport
  dsimp only
  repeat' split
  all_goals simp

@[simp] theorem State.segDropped_lasting (s : State) (m q : Nat) : (s.segDropped m q).lasting = s.lasting := by
  unfold State.segDropped; simp
@[simp] theorem State.moveWins_lasting (s : State) (d : Int) : (s.moveWins d).lasting = s.lasting := by
  unfold State.moveWins; simp

@[simp] theorem State.steppedTable_lasting (s : State) (m : Nat) : (s.steppedTable m).lasting = s.lasting := by
  unfold State.steppedTable
  dsimp only
  split <;> simp

@[simp] theorem State.pglStep_lasting (s : State) (d slots : Int) : (s.pglStep d slots).lasting = s.lasting := by
  unfold State.pglStep; simp
@[simp] theorem State.clearMember_lasting (s : State) (m : Nat) : (s.clearMember m).lasting = s.lasting := by
  unfold State.clearMember; simp
@[simp] theorem State.pglClear_lasting (s : State) : s.pglClear.lasting = s.lasting := by unfold State.pglClear; simp

/-! ### The planner -/

@[simp] theorem State.planIntake_lasting (s : State) : s.planIntake.lasting = s.lasting := by
  unfold State.planIntake
  split <;> simp

@[simp] theorem State.sendTask_lasting (s : State) (m : Nat) : (s.sendTask m).lasting = s.lasting := by
  unfold State.sendTask
  split <;> simp

@[simp] theorem State.grantPlan_lasting (s : State) (r : PReq) (ts : List SegTab) :
    (s.grantPlan r ts).lasting = s.lasting := by
  unfold State.grantPlan; simp
@[simp] theorem State.noPath_lasting (s : State) (r : PReq) (st : Nat) : (s.noPath r st).lasting = s.lasting := by
  unfold State.noPath; simp
@[simp] theorem State.planEnd_lasting (s : State) : s.planEnd.lasting = s.lasting := by unfold State.planEnd; simp
@[simp] theorem State.pglQueue_lasting (s : State) (wid : Nat) (r : PReq) : (s.pglQueue wid r).lasting = s.lasting := by
  unfold State.pglQueue; simp

@[simp] theorem State.pglPlan_lasting (s : State) (i : WItem) : (s.pglPlan i).lasting = s.lasting := by
  unfold State.pglPlan
  dsimp only
  repeat' split
  all_goals simp

@[simp] theorem State.pglAssign_lasting (s : State) (i : WItem) (again : Option Nat) :
    (s.pglAssign i again).lasting = s.lasting := by
  unfold State.pglAssign
  dsimp only
  repeat' split
  all_goals simp

@[simp] theorem State.cancelReqs_lasting (s : State) (m st : Nat) : (s.cancelReqs m st).lasting = s.lasting := by
  unfold State.cancelReqs; simp

@[simp] theorem State.releaseBeyond_lasting (s : State) (m : Nat) (later : List Nat) :
    (s.releaseBeyond m later).lasting = s.lasting := by
  unfold State.releaseBeyond
  split <;> simp

@[simp] theorem State.releaseFuture_lasting (s : State) (wid m : Nat) :
    (s.releaseFuture wid m).lasting = s.lasting := by
  unfold State.releaseFuture; simp
@[simp] theorem State.releaseAll_lasting (s : State) (wid m : Nat) : (s.releaseAll wid m).lasting = s.lasting := by
  unfold State.releaseAll; simp

/-! ### Belvedere -/

@[simp] theorem State.updBv_lasting (s : State) (f : Bv → Bv) : (s.updBv f).lasting = s.lasting := by
  unfold State.updBv; simp
@[simp] theorem State.setChan_lasting (s : State) (x : BvChan) : (s.setChan x).lasting = s.lasting := by
  unfold State.setChan; simp
@[simp] theorem State.idleChan_lasting (s : State) (c : Nat) : (s.idleChan c).lasting = s.lasting := by
  unfold State.idleChan; simp
@[simp] theorem State.bvEvent_lasting (s : State) (kind index value : Nat) :
    (s.bvEvent kind index value).lasting = s.lasting := by
  unfold State.bvEvent; simp
@[simp] theorem State.antSet_lasting (s : State) (a st ma : Nat) : (s.antSet a st ma).lasting = s.lasting := by
  unfold State.antSet; simp
@[simp] theorem State.setBias_lasting (s : State) (a v : Nat) : (s.setBias a v).lasting = s.lasting := by
  unfold State.setBias; simp
@[simp] theorem State.endSurvey_lasting (s : State) (st : Nat) (abort : Bool) :
    (s.endSurvey st abort).lasting = s.lasting := by
  unfold State.endSurvey; simp
@[simp] theorem State.switchAnt_lasting (s : State) (a : Nat) : (s.switchAnt a).lasting = s.lasting := by
  unfold State.switchAnt; simp

@[simp] theorem State.assign_lasting (s : State) (ant sys svid sig elev st : Nat) :
    (s.assign ant sys svid sig elev st).lasting = s.lasting := by
  unfold State.assign
  split <;> simp

@[simp] theorem State.dropSearch_lasting (s : State) (c : Nat) : (s.dropSearch c).lasting = s.lasting := by
  unfold State.dropSearch; simp

@[simp] theorem State.handTo_lasting (s : State) (ant sys svid sig elev : Nat) :
    (s.handTo ant sys svid sig elev).lasting = s.lasting := by
  unfold State.handTo
  split <;> simp

@[simp] theorem State.handover_lasting (s : State) (x : BvChan) : (s.handover x).lasting = s.lasting := by
  unfold State.handover; simp
@[simp] theorem State.handoverAll_lasting (s : State) : s.handoverAll.lasting = s.lasting := by
  unfold State.handoverAll; simp
@[simp] theorem State.releaseChan_lasting (s : State) (c : Nat) : (s.releaseChan c).lasting = s.lasting := by
  unfold State.releaseChan; simp
@[simp] theorem State.queueSearch_lasting (s : State) (q : BvSearch) : (s.queueSearch q).lasting = s.lasting := by
  unfold State.queueSearch; simp
@[simp] theorem State.noteSky_lasting (s : State) (l : List SkyAim) : (s.noteSky l).lasting = s.lasting := by
  unfold State.noteSky; simp
@[simp] theorem State.runSearch_lasting (s : State) (p : Nat) (q : BvSearch) :
    (s.runSearch p q).lasting = s.lasting := by
  unfold State.runSearch; simp

@[simp] theorem State.skySearch_lasting (s : State) (p : Nat) (aim : SkyAim) :
    (s.skySearch p aim).lasting = s.lasting := by
  unfold State.skySearch
  dsimp only
  repeat' split
  all_goals simp

@[simp] theorem State.detected_lasting (s : State) (ant sys svid sig : Nat) :
    (s.detected ant sys svid sig).lasting = s.lasting := by
  unfold State.detected
  split <;> simp

@[simp] theorem State.skyFill_lasting (s : State) (p sig : Nat) : (s.skyFill p sig).lasting = s.lasting := by
  unfold State.skyFill
  refine lasting_foldl (fun t k => ?_) _ _
  dsimp only
  split
  · split <;> simp
  · rfl

@[simp] theorem State.skyStart_lasting (s : State) : s.skyStart.lasting = s.lasting := by
  unfold State.skyStart
  refine lasting_foldl (fun t n => ?_) _ _
  split <;> simp

@[simp] theorem State.chanIn_lasting {s : State} {c : Nat} {ok : BvChan → Bool} {k : BvChan → State}
    (hk : ∀ x, (k x).lasting = s.lasting) : (s.chanIn c ok k).lasting = s.lasting := by
  unfold State.chanIn
  split <;> simp [hk]

@[simp] theorem State.pullInLost_lasting (s : State) (x : BvChan) : (s.pullInLost x).lasting = s.lasting := by
  unfold State.pullInLost
  split <;> simp

@[simp] theorem State.trackLost_lasting (s : State) (x : BvChan) : (s.trackLost x).lasting = s.lasting := by
  unfold State.trackLost
  split <;> simp

@[simp] theorem State.bvStepped_lasting (s : State) (t0 t1 : Nat) : (s.bvStepped t0 t1).lasting = s.lasting := by
  unfold State.bvStepped; simp
@[simp] theorem State.slvBase_lasting (s : State) : s.slvBase.lasting = s.lasting := by unfold State.slvBase; simp
@[simp] theorem State.putFlags_lasting (s : State) (old new : BvChan) (checks : Nat) :
    (s.putFlags old new checks).lasting = s.lasting := by
  unfold State.putFlags; simp

@[simp] theorem State.evalSig_lasting (s : State) (sigs : List SigEval) (e : SigEval) :
    (s.evalSig sigs e).lasting = s.lasting := by
  unfold State.evalSig
  split <;> simp

@[simp] theorem State.putSys_lasting (s : State) (y : Nat) (newS newN : Bool) (checks : Nat) :
    (s.putSys y newS newN checks).lasting = s.lasting := by
  unfold State.putSys; simp
@[simp] theorem State.evalSys_lasting (s : State) (y raised checks : Nat) :
    (s.evalSys y raised checks).lasting = s.lasting := by
  unfold State.evalSys; simp
@[simp] theorem State.setPos_lasting (s : State) (a : Nat) (p : Option (List Int)) :
    (s.setPos a p).lasting = s.lasting := by
  unfold State.setPos; simp

@[simp] theorem State.surveySecond_lasting (s : State) (p : List Int) : (s.surveySecond p).lasting = s.lasting := by
  unfold State.surveySecond
  split <;> simp

@[simp] theorem State.startSurvey_lasting (s : State) (minT maxT acc : Nat) :
    (s.startSurvey minT maxT acc).lasting = s.lasting := by
  unfold State.startSurvey; simp

@[simp] theorem State.bvPlace_lasting (s : State) : s.bvPlace.lasting = s.lasting := by
  unfold State.bvPlace
  dsimp only
  repeat' split
  all_goals simp

@[simp] theorem State.bvStart_lasting (s : State) : s.bvStart.lasting = s.lasting := by unfold State.bvStart; simp

@[simp] theorem State.posCheck_lasting (s : State) (a : Nat) (fail : Option Bool) :
    (s.posCheck a fail).lasting = s.lasting := by
  unfold State.posCheck
  split <;> simp

@[simp] theorem State.navData_lasting (s : State) (r : TimeSol) : (s.navData r).lasting = s.lasting := by
  unfold State.navData
  split <;> simp

@[simp] theorem State.isbStep_lasting (s : State) (r : TimeSol) (sats : List (Nat × Nat)) (y : Nat) :
    (s.isbStep r sats y).lasting = s.lasting := by
  unfold State.isbStep; simp

@[simp] theorem State.solShow_lasting (s : State) (r : TimeSol) (sats : List (Nat × Nat)) :
    (s.solShow r sats).lasting = s.lasting := by
  unfold State.solShow
  split <;> simp

@[simp] theorem State.solEnd_lasting (s : State) (r : TimeSol) (ok : Bool) : (s.solEnd r ok).lasting = s.lasting := by
  unfold State.solEnd; simp
@[simp] theorem State.posChecks_lasting (s : State) (r : TimeSol) (sats : List (Nat × Nat)) :
    (s.posChecks r sats).lasting = s.lasting := by
  unfold State.posChecks; simp
@[simp] theorem State.solFlags_lasting (s : State) (r : TimeSol) (sats : List (Nat × Nat)) :
    (s.solFlags r sats).lasting = s.lasting := by
  unfold State.solFlags; simp

@[simp] theorem State.surveyTake_lasting (s : State) (r : TimeSol) : (s.surveyTake r).lasting = s.lasting := by
  unfold State.surveyTake
  split <;> simp

@[simp] theorem State.noiseSig_lasting (s : State) (x : BvChan) : (s.noiseSig x).lasting = s.lasting := by
  unfold State.noiseSig; simp
@[simp] theorem State.noiseSys_lasting (s : State) (y : Nat) : (s.noiseSys y).lasting = s.lasting := by
  unfold State.noiseSys; simp

@[simp] theorem State.surveyItem_lasting {s : State} {wid mode : Nat} {k : WItem → State}
    (hk : ∀ i, (k i).lasting = s.lasting) : (s.surveyItem wid mode k).lasting = s.lasting := by
  unfold State.surveyItem
  split <;> simp [hk]

/-! ### SOLVE -/

@[simp] theorem State.updSlv_lasting (s : State) (f : Slv → Slv) : (s.updSlv f).lasting = s.lasting := by
  unfold State.updSlv; simp
@[simp] theorem State.setRover_lasting (s : State) (r : Rover) : (s.setRover r).lasting = s.lasting := by
  unfold State.setRover; simp

@[simp] theorem State.slvDeliver_lasting (s : State) (m epoch status : Nat) (pos : Bytes) (sigma nsv flags nsig : Nat) :
    (s.slvDeliver m epoch status pos sigma nsv flags nsig).lasting = s.lasting := by
  unfold State.slvDeliver
  dsimp only
  repeat' split
  all_goals simp

@[simp] theorem State.slvComplete_lasting (s : State) (m epoch status late : Nat) :
    (s.slvComplete m epoch status late).lasting = s.lasting := by
  unfold State.slvComplete; simp
@[simp] theorem State.payOwed_lasting (s : State) : s.payOwed.lasting = s.lasting := by unfold State.payOwed; simp
@[simp] theorem State.budgetPass_lasting (s : State) : s.budgetPass.1.lasting = s.lasting := by
  unfold State.budgetPass; simp
@[simp] theorem State.budgetBoundary_lasting (s : State) : s.budgetBoundary.lasting = s.lasting := by
  unfold State.budgetBoundary; simp

@[simp] theorem State.obsIntake_lasting (s : State) : s.obsIntake.lasting = s.lasting := by
  unfold State.obsIntake
  split <;> simp

@[simp] theorem State.laneFree_lasting (s : State) (l : Nat) : (s.laneFree l).lasting = s.lasting := by
  unfold State.laneFree; simp
@[simp] theorem State.abandon_lasting (s : State) (l : Nat) (x : ObsRec) : (s.abandon l x).lasting = s.lasting := by
  unfold State.abandon; simp
@[simp] theorem State.deliverFix_lasting (s : State) (x : ObsRec) (l : List Sd) :
    (s.deliverFix x l).lasting = s.lasting := by
  unfold State.deliverFix; simp
@[simp] theorem State.noObs_lasting (s : State) (slot epoch : Nat) : (s.noObs slot epoch).lasting = s.lasting := by
  unfold State.noObs; simp

@[simp] theorem State.roverItem_lasting {s : State} {wid mode : Nat} {k : Nat → State}
    (hk : ∀ m, (k m).lasting = s.lasting) : (s.roverItem wid mode k).lasting = s.lasting := by
  unfold State.roverItem
  split <;> simp [hk]

@[simp] theorem State.fixPull_lasting (s : State) : s.fixPull.lasting = s.lasting := by unfold State.fixPull; simp
@[simp] theorem State.fixLapse_lasting (s : State) : s.fixLapse.lasting = s.lasting := by unfold State.fixLapse; simp
@[simp] theorem State.fixesSent_lasting (s : State) (fs : List FixRec) : (s.fixesSent fs).lasting = s.lasting := by
  unfold State.fixesSent; simp

/-! ### The fleet -/

@[simp] theorem State.updFleet_lasting (s : State) (f : Fleet → Fleet) : (s.updFleet f).lasting = s.lasting := by
  unfold State.updFleet; simp
@[simp] theorem State.markDesync_lasting (s : State) (m : Nat) : (s.markDesync m).lasting = s.lasting := by
  unfold State.markDesync; simp
@[simp] theorem State.endDesync_lasting (s : State) (m : Nat) : (s.endDesync m).lasting = s.lasting := by
  unfold State.endDesync; simp

@[simp] theorem State.partner_lasting (s : State) (m : Nat) (e corr : Int) :
    (s.partner m e corr).lasting = s.lasting := by
  unfold State.partner
  simp only [State.updMbr_lasting]

@[simp] theorem State.nextSetup_lasting (s : State) (m : Nat) : (s.nextSetup m).lasting = s.lasting := by
  unfold State.nextSetup
  split <;> simp

@[simp] theorem State.dropFrame_lasting (s : State) (f : DlFrame) : (s.dropFrame f).lasting = s.lasting := by
  unfold State.dropFrame
  split <;> simp

@[simp] theorem State.dropFrames_lasting (s : State) (m : Nat) (p : DlFrame → Bool) :
    (s.dropFrames m p).lasting = s.lasting := by
  unfold State.dropFrames; simp
@[simp] theorem State.fixSwitch_lasting (s : State) (e : Nat) : (s.fixSwitch e).lasting = s.lasting := by
  unfold State.fixSwitch; simp
@[simp] theorem State.fixSwitches_lasting (s : State) : s.fixSwitches.lasting = s.lasting := by
  unfold State.fixSwitches; simp
@[simp] theorem State.makeFree_lasting (s : State) (m info : Nat) : (s.makeFree m info).lasting = s.lasting := by
  unfold State.makeFree; simp
@[simp] theorem State.joinFinish_lasting (s : State) (m : Nat) (key : Bytes) :
    (s.joinFinish m key).lasting = s.lasting := by
  unfold State.joinFinish; simp
@[simp] theorem State.joinKeyIn_lasting (s : State) (n : Nat) : (s.joinKeyIn n).lasting = s.lasting := by
  unfold State.joinKeyIn; simp

@[simp] theorem State.loadJoinKey_lasting (s : State) : s.loadJoinKey.lasting = s.lasting := by
  unfold State.loadJoinKey
  split <;> simp

@[simp] theorem State.sendNextKey_lasting (s : State) (m e : Nat) : (s.sendNextKey m e).lasting = s.lasting := by
  unfold State.sendNextKey
  split <;> simp

@[simp] theorem State.keySwitches_lasting (s : State) : s.keySwitches.lasting = s.lasting := by
  unfold State.keySwitches; simp
@[simp] theorem State.solveFor_lasting (s : State) (m : Nat) : (s.solveFor m).lasting = s.lasting := by
  unfold State.solveFor; simp

@[simp] theorem State.frameDone_lasting (s : State) (f : DlFrame) : (s.frameDone f).lasting = s.lasting := by
  unfold State.frameDone
  repeat' split
  all_goals simp

@[simp] theorem State.frameLost_lasting (s : State) (f : DlFrame) : (s.frameLost f).lasting = s.lasting := by
  unfold State.frameLost
  split <;> simp

@[simp] theorem State.ackTimeout_lasting (s : State) (b : Nat) : (s.ackTimeout b).lasting = s.lasting := by
  unfold State.ackTimeout
  split <;> simp

@[simp] theorem State.sendFrags_lasting (s : State) (i : WItem) (b : Nat) (fs : List DlFrame) :
    (s.sendFrags i b fs).lasting = s.lasting := by
  unfold State.sendFrags; simp
@[simp] theorem State.bsSend_lasting (s : State) (i : WItem) : (s.bsSend i).lasting = s.lasting := by
  unfold State.bsSend; simp

@[simp] theorem State.memberItem_lasting {s : State} {wid mode : Nat} {k : WItem → Nat → State}
    (hk : ∀ i m, (k i m).lasting = s.lasting) : (s.memberItem wid mode k).lasting = s.lasting := by
  unfold State.memberItem
  split <;> simp [hk]

@[simp] theorem State.expel_lasting (s : State) (wid m : Nat) : (s.expel wid m).lasting = s.lasting := by
  unfold State.expel; simp

/-! ### Received frames -/

@[simp] theorem State.cntAuth_lasting (s : State) (b : Nat) : (s.cntAuth b).lasting = s.lasting := by
  unfold State.cntAuth; simp

@[simp] theorem State.rxCheck_lasting (s : State) (b c : Nat) (psdu : Bytes) (e : Int) : (s.rxCheck b c psdu e).Keeps s
    := by
  unfold State.rxCheck
  split
  · exact rfl
  · refine .ite rfl (.ite (State.incF_lasting _ _ _) (.ite (State.incF_lasting _ _ _) (.ite (State.incF_lasting _ _ _)
      (.ite (State.incF_lasting _ _ _) (.ite (State.incF_lasting _ _ _) (.ite (State.incF_lasting _ _ _) ?_))))))
    split
    · exact State.cntAuth_lasting _ _
    · refine .ite (State.incF_lasting _ _ _) (.ite ((State.setF_lasting _ _ _).trans (State.incF_lasting _ _ _))
        (.ite (State.cntAuth_lasting _ _) ?_))
      split
      · exact State.cntAuth_lasting _ _
      · exact .ite (State.incF_lasting _ _ _) trivial

@[simp] theorem State.entry_lasting (s : State) (x : RxIn) (busy : Bool) : (s.entry x busy).lasting = s.lasting := by
  unfold State.entry; simp

@[simp] theorem State.seenAdd_lasting (s : State) (x : RxIn) : (s.seenAdd x).lasting = s.lasting := by
  unfold State.seenAdd
  split <;> simp

@[simp] theorem State.rxAccept_lasting {s : State} {x : RxIn} {room : Bool} {k : State → State}
    (hk : ∀ t, (k t).lasting = t.lasting) : (s.rxAccept x room k).lasting = s.lasting := by
  unfold State.rxAccept
  simp [hk]

@[simp] theorem State.rxPush_lasting (s : State) (x : RxIn) : (s.rxPush x).lasting = s.lasting := by
  unfold State.rxPush; simp

@[simp] theorem State.rxOf_lasting {s : State} {t b c : Nat} {psdu : Bytes} {e : Int} {k : State → RxIn → State}
    (hk : ∀ u x, (k u x).lasting = u.lasting) : (s.rxOf t b c psdu e k).lasting = s.lasting := by
  unfold State.rxOf
  split
  · rfl
  · have h0 : (if s.inWindow b c e then s.updBand b (fun x => { x with demod := c :: x.demod }) else s).lasting =
      s.lasting := by
      simp
    dsimp only
    have h1 := State.rxCheck_lasting (if s.inWindow b c e then s.updBand b (fun x => { x with demod := c :: x.demod })
        else s)
      b c psdu e
    split
    next heq =>
      rw [heq] at h1
      exact h1.trans h0
    · exact (hk _ _).trans h0

@[simp] theorem State.robotStat_lasting (s : State) (m st : Nat) : (s.robotStat m st).lasting = s.lasting := by
  unfold State.robotStat; simp
@[simp] theorem State.selfReport_lasting (s : State) (m : Nat) (rec : Bytes) (epoch : Option Nat) :
    (s.selfReport m rec epoch).lasting = s.lasting := by
  unfold State.selfReport; simp
@[simp] theorem State.beaconSeen_lasting (s : State) (m : Nat) : (s.beaconSeen m).lasting = s.lasting := by
  unfold State.beaconSeen; simp
@[simp] theorem State.activate_lasting (s : State) (m : Nat) : (s.activate m).lasting = s.lasting := by
  unfold State.activate; simp
@[simp] theorem State.ctrl_lasting (s : State) (x : RxIn) : (s.ctrl x).lasting = s.lasting := by unfold State.ctrl; simp

@[simp] theorem State.obs_lasting (s : State) (x : RxIn) : (s.obs x).lasting = s.lasting := by
  unfold State.obs
  simp only [State.updSlv_lasting, State.robotStat_lasting, State.selfReport_lasting, lasting_ite, ite_self]

@[simp] theorem State.status_lasting (s : State) (x : RxIn) : (s.status x).lasting = s.lasting := by
  unfold State.status; simp

/-! ### Orangery -/

@[simp] theorem State.updOrg_lasting (s : State) (f : Org → Org) : (s.updOrg f).lasting = s.lasting := by
  unfold State.updOrg; simp
@[simp] theorem State.kuRefuse_lasting (s : State) (wid : Nat) (p : Bytes) (st idx : Nat) :
    (s.kuRefuse wid p st idx).lasting = s.lasting := by
  unfold State.kuRefuse; simp

@[simp] theorem State.kuStart_lasting (s : State) (i : WItem) : (s.kuStart i).lasting = s.lasting := by
  unfold State.kuStart
  split <;> simp

@[simp] theorem State.kuNext_lasting (n : Nat) (s : State) : (State.kuNext n s).lasting = s.lasting := by
  induction n generalizing s with
  | zero => rfl
  | succ n ih =>
    unfold State.kuNext
    split
    · dsimp only
      split <;> simp [ih]
    · rfl

@[simp] theorem State.deriveItem_lasting {s : State} {wid mode : Nat} {k : WItem → State}
    (hk : ∀ i, (k i).lasting = s.lasting) : (s.deriveItem wid mode k).lasting = s.lasting := by
  unfold State.deriveItem
  split <;> simp [hk]

/-! ### Sundial -/

@[simp] theorem State.updSdl_lasting (s : State) (f : Sdl → Sdl) : (s.updSdl f).lasting = s.lasting := by
  unfold State.updSdl; simp
@[simp] theorem State.retime_lasting (s : State) (k : Nat) (adj : Int) : (s.retime k adj).lasting = s.lasting := by
  unfold State.retime; simp
@[simp] theorem State.retimeAll_lasting (s : State) : s.retimeAll.lasting = s.lasting := by unfold State.retimeAll; simp
@[simp] theorem State.copyTb1_lasting (s : State) : s.copyTb1.lasting = s.lasting := by unfold State.copyTb1; simp
@[simp] theorem State.setCmpTarget_lasting (s : State) (x t : Nat) : (s.setCmpTarget x t).lasting = s.lasting := by
  unfold State.setCmpTarget; simp
@[simp] theorem State.pinAction_lasting (s : State) (n op us : Nat) : (s.pinAction n op us).lasting = s.lasting := by
  unfold State.pinAction; simp
@[simp] theorem State.convertAt_lasting (s : State) (f : Nat) : (s.convertAt f).lasting = s.lasting := by
  unfold State.convertAt; simp
@[simp] theorem State.convert_lasting (s : State) : s.convert.lasting = s.lasting := by unfold State.convert; simp
@[simp] theorem State.cmpActions_lasting (s : State) (k i : Nat) (late : Bool) :
    (s.cmpActions k i late).lasting = s.lasting := by
  unfold State.cmpActions; simp

@[simp] theorem State.cmpEval_lasting (s : State) (k i : Nat) : (s.cmpEval k i).2.lasting = s.lasting := by
  unfold State.cmpEval
  simp only [lasting_snd_ite, lasting_ite, ite_self, State.incF_lasting, State.setF_lasting, State.setCmpTarget_lasting,
      State.cmpActions_lasting]

@[simp] theorem State.cmpStep_lasting (s : State) (k : Nat) : (s.cmpStep k).lasting = s.lasting := by
  unfold State.cmpStep; simp
@[simp] theorem State.cmpArm_lasting (s : State) (m : Master) (k i : Nat) (disarm : Bool) :
    (s.cmpArm m k i disarm).lasting = s.lasting := by
  unfold State.cmpArm; simp
@[simp] theorem State.cmpDisarm_lasting (s : State) (m : Master) (k i : Nat) :
    (s.cmpDisarm m k i).lasting = s.lasting := by
  unfold State.cmpDisarm; simp
@[simp] theorem State.cmpHit_lasting (s : State) (x : Nat) : (s.cmpHit x).lasting = s.lasting := by
  unfold State.cmpHit; simp
@[simp] theorem State.tbSample_lasting (s : State) (m : Master) (k : Nat) : (s.tbSample m k).2.lasting = s.lasting := by
  unfold State.tbSample; simp
@[simp] theorem State.setSlotRun_lasting (s : State) : s.setSlotRun.lasting = s.lasting := by
  unfold State.setSlotRun; simp
@[simp] theorem State.tbState_lasting (s : State) (st : Nat) : (s.tbState st).lasting = s.lasting := by
  unfold State.tbState; simp

@[simp] theorem State.untrusted_lasting (s : State) : s.untrusted.lasting = s.lasting := by
  unfold State.untrusted
  simp only [lasting_mk, lasting_eta, State.setF_lasting, lasting_ite, ite_self]

@[simp] theorem State.joinTb1_lasting (s : State) : s.joinTb1.lasting = s.lasting := by unfold State.joinTb1; simp
@[simp] theorem State.enterHoldover_lasting (s : State) : s.enterHoldover.lasting = s.lasting := by
  unfold State.enterHoldover; simp
@[simp] theorem State.stepTb0_lasting (s : State) (d : Int) : (s.stepTb0 d).lasting = s.lasting := by
  unfold State.stepTb0; simp
@[simp] theorem State.measured0_lasting (s : State) (off : Int) (est : Nat) :
    (s.measured0 off est).lasting = s.lasting := by
  unfold State.measured0; simp
@[simp] theorem State.ptpSet_lasting (s : State) (n st : Nat) : (s.ptpSet n st).lasting = s.lasting := by
  unfold State.ptpSet; simp
@[simp] theorem State.ptpFollow_lasting (s : State) (p : Option Nat) : (s.ptpFollow p).lasting = s.lasting := by
  unfold State.ptpFollow; simp
@[simp] theorem State.ptpSilent_lasting (s : State) (n : Nat) : (s.ptpSilent n).lasting = s.lasting := by
  unfold State.ptpSilent; simp
@[simp] theorem State.capture_lasting (s : State) (index phase : Nat) :
    (s.capture index phase).lasting = s.lasting := by
  unfold State.capture; simp
@[simp] theorem State.ppsGate_lasting (s : State) : s.ppsGate.lasting = s.lasting := by unfold State.ppsGate; simp

@[simp] theorem State.steerItem_lasting {s : State} {wid mode : Nat} {ok : WItem → Bool} {k : WItem → State}
    (hk : ∀ i, (k i).lasting = s.lasting) : (s.steerItem wid mode ok k).lasting = s.lasting := by
  unfold State.steerItem
  split <;> simp [hk]

/-! ### Completions -/

@[simp] theorem State.updArb_lasting (s : State) (f : Arb → Arb) : (s.updArb f).lasting = s.lasting := by
  unfold State.updArb; simp
@[simp] theorem State.setWaits_lasting (s : State) (g : Grp) (w : List Bytes) :
    (s.setWaits g w).lasting = s.lasting := by
  unfold State.setWaits; simp
@[simp] theorem State.svcReply_lasting (s : State) (cmd seq status : Nat) (data : Bytes) :
    (s.svcReply cmd seq status data).lasting = s.lasting := by
  unfold State.svcReply; simp

@[simp] theorem State.complete_lasting (s : State) (wid : Nat) : (s.complete wid).lasting = s.lasting := by
  unfold State.complete
  split <;> simp

@[simp] theorem State.completeAll_lasting (s : State) (wids : List Nat) (status : Nat) :
    (s.completeAll wids status).lasting = s.lasting := by
  unfold State.completeAll; simp
@[simp] theorem State.pushRefusal_lasting (s : State) (g : Grp) (b : Bytes) :
    (s.pushRefusal g b).lasting = s.lasting := by
  unfold State.pushRefusal; simp
@[simp] theorem State.lockoutItems_lasting (s : State) (d : Nat) : (s.lockoutItems d).lasting = s.lasting := by
  unfold State.lockoutItems; simp

@[simp] theorem State.loseD3_lasting (s : State) : s.loseD3.lasting = s.lasting := by
  unfold State.loseD3
  simp only [lasting_mk, lasting_eta, State.setF_lasting, State.updArb_lasting]

/-! ### Mailboxes and claims -/

@[simp] theorem State.updEnd_lasting (s : State) (code part : Nat) : (s.updEnd code part).lasting = s.lasting := by
  unfold State.updEnd
  simp only [lasting_mk, lasting_eta, State.setF_lasting, lasting_ite, ite_self]

@[simp] theorem State.updRelease_lasting (s : State) (lock : Nat) : (s.updRelease lock).lasting = s.lasting := by
  unfold State.updRelease; simp

@[simp] theorem State.mbxWake_lasting (s : State) (c : Nat) : (s.mbxWake c).lasting = s.lasting := by
  unfold State.mbxWake
  split <;> simp

@[simp] theorem State.mbxPostMsg_lasting (s : State) (c : Nat) : (s.mbxPostMsg c).lasting = s.lasting := by
  unfold State.mbxPostMsg
  simp only [lasting_mk, lasting_eta, State.setF_lasting, State.domEvent_lasting, State.mbxWake_lasting, lasting_ite,
      ite_self]

@[simp] theorem State.mbxCtrlWrite_lasting (s : State) (m : Master) (c v : Nat) :
    (s.mbxCtrlWrite m c v).lasting = s.lasting := by
  unfold State.mbxCtrlWrite
  simp only [lasting_mk, lasting_eta, State.setF_lasting, State.irqGrp_lasting, State.mbxPostMsg_lasting, lasting_ite,
      ite_self]

@[simp] theorem State.mbxDataWrite_lasting (s : State) (c k v : Nat) : (s.mbxDataWrite c k v).lasting = s.lasting := by
  unfold State.mbxDataWrite; simp
@[simp] theorem State.senderReset_lasting (s : State) (c : Nat) : (s.senderReset c).lasting = s.lasting := by
  unfold State.senderReset; simp
@[simp] theorem State.mbxDeviceReset_lasting (s : State) : s.mbxDeviceReset.lasting = s.lasting := by
  unfold State.mbxDeviceReset; simp
@[simp] theorem State.claimIrq_lasting (s : State) (n : Nat) : (s.claimIrq n).lasting = s.lasting := by
  unfold State.claimIrq; simp
@[simp] theorem State.leaseStart_lasting (s : State) (n : Nat) : (s.leaseStart n).lasting = s.lasting := by
  unfold State.leaseStart; simp
@[simp] theorem State.claimFree_lasting (s : State) (n : Nat) : (s.claimFree n).lasting = s.lasting := by
  unfold State.claimFree; simp
@[simp] theorem State.claimForce_lasting (s : State) (n : Nat) : (s.claimForce n).lasting = s.lasting := by
  unfold State.claimForce; simp
@[simp] theorem State.claimTroubleAt_lasting (s : State) (id n : Nat) :
    (s.claimTroubleAt id n).lasting = s.lasting := by
  unfold State.claimTroubleAt; simp
@[simp] theorem State.claimTrouble_lasting (s : State) (m : Master) : (s.claimTrouble m).lasting = s.lasting := by
  unfold State.claimTrouble; simp

@[simp] theorem State.claimRead_lasting (s : State) (m : Master) (n : Nat) :
    (s.claimRead m n).2.lasting = s.lasting := by
  unfold State.claimRead
  split
  · simp
  · split <;> simp

@[simp] theorem State.claimWrite_lasting (s : State) (m : Master) (n v : Nat) :
    (s.claimWrite m n v).lasting = s.lasting := by
  unfold State.claimWrite; simp
@[simp] theorem State.leaseWrite_lasting (s : State) (m : Master) (n v : Nat) :
    (s.leaseWrite m n v).lasting = s.lasting := by
  unfold State.leaseWrite; simp

@[simp] theorem State.guardR_lasting {s : State} {m : Master} {a : Nat} {k : State → DWord × State}
    (hk : ∀ t, (k t).2.lasting = t.lasting) : (s.guardR m a k).2.lasting = s.lasting := by
  unfold State.guardR
  split <;> simp [hk]

@[simp] theorem State.onBus_lasting (r : DWord × State) : (State.onBus r).lasting = r.2.lasting := by
  unfold State.onBus; simp
@[simp] theorem State.hostReset_lasting (s : State) (m : Master) (v : Nat) : (s.hostReset m v).lasting = s.lasting := by
  unfold State.hostReset; simp
@[simp] theorem State.streamWrite_lasting (s : State) (w : Nat) (v : DWord) :
    (s.streamWrite w v).lasting = s.lasting := by
  unfold State.streamWrite; simp
@[simp] theorem State.strmCtrlWrite_lasting (s : State) (w v : Nat) : (s.strmCtrlWrite w v).lasting = s.lasting := by
  unfold State.strmCtrlWrite; simp
@[simp] theorem State.strmGrant_lasting (s : State) (w : Nat) (m : Master) : (s.strmGrant w m).lasting = s.lasting := by
  unfold State.strmGrant; simp

/-! ### Domains and resets -/

@[simp] theorem State.hostFlush_lasting (s : State) : s.hostFlush.lasting = s.lasting := by unfold State.hostFlush; simp
@[simp] theorem State.loseD2_lasting (s : State) : s.loseD2.lasting = s.lasting := by unfold State.loseD2; simp
@[simp] theorem State.arbRegs_lasting (s : State) : s.arbRegs.lasting = s.lasting := by unfold State.arbRegs; simp
@[simp] theorem State.loseArbour_lasting (s : State) : s.loseArbour.lasting = s.lasting := by
  unfold State.loseArbour; simp
@[simp] theorem State.linkSlow_lasting (s : State) : s.linkSlow.lasting = s.lasting := by unfold State.linkSlow; simp

@[simp] theorem State.bandLoses_lasting (s : State) (b : Nat) : (s.bandLoses b).lasting = s.lasting := by
  unfold State.bandLoses
  refine lasting_foldl (fun t f => ?_) _ _
  split <;> simp

@[simp] theorem State.expireSlots_lasting (s : State) (doms : List Nat) : (s.expireSlots doms).lasting = s.lasting := by
  unfold State.expireSlots; simp

@[simp] theorem State.loseDom_lasting (s : State) (d : Nat) (retain : Bool) :
    (s.loseDom d retain).lasting = s.lasting := by
  unfold State.loseDom
  split <;> simp

@[simp] theorem State.shutdown_lasting (s : State) (d : Nat) : (s.shutdown d).lasting = s.lasting := by
  unfold State.shutdown; simp
@[simp] theorem State.domLeave_lasting (s : State) (d : Nat) : (s.domLeave d).lasting = s.lasting := by
  unfold State.domLeave; simp
@[simp] theorem State.domOnReq_lasting (s : State) (d : Nat) : (s.domOnReq d).lasting = s.lasting := by
  unfold State.domOnReq; simp
@[simp] theorem State.domWake_lasting (s : State) (d : Nat) : (s.domWake d).lasting = s.lasting := by
  unfold State.domWake; simp
@[simp] theorem State.domOffReq_lasting (s : State) (d : Nat) : (s.domOffReq d).lasting = s.lasting := by
  unfold State.domOffReq; simp
@[simp] theorem State.domResetNow_lasting (s : State) (ds : List Nat) : (s.domResetNow ds).lasting = s.lasting := by
  unfold State.domResetNow; simp
@[simp] theorem State.domResetOver_lasting (s : State) (d : Nat) : (s.domResetOver d).lasting = s.lasting := by
  unfold State.domResetOver; simp
@[simp] theorem State.reachOff_lasting (s : State) (d : Nat) : (s.reachOff d).lasting = s.lasting := by
  unfold State.reachOff; simp
@[simp] theorem State.holdUp_lasting (s : State) : s.holdUp.lasting = s.lasting := by unfold State.holdUp; simp

@[simp] theorem State.domFaultClear_lasting (s : State) (d : Nat) : (s.domFaultClear d).lasting = s.lasting := by
  unfold State.domFaultClear
  dsimp only
  repeat' split
  all_goals simp

@[simp] theorem State.holdReset_lasting (s : State) (d : Nat) : (s.holdReset d).lasting = s.lasting := by
  unfold State.holdReset; simp
@[simp] theorem State.lodgeReset_lasting (s : State) : s.lodgeReset.lasting = s.lasting := by
  unfold State.lodgeReset; simp
@[simp] theorem State.resetDoms_lasting (s : State) (src : ResetSrc) (doms : List Nat) :
    (s.resetDoms src doms).lasting = s.lasting := by
  unfold State.resetDoms; simp
@[simp] theorem State.resetAll_lasting (s : State) (src : ResetSrc) : (s.resetAll src).lasting = s.lasting := by
  unfold State.resetAll; simp
@[simp] theorem State.holdEnd_lasting (s : State) (src : ResetSrc) : (s.holdEnd src).lasting = s.lasting := by
  unfold State.holdEnd; simp
@[simp] theorem State.rstReq_lasting (s : State) (v : Nat) : (s.rstReq v).lasting = s.lasting := by
  unfold State.rstReq; simp

@[simp] theorem State.setLock_lasting (s : State) (p : Pll) (v : Bool) : (s.setLock p v).lasting = s.lasting := by
  unfold State.setLock
  repeat' split
  all_goals simp

@[simp] theorem State.pllLose_lasting (s : State) (p : Pll) : (s.pllLose p).lasting = s.lasting := by
  unfold State.pllLose
  split
  · simp
  · split <;> simp

@[simp] theorem State.xingItems_lasting (s : State) (i : Nat) : (s.xingItems i).2.lasting = s.lasting := by
  unfold State.xingItems
  split <;> simp

@[simp] theorem State.xingsUp_lasting (s : State) (d : Nat) : (s.xingsUp d).lasting = s.lasting := by
  unfold State.xingsUp; simp
@[simp] theorem State.pwrReq_lasting (s : State) (v : Nat) : (s.pwrReq v).lasting = s.lasting := by
  unfold State.pwrReq; simp
@[simp] theorem State.frcFire_lasting (s : State) : s.frcFire.lasting = s.lasting := by unfold State.frcFire; simp
@[simp] theorem State.wakeArm_lasting (s : State) (hi : Nat) : (s.wakeArm hi).lasting = s.lasting := by
  unfold State.wakeArm; simp

@[simp] theorem State.saveCompares_lasting (s : State) : s.saveCompares.lasting = s.lasting := by
  unfold State.saveCompares
  dsimp only
  split <;> simp

@[simp] theorem State.restoreCompares_lasting (s : State) : s.restoreCompares.lasting = s.lasting := by
  unfold State.restoreCompares
  split <;> simp

@[simp] theorem State.entryStop_lasting (s : State) : s.entryStop.lasting = s.lasting := by unfold State.entryStop; simp
@[simp] theorem State.swapCancel_lasting (s : State) : s.swapCancel.lasting = s.lasting := by
  unfold State.swapCancel; simp
@[simp] theorem State.entryBegin_lasting (s : State) : s.entryBegin.lasting = s.lasting := by
  unfold State.entryBegin; simp

@[simp] theorem State.entryDone_lasting (s : State) : s.entryDone.lasting = s.lasting := by
  unfold State.entryDone
  simp only [lasting_mk, lasting_eta, State.setF_lasting, State.updPower_lasting, State.updArb_lasting,
      State.loseArbour_lasting, lasting_ite, ite_self]

@[simp] theorem State.shedDom_lasting (s : State) (d : Nat) : (s.shedDom d).lasting = s.lasting := by
  unfold State.shedDom; simp

/-! ### Swaps -/

@[simp] theorem State.planSigned_lasting (s : State) (what : KeyCheck) (b : Bytes) :
    (s.planSigned what b).2.lasting = s.lasting := by
  unfold State.planSigned
  dsimp only
  split <;> simp

@[simp] theorem State.checkImage_lasting (s : State) (what : KeyCheck) (b : Bytes) (base : Option (List (Nat × Bytes)))
    :
    (s.checkImage what b base).2.lasting = s.lasting := by
  unfold State.checkImage
  split <;> simp

@[simp] theorem State.moreImage_lasting (s : State) (what : KeyCheck) (b : Bytes) (base : Option (List (Nat × Bytes)))
    (n : Nat) (ns : List Nat) (counted : Bool) :
    (s.moreImage what b base n ns counted).2.lasting = s.lasting := by
  unfold State.moreImage; simp
@[simp] theorem State.swapRecord_lasting (s : State) : s.swapRecord.lasting = s.lasting := by
  unfold State.swapRecord; simp
@[simp] theorem State.swapRefuse_lasting (s : State) (code : Nat) : (s.swapRefuse code).lasting = s.lasting := by
  unfold State.swapRefuse; simp
@[simp] theorem State.swapStore_lasting (s : State) : s.swapStore.lasting = s.lasting := by unfold State.swapStore; simp
@[simp] theorem State.setSwapAsn_lasting (s : State) (asn : Nat) : (s.setSwapAsn asn).lasting = s.lasting := by
  unfold State.setSwapAsn; simp
@[simp] theorem State.swapAccepted_lasting (s : State) : s.swapAccepted.lasting = s.lasting := by
  unfold State.swapAccepted; simp
@[simp] theorem State.swapGo_lasting (s : State) (len : Nat) (second : Bool) :
    (s.swapGo len second).lasting = s.lasting := by
  unfold State.swapGo; simp

@[simp] theorem State.swapChecked_lasting (s : State) (res : Option (Except (Nat × Nat) PlanParts)) :
    (s.swapChecked res).lasting = s.lasting := by
  unfold State.swapChecked
  split <;> simp

@[simp] theorem State.swapCheck_lasting (s : State) : s.swapCheck.lasting = s.lasting := by unfold State.swapCheck; simp
@[simp] theorem State.swapGoOn_lasting (s : State) (n : Nat) (ns : List Nat) (counted : Bool) :
    (s.swapGoOn n ns counted).lasting = s.lasting := by
  unfold State.swapGoOn; simp
@[simp] theorem State.swapAnnounced_lasting (s : State) : s.swapAnnounced.lasting = s.lasting := by
  unfold State.swapAnnounced; simp
@[simp] theorem State.setRadio_lasting (s : State) (r : Nat × Nat × Nat) : (s.setRadio r).lasting = s.lasting := by
  unfold State.setRadio; simp
@[simp] theorem State.takeCarrier_lasting (s : State) : s.takeCarrier.lasting = s.lasting := by
  unfold State.takeCarrier; simp

@[simp] theorem State.accelDefer_lasting (s : State) (oldDec : Nat → Nat) (m : Nat) :
    (s.accelDefer oldDec m).lasting = s.lasting := by
  unfold State.accelDefer
  split <;> simp

@[simp] theorem State.swapEffective_lasting (s : State) : s.swapEffective.lasting = s.lasting := by
  unfold State.swapEffective; simp

/-! ### Field update -/

@[simp] theorem State.updShow_lasting (s : State) : s.updShow.lasting = s.lasting := by unfold State.updShow; simp
@[simp] theorem State.updRecord_lasting (s : State) : s.updRecord.lasting = s.lasting := by unfold State.updRecord; simp

@[simp] theorem State.putSlots_lasting (s : State) (fw : Option (List (Nat × Bytes))) (plan : Option Bytes) :
    (s.putSlots fw plan).lasting = s.lasting := by
  unfold State.putSlots
  dsimp only
  repeat' split
  all_goals simp

@[simp] theorem State.program_lasting (s : State) : s.program.lasting = s.lasting := by unfold State.program; simp

@[simp] theorem State.updBegin_lasting (s : State) (src : Nat) (h : Bytes) :
    (s.updBegin src h).2.lasting = s.lasting := by
  unfold State.updBegin
  dsimp only
  repeat' split
  all_goals simp only [lasting_mk, lasting_eta, State.setF_lasting, State.updEnd_lasting, State.program_lasting]

@[simp] theorem State.updData_lasting (s : State) (src off : Nat) (b : Bytes) :
    (s.updData src off b).2.lasting = s.lasting := by
  unfold State.updData
  repeat' split
  all_goals simp

@[simp] theorem State.updVerdict_lasting (s : State) (f : Option (Nat × Nat)) :
    (s.updVerdict f).2.lasting = s.lasting := by
  unfold State.updVerdict
  split <;> simp

@[simp] theorem State.updSigned_lasting (s : State) (ok : Option Bool) : (s.updSigned ok).2.lasting = s.lasting := by
  unfold State.updSigned
  split <;> simp

@[simp] theorem State.updFinish_lasting (s : State) (src seq : Nat) : (s.updFinish src seq).2.lasting = s.lasting := by
  unfold State.updFinish
  dsimp only
  repeat' split
  all_goals simp only [State.setF_lasting, State.planSigned_lasting, State.updVerdict_lasting, State.updSigned_lasting]

@[simp] theorem State.updActivate_lasting (s : State) (src : Nat) : (s.updActivate src).2.lasting = s.lasting := by
  unfold State.updActivate
  dsimp only
  repeat' split
  all_goals simp

@[simp] theorem State.updConfirm_lasting (s : State) : s.updConfirm.2.lasting = s.lasting := by
  unfold State.updConfirm
  split <;> simp

@[simp] theorem State.updAbort_lasting (s : State) (src : Nat) : (s.updAbort src).2.lasting = s.lasting := by
  unfold State.updAbort
  split <;> simp

@[simp] theorem State.updCtrlWrite_lasting (s : State) (v : Nat) : (s.updCtrlWrite v).lasting = s.lasting := by
  unfold State.updCtrlWrite; simp

@[simp] theorem State.svcPacket_lasting {s : State} {cmd seq : Nat} {k : State → State}
    (hk : ∀ t, (k t).lasting = t.lasting) : (s.svcPacket cmd seq k).lasting = s.lasting := by
  unfold State.svcPacket
  simp [hk]

@[simp] theorem State.updLink_lasting {s : State} {cmd seq : Nat} {k : State → Nat × State}
    (hk : ∀ t, (k t).2.lasting = t.lasting) : (s.updLink cmd seq k).lasting = s.lasting := by
  exact State.svcPacket_lasting fun t => by simp [hk]

@[simp] theorem State.mbxReply_lasting (s : State) (cmd st : Nat) : (s.mbxReply cmd st).lasting = s.lasting := by
  unfold State.mbxReply; simp

@[simp] theorem State.updEndReply_lasting (src seq : Nat) (r : Option Nat × State) :
    (State.updEndReply src seq r).lasting = r.2.lasting := by
  unfold State.updEndReply
  split <;> simp

@[simp] theorem State.updEndGoOn_lasting (s : State) (src seq n : Nat) (ns : List Nat) (counted : Bool) :
    (s.updEndGoOn src seq n ns counted).lasting = s.lasting := by
  unfold State.updEndGoOn
  repeat' split
  all_goals simp

@[simp] theorem State.updHostTake_lasting {s : State} {cmd : Nat} {k : State → State}
    (hk : ∀ t, (k t).lasting = t.lasting) : (s.updHostTake cmd k).lasting = s.lasting := by
  unfold State.updHostTake
  simp [hk]

@[simp] theorem State.updHost_lasting {s : State} {cmd : Nat} {k : State → Nat × State}
    (hk : ∀ t, (k t).2.lasting = t.lasting) : (s.updHost cmd k).lasting = s.lasting := by
  exact State.updHostTake_lasting fun t => by simp [hk]

@[simp] theorem noPayload_lasting {p : Bytes} {k : State → Nat × State} (hk : ∀ t, (k t).2.lasting = t.lasting)
    (s : State) : (noPayload p k s).2.lasting = s.lasting := by
  unfold noPayload
  simp [hk]

/-! ### Arbour -/

@[simp] theorem State.wiAccept_lasting (s : State) (g : Grp) (b : Bytes) : (s.wiAccept g b).lasting = s.lasting := by
  unfold State.wiAccept
  dsimp only
  repeat' split
  all_goals simp

@[simp] theorem State.wiSubmit_lasting (s : State) (g : Grp) (p : Pkt) (ps : List Pkt) :
    (s.wiSubmit g p ps).lasting = s.lasting := by
  unfold State.wiSubmit
  dsimp only
  split <;> simp

@[simp] theorem State.wiHead_lasting (s : State) (g : Grp) (ok : Pkt → Bool) : (s.wiHead g ok).lasting = s.lasting := by
  unfold State.wiHead
  split
  · simp
  · split <;> simp

@[simp] theorem State.startOn_lasting (s : State) (k lvl : Nat) (e : Nat × Nat × Option Nat) (lat : Nat) :
    (s.startOn k lvl e lat).lasting = s.lasting := by
  unfold State.startOn
  split <;> simp

@[simp] theorem State.takeRx_lasting (s : State) (task : Nat) : (s.takeRx task).lasting = s.lasting := by
  unfold State.takeRx; simp

@[simp] theorem State.coreFault_lasting (s : State) (k : Nat) (overrun : Bool) :
    (s.coreFault k overrun).lasting = s.lasting := by
  unfold State.coreFault
  dsimp only
  repeat' split
  all_goals simp

@[simp] theorem State.evtClr_lasting (s : State) (secure : Bool) (t flag : Nat) :
    (s.evtClr secure t flag).lasting = s.lasting := by
  unfold State.evtClr; simp

@[simp] theorem State.maskWrite_lasting (s : State) (m : Master) (v : Nat) : (s.maskWrite m v).lasting = s.lasting := by
  unfold State.maskWrite
  dsimp only
  repeat' split
  all_goals simp

@[simp] theorem State.raiseMask_lasting (s : State) (t mask : Nat) : (s.raiseMask t mask).lasting = s.lasting := by
  unfold State.raiseMask; simp

@[simp] theorem State.resumeAssign_lasting (s : State) (i : WItem) : (s.resumeAssign i).lasting = s.lasting := by
  unfold State.resumeAssign
  split <;> simp

/-! ### Register effects -/

@[simp] theorem State.ethDown_lasting (s : State) (n : Nat) : (s.ethDown n).lasting = s.lasting := by
  unfold State.ethDown
  simp only [lasting_mk, lasting_eta, State.setF_lasting, State.claimTrouble_lasting, lasting_ite, ite_self]

@[simp] theorem State.ethCtrl_lasting (s : State) (n v : Nat) : (s.ethCtrl n v).lasting = s.lasting := by
  unfold State.ethCtrl; simp

@[simp] theorem State.plainWrite_lasting (s : State) (m : Master) (a v hw : Nat) :
    (s.plainWrite m a v hw).lasting = s.lasting := by
  unfold State.plainWrite
  split <;> simp

@[simp] theorem State.eachDom_lasting {s : State} {v : Nat} {f : State → Nat → State}
    (hf : ∀ t d, (f t d).lasting = t.lasting) : (s.eachDom v f).lasting = s.lasting := by
  exact lasting_foldl hf _ _

@[simp] theorem State.writeLodge_lasting (s : State) (m : Master) (a v hw : Nat) :
    (s.writeLodge m a v hw).lasting = s.lasting := by
  unfold State.writeLodge; simp
@[simp] theorem State.writeGzb_lasting (s : State) (m : Master) (a v hw : Nat) :
    (s.writeGzb m a v hw).lasting = s.lasting := by
  unfold State.writeGzb; simp
@[simp] theorem State.writeMbx_lasting (s : State) (m : Master) (a v hw : Nat) :
    (s.writeMbx m a v hw).lasting = s.lasting := by
  unfold State.writeMbx; simp
@[simp] theorem State.writeArb_lasting (s : State) (m : Master) (a v hw : Nat) :
    (s.writeArb m a v hw).lasting = s.lasting := by
  unfold State.writeArb; simp
@[simp] theorem State.writeSdl_lasting (s : State) (m : Master) (a v hw : Nat) :
    (s.writeSdl m a v hw).lasting = s.lasting := by
  unfold State.writeSdl; simp
@[simp] theorem State.writeWkt_lasting (s : State) (m : Master) (a v hw : Nat) :
    (s.writeWkt m a v hw).lasting = s.lasting := by
  unfold State.writeWkt; simp

@[simp] theorem State.writeEff_lasting (s : State) (m : Master) (a v hw : Nat) :
    (s.writeEff m a v hw).lasting = s.lasting := by
  unfold State.writeEff
  split
  · simp
  · split
    · simp
    · split <;> simp

@[simp] theorem State.hostWrite_lasting (s : State) (m : Master) (a v hw : Nat) :
    (s.hostWrite m a v hw).lasting = s.lasting := by
  unfold State.hostWrite; simp

@[simp] theorem State.rcClear_lasting (s : State) (m : Master) (a ev : Nat) :
    (s.rcClear m a ev).lasting = s.lasting := by
  unfold State.rcClear
  split <;> simp

@[simp] theorem State.latchHi_lasting (s : State) (lo v : Nat) : (s.latchHi lo v).2.lasting = s.lasting := by
  unfold State.latchHi; simp

theorem State.frcRead?_lasting {s : State} {a : Nat} {r : DWord × State} (h : s.frcRead? a = some r) :
    r.2.lasting = s.lasting := by
  unfold State.frcRead? at h
  dsimp only at h
  split_ifs at h <;> cases h <;> exact State.latchHi_lasting _ _ _

@[simp] theorem State.readEff_lasting (s : State) (m : Master) (a ev : Nat) :
    (s.readEff m a ev).2.lasting = s.lasting := by
  unfold State.readEff
  split
  · exact State.streamPop_lasting _ _
  · cases hf : s.frcRead? a with
    | none => simp
    | some r => simp [State.frcRead?_lasting hf]

@[simp] theorem State.hostRead_lasting (s : State) (m : Master) (a ev : Nat) :
    (s.hostRead m a ev).2.lasting = s.lasting := by
  unfold State.hostRead; simp

/-! ### The choppers -/

@[simp] theorem State.windTick_lasting (s : State) (n b : Nat) : (s.windTick n b).lasting = s.lasting := by
  unfold State.windTick
  dsimp only
  split
  · split <;> rfl
  · split
    · exact State.axFault_lasting _ _ _ _
    · split
      · rfl
      · split
        · simp
        · exact State.axFault_lasting _ _ _ _
        · rfl

@[simp] theorem State.zeroCross_lasting (s : State) (n : Nat) : (s.zeroCross n).lasting = s.lasting := by
  unfold State.zeroCross; simp
@[simp] theorem State.axTick_lasting (s : State) (n : Nat) : (s.axTick n).lasting = s.lasting := by
  unfold State.axTick; simp

/-! ### The host port -/

@[simp] theorem State.updHspi_lasting (s : State) (f : Hspi → Hspi) : (s.updHspi f).lasting = s.lasting := by
  unfold State.updHspi; simp

@[simp] theorem State.hspiDo_lasting {s : State} {k : State → Sel → State}
    (hk : ∀ t sel, (k t sel).lasting = t.lasting) : (s.hspiDo k).lasting = s.lasting := by
  unfold State.hspiDo
  split <;> simp [hk]

@[simp] theorem State.readBurst_lasting (s : State) (m : Master) (a n : Nat) :
    (s.readBurst m a n).2.lasting = s.lasting := by
  unfold State.readBurst
  refine List.foldlRecOn (motive := fun (r : List DWord × State) => r.2.lasting = s.lasting) _ _ rfl fun r hr k _ => ?_
  exact (State.hostRead_lasting _ _ _ _).trans hr

@[simp] theorem State.spiReadNow_lasting (s : State) (m : Master) (a n : Nat) :
    (s.spiReadNow m a n).lasting = s.lasting := by
  unfold State.spiReadNow; simp

@[simp] theorem State.spiSample_lasting (s : State) (m : Master) (a n : Nat) :
    (s.spiSample m a n).lasting = s.lasting := by
  unfold State.spiSample
  split <;> simp

@[simp] theorem State.spiRead_lasting (s : State) (m : Master) (a n : Nat) : (s.spiRead m a n).lasting = s.lasting := by
  unfold State.spiRead; simp

@[simp] theorem State.spiPoke_lasting (s : State) : s.spiPoke.lasting = s.lasting := by
  unfold State.spiPoke
  split
  · simp
  · split <;> simp

@[simp] theorem State.postWord_lasting (s : State) (p : PostedWrite) : (s.postWord p).lasting = s.lasting := by
  unfold State.postWord; simp
@[simp] theorem State.updEth_lasting (s : State) (f : Eth → Eth) : (s.updEth f).lasting = s.lasting := by
  unfold State.updEth; simp
@[simp] theorem State.ethAnswer_lasting (s : State) (x : EthOpen) (res : Nat) (d : List DWord) :
    (s.ethAnswer x res d).lasting = s.lasting := by
  unfold State.ethAnswer; simp
@[simp] theorem State.ethOpen_lasting (s : State) (x : EthOpen) : (s.ethOpen x).lasting = s.lasting := by
  unfold State.ethOpen; simp

@[simp] theorem State.ethSample_lasting (s : State) (x : EthOpen) : (s.ethSample x).lasting = s.lasting := by
  unfold State.ethSample
  split <;> simp

@[simp] theorem State.ethNew_lasting (s : State) (x : EthOpen) (data : List DWord) :
    (s.ethNew x data).lasting = s.lasting := by
  unfold State.ethNew; simp
@[simp] theorem State.ethReq_lasting (s : State) (port : Nat) (src : BitVec 48) (seq cmd a n : Nat) (data : List DWord)
    :
    (s.ethReq port src seq cmd a n data).lasting = s.lasting := by
  unfold State.ethReq; simp

@[simp] theorem State.ethDeliver_lasting (s : State) (port : Nat) (src : BitVec 48) (seq cmd a n : Nat) (data : List
    DWord) :
    (s.ethDeliver port src seq cmd a n data).lasting = s.lasting := by
  unfold State.ethDeliver
  split <;> simp

@[simp] theorem State.writeDone_lasting (s : State) (p : PostedWrite) : (s.writeDone p).lasting = s.lasting := by
  unfold State.writeDone
  extract_lets s1 due s2 s3 s4
  have h1 : s1.lasting = s.lasting := by
    dsimp only [s1]
    split
    · rfl
    · split <;> simp
  have h4 : s4.lasting = s.lasting := by simp [s4, s3, s2, h1]
  split
  · split <;> simp [h4]
  · exact h4

@[simp] theorem State.ethWake_lasting (s : State) : s.ethWake.lasting = s.lasting := by unfold State.ethWake; simp

@[simp] theorem State.ethHold_lasting {s : State} {port etype : Nat} {k : State → State}
    (hk : ∀ t, (k t).lasting = t.lasting) : (s.ethHold port etype k).lasting = s.lasting := by
  unfold State.ethHold
  simp [hk]

@[simp] theorem State.ethIn_lasting (s : State) (port : Nat) (src : BitVec 48) (seq cmd a n : Nat) (data : List DWord) :
    (s.ethIn port src seq cmd a n data).lasting = s.lasting := by
  unfold State.ethIn; simp
@[simp] theorem State.ptpServo_lasting (s : State) (off rate : Int) : (s.ptpServo off rate).lasting = s.lasting := by
  unfold State.ptpServo; simp

@[simp] theorem State.ptpInstance_lasting (s : State) (port : Nat) (r : PtpOut) :
    (s.ptpInstance port r).lasting = s.lasting := by
  unfold State.ptpInstance
  repeat' split
  all_goals simp

@[simp] theorem State.ptpServe_lasting (s : State) (port : Nat) (x : PtpMsg) (stamp : List DWord) :
    (s.ptpServe port x stamp).lasting = s.lasting := by
  unfold State.ptpServe
  simp only [lasting_mk, lasting_eta, State.incF_lasting, State.updEth_lasting, lasting_ite, ite_self]

@[simp] theorem State.ptpTake_lasting (s : State) (port : Nat) (x : PtpMsg) (r : PtpOut) (stamp : List DWord) :
    (s.ptpTake port x r stamp).lasting = s.lasting := by
  unfold State.ptpTake; simp

/-! ### The Isben link -/

@[simp] theorem State.svcLen_lasting {s : State} {cmd seq : Nat} {ok : Bool} {k : State → State}
    (hk : ∀ t, (k t).lasting = t.lasting) : (s.svcLen cmd seq ok k).lasting = s.lasting := by
  refine State.svcPacket_lasting fun t => ?_
  split <;> simp [hk]

@[simp] theorem State.svcAccess_lasting (s : State) (write : Bool) (seq a n : Nat) (data : List Word) :
    (s.svcAccess write seq a n data).lasting = s.lasting := by
  unfold State.svcAccess
  split <;> simp

@[simp] theorem State.svcItem_lasting (s : State) (seq : Nat) (b : Bytes) : (s.svcItem seq b).lasting = s.lasting := by
  unfold State.svcItem
  dsimp only
  repeat' split
  all_goals simp

/-! ### Tamper -/

@[simp] theorem State.tamperFirst_lasting (s : State) (bits : Nat) : (s.tamperFirst bits).lasting = s.lasting := by
  unfold State.tamperFirst; simp
@[simp] theorem State.zeroise_lasting (s : State) : s.zeroise.lasting = s.lasting := by unfold State.zeroise; simp
@[simp] theorem State.psAbandon_lasting (s : State) (drop : PsReq → Bool) : (s.psAbandon drop).lasting = s.lasting := by
  unfold State.psAbandon; simp

@[simp] theorem State.abortKeyOps_lasting (s : State) : s.abortKeyOps.lasting = s.lasting := by
  unfold State.abortKeyOps
  dsimp only
  split <;> simp

@[simp] theorem State.tamperRun_lasting (s : State) : s.tamperRun.lasting = s.lasting := by unfold State.tamperRun; simp

/-! ### Start-up -/

@[simp] theorem State.psSelect_lasting (s : State) : s.psSelect.lasting = s.lasting := by unfold State.psSelect; simp

@[simp] theorem State.vbScan_lasting (s : State) : s.vbScan.lasting = s.lasting := by
  unfold State.vbScan
  dsimp only
  split <;> simp only [lasting_mk, lasting_eta, State.setF_lasting]

@[simp] theorem State.sampleInput_lasting (s : State) (i : Nat) (good : Bool) :
    (s.sampleInput i good).lasting = s.lasting := by
  unfold State.sampleInput; simp
@[simp] theorem State.vbClean_lasting (s : State) (y : Nat) : (s.vbClean y).lasting = s.lasting := by
  unfold State.vbClean; simp
@[simp] theorem State.vbKeepErased_lasting (s : State) : s.vbKeepErased.lasting = s.lasting := by
  unfold State.vbKeepErased; simp
@[simp] theorem State.essStart_lasting (s : State) : s.essStart.lasting = s.lasting := by unfold State.essStart; simp
@[simp] theorem State.baseDue_lasting (s : State) : s.baseDue.lasting = s.lasting := by unfold State.baseDue; simp

@[simp] theorem State.vbApply_lasting (s : State) : s.vbApply.lasting = s.lasting := by
  unfold State.vbApply
  repeat' split
  all_goals simp

@[simp] theorem State.bootFinish_lasting (s : State) : s.bootFinish.lasting = s.lasting := by
  unfold State.bootFinish; simp
@[simp] theorem State.cmpOwners_lasting (s : State) : s.cmpOwners.lasting = s.lasting := by unfold State.cmpOwners; simp
@[simp] theorem State.slotRunDue_lasting (s : State) : s.slotRunDue.lasting = s.lasting := by
  unfold State.slotRunDue; simp

@[simp] theorem State.domLoad_lasting (s : State) (d : Nat) : (s.domLoad d).lasting = s.lasting := by
  unfold State.domLoad
  split
  · simp
  · split <;> simp

@[simp] theorem State.planRadio_lasting (s : State) : s.planRadio.lasting = s.lasting := by unfold State.planRadio; simp
@[simp] theorem State.planSkip_lasting (s : State) (e : Nat × Nat) : (s.planSkip e).lasting = s.lasting := by
  unfold State.planSkip; simp
@[simp] theorem State.rollback_lasting (s : State) (cause : Nat) (reset : Bool) :
    (s.rollback cause reset).lasting = s.lasting := by
  unfold State.rollback; simp
@[simp] theorem State.planRegs_lasting (s : State) : s.planRegs.lasting = s.lasting := by unfold State.planRegs; simp
@[simp] theorem State.planCleared_lasting (s : State) : s.planCleared.lasting = s.lasting := by
  unfold State.planCleared; simp
@[simp] theorem State.bootKeys_lasting (s : State) (path : Nat) (m : Bytes) :
    (s.bootKeys path m).lasting = s.lasting := by
  unfold State.bootKeys; simp
@[simp] theorem State.bootRom_lasting (s : State) : s.bootRom.lasting = s.lasting := by unfold State.bootRom; simp
@[simp] theorem State.fwFail_lasting (s : State) (k : Nat) : (s.fwFail k).lasting = s.lasting := by
  unfold State.fwFail; simp

@[simp] theorem State.deliver_lasting (s : State) (w : HeldWhat) : (s.deliver w).lasting = s.lasting := by
  unfold State.deliver
  split <;> simp

@[simp] theorem State.deliverAll_lasting (s : State) (d : Nat) : (s.deliverAll d).lasting = s.lasting := by
  unfold State.deliverAll; simp
@[simp] theorem State.fabricUp_lasting (s : State) : s.fabricUp.lasting = s.lasting := by unfold State.fabricUp; simp
@[simp] theorem State.lockout_lasting (s : State) (d : Nat) : (s.lockout d).lasting = s.lasting := by
  unfold State.lockout; simp

/-! ### The store -/

@[simp] theorem State.kuCommitted_lasting (s : State) (wid : Nat) (ch : PsChange) :
    (s.kuCommitted wid ch).lasting = s.lasting := by
  unfold State.kuCommitted
  split <;> simp

@[simp] theorem State.activated_lasting (s : State) : s.activated.lasting = s.lasting := by unfold State.activated; simp
@[simp] theorem State.joinCounted_lasting (s : State) (m session : Nat) (key : Bytes) :
    (s.joinCounted m session key).lasting = s.lasting := by
  unfold State.joinCounted; simp

@[simp] theorem State.psTake_lasting (s : State) (ch : PsChange) : (s.psTake ch).lasting = s.lasting := by
  unfold State.psTake
  split <;> simp

@[simp] theorem State.psNext_lasting (s : State) : s.psNext.lasting = s.lasting := by unfold State.psNext; simp

/-! ### The slot -/

@[simp] theorem State.slotEnd_lasting (s : State) : s.slotEnd.lasting = s.lasting := by
  unfold State.slotEnd
  split <;> simp only [lasting_mk, lasting_eta, State.setF_lasting, State.noObs_lasting, State.ackTimeout_lasting,
      lasting_ite, ite_self]

@[simp] theorem State.setAsn_lasting (s : State) (a : Nat) : (s.setAsn a).lasting = s.lasting := by
  unfold State.setAsn; simp
@[simp] theorem State.filters_lasting (s : State) (b : Nat) : (s.filters b).lasting = s.lasting := by
  unfold State.filters; simp
@[simp] theorem State.slotframeEnd_lasting (s : State) (x : Mbr) : (s.slotframeEnd x).lasting = s.lasting := by
  unfold State.slotframeEnd; simp
@[simp] theorem State.swapBoundary_lasting (s : State) : s.swapBoundary.lasting = s.lasting := by
  unfold State.swapBoundary; simp
@[simp] theorem State.clearBoundary_lasting (s : State) : s.clearBoundary.lasting = s.lasting := by
  unfold State.clearBoundary; simp
@[simp] theorem State.boundaryActs_lasting (s : State) : s.boundaryActs.lasting = s.lasting := by
  unfold State.boundaryActs; simp

@[simp] theorem State.queueOwn_lasting (s : State) (m : Nat) : (s.queueOwn m).lasting = s.lasting := by
  unfold State.queueOwn
  refine lasting_foldl (fun t i => ?_) _ _
  split
  · split <;> simp
  · rfl

@[simp] theorem State.announceOwn_lasting (s : State) (m : Nat) : (s.announceOwn m).lasting = s.lasting := by
  unfold State.announceOwn; simp
@[simp] theorem State.announceSlot_lasting (s : State) : s.announceSlot.lasting = s.lasting := by
  unfold State.announceSlot; simp
@[simp] theorem State.announceEnd_lasting (s : State) : s.announceEnd.lasting = s.lasting := by
  unfold State.announceEnd; simp
@[simp] theorem State.wakeSlot_lasting (s : State) (m : Nat) : (s.wakeSlot m).lasting = s.lasting := by
  unfold State.wakeSlot; simp
@[simp] theorem State.predictCells_lasting (s : State) : s.predictCells.lasting = s.lasting := by
  unfold State.predictCells; simp
@[simp] theorem State.joinReload_lasting (s : State) : s.joinReload.lasting = s.lasting := by
  unfold State.joinReload; simp
@[simp] theorem State.fixGone_lasting (s : State) : s.fixGone.lasting = s.lasting := by unfold State.fixGone; simp
@[simp] theorem State.slotPulses_lasting (s : State) : s.slotPulses.lasting = s.lasting := by
  unfold State.slotPulses; simp

/-! ### Idle -/

@[simp] theorem State.padStep_lasting (s : State) (b : Nat) : (s.padStep b).lasting = s.lasting := by
  unfold State.padStep
  split <;> simp

end Sys2Proof.Machine
end

section
/-! SUPPORT. What no command takes back: the operations that draw free values, blow fuses or restart FRC. -/
namespace Sys2Proof.Machine

/-! ### What changes what lasts -/

theorem State.Since.of_lasting {s t : State} (h : t.lasting = s.lasting) : t.Since s := by
  simp only [State.lasting, Prod.mk.injEq] at h
  obtain ⟨hpart, hstep, hpend, hfrc, hfree, hsvn, hwipe, hrev⟩ := h
  exact ⟨hpart, hstep, hpend, .inl hfrc, hfree.ge, hsvn.ge, hwipe.ge, hrev⟩

theorem State.Since.refl (s : State) : s.Since s := .of_lasting rfl

theorem State.Since.trans {s t u : State} (h1 : t.Since s) (h2 : u.Since t) : u.Since s := by
  obtain ⟨p1, i1, q1, f1, c1, v1, w1, r1⟩ := h1
  obtain ⟨p2, i2, q2, f2, c2, v2, w2, r2⟩ := h2
  refine ⟨p2.trans p1, i2.trans i1, q2.trans q1, ?_, c1.trans c2, v1.trans v2, w1.trans w2, r2.trans r1⟩
  rcases f2 with f2 | f2
  · exact f1.imp f2.trans f2.trans
  · exact .inr f2

/-- Steps that keep all that lasts, before and after. -/
theorem State.Since.after {s t u : State} (h1 : t.Since s) (h2 : u.lasting = t.lasting) : u.Since s :=
  h1.trans (.of_lasting h2)

theorem State.Since.of_eq {s t u : State} (h1 : t.lasting = s.lasting) (h2 : u.Since t) : u.Since s :=
  (State.Since.of_lasting h1).trans h2

theorem State.Since.ite {c : Prop} [Decidable c] {s t u : State} (ht : t.Since s) (hu : u.Since s) :
    (if c then t else u).Since s := by
  split
  · exact ht
  · exact hu

theorem State.Since.foldl {α : Type} {g : State → α → State} (h : ∀ t a, (g t a).Since t) (l : List α) (s : State) :
    (l.foldl g s).Since s :=
  List.foldlRecOn l g (motive := fun t => t.Since s) (.refl s) fun t ht a _ => ht.trans (h t a)

/-- A free value drawn. -/
theorem State.random_since (s : State) (bits : Nat) : (s.random bits).2.Since s :=
  ⟨rfl, rfl, rfl, .inl rfl, Nat.le_succ _, le_rfl, le_rfl, rfl⟩

/-- Anti-rollback fuses blown (R517). -/
theorem State.svnFuses_since (s : State) (n : Nat) :
    ({ s with flash := { s.flash with svnFuses := max s.flash.svnFuses n } } : State).Since s :=
  ⟨rfl, rfl, rfl, .inl rfl, le_rfl, le_max_left _ _, le_rfl, rfl⟩

/-- Tamper-wipe fuses blown (R491). -/
theorem State.wipeFuses_since (s : State) (n : Nat) :
    ({ s with flash := { s.flash with wipeFuses := max s.flash.wipeFuses n } } : State).Since s :=
  ⟨rfl, rfl, rfl, .inl rfl, le_rfl, le_rfl, le_max_left _ _, rfl⟩

/-- FRC restarted at 0 (R115). -/
theorem State.restart_since (s : State) (p : Power) (q : Pads) :
    ({ s with frc := 0, power := p, pads := q } : State).Since s :=
  ⟨rfl, rfl, rfl, .inr rfl, le_rfl, le_rfl, le_rfl, rfl⟩

theorem State.powerOff_since (s : State) (mains : Bool) : (s.powerOff mains).Since s :=
  ⟨rfl, rfl, rfl, .inr rfl, le_rfl, le_rfl, le_rfl, rfl⟩

theorem State.joinStart_since (s : State) (m : Nat) : (s.joinStart m).Since s := by
  unfold State.joinStart
  dsimp only
  refine .ite ((s.random_since 32).after ?_) (.of_lasting ?_)
  · simp
  · simp

theorem State.drawKey_since (s : State) (e : Nat) : (s.drawKey e).Since s :=
  (s.random_since 128).after (State.loadKey_lasting _ _ _ _)

theorem State.drawKeys_since (s : State) : s.drawKeys.Since s :=
  .ite (.refl s) ((State.Since.foldl State.drawKey_since (0xFF :: s.usedGroups) s).after (by simp))

theorem State.rollKey_since (s : State) (e : Nat) : (s.rollKey e).Since s :=
  .ite (.refl s) ((s.random_since 128).after (by simp))

theorem State.rollsDue_since (s : State) : s.rollsDue.Since s :=
  .ite (.refl s) (.ite (.foldl State.rollKey_since _ s) (.of_lasting s.needD13_lasting))

theorem State.joinReq_since (s : State) (x : RxIn) : (s.joinReq x).Since s := by
  unfold State.joinReq
  dsimp only
  refine .ite (.of_lasting (by simp)) (.ite (.of_lasting (by simp)) (.of_eq ?_ (State.joinStart_since _ _)))
  simp

theorem State.svnBurn_since (s : State) : s.svnBurn.Since s :=
  .ite (.refl s) ((s.svnFuses_since (min s.updRec.svnTarget 63)).after (by simp))

/-! ### A tamper (R489, R491) -/

theorem State.tamperRespond_lasting (s : State) (st : Nat) : (s.tamperRespond st).lasting = s.lasting := by
  unfold State.tamperRespond
  simp

theorem State.tamper_since (s : State) (bits : Nat) : (s.tamper bits).Since s := by
  unfold State.tamper
  extract_lets st s1 s2 fl s3 s4
  have h2 : s2.lasting = s.lasting := by simp [s2, s1]
  have h3 : s3.Since s2 := s2.wipeFuses_since _
  have h4 : s4.lasting = s3.lasting := by simp [s4]
  exact ((State.Since.of_eq h2 h3).after h4).after ((State.tamperRespond_lasting _ _).trans (State.vbTrigger_lasting _ _ _ _ _))

theorem State.tamperNow_since (s : State) (now : Nat) : (s.tamperNow now).Since s := by
  unfold State.tamperNow
  exact .ite (.of_lasting (State.setF_lasting _ _ _)) (.of_eq (State.setF_lasting _ _ _) (State.tamper_since _ _))

theorem State.tempMeasure_since (s : State) (t : Int) (upd : Bool) : (s.tempMeasure t upd).Since s :=
  .of_eq (by simp) (State.tamperNow_since _ _)

theorem State.startUp_since (s : State) (p : StartPads) : (s.startUp p).Since s := by
  unfold State.startUp
  extract_lets path pw pd s0 s1 s2 s3 s4 s5
  have h0 : s0.Since s := s.restart_since _ _
  have h4 : s4.lasting = s0.lasting := by
    dsimp only [s4]
    split <;> simp [s3, s2, s1]
  have h5 : s5.Since s4 := s4.svnBurn_since.after (by simp [s5])
  exact ((h0.after h4).trans h5).trans (s5.tamperNow_since _)

/-! ### Start-up (R125–R139) -/

theorem State.keysDue_since (s : State) : s.keysDue.Since s :=
  .ite (.refl s) (.ite (s.drawKeys_since.after (State.loadJoinKey_lasting _)) (.of_lasting (by simp)))

theorem State.bootSettle_since (s : State) : s.bootSettle.Since s :=
  .ite (.refl s) (s.keysDue_since.after (State.bootFinish_lasting _))

theorem State.planApply_since (s : State) : s.planApply.Since s := by
  unfold State.planApply
  refine .of_eq ?_ (State.bootSettle_since _)
  simp

theorem State.bootPlan_since (s : State) (k : Nat) (p : PlanParts) (fall : Bool) : (s.bootPlan k p fall).Since s := by
  unfold State.bootPlan
  refine .of_eq ?_ (State.planApply_since _)
  simp

theorem State.bootRefused_since (s : State) (a : Nat) (e : Nat × Nat) (r : UpdRec) : (s.bootRefused a e r).Since s := by
  unfold State.bootRefused
  refine .ite (.of_lasting (by simp)) (.of_eq ?_ (State.bootSettle_since _))
  simp

theorem State.bootSecond_since (s : State) (k : Nat) (r : UpdRec) (res : Option (Except (Nat × Nat) PlanParts)) :
    (s.bootSecond k r res).Since s := by
  unfold State.bootSecond
  split
  · exact .refl s
  · exact .ite (.of_lasting (by simp)) (.of_eq (State.setF_lasting _ _ _) (State.bootPlan_since _ _ _ _))
  · exact State.bootRefused_since _ _ _ _

theorem State.bootFirst_since (s : State) (k : Nat) (r : UpdRec) (res : Option (Except (Nat × Nat) PlanParts)) :
    (s.bootFirst k r res).Since s := by
  unfold State.bootFirst
  split
  · exact .refl s
  · exact State.bootPlan_since _ _ _ _
  · exact .of_eq (State.checkImage_lasting _ _ _ _) (State.bootSecond_since _ _ _ _)

theorem State.bootPlans_since (s : State) (r : UpdRec) : (s.bootPlans r).Since s :=
  .of_eq ((State.checkImage_lasting _ _ _ _).trans s.planCleared_lasting) (State.bootFirst_since _ _ _ _)

theorem State.bootSignGoOn_since (s : State) (second : Bool) (r : UpdRec) (n : Nat) (ns : List Nat) (counted : Bool) :
    (s.bootSignGoOn second r n ns counted).Since s :=
  .ite (.refl s) (.of_eq (State.moreImage_lasting _ _ _ _ _ _ _)
    (.ite (State.bootSecond_since _ _ _ _) (State.bootFirst_since _ _ _ _)))

theorem State.bootRun_since (s : State) (k : Nat) (r : UpdRec) : (s.bootRun k r).Since s :=
  .of_eq (by simp) (State.bootPlans_since _ _)

theorem State.bootLoad_since (s : State) (r : UpdRec) : (s.bootLoad r).Since s :=
  .ite (State.bootRun_since _ _ _) (.ite (.of_lasting (by simp))
    (.ite (.of_eq (State.fwFail_lasting _ _) (State.bootRun_since _ _ _)) (.of_lasting (by simp))))

theorem State.bootStart_since (s : State) : s.bootStart.Since s := by
  unfold State.bootStart
  extract_lets s1 t b s2 s3 r
  have h3 : s3.lasting = s.lasting := by simp [s3, s2, t, s1]
  exact .of_eq h3 (.ite (.of_lasting (State.bootRom_lasting _)) (.ite (State.bootLoad_since _ _)
    (.ite (.of_lasting (State.rollback_lasting _ _ _)) (.of_lasting (State.psRequest_lasting _ _ _)))))

theorem State.bootGoOn_since (s : State) (r : UpdRec) : (s.bootGoOn r).Since s :=
  .ite (State.bootLoad_since _ _) (.refl s)

/-! ### Domains that rise or fail -/

theorem State.arbourUp_since (s : State) : s.arbourUp.Since s :=
  .ite s.bootStart_since (.of_lasting (by simp))

theorem State.domUp_since (s : State) (d : Nat) : (s.domUp d).Since s := by
  unfold State.domUp
  extract_lets pend s1 s2 s3 s4 s5
  have h3 : s3.lasting = s.lasting := by simp [s3, s2, s1]
  have h4 : s4.Since s3 := .ite (.of_lasting s3.fabricUp_lasting) (.ite s3.arbourUp_since
    (.ite (.ite (s3.keysDue_since.trans (State.rollsDue_since _)) (.refl s3)) (.refl s3)))
  have h5 : s5.lasting = s4.lasting := by simp [s5]
  exact ((State.Since.of_eq h3 h4).after h5).trans s5.bootSettle_since

theorem State.railFault_since (s : State) (d : Nat) : (s.railFault d).Since s := by
  unfold State.railFault
  refine .of_eq ?_ (State.bootSettle_since _)
  simp only [lasting_ite, ite_self, State.lockout_lasting, State.setDom_lasting, State.expireSlots_lasting,
    State.loseDom_lasting, State.setF_lasting, State.domResetNow_lasting, State.domResetStop_lasting,
    State.updPower_lasting, State.setBit_lasting, State.irq_lasting]

/-! ### Writes of the store that end -/

theorem State.rolled_since (s : State) (reset : Bool) (r : UpdRec) : (s.rolled reset r).Since s :=
  .of_eq (by simp) (.ite (.of_lasting (State.resetAll_lasting _ _)) (State.bootGoOn_since _ r))

theorem State.sessionRaised_since (s : State) (c : Nat) : (s.sessionRaised c).Since s :=
  .of_eq (State.updFleet_lasting _ _) (.foldl State.joinStart_since _ _)

theorem State.keyGoOn_since (s : State) (what : KeyCheck) (n : Nat) (ns : List Nat) (counted : Bool) :
    (s.keyGoOn what n ns counted).Since s :=
  match what with
  | .clear wid => .of_lasting (s.clearGoOn_lasting wid n ns counted)
  | .boot second r => s.bootSignGoOn_since second r n ns counted
  | .swap => .of_lasting (s.swapGoOn_lasting n ns counted)
  | .updEnd src seq => .of_lasting (s.updEndGoOn_lasting src seq n ns counted)

theorem State.psDone_since (s : State) (q : PsReq) : (s.psDone q).Since s := by
  unfold State.psDone
  refine .of_eq (State.psTake_lasting s q.change) ?_
  split
  case h_7 => exact State.keyGoOn_since _ _ _ _ _
  case h_8 =>
    split
    · exact State.sessionRaised_since _ _
    · exact .refl _
  case h_15 => exact .of_eq (State.updShow_lasting _) (State.bootGoOn_since _ _)
  case h_16 => exact State.rolled_since _ _ _
  all_goals exact .of_lasting (by simp)

theorem State.psFailed_since (s : State) (q : PsReq) : (s.psFailed q).Since s := by
  unfold State.psFailed
  split
  case h_7 => exact State.keyGoOn_since _ _ _ _ _
  case h_15 => exact State.bootGoOn_since _ _
  case h_16 => exact State.rolled_since _ _ _
  all_goals exact .of_lasting (by simp)

theorem State.psComplete_since (s : State) : s.psComplete.Since s := by
  unfold State.psComplete
  refine .of_eq ?_ (.foldl State.psDone_since _ _)
  simp only [State.psNext_lasting, State.setF_lasting, lasting_mk, lasting_eta]

theorem State.psFail_since (s : State) : s.psFail.Since s := by
  unfold State.psFail
  refine .of_eq ?_ (.foldl State.psFailed_since _ _)
  simp

/-! ### The cells of a slot -/

theorem State.afterSend_since (s : State) (b : Nat) (f : DlFrame) : (s.afterSend b f).Since s := by
  unfold State.afterSend
  extract_lets s1
  have h1 : s1.lasting = s.lasting := by simp [s1]
  split
  · exact .of_lasting h1
  · exact .of_eq h1 (.ite (.of_lasting (State.makeFree_lasting _ _ _)) (.ite s1.rollsDue_since (.refl s1)))

theorem State.sendIn_since (s : State) (b : Nat) (f : DlFrame) : (s.sendIn b f).2.Since s := by
  unfold State.sendIn
  split
  · exact .of_eq (State.txFrame_lasting ‹_›) (State.afterSend_since _ _ _)
  · exact .refl s

theorem State.Since.ite_snd {α : Type} {c : Prop} [Decidable c] {x y : α × State} {s : State} (hx : x.2.Since s)
    (hy : y.2.Since s) : (if c then x else y).2.Since s := by
  split
  · exact hx
  · exact hy

theorem State.sendCorr_since (s : State) (b : Nat) : (s.sendCorr b).2.Since s :=
  .ite_snd (.refl s) (.ite_snd ((State.sendIn_since _ _ _).after (State.updSlv_lasting _ _)) (State.sendIn_since _ _ _))

theorem State.sendQueued_since (s : State) (b role : Nat) : (s.sendQueued b role).2.Since s := by
  unfold State.sendQueued
  split
  · exact .refl s
  · have ht := fun (g : Band → Band) => State.updBand_lasting s b g
    exact .ite_snd (.of_eq (ht _) (.ite_snd (State.sendCorr_since _ _) (State.sendIn_since _ _ _)))
      (.ite (.of_lasting (ht _)) (.refl s))

theorem State.sendLateFix_since (s : State) : s.sendLateFix.2.Since s :=
  .ite_snd (.of_lasting s.fixPull_lasting) (.of_eq s.fixPull_lasting
    (.ite_snd ((State.sendIn_since _ _ _).after (State.fixesSent_lasting _ _)) (State.sendIn_since _ _ _)))

theorem State.beaconCell_since (s : State) : s.beaconCell.Since s := by
  unfold State.beaconCell
  extract_lets ann s0 r s1 u w
  have h0 : s0.lasting = s.lasting := by simp [s0]
  have hr : r.2.Since s0 := .ite_snd (State.sendIn_since _ _ _) (State.sendIn_since _ _ _)
  have h1 : s1.lasting = r.2.lasting := by simp [s1]
  exact ((State.Since.of_eq h0 hr).after h1).after (by simp only [lasting_mk, lasting_eta, u, State.updFleet_lasting])

theorem State.resyncCell_since (s : State) : s.resyncCell.Since s := by
  unfold State.resyncCell
  split
  · exact .refl s
  · exact .ite (.of_lasting (by simp)) (.ite (.of_lasting (by simp))
      (.ite (State.sendIn_since _ _ _) (.of_lasting (by simp))))

theorem State.downCell_since (s : State) (b role : Nat) : (s.downCell b role).Since s := by
  unfold State.downCell
  refine .ite ?_ ?_
  · split
    · exact State.sendIn_since _ _ _
    · exact .refl s
  · have hfix : (if b = 1 then s.sendLateFix else (false, s)).2.Since s := .ite_snd s.sendLateFix_since (.refl s)
    have hq := fun (t : State) => t.sendQueued_since b role
    exact .ite hfix (hfix.trans (.ite (hq _) (.ite ((hq _).trans (State.sendCorr_since _ _)) (hq _))))

theorem State.txCell_since (s : State) (b : Nat) : (s.txCell b).Since s := by
  unfold State.txCell
  refine .ite (.refl s) ?_
  split
  · exact .refl s
  · exact .ite s.beaconCell_since (.ite ((State.Since.ite s.resyncCell_since (.refl s)).trans (State.sendIn_since _ _ _))
      (.ite s.resyncCell_since (.ite (.of_lasting (State.wakeSlot_lasting _ _)) (.ite (.refl s) (s.downCell_since _ _)))))

theorem State.runCells_since (s : State) : s.runCells.Since s := by
  unfold State.runCells
  extract_lets s1 s2
  have h2 : s2.lasting = s.lasting := by simp [s2, s1]
  exact ((State.Since.of_eq h2 (s2.txCell_since 0)).trans (State.txCell_since _ 1)).after (by simp)

theorem State.followSlot_since (s : State) : s.followSlot.Since s := by
  unfold State.followSlot
  extract_lets s1 s2 s3
  have h3 : s3.lasting = s.lasting := by simp [s3, s2, s1]
  exact .of_eq h3 (.ite (.refl s3) s3.runCells_since)

end Sys2Proof.Machine
end

section
/-! O4. Every command, by the operations it is made of. -/
namespace Sys2Proof.Machine

/-! ### Commands -/

/-- A next state has taken nothing back. -/
def NextSince (s : State) (r : Host.Outcome State Fault Refusal) : Prop := ∀ t, r = .next t → t.Since s

theorem NextSince.next {s t : State} (h : t.Since s) : NextSince s (.next t) := by
  rintro _ ⟨⟩
  exact h

theorem NextSince.keep {s t : State} (h : t.lasting = s.lasting) : NextSince s (.next t) := .next (.of_lasting h)

theorem NextSince.atAddr {s t : State} {a : Nat} (h : t.lasting = s.lasting) :
    NextSince s (Sys2Proof.Machine.atAddr a t) := by
  unfold Sys2Proof.Machine.atAddr
  split
  · exact .keep h
  · exact fun _ ht => nomatch ht

theorem State.rxAccept_since {s : State} {x : RxIn} {room : Bool} {k : State → State} (hk : ∀ t, (k t).Since t) :
    (s.rxAccept x room k).Since s :=
  .ite (.of_lasting (by simp)) (.ite (.of_lasting (by simp)) (.of_eq (by simp) (hk _)))

theorem State.rxOf_since {s : State} {t b c : Nat} {psdu : Bytes} {e : Int} {k : State → RxIn → State}
    (hk : ∀ u x, (k u x).Since u) : (s.rxOf t b c psdu e k).Since s := by
  unfold State.rxOf
  extract_lets s0
  have h0 : s0.lasting = s.lasting := by simp [s0]
  have h1 := State.rxCheck_lasting s0 b c psdu e
  refine .ite (.refl s) (.of_eq h0 ?_)
  split
  next heq =>
    rw [heq] at h1
    exact .of_lasting h1
  · exact hk _ _

theorem State.deriveItem_since {s : State} {wid mode : Nat} {k : WItem → State} (hk : ∀ i, (k i).Since s) :
    (s.deriveItem wid mode k).Since s := by
  unfold State.deriveItem
  split
  · exact .ite (.of_lasting (by simp)) (.ite (.refl s) (.ite (.of_lasting s.needD13_lasting) (hk _)))
  · exact .refl s

/-- Reads of several masters, one after the other. -/
theorem reads_lasting {read : State → Master → DWord × State} (h : ∀ t m, (read t m).2.lasting = t.lasting)
    (ms : List Master) (ws : List DWord) (s : State) :
    (ms.foldl (fun (r : List DWord × State) m => (r.1 ++ [(read r.2 m).1], (read r.2 m).2)) (ws, s)).2.lasting =
      s.lasting :=
  List.foldlRecOn ms _ (motive := fun (r : List DWord × State) => r.2.lasting = s.lasting) rfl
    fun _ hr m _ => (h _ m).trans hr

theorem lasting_bus (s : State) (ws : List DWord) : ({ s with bus := ws } : State).lasting = s.lasting := (rfl)

theorem execClaimAcquire_since (ms : List Master) (n : Nat) (s : State) : NextSince s (execClaimAcquire ms n s) :=
  .next (.ite (.refl s) (.of_lasting ((lasting_bus _ _).trans (reads_lasting (read := fun t m =>
    t.guardR m (R.MBX_CLAIMn n) fun u => ((u.claimRead m n).1.setWidth 64, (u.claimRead m n).2)) (by simp) _ [] s))))

theorem execStreamRead_since (ms : List Master) (w : Nat) (s : State) : NextSince s (execStreamRead ms w s) :=
  .next (.ite (.refl s) (.of_lasting ((lasting_bus _ _).trans (reads_lasting (read := fun t m =>
    (t.strmGrant w m).guardR m (strmPort w) (·.streamPop w)) (by simp) _ [] s))))

theorem execPtpMessageTx_since (port phase : Nat) (x : PtpMsg) (s : State) :
    NextSince s (execPtpMessageTx port phase x s) := by
  refine .next (.ite (.of_lasting ?_) (.refl s))
  simp only [lasting_mk, lasting_eta, State.incF_lasting, lasting_ite, State.updEth_lasting, ite_self]

theorem execPtpMessageRx_since (port phase : Nat) (x : PtpMsg) (r : PtpOut) (s : State) :
    NextSince s (execPtpMessageRx port phase x r s) := by
  refine .next (.ite (.of_lasting (by simp)) (.ite (.refl s) (.of_lasting ?_)))
  simp only [State.ptpTake_lasting, lasting_mk, lasting_eta, State.incF_lasting]

theorem execStopTrainEnd_since (s : State) : NextSince s (execStopTrainEnd s) := by
  unfold execStopTrainEnd
  split
  · exact .next (.refl s)
  · refine .next (.ite (.refl s) (.of_lasting ?_))
    simp only [lasting_mk, lasting_eta, State.updGzb_lasting, State.incF_lasting, State.setF_lasting]

theorem execSvcPresentAssert_since (s : State) : NextSince s (execSvcPresentAssert s) := by
  refine .next (.ite (.of_lasting ?_) (.of_lasting ?_))
  · simp only [lasting_mk, lasting_eta]
  · simp only [lasting_mk, lasting_eta, State.wakeBy_lasting, State.setF_lasting]

theorem execNoiseCheck_since (c : Nat) (noise : Int) (s : State) : NextSince s (execNoiseCheck c noise s) := by
  refine .next (.ite (.refl s) (.ite (.of_lasting ?_) (.of_lasting ?_)))
  · simp
  · simp only [State.updBv_lasting, State.setI_lasting]

theorem execAbsentUnitAccess_since (m : Master) (addr : Nat) (w : Option Word) (s : State) :
    NextSince s (execAbsentUnitAccess m addr w s) := by
  refine .atAddr ?_
  cases w <;> simp

theorem execObsRx_since (b c : Nat) (psdu : Bytes) (e : Int) (pop : Bool) (s : State) :
    NextSince s (execObsRx b c psdu e pop s) :=
  .keep (State.pushPop_lasting (fun t => State.rxOf_lasting fun u x => by simp) State.obsIntake_lasting)

theorem execSlotStart_since (s : State) : NextSince s (execSlotStart s) := by
  refine .next (.ite (.refl s) ?_)
  extract_lets run s1
  have h1 : s1.lasting = s.lasting := by simp [s1]
  exact .of_eq h1 (.ite (.of_eq s1.slotPulses_lasting (State.followSlot_since _)) (.of_lasting (by simp)))

theorem execOrgDeriveRoll_since (wid : Nat) (s : State) : NextSince s (execOrgDeriveRoll wid s) :=
  .next (State.deriveItem_since fun i => .ite (.of_lasting (by simp)) (.ite (.of_lasting (by simp))
    (.ite (.of_lasting (by simp)) (.ite (.of_lasting (by simp)) ((s.rollKey_since (i.arg 1)).after (by simp))))))

theorem execOrgDeriveAttest_since (wid : Nat) (s : State) : NextSince s (execOrgDeriveAttest wid s) :=
  .next (State.deriveItem_since fun i => .ite (.of_lasting (by simp)) (.ite (.of_lasting (by simp))
    ((s.random_since 256).after (State.finish_lasting _ _ _ _))))

theorem execTamperKeyRedraw_since (s : State) : NextSince s (execTamperKeyRedraw s) :=
  .next (.ite (.ite (s.drawKeys_since.after (by simp)) (.of_lasting s.needD13_lasting)) (.refl s))

theorem execTamperSense_since (now : Nat) (s : State) : NextSince s (execTamperSense now s) :=
  .next (.ite (.refl s) (.ite (s.tamperNow_since now) ((s.tamperNow_since now).after (State.xingPulse_lasting _ 2))))

theorem execPsWriteComplete_since (ok : Bool) (s : State) : NextSince s (execPsWriteComplete ok s) := by
  refine .next (.ite (.refl s) (.ite s.psComplete_since (.ite (.of_lasting ?_) s.psFail_since)))
  simp only [lasting_mk, lasting_eta]

/-- No command takes back what lasts: each by the operations it is made of. -/
theorem exec_since (c : Instr) (s : State) : NextSince s (exec c s) :=
  match c with
  | .registerWrite _ _ _ _ => .atAddr (by simp)
  | .rcFieldRead _ _ _ => .atAddr (by simp)
  | .absentUnitAccess m addr w => execAbsentUnitAccess_since m addr w s
  | .mainsApply stays => .next (.ite (s.powerOff_since stays) (.refl s))
  | .startupBegin p => .next (.ite (.refl s) (s.startUp_since p))
  | .supplyLossDeclare => .keep (by simp)
  | .deferredShed => .keep (by split <;> simp)
  | .supplyReturn => .keep (by simp)
  | .holdupExpiry => .next (.ite (s.powerOff_since false) (.refl s))
  | .coreRailFault _ => .next (.ite (s.powerOff_since _) (.refl s))
  | .pwrReqWatch _ _ => .keep (by simp)
  | .pwrReqDeep _ _ => .keep (by simp)
  | .powerStateEntry => .keep (by simp)
  | .wakeEvent => .keep (by simp)
  | .domOnRequest _ _ => .keep (by simp)
  | .domOffRequest _ _ => .keep (by simp)
  | .domPwrUpDone d => .next (.ite (.refl s) (s.domUp_since d))
  | .domShutdownDone _ => .keep (by simp)
  | .domRailFault d => .next (.ite (.refl s) (s.railFault_since d))
  | .domIdleTimeout _ => .keep (by simp)
  | .domFaultClear _ _ => .keep (by simp)
  | .wakeFrcArm _ _ => .keep (by simp)
  | .frcCmpMatch => .keep (by simp)
  | .frcLoRead _ => .keep (by simp)
  | .gzbEdgeFrcLoRead _ => .keep (by simp)
  | .orgTamperFrcLoRead _ => .keep (by simp)
  | .vbSnapFrcLoRead _ _ => .keep (by simp)
  | .tcxoFail => .keep (by simp)
  | .tcxoRestore => .keep (by simp)
  | .xo32Fail => .keep (by simp)
  | .pllLockLoss _ => .keep (by simp)
  | .pllRelock _ => .keep (by simp)
  | .pllLossReset _ => .keep (by simp)
  | .resetPinAssert _ _ => .keep (by simp)
  | .resetPinRelease => .keep (by simp)
  | .swResetAll _ _ => .keep (by simp)
  | .swResetDomains _ _ _ => .keep (by simp)
  | .resetHoldEnd _ => .keep (by simp)
  | .xingResync _ _ => .keep (by simp)
  | .pulseRoundtripDone _ => .keep (by simp)
  | .swapGo _ _ _ => .keep (by simp)
  | .swapVerifyDone => .keep (by simp)
  | .hspiSelectFall _ => .keep (by simp)
  | .hspiSelectRise _ _ => .keep (by simp)
  | .hspiRead _ _ => .atAddr (by simp)
  | .hspiWrite _ _ => .atAddr (by simp)
  | .hspiStatus => .keep (by simp)
  | .hspiClear _ => .keep (by simp)
  | .hspiUnknownCmd _ => .keep (by simp)
  | .hspiWriteComplete => .keep (by
    repeat' split
    all_goals simp)
  | .ethHostRead _ _ _ _ _ => .atAddr (by simp)
  | .ethHostWrite _ _ _ _ _ _ => .atAddr (by simp)
  | .ethHostStatus _ _ _ => .keep (by simp)
  | .ethFrameRx _ _ _ _ _ _ _ => .keep (by
    dsimp only
    repeat' split
    all_goals simp)
  | .ethLinkUp _ _ _ _ _ _ => .keep (by simp)
  | .ethLinkDown _ => .keep (by simp)
  | .ethCtrlWrite _ _ _ => .keep (by simp)
  | .ptpMessageRx port phase x r => execPtpMessageRx_since port phase x r s
  | .ptpMessageTx port phase x => execPtpMessageTx_since port phase x s
  | .mbxGo _ _ _ => .keep (by simp)
  | .mbxTake _ _ _ => .keep (by simp)
  | .mbxDataWrite _ _ _ _ => .keep (by simp)
  | .mbxHostReset _ _ => .keep (by simp)
  | .mbxRepost _ => .keep (by simp)
  | .claimAcquire ms n => execClaimAcquire_since ms n s
  | .claimRelease _ _ => .keep (by simp)
  | .claimRenew _ _ => .keep (by simp)
  | .claimBadWrite _ _ _ => .keep (by simp)
  | .claimLeaseWrite _ _ _ => .keep (by simp)
  | .claimLeaseExpiry _ => .keep (by simp)
  | .claimOwnerTrouble _ => .keep (by simp)
  | .streamRead ms w => execStreamRead_since ms w s
  | .streamWrite _ _ _ => .keep (by simp)
  | .streamFlush _ _ => .keep (by simp)
  | .queuePushResume _ => .keep (by
    repeat' split
    all_goals simp)
  | .workItemSubmit _ => .keep (by simp)
  | .dispatch _ => .keep (by
    repeat' split
    all_goals simp)
  | .workItemComplete _ => .keep (by
    repeat' split
    all_goals simp)
  | .wiDonePush _ => .keep (by
    repeat' split
    all_goals simp)
  | .coreOverrun _ => .keep (by simp)
  | .coreAccessFault _ => .keep (by simp)
  | .wdtDispatchTimeout => .keep (by simp)
  | .evtSet _ _ _ => .keep (by simp)
  | .evtClr _ _ _ _ => .keep (by simp)
  | .taskMaskWrite _ _ => .keep (by simp)
  | .nop _ => .keep (by split <;> simp)
  | .signal _ => .keep (by split <;> simp)
  | .cancel _ => .keep (by simp)
  | .sdlArm _ => .keep (by split <;> simp)
  | .sdlSteerRate _ => .keep (by simp)
  | .sdlSteerSlew _ => .keep (by simp)
  | .sdlSteerStep _ => .keep (by simp)
  | .sdlSteerTod _ => .keep (by simp)
  | .tb0Second _ _ _ => .keep (by simp)
  | .holdLimitExpiry => .keep (by simp)
  | .tb0StepApply => .keep (by split <;> simp)
  | .ref10OkSet => .keep (by simp)
  | .ref10Loss => .keep (by simp)
  | .slotStart => execSlotStart_since s
  | .tbNsRead _ _ => .keep (by
    dsimp only
    repeat' split
    all_goals simp)
  | .cmpArm _ _ _ _ => .keep (by simp)
  | .cmpDisarm _ _ _ => .keep (by simp)
  | .cmpFire _ _ => .keep (by simp)
  | .convGo _ => .keep (by simp)
  | .ppsInEdge _ => .keep (by simp)
  | .ppsInLoss => .keep (by simp)
  | .snapInEdge _ => .keep (by simp)
  | .gpioCaptureEdge _ _ => .keep (by simp)
  | .ppsOutPulse => .keep (by simp)
  | .ppsOutFall => .keep (by simp)
  | .antBiasOpen _ _ => .keep (by simp)
  | .antBiasShort _ _ => .keep (by simp)
  | .antBiasRetry _ => .keep (by simp)
  | .antSwitch => .keep (by simp)
  | .searchStart _ _ => .keep (by
    repeat' split
    all_goals simp)
  | .searchDone _ _ => .keep (by
    dsimp only
    repeat' split
    all_goals simp)
  | .chPullInLock _ => .keep (by simp)
  | .chPullInTimeout _ => .keep (by simp)
  | .chPhaseLock _ => .keep (by simp)
  | .chPhaseSlip _ => .keep (by simp)
  | .chSidePeak _ => .keep (by simp)
  | .chLost _ => .keep (by simp)
  | .chReacqExpiry _ => .keep (by simp)
  | .floatChRelease _ => .keep (by simp)
  | .baseEpochLatch _ => .keep (by simp)
  | .baseRecordComplete _ => .keep (by split <;> simp)
  | .timeSolution _ => .keep (by simp)
  | .noiseCheck c noise => execNoiseCheck_since c noise s
  | .bvSurveyStart _ => .keep (by simp)
  | .bvSurveySet _ => .keep (by simp)
  | .bvSurveyAbort _ => .keep (by split <;> simp)
  | .bvSurveySelectAnt _ => .keep (by simp)
  | .bvSearch _ => .keep (by
    repeat' split
    all_goals simp)
  | .obsIntake => .keep (by simp)
  | .laneTake => .keep (by split <;> simp)
  | .fixDelivery _ => .keep (by split <;> simp)
  | .laneDeadlineAbandon _ => .keep (by split <;> simp)
  | .laneFault _ => .keep (by
    repeat' split
    all_goals simp)
  | .slvRoverReset _ => .keep (by simp)
  | .slvRoverDisable _ => .keep (by simp)
  | .slvRoverEnable _ => .keep (by simp)
  | .slvRoverQuery _ => .keep (by simp)
  | .rtcmBuild => .keep (by split <;> simp)
  | .corrAgeExpiry => .keep (by simp)
  | .dlFixAssemble => .keep (by simp)
  | .stopTrainRepeat => .keep (by simp)
  | .sackSend _ => .keep (by simp)
  | .frameRxBad _ _ _ _ => .keep (by simp)
  | .joinReqRx _ _ _ => .next (State.rxOf_since fun u x => State.rxAccept_since fun t => t.joinReq_since x)
  | .joinKeyDone _ => .keep (by
    repeat' split
    all_goals simp)
  | .ctrlRx _ _ _ _ => .keep (by simp)
  | .obsRx b c psdu e pop => execObsRx_since b c psdu e pop s
  | .stopReqRx _ _ _ _ => .keep (by simp)
  | .leaveRx _ _ _ _ => .keep (by simp)
  | .statusRx _ _ _ _ => .keep (by simp)
  | .floodFrameRx _ _ _ _ => .keep (by simp)
  | .iackRx _ _ _ => .keep (by split <;> simp)
  | .iackTimeout _ => .keep (by simp)
  | .wurWordRx _ => .keep (by split <;> simp)
  | .bsSend _ => .keep (by split <;> simp)
  | .bsMemberExpel _ => .keep (by simp)
  | .bsMemberResync _ => .keep (by simp)
  | .planRequestIntake => .keep (by simp)
  | .plannerTake => .keep (by
    dsimp only
    repeat' split
    all_goals simp)
  | .planDone _ => .keep (by split <;> simp)
  | .planExhausted => .keep (by split <;> simp)
  | .posStaleExpiry _ => .keep (by simp)
  | .rtTick => .keep (by simp)
  | .taskDwellExpiry _ => .keep (by
    repeat' split
    all_goals simp)
  | .pglPlan _ _ => .keep (by split <;> simp)
  | .pglAssign _ _ => .keep (by split <;> simp)
  | .pglReleaseFuture _ => .keep (by split <;> simp)
  | .pglReleaseAll _ => .keep (by split <;> simp)
  | .stopInputEdge _ => .keep (by simp)
  | .gzbStopWrite _ _ => .keep (by simp)
  | .gzbInitExit => .keep (by simp)
  | .stopKeyLoad _ => .keep (by simp)
  | .testPulse _ => .keep (by simp)
  | .fallJudgement _ => .keep (by simp)
  | .riseJudgement _ => .keep (by simp)
  | .tpShortDetect _ => .keep (by simp)
  | .loopReverseDetect _ => .keep (by simp)
  | .monitorSample _ _ => .keep (by simp)
  | .chMismatchDetect => .keep (by simp)
  | .discrepancyDetect => .keep (by simp)
  | .rfSelfTest _ _ => .keep (by simp)
  | .coilShortDetect _ => .keep (by simp)
  | .coilOpenDetect _ => .keep (by simp)
  | .gzbFaultClear _ _ _ => .keep (by simp)
  | .gzbClear _ => .keep (by
    repeat' split
    all_goals simp)
  | .psWriteComplete ok => execPsWriteComplete_since ok s
  | .wktEnable _ _ => .keep (by simp)
  | .wktCheckDone _ _ _ _ _ => .keep (by simp)
  | .wktDisable _ _ => .keep (by simp)
  | .wktZero _ _ => .keep (by simp)
  | .wktMoveTable _ => .keep (by split <;> simp)
  | .wktMoveTarget _ => .keep (by split <;> simp)
  | .wktHomeStall _ => .keep (by split <;> simp)
  | .wktHomeSwitch _ => .keep (by split <;> simp)
  | .wktTableStart _ => .keep (by simp)
  | .wktTableEnd _ => .keep (by
    dsimp only
    repeat' split
    all_goals simp)
  | .wktRampEnd _ => .keep (by simp)
  | .wktHomeFound _ _ => .keep (by split <;> simp)
  | .wktHomeNotFound _ => .keep (by split <;> simp)
  | .wktStall _ => .keep (by simp)
  | .wktOvercurrent _ _ _ _ => .keep (by simp)
  | .wktPhaseGndShort _ _ _ _ => .keep (by simp)
  | .wktVmLow _ _ => .keep (by simp)
  | .wktVmOver _ _ => .keep (by simp)
  | .wktVmHigh _ _ => .keep (by simp)
  | .wktStandstillExpiry _ => .keep (by simp)
  | .wktReduceDone _ => .keep (by simp)
  | .wktDecelWrite _ _ _ _ => .keep (by simp)
  | .wktLimitWrite _ _ _ _ => .keep (by simp)
  | .wktFaultClear _ _ _ _ => .keep (by simp)
  | .orgKeyUpdate _ => .keep (by split <;> simp)
  | .orgDeriveNode _ => .keep (by dsimp only; split <;> simp)
  | .orgDeriveInvalidate _ => .keep (by simp)
  | .orgDeriveRoll wid => execOrgDeriveRoll_since wid s
  | .orgDeriveAttest wid => execOrgDeriveAttest_since wid s
  | .orgDeriveHmac _ => .keep (by simp)
  | .tamperSense now => execTamperSense_since now s
  | .tamperKeyRedraw => execTamperKeyRedraw_since s
  | .tempMeasure t upd => .next (.ite (s.tempMeasure_since t upd) (.refl s))
  | .svcRxInvert => .keep (by simp)
  | .svcPresentAssert => execSvcPresentAssert_since s
  | .svcPresentRelease => .keep (by simp)
  | .svcPacketBad => .keep (by simp)
  | .svcHello _ _ => .keep (by simp)
  | .svcSetRate _ _ => .keep (by split <;> simp)
  | .svcRateTimeout => .keep (by simp)
  | .svcRead _ _ => .keep (by simp)
  | .svcWrite _ _ => .keep (by simp)
  | .svcSubmit _ _ => .keep (by simp)
  | .svcReset _ _ => .keep (by simp)
  | .updBegin _ => .keep (by split <;> simp)
  | .updData _ => .keep (by split <;> simp)
  | .updEnd _ => .keep (by split <;> simp)
  | .updActivate _ => .keep (by split <;> simp)
  | .updAbort _ => .keep (by split <;> simp)
  | .updConfirm _ => .keep (by split <;> simp)
  | .updLockTimeout => .keep (by simp)
  | .svnFuseBurn => .next (.ite s.svnBurn_since (.refl s))
  | .snapTrigger _ _ _ _ => .keep (by simp)
  | .vbSnapWrite _ _ => .keep (by simp)
  | .vbRecordAssemble _ => .keep (by split <;> simp)
  | .vbRecordProgrammed => .keep (by split <;> simp)
  | .vbTokenRefill _ => .keep (by simp)
  | .vbRead _ => .keep (by split <;> simp)
  | .vbMark _ => .keep (by
    repeat' split
    all_goals simp)
  | .testRun _ => .keep (by
    repeat' split
    all_goals simp)
  | .testDurationExpiry _ _ => .keep (by split <;> simp)
  | .loopReadsClosed _ => .keep (by simp)
  | .stopTrainEnd => execStopTrainEnd_since s
  | .antBiasNormal _ _ => .keep (by simp)
  | .cmpPulseEnd _ => .keep (by simp)
  | .tbSlewDone => .keep (by simp)
  | .wktVmHighEnd _ _ => .keep (by simp)
  | .wktVmReversed _ _ => .keep (by simp)

/-- Settles O4: the front command runs on the state with the queue's rest, and takes nothing back. -/
theorem noCommandTakesBack : Obligations.NoCommandTakesBack := by
  unfold Obligations.NoCommandTakesBack
  intro c q s t hpend hstep
  have hexec : exec c { s with pending := q } = .next t := by rwa [step, hpend] at hstep
  obtain ⟨hpart, hsi, hq, hfrc, hfree, hsvn, hwipe, hrev⟩ := exec_since c { s with pending := q } t hexec
  exact ⟨hq, hpart, hsi, hfrc, hfree, hsvn, hwipe, hrev⟩

end Sys2Proof.Machine
end

section
/-! SUPPORT. O13: Requests for Watch and deep standby. -/
namespace Sys2Proof.Machine

/-- A command that writes one field shows its value there and nothing else. -/
theorem exec_setsField {c : Instr} {s : State} {f : Fld} {v : Nat} (h : exec c s = .next (s.setF f v))
    (hf : f.lo + f.width ≤ 32) (hv : v < 2 ^ f.width) :
    ∃ t, exec c s = .next t ∧ t.getF f = v ∧ OnlyFields s t [f] ∧ t = { s with regs := t.regs } :=
  ⟨_, h, (State.getF_setF_same s f v hf).trans (Nat.mod_eq_of_lt hv), OnlyFields.setF s f v hf, State.setF_frame rfl f v⟩

/-- The high half of a keyed request word is its key. -/
theorem keyWord_key (key : Nat) {n : Nat} (h : n < 65536) : bitsOf (key % 65536 * 65536 + n) 16 16 = key % 65536 := by
  simp only [bitsOf]
  omega

theorem keyWord_target (key : Nat) {n : Nat} (h : n < 8) : bitsOf (key % 65536 * 65536 + n) 0 3 = n := by
  simp only [bitsOf]
  omega

/-! ### What a keyed word at LODGE_PWR_REQ does -/

theorem State.sleepRefusal_lt (s : State) : s.sleepRefusal < 16 := by
  unfold State.sleepRefusal
  split_ifs <;> decide

/-- The requests that a state takes at all: either target from Run, deep standby also from Watch. -/
def State.mayRequest (s : State) (target : Nat) : Prop :=
  s.getF F.LODGE_PWR_STATE_STATE = 2 ∨ (s.getF F.LODGE_PWR_STATE_STATE = 3 ∧ target = 4)

section
variable {s : State} {v target : Nat}

theorem State.pwrReq_of_wrong_key (h : bitsOf v 16 16 ≠ 0xC3A5) : s.pwrReq v = s.setF F.LODGE_PWR_STATE_REFUSE 5 :=
  if_pos h

variable (ht : bitsOf v 0 3 = target)
include ht

theorem State.pwrReq_of_other_state (hk : bitsOf v 16 16 = 0xC3A5) (hm : ¬ s.mayRequest target) : s.pwrReq v = s := by
  subst ht
  exact (if_neg (not_not.2 hk)).trans (if_pos (.inr (congrArg Bool.not (decide_eq_false (show ¬ (_ ∨ _) from hm)))))

variable (hd : target = 3 ∨ target = 4) (hm : s.mayRequest target)
include hd hm

/-- A request for a target that the state takes is not ignored. -/
theorem State.not_ignored : ¬ ((!decide (bitsOf v 0 3 = 3 ∨ bitsOf v 0 3 = 4)) = true ∨
    (!decide (s.getF F.LODGE_PWR_STATE_STATE = 2 ∨
      (s.getF F.LODGE_PWR_STATE_STATE = 3 ∧ bitsOf v 0 3 = 4))) = true) := by
  subst ht
  rw [decide_eq_true hd, decide_eq_true (show _ ∨ _ from hm)]
  decide

variable (hk : bitsOf v 16 16 = 0xC3A5)
include hk

theorem State.pwrReq_of_refused (hr : s.sleepRefusal ≠ 0) :
    s.pwrReq v = s.setF F.LODGE_PWR_STATE_REFUSE s.sleepRefusal :=
  (if_neg (not_not.2 hk)).trans ((if_neg (State.not_ignored ht hd hm)).trans (if_pos hr))

theorem State.pwrReq_of_taken (hr : s.sleepRefusal = 0) :
    s.pwrReq v = (s.setF F.LODGE_PWR_STATE_STATE 5).updPower
      (fun p => { p with entering := target, quiet := false, wakeReq := 0 }) := by
  have hgate := State.not_ignored ht hd hm
  subst ht
  exact (if_neg (not_not.2 hk)).trans ((if_neg hgate).trans (if_neg (not_not.2 hr)))

end

/-- A command that writes a keyed word for Watch or deep standby makes that request. -/
theorem sleepRequest_of_exec {c : Instr} {s : State} {key target : Nat} (hd : target = 3 ∨ target = 4)
    (h : exec c s = .next (s.pwrReq (key % 65536 * 65536 + target))) : SleepRequest c s key target := by
  have ht : bitsOf (key % 65536 * 65536 + target) 0 3 = target := keyWord_target key (by omega)
  have hkey := keyWord_key key (n := target) (by omega)
  refine ⟨fun hk => ?_, fun hk hm => ⟨fun hr => ?_, fun hr => ?_⟩, fun hk h2 h3 => ?_⟩
  · rw [State.pwrReq_of_wrong_key (by rw [hkey]; exact hk)] at h
    exact exec_setsField h (by decide) (by decide)
  · rw [State.pwrReq_of_refused ht hd hm (hkey.trans hk) hr] at h
    exact exec_setsField h (by decide) s.sleepRefusal_lt
  · rw [State.pwrReq_of_taken ht hd hm (hkey.trans hk) hr] at h
    exact ⟨_, h, State.getF_setF_same s F.LODGE_PWR_STATE_STATE 5 (by decide), rfl,
      OnlyFields.setF s F.LODGE_PWR_STATE_STATE 5 (by decide), rfl⟩
  · rw [State.pwrReq_of_other_state ht (hkey.trans hk) (not_or.2 ⟨h2, h3⟩)] at h
    exact h

/-! ### The reasons to refuse -/

theorem State.anyPosted_eq_false (s : State) : (List.range 32).any (fun c => s.flag (F.MBX_CTRL_GO c)) = false ↔
    ∀ c, c < 32 → s.flag (F.MBX_CTRL_GO c) = false := by
  simp only [List.any_eq_false, List.mem_range, Bool.not_eq_true]

theorem State.noWindowLevel (s : State) : ([5, 6, 7, 8, 9].any (fun w => (s.strm w).level ≠ 0)) = false ↔
    ∀ w, 5 ≤ w → w ≤ 9 → (s.strm w).level = 0 := by
  have hmem : ∀ w, w ∈ [5, 6, 7, 8, 9] ↔ 5 ≤ w ∧ w ≤ 9 := by
    intro w
    simp only [List.mem_cons, List.not_mem_nil, or_false]
    omega
  simp only [List.any_eq_false, hmem, decide_eq_true_eq, not_not, and_imp]

/-- Nothing refuses exactly where none of the reasons holds. -/
theorem State.sleepRefusal_eq_zero (s : State) : s.sleepRefusal = 0 ↔
    s.anyJoined = false ∧ (∀ c, c < 32 → s.flag (F.MBX_CTRL_GO c) = false) ∧ s.getF F.SYS_SWAP_STAT_STATE ≠ 3 ∧
      s.updating = false ∧ s.anyAxis = false ∧ s.inFlight = 0 ∧ ∀ w, 5 ≤ w → w ≤ 9 → (s.strm w).level = 0 := by
  rw [← s.anyPosted_eq_false, ← s.noWindowLevel]
  have hite : ∀ (p : Prop) [Decidable p] (n m : Nat), n ≠ 0 → ((if p then n else m) = 0 ↔ ¬ p ∧ m = 0) := by
    intro p _ n m hn
    by_cases hp : p <;> simp [hp, hn]
  unfold State.sleepRefusal
  simp only [hite _ 1 _ (by decide), hite _ 2 _ (by decide), hite _ 3 _ (by decide), hite _ 4 _ (by decide),
    hite _ 6 _ (by decide), hite _ 7 _ (by decide), not_or, Bool.not_eq_true, not_not, and_true, ne_eq]

/-- Settles O13: both commands are keyed words written to LODGE_PWR_REQ, and nothing refuses exactly where no reason holds. -/
theorem powerStateRequests : Obligations.PowerStateRequests := by
  unfold Obligations.PowerStateRequests
  refine ⟨fun m key s hacc => ⟨?_, ?_⟩, fun s => ⟨fun h => if_pos h, s.sleepRefusal_eq_zero⟩⟩
  · exact sleepRequest_of_exec (.inl rfl) (congrArg _ (State.guardW_ok_eq hacc _ _))
  · exact sleepRequest_of_exec (.inr rfl) (congrArg _ (State.guardW_ok_eq hacc _ _))

end Sys2Proof.Machine
end

section
/-! SUPPORT. O15: ON and OFF requests of a domain. -/
namespace Sys2Proof.Machine

theorem State.isOn_of_dom {s : State} {d : Nat} (h : s.dom d = DS.on) : s.isOn d = true := decide_eq_true h

section
variable {s : State} {d : Nat}

/-- A command that writes one domain's state shows it there and nothing else. -/
theorem exec_setsDom {c : Instr} {st : Nat} (h : exec c s = .next (s.setDom d st)) (hd : d ∈ allDoms)
    (ha : s.domAbsent d = false) (hst : st < 16) :
    ∃ t, exec c s = .next t ∧ t.dom d = st ∧ OnlyFields s t [F.dom d] ∧ t = { s with regs := t.regs } :=
  ⟨_, h, State.dom_setDom_same hd ha hst, s.setDom_onlyFields d st, s.setDom_frame d st⟩

/-! ### An ON request, state by state (R102) -/

theorem State.domOnReq_of_unused (hu : s.domUnused d = true) : s.domOnReq d = s := by
  rw [State.domOnReq, if_pos (by simp [hu])]

variable (hd : d ∈ allDoms) (hp : s.powered = true)
include hd hp

theorem State.not_outside : ¬ (d < 2 ∨ 13 < d ∨ (!s.powered) = true) := by
  have := mem_allDoms.1 hd
  rw [hp, not_or, not_or]
  exact ⟨by omega, by omega, by decide⟩

section
variable (hu : s.domUnused d = false)
include hu

/-- The request by the domain's state, where the domain is in use. -/
theorem State.domOnReq_eq : s.domOnReq d =
    if s.dom d = DS.off then
      if d = 2 ∨ s.isOn 2 then s.setDom d DS.pwrUp else if s.hasHeld d then s.startPwrUp d else s.domEvent d .wake
    else if s.dom d = DS.shutdown then s.setDom d DS.pendingOn
    else if s.dom d = DS.pendingOff then s.setDom d DS.pwrUp
    else s := by
  have hrange := mem_allDoms.1 hd
  refine if_neg ?_
  rw [hp, hu, not_or, not_or]
  exact ⟨by omega, by omega, by decide⟩

theorem State.domOnReq_of_off (h : s.dom d = DS.off) (h2 : d = 2 ∨ s.dom 2 = DS.on) :
    s.domOnReq d = s.setDom d DS.pwrUp := by
  rw [State.domOnReq_eq hd hp hu, if_pos h, if_pos (h2.imp_right State.isOn_of_dom)]

theorem State.domOnReq_of_shutdown (h : s.dom d = DS.shutdown) : s.domOnReq d = s.setDom d DS.pendingOn := by
  rw [State.domOnReq_eq hd hp hu, h, if_neg (by decide), if_pos rfl]

theorem State.domOnReq_of_pendingOff (h : s.dom d = DS.pendingOff) : s.domOnReq d = s.setDom d DS.pwrUp := by
  rw [State.domOnReq_eq hd hp hu, h, if_neg (by decide), if_neg (by decide), if_pos rfl]

theorem State.domOnReq_of_other (h : s.dom d ∈ [DS.pwrUp, DS.on, DS.pendingOn, DS.lockout]) : s.domOnReq d = s := by
  have hne : ∀ st ∈ [DS.off, DS.shutdown, DS.pendingOff], s.dom d ≠ st :=
    fun st hst he => absurd h (he ▸ (show ∀ st ∈ [DS.off, DS.shutdown, DS.pendingOff], st ∉ _ by decide) st hst)
  rw [State.domOnReq_eq hd hp hu, if_neg (hne _ (by decide)), if_neg (hne _ (by decide)), if_neg (hne _ (by decide))]

end

/-! ### An OFF request, state by state (R102–R104) -/

/-- The request by the domain's state. -/
theorem State.domOffReq_eq : s.domOffReq d =
    if s.isOn d ∨ s.dom d = DS.pwrUp then
      if s.offRefused d then s.setBit F.LODGE_DOM_FLAGS_REFUSED (d - 2) else s.domLeave d
    else if s.dom d = DS.pendingOn then
      if s.offRefused d ∨ s.hasHeld d then s.setBit F.LODGE_DOM_FLAGS_REFUSED (d - 2) else s.domLeave d
    else s := if_neg (State.not_outside hd hp)

theorem State.domOffReq_of_refused (h : s.dom d = DS.on ∨ s.dom d = DS.pwrUp ∨ s.dom d = DS.pendingOn)
    (hr : s.offRefused d = true) : s.domOffReq d = s.setBit F.LODGE_DOM_FLAGS_REFUSED (d - 2) := by
  rw [State.domOffReq_eq hd hp, hr]
  rcases h with h | h | h
  · exact if_pos (.inl (State.isOn_of_dom h))
  · exact if_pos (.inr h)
  · rw [State.not_isOn_of_dom (by rw [h]; decide), h]
    rfl

theorem State.domOffReq_of_on (h : s.dom d = DS.on) (hr : s.offRefused d = false) :
    s.domOffReq d = (s.loseDom d (s.power.entering = 3)).setDom d DS.shutdown := by
  rw [State.domOffReq_eq hd hp, if_pos (.inl (State.isOn_of_dom h)), hr, if_neg Bool.false_ne_true, State.domLeave,
    if_pos (State.isOn_of_dom h), State.shutdown]

theorem State.domOffReq_of_pwrUp (h : s.dom d = DS.pwrUp) (hr : s.offRefused d = false) :
    s.domOffReq d = s.setDom d DS.pendingOff := by
  have hoff : s.isOn d = false := State.not_isOn_of_dom (by rw [h]; decide)
  rw [State.domOffReq_eq hd hp, if_pos (.inr h), hr, if_neg Bool.false_ne_true, State.domLeave, hoff,
    if_neg Bool.false_ne_true, if_pos h]

theorem State.domOffReq_of_pendingOn (h : s.dom d = DS.pendingOn) (hr : s.offRefused d = false)
    (hh : s.hasHeld d = false) : s.domOffReq d = s.setDom d DS.shutdown := by
  have hoff : s.isOn d = false := State.not_isOn_of_dom (by rw [h]; decide)
  rw [State.domOffReq_eq hd hp, hr, hh, State.domLeave, hoff, h, hh]
  rfl

theorem State.domOffReq_of_other (h : s.dom d ∈ [DS.off, DS.shutdown, DS.pendingOff, DS.lockout]) :
    s.domOffReq d = s := by
  have hne : ∀ st ∈ [DS.on, DS.pwrUp, DS.pendingOn], s.dom d ≠ st :=
    fun st hst he => absurd h (he ▸ (show ∀ st ∈ [DS.on, DS.pwrUp, DS.pendingOn], st ∉ _ by decide) st hst)
  rw [State.domOffReq_eq hd hp, State.not_isOn_of_dom (hne _ (by decide)), if_neg (by simp [hne]),
    if_neg (hne _ (by decide))]

end

/-- Settles O15: each request by the domain's state, behind the gate of its register. -/
theorem domainRequests : Obligations.DomainRequests := by
  unfold Obligations.DomainRequests
  intro m d s h2 h13 hp ha
  have hd : d ∈ allDoms := mem_allDoms.2 ⟨h2, h13⟩
  refine ⟨fun hacc => ?_, fun hacc => ?_⟩
  · have hexec : exec (.domOnRequest m d) s = .next (s.domOnReq d) := congrArg _ (State.guardW_ok_eq hacc _ _)
    refine ⟨fun hu => ?_, fun hu => ⟨fun h h2 => ?_, fun h => ?_, fun h => ?_, fun h => ?_⟩⟩
    · rw [hexec, State.domOnReq_of_unused hu]
    · exact exec_setsDom (State.domOnReq_of_off hd hp hu h h2 ▸ hexec) hd ha (by decide)
    · exact exec_setsDom (State.domOnReq_of_shutdown hd hp hu h ▸ hexec) hd ha (by decide)
    · exact exec_setsDom (State.domOnReq_of_pendingOff hd hp hu h ▸ hexec) hd ha (by decide)
    · rw [hexec, State.domOnReq_of_other hd hp hu h]
  · have hexec : exec (.domOffRequest m d) s = .next (s.domOffReq d) := congrArg _ (State.guardW_ok_eq hacc _ _)
    refine ⟨fun h hr => ?_, fun h hr => ?_, fun h hr => ?_, fun h hr hh => ?_, fun h => ?_⟩
    · exact ⟨_, State.domOffReq_of_refused hd hp h hr ▸ hexec,
        s.bit_setBit_same (by decide) (show d - 2 < 12 by omega), OnlyFields.setF s _ _ (by decide),
        State.setF_frame rfl _ _⟩
    · rw [hexec, State.domOffReq_of_on hd hp h hr]
    · exact exec_setsDom (State.domOffReq_of_pwrUp hd hp h hr ▸ hexec) hd ha (by decide)
    · exact exec_setsDom (State.domOffReq_of_pendingOn hd hp h hr hh ▸ hexec) hd ha (by decide)
    · rw [hexec, State.domOffReq_of_other hd hp h]

end Sys2Proof.Machine
end

section
/-! SUPPORT. O17: The sources of resets and their releases. -/
namespace Sys2Proof.Machine

/-! ### Keyed words at LODGE_RST_REQ (R116) -/

theorem State.rstReq_of_wrong_key {v : Nat} (h : bitsOf v 16 16 ≠ 0xC3A5) (s : State) : s.rstReq v = s := if_pos h

section
variable {v : Nat} (hk : bitsOf v 16 16 = 0xC3A5)
include hk

theorem State.rstReq_of_all (h0 : v.testBit 0 = true) (s : State) : s.rstReq v = s.resetAll .swReset :=
  (if_neg (not_not.2 hk)).trans (if_pos h0)

theorem State.rstReq_of_domains (h0 : v.testBit 0 = false) (s : State) : s.rstReq v =
    if allDoms.filter v.testBit = [] then s else s.resetDoms .swReset (allDoms.filter v.testBit) :=
  (if_neg (not_not.2 hk)).trans (if_neg (Bool.eq_false_iff.1 h0))

end

/-- The request word for named domains carries their bits and not that of the whole scope. -/
theorem rstWord_testBit (key doms : Nat) {d : Nat} (hd : d < 14) :
    (key % 65536 * 65536 + doms % 16384 / 4 * 4).testBit d = (decide (2 ≤ d) && doms.testBit d) := by
  have hword : key % 65536 * 65536 + doms % 16384 / 4 * 4 = 2 ^ 2 * (2 ^ 12 * (key % 65536 * 4) + doms / 4 % 2 ^ 12) := by
    omega
  rw [hword, Nat.testBit_two_pow_mul]
  by_cases h2 : 2 ≤ d
  · rw [Nat.testBit_two_pow_mul_add _ (Nat.mod_lt _ (by decide)), if_pos (by omega), Nat.testBit_mod_two_pow,
      show doms / 4 = doms / 2 ^ 2 from rfl, Nat.testBit_div_two_pow]
    simp only [h2, decide_true, Bool.true_and, show d - 2 < 12 by omega, show d - 2 + 2 = d by omega]
  · simp only [h2, decide_false, Bool.false_and]

theorem rstWord_doms (key doms : Nat) :
    allDoms.filter (key % 65536 * 65536 + doms % 16384 / 4 * 4).testBit = allDoms.filter doms.testBit := by
  refine List.filter_congr fun d hd => ?_
  have hrange := mem_allDoms.1 hd
  rw [rstWord_testBit key doms (by omega), decide_eq_true hrange.1, Bool.true_and]

section
variable {m : Master} {s : State} (hacc : s.wrAcc m R.LODGE_RST_REQ = .ok) (key : Nat)
include hacc

theorem exec_swResetAll_of_ok : exec (.swResetAll m key) s = .next (s.rstReq (key % 65536 * 65536 + 1)) :=
  congrArg _ (State.guardW_ok_eq hacc _ _)

theorem exec_swResetDomains_of_ok (doms : Nat) :
    exec (.swResetDomains m key doms) s = .next (s.rstReq (key % 65536 * 65536 + doms % 16384 / 4 * 4)) :=
  congrArg _ (State.guardW_ok_eq hacc _ _)

end

section
variable {key : Nat} (hk : key % 65536 = 0xC3A5)
include hk

theorem State.rstReq_all (s : State) : s.rstReq (key % 65536 * 65536 + 1) = s.resetAll .swReset :=
  State.rstReq_of_all ((keyWord_key key (by decide)).trans hk) (by rw [hk]; rfl) s

theorem State.rstReq_domains (doms : Nat) (s : State) : s.rstReq (key % 65536 * 65536 + doms % 16384 / 4 * 4) =
    if allDoms.filter doms.testBit = [] then s else s.resetDoms .swReset (allDoms.filter doms.testBit) := by
  rw [State.rstReq_of_domains ((keyWord_key key (by omega)).trans hk) (rstWord_testBit key doms (by decide)),
    rstWord_doms]

end

/-! ### RESET_N (R117) -/

section
variable {low : Nat} {taken : Bool}

theorem exec_resetPinAssert_of_short (h : low < 1000) (s : State) : exec (.resetPinAssert low taken) s = .next s :=
  congrArg Host.Outcome.next (if_pos (.inr (.inr (.inl h))))

theorem exec_resetPinAssert_of_long {s : State} (hp : s.powered = true) (hl : s.power.resetPinLow = false)
    (h : 10000 ≤ low ∨ (1000 ≤ low ∧ taken = true)) : exec (.resetPinAssert low taken) s =
      .next ((s.resetAll .resetPin).updPower (fun p => { p with resetPinLow := true })) := by
  refine congrArg Host.Outcome.next (if_neg ?_)
  rw [hl, hp]
  rcases h with h | ⟨h, rfl⟩ <;> simp <;> omega

end

theorem State.resetAll_of_powered {s : State} (hp : s.powered = true) (src : ResetSrc) :
    s.resetAll src = s.lodgeReset.resetDoms src allDoms := if_pos hp

/-- Settles O17: the pin by the length of its pulse, the keyed words, and the holds that end. -/
theorem resetSources : Obligations.ResetSources := by
  unfold Obligations.ResetSources
  intro m s
  refine ⟨fun low taken h => exec_resetPinAssert_of_short h s, fun low taken hp hl h => ?_, fun hl => ?_,
    fun src hsrc hheld => ?_, fun key hacc => ⟨fun hk => ⟨?_, fun doms => ?_⟩, fun hk hp => ⟨?_, fun doms hne => ?_⟩,
    fun doms hnil => ?_⟩⟩
  · rw [exec_resetPinAssert_of_long hp hl h, State.resetAll_of_powered hp]
  · exact ⟨_, rfl, congrArg Host.Outcome.next (if_pos hl)⟩
  · refine ⟨_, rfl, congrArg Host.Outcome.next (if_pos ⟨?_, hheld⟩)⟩
    simpa only [List.mem_cons, List.not_mem_nil, or_false] using hsrc
  · rw [exec_swResetAll_of_ok hacc, State.rstReq_of_wrong_key (by rwa [keyWord_key key (by decide)])]
  · rw [exec_swResetDomains_of_ok hacc, State.rstReq_of_wrong_key (by rwa [keyWord_key key (by omega)])]
  · rw [exec_swResetAll_of_ok hacc, State.rstReq_all hk, State.resetAll_of_powered hp]
  · rw [exec_swResetDomains_of_ok hacc, State.rstReq_domains hk, if_neg hne]
  · rw [exec_swResetDomains_of_ok hacc]
    by_cases hk : key % 65536 = 0xC3A5
    · rw [State.rstReq_domains hk, if_pos hnil]
    · rw [State.rstReq_of_wrong_key (by rwa [keyWord_key key (by omega)])]

end Sys2Proof.Machine
end

section
/-! SUPPORT. O57: Tamper, die temperature and the persistent store. -/
namespace Sys2Proof.Machine

/-! ### A field written under a condition -/

/-- The field written where the condition holds. -/
def State.setFIf (s : State) (c : Prop) [Decidable c] (f : Fld) (v : Nat) : State := if c then s.setF f v else s

section
variable (s : State) (c : Prop) [Decidable c] {f : Fld} (v : Nat)

theorem State.setFIf_onlyFields (h : f.lo + f.width ≤ 32) : OnlyFields s (s.setFIf c f v) [f] := by
  unfold State.setFIf
  split_ifs
  · exact OnlyFields.setF s f v h
  · exact OnlyFields.refl s [f]

theorem State.setFIf_frame {s t : State} (h : t = { s with regs := t.regs }) (c : Prop) [Decidable c] (f : Fld) (v : Nat) :
    t.setFIf c f v = { s with regs := (t.setFIf c f v).regs } := by
  unfold State.setFIf
  split_ifs
  · exact State.setF_frame h f v
  · exact h

variable {c}

theorem State.setFIf_pos (hc : c) (f : Fld) : s.setFIf c f v = s.setF f v := if_pos hc

theorem State.setFIf_neg (hc : ¬ c) (f : Fld) : s.setFIf c f v = s := if_neg hc

end

/-! ### The sensors (R489, R490) -/

theorem State.tamperNow_eq (s : State) (now : Nat) : s.tamperNow now =
    let bits := ((List.range 6).filter
      (fun b => (now % 64).testBit b && !(s.getF F.ORG_TAMPER_NOW).testBit b)).map (2 ^ ·)
    if bits = [] then s.setF F.ORG_TAMPER_NOW (now % 64) else (s.setF F.ORG_TAMPER_NOW (now % 64)).tamper bits.sum := rfl

/-- Sensors of which none newly reads active only show. -/
theorem State.tamperNow_of_none {s : State} {now : Nat}
    (h : ∀ b, b < 6 → now.testBit b = true → s.bit F.ORG_TAMPER_NOW b = true) :
    s.tamperNow now = s.setF F.ORG_TAMPER_NOW (now % 64) := by
  refine if_pos (List.map_eq_nil_iff.2 (List.filter_eq_nil_iff.2 fun b hb => ?_))
  have hb6 : b < 6 := List.mem_range.1 hb
  have hnow : (now % 64).testBit b = now.testBit b := by
    rw [show 64 = 2 ^ 6 from rfl, Nat.testBit_mod_two_pow, decide_eq_true hb6, Bool.true_and]
  have hold := h b hb6
  rw [hnow]
  unfold State.bit at hold
  cases hn : now.testBit b
  · exact Bool.false_ne_true
  · rw [hold hn]
    decide

/-- One sensor that comes to read active while none does is a tamper of its bit. -/
theorem State.tamperNow_of_one {s : State} {b : Nat} (hb : b < 6) (h0 : s.getF F.ORG_TAMPER_NOW = 0) :
    s.tamperNow (2 ^ b) = (s.setF F.ORG_TAMPER_NOW (2 ^ b)).tamper (2 ^ b) := by
  have hmod : 2 ^ b % 64 = 2 ^ b := Nat.mod_eq_of_lt (Nat.pow_lt_pow_right (by decide) hb)
  have hbits : ((List.range 6).filter (fun i => (2 ^ b).testBit i && !(0 : Nat).testBit i)).map (2 ^ ·) = [2 ^ b] := by
    interval_cases b <;> rfl
  rw [State.tamperNow_eq, h0, hmod, hbits]
  exact if_neg (List.cons_ne_nil _ _)

theorem exec_tamperSense {s : State} (hp : s.powered = true) (now : Nat) : exec (.tamperSense now) s =
    .next (if now % 64 = s.getF F.ORG_TAMPER_NOW then s.tamperNow now else (s.tamperNow now).xingPulse 2) :=
  congrArg Host.Outcome.next (if_neg (by simp [hp]))

/-! ### Zeroisation (R491) -/

theorem State.zeroise_eq (s : State) : s.zeroise =
    ((({ s.updOrg (fun o => { o with slots := o.slots.filter (fun p => p.2.persist && !p.2.wipe) }) with
        bsa := { s.bsa with keys := [] }, bsb := { s.bsb with keys := [] } }.setF F.GZB_STAT_KEY_VALID 0).setF
      F.GZB_STAT_NEXT_VALID 0).updGzb (fun g => { g with curKey := none, nextKey := none })).setF
      F.GZB_STAT_WORD_READY 0 := rfl

/-- Gazebo shows no key, no next key and no word. -/
theorem State.zeroise_stopKeysShown (s : State) : s.zeroise.getF F.GZB_STAT_KEY_VALID = 0 ∧
    s.zeroise.getF F.GZB_STAT_NEXT_VALID = 0 ∧ s.zeroise.getF F.GZB_STAT_WORD_READY = 0 := by
  rw [State.zeroise_eq]
  generalize State.mk .. = t
  refine ⟨?_, ?_, State.getF_setF_same _ _ _ (by decide)⟩
  · rw [(OnlyFields.setF _ F.GZB_STAT_WORD_READY 0 (by decide)).getF (by decide)]
    exact ((OnlyFields.setF _ F.GZB_STAT_NEXT_VALID 0 (by decide)).getF (by decide)).trans
      (State.getF_setF_same t F.GZB_STAT_KEY_VALID 0 (by decide))
  · rw [(OnlyFields.setF _ F.GZB_STAT_WORD_READY 0 (by decide)).getF (by decide)]
    exact State.getF_setF_same (t.setF F.GZB_STAT_KEY_VALID 0) F.GZB_STAT_NEXT_VALID 0 (by decide)

/-! ### Keys drawn again -/

theorem exec_tamperKeyRedraw_of_due {s : State} (hr : s.org.redraw = true) (hw : s.keysWithheld = false)
    (h8 : s.domOn 8 = true) : exec .tamperKeyRedraw s =
      .next (if s.domOn 13 then (s.drawKeys.loadJoinKey).updOrg (fun o => { o with redraw := false }) else s.needD13) :=
  congrArg Host.Outcome.next (if_pos ⟨hr, by simp [hw], h8⟩)

theorem exec_tamperKeyRedraw_of_withheld {s : State} (h : s.keysWithheld = true) :
    exec .tamperKeyRedraw s = .next s :=
  congrArg Host.Outcome.next (if_neg fun ⟨_, hw, _⟩ => by simp [h] at hw)

/-! ### The die temperature (R560) -/

/-- What a measurement shows in LODGE_TEMP. -/
def State.tempShown (s : State) (t : Int) (upd : Bool) : State :=
  (((s.setF F.LODGE_TEMP_HOT (b2n (decide (1450 ≤ t)))).setFIf (1450 ≤ t) F.LODGE_TEMP_HOT_SEEN 1).setFIf (1500 ≤ t)
    F.LODGE_TEMP_OVER_SEEN 1).setFIf (upd = true) F.LODGE_TEMP_DIE (t % 2 ^ F.LODGE_TEMP_DIE.width).toNat

theorem State.tempMeasure_eq (s : State) (t : Int) (upd : Bool) : s.tempMeasure t upd =
    (s.tempShown t upd).tamperNow (if 1600 < t ∨ t < -550 then s.getF F.ORG_TAMPER_NOW ||| 8
      else if (s.getF F.ORG_TAMPER_NOW).testBit 3 then s.getF F.ORG_TAMPER_NOW - 8 else s.getF F.ORG_TAMPER_NOW) := rfl

section
variable (s : State) (t : Int) (upd : Bool)

theorem State.tempShown_frame : s.tempShown t upd = { s with regs := (s.tempShown t upd).regs } :=
  State.setFIf_frame (State.setFIf_frame (State.setFIf_frame (State.setF_frame rfl _ _) _ _ _) _ _ _) _ _ _

theorem State.tempShown_onlyFields : OnlyFields s (s.tempShown t upd)
    [F.LODGE_TEMP_HOT, F.LODGE_TEMP_HOT_SEEN, F.LODGE_TEMP_OVER_SEEN, F.LODGE_TEMP_DIE] :=
  (((OnlyFields.setF s F.LODGE_TEMP_HOT _ (by decide)).trans (State.setFIf_onlyFields _ _ _ (by decide))).trans
    (State.setFIf_onlyFields _ _ _ (by decide))).trans (State.setFIf_onlyFields _ _ _ (by decide))

theorem State.tempShown_hot : (s.tempShown t upd).getF F.LODGE_TEMP_HOT = if 1450 ≤ t then 1 else 0 := by
  rw [State.tempShown, (State.setFIf_onlyFields _ _ _ (by decide)).getF (by decide),
    (State.setFIf_onlyFields _ _ _ (by decide)).getF (by decide),
    (State.setFIf_onlyFields _ _ _ (by decide)).getF (by decide), State.getF_setF_same _ _ _ (by decide)]
  by_cases h : 1450 ≤ t
  · rw [decide_eq_true h, if_pos h]
    rfl
  · rw [decide_eq_false h, if_neg h]
    rfl

theorem State.tempShown_hotSeen (h : 1450 ≤ t) : (s.tempShown t upd).getF F.LODGE_TEMP_HOT_SEEN = 1 := by
  rw [State.tempShown, (State.setFIf_onlyFields _ _ _ (by decide)).getF (by decide),
    (State.setFIf_onlyFields _ _ _ (by decide)).getF (by decide), State.setFIf_pos _ _ h]
  exact State.getF_setF_same _ _ _ (by decide)

theorem State.tempShown_overSeen (h : 1500 ≤ t) : (s.tempShown t upd).getF F.LODGE_TEMP_OVER_SEEN = 1 := by
  rw [State.tempShown, (State.setFIf_onlyFields _ _ _ (by decide)).getF (by decide), State.setFIf_pos _ _ h]
  exact State.getF_setF_same _ _ _ (by decide)

theorem State.tempShown_die :
    (s.tempShown t true).getI F.LODGE_TEMP_DIE = (BitVec.ofInt F.LODGE_TEMP_DIE.width t).toInt := by
  rw [State.tempShown, State.setFIf_pos _ _ rfl]
  exact State.getI_setI_same _ (by decide) t

theorem State.tempShown_die_kept : (s.tempShown t false).getF F.LODGE_TEMP_DIE = s.getF F.LODGE_TEMP_DIE := by
  rw [State.tempShown, State.setFIf_neg _ _ Bool.false_ne_true, (State.setFIf_onlyFields _ _ _ (by decide)).getF (by decide),
    (State.setFIf_onlyFields _ _ _ (by decide)).getF (by decide), (OnlyFields.setF s _ _ (by decide)).getF (by decide)]

end

theorem State.getF_lt (s : State) (f : Fld) : s.getF f < 2 ^ f.width := Nat.mod_lt _ (Nat.two_pow_pos _)

/-- Within the sensor's limits a measurement shows in LODGE_TEMP, and the sensors read as before. -/
theorem State.tempMeasure_within {s : State} {t : Int} (hlo : -550 ≤ t) (hhi : t ≤ 1600)
    (h3 : s.bit F.ORG_TAMPER_NOW 3 = false) (upd : Bool) :
    s.tempMeasure t upd = (s.tempShown t upd).setF F.ORG_TAMPER_NOW (s.getF F.ORG_TAMPER_NOW) := by
  have hkept : (s.tempShown t upd).getF F.ORG_TAMPER_NOW = s.getF F.ORG_TAMPER_NOW :=
    (s.tempShown_onlyFields t upd).getF (by decide)
  have hlt : s.getF F.ORG_TAMPER_NOW < 64 := s.getF_lt F.ORG_TAMPER_NOW
  rw [State.tempMeasure_eq, if_neg (by omega), show (s.getF F.ORG_TAMPER_NOW).testBit 3 = false from h3,
    if_neg Bool.false_ne_true, State.tamperNow_of_none (fun b _ hb => by rwa [State.bit, hkept]), Nat.mod_eq_of_lt hlt]

/-- A measurement within the limits leaves every field as the reading shows it, and nothing outside the registers. -/
theorem exec_tempMeasure_within {s : State} {t : Int} (hp : s.powered = true) (hlo : -550 ≤ t) (hhi : t ≤ 1600)
    (h3 : s.bit F.ORG_TAMPER_NOW 3 = false) (upd : Bool) :
    ∃ u, exec (.tempMeasure t upd) s = .next u ∧ OnlyFields (s.tempShown t upd) u [] ∧ u = { s with regs := u.regs } := by
  refine ⟨_, congrArg Host.Outcome.next ((if_pos hp).trans (State.tempMeasure_within hlo hhi h3 upd)), ?_,
    State.setF_frame (s.tempShown_frame t upd) _ _⟩
  exact State.setF_self _ (by decide) ((s.tempShown_onlyFields t upd).getF (by decide))

/-! ### The persistent store (R538, R540) -/

section
variable {s : State} (hp : s.powered = true) (hr : s.ps.running ≠ [])
include hp hr

theorem exec_psWriteComplete (ok : Bool) : exec (.psWriteComplete ok) s =
    .next (if ok then s.psComplete else if s.ps.tries = 0 then { s with ps := { s.ps with tries := 1 } } else s.psFail) :=
  congrArg Host.Outcome.next (if_neg (by simp [hp, hr]))

end

/-- A write of one survey change that verifies selects the other bank with it. -/
theorem State.psComplete_of_survey {s : State} {a : Nat} {v : List Int}
    (hr : s.ps.running = [⟨.survey, .survey a v⟩]) (hw : s.ps.waiting = []) (hs : s.ps.sel.isSome = true) :
    s.psComplete =
      let im := { (s.psImage.apply (.survey a v)) with seq := (s.psImage.seq + 1) % 2 ^ 32 }
      let bank := 1 - s.getF F.LODGE_PS_STAT_BANK
      { s.setF F.LODGE_PS_STAT_BANK bank with ps := { s.ps with
        running := [], waiting := [], tries := 0, sel := some im
        bank0 := if bank = 0 then some im else s.ps.bank0, bank1 := if bank = 0 then s.ps.bank1 else some im } } := by
  obtain ⟨x, hx⟩ := Option.isSome_iff_exists.1 hs
  have him : s.psImageNext = { (s.psImage.apply (.survey a v)) with seq := (s.psImage.seq + 1) % 2 ^ 32 } := by
    rw [State.psImageNext, State.psImage, hr, hx]
    rfl
  rw [State.psComplete, him, hr, hx, State.psNext, State.setF_ps]
  rw [hw]
  rfl

/-- Settles O57: the sensors, the zeroisation, the redraw, the temperature and the store, each by its own rule. -/
theorem tamperTemperatureStore : Obligations.TamperTemperatureStore := by
  unfold Obligations.TamperTemperatureStore
  intro s
  refine ⟨fun now hp h => ⟨fun he => ?_, fun hne => ?_⟩, fun now b hp hb hnow h0 => ?_,
    ⟨rfl, rfl, rfl, rfl, rfl, s.zeroise_stopKeysShown⟩, fun hr hw h8 => ⟨fun h13 => ?_, fun h13 => ?_⟩,
    fun hw => exec_tamperKeyRedraw_of_withheld hw, fun t upd hp hlo hhi h3 => ?_, fun hr ok => ?_,
    fun hp hr ht => ?_, fun hp hr ht => ?_, fun a v hp hr hw hs => ?_⟩
  · rw [exec_tamperSense hp, if_pos he, State.tamperNow_of_none h]
  · rw [exec_tamperSense hp, if_neg hne, State.tamperNow_of_none h]
  · have hne : 2 ^ b % 64 ≠ s.getF F.ORG_TAMPER_NOW := by
      rw [h0, Nat.mod_eq_of_lt (Nat.pow_lt_pow_right (by decide) hb : 2 ^ b < 2 ^ 6)]
      exact (Nat.two_pow_pos b).ne'
    rw [hnow, exec_tamperSense hp, if_neg hne, State.tamperNow_of_one hb h0]
  · rw [exec_tamperKeyRedraw_of_due hr hw h8, if_pos h13]
  · rw [exec_tamperKeyRedraw_of_due hr hw h8, h13, if_neg Bool.false_ne_true]
  · obtain ⟨u, hu, hsame, hframe⟩ := exec_tempMeasure_within hp hlo hhi h3 upd
    have hget : ∀ f, u.getF f = (s.tempShown t upd).getF f := fun f => hsame.getF rfl
    refine ⟨u, hu, (hget _).trans (s.tempShown_hot t upd), fun h => (hget _).trans (s.tempShown_hotSeen t upd h),
      fun h => (hget _).trans (s.tempShown_overSeen t upd h), fun h => ?_, fun h => ?_,
      (s.tempShown_onlyFields t upd).trans hsame, hframe⟩
    · rw [State.getI, hget, h]
      exact s.tempShown_die t
    · rw [hget, h, State.tempShown_die_kept]
  · exact congrArg Host.Outcome.next (if_pos (.inr hr))
  · rw [exec_psWriteComplete hp hr, if_neg Bool.false_ne_true, if_pos ht]
  · rw [exec_psWriteComplete hp hr, if_neg Bool.false_ne_true, if_neg ht]
  · have hne : s.ps.running ≠ [] := by rw [hr]; exact List.cons_ne_nil _ _
    rw [exec_psWriteComplete hp hne, if_pos rfl, State.psComplete_of_survey hr hw hs]

end Sys2Proof.Machine
end

section
/-! SUPPORT. O18: A PLL that relocks delivers what was held. -/
namespace Sys2Proof.Machine

/-- The state once a PLL has relocked: its domains have taken what was held for them, or left the reset it put them in. -/
def State.relocked (s : State) (p : Pll) : State :=
  (((pllDoms p).filter s.isOn).foldl State.deliverAll ((s.setLock p true).updPower (fun x => {
    x with resetHolds := x.resetHolds.filter (fun h => !(h.src = .pllLoss && h.doms.all (fun d => (pllDoms p).contains d)))
    }))).raiseOwed

/-- With the TCXO present the PLL relocks, and start-up that is due then powers D2 and D3. -/
theorem exec_pllRelock {s : State} {p : Pll} (hp : s.powered = true) (hl : s.pllLocked p = false)
    (hok : s.flag F.LODGE_CLK_STAT_TCXO_OK = true) : exec (.pllRelock p) s =
      .next (if (s.relocked p).power.boot ∧ p = .sys then ((s.relocked p).domOnReq 2).domOnReq 3 else s.relocked p) :=
  congrArg Host.Outcome.next (if_neg (by simp [hp, hl, hok]))

/-- D2 runs without the lock of its PLL, D3 is OFF, and a reset of D3 written to LODGE_RST_REQ is held for D2. -/
def relockState : State :=
  { State.reset with power := { State.reset.power with
      porHeld := false, held := [(2, .regWrite (.core 0) R.LODGE_RST_REQ 0xC3A50008)] } }.setF (F.dom 2) DS.on

theorem relockState_relocks : relockState.powered = true ∧ relockState.pllLocked .sys = false ∧
    relockState.flag F.LODGE_CLK_STAT_TCXO_OK = true ∧ relockState.power.boot = false := by decide +kernel

/-- The reset delivered makes start-up due, and leaves D3 OFF. -/
theorem relocked_boots : (relockState.relocked .sys).power.boot = true ∧ (relockState.relocked .sys).dom 3 = DS.off := by
  decide +kernel

/-- Start-up that is due powers D3. -/
theorem relocked_powersArbour : (((relockState.relocked .sys).domOnReq 2).domOnReq 3).dom 3 = DS.pwrUp := by
  decide +kernel

theorem exec_pllRelock_relockState : exec (.pllRelock .sys) relockState =
    .next (((relockState.relocked .sys).domOnReq 2).domOnReq 3) := by
  obtain ⟨hp, hl, hok, -⟩ := relockState_relocks
  rw [exec_pllRelock hp hl hok, if_pos ⟨relocked_boots.1, rfl⟩]

/-- Refutes O18: a PLL that relocks may deliver a held reset of D3, with which start-up is due again; the relock then powers
D2 and D3, which the statement's outcome leaves out. Here D3, OFF before, powers up. -/
theorem not_clocksAndCrossings : ¬ Obligations.ClocksAndCrossings := by
  unfold Obligations.ClocksAndCrossings
  intro h
  obtain ⟨hp, hl, hok, hboot⟩ := relockState_relocks
  obtain ⟨-, -, -, hrelock, -⟩ := h.1 relockState hp
  have hout : Host.Outcome.next (((relockState.relocked .sys).domOnReq 2).domOnReq 3) = .next (relockState.relocked .sys) :=
    exec_pllRelock_relockState.symm.trans (hrelock .sys hl hok hboot)
  have hsame : ((relockState.relocked .sys).domOnReq 2).domOnReq 3 = relockState.relocked .sys := Host.Outcome.next.inj hout
  have hdom := relocked_powersArbour
  rw [hsame, relocked_boots.2] at hdom
  exact absurd hdom (by decide)

end Sys2Proof.Machine
end

section
/-! SUPPORT. O14: An entry that a wake event stops. -/
namespace Sys2Proof.Machine

/-- An entry into Watch with D3 ON, where firmware has put a compare's target into LODGE_WAKE_FRC and wake source 1,
enabled, has been seen. -/
def entryWithSavedFrc : State :=
  { ((State.reset.setF F.LODGE_PWR_STATE_STATE 5).setF ⟨R.LODGE_WAKE_EN, 0, 9⟩ 2).setF (F.dom 3) DS.on with
    power := { State.reset.power with porHeld := false, entering := 3, wakeReq := 2, wakeSaved := some (0, true) } }

theorem entryWithSavedFrc_wakes : entryWithSavedFrc.powered = true ∧
    entryWithSavedFrc.getF F.LODGE_PWR_STATE_STATE = 5 ∧
    entryWithSavedFrc.wakeBits (entryWithSavedFrc.getF F.LODGE_PWR_STATE_STATE = 4 ||
      (entryWithSavedFrc.getF F.LODGE_PWR_STATE_STATE = 5 && entryWithSavedFrc.power.entering = 4)) = [1] := by
  decide +kernel

/-- The wake itself leaves the host's saved value. -/
theorem wokenBy_wakeSaved : (wokenBy entryWithSavedFrc [1]).power.wakeSaved = some (0, true) := by decide +kernel

/-- The entry that stops writes it back, for firmware runs, and holds it no more. -/
theorem entryStop_wakeSaved : (wokenBy entryWithSavedFrc [1]).entryStop.power.wakeSaved = none := by decide +kernel

/-- Refutes O14: an entry stopped while D3 is ON writes the host's LODGE_WAKE_FRC back (R237), so that the power part changes
in `wakeSaved` too and not in `entering` and `quiet` alone. -/
theorem not_powerStateEntryAndWake : ¬ Obligations.PowerStateEntryAndWake := by
  unfold Obligations.PowerStateEntryAndWake
  intro h
  obtain ⟨hp, hst, hbits⟩ := entryWithSavedFrc_wakes
  obtain ⟨-, hstop, -⟩ := h.2.1 entryWithSavedFrc hp
  obtain ⟨-, -, hpower⟩ := hstop (by rw [hbits]; exact List.cons_ne_nil _ _) hst
  rw [hbits] at hpower
  have hsaved := entryStop_wakeSaved
  rw [hpower] at hsaved
  exact absurd (wokenBy_wakeSaved.symm.trans hsaved) (Option.some_ne_none _)

end Sys2Proof.Machine
end

section
/-! SUPPORT. O35: Conversions, captures, pulses and PPS_OUT. -/
namespace Sys2Proof.Machine

/-! ### Words written in a row -/

theorem State.wrList_frame : ∀ (ws : List Word) (s : State) (a : Nat),
    s.wrList a ws = { s with regs := (s.wrList a ws).regs }
  | [], _, _ => rfl
  | w :: ws, s, a => State.wrList_frame ws (s.wr a w) (a + 4)

theorem State.rd_wrList_below : ∀ (ws : List Word) (s : State) {a b : Nat}, b < a → (s.wrList a ws).rd b = s.rd b
  | [], _, _, _, _ => rfl
  | w :: ws, s, a, b, h =>
    (State.rd_wrList_below ws (s.wr a w) (by omega)).trans (State.rd_wr_other s w (by omega))

/-- Each register of the row reads its word. -/
theorem State.rd_wrList : ∀ (ws : List Word) (s : State) (a : Nat) {i : Nat} {w : Word}, ws[i]? = some w →
    (s.wrList a ws).rd (a + 4 * i) = w
  | [], _, _, _, _, h => by simp at h
  | v :: ws, s, a, 0, w, h => by
    obtain rfl : v = w := by simpa using h
    exact (State.rd_wrList_below ws (s.wr a v) (by omega)).trans (State.rd_wr_same s a v)
  | v :: ws, s, a, i + 1, w, h => by
    have hi : ws[i]? = some w := by simpa using h
    rw [show a + 4 * (i + 1) = a + 4 + 4 * i by omega]
    exact State.rd_wrList ws (s.wr a v) (a + 4) hi

/-- A row changes its registers alone. -/
theorem State.wrList_onlyFields : ∀ (ws : List Word) (s : State) (a : Nat),
    OnlyFields s (s.wrList a ws) ((List.range ws.length).map (fun j => regFld (a + 4 * j)))
  | [], s, _ => OnlyFields.refl s _
  | w :: ws, s, a => by
    refine ((OnlyFields.wr s a w a rfl).trans (State.wrList_onlyFields ws (s.wr a w) (a + 4))).mono fun f hf => ?_
    rw [List.mem_map]
    rcases List.mem_append.1 hf with hf | hf
    · exact ⟨0, by simp, (List.mem_singleton.1 hf).symm⟩
    · obtain ⟨j, hj, rfl⟩ := List.mem_map.1 hf
      refine ⟨j + 1, ?_, ?_⟩
      · simpa using hj
      · rw [show a + 4 * (j + 1) = a + 4 + 4 * j by omega]

/-! ### Conversions (R235) -/

/-- The words that a conversion latches. -/
def State.convWords (s : State) : List Word :=
  [word s.now, word (s.now / 2 ^ 32)] ++ [0, 1, 2, 3].flatMap (fun k =>
    [word (nsField (s.tbNs k)), word (secField (s.tbNs k)), word (secField (s.tbNs k) / 2 ^ 32)])

/-- Time base `k`'s words stand at 2 + 3 × k. -/
theorem State.convWords_tb (s : State) {k : Nat} (hk : k < 4) :
    s.convWords[2 + 3 * k]? = some (word (nsField (s.tbNs k))) ∧
      s.convWords[3 + 3 * k]? = some (word (secField (s.tbNs k))) ∧
      s.convWords[4 + 3 * k]? = some (word (secField (s.tbNs k) / 2 ^ 32)) := by
  interval_cases k <;> exact ⟨rfl, rfl, rfl⟩

theorem State.rd_convert (s : State) {i : Nat} {w : Word} (h : s.convWords[i]? = some w) :
    s.convert.rd (R.SDL_CONVj i) = w := State.rd_wrList _ s _ h

theorem State.convert_onlyFields (s : State) :
    OnlyFields s s.convert ((List.range 14).map (fun j => regFld (R.SDL_CONVj j))) :=
  State.wrList_onlyFields s.convWords s (R.SDL_CONVj 0)

/-! ### Pulses of compares, PPS_OUT (R235, R239) -/

theorem exec_cmpPulseEnd_of_over {s : State} {g u : Nat} (hm : (g, u) ∈ s.sdl.pulses) (hu : u ≤ s.now) :
    exec (.cmpPulseEnd g) s = .next { s with
      pads := { s.pads with gpio := s.pads.gpio.set g (!s.pads.gpio.getD g false) }
      sdl := { s.sdl with pulses := s.sdl.pulses.filter (·.1 ≠ g) } } :=
  congrArg Host.Outcome.next (if_pos (List.any_eq_true.2 ⟨_, hm, by simp [hu]⟩))

theorem exec_cmpPulseEnd_of_none {s : State} {g : Nat} (h : ∀ p ∈ s.sdl.pulses, p.1 = g → s.now < p.2) :
    exec (.cmpPulseEnd g) s = .next s := by
  refine congrArg Host.Outcome.next (if_neg fun hany => ?_)
  obtain ⟨p, hp, hover⟩ := List.any_eq_true.1 hany
  obtain ⟨hg, hle⟩ : p.1 = g ∧ p.2 ≤ s.now := by simpa using hover
  exact absurd (h p hp hg) (by omega)

/-- PPS_OUT keeps its level where its plan squelches it, it is not enabled, or no second of its time base begins. -/
theorem exec_ppsOutPulse_of_not {s : State} (h : (s.timeFlag 3 = true ∧ s.flag F.SDL_STAT_UNTRUSTED = true) ∨
    s.flag F.SDL_CTRL_PPS_OUT_EN = false ∨ s.reached (s.timeF 6 1) 1000000000 = false) :
    exec .ppsOutPulse s = .next s := by
  refine congrArg Host.Outcome.next (if_pos ?_)
  rcases h with ⟨hsq, hun⟩ | hen | hsec
  · exact .inr (.inr (.inl ⟨hsq, .inl hun⟩))
  · exact .inr (.inl (by rw [hen]; rfl))
  · exact .inr (.inr (.inr (by rw [hsec]; rfl)))

theorem exec_ppsOutPulse_of_due {s : State} (hoff : s.power.off = false) (hen : s.flag F.SDL_CTRL_PPS_OUT_EN = true)
    (hsec : s.reached (s.timeF 6 1) 1000000000 = true)
    (hsq : s.timeFlag 3 = false ∨ (s.flag F.SDL_STAT_UNTRUSTED = false ∧ s.getF F.SDL_STAT_STATE ≠ Tb.FREE)) :
    exec .ppsOutPulse s = .next { s with
      pads := { s.pads with ppsOut := true }, sdl := { s.sdl with ppsFrc := s.now } } := by
  refine congrArg Host.Outcome.next (if_neg ?_)
  rw [hoff, hen, hsec]
  rcases hsq with h | ⟨hun, hst⟩
  · simp [h]
  · simp [hun, hst]

/-! ### Captures (R240) -/

theorem State.sdlEvent_frame (s : State) (kind index tb late t frc : Nat) (sec : Bool) :
    ∃ r d q, s.sdlEvent kind index tb late t frc sec = { s with regs := r, sdl := d, strms := q } := by
  unfold State.sdlEvent
  split_ifs
  · exact ⟨_, s.sdl, _, State.observe_frame _ _ _⟩
  · exact ⟨s.regs, _, s.strms, rfl⟩

/-- The corrected time of an edge of PPS_IN. -/
def State.ppsTime (s : State) (phase : Nat) : Nat :=
  ((s.tbNsAt 0 s.now (phase % 16) : Int) - leAtI (s.sec T.TIME) 12 2).toNat

/-- The edge's record and its time in the capture registers. -/
def State.ppsShown (s : State) (phase : Nat) : State :=
  ((((s.wakeBy 4).capture 0 phase).setF F.SDL_CAP_PPS_NS (nsField (s.ppsTime phase))).setF F.SDL_CAP_PPS_SEC_LO
    (secField (s.ppsTime phase))).setF F.SDL_CAP_PPS_SEC_HI (secField (s.ppsTime phase) / 2 ^ 32)

/-- What the reference keeps of an edge. -/
def State.ppsKept (s : State) (phase : Nat) (d : Sdl) : Sdl :=
  let sec : Option Nat := match s.sdl.todAt with | some x => some x | none => s.sdl.extSec.map (· + 1)
  { d with
    ppsEdges := (s.tbNsAt 0 s.now (phase % 16) :: s.sdl.ppsEdges).take 3, ppsInFrc := s.now
    extSec := sec, extOff := sec.map (fun x => (s.ppsTime phase : Int) - 1000000000 * (x : Int))
    todAt := none, todGiven := d.todGiven || d.todAt.isSome }

theorem exec_ppsInEdge {s : State} (hoff : s.power.off = false) (phase : Nat) : exec (.ppsInEdge phase) s =
    .next (((s.ppsShown phase).updSdl (s.ppsKept phase)).setFIf
      (ppsSteady ((s.tbNsAt 0 s.now (phase % 16) :: s.sdl.ppsEdges).take 3) = true) F.SDL_STAT_PPS_IN_OK 1) :=
  congrArg Host.Outcome.next (if_neg (by simp [hoff]))

theorem State.ppsShown_ns (s : State) (phase : Nat) :
    (s.ppsShown phase).getF F.SDL_CAP_PPS_NS = nsField (s.ppsTime phase) := by
  rw [State.ppsShown, (OnlyFields.setF _ F.SDL_CAP_PPS_SEC_HI _ (by decide)).getF (by decide),
    (OnlyFields.setF _ F.SDL_CAP_PPS_SEC_LO _ (by decide)).getF (by decide), State.getF_setF_same _ _ _ (by decide)]
  refine Nat.mod_eq_of_lt (Nat.lt_trans (Nat.mod_lt _ (by decide)) ?_)
  decide

theorem State.ppsShown_sec (s : State) (phase : Nat) :
    (s.ppsShown phase).getF F.SDL_CAP_PPS_SEC_LO = secField (s.ppsTime phase) % 2 ^ 32 := by
  rw [State.ppsShown, (OnlyFields.setF _ F.SDL_CAP_PPS_SEC_HI _ (by decide)).getF (by decide)]
  exact State.getF_setF_same _ F.SDL_CAP_PPS_SEC_LO _ (by decide)

/-- Registers, the event windows, Sundial's part and a wake request of PPS_IN are all that changes. -/
def State.PpsFrame (s t : State) : Prop :=
  t = { s with regs := t.regs, sdl := t.sdl, strms := t.strms, power := { s.power with wakeReq := s.power.wakeReq ||| 16 } }

section
variable {s t : State} (h : s.PpsFrame t)
include h

theorem State.PpsFrame.setF (f : Fld) (v : Nat) : s.PpsFrame (t.setF f v) := by
  have hset := congrArg (fun u : State => { u with regs := (t.setF f v).regs }) h
  exact hset

theorem State.PpsFrame.updSdl (g : Sdl → Sdl) : s.PpsFrame (t.updSdl g) := by
  have hset := congrArg (fun u : State => { u with sdl := g t.sdl }) h
  exact hset

theorem State.PpsFrame.setFIf (c : Prop) [Decidable c] (f : Fld) (v : Nat) : s.PpsFrame (t.setFIf c f v) := by
  unfold State.setFIf
  split_ifs
  · exact h.setF f v
  · exact h

end

theorem State.capture_ppsFrame (s : State) (phase : Nat) : s.PpsFrame ((s.wakeBy 4).capture 0 phase) := by
  unfold State.capture
  generalize State.tbNsAt _ _ _ _ = t
  obtain ⟨r, d, q, h⟩ := (s.wakeBy 4).sdlEvent_frame 1 0 0 0 t (s.wakeBy 4).now false
  rw [h]
  rfl

theorem State.ppsShown_ppsFrame (s : State) (phase : Nat) : s.PpsFrame (s.ppsShown phase) :=
  (((s.capture_ppsFrame phase).setF _ _).setF _ _).setF _ _

theorem State.setFIf_sdl (s : State) (c : Prop) [Decidable c] (f : Fld) (v : Nat) : (s.setFIf c f v).sdl = s.sdl := by
  rw [State.setFIf_frame rfl]

/-- Settles O35: the conversion's row of words, the pulses by their ends, PPS_OUT by its enables, and what each edge records. -/
theorem conversionsAndCaptures : Obligations.ConversionsAndCaptures := by
  unfold Obligations.ConversionsAndCaptures
  refine ⟨fun m s => ⟨fun hacc => ?_, fun g u hm hu => exec_cmpPulseEnd_of_over hm hu,
    fun g h => exec_cmpPulseEnd_of_none h, exec_ppsOutPulse_of_due, exec_ppsOutPulse_of_not, fun hout hs => ?_,
    fun hs => ?_⟩, fun phase s hoff => ⟨?_, fun hs => ?_, fun hs => ?_, ?_, fun pin hpin hfn => ?_⟩⟩
  · refine ⟨_, congrArg Host.Outcome.next (State.guardW_ok_eq hacc _ _), s.rd_convert rfl, s.rd_convert rfl,
      fun k hk => ?_, s.convert_onlyFields, State.wrList_frame _ s _⟩
    obtain ⟨hns, hlo, hhi⟩ := s.convWords_tb hk
    exact ⟨s.rd_convert hns, s.rd_convert hlo, s.rd_convert hhi⟩
  · exact congrArg Host.Outcome.next (if_pos ⟨hout, hs⟩)
  · exact congrArg Host.Outcome.next (if_neg fun h => by simp [hs] at h)
  · refine ⟨_, exec_ppsInEdge hoff phase, ⟨?_, ?_⟩, ?_, fun hsteady => ?_,
      ((s.ppsShown_ppsFrame phase).updSdl _).setFIf _ _ _⟩
    · rw [(State.setFIf_onlyFields _ _ _ (by decide)).getF (by decide), State.updSdl_getF, s.ppsShown_ns phase]
      rfl
    · rw [(State.setFIf_onlyFields _ _ _ (by decide)).getF (by decide), State.updSdl_getF, s.ppsShown_sec phase]
      rfl
    · rw [State.setFIf_sdl]
      rfl
    · rw [State.setFIf_sdl] at hsteady
      have hpos : ppsSteady ((s.tbNsAt 0 s.now (phase % 16) :: s.sdl.ppsEdges).take 3) = true := hsteady
      rw [State.setFIf_pos _ _ hpos]
      exact State.getF_setF_same _ F.SDL_STAT_PPS_IN_OK 1 (by decide)
  · exact congrArg Host.Outcome.next (if_neg (by simp [hs]))
  · refine ⟨_, congrArg Host.Outcome.next (if_pos hs), ?_, ?_, rfl⟩
    · exact State.getF_setF_same s F.SDL_STAT_PPS_IN_OK 0 (by decide)
    · exact OnlyFields.setF s F.SDL_STAT_PPS_IN_OK 0 (by decide)
  · exact congrArg Host.Outcome.next (if_neg (by simp [hoff]))
  · exact congrArg Host.Outcome.next (if_neg (by simp [hoff, hfn]; omega))

end Sys2Proof.Machine
end

section
/-! SUPPORT. O21: Ethernet ports and PTP event messages. -/
namespace Sys2Proof.Machine

/-! ### A field within the one written -/

/-- A field that lies within the one written reads its part of what was written. -/
theorem State.getF_setF_within (s : State) {f g : Fld} (v : Nat) (h : f.lo + f.width ≤ 32) (ha : g.addr = f.addr)
    (hlo : f.lo ≤ g.lo) (hhi : g.lo + g.width ≤ f.lo + f.width) :
    (s.setF f v).getF g = bitsOf v (g.lo - f.lo) g.width := by
  rw [State.getF, ha, State.rd_setF s f v h]
  refine Nat.eq_of_testBit_eq fun i => ?_
  rw [bitsOf_testBit, bitsOf_testBit]
  by_cases hi : i < g.width
  · have hsame := congrArg (fun n => n.testBit (g.lo - f.lo + i))
      (bitsOf_putBits_same (s.rd f.addr).toNat f.lo f.width v)
    have hin : g.lo - f.lo + i < f.width := by omega
    simp only [bitsOf_testBit, Nat.testBit_mod_two_pow, decide_eq_true hin, Bool.true_and,
      show f.lo + (g.lo - f.lo + i) = g.lo + i by omega] at hsame
    rw [hsame]
  · rw [decide_eq_false hi, Bool.false_and, Bool.false_and]

theorem State.incF_onlyFields (s : State) {f : Fld} (n : Nat) (h : f.lo + f.width ≤ 32) : OnlyFields s (s.incF f n) [f] :=
  OnlyFields.setF s f _ h

/-- A change outside the registers leaves every field. -/
theorem OnlyFields.of_regs_eq {s t u : State} {fs : List Fld} (h : OnlyFields s t fs) (hr : u.regs = t.regs) :
    OnlyFields s u fs := fun g hg => ((OnlyFields.of_regs hr []) g (by simp)).trans (h g hg)

/-! ### Links (R173) -/

section
variable {port : Nat} (s : State)

/-- What a link shows of its negotiation. -/
def linkWord (speed mdix pol ptp full pairs : Nat) : Nat :=
  1 + 2 * speed + 8 * mdix + 16 * pol + 256 * ptp + 512 * full + pairs

theorem linkWord_bits {speed mdix pol ptp full pairs : Nat} (hs : speed < 4) (hm : mdix < 2) (hp : pol < 16) (ht : ptp < 2)
    (hf : full < 2) (hq : pairs % 65536 = 0) : let v := linkWord speed mdix pol ptp full pairs
    bitsOf v 0 1 = 1 ∧ bitsOf v 1 2 = speed ∧ bitsOf v 3 1 = mdix ∧ bitsOf v 4 4 = pol ∧ bitsOf v 8 1 = ptp ∧
      bitsOf v 9 1 = full := by
  simp only [linkWord, bitsOf]
  omega

theorem b2n_lt (b : Bool) : b2n b < 2 := by
  cases b <;> decide

/-- A port whose link came up with `v` in its status. -/
def State.linkedWith (s : State) (port v : Nat) : State :=
  ((s.setF ⟨R.ETH_Pn_STAT port, 0, 24⟩ v).setF (F.ETH_Pn_STAT_UP_SEEN port) 1).updEth
    (fun e => { e with ptpRx := e.ptpRx.set port s.now })

theorem State.linkedWith_getF (v : Nat) {lo width : Nat} (h : lo + width ≤ 24) :
    (s.linkedWith port v).getF ⟨R.ETH_Pn_STAT port, lo, width⟩ = bitsOf v lo width := by
  have hseen := State.getF_setF_bits (s.setF ⟨R.ETH_Pn_STAT port, 0, 24⟩ v) (F.ETH_Pn_STAT_UP_SEEN port)
    ⟨R.ETH_Pn_STAT port, lo, width⟩ 1 (by simp) rfl (.inl h)
  have hword := State.getF_setF_within s (f := ⟨R.ETH_Pn_STAT port, 0, 24⟩) (g := ⟨R.ETH_Pn_STAT port, lo, width⟩) v
    (by simp) rfl (Nat.zero_le _) (by simpa using h)
  rw [State.linkedWith, State.updEth_getF, hseen, hword, Nat.sub_zero]

theorem State.linkedWith_upSeen (v : Nat) : (s.linkedWith port v).getF (F.ETH_Pn_STAT_UP_SEEN port) = 1 := by
  rw [State.linkedWith, State.updEth_getF, State.getF_setF_same _ _ _ (by simp)]
  rfl

theorem State.linkedWith_onlyFields (v : Nat) :
    OnlyFields s (s.linkedWith port v) [⟨R.ETH_Pn_STAT port, 0, 24⟩, F.ETH_Pn_STAT_UP_SEEN port] :=
  OnlyFields.of_regs_eq ((OnlyFields.setF s ⟨R.ETH_Pn_STAT port, 0, 24⟩ _ (by simp)).snoc _ _ (by simp))
    (State.updEth_regs _ _)

/-- Outside the registers a link that comes up or goes down changes Ethernet's part alone. -/
theorem State.linkedWith_frame (v : Nat) : s.linkedWith port v = { s with
    regs := (s.linkedWith port v).regs, eth := { s.eth with ptpRx := s.eth.ptpRx.set port s.now } } := by
  have hregs := State.setF_frame (State.setF_frame (s := s) (t := s) rfl ⟨R.ETH_Pn_STAT port, 0, 24⟩ v)
    (F.ETH_Pn_STAT_UP_SEEN port) 1
  unfold State.linkedWith
  generalize (s.setF ⟨R.ETH_Pn_STAT port, 0, 24⟩ v).setF (F.ETH_Pn_STAT_UP_SEEN port) 1 = t at hregs ⊢
  rw [hregs]
  rfl

theorem exec_ethLinkUp {s : State} {speed : Nat} {mdix full : Bool} {pol pm : Nat} (hport : port < 2)
    (hp : s.powered = true) (h11 : s.domOn 11 = true) (hen : s.flag (F.ETH_Pn_CTRL_EN port) = true)
    (hl : s.flag (F.ETH_Pn_STAT_LINK port) = false) (h1 : 1 ≤ speed) (h3 : speed ≤ 3)
    (hadv : (s.getF (F.ETH_Pn_CTRL_ADV port)).testBit (speed - 1) = true) (hfull : speed = 3 → full = true) :
    exec (.ethLinkUp port speed mdix full pol pm) s = .next (s.linkedWith port (linkWord speed (b2n mdix) (pol % 16)
      (b2n (s.ptpPort port && speed ≠ 1)) (b2n full) (if speed = 3 then 65536 * (pm % 256) else 0))) := by
  refine congrArg Host.Outcome.next (if_neg ?_)
  rw [hp, h11, hen, hl, hadv]
  simp only [Bool.not_true, Bool.false_eq_true, false_or, not_or, not_and, Bool.not_eq_true', Bool.not_eq_false]
  exact ⟨by omega, by omega, by omega, hfull⟩

/-- A link that goes down is forgotten. -/
def State.linkLost (s : State) (port : Nat) : State :=
  ((s.setF ⟨R.ETH_Pn_STAT port, 0, 24⟩ 0).setF (F.ETH_Pn_STAT_DOWN_SEEN port) 1).updEth
    (fun e => { e with ptpLocked := e.ptpLocked && e.ptpSlave ≠ some port })

theorem State.ethDown_of_linked {s : State} (hl : s.flag (F.ETH_Pn_STAT_LINK port) = true) (hlast : s.eth.lastPort ≠ port) :
    s.ethDown port = s.linkLost port := by
  unfold State.ethDown
  rw [if_pos hl, if_neg hlast]
  rfl

theorem State.ethDown_of_unlinked {s : State} (hl : s.flag (F.ETH_Pn_STAT_LINK port) = false) : s.ethDown port = s :=
  if_neg (Bool.eq_false_iff.1 hl)

theorem State.linkLost_getF : (s.linkLost port).getF ⟨R.ETH_Pn_STAT port, 0, 24⟩ = 0 := by
  have hseen := State.getF_setF_bits (s.setF ⟨R.ETH_Pn_STAT port, 0, 24⟩ 0) (F.ETH_Pn_STAT_DOWN_SEEN port)
    ⟨R.ETH_Pn_STAT port, 0, 24⟩ 1 (by simp) rfl (.inl (by simp))
  rw [State.linkLost, State.updEth_getF, hseen, State.getF_setF_same _ _ _ (by simp)]
  rfl

theorem State.linkLost_downSeen : (s.linkLost port).getF (F.ETH_Pn_STAT_DOWN_SEEN port) = 1 := by
  rw [State.linkLost, State.updEth_getF, State.getF_setF_same _ _ _ (by simp)]
  rfl

theorem State.linkLost_onlyFields :
    OnlyFields s (s.linkLost port) [⟨R.ETH_Pn_STAT port, 0, 24⟩, F.ETH_Pn_STAT_DOWN_SEEN port] :=
  OnlyFields.of_regs_eq ((OnlyFields.setF s ⟨R.ETH_Pn_STAT port, 0, 24⟩ _ (by simp)).snoc _ _ (by simp))
    (State.updEth_regs _ _)

theorem State.linkLost_frame : s.linkLost port = { s with
    regs := (s.linkLost port).regs
    eth := { s.eth with ptpLocked := s.eth.ptpLocked && s.eth.ptpSlave ≠ some port } } := by
  have hregs := State.setF_frame (State.setF_frame (s := s) (t := s) rfl ⟨R.ETH_Pn_STAT port, 0, 24⟩ 0)
    (F.ETH_Pn_STAT_DOWN_SEEN port) 1
  unfold State.linkLost
  generalize (s.setF ⟨R.ETH_Pn_STAT port, 0, 24⟩ 0).setF (F.ETH_Pn_STAT_DOWN_SEEN port) 1 = t at hregs ⊢
  rw [hregs]
  rfl

/-- The writable bits of a port's control register, written. -/
def State.ctrlSet (s : State) (port v : Nat) : State := s.setF ⟨R.ETH_Pn_CTRL port, 0, 6⟩ v

theorem State.ethCtrl_of_unlinked {s : State} (hl : s.flag (F.ETH_Pn_STAT_LINK port) = false) (v : Nat) :
    s.ethCtrl port v = s.ctrlSet port v := by
  have hl' : (s.ctrlSet port v).flag (F.ETH_Pn_STAT_LINK port) = false := by
    rw [State.flag, State.ctrlSet, State.getF_setF_other _ _ _ _ (by simp)]
    exact hl
  unfold State.ethCtrl
  split_ifs
  · exact State.ethDown_of_unlinked hl'
  · rfl

theorem State.ethCtrl_of_disabled {v : Nat} (h0 : v.testBit 0 = false) :
    s.ethCtrl port v = (s.ctrlSet port v).ethDown port := if_pos (.inl (by rw [h0]; rfl))

theorem exec_ethCtrlWrite {s : State} {m : Master} (hport : port < 2) (hacc : s.wrAcc m (R.ETH_Pn_CTRL port) = .ok) (v : Word) :
    exec (.ethCtrlWrite m port v) s = .next (s.ethCtrl port v.toNat) :=
  congrArg Host.Outcome.next ((if_pos hport).trans (State.guardW_ok_eq hacc _ _))

end

/-! ### Frames (R110, R171, R173) -/

section
variable {port : Nat} {dst : BitVec 48} {etype : Nat} {mc room : Bool} {req : Option (BitVec 48 × Nat × Nat)} {s : State}
  (hup : s.ethUp port = true)
include hup

theorem exec_ethFrameRx_of_badFcs : exec (.ethFrameRx port dst etype false mc room req) s =
    .next (s.incF (F.ETH_Pn_RX_FCS port)) :=
  congrArg Host.Outcome.next ((if_neg (by simp [hup])).trans (if_pos rfl))

variable (hdst : dst = Config.mac port)
include hdst

/-- A frame for the port's address that is none of the host channel. -/
theorem exec_ethFrameRx_of_own (he : etype ≠ 0x88B5) : exec (.ethFrameRx port dst etype true mc room req) s =
    .next (if s.ethWatch then (s.incF (F.ETH_Pn_RX_OK port)).ethHold port etype id
      else if room then (s.incF (F.ETH_Pn_RX_OK port)).ethWake
      else (s.incF (F.ETH_Pn_RX_OK port)).incF (F.ETH_Pn_RX_DROP port)) := by
  change execEthFrameRx port dst etype true mc room req s = _
  simp only [execEthFrameRx, hup, hdst, he, Bool.not_true, Bool.false_eq_true, if_false, and_false, true_or, if_true]

theorem exec_ethFrameRx_of_channel (he : etype = 0x88B5) : exec (.ethFrameRx port dst etype true mc room none) s =
    .next (if s.ethWatch then (s.incF (F.ETH_Pn_RX_OK port)).ethHold port etype id
      else s.incF (F.ETH_Pn_RX_OK port)) :=
  congrArg Host.Outcome.next ((if_neg (by simp [hup])).trans ((if_neg (by simp)).trans (if_pos ⟨hdst, he⟩)))

theorem exec_ethFrameRx_of_unknownCmd (he : etype = 0x88B5) {src : BitVec 48} {cmd seq : Nat} (hc : cmd ∉ [2, 3, 5]) :
    exec (.ethFrameRx port dst etype true mc room (some (src, cmd, seq))) s = .next (s.ethIn port src seq cmd 0 0 []) := by
  refine congrArg Host.Outcome.next ((if_neg (by simp [hup])).trans ((if_neg (by simp)).trans
    ((if_pos ⟨hdst, he⟩).trans (if_neg ?_))))
  simpa only [List.mem_cons, List.not_mem_nil, or_false] using hc

end

theorem State.ethHold_eq (s : State) (port etype : Nat) : s.ethHold port etype id =
    if (s.eth.watchBuf.filter (fun p => decide (p.1 = port))).length < 4 then
      s.ethWake.updEth (fun e => { e with watchBuf := e.watchBuf ++ [(port, etype)] })
    else s.ethWake.incF (F.ETH_Pn_RX_DROP port) := by
  unfold State.ethHold
  by_cases h : 4 ≤ (s.eth.watchBuf.filter (fun p => decide (p.1 = port))).length
  · rw [if_pos h, if_neg (by omega)]
  · rw [if_neg h, if_pos (by omega)]
    rfl

/-! ### Event messages sent (R244) -/

/-- A frame counted in `f`, with words on the bus. -/
def State.countedBus (s : State) (f : Fld) (d : List DWord) : State := { s.incF f with bus := d }

section
variable (s : State) (f : Fld) (d : List DWord)

theorem State.countedBus_frame : s.countedBus f d =
    { s with regs := (s.countedBus f d).regs, bus := (s.countedBus f d).bus } := rfl

theorem State.countedBus_updEth_frame (g : Eth → Eth) : (s.updEth g).countedBus f d =
    { s with regs := ((s.updEth g).countedBus f d).regs, bus := ((s.updEth g).countedBus f d).bus, eth := g s.eth } := rfl

theorem State.countedBus_bus : (s.countedBus f d).bus = d := rfl

theorem State.countedBus_getF_eq (g : Fld) : (s.countedBus f d).getF g = (s.incF f).getF g := rfl

variable {f} (hf : f.lo + f.width ≤ 32)
include hf

theorem State.countedBus_onlyFields : OnlyFields s (s.countedBus f d) [f] := fun g hg =>
  (s.countedBus_getF_eq f d g).trans (State.incF_onlyFields s 1 hf g hg)

theorem State.countedBus_getF : (s.countedBus f d).getF f = min (s.getF f + 1) (2 ^ f.width - 1) :=
  (s.countedBus_getF_eq f d f).trans (State.getF_incF_same s f 1 hf)

end

theorem exec_ptpMessageTx_of_sends {port phase : Nat} {x : PtpMsg} {s : State} (hon : s.ptpOn port = true)
    (hs : s.ptpSends port x = true) : exec (.ptpMessageTx port phase x) s = .next ((s.updEth (fun e => { e with
        syncFrc := if x.mtype = 0 then e.syncFrc.set port (some s.now) else e.syncFrc })).countedBus (F.ETH_Pn_TX port)
      (s.ptpStamp port phase true ++ (if x.oneStep then ptpOneStep x (s.ptpRaw port phase true) else []) ++
        (if x.udp then [0] else []))) := by
  refine congrArg Host.Outcome.next ((if_pos ⟨hon, hs⟩).trans ?_)
  by_cases h : x.mtype = 0
  · rw [if_pos h, h]
    rfl
  · rw [if_neg h]
    simp only [h]
    rfl

theorem exec_ptpMessageTx_of_not {port phase : Nat} {x : PtpMsg} {s : State} (hs : s.ptpSends port x = false) :
    exec (.ptpMessageTx port phase x) s = .next s := congrArg Host.Outcome.next (if_neg (by simp [hs]))

theorem ptpOneStep_sync {x : PtpMsg} (h : x.mtype = 0) (s : State) (port phase : Nat) :
    ptpOneStep x (s.ptpRaw port phase true) =
      s.ptpStamp port phase true ++ [BitVec.ofInt 64 (x.corr + s.ptpRaw port phase true % 65536)] := if_pos h

/-! ### Event messages received (R244, R245) -/

/-- Nothing changes but the bus and one register. -/
def State.OneReg (s t : State) (a : Nat) : Prop :=
  (∃ r b, t = { s with regs := r, bus := b }) ∧ ∀ f : Fld, f.addr ≠ a → t.getF f = s.getF f

theorem State.countedBus_oneReg (s : State) (f : Fld) (d : List DWord) : s.OneReg (s.countedBus f d) f.addr :=
  ⟨⟨_, d, rfl⟩, fun g hg => (s.countedBus_getF_eq f d g).trans (State.getF_setF_other s f g _ hg)⟩

section
variable {s t : State} {port : Nat} (h : s.OneReg t (R.ETH_Pn_RX_OK port))
include h

theorem State.OneReg.flag {f : Fld} (hf : f.addr ≠ R.ETH_Pn_RX_OK port) : t.flag f = s.flag f := by
  rw [State.flag, State.flag, h.2 f hf]

variable (hport : port < 2)
include hport

theorem State.OneReg.ptpPort (n : Nat) : t.ptpPort n = s.ptpPort n := by
  have hplan : t.planActive = s.planActive := by
    rw [State.planActive, State.planActive, h.2 _ (by simp only [R.ETH_Pn_RX_OK]; omega)]
  obtain ⟨⟨q, b, rfl⟩, -⟩ := h
  rw [State.ptpPort, State.ptpPort, hplan]
  rfl

theorem State.OneReg.domOn {d : Nat} (hd : d < 14) : t.domOn d = s.domOn d := by
  have hlock : ∀ f : Fld, f.addr = 0x10050 → t.flag f = s.flag f := fun f hf =>
    h.flag (by rw [hf]; simp only [R.ETH_Pn_RX_OK]; omega)
  have hget := h.2 (F.dom d) (by simp only [F.dom, R.ETH_Pn_RX_OK]; omega)
  have hdom : t.dom d = s.dom d := by
    refine State.dom_congr ?_ hget
    obtain ⟨⟨r, b, rfl⟩, -⟩ := h
    rfl
  obtain ⟨⟨r, b, rfl⟩, -⟩ := h
  have hpll : ∀ p, State.pllLock { s with regs := r, bus := b } p = s.pllLock p
    | .sys => hlock _ rfl
    | .corr => hlock _ rfl
    | .eth => hlock _ rfl
    | .bandA => rfl
    | .bandB => rfl
  rw [State.domOn, State.domOn, State.isOn, State.isOn, hdom, State.clocked, State.clocked, hpll]

theorem State.OneReg.ptpOn : t.ptpOn port = s.ptpOn port := by
  have h2 := h.domOn hport (d := 2) (by decide)
  have h3 := h.domOn hport (d := 3) (by decide)
  have h11 := h.domOn hport (d := 11) (by decide)
  have hnamed := h.ptpPort hport
  have hen : t.flag (F.ETH_Pn_CTRL_EN port) = s.flag (F.ETH_Pn_CTRL_EN port) := h.flag (by simp)
  have hlink : t.flag (F.ETH_Pn_STAT_LINK port) = s.flag (F.ETH_Pn_STAT_LINK port) := h.flag (by simp)
  have hptp : t.flag (F.ETH_Pn_STAT_PTP port) = s.flag (F.ETH_Pn_STAT_PTP port) := h.flag (by simp)
  obtain ⟨⟨r, b, rfl⟩, -⟩ := h
  rw [State.ptpOn, State.ptpOn, State.ethUp, State.ethUp, State.ethWatch, State.ethWatch, h2, h3, h11, hnamed, hen, hlink, hptp]
  rfl

theorem State.OneReg.ptpStates (r : PtpOut) : t.ptpStates port r = s.ptpStates port r := by
  have hnamed := h.ptpPort hport
  have hst : t.ptpState (1 - port) = s.ptpState (1 - port) := h.2 _ (by simp only [R.SDL_PTP_STAT, R.ETH_Pn_RX_OK]; omega)
  obtain ⟨⟨q, b, rfl⟩, -⟩ := h
  rw [State.ptpStates, State.ptpStates, hnamed, hst]
  rfl

omit hport in
theorem State.OneReg.now : t.now = s.now := by
  obtain ⟨⟨q, b, rfl⟩, -⟩ := h
  rfl

omit hport in
theorem State.OneReg.ptpMine (x : PtpMsg) : t.ptpMine x = s.ptpMine x := by
  obtain ⟨⟨q, b, rfl⟩, -⟩ := h
  rfl

end

/-- An event message counted and stamped at its port. -/
def State.ptpHeard (s : State) (port phase : Nat) : State :=
  s.countedBus (F.ETH_Pn_RX_OK port) (s.ptpStamp port phase false)

theorem State.ptpHeard_oneReg (s : State) (port phase : Nat) : s.OneReg (s.ptpHeard port phase) (R.ETH_Pn_RX_OK port) :=
  s.countedBus_oneReg (F.ETH_Pn_RX_OK port) _

theorem State.ptpHeard_onlyFields (s : State) (port phase : Nat) :
    OnlyFields s (s.ptpHeard port phase) [F.ETH_Pn_RX_OK port] := s.countedBus_onlyFields _ (by simp)

theorem State.ptpHeard_frame (s : State) (port phase : Nat) :
    ∃ q, s.ptpHeard port phase = { s with regs := q, bus := s.ptpStamp port phase false } :=
  ⟨_, s.countedBus_frame _ _⟩

/-- A port on which PTP runs is one of the two, and takes messages at once. -/
theorem State.ptpOn_cases {s : State} {port : Nat} (h : s.ptpOn port = true) : port < 2 ∧ s.ethWatch = false := by
  simp only [State.ptpOn, State.ethUp, Bool.and_eq_true, decide_eq_true_eq, Bool.not_eq_true'] at h
  obtain ⟨⟨⟨⟨⟨⟨⟨⟨⟨hport, -⟩, -⟩, -⟩, -⟩, -⟩, -⟩, -⟩, hwatch⟩, -⟩ := h
  exact ⟨hport, hwatch⟩

section
variable {port phase : Nat} {x : PtpMsg} {r : PtpOut} {s : State} (hon : s.ptpOn port = true)
include hon

theorem exec_ptpMessageRx_of_on : exec (.ptpMessageRx port phase x r) s =
    .next ((s.ptpHeard port phase).ptpTake port x r (s.ptpStamp port phase false)) := by
  obtain ⟨-, hwatch⟩ := State.ptpOn_cases hon
  change execPtpMessageRx port phase x r s = _
  unfold execPtpMessageRx
  rw [hwatch, hon, if_neg fun h => Bool.false_ne_true h.2.1, if_neg (by decide), State.ptpHeard, State.countedBus]

theorem exec_ptpMessageRx_of_foreign (h : s.ptpMine x = false ∨ s.ptpStates port r = false) :
    exec (.ptpMessageRx port phase x r) s = .next (s.ptpHeard port phase) := by
  rw [exec_ptpMessageRx_of_on hon, State.ptpTake, (s.ptpHeard_oneReg port phase).ptpMine,
    (s.ptpHeard_oneReg port phase).ptpStates (State.ptpOn_cases hon).1, if_neg]
  rintro ⟨-, hm, hs⟩
  rcases h with h | h
  · rw [h] at hm
    exact Bool.false_ne_true hm
  · rw [h] at hs
    exact Bool.false_ne_true hs

theorem exec_ptpMessageRx_of_own (hm : s.ptpMine x = true) (hs : s.ptpStates port r = true) :
    exec (.ptpMessageRx port phase x r) s = .next (((((s.ptpHeard port phase).updEth
      (fun e => { e with ptpRx := e.ptpRx.set port s.now })).ptpInstance port r)).ptpServe port x
        (s.ptpStamp port phase false)) := by
  have hport := (State.ptpOn_cases hon).1
  rw [exec_ptpMessageRx_of_on hon, State.ptpTake, (s.ptpHeard_oneReg port phase).ptpMine,
    (s.ptpHeard_oneReg port phase).ptpStates hport,
    (s.ptpHeard_oneReg port phase).ptpOn hport, if_pos ⟨hon, hm, hs⟩,
    (s.ptpHeard_oneReg port phase).now]

end

/-! ### A MASTER port's clients (R243) -/

section
variable {s : State} {port : Nat} {x : PtpMsg} (stamp : List DWord)

theorem State.ptpServe_of_other (h : x.mtype ≠ 1 ∨ s.ptpState port ≠ 6) : s.ptpServe port x stamp = s :=
  if_pos (h.imp_right .inl)

theorem State.ptpServe_of_known (hx : x.mtype = 1) (hst : s.ptpState port = 6)
    (hk : s.eth.ptpClients.contains (port, x.src) = true) : s.ptpServe port x stamp =
      s.countedBus (F.ETH_Pn_TX port) (s.bus ++ stamp ++ (if x.udp then [0] else [])) := by
  unfold State.ptpServe
  rw [hk, if_neg (by simp [hx, hst])]
  rfl

theorem State.ptpServe_of_full (hk : s.eth.ptpClients.contains (port, x.src) = false)
    (hf : 64 ≤ (s.eth.ptpClients.filter (fun p => decide (p.1 = port))).length) : s.ptpServe port x stamp = s := by
  unfold State.ptpServe
  rw [hk, if_pos (.inr (.inr ⟨rfl, hf⟩))]

end

/-! ### A time receiver without an offset (R245) -/

section
variable (s : State) (n st : Nat)

theorem State.ptpSet_regs : (s.ptpSet n st).regs = (s.setF ⟨R.SDL_PTP_STAT, 4 * n, 4⟩ st).regs := by
  unfold State.ptpSet
  split_ifs
  · rfl
  · exact State.updEth_regs _ (fun e => { e with ptpClients := e.ptpClients.filter (·.1 ≠ n) })

theorem State.ptpSet_getF (f : Fld) :
    (s.ptpSet n st).getF f = (s.setF ⟨R.SDL_PTP_STAT, 4 * n, 4⟩ st).getF f :=
  OnlyFields.of_regs (s.ptpSet_regs n st) [] f (by simp)

/-- A port's state changes Ethernet's part in the clients alone. -/
theorem State.ptpSet_frame : ∃ q c, s.ptpSet n st = { s with regs := q, eth := { s.eth with ptpClients := c } } := by
  unfold State.ptpSet
  split_ifs
  · exact ⟨_, s.eth.ptpClients, rfl⟩
  · exact ⟨_, _, rfl⟩

theorem State.ptpSet_onlyFields (hn : n < 2) : OnlyFields s (s.ptpSet n st) [⟨R.SDL_PTP_STAT, 0, 8⟩] := by
  intro g hg
  rw [State.ptpSet_getF]
  refine OnlyFields.setF s ⟨R.SDL_PTP_STAT, 4 * n, 4⟩ st (by simp; omega) g fun f hf => ?_
  obtain rfl := List.mem_singleton.1 hf
  have happart := hg _ (List.mem_singleton.2 rfl)
  simp only [Fld.apart] at happart ⊢
  omega

end

theorem State.ptpSet_slave (s : State) (n st : Nat) : (s.ptpSet n st).eth.ptpSlave = s.eth.ptpSlave := by
  obtain ⟨q, c, h⟩ := s.ptpSet_frame n st
  rw [h]

/-- The states a time receiver's port `port` and the other port take. -/
def State.ptpReceiver (s : State) (port other : Nat) : State := (s.ptpSet port 9).ptpSet (1 - port) other

section
variable (s : State) {port : Nat} (hport : port < 2) (other : Nat)
include hport

theorem State.ptpReceiver_state : (s.ptpReceiver port other).ptpState port = 9 := by
  have hother := State.getF_setF_bits (s.ptpSet port 9) ⟨R.SDL_PTP_STAT, 4 * (1 - port), 4⟩ ⟨R.SDL_PTP_STAT, 4 * port, 4⟩
    other (by simp; omega) rfl (by simp; omega)
  rw [State.ptpState, State.ptpReceiver, State.ptpSet_getF, hother, State.ptpSet_getF,
    State.getF_setF_same _ _ _ (by simp; omega)]
  rfl

theorem State.ptpReceiver_onlyFields : OnlyFields s (s.ptpReceiver port other) [⟨R.SDL_PTP_STAT, 0, 8⟩] :=
  ((s.ptpSet_onlyFields port 9 hport).trans ((s.ptpSet port 9).ptpSet_onlyFields (1 - port) other (by omega))).mono
    (by simp)

omit hport

theorem State.ptpReceiver_frame : ∃ q c, s.ptpReceiver port other =
    { s with regs := q, eth := { s.eth with ptpClients := c } } := by
  obtain ⟨q, c, h⟩ := (s.ptpSet port 9).ptpSet_frame (1 - port) other
  obtain ⟨q', c', h'⟩ := s.ptpSet_frame port 9
  rw [State.ptpReceiver, h, h']
  exact ⟨q, c, rfl⟩

/-- Without an offset the ports take the states, and PTP the grandmaster, unlocked. -/
theorem State.ptpInstance_of_no_offset {s : State} {r : PtpOut} (h9 : r.state = 9) (ho : r.offset = none)
    (hslave : s.eth.ptpSlave = some port) : s.ptpInstance port r = (s.ptpReceiver port r.other).updEth
      (fun e => { e with gmClass := r.gmClass % 256, ptpLocked := false }) := by
  have hsl : ((s.ptpSet port 9).ptpSet (1 - port) r.other).eth.ptpSlave = some port := by
    rw [State.ptpSet_slave, State.ptpSet_slave, hslave]
  rw [State.ptpInstance, h9, ho, if_pos rfl, State.ptpFollow, if_pos hsl, if_neg (by decide)]
  simp only [Option.any_none, Bool.and_false, State.ptpReceiver]

end

theorem exec_ptpMessageRx_of_no_offset {port phase : Nat} {x : PtpMsg} {r : PtpOut} {s : State} (hon : s.ptpOn port = true)
    (hm : s.ptpMine x = true) (hs : s.ptpStates port r = true) (h9 : r.state = 9) (ho : r.offset = none)
    (hslave : s.eth.ptpSlave = some port) : exec (.ptpMessageRx port phase x r) s =
      .next ((((s.ptpHeard port phase).updEth (fun e => { e with ptpRx := e.ptpRx.set port s.now })).ptpReceiver
        port r.other).updEth (fun e => { e with gmClass := r.gmClass % 256, ptpLocked := false })) := by
  have hport := (State.ptpOn_cases hon).1
  obtain ⟨q, b, hheard⟩ := (s.ptpHeard_oneReg port phase).1
  have hsl : ((s.ptpHeard port phase).updEth (fun e => { e with ptpRx := e.ptpRx.set port s.now })).eth.ptpSlave =
      some port := by
    rw [hheard]
    exact hslave
  rw [exec_ptpMessageRx_of_own hon hm hs, State.ptpInstance_of_no_offset h9 ho hsl, State.ptpServe_of_other]
  refine .inr fun h6 => ?_
  rw [State.ptpState, State.updEth_getF] at h6
  exact absurd ((State.ptpReceiver_state _ hport r.other).symm.trans h6) (by decide)

/-- Settles O21: links, frames and event messages, each by its own rule. -/
theorem ethernetPortsAndPtp : Obligations.EthernetPortsAndPtp := by
  unfold Obligations.EthernetPortsAndPtp
  refine ⟨fun m port s hport hp h11 => ⟨fun speed mdix full pol pm hen hl h1 h3 hadv hfull => ?_, fun hl hlast => ?_,
    fun v hacc => ⟨fun hl => ?_, fun h0 => ?_⟩, fun dst etype mc room req hup => ⟨exec_ethFrameRx_of_badFcs hup,
      fun hd he hw => ?_, fun hd he hr hw => ?_, fun hd hw hor => ?_, fun src cmd seq hd he hr hc => ?_⟩⟩,
    fun port phase x r s hon => ⟨fun hs => ?_, exec_ptpMessageTx_of_not, fun hx => ptpOneStep_sync hx s port phase,
      fun h => exec_ptpMessageRx_of_foreign hon h, fun hm hs => exec_ptpMessageRx_of_own hon hm hs,
      fun stamp => ⟨State.ptpServe_of_other stamp, fun hx hst hk => ?_, fun _ hk hf => State.ptpServe_of_full stamp hk hf⟩,
      fun hport hm hs h9 ho hsl => ?_⟩⟩
  · obtain ⟨hlink, hspeed, hmdix, hpol, hptp, hfd⟩ := linkWord_bits (speed := speed) (by omega) (b2n_lt mdix)
      (Nat.mod_lt pol (by decide : 0 < 16)) (b2n_lt (s.ptpPort port && speed ≠ 1)) (b2n_lt full)
      (pairs := if speed = 3 then 65536 * (pm % 256) else 0) (by split_ifs <;> omega)
    refine ⟨_, exec_ethLinkUp hport hp h11 hen hl h1 h3 hadv hfull, ?_, (s.linkedWith_getF _ (by decide)).trans hspeed,
      (s.linkedWith_getF _ (by decide)).trans hmdix, (s.linkedWith_getF _ (by decide)).trans hpol,
      (s.linkedWith_getF _ (by decide)).trans hfd, ?_, s.linkedWith_upSeen _, s.linkedWith_onlyFields _, s.linkedWith_frame _⟩
    · rw [State.flag, (s.linkedWith_getF _ (by decide)).trans hlink]
      rfl
    · rw [(s.linkedWith_getF _ (by decide)).trans hptp]
      cases s.ptpPort port <;> by_cases h : speed = 1 <;> simp [h, b2n]
  · refine ⟨_, congrArg Host.Outcome.next ((if_pos ⟨hport, hp, h11⟩).trans (State.ethDown_of_linked hl hlast)),
      s.linkLost_getF, s.linkLost_downSeen, s.linkLost_onlyFields, s.linkLost_frame⟩
  · exact ⟨_, (exec_ethCtrlWrite hport hacc v).trans (congrArg _ (State.ethCtrl_of_unlinked hl _)),
      State.getF_setF_same s ⟨R.ETH_Pn_CTRL port, 0, 6⟩ _ (by simp),
      OnlyFields.setF s ⟨R.ETH_Pn_CTRL port, 0, 6⟩ _ (by simp), State.setF_frame (t := s) rfl _ _⟩
  · exact (exec_ethCtrlWrite hport hacc v).trans (congrArg _ (State.ethCtrl_of_disabled s h0))
  · rw [exec_ethFrameRx_of_own hup hd he, hw]
    rfl
  · rw [hr, exec_ethFrameRx_of_channel hup hd he, hw]
    rfl
  · have hhold : exec (.ethFrameRx port dst etype true mc room req) s =
        .next ((s.incF (F.ETH_Pn_RX_OK port)).ethHold port etype id) := by
      by_cases he : etype = 0x88B5
      · rw [hor.resolve_left (not_not.2 he), exec_ethFrameRx_of_channel hup hd he, if_pos hw]
      · rw [exec_ethFrameRx_of_own hup hd he, if_pos hw]
    rw [hhold, State.ethHold_eq, State.incF_eth]
  · rw [hr]
    exact exec_ethFrameRx_of_unknownCmd hup hd he hc
  · exact ⟨_, exec_ptpMessageTx_of_sends hon hs, State.countedBus_bus _ _ _,
      (State.countedBus_getF _ _ (by simp)).trans (by rw [State.updEth_getF]),
      (OnlyFields.of_regs (State.updEth_regs s _) []).trans (State.countedBus_onlyFields _ _ (by simp)),
      s.countedBus_updEth_frame _ _ _⟩
  · exact ⟨_, State.ptpServe_of_known stamp hx hst hk, s.countedBus_bus _ _, s.countedBus_onlyFields _ (by simp),
      s.countedBus_frame _ _⟩
  · have hexec := exec_ptpMessageRx_of_no_offset (phase := phase) hon hm hs h9 ho hsl
    obtain ⟨q, hheard⟩ := s.ptpHeard_frame port phase
    have hof := s.ptpHeard_onlyFields port phase
    generalize s.ptpHeard port phase = u at hexec hheard hof
    have hst := State.ptpReceiver_state (u.updEth (fun e => { e with ptpRx := e.ptpRx.set port s.now })) hport r.other
    have hall := (hof.trans (OnlyFields.of_regs (State.updEth_regs u _) [])).trans (State.ptpReceiver_onlyFields
      (u.updEth (fun e => { e with ptpRx := e.ptpRx.set port s.now })) hport r.other)
    obtain ⟨q', c, hframe⟩ := (u.updEth (fun e => { e with ptpRx := e.ptpRx.set port s.now })).ptpReceiver_frame
      (port := port) r.other
    generalize (u.updEth (fun e => { e with ptpRx := e.ptpRx.set port s.now })).ptpReceiver port r.other = v
      at hexec hst hall hframe
    subst hheard hframe
    exact ⟨_, hexec, rfl, hst, rfl, hall, rfl⟩

end Sys2Proof.Machine
end

section
/-! SUPPORT. O55: The links of the fleet. -/
namespace Sys2Proof.Machine

/-! ### Joining (R362) -/

section
variable {s : State} {m : Nat} (hst : (s.mbr m).state = Ms.KEYING) (hask : (s.mbr m).keyAsk = true)
  (hw : s.keysWithheld = false) (hroom : s.dlRoom 0 = true)

theorem exec_joinKeyDone_of_other (h : (s.mbr m).state ≠ Ms.KEYING) : exec (.joinKeyDone m) s = .next s :=
  congrArg Host.Outcome.next (if_pos (.inl h))

include hst hask hw hroom

theorem joinKeyDone_goes : ¬ ((s.mbr m).state ≠ Ms.KEYING ∨ (!(s.mbr m).keyAsk) = true ∨ s.keysWithheld = true ∨
    (!s.dlRoom 0) = true) := by
  rw [hst, hask, hw, hroom]
  decide

theorem exec_joinKeyDone_of_off (h13 : s.domOn 13 = false) : exec (.joinKeyDone m) s = .next s.needD13 :=
  congrArg Host.Outcome.next ((if_neg (joinKeyDone_goes hst hask hw hroom)).trans (if_pos (by rw [h13]; rfl)))

theorem exec_joinKeyDone_of_root (h13 : s.domOn 13 = true) {n : Nat} (hn : s.slotFor? Cls.FLEET_ROOT = some n) :
    let key := s.sessionKey m (s.slot n).key
    exec (.joinKeyDone m) s = .next (
      if (s.slot n).waits then
        (s.updMbr m (fun x => { x with keyAsk := false })).slotUse n (.joinUse m (s.mbr m).session key)
      else (s.joinFinish m key).slotUse n (.joinUse m (s.mbr m).session key)) := by
  refine congrArg Host.Outcome.next ((if_neg (joinKeyDone_goes hst hask hw hroom)).trans
    ((if_neg (by rw [h13]; decide)).trans ?_))
  rw [hn]

end

/-! ### Acknowledgements (R326–R332) -/

/-- What an IACK does that answers the frame which waits. -/
def State.iackTaken (s : State) (b : Nat) (f : DlFrame) (t : Nat) : State :=
  let s1 := s.updBand b (fun x => { x with wait := none })
  if f.tag = .resync then
    ((s1.updMbr f.dst (fun x => { x with
      desync := false, queued := false, ofs := ((t : Int) - 192 : Int), te := s.tNom + 400 })).updFleet (fun z => { z with
        desyncQ := z.desyncQ.filter (· ≠ f.dst), resyncFor := none })).setF F.BSA_RESYNC_DONE_SEEN 1
  else s1.frameDone f

/-- An IACK in the window, whole and sound, answers the frame that waits where its SEQ is that frame's. -/
theorem exec_iackRx_of_sound {b t : Nat} {psdu : Bytes} {s : State} {f : DlFrame} (hb : b ≤ 1)
    (hwait : (s.band b).wait = some f) (hbl : s.blanked b = false) (hlo : 182 ≤ t) (hhi : t ≤ 272)
    (hlen : psdu.length = 2 + fcsLen b) (hfcs : psdu.drop 2 = fcsOf b s.networkId (psdu.take 2))
    (htype : leAt (psdu.take 2) 0 1 = 0x0E) : exec (.iackRx b psdu t) s =
      .next (if some (leAt (psdu.take 2) 1 1) = f.seq then s.iackTaken b f t else s) := by
  change execIackRx b psdu t s = _
  unfold execIackRx
  rw [hwait]
  refine congrArg Host.Outcome.next ?_
  by_cases hseq : some (leAt (psdu.take 2) 1 1) = f.seq
  · rw [if_pos hseq]
    refine if_neg ?_
    rw [hbl, not_or, not_or, not_or, not_or, not_or, not_or, not_or]
    exact ⟨by omega, by decide, by omega, by omega, not_not.2 hlen, not_not.2 hfcs, not_not.2 htype, not_not.2 hseq⟩
  · rw [if_neg hseq]
    exact if_pos (.inr (.inr (.inr (.inr (.inr (.inr (.inr hseq)))))))

section
variable {b : Nat} {s : State} (hb : b ≤ 1)
include hb

theorem exec_iackTimeout_of_over (hover : s.ackOver b = true) : exec (.iackTimeout b) s = .next (s.ackTimeout b) :=
  congrArg Host.Outcome.next (if_neg (by rw [hover, not_or]; exact ⟨by omega, by decide⟩))

theorem exec_iackTimeout_of_none (h : (s.band b).wait = none ∨ s.ackOver b = false) :
    exec (.iackTimeout b) s = .next s := by
  cases hover : s.ackOver b
  · exact congrArg Host.Outcome.next (if_pos (.inr (by rw [hover]; rfl)))
  · have hnone : (s.band b).wait = none := h.resolve_right (by rw [hover]; decide)
    rw [exec_iackTimeout_of_over hb hover, State.ackTimeout, hnone]

end

/-- A frame other than a RESYNC that no IACK answered: dropped where a stop cut it off or its tries are over, else sent
again. -/
theorem exec_iackTimeout_of_wait {b : Nat} {s : State} {f : DlFrame} (hb : b ≤ 1) (hwait : (s.band b).wait = some f)
    (htag : f.tag ≠ .resync) (hover : s.ackOver b = true) : exec (.iackTimeout b) s = .next (
      let s1 := s.updBand b (fun x => { x with wait := none })
      if f.tries = 255 then s1.frameLost f
      else if f.tries < s.triesMax b then s1.dlHead b f
      else ((s1.incF (F.BS_CNT_NO_ACK b)).setF (F.BS_STAT_NO_ACK_SEEN b) 1).frameLost f) := by
  rw [exec_iackTimeout_of_over hb hover, State.ackTimeout, hwait]
  exact congrArg Host.Outcome.next (if_neg htag)

theorem exec_sackSend_of_not {b : Nat} {s : State} (h : (s.band b).sack = [] ∨ s.sackDue b = false) :
    exec (.sackSend b) s = .next s := by
  refine congrArg Host.Outcome.next (if_pos (.inr (h.imp_right fun hd => ?_)))
  rw [hd]
  rfl

/-- The SACK of a slot with no NACK for want of room and no LEAVE to take effect. -/
theorem exec_sackSend {b : Nat} {s : State} (hb : b ≤ 1) (hs : (s.band b).sack ≠ []) (hdue : s.sackDue b = true)
    (hrun : s.bandRun b = true) (hbl : s.blanked b = false) (hleave : s.fleet.leaving = [])
    (hbusy : ((s.band b).sack.filter (·.busy)) = [])
    (hes : allZero ((List.range (if b = 0 then 4 else 8)).flatMap (s.sackEntry b)) = false) :
    let p := [byte 0x0F, byte s.asn] ++ (List.range (if b = 0 then 4 else 8)).flatMap (s.sackEntry b)
    exec (.sackSend b) s = .next (((s.updBand b (fun z => { z with sack := [] })).updBand b (fun z => { z with
      air := z.air ++ [⟨some (s.cellChan b 0), ppdu b true (p ++ fcsOf b s.networkId p)⟩] })).keyPad b 20
        (ackUs b (4 + b * 18 + 4 * (1 - b)))) := by
  refine congrArg Host.Outcome.next ((if_neg ?_).trans ((if_neg ?_).trans ?_))
  · rw [hdue, not_or, not_or]
    exact ⟨by omega, hs, by decide⟩
  · rw [hrun, hbl, hes]
    decide
  · rw [hleave, hbusy]
    rfl

/-! ### BS_SEND (R383) -/

section
variable (i : WItem)

/-- The addressee of a BS_SEND item, its band, and its flags ACK and FLOOD. -/
def WItem.sendDst : Nat := bitsOf (i.arg 0) 0 8
def WItem.sendBand : Nat := bitsOf (i.arg 0) 8 1
def WItem.sendAck : Bool := (i.arg 0).testBit 9
def WItem.sendFlood : Bool := (i.arg 0).testBit 10

/-- Is the addressee one member? -/
def WItem.sendUni : Bool := 1 ≤ i.sendDst && i.sendDst ≤ 128

/-- Do the flags fit the addressee? -/
def WItem.sendForm : Bool := if i.sendUni then !i.sendFlood else 0xF0 ≤ i.sendDst && !i.sendAck

/-- The fragments' data, and the frames that carry them. -/
def WItem.sendPieces : List Bytes := pieces (fragLen i.sendBand i.sendAck i.sendFlood) 1024 i.payload
def WItem.sendFrames : List DlFrame := (List.range i.sendPieces.length).map (fun k => {
  dst := i.sendDst, ftype := 7, tsh := [byte (bitsOf (i.arg 1) 0 8), byte (k + 16 * (i.sendPieces.length - 1))]
  enc := i.sendPieces.getD k [], flood := i.sendFlood, ack := i.sendAck, prio := bitsOf (i.arg 0) 12 4
  tag := .data i.wid (k + 1 = i.sendPieces.length) })

/-- The form that BAD_ARG refuses, case by case. -/
theorem WItem.sendForm_eq_false : i.sendForm = false ↔
    ((!decide (1 ≤ i.sendDst ∧ i.sendDst ≤ 128)) = true ∧ i.sendDst < 0xF0) ∨
      (i.sendAck = true ∧ (!decide (1 ≤ i.sendDst ∧ i.sendDst ≤ 128)) = true) ∨
      (i.sendFlood = true ∧ decide (1 ≤ i.sendDst ∧ i.sendDst ≤ 128) = true) := by
  unfold WItem.sendForm WItem.sendUni
  rw [← Bool.decide_and]
  by_cases hu : 1 ≤ i.sendDst ∧ i.sendDst ≤ 128
  · rw [decide_eq_true hu]
    cases i.sendFlood <;> simp
  · rw [decide_eq_false hu]
    cases i.sendAck <;> simp

/-- A new item ends with the first refusal that holds, or its frames go out. -/
theorem State.bsSend_of_new {i : WItem} (hprog : i.prog = []) (s : State) : s.bsSend i =
    if i.sendForm = false then s.finish i.wid St.BAD_ARG
    else if bitsOf (i.arg 1) 0 8 < 0x80 then s.finish i.wid 0x83
    else if i.sendUni = true ∧ s.joined i.sendDst = false then s.finish i.wid 0x81
    else if 16 < i.sendPieces.length then s.finish i.wid 0x82
    else if i.stopped = true then s.finish i.wid St.FROZEN
    else s.sendFrags i i.sendBand i.sendFrames := by
  have hnew : ∀ p : Prop, (i.prog = [] ∧ p) ↔ p := fun p => and_iff_right hprog
  have huni : (decide (1 ≤ i.sendDst ∧ i.sendDst ≤ 128) = true ∧ (!s.joined i.sendDst) = true) ↔
      (i.sendUni = true ∧ s.joined i.sendDst = false) := by
    rw [WItem.sendUni, Bool.decide_and, Bool.not_eq_true']
  unfold State.bsSend
  rw [if_neg (by rw [hprog]; decide)]
  exact if_congr ((hnew _).trans i.sendForm_eq_false.symm) rfl (if_congr (hnew _) rfl (if_congr huni rfl
    (if_congr (hnew _) rfl (if_congr (hnew _) rfl rfl))))

end

/-- The frames enter the queue together, or the item waits for room for all. -/
theorem State.sendFrags_eq (s : State) (i : WItem) (z : Nat) (fs : List DlFrame) : s.sendFrags i z fs =
    if s.dlRoom z fs.length then
      ((fs.foldl (fun t f => t.dlPush z f) s).updItem i.wid (fun x => { x with prog := [2] })).park i.wid
    else (s.updItem i.wid (fun x => { x with prog := [1] })).park i.wid := rfl

section
variable {s : State} {wid : Nat} {i : WItem} (hi : s.active? wid W.BS_SEND = some i) (hcore : i.onCore = true)
  (hdom : s.domOn (bandDom (bitsOf (i.arg 0) 8 1)) = true) (hprog : i.prog = [])
include hi hcore hdom

theorem exec_bsSend : exec (.bsSend wid) s = .next (s.bsSend i) := by
  change execBsSend wid s = _
  rw [execBsSend, hi]
  exact congrArg Host.Outcome.next (if_pos ⟨hcore, hdom⟩)

include hprog

theorem exec_bsSend_of_badForm (hform : i.sendForm = false) : exec (.bsSend wid) s = .next (s.finish i.wid St.BAD_ARG) := by
  rw [exec_bsSend hi hcore hdom, State.bsSend_of_new hprog, if_pos hform]

variable (hform : i.sendForm = true)
include hform

theorem exec_bsSend_of_badPort (hport : bitsOf (i.arg 1) 0 8 < 0x80) :
    exec (.bsSend wid) s = .next (s.finish i.wid 0x83) := by
  rw [exec_bsSend hi hcore hdom, State.bsSend_of_new hprog, hform, if_neg (by decide), if_pos hport]

variable (hport : 0x80 ≤ bitsOf (i.arg 1) 0 8)
include hport

theorem exec_bsSend_of_notJoined (huni : i.sendUni = true) (hj : s.joined i.sendDst = false) :
    exec (.bsSend wid) s = .next (s.finish i.wid 0x81) := by
  rw [exec_bsSend hi hcore hdom, State.bsSend_of_new hprog, hform, if_neg (by decide), if_neg (by omega),
    if_pos ⟨huni, hj⟩]

/-- An item to an addressee that may be sent to: the refusals that are left. -/
theorem exec_bsSend_of_addressee (hfree : i.sendUni = false ∨ s.joined i.sendDst = true) : exec (.bsSend wid) s = .next (
    if 16 < i.sendPieces.length then s.finish i.wid 0x82
    else if i.stopped = true then s.finish i.wid St.FROZEN
    else s.sendFrags i i.sendBand i.sendFrames) := by
  rw [exec_bsSend hi hcore hdom, State.bsSend_of_new hprog, hform, if_neg (by decide), if_neg (by omega), if_neg]
  rintro ⟨hu, hj⟩
  rw [hu, hj] at hfree
  exact absurd hfree (by decide)

variable (hfree : i.sendUni = false ∨ s.joined i.sendDst = true) (hlen : i.sendPieces.length ≤ 16)
include hfree hlen

theorem exec_bsSend_of_stopped (hstop : i.stopped = true) : exec (.bsSend wid) s = .next (s.finish i.wid St.FROZEN) := by
  rw [exec_bsSend_of_addressee hi hcore hdom hprog hform hport hfree, if_neg (by omega), if_pos hstop]

theorem exec_bsSend_of_sound (hstop : i.stopped = false) :
    exec (.bsSend wid) s = .next (s.sendFrags i i.sendBand i.sendFrames) := by
  rw [exec_bsSend_of_addressee hi hcore hdom hprog hform hport hfree, if_neg (by omega), hstop, if_neg (by decide)]

end

/-! ### BS_MEMBER (R384) -/

section
variable {s : State} {wid : Nat} {i : WItem} (hi : s.active? wid W.BS_MEMBER = some i)
include hi

theorem State.memberItem_eq (mode : Nat) (k : WItem → Nat → State) : s.memberItem wid mode k =
    if 1 < i.arg 0 then s.finish wid St.BAD_ARG
    else if i.arg 0 ≠ mode ∨ !s.domOn 8 then s
    else if !s.joined (i.arg 1) then s.finish wid 0x80
    else k i (i.arg 1) := by
  rw [State.memberItem, hi]

theorem State.memberItem_of_badMode (h : 1 < i.arg 0) (mode : Nat) (k : WItem → Nat → State) :
    s.memberItem wid mode k = s.finish wid St.BAD_ARG := by
  rw [State.memberItem_eq hi, if_pos h]

variable (h8 : s.domOn 8 = true) {mode : Nat} (hm : mode ≤ 1) (ha : i.arg 0 = mode) (k : WItem → Nat → State)
include h8 hm ha

theorem State.memberItem_of_mode : s.memberItem wid mode k =
    if s.joined (i.arg 1) then k i (i.arg 1) else s.finish wid 0x80 := by
  rw [State.memberItem_eq hi, ha, h8, if_neg (by omega), if_neg (by simp)]
  cases s.joined (i.arg 1) <;> rfl

end

/-- A member that has joined is not FREE. -/
theorem State.not_free_of_joined {s : State} {m : Nat} (h : s.joined m = true) : (s.mbr m).state ≠ Ms.FREE := by
  intro hfree
  rw [State.joined, hfree] at h
  exact absurd h (by decide)

theorem State.expel_of_joined {s : State} {m : Nat} (h : s.joined m = true) (wid : Nat) : s.expel wid m =
    if s.dlRoom 0 then
      ((s.dlPush 0 (uniFrame m 0xC [] [byte 1] (.leave 1 (some wid)))).updItem wid (fun x => { x with prog := [2] })).park wid
    else (s.updItem wid (fun x => { x with prog := [1] })).park wid := if_neg (State.not_free_of_joined h)

/-! ### The wake-up receiver (R100, R346) -/

theorem exec_wurWordRx_of_blanked {s : State} (h : s.wurBlanked = true) (w : Nat) : exec (.wurWordRx w) s = .next s := by
  change execWurWordRx w s = _
  unfold execWurWordRx
  cases s.knownNet with
  | none => rfl
  | some net => exact congrArg Host.Outcome.next (if_pos (.inr (.inr (.inl h))))

section
variable {s : State} {w net : Nat} (hnet : s.knownNet = some net)
include hnet

theorem exec_wurWordRx_of_far (h : 2 ≤ hamming w (wakeWord net 0)) : exec (.wurWordRx w) s = .next s := by
  change execWurWordRx w s = _
  unfold execWurWordRx
  rw [hnet]
  exact congrArg Host.Outcome.next (if_pos (.inr (.inr (.inr (Nat.lt_of_le_of_lt (Nat.min_le_right _ _) h)))))

/-- The module's own word, heard outside deep standby. -/
theorem exec_wurWordRx_of_own (hoff : s.power.off = false) (hbl : s.wurBlanked = false)
    (h : hamming w (wakeWord net 0) = 0) (h4 : s.getF F.LODGE_PWR_STATE_STATE ≠ 4) : exec (.wurWordRx w) s =
      .next (if s.getF F.LODGE_PWR_STATE_STATE = 3 ∨ (s.getF F.LODGE_PWR_STATE_STATE = 5 ∧ s.power.entering = 3) then
        (s.incF F.LODGE_WUR_STAT_WORDS).wakeBy 0
      else (s.incF F.LODGE_WUR_STAT_WORDS).setF F.LODGE_WUR_STAT_BASE_WORD 1) := by
  change execWurWordRx w s = _
  unfold execWurWordRx
  rw [hnet]
  refine congrArg Host.Outcome.next (if_neg ?_)
  rw [hoff, hbl, h, not_or, not_or, not_or]
  exact ⟨by decide, h4, by decide, Nat.not_lt_zero _⟩

end

/-- A word counted in `f` that is a wake event. -/
theorem exec_countsAndWakes {c : Instr} {s : State} {f : Fld} {n : Nat} (hf : f.lo + f.width ≤ 32)
    (h : exec c s = .next ((s.incF f).wakeBy n)) : ∃ t, exec c s = .next t ∧
      t.power = { s.power with wakeReq := s.power.wakeReq ||| 2 ^ n } ∧ OnlyFields s t [f] ∧
      t = { s with regs := t.regs, power := t.power } :=
  ⟨_, h, rfl, OnlyFields.of_regs_eq (s.incF_onlyFields 1 hf) (State.updPower_regs _ _), rfl⟩

/-- A word counted in `f` and shown in `g`. -/
theorem exec_countsAndShows {c : Instr} {s : State} {f g : Fld} {v : Nat} (hf : f.lo + f.width ≤ 32)
    (hg : g.lo + g.width ≤ 32) (hv : v < 2 ^ g.width) (h : exec c s = .next ((s.incF f).setF g v)) :
    ∃ t, exec c s = .next t ∧ t.getF g = v ∧ OnlyFields s t [f, g] ∧ t = { s with regs := t.regs } :=
  ⟨_, h, (State.getF_setF_same _ g v hg).trans (Nat.mod_eq_of_lt hv), (s.incF_onlyFields 1 hf).snoc g v hg,
    State.setF_frame (State.setF_frame (t := s) rfl f _) g v⟩

/-- Settles O55: joining, acknowledgements, the fleet's items and the wake-up word, each by its own rule. -/
theorem fleetLinks : Obligations.FleetLinks := by
  unfold Obligations.FleetLinks
  intro b m wid s
  refine ⟨fun hst hask h13 hw hroom => exec_joinKeyDone_of_off hst hask hw hroom h13,
    fun n hst hask h13 hw hroom hn => ⟨fun hwait => ?_, fun hwait => ?_⟩, exec_joinKeyDone_of_other,
    fun f psdu t hb hwait hbl hlo hhi hlen hfcs htype => ⟨fun hseq htag => ?_, fun hseq htag => ?_, fun hseq => ?_⟩,
    fun f hb hwait htag hover => ⟨fun h => ?_, fun h hlt => ?_, fun h hle => ?_⟩,
    fun h hb => exec_iackTimeout_of_none hb h, exec_sackSend_of_not,
    exec_sackSend,
    fun i hi hcore hdom hprog => ?_, fun i hi h8 => ⟨fun h => ?_, fun h0 hj => ?_, fun h0 hj hprog => ⟨fun hr => ?_, fun hr => ?_⟩,
      fun h1 hj => ?_, fun h1 hj => ?_⟩,
    fun w net hnet hoff hbl => ⟨fun hfar hwakes => ?_, fun hfar h4 hwakes => ?_, exec_wurWordRx_of_far hnet⟩,
    exec_wurWordRx_of_blanked⟩
  · exact (exec_joinKeyDone_of_root hst hask hw hroom h13 hn).trans (congrArg _ (if_neg (by rw [hwait]; decide)))
  · exact (exec_joinKeyDone_of_root hst hask hw hroom h13 hn).trans (congrArg _ (if_pos hwait))
  · rw [exec_iackRx_of_sound hb hwait hbl hlo hhi hlen hfcs htype, if_pos hseq]
    exact congrArg Host.Outcome.next (if_neg htag)
  · rw [exec_iackRx_of_sound hb hwait hbl hlo hhi hlen hfcs htype, if_pos hseq]
    exact congrArg Host.Outcome.next (if_pos htag)
  · rw [exec_iackRx_of_sound hb hwait hbl hlo hhi hlen hfcs htype, if_neg hseq]
  · exact (exec_iackTimeout_of_wait hb hwait htag hover).trans (congrArg _ (if_pos h))
  · exact (exec_iackTimeout_of_wait hb hwait htag hover).trans (congrArg _ ((if_neg h).trans (if_pos hlt)))
  · exact (exec_iackTimeout_of_wait hb hwait htag hover).trans (congrArg _ ((if_neg h).trans (if_neg (by omega))))
  · refine ⟨exec_bsSend_of_badForm hi hcore hdom hprog, exec_bsSend_of_badPort hi hcore hdom hprog, fun hform hport =>
      ⟨exec_bsSend_of_notJoined hi hcore hdom hprog hform hport, fun hfree => ⟨fun hlen => ?_,
        exec_bsSend_of_stopped hi hcore hdom hprog hform hport hfree, fun hlen hstop => ⟨fun hr => ?_, fun hr => ?_⟩⟩⟩⟩
    · exact (exec_bsSend_of_addressee hi hcore hdom hprog hform hport hfree).trans (congrArg _ (if_pos hlen))
    · exact (exec_bsSend_of_sound hi hcore hdom hprog hform hport hfree hlen hstop).trans
        (congrArg _ ((s.sendFrags_eq _ _ _).trans (if_pos hr)))
    · exact (exec_bsSend_of_sound hi hcore hdom hprog hform hport hfree hlen hstop).trans
        (congrArg _ ((s.sendFrags_eq _ _ _).trans (if_neg (Bool.eq_false_iff.1 hr))))
  · exact congrArg _ (State.memberItem_of_badMode hi h _ _)
  · refine congrArg _ ((State.memberItem_of_mode hi h8 (by decide) h0 _).trans (if_neg ?_))
    rw [hj]
    decide
  · refine congrArg _ ((State.memberItem_of_mode hi h8 (by decide) h0 _).trans ((if_pos hj).trans ((if_pos hprog).trans ?_)))
    rw [State.expel_of_joined hj, if_pos hr]
  · refine congrArg _ ((State.memberItem_of_mode hi h8 (by decide) h0 _).trans ((if_pos hj).trans ((if_pos hprog).trans ?_)))
    rw [State.expel_of_joined hj, hr]
    rfl
  · refine congrArg _ ((State.memberItem_of_mode hi h8 (by decide) h1 _).trans (if_neg ?_))
    rw [hj]
    decide
  · exact congrArg _ ((State.memberItem_of_mode hi h8 (by decide) h1 _).trans (if_pos hj))
  · have hwake : s.getF F.LODGE_PWR_STATE_STATE = 3 ∨ (s.getF F.LODGE_PWR_STATE_STATE = 5 ∧ s.power.entering = 3) := by
      simpa using hwakes
    have h4 : s.getF F.LODGE_PWR_STATE_STATE ≠ 4 := by omega
    exact exec_countsAndWakes (by decide) ((exec_wurWordRx_of_own hnet hoff hbl hfar h4).trans (congrArg _ (if_pos hwake)))
  · have hno : ¬ (s.getF F.LODGE_PWR_STATE_STATE = 3 ∨ (s.getF F.LODGE_PWR_STATE_STATE = 5 ∧ s.power.entering = 3)) := by
      have hfalse := Bool.eq_false_iff.1 hwakes
      simpa using hfalse
    exact exec_countsAndShows (by decide) (by decide) (by decide)
      ((exec_wurWordRx_of_own hnet hoff hbl hfar h4).trans (congrArg _ (if_neg hno)))

end Sys2Proof.Machine
end

section
/-! SUPPORT. O19: A swap request and the end of its verification. -/
namespace Sys2Proof.Machine

/-! ### SYS_SWAP_STAT.STATE -/

theorem State.setSwap_frame (s : State) (st : Nat) : s.setSwap st = { s with regs := (s.setSwap st).regs } := by
  unfold State.setSwap
  split_ifs <;> rfl

theorem State.irq_onlyFields (s : State) {b : Nat} (hb : b + 1 ≤ 32) :
    OnlyFields s (s.irq b) [⟨0x200, b, 1⟩, ⟨0x208, b, 1⟩] :=
  (OnlyFields.setF s ⟨0x200, b, 1⟩ 1 hb).snoc ⟨0x208, b, 1⟩ 1 hb

/-- A change of STATE shows in the field and in the SWAP interrupt of both groups. -/
theorem State.setSwap_onlyFields (s : State) (st : Nat) :
    OnlyFields s (s.setSwap st) [F.SYS_SWAP_STAT_STATE, ⟨0x200, 6, 1⟩, ⟨0x208, 6, 1⟩] := by
  unfold State.setSwap
  split_ifs
  · exact OnlyFields.refl s _
  · exact (OnlyFields.setF s F.SYS_SWAP_STAT_STATE st (by decide)).trans (State.irq_onlyFields _ (by decide))

theorem State.getF_setSwap (s : State) {st : Nat} (h : st < 8) : (s.setSwap st).getF F.SYS_SWAP_STAT_STATE = st := by
  unfold State.setSwap
  split_ifs with hst
  · exact hst
  · have hirq := (State.irq_onlyFields (s.setF F.SYS_SWAP_STAT_STATE st) (b := Irq.SWAP) (by decide)).getF
      (g := F.SYS_SWAP_STAT_STATE) (by decide)
    exact hirq.trans ((State.getF_setF_same s F.SYS_SWAP_STAT_STATE st (by decide)).trans (Nat.mod_eq_of_lt h))

/-- The states of a swap in progress: VERIFYING, ANNOUNCING, ACCEPTED. -/
theorem swapInProgress_iff {st : Nat} : st ∈ [1, 2, 3] ↔ st = 1 ∨ st = 2 ∨ st = 3 := by
  simp only [List.mem_cons, List.not_mem_nil, or_false]

/-! ### GO (R153, R158) -/

/-- What a GO that is taken begins, but for the buffer: ERROR 0, VERIFYING, the item of task 10. -/
def State.verifyBegun (s : State) : State := ((s.setF F.SYS_SWAP_STAT_ERROR 0).setSwap 1).raiseTask 10

theorem State.verifyBegun_regs (s : State) :
    s.verifyBegun.regs = ((s.setF F.SYS_SWAP_STAT_ERROR 0).setSwap 1).regs := by
  rw [State.verifyBegun, State.raiseTask_frame]

theorem State.verifyBegun_frame (s : State) :
    s.verifyBegun = { s with regs := s.verifyBegun.regs, arb := s.verifyBegun.arb } := by
  unfold State.verifyBegun
  rw [State.raiseTask_frame, State.setSwap_frame]
  rfl

/-- What a GO that is taken makes of the state, the image being the staging buffer's first `len` bytes. -/
def State.swapBegun (s : State) (len : Nat) : State :=
  { s.verifyBegun with swap := { s.verifyBegun.swap with
      image := memBytes s.plan.staging 0 (min len 1048576), sections := [], seq := 0, framesLeft := 0, storing := false } }

section
variable (s : State) (len : Nat)

theorem State.swapBegun_swap : (s.swapBegun len).swap = { s.swap with
    image := memBytes s.plan.staging 0 (min len 1048576), sections := [], seq := 0, framesLeft := 0, storing := false } := by
  unfold State.swapBegun
  rw [State.verifyBegun_frame]

theorem State.swapBegun_frame : s.swapBegun len =
    { s with regs := (s.swapBegun len).regs, swap := (s.swapBegun len).swap, arb := (s.swapBegun len).arb } := by
  unfold State.swapBegun
  rw [State.verifyBegun_frame]

/-- The registers of a GO that is taken are those of ERROR cleared and STATE VERIFYING. -/
theorem State.getF_swapBegun (f : Fld) :
    (s.swapBegun len).getF f = ((s.setF F.SYS_SWAP_STAT_ERROR 0).setSwap 1).getF f :=
  OnlyFields.of_regs (t := s.swapBegun len) s.verifyBegun_regs [] f (by simp)

theorem State.swapBegun_state : (s.swapBegun len).getF F.SYS_SWAP_STAT_STATE = 1 :=
  (s.getF_swapBegun len _).trans (State.getF_setSwap _ (by decide))

theorem State.swapBegun_error : (s.swapBegun len).getF F.SYS_SWAP_STAT_ERROR = 0 :=
  (s.getF_swapBegun len _).trans (((State.setSwap_onlyFields _ 1).getF (by decide)).trans
    (State.getF_setF_same s F.SYS_SWAP_STAT_ERROR 0 (by decide)))

theorem State.swapBegun_onlyFields : OnlyFields s (s.swapBegun len)
    [F.SYS_SWAP_STAT_ERROR, F.SYS_SWAP_STAT_STATE, ⟨0x200, 6, 1⟩, ⟨0x208, 6, 1⟩] :=
  OnlyFields.of_regs_eq ((OnlyFields.setF s F.SYS_SWAP_STAT_ERROR 0 (by decide)).trans (State.setSwap_onlyFields _ 1))
    s.verifyBegun_regs

end

/-- A GO turned away: BUSY_REJ. -/
def State.swapRejected (s : State) : State := s.setF F.SYS_SWAP_STAT_BUSY_REJ 1

theorem State.swapRejected_busyRej (s : State) : s.swapRejected.getF F.SYS_SWAP_STAT_BUSY_REJ = 1 :=
  State.getF_setF_same s F.SYS_SWAP_STAT_BUSY_REJ 1 (by decide)

theorem State.swapRejected_onlyFields (s : State) : OnlyFields s s.swapRejected [F.SYS_SWAP_STAT_BUSY_REJ] :=
  OnlyFields.setF s F.SYS_SWAP_STAT_BUSY_REJ 1 (by decide)

/-- With a swap in progress a GO, and one more of its cycle, is turned away. -/
theorem State.swapGo_of_busy {s : State} (h : s.getF F.SYS_SWAP_STAT_STATE ∈ [1, 2, 3]) (len : Nat) (second : Bool) :
    s.swapGo len second = s.swapRejected := if_pos (swapInProgress_iff.1 h)

/-- Else a GO is taken, and a second one of its cycle turned away with ERROR 20. -/
theorem State.swapGo_of_free {s : State} (h : s.getF F.SYS_SWAP_STAT_STATE ∉ [1, 2, 3]) (len : Nat) (second : Bool) :
    s.swapGo len second =
      if second then ((s.swapBegun len).setF F.SYS_SWAP_STAT_ERROR 20).swapRejected else s.swapBegun len :=
  if_neg (mt swapInProgress_iff.2 h)

theorem exec_swapGo {m : Master} {s : State} (h : s.wrAcc m R.SYS_SWAP_CTRL = .ok) (len : Nat) (second : Bool) :
    exec (.swapGo m len second) s = .next (s.swapGo (len % 2 ^ 21) second) :=
  congrArg Host.Outcome.next (State.guardW_ok_eq h _ _)

/-- A second GO of a cycle changes, over the first, ERROR and BUSY_REJ alone. -/
theorem State.secondGo (u : State) {st : Nat} (hst : u.getF F.SYS_SWAP_STAT_STATE = st) :
    let t := (u.setF F.SYS_SWAP_STAT_ERROR 20).swapRejected
    t.getF F.SYS_SWAP_STAT_STATE = st ∧ t.getF F.SYS_SWAP_STAT_ERROR = 20 ∧ t.getF F.SYS_SWAP_STAT_BUSY_REJ = 1 ∧
      OnlyFields u t [F.SYS_SWAP_STAT_ERROR, F.SYS_SWAP_STAT_BUSY_REJ] ∧ t = { u with regs := t.regs } := by
  have herr := OnlyFields.setF u F.SYS_SWAP_STAT_ERROR 20 (by decide)
  have hrej := (u.setF F.SYS_SWAP_STAT_ERROR 20).swapRejected_onlyFields
  exact ⟨((herr.trans hrej).getF (by decide)).trans hst,
    (hrej.getF (by decide)).trans (State.getF_setF_same u F.SYS_SWAP_STAT_ERROR 20 (by decide)),
    State.swapRejected_busyRej _, herr.trans hrej, rfl⟩

/-! ### The end of VERIFYING (R153, R154) -/

theorem exec_swapVerifyDone_of_waits {s : State}
    (h : s.getF F.SYS_SWAP_STAT_STATE ≠ 1 ∨ s.swap.storing = true ∨ s.swapCounting = true) :
    exec .swapVerifyDone s = .next s := congrArg Host.Outcome.next (if_pos h)

theorem exec_swapVerifyDone_of_ready {s : State} (hst : s.getF F.SYS_SWAP_STAT_STATE = 1)
    (hstore : s.swap.storing = false) (hcount : s.swapCounting = false) :
    exec .swapVerifyDone s = .next s.swapCheck :=
  congrArg Host.Outcome.next (if_neg (by simp [hst, hstore, hcount]))

section
variable {s : State} {v : Except (Nat × Nat) PlanParts}

theorem State.swapChecked_none (s : State) : s.swapChecked none = s := rfl

theorem State.swapChecked_of_error {c : Nat} (h : s.swapJudged s.swap.image v = .error c) :
    s.swapChecked (some v) = s.swapRefuse c := by
  rw [State.swapChecked, Option.map_some, h]

/-- A swap whose checks pass before its announcement is announced where it holds a CELL_MAP, and stored otherwise. -/
theorem State.swapChecked_of_ok {secs : List (Nat × Bytes)} (h : s.swapJudged s.swap.image v = .ok secs)
    (hst : s.getF F.SYS_SWAP_STAT_STATE ≠ 2) :
    let n := leAt (s.sec T.SYSTEM) 4 1
    let sw : Swap := { s.swap with sections := secs, seq := leAt s.swap.image 24 4 }
    s.swapChecked (some v) = if secs.any (fun p => decide (p.1 = T.CELL_MAP)) then
        (State.setSwapAsn { s with swap := { sw with framesLeft := n } } (s.announceAsn n)).setSwap 2
      else State.swapStore { s with swap := sw } := by
  rw [State.swapChecked, Option.map_some, h]
  exact if_neg hst

end

/-- Settles O19: a GO is turned away or taken by the state it meets, and the verification ends by what its checks answer. -/
theorem swapRequestAndVerify : Obligations.SwapRequestAndVerify := by
  unfold Obligations.SwapRequestAndVerify
  intro m len s
  refine ⟨fun hacc hbusy => ?_, fun hacc hfree => ?_, fun hacc => ⟨fun hbusy => ?_, fun hfree u hu => ?_⟩,
    exec_swapVerifyDone_of_waits, fun hst hstore hcount => ?_⟩
  · refine ⟨s.swapRejected, ?_, s.swapRejected_busyRej, s.swapRejected_onlyFields, rfl⟩
    rw [exec_swapGo hacc, State.swapGo_of_busy hbusy]
  · refine ⟨s.swapBegun (len % 2 ^ 21), ?_, s.swapBegun_state _, s.swapBegun_error _, s.swapBegun_swap _,
      s.swapBegun_onlyFields _, s.swapBegun_frame _⟩
    rw [exec_swapGo hacc, State.swapGo_of_free hfree, if_neg Bool.false_ne_true]
  · rw [exec_swapGo hacc, exec_swapGo hacc, State.swapGo_of_busy hbusy, State.swapGo_of_busy hbusy]
  · rw [exec_swapGo hacc, State.swapGo_of_free hfree, if_neg Bool.false_ne_true] at hu
    obtain rfl := Host.Outcome.next.inj hu
    refine ⟨_, ?_, State.secondGo _ (s.swapBegun_state _)⟩
    rw [exec_swapGo hacc, State.swapGo_of_free hfree, if_pos rfl]
  · rw [exec_swapVerifyDone_of_ready hst hstore hcount, State.swapCheck]
    refine ⟨fun hnone => ?_, fun v c hv hbad => ?_, fun v secs hv hgood hfirst => ?_⟩
    · rw [hnone, State.swapChecked_none]
    · rw [hv, State.swapChecked_of_error hbad]
    · rw [hv]
      exact congrArg Host.Outcome.next (State.swapChecked_of_ok hgood hfirst)

end Sys2Proof.Machine
end

section
/-! SUPPORT. O24, O23: Mailbox channels. -/
namespace Sys2Proof.Machine

/-! ### Words at MBX_CTRL (R176–R178) -/

/-- What a GO or TAKE command sets in the word it writes leaves the word's other bits. -/
theorem testBit_or_two_pow (v : Word) {k i : Nat} (hk : k < 32) :
    (v ||| word (2 ^ k)).toNat.testBit i = (v.toNat.testBit i || decide (k = i)) := by
  rw [BitVec.toNat_or, word_toNat_of_lt (Nat.pow_lt_pow_right (by decide) hk), Nat.testBit_or, Nat.testBit_two_pow]

theorem go_testBit (v : Word) : (v ||| 1).toNat.testBit 0 = true :=
  (testBit_or_two_pow v (k := 0) (by decide)).trans (Bool.or_true _)

theorem take_testBit (v : Word) : (v ||| 2).toNat.testBit 1 = true :=
  (testBit_or_two_pow v (k := 1) (by decide)).trans (Bool.or_true _)

/-- A field above the bit set reads as in the word itself. -/
theorem bitsOf_or_two_pow (v : Word) {k lo : Nat} (hk : k < lo) (hlo : lo ≤ 32) (w : Nat) :
    bitsOf (v ||| word (2 ^ k)).toNat lo w = bitsOf v.toNat lo w := by
  refine Nat.eq_of_testBit_eq fun i => ?_
  rw [bitsOf_testBit, bitsOf_testBit, testBit_or_two_pow v (by omega), decide_eq_false (p := k = lo + i) (by omega),
    Bool.or_false]

/-- A change outside the registers leaves every field. -/
theorem State.getF_of_regs {s t : State} (h : t.regs = s.regs) (f : Fld) : t.getF f = s.getF f :=
  OnlyFields.of_regs h [] f (by simp)

section
variable {s : State} {m : Master} {c : Nat}

/-- LEN and TAG of a word written to a channel. -/
def State.mbxLenTag (s : State) (c v : Nat) : State :=
  (s.setF (F.MBX_CTRL_LEN c) (min (bitsOf v 2 5) 16)).setF (F.MBX_CTRL_TAG c) (bitsOf v 8 8)

/-- The channel with LEN and TAG written since its last GO. -/
def State.mbxLoaded (s : State) (c v : Nat) : State :=
  { s.mbxLenTag c v with mbxDirty := c :: s.mbxDirty.filter (· ≠ c) }

/-- The interrupt of a message taken, in the group of its channel. -/
def takenFld (c : Nat) : Fld := ⟨if 16 ≤ c then 0x200 else 0x208, Irq.MBX_TAKEN, 1⟩

/-- The channel without a message. -/
def State.mbxEmptied (s : State) (c : Nat) : State := (s.setF (F.MBX_CTRL_GO c) 0).setF (F.MBX_STAT_POSTED c) 0

/-- The channel with its message taken. -/
def State.mbxTaken (s : State) (c : Nat) : State := (s.mbxEmptied c).setFIf (chanH2d c = true) (takenFld c) 1

theorem State.mbxCtrlWrite_of_taken {v : Nat} (hgo : s.flag (F.MBX_CTRL_GO c) = true) (hv : v.testBit 1 = true)
    (hsend : chanSender m c = false) : s.mbxCtrlWrite m c v = s.mbxTaken c := by
  have hirq (t : State) : t.irqGrp (16 ≤ c) Irq.MBX_TAKEN = t.setF (takenFld c) 1 := by
    simp only [State.irqGrp, decide_eq_true_eq, takenFld]
  rw [State.mbxTaken, State.setFIf, ← hirq]
  exact (if_pos hgo).trans (if_pos ⟨hv, by rw [hsend]; rfl⟩)

theorem State.mbxCtrlWrite_of_posted {v : Nat} (hgo : s.flag (F.MBX_CTRL_GO c) = true) (hv : v.testBit 1 = false) :
    s.mbxCtrlWrite m c v = s.setF (F.MBX_STAT_WR_IGNORED c) 1 :=
  (if_pos hgo).trans (if_neg fun h => Bool.false_ne_true (hv.symm.trans h.1))

/-- GO of the sending side posts, where a host's channel is mapped to a task. -/
theorem State.mbxCtrlWrite_of_go {v : Nat} (hgo : s.flag (F.MBX_CTRL_GO c) = false) (hv : v.testBit 0 = true)
    (hsend : chanSender m c = true) (hmap : chanH2d c = true → (s.mbxMap? c).isSome = true) :
    s.mbxCtrlWrite m c v = (s.mbxLoaded c v).mbxPostMsg c := by
  unfold State.mbxCtrlWrite
  rw [hgo, hv, hsend, if_neg Bool.false_ne_true, if_neg (by simp), if_neg (by simp), if_neg]
  · rfl
  · rintro ⟨hd, hnone⟩
    rw [Option.isNone_iff_eq_none] at hnone
    have hsome := hmap hd
    rw [hnone] at hsome
    exact Bool.false_ne_true hsome

theorem State.mbxLenTag_go (v : Word) : s.mbxLenTag c (v ||| 1).toNat =
    (s.setF (F.MBX_CTRL_LEN c) (min (v.toNat / 4 % 32) 16)).setF (F.MBX_CTRL_TAG c) (v.toNat / 256 % 256) := by
  rw [State.mbxLenTag, show (1 : Word) = word (2 ^ 0) from rfl, bitsOf_or_two_pow v (by decide) (by decide),
    bitsOf_or_two_pow v (by decide) (by decide)]
  rfl

/-! ### What a message posted or taken shows -/

/-- The registers of a message posted. -/
def State.mbxShown (s : State) (c : Nat) : State :=
  (((s.setF (F.MBX_CTRL_GO c) 1).setF (F.MBX_STAT_POSTED c) 1).setF (F.MBX_STAT_POSTS c)
    (s.getF (F.MBX_STAT_POSTS c) + 1)).setF (F.MBX_STAT_DIRTY c) 0

theorem State.mbxShown_mbxDirty (s : State) (c : Nat) : (s.mbxShown c).mbxDirty = s.mbxDirty := by
  rw [State.mbxShown, State.setF_mbxDirty, State.setF_mbxDirty, State.setF_mbxDirty, State.setF_mbxDirty]

/-- A device's message posted shows in its registers, and is no longer unposted. -/
theorem State.mbxPostMsg_of_device (h : chanH2d c = false) :
    s.mbxPostMsg c = { s.mbxShown c with mbxDirty := s.mbxDirty.filter (· ≠ c) } := by
  have hpost : s.mbxPostMsg c =
      let t : State := { s.mbxShown c with mbxDirty := (s.mbxShown c).mbxDirty.filter (· ≠ c) }
      if !chanH2d c then t else if t.domOn 3 then t.mbxWake c else t.domEvent 3 (.go c) := by
    unfold State.mbxPostMsg State.mbxShown
    rfl
  rw [hpost, h, State.mbxShown_mbxDirty]
  exact if_pos rfl

section
variable (s : State) (c v : Nat)

theorem State.mbxShown_onlyFields : OnlyFields s (s.mbxShown c)
    [F.MBX_CTRL_GO c, F.MBX_STAT_POSTED c, F.MBX_STAT_POSTS c, F.MBX_STAT_DIRTY c] :=
  (((OnlyFields.setF s (F.MBX_CTRL_GO c) _ (by simp)).snoc _ _ (by simp)).snoc _ _ (by simp)).snoc _ _ (by simp)

theorem State.mbxShown_go : (s.mbxShown c).getF (F.MBX_CTRL_GO c) = 1 := by
  simp [State.mbxShown, State.getF_setF_same, State.getF_setF_other]

theorem State.mbxShown_posted : (s.mbxShown c).getF (F.MBX_STAT_POSTED c) = 1 := by
  simp [State.mbxShown, State.getF_setF_same, State.getF_setF_bits]

theorem State.mbxShown_dirty : (s.mbxShown c).getF (F.MBX_STAT_DIRTY c) = 0 := by
  simp [State.mbxShown, State.getF_setF_same]

theorem State.mbxLenTag_onlyFields : OnlyFields s (s.mbxLenTag c v) [F.MBX_CTRL_LEN c, F.MBX_CTRL_TAG c] :=
  (OnlyFields.setF s (F.MBX_CTRL_LEN c) _ (by simp)).snoc (F.MBX_CTRL_TAG c) _ (by simp)

theorem State.mbxLenTag_len : (s.mbxLenTag c v).getF (F.MBX_CTRL_LEN c) = min (bitsOf v 2 5) 16 := by
  rw [State.mbxLenTag, State.getF_setF_bits _ (F.MBX_CTRL_TAG c) (F.MBX_CTRL_LEN c) _ (by simp) rfl (by simp),
    State.getF_setF_same _ _ _ (by simp)]
  exact Nat.mod_eq_of_lt (Nat.lt_of_le_of_lt (Nat.min_le_right _ _) (by simp))

theorem State.mbxLenTag_tag : (s.mbxLenTag c v).getF (F.MBX_CTRL_TAG c) = bitsOf v 8 8 := by
  rw [State.mbxLenTag, State.getF_setF_same _ _ _ (by simp)]
  exact Nat.mod_mod _ _

theorem takenFld_bits : (takenFld c).lo + (takenFld c).width ≤ 32 := by simp [takenFld, Irq.MBX_TAKEN]

theorem State.mbxEmptied_onlyFields : OnlyFields s (s.mbxEmptied c) [F.MBX_CTRL_GO c, F.MBX_STAT_POSTED c] :=
  (OnlyFields.setF s (F.MBX_CTRL_GO c) 0 (by simp)).snoc (F.MBX_STAT_POSTED c) 0 (by simp)

theorem State.mbxTaken_onlyFields :
    OnlyFields s (s.mbxTaken c) [F.MBX_CTRL_GO c, F.MBX_STAT_POSTED c, takenFld c] :=
  (s.mbxEmptied_onlyFields c).trans (State.setFIf_onlyFields _ _ _ (takenFld_bits c))

theorem State.mbxTaken_frame : s.mbxTaken c = { s with regs := (s.mbxTaken c).regs } :=
  State.setFIf_frame (State.setF_frame (State.setF_frame (t := s) rfl _ _) _ _) _ _ _

/-- A register of the channel through the interrupt of its group. -/
theorem State.mbxTaken_getF {f : Fld} (hf : 0x30000 ≤ f.addr) : (s.mbxTaken c).getF f = (s.mbxEmptied c).getF f := by
  refine State.setFIf_onlyFields _ _ _ (takenFld_bits c) f fun g hg => .inl ?_
  have hlow : (takenFld c).addr < 0x30000 := by
    simp only [takenFld]
    split_ifs <;> decide
  rw [List.mem_singleton.1 hg]
  omega

theorem State.mbxTaken_go : (s.mbxTaken c).getF (F.MBX_CTRL_GO c) = 0 := by
  rw [State.mbxTaken_getF s c (by simp only; omega), State.mbxEmptied, State.getF_setF_other _ _ _ _ (by simp),
    State.getF_setF_same _ _ _ (by simp)]
  rfl

theorem State.mbxTaken_posted : (s.mbxTaken c).getF (F.MBX_STAT_POSTED c) = 0 := by
  rw [State.mbxTaken_getF s c (by simp only; omega), State.mbxEmptied, State.getF_setF_same _ _ _ (by simp)]
  rfl

/-- A host's message taken is told to its group. -/
theorem State.mbxTaken_irq (h : chanH2d c = true) : (s.mbxTaken c).getF (takenFld c) = 1 := by
  rw [State.mbxTaken, State.setFIf_pos _ _ h, State.getF_setF_same _ _ _ (takenFld_bits c)]
  rfl

end

/-! ### The commands -/

section
variable (hc : c < 32)
include hc

theorem exec_mbxGo (hacc : s.wrAcc m (R.MBX_CTRL c) = .ok) (v : Word) :
    exec (.mbxGo m c v) s = .next (s.mbxCtrlWrite m c (v ||| 1).toNat) :=
  congrArg Host.Outcome.next ((if_pos hc).trans (State.guardW_ok_eq hacc _ _))

theorem exec_mbxTake (hacc : s.wrAcc m (R.MBX_CTRL c) = .ok) (v : Word) :
    exec (.mbxTake m c v) s = .next (s.mbxCtrlWrite m c (v ||| 2).toNat) :=
  congrArg Host.Outcome.next ((if_pos hc).trans (State.guardW_ok_eq hacc _ _))

theorem exec_mbxDataWrite {k : Nat} (hk : k < 16) (hacc : s.wrAcc m (0x30000 + 0x80 * c + 4 * k) = .ok) (v : Word) :
    exec (.mbxDataWrite m c k v) s = .next (s.mbxDataWrite c k v.toNat) :=
  congrArg Host.Outcome.next ((if_pos ⟨hc, hk⟩).trans (State.guardW_ok_eq hacc _ _))

theorem exec_registerWrite_mbxCtrl (hacc : s.wrAcc m (R.MBX_CTRL c) = .ok) (v hw : Word) :
    exec (.registerWrite m (R.MBX_CTRL c) v hw) s = .next (s.mbxCtrlWrite m c v.toNat) := by
  rw [exec_registerWrite (by simp only [R.MBX_CTRL]; omega), accAddr_of_aligned (by simp only [R.MBX_CTRL]; omega)
    (by simp only [R.MBX_CTRL]; omega), State.guardW_ok_eq hacc, State.writeEff_mbxCtrl _ _ _ _ hc]

end

/-- Settles O24: a write to a channel whose message is posted sets WR_IGNORED, at MBX_CTRL as at a data register. -/
theorem mailboxWritesWhilePosted : Obligations.MailboxWritesWhilePosted := by
  unfold Obligations.MailboxWritesWhilePosted
  intro m c v s hc hgo
  refine ⟨fun k hk hacc => exec_setsField ?_ (by simp) (by simp), fun hacc htake hw => exec_setsField ?_ (by simp) (by simp)⟩
  · rw [exec_mbxDataWrite hc hk hacc, State.mbxDataWrite, if_pos hgo]
  · rw [exec_registerWrite_mbxCtrl hc hacc, State.mbxCtrlWrite_of_posted hgo htake]

end

/-! ### Messages posted and words written (R176–R178) -/

section
variable {s : State} {m : Master} {c : Nat}

theorem State.mbxShown_frame (s : State) (c : Nat) : s.mbxShown c = { s with regs := (s.mbxShown c).regs } :=
  State.setF_frame (State.setF_frame (State.setF_frame (State.setF_frame (t := s) rfl _ _) _ _) _ _) _ _

theorem State.mbxLenTag_frame (s : State) (c v : Nat) : s.mbxLenTag c v = { s with regs := (s.mbxLenTag c v).regs } :=
  State.setF_frame (State.setF_frame (t := s) rfl _ _) _ _

theorem State.mbxLoaded_regs (s : State) (c v : Nat) : (s.mbxLoaded c v).regs = (s.mbxLenTag c v).regs := rfl

theorem State.withDirty_getF (s : State) (cs : List Nat) (f : Fld) :
    ({ s with mbxDirty := cs } : State).getF f = s.getF f := rfl

/-- A device's message posted, with LEN and TAG of its word. -/
def State.mbxSent (s : State) (c v : Nat) : State := (s.mbxLoaded c v).mbxPostMsg c

section
variable (s : State) (v : Nat) (h : chanH2d c = false)
include h

theorem State.mbxSent_getF (f : Fld) : (s.mbxSent c v).getF f = ((s.mbxLoaded c v).mbxShown c).getF f := by
  rw [State.mbxSent, State.mbxPostMsg_of_device h, State.withDirty_getF]

theorem State.mbxSent_onlyFields : OnlyFields s (s.mbxSent c v) [F.MBX_CTRL_LEN c, F.MBX_CTRL_TAG c, F.MBX_CTRL_GO c,
    F.MBX_STAT_POSTED c, F.MBX_STAT_POSTS c, F.MBX_STAT_DIRTY c] := by
  have hloaded := OnlyFields.of_regs_eq (s.mbxLenTag_onlyFields c v) (s.mbxLoaded_regs c v)
  intro g hg
  rw [s.mbxSent_getF v h]
  exact hloaded.trans ((s.mbxLoaded c v).mbxShown_onlyFields c) g hg

theorem State.mbxSent_len : (s.mbxSent c v).getF (F.MBX_CTRL_LEN c) = min (bitsOf v 2 5) 16 := by
  rw [s.mbxSent_getF v h, (State.mbxShown_onlyFields _ c).getF (by simp [Fld.apartFrom]),
    State.getF_of_regs (s.mbxLoaded_regs c v), State.mbxLenTag_len]

theorem State.mbxSent_tag : (s.mbxSent c v).getF (F.MBX_CTRL_TAG c) = bitsOf v 8 8 := by
  rw [s.mbxSent_getF v h, (State.mbxShown_onlyFields _ c).getF (by simp [Fld.apartFrom]),
    State.getF_of_regs (s.mbxLoaded_regs c v), State.mbxLenTag_tag]

theorem State.mbxSent_frame : s.mbxSent c v =
    { s with regs := (s.mbxSent c v).regs, mbxDirty := s.mbxDirty.filter (· ≠ c) } := by
  have hdirty : (c :: s.mbxDirty.filter (· ≠ c)).filter (· ≠ c) = s.mbxDirty.filter (· ≠ c) := by simp
  rw [State.mbxSent, State.mbxPostMsg_of_device h, State.mbxShown_frame, State.mbxLoaded, hdirty, State.mbxLenTag_frame]

end

/-- LEN and TAG of a GO command are those of the word given. -/
theorem bitsOf_go (v : Word) :
    bitsOf (v ||| 1).toNat 2 5 = v.toNat / 4 % 32 ∧ bitsOf (v ||| 1).toNat 8 8 = v.toNat / 256 % 256 :=
  ⟨bitsOf_or_two_pow v (k := 0) (by decide) (by decide) 5, bitsOf_or_two_pow v (k := 0) (by decide) (by decide) 8⟩

theorem mbxGo_of_device (hc : c < 32) (hacc : s.wrAcc m (R.MBX_CTRL c) = .ok) (hgo : s.flag (F.MBX_CTRL_GO c) = false)
    (hcore : m.isCore = true) (hdev : chanH2d c = false) (v : Word) :
    exec (.mbxGo m c v) s = .next (s.mbxSent c (v ||| 1).toNat) := by
  have hsend : chanSender m c = true := by
    rw [chanSender, hdev, hcore]
    rfl
  rw [exec_mbxGo hc hacc, State.mbxCtrlWrite_of_go hgo (go_testBit v) hsend (by simp [hdev]), State.mbxSent]

/-- A data word written where no message is posted. -/
def State.mbxWritten (s : State) (c k : Nat) (v : Word) : State :=
  (s.wr (0x30000 + 0x80 * c + 4 * k) v).setBit (F.MBX_STAT_DIRTY c) k

theorem exec_mbxDataWrite_of_unposted {k : Nat} (hc : c < 32) (hk : k < 16)
    (hacc : s.wrAcc m (0x30000 + 0x80 * c + 4 * k) = .ok) (hgo : s.flag (F.MBX_CTRL_GO c) = false) (v : Word) :
    exec (.mbxDataWrite m c k v) s = .next (s.mbxWritten c k v) := by
  rw [exec_mbxDataWrite hc hk hacc, State.mbxDataWrite, hgo, if_neg Bool.false_ne_true, State.mbxWritten, word,
    BitVec.ofNat_toNat, BitVec.setWidth_eq]

end

/-! ### Resets declared by a host (R181) -/

section
variable {s : State} {m : Master} {key : Nat} (hacc : s.wrAcc m R.MBX_HRST = .ok)

/-- What a host's declared reset does to the channels of its group and to the claims of the host. -/
def State.hostLost (s : State) (m : Master) : State :=
  ((d2hOf m.secure).foldl (fun t c => if t.flag (F.MBX_CTRL_GO c) then t.setF (F.MBX_STAT_REPOSTED c) 1 else t)
    ((h2dOf m.secure).foldl State.senderReset s)).claimTrouble m

include hacc

theorem exec_mbxHostReset :
    exec (.mbxHostReset m key) s = .next (s.hostReset m (key % 65536 * 65536 + 1)) :=
  congrArg Host.Outcome.next (State.guardW_ok_eq hacc _ _)

theorem exec_mbxHostReset_of_wrong_key (hkey : key % 65536 ≠ 0xC3A5) : exec (.mbxHostReset m key) s = .next s := by
  rw [exec_mbxHostReset hacc, State.hostReset, keyWord_key key (by decide), if_pos (.inl hkey)]

theorem exec_mbxHostReset_of_key (hkey : key % 65536 = 0xC3A5) : exec (.mbxHostReset m key) s =
    .next (if m.secure then (s.hostLost m).updRelease 2 else s.hostLost m) := by
  have hdeclare : (key % 65536 * 65536 + 1).testBit 0 = true := by
    rw [Nat.testBit_zero]
    exact decide_eq_true (by omega)
  rw [exec_mbxHostReset hacc, State.hostReset, keyWord_key key (by decide), hdeclare, if_neg (by simp [hkey])]
  rfl

end

/-! ### Wakes raised again (R179) -/

section
variable {s : State} {c : Nat}

/-- The state without the wake of a channel waiting to be raised again. -/
def State.repostTaken (s : State) (c : Nat) : State :=
  { s with arb := { s.arb with repost := s.arb.repost.filter (· ≠ c) } }

theorem exec_mbxRepost_of_not (h : s.arb.repost.contains c = false ∨ s.domOn 3 = false ∨ s.power.boot = true) :
    exec (.mbxRepost c) s = .next s := by
  refine congrArg Host.Outcome.next (if_neg fun ⟨hc, h3, hb, _⟩ => ?_)
  rcases h with h | h | h
  · exact Bool.false_ne_true (h.symm.trans hc)
  · exact Bool.false_ne_true (h.symm.trans h3)
  · rw [h] at hb
    exact Bool.false_ne_true hb

theorem exec_mbxRepost_of_due (hc : s.arb.repost.contains c = true) (h3 : s.domOn 3 = true) (hb : s.power.boot = false)
    (h9 : 9 ≤ s.getF F.SYS_BOOT_STAT_STEP) : exec (.mbxRepost c) s = .next (
      if s.flag (F.MBX_CTRL_GO c) ∧ (s.mbxMap? c).isSome then
        ((s.repostTaken c).setF (F.MBX_STAT_REPOSTED c) 1).mbxWake c
      else s.repostTaken c) :=
  congrArg Host.Outcome.next (if_pos ⟨hc, h3, by rw [hb]; rfl, h9⟩)

end

/-- Settles O23: a message by the word that posts or takes it, a declared reset by its key, a wake by what is left of its
message. -/
theorem mailboxMessages : Obligations.MailboxMessages := by
  unfold Obligations.MailboxMessages
  refine ⟨fun m c v s hc hacc => ⟨fun hgo hcore hdev => ?_, fun hgo hcore hhost hmap => ?_, fun hgo hsend => ?_,
    fun k hk hdata hgo => ?_⟩, fun m s => ⟨fun key hacc => exec_mbxHostReset_of_wrong_key hacc,
      fun key hacc hkey hsec => ?_, fun key hacc hkey hsec => ?_,
      fun c hrepost h3 hb h9 => ⟨fun hgo hmap => ?_, fun h => ?_⟩, fun c => exec_mbxRepost_of_not⟩⟩
  · obtain ⟨hlen, htag⟩ := bitsOf_go v
    exact ⟨_, mbxGo_of_device hc hacc hgo hcore hdev v, (s.mbxSent_getF _ hdev _).trans (State.mbxShown_go _ c),
      (s.mbxSent_getF _ hdev _).trans (State.mbxShown_posted _ c), (s.mbxSent_len _ hdev).trans (by rw [hlen]),
      (s.mbxSent_tag _ hdev).trans htag, (s.mbxSent_getF _ hdev _).trans (State.mbxShown_dirty _ c),
      s.mbxSent_onlyFields _ hdev, s.mbxSent_frame _ hdev⟩
  · rw [exec_mbxGo hc hacc, State.mbxCtrlWrite_of_go hgo (go_testBit v) (by rw [chanSender, hhost, hcore]; rfl)
      (fun _ => hmap), State.mbxLoaded, State.mbxLenTag_go]
  · exact ⟨s.mbxTaken c, by rw [exec_mbxTake hc hacc, State.mbxCtrlWrite_of_taken hgo (take_testBit v) hsend],
      s.mbxTaken_go c, s.mbxTaken_posted c, s.mbxTaken_irq c, s.mbxTaken_onlyFields c, s.mbxTaken_frame c⟩
  · refine ⟨_, exec_mbxDataWrite_of_unposted hc hk hdata hgo v, ?_, State.bit_setBit_same _ (by simp) hk, ?_, ?_⟩
    · rw [State.mbxWritten, State.setBit, State.rd_setF_other _ _ _ (by simp only; omega), State.rd_wr_same]
    · exact (OnlyFields.wr s _ v _ rfl).trans (OnlyFields.setF _ (F.MBX_STAT_DIRTY c) _ (by simp))
    · exact State.setF_frame (State.wr_frame (t := s) rfl _ _) _ _
  · rw [exec_mbxHostReset_of_key hacc hkey, hsec, State.hostLost, hsec]
    rfl
  · rw [exec_mbxHostReset_of_key hacc hkey, hsec, State.hostLost, hsec]
    rfl
  · rw [exec_mbxRepost_of_due hrepost h3 hb h9, if_pos ⟨hgo, hmap⟩, State.repostTaken]
  · rw [exec_mbxRepost_of_due hrepost h3 hb h9, if_neg, State.repostTaken]
    rintro ⟨hgo, hmap⟩
    rcases h with h | h
    · exact Bool.false_ne_true (h.symm.trans hgo)
    · rw [h] at hmap
      exact Bool.false_ne_true hmap

end Sys2Proof.Machine
end

section
/-! SUPPORT. O25, O26: Claims and their leases. -/
namespace Sys2Proof.Machine

/-! ### Masters in rising order of their IDs (R183) -/

theorem putMaster_perm (m : Master) : ∀ ms : List Master, (putMaster m ms).Perm (m :: ms)
  | [] => List.Perm.refl _
  | x :: xs => by
    unfold putMaster
    split_ifs
    · exact List.Perm.refl _
    · exact ((putMaster_perm m xs).cons x).trans (List.Perm.swap m x xs)

theorem inOrder_perm : ∀ ms : List Master, (ms.foldr putMaster []).Perm ms
  | [] => List.Perm.refl _
  | m :: ms => (putMaster_perm m _).trans ((inOrder_perm ms).cons m)

theorem putMaster_least {w : Master} : ∀ {ms : List Master}, (∀ m ∈ ms, w.id ≤ m.id) → putMaster w ms = w :: ms
  | [], _ => rfl
  | x :: _, h => if_pos (h x (by simp))

/-- The master of the lowest ID comes first. -/
theorem inOrder_least {w : Master} {ms : List Master} (hw : w ∈ ms) (hd : (ms.map Master.id).Nodup)
    (hle : ∀ m ∈ ms, w.id ≤ m.id) : ∃ r, ms.foldr putMaster [] = w :: r := by
  induction ms with
  | nil => exact absurd hw List.not_mem_nil
  | cons x xs ih =>
    obtain ⟨hx, hxs⟩ := List.nodup_cons.1 (by simpa using hd : (x.id :: xs.map Master.id).Nodup)
    have hrest : ∀ m ∈ xs.foldr putMaster [], w.id ≤ m.id := fun m hm =>
      hle m (List.mem_cons_of_mem _ ((inOrder_perm xs).mem_iff.1 hm))
    rw [List.foldr_cons]
    rcases List.mem_cons.1 hw with rfl | hin
    · exact ⟨_, putMaster_least hrest⟩
    · obtain ⟨r, hr⟩ := ih hin hxs fun m hm => hle m (List.mem_cons_of_mem _ hm)
      have hlt : ¬ x.id ≤ w.id := fun h => hx (by
        rw [Nat.le_antisymm h (hle x (by simp))]
        exact List.mem_map_of_mem hin)
      rw [hr]
      exact ⟨putMaster x r, if_neg hlt⟩

/-! ### What becomes of an access, through writes of registers of MBX -/

section
variable {s : State} {r : List (Nat × Word)} {l : List Lease}
  (h : SameOn (· < 0x20000) s { s with regs := r, leases := l })
include h

theorem SameOn.dom {d : Nat} (hd : d < 14) : State.dom { s with regs := r, leases := l } d = s.dom d :=
  State.dom_congr rfl (h.getF (by simp only [F.dom]; omega))

theorem SameOn.pllLock (p : Pll) : State.pllLock { s with regs := r, leases := l } p = s.pllLock p := by
  have hflag (f : Fld) (hf : f.addr < 0x20000) : State.flag { s with regs := r, leases := l } f = s.flag f := by
    rw [State.flag, State.flag, h.getF hf]
  cases p with
  | sys => exact hflag _ (by decide)
  | corr => exact hflag _ (by decide)
  | eth => exact hflag _ (by decide)
  | bandA => rfl
  | bandB => rfl

theorem SameOn.domAcc {d : Nat} (hd : d < 14) : State.domAcc { s with regs := r, leases := l } d = s.domAcc d := by
  have hplan := h.getF (f := F.SYS_PLAN_STAT_STATE) (by decide)
  have hunused : State.domUnused { s with regs := r, leases := l } d = s.domUnused d := by
    simp only [State.domUnused, State.expected, State.planActive, hplan]
    rfl
  simp only [State.domAcc, State.domOn, State.isOn, State.clocked, h.dom hd, h.pllLock, hunused]
  rfl

theorem SameOn.reach (a : Nat) : State.reach { s with regs := r, leases := l } a = s.reach a := by
  have hdom : ∀ d, blockDom (a / 0x10000) (a % 0x10000) = some d → d < 14 := by
    intro d hd
    unfold blockDom at hd
    split at hd <;> simp at hd <;> omega
  unfold State.reach
  rw [h.domAcc (by decide)]
  split
  · split
    next d hd => exact h.domAcc (hdom d hd)
    next => rfl
  · rfl

theorem SameOn.rdAcc (m : Master) (a : Nat) : State.rdAcc { s with regs := r, leases := l } m a = s.rdAcc m a := by
  have hrom : State.romDenied { s with regs := r, leases := l } m a false = s.romDenied m a false := by
    rw [State.romDenied, State.romDenied, State.flag, State.flag, h.getF (by decide)]
  rw [State.rdAcc, State.rdAcc, hrom, h.reach]
  rfl

end

/-! ### A read of MBX_CLAIMn (R182) -/

theorem word_setWidth {n : Nat} (h : n < 2 ^ 32) : (word n).setWidth 64 = BitVec.ofNat 64 n := by
  apply BitVec.eq_of_toNat_eq
  rw [BitVec.toNat_setWidth, word_toNat_of_lt h, BitVec.toNat_ofNat]

/-- The claim in the hands of a master, its lease not yet started. -/
def State.claimOwned (s : State) (m : Master) (n : Nat) : State :=
  (s.setF (F.MBX_CLAIM_INFOn_HELD n) 1).setF (F.MBX_CLAIM_INFOn_OWNER n) m.id

section
variable {s : State} {n : Nat}

theorem State.claimOwned_onlyFields (s : State) (m : Master) (n : Nat) :
    OnlyFields s (s.claimOwned m n) [F.MBX_CLAIM_INFOn_HELD n, F.MBX_CLAIM_INFOn_OWNER n] :=
  (OnlyFields.setF s (F.MBX_CLAIM_INFOn_HELD n) 1 (by simp)).snoc (F.MBX_CLAIM_INFOn_OWNER n) _ (by simp)

theorem State.claimOwned_held (s : State) (m : Master) (n : Nat) :
    (s.claimOwned m n).getF (F.MBX_CLAIM_INFOn_HELD n) = 1 := by
  simp [State.claimOwned, State.getF_setF_same, State.getF_setF_bits]

theorem State.claimOwned_owner (s : State) {m : Master} (hm : m.id < 256) (n : Nat) :
    (s.claimOwned m n).getF (F.MBX_CLAIM_INFOn_OWNER n) = m.id := by
  rw [State.claimOwned, State.getF_setF_same _ _ _ (by simp)]
  exact Nat.mod_eq_of_lt hm

theorem State.claimOwned_frame (s : State) (m : Master) (n : Nat) :
    s.claimOwned m n = { s with regs := (s.claimOwned m n).regs } :=
  State.setF_frame (State.setF_frame (t := s) rfl _ _) _ _

theorem State.claimOwned_sameOn (s : State) (m : Master) (n : Nat) :
    SameOn (· < 0x20000) s (s.claimOwned m n) :=
  (SameOn.setF (by simp only; omega) 1).trans (SameOn.setF (by simp only; omega) m.id)

/-- A lease started leaves the registers. -/
theorem State.leaseStart_getF (s : State) (n : Nat) (f : Fld) : (s.leaseStart n).getF f = s.getF f := rfl

/-- A lease started, with what its masters read on the bus. -/
def State.leasedBus (s : State) (n : Nat) (d : List DWord) : State := { s.leaseStart n with bus := d }

theorem State.leasedBus_getF (s : State) (n : Nat) (d : List DWord) (f : Fld) :
    (s.leasedBus n d).getF f = s.getF f := rfl

theorem State.leasedBus_bus (s : State) (n : Nat) (d : List DWord) : (s.leasedBus n d).bus = d := rfl

theorem State.leasedBus_frame {s t : State} (h : t = { s with regs := t.regs }) (n : Nat) (d : List DWord) :
    t.leasedBus n d = { s with
      regs := (t.leasedBus n d).regs, bus := (t.leasedBus n d).bus, leases := (t.leasedBus n d).leases } := by
  rw [h]
  rfl

theorem State.claimRead_free (h : s.flag (F.MBX_CLAIM_INFOn_HELD n) = false) (m : Master) :
    s.claimRead m n = (0, (s.claimOwned m n).leaseStart n) := if_pos (by rw [h]; rfl)

/-- What a master reads of a claim that is held. -/
def State.claimShown (s : State) (m : Master) (n : Nat) : Nat :=
  if s.getF (F.MBX_CLAIM_INFOn_OWNER n) = m.id then 0x40000000 + m.id
  else 0x80000000 + s.getF (F.MBX_CLAIM_INFOn_OWNER n)

theorem State.claimRead_held (h : s.flag (F.MBX_CLAIM_INFOn_HELD n) = true) (m : Master) :
    s.claimRead m n = (word (s.claimShown m n), s) := by
  unfold State.claimRead State.claimShown
  rw [h, if_neg (by simp)]
  split_ifs <;> rfl

/-- An owner's ID fits its field, so what is shown fits a register. -/
theorem State.claimShown_lt (s : State) (m : Master) (n : Nat) : s.claimShown m n < 2 ^ 32 := by
  have hown : s.getF (F.MBX_CLAIM_INFOn_OWNER n) < 2 ^ 8 := s.getF_lt _
  unfold State.claimShown
  split_ifs <;> omega

/-! ### Reads of one claim in one cycle (R183) -/

/-- One master's read among those of a cycle: the values so far, and the state after it. -/
def State.claimTurn (n : Nat) (r : List DWord × State) (m : Master) : List DWord × State :=
  let x := r.2.guardR m (R.MBX_CLAIMn n) (fun t => let y := t.claimRead m n; (y.1.setWidth 64, y.2))
  (r.1 ++ [x.1], x.2)

theorem exec_claimAcquire (hn : n < 32) (ms : List Master) (s : State) : exec (.claimAcquire ms n) s =
    .next { ((ms.foldr putMaster []).foldl (State.claimTurn n) ([], s)).2 with
      bus := ((ms.foldr putMaster []).foldl (State.claimTurn n) ([], s)).1 } :=
  congrArg Host.Outcome.next (if_neg (by omega))

theorem State.claimTurn_free {m : Master} (hacc : s.rdAcc m (R.MBX_CLAIMn n) = .ok)
    (h : s.flag (F.MBX_CLAIM_INFOn_HELD n) = false) (d : List DWord) :
    State.claimTurn n (d, s) m = (d ++ [0], (s.claimOwned m n).leaseStart n) := by
  rw [State.claimTurn, State.guardR_ok_eq hacc, State.claimRead_free h]
  rfl

theorem State.claimTurn_held {m : Master} (hacc : s.rdAcc m (R.MBX_CLAIMn n) = .ok)
    (h : s.flag (F.MBX_CLAIM_INFOn_HELD n) = true) (d : List DWord) :
    State.claimTurn n (d, s) m = (d ++ [BitVec.ofNat 64 (s.claimShown m n)], s) := by
  rw [State.claimTurn, State.guardR_ok_eq hacc, State.claimRead_held h]
  simp only [word_setWidth (s.claimShown_lt m n)]

/-- Masters other than the owner read its ID, and change nothing. -/
theorem State.foldl_claimTurn_held (h : s.flag (F.MBX_CLAIM_INFOn_HELD n) = true) {w : Nat}
    (how : s.getF (F.MBX_CLAIM_INFOn_OWNER n) = w) {ms : List Master}
    (hms : ∀ m ∈ ms, m.id ≠ w ∧ s.rdAcc m (R.MBX_CLAIMn n) = .ok) (d : List DWord) :
    ms.foldl (State.claimTurn n) (d, s) = (d ++ List.replicate ms.length (BitVec.ofNat 64 (0x80000000 + w)), s) := by
  induction ms generalizing d with
  | nil => rw [List.foldl_nil, List.length_nil, List.replicate_zero, List.append_nil]
  | cons m ms ih =>
    obtain ⟨hne, hacc⟩ := hms m (by simp)
    have hshown : s.claimShown m n = 0x80000000 + w := by
      rw [State.claimShown, how, if_neg (Ne.symm hne)]
    rw [List.foldl_cons, State.claimTurn_held hacc h, ih fun x hx => hms x (List.mem_cons_of_mem _ hx), hshown,
      List.append_assoc, List.length_cons, List.replicate_succ, List.singleton_append]

/-- A claim taken leaves what becomes of accesses. -/
theorem State.claimOwned_rdAcc (s : State) (w : Master) (n : Nat) (m : Master) (a : Nat) :
    ((s.claimOwned w n).leaseStart n).rdAcc m a = s.rdAcc m a := by
  have hsame := s.claimOwned_sameOn w n
  rw [State.claimOwned_frame] at hsame ⊢
  exact SameOn.rdAcc hsame m a

/-- Settles O25: the master of the lowest ID reads the claim free and takes it, the others find it held. -/
theorem claimGoesToTheLowestMaster : Obligations.ClaimGoesToTheLowestMaster := by
  unfold Obligations.ClaimGoesToTheLowestMaster
  intro w ms n s hn hfree hd hw hid hle hacc
  obtain ⟨r, hr⟩ := inOrder_least hw hd hle
  have hperm : (w :: r).Perm ms := hr ▸ inOrder_perm ms
  have hother : ∀ m ∈ r, m.id ≠ w.id ∧ ((s.claimOwned w n).leaseStart n).rdAcc m (R.MBX_CLAIMn n) = .ok := by
    intro m hm
    have hnodup : ((w :: r).map Master.id).Nodup := (hperm.map Master.id).nodup_iff.2 hd
    obtain ⟨hwr, -⟩ := List.nodup_cons.1 hnodup
    refine ⟨fun he => hwr (he ▸ List.mem_map_of_mem hm), ?_⟩
    rw [State.claimOwned_rdAcc]
    exact hacc m (hperm.mem_iff.1 (List.mem_cons_of_mem _ hm))
  have hheld : ((s.claimOwned w n).leaseStart n).flag (F.MBX_CLAIM_INFOn_HELD n) = true := by
    rw [State.flag, State.leaseStart_getF, State.claimOwned_held]
    rfl
  have hlen : ms.length - 1 = r.length := by
    rw [← hperm.length_eq, List.length_cons, Nat.add_sub_cancel]
  refine ⟨(s.claimOwned w n).leasedBus n (0 :: List.replicate (ms.length - 1) (BitVec.ofNat 64 (0x80000000 + w.id))),
    ?_, State.leasedBus_bus _ _ _, (State.leasedBus_getF _ _ _ _).trans (s.claimOwned_held w n),
    (State.leasedBus_getF _ _ _ _).trans (s.claimOwned_owner hid n), fun g hg => ?_,
    State.leasedBus_frame (s.claimOwned_frame w n) n _⟩
  · rw [exec_claimAcquire hn, hr, List.foldl_cons, State.claimTurn_free (hacc w hw) hfree,
      State.foldl_claimTurn_held hheld ((State.leaseStart_getF _ _ _).trans (s.claimOwned_owner hid n)) hother, hlen,
      State.leasedBus, List.nil_append, List.singleton_append]
  · rw [State.leasedBus_getF]
    exact s.claimOwned_onlyFields w n g hg

end

/-! ### Words at MBX_CLAIMn and MBX_CLAIM_LEASEn (R184, R185) -/

section
variable {s : State} {m : Master} {n : Nat}

theorem State.withLeases_getF (s : State) (l : List Lease) (f : Fld) :
    ({ s with leases := l } : State).getF f = s.getF f := rfl

/-- The registers of a claim that is free. -/
def State.claimEmptied (s : State) (n : Nat) : State :=
  ((s.setF (F.MBX_CLAIM_INFOn_OWNER n) 0).setF (F.MBX_CLAIM_INFOn_HELD n) 0).setF (F.MBX_CLAIM_INFOn_TROUBLE n) 0

theorem State.claimFree_eq (s : State) (n : Nat) :
    s.claimFree n = { s.claimEmptied n with leases := s.leases.set n {} } := by
  rw [State.claimFree, State.claimEmptied]

theorem State.claimEmptied_frame (s : State) (n : Nat) : s.claimEmptied n = { s with regs := (s.claimEmptied n).regs } :=
  State.setF_frame (State.setF_frame (State.setF_frame (t := s) rfl _ _) _ _) _ _

theorem State.claimFree_frame (s : State) (n : Nat) :
    s.claimFree n = { s with regs := (s.claimFree n).regs, leases := s.leases.set n {} } := by
  rw [State.claimFree_eq, State.claimEmptied_frame]

theorem State.claimFree_getF (s : State) (n : Nat) (f : Fld) : (s.claimFree n).getF f = (s.claimEmptied n).getF f := by
  rw [State.claimFree_eq, State.withLeases_getF]

theorem State.claimFree_onlyFields (s : State) (n : Nat) : OnlyFields s (s.claimFree n)
    [F.MBX_CLAIM_INFOn_OWNER n, F.MBX_CLAIM_INFOn_HELD n, F.MBX_CLAIM_INFOn_TROUBLE n] := by
  intro g hg
  rw [State.claimFree_getF]
  exact ((OnlyFields.setF s (F.MBX_CLAIM_INFOn_OWNER n) 0 (by simp)).snoc (F.MBX_CLAIM_INFOn_HELD n) 0 (by simp)).snoc
    (F.MBX_CLAIM_INFOn_TROUBLE n) 0 (by simp) g hg

theorem State.claimFree_held (s : State) (n : Nat) : (s.claimFree n).getF (F.MBX_CLAIM_INFOn_HELD n) = 0 := by
  rw [State.claimFree_getF, State.claimEmptied,
    State.getF_setF_bits _ (F.MBX_CLAIM_INFOn_TROUBLE n) (F.MBX_CLAIM_INFOn_HELD n) _ (by simp) rfl (by simp),
    State.getF_setF_same _ _ _ (by simp)]
  rfl

/-- The owner's words 0 and 1 release the claim and renew its lease. -/
theorem State.claimWrite_of_owner {v : Nat} (h : s.flag (F.MBX_CLAIM_INFOn_HELD n) = true)
    (how : s.getF (F.MBX_CLAIM_INFOn_OWNER n) = m.id) (hv : v < 2) :
    s.claimWrite m n v = if v = 0 then s.claimFree n else s.leaseStart n := if_pos ⟨h, how, hv⟩

theorem State.claimWrite_of_bad {v : Nat} (h : s.getF (F.MBX_CLAIM_INFOn_OWNER n) ≠ m.id ∨ 2 ≤ v) :
    s.claimWrite m n v = s.setF (F.MBX_CLAIM_INFOn_BAD_WRITE n) 1 :=
  if_neg fun ⟨_, how, hv⟩ => h.elim (fun hne => hne how) (fun hle => by omega)

theorem State.leaseWrite_of_free {v : Nat} (h : s.flag (F.MBX_CLAIM_INFOn_HELD n) = false ∨
    s.getF (F.MBX_CLAIM_INFOn_OWNER n) = m.id) : s.leaseWrite m n v = s.setF (F.MBX_CLAIM_LEASEn_LEASE_US n) v :=
  if_pos (h.imp_left fun hfree => by rw [hfree]; rfl)

section
variable (hn : n < 32)
include hn

theorem exec_claimRelease (hacc : s.wrAcc m (R.MBX_CLAIMn n) = .ok) :
    exec (.claimRelease m n) s = .next (s.claimWrite m n 0) :=
  congrArg Host.Outcome.next ((if_pos hn).trans (State.guardW_ok_eq hacc _ _))

theorem exec_claimRenew (hacc : s.wrAcc m (R.MBX_CLAIMn n) = .ok) :
    exec (.claimRenew m n) s = .next (s.claimWrite m n 1) :=
  congrArg Host.Outcome.next ((if_pos hn).trans (State.guardW_ok_eq hacc _ _))

theorem exec_claimBadWrite (hacc : s.wrAcc m (R.MBX_CLAIMn n) = .ok) (v : Word) :
    exec (.claimBadWrite m n v) s = .next (s.claimWrite m n v.toNat) :=
  congrArg Host.Outcome.next ((if_pos hn).trans (State.guardW_ok_eq hacc _ _))

theorem exec_claimLeaseWrite (hacc : s.wrAcc m (R.MBX_CLAIM_LEASEn n) = .ok) (v : Word) :
    exec (.claimLeaseWrite m n v) s = .next (s.leaseWrite m n v.toNat) :=
  congrArg Host.Outcome.next ((if_pos hn).trans (State.guardW_ok_eq hacc _ _))

/-- A master alone reads a held claim as it is. -/
theorem exec_claimAcquire_of_held (hacc : s.rdAcc m (R.MBX_CLAIMn n) = .ok)
    (h : s.flag (F.MBX_CLAIM_INFOn_HELD n) = true) : exec (.claimAcquire [m] n) s =
      .next { s with bus := [BitVec.ofNat 64 (s.claimShown m n)] } := by
  rw [exec_claimAcquire hn]
  change Host.Outcome.next { (State.claimTurn n ([], s) m).2 with bus := (State.claimTurn n ([], s) m).1 } = _
  rw [State.claimTurn_held hacc h, List.nil_append]

end

/-! ### Leases that run out (R186, R187) -/

theorem State.claimIrq_onlyFields (s : State) (n : Nat) :
    OnlyFields s (s.claimIrq n) [⟨0x200, Irq.CLAIM, 1⟩, ⟨0x208, Irq.CLAIM, 1⟩] := by
  unfold State.claimIrq
  split_ifs
  · exact State.irq_onlyFields s (by decide)
  · exact (OnlyFields.setF s ⟨0x200, Irq.CLAIM, 1⟩ 1 (by decide)).mono (by simp)

/-- The secure group is told of every claim. -/
theorem State.claimIrq_secure (s : State) (n : Nat) : (s.claimIrq n).getF ⟨0x200, Irq.CLAIM, 1⟩ = 1 := by
  unfold State.claimIrq
  split_ifs
  · rw [State.irq, State.getF_setF_other _ _ _ _ (by decide), State.getF_setF_same _ _ _ (by decide)]
    rfl
  · exact State.getF_setF_same s ⟨0x200, Irq.CLAIM, 1⟩ 1 (by decide)

theorem State.claimIrq_leases (s : State) (n : Nat) : (s.claimIrq n).leases = s.leases := by
  unfold State.claimIrq
  split_ifs
  · exact State.irq_leases _ _
  · exact State.irqGrp_leases _ _ _

/-- A field of a claim is none of the interrupts. -/
theorem State.claimIrq_getF (s : State) (n : Nat) {f : Fld} (hf : 0x30000 ≤ f.addr) :
    (s.claimIrq n).getF f = s.getF f := by
  refine s.claimIrq_onlyFields n f fun g hg => .inl ?_
  simp only [List.mem_cons, List.not_mem_nil, or_false] at hg
  rcases hg with rfl | rfl <;> simp only <;> omega

/-- A claim kept past its lease. -/
def State.leaseExpired (s : State) (n : Nat) : State :=
  ({ s with leases := updAt n (fun l => { l with expired := true }) s.leases } : State).setF
    (F.MBX_CLAIM_INFOn_EXPIRED n) 1

/-- A claim released by Lodge. -/
def State.claimForced (s : State) (n : Nat) : State := (s.claimFree n).setF (F.MBX_CLAIM_INFOn_FORCED n) 1

section
variable (hn : n < 32) (h : s.flag (F.MBX_CLAIM_INFOn_HELD n) = true) (he : (s.leases.getD n {}).expired = false)

theorem exec_claimLeaseExpiry_of_running (hover : s.since (s.leases.getD n {}).start ((s.leases.getD n {}).us - 1) = false) :
    exec (.claimLeaseExpiry n) s = .next s :=
  congrArg Host.Outcome.next (if_pos (.inr (.inr (.inr (by rw [State.leaseOver, hover]; rfl)))))

include hn h he

theorem exec_claimLeaseExpiry_of_over (hover : s.since (s.leases.getD n {}).start ((s.leases.getD n {}).us - 1) = true) :
    exec (.claimLeaseExpiry n) s = .next (
      if s.flag (F.MBX_CLAIM_INFOn_TROUBLE n) then (s.claimForced n).claimIrq n else (s.leaseExpired n).claimIrq n) := by
  refine congrArg Host.Outcome.next (if_neg ?_)
  rw [h, he, State.leaseOver, hover]
  simp only [Bool.not_true, Bool.false_eq_true, or_false]
  omega

end

end

/-! ### What a lease that is over leaves (R186, R187) -/

section
variable (s : State) (n : Nat)

theorem State.leaseExpired_expired : (s.leaseExpired n).getF (F.MBX_CLAIM_INFOn_EXPIRED n) = 1 := by
  rw [State.leaseExpired, State.getF_setF_same _ _ _ (by simp)]
  rfl

theorem State.leaseExpired_onlyFields : OnlyFields s (s.leaseExpired n) [F.MBX_CLAIM_INFOn_EXPIRED n] := by
  intro g hg
  rw [State.leaseExpired, OnlyFields.setF _ (F.MBX_CLAIM_INFOn_EXPIRED n) 1 (by simp) g hg, State.withLeases_getF]

theorem State.leaseExpired_flag_held :
    (s.leaseExpired n).flag (F.MBX_CLAIM_INFOn_HELD n) = s.flag (F.MBX_CLAIM_INFOn_HELD n) := by
  rw [State.flag, State.flag, (s.leaseExpired_onlyFields n).getF (by simp [Fld.apartFrom])]

theorem State.claimForced_held : (s.claimForced n).getF (F.MBX_CLAIM_INFOn_HELD n) = 0 := by
  rw [State.claimForced, State.getF_setF_bits _ (F.MBX_CLAIM_INFOn_FORCED n) (F.MBX_CLAIM_INFOn_HELD n) _ (by simp) rfl
    (by simp), State.claimFree_held]

theorem State.claimForced_forced : (s.claimForced n).getF (F.MBX_CLAIM_INFOn_FORCED n) = 1 := by
  rw [State.claimForced, State.getF_setF_same _ _ _ (by simp)]
  rfl

theorem State.claimForced_leases : (s.claimForced n).leases = s.leases.set n {} := by
  rw [State.claimForced, State.setF_leases, State.claimFree_frame]

end

/-! ### Owners in trouble (R186) -/

/-- Nothing changes but the registers and the leases. -/
def State.OnlyClaims (s t : State) : Prop := t = { s with regs := t.regs, leases := t.leases }

section
variable {s t : State} {i n : Nat}

theorem State.OnlyClaims.trans {u : State} (h1 : s.OnlyClaims t) (h2 : t.OnlyClaims u) : s.OnlyClaims u := by
  unfold State.OnlyClaims at *
  rw [h2, h1]

theorem State.OnlyClaims.setF (h : s.OnlyClaims t) (f : Fld) (v : Nat) : s.OnlyClaims (t.setF f v) := by
  unfold State.OnlyClaims at *
  rw [h]
  rfl

theorem State.claimForced_onlyClaims (s : State) (n : Nat) : s.OnlyClaims (s.claimForced n) := by
  refine State.OnlyClaims.setF ?_ _ _
  unfold State.OnlyClaims
  rw [State.claimFree_frame]

theorem State.leaseExpired_onlyClaims (s : State) (n : Nat) : s.OnlyClaims (s.leaseExpired n) :=
  State.OnlyClaims.setF (t := { s with leases := updAt n (fun l => { l with expired := true }) s.leases }) rfl _ _

theorem State.OnlyClaims.claimIrq (h : s.OnlyClaims t) (n : Nat) : s.OnlyClaims (t.claimIrq n) := by
  unfold State.claimIrq
  split_ifs
  · exact (h.setF ⟨0x200, Irq.CLAIM, 1⟩ 1).setF ⟨0x208, Irq.CLAIM, 1⟩ 1
  · exact h.setF ⟨0x200, Irq.CLAIM, 1⟩ 1

/-- One claim through an operation on another: its registers and its lease. -/
def SameClaim (n : Nat) (s t : State) : Prop :=
  SameOn (· = R.MBX_CLAIM_INFOn n) s t ∧ t.leases.getD n {} = s.leases.getD n {}

theorem SameClaim.trans {u : State} (h1 : SameClaim n s t) (h2 : SameClaim n t u) : SameClaim n s u :=
  ⟨h1.1.trans h2.1, h2.2.trans h1.2⟩

theorem SameClaim.setF (s : State) {f : Fld} (h : R.MBX_CLAIM_INFOn n ≠ f.addr) (v : Nat) : SameClaim n s (s.setF f v) :=
  ⟨SameOn.setF h.symm v, rfl⟩

theorem State.claimIrq_sameClaim (s : State) (i n : Nat) : SameClaim n s (s.claimIrq i) := by
  have hirq (t : State) {a : Nat} (ha : a < 0x31100) : SameClaim n t (t.setF ⟨a, Irq.CLAIM, 1⟩ 1) :=
    SameClaim.setF t (by simp only [R.MBX_CLAIM_INFOn]; omega) 1
  unfold State.claimIrq
  split_ifs
  · exact (hirq s (a := 0x200) (by decide)).trans (hirq _ (by decide))
  · exact hirq s (by decide)

theorem claimInfo_ne (h : i ≠ n) : R.MBX_CLAIM_INFOn n ≠ R.MBX_CLAIM_INFOn i := by
  simp only [R.MBX_CLAIM_INFOn]
  omega

theorem State.claimEmptied_sameClaim (s : State) (h : i ≠ n) : SameClaim n s (s.claimEmptied i) :=
  ((SameClaim.setF s (claimInfo_ne h) 0).trans (SameClaim.setF _ (claimInfo_ne h) 0)).trans
    (SameClaim.setF _ (claimInfo_ne h) 0)

theorem State.withLeases_rd (s : State) (l : List Lease) (a : Nat) : ({ s with leases := l } : State).rd a = s.rd a := rfl

theorem State.claimFree_sameClaim (s : State) (h : i ≠ n) : SameClaim n s (s.claimFree i) := by
  refine ⟨fun a ha => ?_, ?_⟩
  · rw [State.claimFree_eq, State.withLeases_rd]
    exact (s.claimEmptied_sameClaim h).1 a ha
  · rw [State.claimFree_frame, List.getD_eq_getElem?_getD, List.getElem?_set_ne h, ← List.getD_eq_getElem?_getD]

/-- A claim whose owner falls in trouble is released where its lease is over, and else shows it. -/
theorem State.claimTroubleAt_cases (s : State) (id i : Nat) : s.claimTroubleAt id i = s ∨
    s.claimTroubleAt id i = (s.claimForced i).claimIrq i ∨
    s.claimTroubleAt id i = s.setF (F.MBX_CLAIM_INFOn_TROUBLE i) 1 := by
  unfold State.claimTroubleAt State.claimForce
  split_ifs
  · exact .inr (.inl rfl)
  · exact .inr (.inr rfl)
  · exact .inl rfl

theorem State.claimTroubleAt_sameClaim (s : State) (h : i ≠ n) (id : Nat) : SameClaim n s (s.claimTroubleAt id i) := by
  rcases s.claimTroubleAt_cases id i with he | he | he <;> rw [he]
  · exact ⟨SameOn.refl s, rfl⟩
  · exact ((s.claimFree_sameClaim h).trans (SameClaim.setF _ (claimInfo_ne h) 1)).trans (State.claimIrq_sameClaim _ i n)
  · exact SameClaim.setF s (claimInfo_ne h) 1

theorem State.claimTroubleAt_onlyClaims (s : State) (id i : Nat) : s.OnlyClaims (s.claimTroubleAt id i) := by
  rcases s.claimTroubleAt_cases id i with he | he | he <;> rw [he]
  · rfl
  · exact (s.claimForced_onlyClaims i).claimIrq i
  · exact State.OnlyClaims.setF (t := s) rfl _ _

theorem State.foldl_claimTroubleAt_onlyClaims (id : Nat) (ns : List Nat) (s : State) :
    s.OnlyClaims (ns.foldl (fun t i => t.claimTroubleAt id i) s) := by
  induction ns generalizing s with
  | nil => rfl
  | cons i ns ih => exact (s.claimTroubleAt_onlyClaims id i).trans (ih _)

theorem State.foldl_claimTroubleAt_sameClaim (id : Nat) {ns : List Nat} (h : n ∉ ns) (s : State) :
    SameClaim n s (ns.foldl (fun t i => t.claimTroubleAt id i) s) := by
  induction ns generalizing s with
  | nil => exact ⟨SameOn.refl s, rfl⟩
  | cons i ns ih =>
    obtain ⟨hi, hns⟩ := List.ne_and_not_mem_of_not_mem_cons h
    exact (s.claimTroubleAt_sameClaim (Ne.symm hi) id).trans (ih hns _)

theorem SameClaim.getF (h : SameClaim n s t) {f : Fld} (hf : f.addr = R.MBX_CLAIM_INFOn n) : t.getF f = s.getF f :=
  h.1.getF hf

/-- Of the claims of a master in trouble, one whose lease runs is shown so and stays held. -/
theorem State.claimTrouble_running {m : Master} (hn : n < 32) (h : s.flag (F.MBX_CLAIM_INFOn_HELD n) = true)
    (how : s.getF (F.MBX_CLAIM_INFOn_OWNER n) = m.id) (he : (s.leases.getD n {}).expired = false) :
    (s.claimTrouble m).getF (F.MBX_CLAIM_INFOn_TROUBLE n) = 1 ∧
      (s.claimTrouble m).flag (F.MBX_CLAIM_INFOn_HELD n) = true := by
  obtain ⟨before, after, hsplit⟩ := List.append_of_mem (List.mem_range.2 hn)
  have hnodup : (before ++ n :: after).Nodup := hsplit ▸ List.nodup_range
  obtain ⟨-, hcons, hdisj⟩ := List.nodup_append.1 hnodup
  have hbefore := State.foldl_claimTroubleAt_sameClaim m.id (fun hm => hdisj n hm n (by simp) rfl : n ∉ before) s
  rw [State.claimTrouble, hsplit, List.foldl_append, List.foldl_cons]
  generalize before.foldl (fun t i => t.claimTroubleAt m.id i) s = t at hbefore ⊢
  have hat : t.claimTroubleAt m.id n = t.setF (F.MBX_CLAIM_INFOn_TROUBLE n) 1 := by
    rw [State.claimTroubleAt, State.flag, hbefore.getF rfl, hbefore.getF rfl, hbefore.2, he, if_pos ⟨h, how⟩,
      if_neg Bool.false_ne_true]
  have hafter := State.foldl_claimTroubleAt_sameClaim m.id (List.nodup_cons.1 hcons).1 (t.claimTroubleAt m.id n)
  rw [State.flag, hafter.getF rfl, hafter.getF rfl, hat, State.getF_setF_same _ _ _ (by simp),
    State.getF_setF_bits _ (F.MBX_CLAIM_INFOn_TROUBLE n) (F.MBX_CLAIM_INFOn_HELD n) _ (by simp) rfl (by simp),
    hbefore.getF rfl]
  exact ⟨rfl, h⟩

end

/-- Settles O26: a held claim by what is read of it and written to it, its lease by the time that is over, its owner's
trouble by the claims in turn. -/
theorem heldClaimsAndLeases : Obligations.HeldClaimsAndLeases := by
  unfold Obligations.HeldClaimsAndLeases
  refine ⟨fun m n v s hn h => ⟨fun hacc => exec_claimAcquire_of_held hn hacc h, fun hacc how => ⟨?_, ?_⟩,
      fun hacc hbad => exec_setsField ?_ (by simp) (by simp)⟩,
    fun m n v s hn => ⟨fun hacc hmay => ?_, fun _ _ => exec_claimLeaseExpiry_of_running,
      fun h he hover => ⟨fun htr => ?_, fun htr => ?_⟩, fun h how he => ?_⟩⟩
  · exact ⟨_, (exec_claimRelease hn hacc).trans (congrArg _ (State.claimWrite_of_owner h how (by decide))),
      s.claimFree_held n, s.claimFree_onlyFields n, s.claimFree_frame n⟩
  · exact (exec_claimRenew hn hacc).trans (congrArg _ (State.claimWrite_of_owner h how (by decide)))
  · rw [exec_claimBadWrite hn hacc, State.claimWrite_of_bad hbad]
  · exact ⟨_, (exec_claimLeaseWrite hn hacc v).trans (congrArg _ (State.leaseWrite_of_free hmay)),
      OnlyFields.setF s (F.MBX_CLAIM_LEASEn_LEASE_US n) _ (by simp), State.getF_setF_same _ _ _ (by simp),
      State.setF_frame (t := s) rfl _ _⟩
  · refine ⟨(s.leaseExpired n).claimIrq n, ?_, ?_, ?_, State.claimIrq_secure _ n, ?_, ?_⟩
    · rw [exec_claimLeaseExpiry_of_over hn h he hover, htr, if_neg Bool.false_ne_true]
    · rw [State.claimIrq_getF _ n (by simp only; omega), State.leaseExpired_expired]
    · rw [State.flag, State.claimIrq_getF _ n (by simp only; omega)]
      exact (s.leaseExpired_flag_held n).trans h
    · exact (s.leaseExpired_onlyFields n).trans (State.claimIrq_onlyFields _ n)
    · exact (s.leaseExpired_onlyClaims n).claimIrq n
  · refine ⟨(s.claimForced n).claimIrq n, ?_, ?_, ?_, State.claimIrq_secure _ n, ?_⟩
    · rw [exec_claimLeaseExpiry_of_over hn h he hover, if_pos htr]
    · rw [State.flag, State.claimIrq_getF _ n (by simp only; omega), State.claimForced_held]
      rfl
    · rw [State.claimIrq_getF _ n (by simp only; omega), State.claimForced_forced]
    · rw [← s.claimForced_leases n, ← State.claimIrq_leases (s.claimForced n) n]
      exact (s.claimForced_onlyClaims n).claimIrq n
  · obtain ⟨htrouble, hheld⟩ := State.claimTrouble_running hn h how he
    exact ⟨_, rfl, htrouble, hheld, State.foldl_claimTroubleAt_onlyClaims m.id _ s⟩

end Sys2Proof.Machine
end

section
/-! SUPPORT. O22: The Ethernet host channel. -/
namespace Sys2Proof.Machine

/-! ### A frame of the channel at its port (R171, R186) -/

/-- A frame of the channel counted and heard: the port is that of the channel's last request. -/
def State.ethHeard (s : State) (port : Nat) : State :=
  ((s.incF (F.ETH_Pn_RX_OK port)).ethWake).updEth (fun e => { e with lastPort := port })

theorem State.ethWake_eth (s : State) : s.ethWake.eth = s.eth := by
  unfold State.ethWake
  split_ifs <;> rfl

theorem State.ethWake_hspi (s : State) : s.ethWake.hspi = s.hspi := by
  unfold State.ethWake
  split_ifs <;> rfl

theorem State.ethHeard_eth (s : State) (port : Nat) : (s.ethHeard port).eth = { s.eth with lastPort := port } := by
  rw [State.ethHeard, State.updEth_eth, State.ethWake_eth, State.incF_eth]

theorem State.ethHeard_hspi (s : State) (port : Nat) : (s.ethHeard port).hspi = s.hspi := by
  rw [State.ethHeard, State.updEth_hspi, State.ethWake_hspi, State.incF_hspi]

/-- The request is one answered before, its reply kept. -/
def Eth.answered (e : Eth) (src : BitVec 48) (seq : Nat) : Bool := e.kept.any (fun r => r.src = src ∧ r.seq = seq)

/-- The request is one that waits to be answered. -/
def Eth.waits (e : Eth) (src : BitVec 48) (seq : Nat) : Bool := e.opened.any (fun r => r.src = src ∧ r.seq = seq)

section
variable {s : State} {port : Nat} {src : BitVec 48} {seq cmd a n : Nat} {data : List DWord}

/-- A kept reply sent again, its source the newest. -/
def State.ethAgain (s : State) (port : Nat) (src : BitVec 48) : State :=
  (s.updEth (fun x => { x with kept := x.kept.filter (·.src = src) ++ x.kept.filter (·.src ≠ src) })).incF
    (F.ETH_Pn_TX port)

/-- A request repeated while it waits, to be answered on this port as well. -/
def State.ethRepeated (s : State) (port : Nat) (src : BitVec 48) (seq : Nat) : State :=
  s.updEth (fun e => { e with opened := e.opened.map (fun r =>
    if r.src = src ∧ r.seq = seq then { r with again := r.again ++ [port] } else r) })

/-- A request is one answered before, one that waits, or a new one. -/
theorem State.ethReq_eq (s : State) : s.ethReq port src seq cmd a n data =
    let t := s.updEth (fun e => { e with lastPort := port })
    if t.eth.answered src seq then t.ethAgain port src
    else if t.eth.waits src seq then t.ethRepeated port src seq
    else t.ethNew ⟨src, seq, port, cmd, a, n, 0, []⟩ data := rfl

theorem State.ethIn_eq (hup : s.ethUp port = true) (hch : s.flag (F.ETH_Pn_CTRL_HOST_CH port) = true)
    (htest : s.testing port = false) (hwatch : s.ethWatch = false) : s.ethIn port src seq cmd a n data =
      if s.eth.answered src seq then (s.ethHeard port).ethAgain port src
      else if s.eth.waits src seq then (s.ethHeard port).ethRepeated port src seq
      else (s.ethHeard port).ethNew ⟨src, seq, port, cmd, a, n, 0, []⟩ data := by
  have heard : s.ethIn port src seq cmd a n data =
      ((s.incF (F.ETH_Pn_RX_OK port)).ethWake).ethReq port src seq cmd a n data := by
    simp only [State.ethIn, hup, hch, htest, hwatch, Bool.not_true, Bool.not_false, Bool.and_self, Bool.false_eq_true,
      if_false]
  have hkept : (s.ethHeard port).eth.answered src seq = s.eth.answered src seq := by
    rw [State.ethHeard_eth]
    rfl
  have hopened : (s.ethHeard port).eth.waits src seq = s.eth.waits src seq := by
    rw [State.ethHeard_eth]
    rfl
  rw [heard, State.ethReq_eq, ← State.ethHeard]
  simp only [hkept, hopened]

theorem State.ethIn_of_answered (hup : s.ethUp port = true) (hch : s.flag (F.ETH_Pn_CTRL_HOST_CH port) = true)
    (htest : s.testing port = false) (hwatch : s.ethWatch = false) (hkept : s.eth.answered src seq = true) :
    s.ethIn port src seq cmd a n data = (s.ethHeard port).ethAgain port src :=
  (State.ethIn_eq hup hch htest hwatch).trans (if_pos hkept)

theorem State.ethIn_of_waits (hup : s.ethUp port = true) (hch : s.flag (F.ETH_Pn_CTRL_HOST_CH port) = true)
    (htest : s.testing port = false) (hwatch : s.ethWatch = false) (hkept : s.eth.answered src seq = false)
    (hwait : s.eth.waits src seq = true) :
    s.ethIn port src seq cmd a n data = (s.ethHeard port).ethRepeated port src seq :=
  (State.ethIn_eq hup hch htest hwatch).trans ((if_neg (Bool.eq_false_iff.1 hkept)).trans (if_pos hwait))

theorem State.ethIn_of_new (hup : s.ethUp port = true) (hch : s.flag (F.ETH_Pn_CTRL_HOST_CH port) = true)
    (htest : s.testing port = false) (hwatch : s.ethWatch = false) (hkept : s.eth.answered src seq = false)
    (hwait : s.eth.waits src seq = false) :
    s.ethIn port src seq cmd a n data = (s.ethHeard port).ethNew ⟨src, seq, port, cmd, a, n, 0, []⟩ data :=
  (State.ethIn_eq hup hch htest hwatch).trans
    ((if_neg (Bool.eq_false_iff.1 hkept)).trans (if_neg (Bool.eq_false_iff.1 hwait)))

/-! ### A new request (R168, R172) -/

theorem State.ethNew_of_status (s : State) {x : EthOpen} (hx : x.cmd = 5) :
    s.ethNew x data = (s.ethAnswer x 0 [(s.hspiWord false).setWidth 64]).incF (F.ETH_Pn_HOST_REQ x.port) := if_pos hx

theorem State.ethNew_of_badCount (s : State) {x : EthOpen} (hx : x.cmd = 2 ∨ x.cmd = 3)
    (hcount : ethCount x.addr x.count = false) : s.ethNew x data = s.ethAnswer x 4 [] :=
  (if_neg (by omega)).trans ((if_neg (by omega)).trans (if_pos (by rw [hcount]; rfl)))

/-- Entries of the write queue a WRITE takes. -/
def EthOpen.need (x : EthOpen) : Nat := x.count * (if (portOf x.addr).isSome then 2 else 1)

/-- A WRITE goes whole into the write queue, or is refused whole. -/
theorem State.ethNew_of_write (s : State) {x : EthOpen} (hx : x.cmd = 2) (hcount : ethCount x.addr x.count = true) :
    s.ethNew x data = if 32 < s.hspi.used + x.need then (s.ethAnswer x 3 []).incF (F.ETH_Pn_HOST_BUSY x.port)
      else ((s.ethOpen x).updHspi (fun h => { h with queue := h.queue ++ ethPosts x data })).spiPoke :=
  (if_neg (by omega)).trans ((if_neg (by omega)).trans ((if_neg (by simp [hcount])).trans (if_pos hx)))

/-- A READ waits behind the writes posted before it. -/
theorem State.ethNew_of_read (s : State) {x : EthOpen} (hx : x.cmd = 3) (hcount : ethCount x.addr x.count = true) :
    s.ethNew x data =
      let y := { x with ahead := s.hspi.queue.length }
      if y.ahead = 0 then (s.ethOpen y).ethSample y else s.ethOpen y :=
  (if_neg (by omega)).trans ((if_neg (by omega)).trans ((if_neg (by simp [hcount])).trans (if_neg (by omega))))

theorem State.ethSample_of_there {s : State} {x : EthOpen} (h : ∀ d, s.rdAcc .eth (accAddr x.addr) ≠ .held d) :
    s.ethSample x = ((s.readBurst .eth x.addr x.count).2.ethAnswer x 0
      (s.readBurst .eth x.addr x.count).1).incF (F.ETH_Pn_HOST_REQ x.port) := by
  unfold State.ethSample
  split
  next d hd => exact absurd hd (h d)
  next => rfl

/-- What becomes of an access stands outside the channel's own state. -/
theorem State.ethOpen_rdAcc (s : State) (x : EthOpen) (m : Master) (a : Nat) : (s.ethOpen x).rdAcc m a = s.rdAcc m a := rfl

/-- A READ with no write before it whose target is there is answered at once with its words. -/
theorem State.ethNew_of_read_now {s : State} {x : EthOpen} (hx : x.cmd = 3) (hcount : ethCount x.addr x.count = true)
    (hnone : s.hspi.queue = []) (hthere : ∀ d, s.rdAcc .eth (accAddr x.addr) ≠ .held d) :
    s.ethNew x data =
      let y := { x with ahead := 0 }
      let r := (s.ethOpen y).readBurst .eth x.addr x.count
      (r.2.ethAnswer y 0 r.1).incF (F.ETH_Pn_HOST_REQ x.port) := by
  rw [State.ethNew_of_read s hx hcount, hnone]
  exact State.ethSample_of_there hthere

theorem State.ethNew_of_read_behind {s : State} {x : EthOpen} (hx : x.cmd = 3) (hcount : ethCount x.addr x.count = true)
    (hsome : s.hspi.queue ≠ []) : s.ethNew x data = s.ethOpen { x with ahead := s.hspi.queue.length } :=
  (State.ethNew_of_read s hx hcount).trans (if_neg (mt List.eq_nil_of_length_eq_zero hsome))

/-! ### Replies -/

theorem State.ethAnswer_eq (s : State) {x : EthOpen} (h : x.again = []) (res : Nat) (d : List DWord) :
    s.ethAnswer x res d = (s.updEth (fun e => { e with
      opened := e.opened.filter (fun o => !(o.src = x.src && o.seq = x.seq))
      kept := (⟨x.src, x.seq, x.port, x.cmd, x.addr, x.count, res, d⟩ :: e.kept.filter (·.src ≠ x.src)).take 4 })).incF
        (F.ETH_Pn_TX x.port) := by
  rw [State.ethAnswer, h]
  rfl

/-! ### The commands -/

/-- The words of a WRITE's frame: pairs of them, low first, for a data port. -/
def ethWords (a n : Nat) (data : List Word) : List DWord :=
  if (portOf a).isSome then
    (List.range n).map (fun k => BitVec.ofNat 64 ((data.getD (2 * k) 0).toNat + 2 ^ 32 * (data.getD (2 * k + 1) 0).toNat))
  else (List.range n).map (fun k => (data.getD k 0).setWidth 64)

theorem exec_ethHostStatus (s : State) :
    exec (.ethHostStatus port src seq) s = .next (s.ethIn port src seq 5 0 1 []) := rfl

theorem exec_ethHostRead (ha : a < 2 ^ 32) (s : State) :
    exec (.ethHostRead port src seq a n) s = .next (s.ethIn port src seq 3 a n []) := atAddr_of_lt ha _

theorem exec_ethHostWrite (ha : a < 2 ^ 32) (words : List Word) (s : State) :
    exec (.ethHostWrite port src seq a n words) s = .next (s.ethIn port src seq 2 a n (ethWords a n words)) :=
  atAddr_of_lt ha _

/-- Settles O22: a request by whether its reply is kept or due, a new one by its CMD and the write queue. -/
theorem ethernetHostChannel : Obligations.EthernetHostChannel := by
  unfold Obligations.EthernetHostChannel
  intro port src seq a n data s ha hup hch htest hwatch e dw need
  rw [exec_ethHostStatus, exec_ethHostRead ha, exec_ethHostWrite ha]
  refine ⟨fun hkept => ?_, fun hkept => ⟨fun hwait => ?_, fun hwait => ?_⟩, fun x res d hagain => ?_⟩
  · exact ⟨congrArg _ (State.ethIn_of_answered hup hch htest hwatch hkept),
      congrArg _ (State.ethIn_of_answered hup hch htest hwatch hkept),
      congrArg _ (State.ethIn_of_answered hup hch htest hwatch hkept)⟩
  · exact congrArg _ (State.ethIn_of_waits hup hch htest hwatch hkept hwait)
  · have hqueue : e.hspi = s.hspi := s.ethHeard_hspi port
    simp only [State.ethIn_of_new hup hch htest hwatch hkept hwait]
    refine ⟨congrArg _ (State.ethNew_of_status _ rfl), fun hcount => ⟨?_, ?_⟩,
      fun hcount => ⟨fun hnone hthere => ?_, fun hsome => ?_, fun hfull => ?_, fun hroom => ?_⟩⟩
    · exact congrArg _ (State.ethNew_of_badCount _ (.inr rfl) hcount)
    · exact congrArg _ (State.ethNew_of_badCount _ (.inl rfl) hcount)
    · exact congrArg _ (State.ethNew_of_read_now rfl hcount (hqueue ▸ hnone) hthere)
    · exact congrArg _ (hqueue ▸ State.ethNew_of_read_behind rfl hcount (hqueue ▸ hsome))
    · exact congrArg _ ((State.ethNew_of_write e rfl hcount).trans (if_pos (hqueue ▸ hfull)))
    · exact congrArg _ ((State.ethNew_of_write e rfl hcount).trans (if_neg (hqueue ▸ Nat.not_lt.2 hroom)))
  · rw [State.ethAnswer_eq s hagain]
    refine ⟨rfl, ?_, ?_⟩
    · rw [State.incF_eth, State.updEth_eth]
      exact List.length_take_le _ _
    · exact (OnlyFields.of_regs (State.updEth_regs s _) []).trans (State.incF_onlyFields _ 1 (by simp))

end

end Sys2Proof.Machine
end

section
/-! SUPPORT. O20: A posted write of SDL_CTRL acts on a pad besides its own bits (R168, R240). -/
namespace Sys2Proof.Machine

theorem State.spiPoke_of_empty {s : State} (h : s.hspi.queue = []) : s.spiPoke = s := by
  unfold State.spiPoke
  rw [h]

/-- With no request to answer and no read that waits, a completed write moves only the places of the reads. -/
theorem State.writeDone_of_alone {s : State} {p : PostedWrite} (hreq : p.req = none) (hopened : s.eth.opened = [])
    (hwait : s.hspi.waiting = none) :
    s.writeDone p = (s.updEth (fun e => { e with opened := [] })).updHspi (fun h => { h with ahead := h.ahead - 1 }) := by
  have hmap : s.updEth (fun e => { e with opened := e.opened.map (fun r => { r with ahead := r.ahead - 1 }) }) =
      s.updEth (fun e => { e with opened := [] }) := by
    simp only [State.updEth, hopened, List.map_nil]
  unfold State.writeDone
  simp only [hreq, hopened, List.filter_nil, List.foldl_nil, hmap, State.updEth_hspi, hwait]

/-- The last write of the queue, taken by its target. -/
theorem exec_hspiWriteComplete_of_alone {s : State} {p : PostedWrite} (hqueue : s.hspi.queue = [p])
    (hacc : s.wrAcc p.m (accAddr p.addr) = .ok) : exec .hspiWriteComplete s =
      .next ((((s.updHspi (fun h => { h with queue := [] })).hostWrite p.m p.addr p.v.toNat).writeDone p).spiPoke) := by
  rw [show exec .hspiWriteComplete s = execHspiWriteComplete s from rfl, execHspiWriteComplete, hqueue]
  simp only [hacc]

theorem State.plainWrite_frame (s : State) (m : Master) (a v hw : Nat) :
    s.plainWrite m a v hw = { s with regs := (s.plainWrite m a v hw).regs } := by
  unfold State.plainWrite
  split <;> rfl

theorem State.updHspi_plainWrite_getF (s : State) (f : Hspi → Hspi) (m : Master) (a v hw : Nat) (g : Fld) :
    ((s.updHspi f).plainWrite m a v hw).getF g = (s.plainWrite m a v hw).getF g := by
  unfold State.plainWrite
  split <;> rfl

theorem State.ppsGate_hspi (s : State) : s.ppsGate.hspi = s.hspi := by
  unfold State.ppsGate
  split <;> rfl

theorem State.ppsGate_eth (s : State) : s.ppsGate.eth = s.eth := by
  unfold State.ppsGate
  split <;> rfl

section
variable {s : State} {m : Master}

/-- A write of SDL_CTRL that its target takes: its bits, and the pad's gate. -/
theorem State.hostWrite_sdlCtrl (h : s.wrAcc m (accAddr R.SDL_CTRL) = .ok) (v : Nat) :
    s.hostWrite m R.SDL_CTRL v = (s.plainWrite m R.SDL_CTRL v 0).ppsGate := by
  rw [State.hostWrite, State.guardW_ok_eq h, accAddr_of_aligned (by decide) rfl, State.writeEff_sdlCtrl]

theorem State.hostWrite_sdlCtrl_hspi (h : s.wrAcc m (accAddr R.SDL_CTRL) = .ok) (v : Nat) :
    (s.hostWrite m R.SDL_CTRL v).hspi = s.hspi := by
  rw [State.hostWrite_sdlCtrl h, State.ppsGate_hspi, State.plainWrite_frame]

theorem State.hostWrite_sdlCtrl_eth (h : s.wrAcc m (accAddr R.SDL_CTRL) = .ok) (v : Nat) :
    (s.hostWrite m R.SDL_CTRL v).eth = s.eth := by
  rw [State.hostWrite_sdlCtrl h, State.ppsGate_eth, State.plainWrite_frame]

/-- A posted write of SDL_CTRL that clears PPS_OUT_EN brings PPS_OUT low. -/
theorem exec_hspiWriteComplete_ppsLow {v : DWord} {stream : Bool}
    (hqueue : s.hspi.queue = [⟨m, R.SDL_CTRL, v, stream, none⟩]) (hwait : s.hspi.waiting = none)
    (hopened : s.eth.opened = []) (hacc : s.wrAcc m (accAddr R.SDL_CTRL) = .ok)
    (hen : (s.plainWrite m R.SDL_CTRL v.toNat 0).flag F.SDL_CTRL_PPS_OUT_EN = false) :
    ∃ t, exec .hspiWriteComplete s = .next t ∧ t.pads.ppsOut = false := by
  have htaken : (s.updHspi (fun h => { h with queue := [] })).wrAcc m (accAddr R.SDL_CTRL) = .ok := hacc
  have hhspi := State.hostWrite_sdlCtrl_hspi htaken v.toNat
  have heth := State.hostWrite_sdlCtrl_eth htaken v.toNat
  refine ⟨_, exec_hspiWriteComplete_of_alone hqueue hacc, ?_⟩
  rw [State.writeDone_of_alone rfl (heth ▸ hopened) (hhspi ▸ hwait),
    State.spiPoke_of_empty (by rw [State.updHspi_hspi, State.updEth_hspi, hhspi]; rfl), State.updHspi_pads,
    State.updEth_pads, State.hostWrite_sdlCtrl htaken]
  exact State.ppsGate_low (by rw [State.flag, State.updHspi_plainWrite_getF]; exact hen)

end

/-- D2 ON with its clock, PPS_OUT enabled and high, and a write of 0 to SDL_CTRL alone in the queue. -/
def ppsPosted : State :=
  { ppsHigh.setF F.SDL_CTRL_PPS_OUT_EN 1 with hspi := { queue := [⟨.csS, R.SDL_CTRL, 0, false, none⟩] } }

theorem ppsPosted_wrAcc : ppsPosted.wrAcc .csS (accAddr R.SDL_CTRL) = .ok := by decide +kernel

theorem ppsPosted_disabled : (ppsPosted.plainWrite .csS R.SDL_CTRL 0 0).flag F.SDL_CTRL_PPS_OUT_EN = false := by
  decide +kernel

/-- Refutes O20: SDL_CTRL is not in `ownEffect`, yet a posted write of 0 to it clears PPS_OUT_EN and so brings the pad PPS_OUT
low (R240), a change beyond the register file and the port. -/
theorem not_hspiTransactions : ¬ Obligations.HspiTransactions := by
  unfold Obligations.HspiTransactions
  rintro ⟨-, -, hcomplete⟩
  obtain ⟨t, hexec, hlow⟩ :=
    exec_hspiWriteComplete_ppsLow (s := ppsPosted) rfl rfl rfl ppsPosted_wrAcc ppsPosted_disabled
  have hnext := (hcomplete ⟨.csS, R.SDL_CTRL, 0, false, none⟩ ppsPosted rfl rfl rfl rfl).1 ppsPosted_wrAcc (by decide)
  have hhigh : t.pads.ppsOut = true := by
    cases hexec.symm.trans hnext
    rw [State.plainWrite_frame]
    rfl
  rw [hlow] at hhigh
  cases hhigh

end Sys2Proof.Machine
end

section
/-! SUPPORT. Host tasks: a task found after an update of it, and its flags set and cleared. -/
namespace Sys2Proof.Machine

/-- The task an update names, found where the update keeps its ID. -/
theorem State.updTask_find? (s : State) (task : Nat) {f : TaskSt → TaskSt} (hid : ∀ x, (f x).id = x.id) :
    (s.updTask task f).arb.tasks.find? (·.id = task) = (s.arb.tasks.find? (·.id = task)).map f := by
  have hkeeps : ((fun x : TaskSt => decide (x.id = task)) ∘ fun x => if x.id = task then f x else x) =
      fun x => decide (x.id = task) := by
    funext x
    simp only [Function.comp_apply]
    split_ifs with hx
    · rw [hid, hx]
    · rfl
  rw [State.updTask, List.find?_map, hkeeps]
  refine Option.map_congr fun x hx => if_pos ?_
  simpa using List.find?_some hx

/-! ### A flag cleared -/

/-- The task with a flag cleared. -/
def TaskSt.lower (x : TaskSt) (flag : Nat) : TaskSt :=
  { x with flags := if x.flags.testBit flag then x.flags - 2 ^ flag else x.flags }

theorem State.clearFlag_eq (s : State) (task flag : Nat) : s.clearFlag task flag = s.updTask task (·.lower flag) := rfl

theorem TaskSt.lower_testBit (x : TaskSt) (flag j : Nat) :
    (x.lower flag).flags.testBit j = (x.flags.testBit j && decide (j ≠ flag)) := by
  unfold TaskSt.lower
  split_ifs with hset
  · exact testBit_sub_two_pow hset j
  · rcases eq_or_ne j flag with rfl | hj
    · simp [hset]
    · simp [hj]

theorem State.clearFlag_find? {s : State} {task : Nat} {x : TaskSt} (h : s.arb.tasks.find? (·.id = task) = some x)
    (flag : Nat) : (s.clearFlag task flag).arb.tasks.find? (·.id = task) = some (x.lower flag) := by
  rw [State.clearFlag_eq, State.updTask_find? s task (f := (·.lower flag)) (fun _ => rfl), h, Option.map_some]

/-! ### A flag set -/

/-- The task with a flag set, before its gate is stamped. -/
def TaskSt.flagged (x : TaskSt) (flag : Nat) : TaskSt :=
  if x.flags.testBit flag then { x with merged := min (x.merged + 1) 255 } else { x with flags := x.flags ||| 2 ^ flag }

theorem TaskSt.raise_eq (x : TaskSt) (flag stamp : Nat) : x.raise flag stamp =
    { x.flagged flag with stamp := if (x.flagged flag).gate ∧ ¬ x.gate then stamp else (x.flagged flag).stamp } := by
  change (if (x.flagged flag).gate ∧ ¬ x.gate then { x.flagged flag with stamp := stamp } else x.flagged flag) = _
  split_ifs <;> rfl

theorem TaskSt.flagged_testBit (x : TaskSt) (flag j : Nat) :
    (x.flagged flag).flags.testBit j = (x.flags.testBit j || decide (flag = j)) := by
  unfold TaskSt.flagged
  split_ifs with hset
  · rcases eq_or_ne flag j with rfl | hj
    · simp [hset]
    · simp [hj]
  · exact (Nat.testBit_or _ _ _).trans (by rw [Nat.testBit_two_pow])

theorem TaskSt.flagged_merged (x : TaskSt) (flag : Nat) :
    (x.flagged flag).merged = if x.flags.testBit flag then min (x.merged + 1) 255 else x.merged := by
  unfold TaskSt.flagged
  split_ifs <;> rfl

theorem TaskSt.flagged_stamp (x : TaskSt) (flag : Nat) : (x.flagged flag).stamp = x.stamp := by
  unfold TaskSt.flagged
  split_ifs <;> rfl

theorem TaskSt.raise_flags (x : TaskSt) (flag stamp : Nat) : (x.raise flag stamp).flags = (x.flagged flag).flags := by
  rw [TaskSt.raise_eq]

theorem TaskSt.raise_merged (x : TaskSt) (flag stamp : Nat) : (x.raise flag stamp).merged = (x.flagged flag).merged := by
  rw [TaskSt.raise_eq]

/-- The stamp does not bear on the gate (R196). -/
theorem TaskSt.raise_gate (x : TaskSt) (flag stamp : Nat) : (x.raise flag stamp).gate = (x.flagged flag).gate := by
  rw [TaskSt.raise_eq]
  rfl

theorem TaskSt.raise_stamp (x : TaskSt) (flag stamp : Nat) : (x.raise flag stamp).stamp =
    if (x.raise flag stamp).gate = true ∧ x.gate = false then stamp else x.stamp := by
  rw [TaskSt.raise_gate, TaskSt.raise_eq, TaskSt.flagged_stamp]
  simp only [Bool.not_eq_true]

/-! ### ARB_EVT_SET and ARB_EVT_CLR -/

section
variable {s : State} {m : Master} {task flag : Nat}

theorem State.evtSet_of_may {secure : Bool} (hmay : s.mayEvent secure task = true) (hflag : flag < 32) :
    s.evtSet secure task flag = s.raiseFlag task flag := by
  rw [State.evtSet, if_pos hmay, Nat.mod_eq_of_lt hflag]

theorem State.evtSet_of_not {secure : Bool} (hmay : s.mayEvent secure task = false) :
    s.evtSet secure task flag = s.setF F.ARB_FAULT_EVT_DENIED 1 := by
  rw [State.evtSet, hmay, if_neg Bool.false_ne_true]

theorem State.evtClr_of_may {secure : Bool} (hmay : s.mayEvent secure task = true) (hflag : flag < 32) :
    s.evtClr secure task flag = s.clearFlag task flag := by
  rw [State.evtClr, if_pos hmay, Nat.mod_eq_of_lt hflag]

theorem State.evtClr_of_not {secure : Bool} (hmay : s.mayEvent secure task = false) :
    s.evtClr secure task flag = s.setF F.ARB_FAULT_EVT_DENIED 1 := by
  rw [State.evtClr, hmay, if_neg Bool.false_ne_true]

theorem exec_evtSet_of_ok (hacc : s.wrAcc m R.ARB_EVT_SET = .ok) (htask : task < 256) :
    exec (.evtSet m task flag) s = .next (s.evtSet m.secure task flag) := by
  change execEvtSet m task flag s = _
  rw [execEvtSet, State.guardW_ok_eq hacc, Nat.mod_eq_of_lt htask]

theorem exec_evtClr_of_ok (hacc : s.wrAcc m R.ARB_EVT_CLR = .ok) (htask : task < 256) (setToo : Bool) :
    exec (.evtClr m task flag setToo) s =
      .next (if setToo then s.evtSet m.secure task flag else s.evtClr m.secure task flag) := by
  change execEvtClr m task flag setToo s = _
  rw [execEvtClr, State.guardW_ok_eq hacc, Nat.mod_eq_of_lt htask]

/-- A clear that is permitted changes the named task's flag alone. -/
theorem exec_evtClr_lowers (hacc : s.wrAcc m R.ARB_EVT_CLR = .ok) (htask : task < 256) (hflag : flag < 32)
    (hmay : s.mayEvent m.secure task = true) : ∃ t, exec (.evtClr m task flag false) s = .next t ∧
      t = { s with arb := { s.arb with tasks := t.arb.tasks } } ∧
      ∀ x, s.arb.tasks.find? (·.id = task) = some x → ∃ y, t.arb.tasks.find? (·.id = task) = some y ∧
        y.flags.testBit flag = false ∧ (∀ j, j ≠ flag → y.flags.testBit j = x.flags.testBit j) ∧
        y = { x with flags := y.flags } := by
  refine ⟨s.clearFlag task flag, ?_, rfl, fun x hx => ⟨x.lower flag, State.clearFlag_find? hx flag, ?_, fun j hj => ?_, rfl⟩⟩
  · rw [exec_evtClr_of_ok hacc htask, if_neg Bool.false_ne_true, State.evtClr_of_may hmay hflag]
  · simp [TaskSt.lower_testBit]
  · simp [TaskSt.lower_testBit, hj]

end

/-- Settles O32: the register's gate, then the flag for a master that may act on the task; a set in the same cycle is the
set alone. -/
theorem eventFlags : Obligations.EventFlags := by
  unfold Obligations.EventFlags
  refine ⟨fun m task flag s htask hflag => ⟨fun hacc hmay => ?_, fun hacc hmay => ?_,
    fun hacc hmay => ⟨?_, exec_evtClr_lowers hacc htask hflag hmay⟩, fun hacc hmay => ?_⟩,
    fun x flag stamp => ⟨?_, fun j hj => ?_, ?_, x.raise_stamp flag stamp⟩⟩
  · rw [exec_evtSet_of_ok hacc htask, State.evtSet_of_may hmay hflag]
  · refine exec_setsField ?_ (by decide) (by decide)
    rw [exec_evtSet_of_ok hacc htask, State.evtSet_of_not hmay]
  · rw [exec_evtClr_of_ok hacc htask, if_pos rfl, State.evtSet_of_may hmay hflag]
  · refine exec_setsField ?_ (by decide) (by decide)
    rw [exec_evtClr_of_ok hacc htask, if_neg Bool.false_ne_true, State.evtClr_of_not hmay]
  · simp [TaskSt.raise_flags, TaskSt.flagged_testBit]
  · simp [TaskSt.raise_flags, TaskSt.flagged_testBit, hj.symm]
  · rw [TaskSt.raise_merged, TaskSt.flagged_merged]

end Sys2Proof.Machine
end

section
/-! SUPPORT. The packet at the head of a group's submit window: what becomes of it. -/
namespace Sys2Proof.Machine

/-- The state with a packet gone from a group's submit window, `ps` left behind it. -/
def State.headTaken (s : State) (g : Grp) (ps : List Pkt) : State :=
  s.setStrm (submitWin g) { s.strm (submitWin g) with pkts := ps }

theorem State.headTaken_arb (s : State) (g : Grp) (ps : List Pkt) : (s.headTaken g ps).arb = s.arb := by
  rw [State.headTaken, State.setStrm_frame]

/-- The first check of R209 that the packet fails. -/
def State.headRefusal (s : State) (g : Grp) (p : Pkt) (ps : List Pkt) : Option (Nat × Nat) :=
  (s.headTaken g ps).wiRefusal g (s.quota g ≤ s.inFlightOf g || 512 ≤ s.inFlight)
    (wiFormed p.data p.words.length ((p.words.getLast?.map (·.bytes)).getD 0)) p.data

/-- The record of a refusal of the packet (R212). -/
def State.headRecord (s : State) (p : Pkt) (st task : Nat) : Bytes :=
  recordOf (leAt p.data 0 2) task st (leAt p.data 4 4) [] 255 (s.now % 2 ^ 32)

/-- A refusal counted where it is BUSY (R209). -/
def State.busyCounted (s : State) (g : Grp) (st : Nat) : State :=
  if st = St.BUSY then s.incF (if g = .sec then F.ARB_BUSY_CNT_BUSY_S else F.ARB_BUSY_CNT_BUSY_NS) else s

/-- What becomes of the packet by the first check it fails. -/
def State.headSettled (s : State) (g : Grp) (p : Pkt) (ps : List Pkt) : Option (Nat × Nat) → State
  | none => (s.headTaken g ps).wiAccept g p.data
  | some (st, task) => ((s.headTaken g ps).busyCounted g st).pushRefusal g (s.headRecord p st task)

theorem State.wiSubmit_eq (s : State) (g : Grp) (p : Pkt) (ps : List Pkt) :
    s.wiSubmit g p ps = s.headSettled g p ps (s.headRefusal g p ps) := rfl

section
variable {g : Grp} {p : Pkt} {ps : List Pkt} {s : State}

theorem State.wiSubmit_of_accepted (h : s.headRefusal g p ps = none) :
    s.wiSubmit g p ps = (s.headTaken g ps).wiAccept g p.data := by
  rw [State.wiSubmit_eq, h]
  rfl

theorem State.wiSubmit_of_refused {st task : Nat} (h : s.headRefusal g p ps = some (st, task)) :
    s.wiSubmit g p ps = ((s.headTaken g ps).busyCounted g st).pushRefusal g (s.headRecord p st task) := by
  rw [State.wiSubmit_eq, h]
  rfl

/-- An item of a task whose domain runs is put in flight, and that is all (R210). -/
theorem State.wiAccept_of_runs {b : Bytes} {t : TaskSt} (hroute : s.route g (leAt b 0 2) (leAt b 2 1) = some t)
    (htyp : leAt b 0 2 ≠ W.CANCEL) (hdom : s.domOn t.dom = true) :
    s.wiAccept g b = s.addItem g (leAt b 0 2) t.id ((leAt b 3 1).testBit 0) (leAt b 4 4)
      ((List.range 5).map (fun k => leAt b (12 + 4 * k) 4)) (slice b 32 (leAt b 8 2)) := by
  rw [State.wiAccept]
  simp only [hroute, if_neg htyp, Option.map_some, Option.getD_some]
  exact if_pos hdom

theorem State.wiSubmit_of_runs {t : TaskSt} (href : s.headRefusal g p ps = none)
    (hroute : (s.headTaken g ps).route g (leAt p.data 0 2) (leAt p.data 2 1) = some t)
    (htyp : leAt p.data 0 2 ≠ W.CANCEL) (hdom : (s.headTaken g ps).domOn t.dom = true) :
    s.wiSubmit g p ps = (s.headTaken g ps).addItem g (leAt p.data 0 2) t.id ((leAt p.data 3 1).testBit 0)
      (leAt p.data 4 4) ((List.range 5).map (fun k => leAt p.data (12 + 4 * k) 4)) (slice p.data 32 (leAt p.data 8 2)) := by
  rw [State.wiSubmit_of_accepted href, State.wiAccept_of_runs hroute htyp hdom]

/-- An item put in flight is the last, queued with the stamp of its cycle (R199, R210). -/
theorem State.addItem_spec (s : State) (g : Grp) (typ task : Nat) (quiet : Bool) (tag : Nat) (args : List Nat)
    (payload : Bytes) : let u := s.addItem g typ task quiet tag args payload
    u.arb.nextWid = s.arb.nextWid + 1 ∧
      (∃ i : WItem, u.arb.items = s.arb.items ++ [i] ∧ i.wid = s.arb.nextWid ∧ i.phase = .queued ∧ i.finished = false ∧
        i.grp = g ∧ i.task = task ∧ i.typ = typ ∧ i.tag = tag ∧ i.stamp = s.arb.cycle) ∧
      u = { s with arb := u.arb } :=
  ⟨rfl, ⟨_, rfl, rfl, rfl, rfl, rfl, rfl, rfl, rfl, rfl⟩, rfl⟩

/-! ### The commands -/

section
variable (hg : g ≠ .int) (h2 : s.domOn 2 = true) (h3 : s.domOn 3 = true)
  (htake : takePkt (s.strm (submitWin g)).pkts = some (p, ps))
include hg h2 h3 htake

theorem State.wiHead_of_head {ok : Pkt → Bool} (hok : ok p = true) : s.wiHead g ok = s.wiSubmit g p ps := by
  rw [State.wiHead, if_neg (by simp [hg, h2]), htake]
  simp only [hok, h3, Bool.not_true, if_neg Bool.false_ne_true, if_pos]

theorem exec_workItemSubmit_of_head : exec (.workItemSubmit g) s = .next (s.wiSubmit g p ps) :=
  congrArg Host.Outcome.next (State.wiHead_of_head hg h2 h3 htake rfl)

/-- A CANCEL goes to the scheduler as every item does. -/
theorem exec_cancel_of_head (htyp : leAt p.data 0 2 = W.CANCEL) : exec (.cancel g) s = .next (s.wiSubmit g p ps) :=
  congrArg Host.Outcome.next (State.wiHead_of_head hg h2 h3 htake (decide_eq_true htyp))

end
end

/-- Settles O28: the packet by the first check it fails, a CANCEL by the way every packet goes. -/
theorem workItemSubmission : Obligations.WorkItemSubmission := by
  unfold Obligations.WorkItemSubmission
  intro g p ps s hg h2 h3 htake
  have hexec := exec_workItemSubmit_of_head hg h2 h3 htake
  have hcancel := exec_cancel_of_head hg h2 h3 htake
  refine ⟨fun t href hroute htyp hdom => ?_, fun st task href => ⟨fun hst => ?_, fun hst => ?_⟩,
    fun htyp => (hcancel htyp).trans hexec.symm, fun htyp href => ?_⟩
  · have hspec := (s.headTaken g ps).addItem_spec g (leAt p.data 0 2) t.id ((leAt p.data 3 1).testBit 0) (leAt p.data 4 4)
      ((List.range 5).map (fun k => leAt p.data (12 + 4 * k) 4)) (slice p.data 32 (leAt p.data 8 2))
    rw [State.headTaken_arb] at hspec
    exact ⟨_, hexec.trans (congrArg _ (State.wiSubmit_of_runs href hroute htyp hdom)), hspec⟩
  · rw [hexec, State.wiSubmit_of_refused href, State.busyCounted, if_neg hst]
    rfl
  · rw [hexec, State.wiSubmit_of_refused href, State.busyCounted, if_pos hst]
    rfl
  · rw [hcancel htyp, State.wiSubmit_of_accepted href]
    rfl

end Sys2Proof.Machine
end

section
/-! SUPPORT. The end of a handler: an item completed, a run freed, a record that waited. -/
namespace Sys2Proof.Machine

/-- The state with a finished item out of flight and its core idle; an item of the engines starts D13's idle time (R109). -/
def State.released (s : State) (i : WItem) (k : Nat) : State :=
  { s with
    power := if i.typ = W.ORG_KEY_UPDATE ∨ i.typ = W.ORG_DERIVE then { s.power with idle13 := s.now } else s.power
    arb := { s.arb with items := s.arb.items.filter (·.wid ≠ i.wid), cores := s.arb.cores.set k 0 } }

theorem State.item?_wid {s : State} {wid : Nat} {i : WItem} (h : s.item? wid = some i) : i.wid = wid := by
  simpa using List.find?_some h

section
variable {s : State} {wid k : Nat} {i : WItem} (hitem : s.item? wid = some i) (hphase : i.phase = .running k)
  (hgrp : i.grp ≠ .int) (hlink : s.linkItem wid = false)
include hitem hphase hgrp hlink

/-- An item on a core completes (R210, R212): without a record, with its record pushed, or in flight until it is. -/
theorem State.complete_of_running : s.complete wid =
    if i.quiet = true ∧ i.status = St.OK then s.released i k
    else if (s.released i k).canPush i.grp
        (recordOf i.typ i.task i.status i.tag i.result k (s.now % 2 ^ 32)).length then
      (s.released i k).pushPkt (doneWin i.grp) (recordOf i.typ i.task i.status i.tag i.result k (s.now % 2 ^ 32))
    else (s.released i k).updArb (fun a => { a with
      items := a.items ++ [{ i with phase := .done k, stamp := s.now, finished := true }] }) := by
  have hreleased : (if (i.typ = W.ORG_KEY_UPDATE || i.typ = W.ORG_DERIVE) = true then s.idleStart 13 else s).updArb
      (fun a => { a with items := a.items.filter (·.wid ≠ wid), cores := a.cores.set k 0 }) = s.released i k := by
    rw [State.released, State.item?_wid hitem]
    by_cases horg : i.typ = W.ORG_KEY_UPDATE ∨ i.typ = W.ORG_DERIVE
    · rw [if_pos horg, if_pos (by simpa using horg)]
      rfl
    · rw [if_neg horg, if_neg (by simpa using horg)]
      rfl
  rw [State.complete, hitem]
  simp only [hphase, hlink, if_neg Bool.false_ne_true, hreleased, hgrp, false_or]
  rfl

end

/-! ### The commands -/

section
variable {s : State}

theorem exec_workItemComplete_of_finished {wid k : Nat} {i : WItem} (hitem : s.item? wid = some i)
    (hphase : i.phase = .running k) (hgrp : i.grp ≠ .int) (hfin : i.finished = true) :
    exec (.workItemComplete (.item wid)) s = .next (s.complete wid) := by
  change execWorkItemComplete (.item wid) s = _
  simp only [execWorkItemComplete, hitem, hphase, Phase.isDone, hgrp, hfin]
  rw [if_neg (by simp), if_neg not_false, if_pos trivial]

/-- A run of an EVENT task that ends frees its core and leaves every item. -/
theorem exec_workItemComplete_of_run {task k : Nat} {x : TaskSt} (hx : s.arb.tasks.find? (·.id = task) = some x)
    (hrun : x.runs.contains k = true) : ∃ t, exec (.workItemComplete (.event task k)) s = .next t ∧
      t.arb.cores = s.arb.cores.set k 0 ∧ t.arb.items = s.arb.items ∧ t = { s with arb := t.arb } := by
  refine ⟨(s.updTask task (fun x => { x with runs := x.runs.erase k })).updArb
    (fun a => { a with cores := a.cores.set k 0 }), ?_, rfl, rfl, rfl⟩
  change execWorkItemComplete (.event task k) s = _
  simp only [execWorkItemComplete, hx, if_pos hrun]

section
variable {g : Grp} (hg : g ≠ .int) (h2 : s.domOn 2 = true)
include hg h2

/-- A refusal or an epoch record goes before every completion (R215). -/
theorem exec_wiDonePush_of_waits {b : Bytes} {bs : List Bytes} (hw : s.waits g = b :: bs)
    (hroom : s.hasRoom (doneWin g) (packLen b.length) = true) :
    exec (.wiDonePush g) s = .next ((s.setWaits g bs).pushPkt (doneWin g) b) := by
  change execWiDonePush g s = _
  rw [execWiDonePush, if_neg (by simp [hg, h2]), hw]
  exact congrArg Host.Outcome.next (if_pos hroom)

theorem exec_wiDonePush_of_done {i : WItem} {is : List WItem} (hw : s.waits g = []) (hd : s.doneWaiting g = i :: is)
    (hroom : s.hasRoom (doneWin g) (packLen i.record.length) = true) : exec (.wiDonePush g) s =
      .next ((s.updArb (fun a => { a with items := a.items.filter (·.wid ≠ i.wid) })).pushPkt (doneWin g) i.record) := by
  change execWiDonePush g s = _
  rw [execWiDonePush, if_neg (by simp [hg, h2]), hw, hd]
  exact congrArg Host.Outcome.next (if_pos hroom)

end
end

/-- Settles O30: a finished item by whether it leaves a record, a run by its task, and the record that waits by its
order. -/
theorem completionAndRecords : Obligations.CompletionAndRecords := by
  unfold Obligations.CompletionAndRecords
  intro s
  refine ⟨fun wid k i hitem hphase hfin hgrp hlink => ?_, fun task k x => exec_workItemComplete_of_run,
    fun g b bs hg h2 => exec_wiDonePush_of_waits hg h2, fun g i is hg h2 => exec_wiDonePush_of_done hg h2⟩
  obtain rfl := State.item?_wid hitem
  have hexec := exec_workItemComplete_of_finished hitem hphase hgrp hfin
  rw [State.complete_of_running hitem hphase hgrp hlink] at hexec
  refine ⟨fun hquiet hok => ?_, fun hrec hroom => ?_⟩
  · rw [hexec, if_pos ⟨hquiet, hok⟩]
    rfl
  · have hnot : ¬ (i.quiet = true ∧ i.status = St.OK) := fun ⟨hquiet, hok⟩ =>
      hrec.elim (fun h => Bool.false_ne_true (h.symm.trans hquiet)) (· hok)
    rw [hexec, if_neg hnot]
    exact congrArg Host.Outcome.next (if_pos hroom)

end Sys2Proof.Machine
end

section
/-! SUPPORT. A core's fault. -/
namespace Sys2Proof.Machine

/-- ARB_FAULT with the fault of core `k`, which for an `overrun` is OVERRUN too. -/
def State.faultShown (s : State) (k : Nat) (overrun : Bool) : State :=
  let s1 := (s.setBit F.ARB_FAULT_CORE_FAULT k).incF F.ARB_FAULT_FAULTS
  if overrun then s1.setBit F.ARB_FAULT_OVERRUN k else s1

/-- The record of a core fault (R529). -/
def State.faultRecorded (s : State) (k task typ : Nat) : State :=
  s.vbTrigger 0x09 ([byte k, byte task] ++ leBytes 2 typ)

/-- The item that ran on the faulted core completed CORE_FAULT (R204). -/
def State.itemFaulted (s : State) (wid : Nat) : State :=
  (s.updItem wid (fun y => { y with finished := true, status := St.CORE_FAULT, result := [] })).complete wid

/-- The faulted core idle, with the only fault within a second at `now`, and its claims in trouble (R204, R186). -/
def State.coreFreed (s : State) (k now : Nat) : State :=
  (s.updArb (fun a => { a with cores := a.cores.set k 0, coreFaults := [now] })).claimTrouble (.core k)

section
variable {s : State} {k : Nat}

theorem State.coreFault_of_idle (h : s.arb.cores.getD k 0 ≠ 1) (overrun : Bool) : s.coreFault k overrun = s :=
  if_pos (.inl h)

/-- The only fault within the second is this one, and does not reset the module (R205). -/
theorem recentFaults_of_first (h : s.arb.coreFaults = []) :
    (s.arb.coreFaults ++ [s.now]).filter (fun f => s.now ≤ f + 26000000) = [s.now] := by
  simp [h]

section
variable (hd : s.domOn 3 = true) (hrun : s.arb.cores.getD k 0 = 1) (hfirst : s.arb.coreFaults = []) (overrun : Bool)
include hd hrun hfirst

theorem State.coreFault_of_item {i : WItem} (hitem : s.itemOn k = some i) : s.coreFault k overrun =
    (((s.faultShown k overrun).faultRecorded k i.task i.typ).itemFaulted i.wid).coreFreed k s.now := by
  rw [State.coreFault, if_neg (not_or.2 ⟨not_not.2 hrun, by simp [hd]⟩), recentFaults_of_first hfirst, hitem]
  rfl

theorem State.coreFault_of_run (hitem : s.itemOn k = none) {task : Nat}
    (htask : ((s.arb.tasks.find? (fun t => t.runs.contains k)).map (·.id)).getD 0 = task) : s.coreFault k overrun =
      (((s.faultShown k overrun).faultRecorded k task 0).updTask task (fun t => { t with runs := t.runs.erase k })).coreFreed
        k s.now := by
  rw [State.coreFault, if_neg (not_or.2 ⟨not_not.2 hrun, by simp [hd]⟩), recentFaults_of_first hfirst, hitem]
  subst htask
  rfl

end

theorem exec_coreOverrun : exec (.coreOverrun k) s = .next (s.coreFault k true) := rfl

theorem exec_coreAccessFault : exec (.coreAccessFault k) s = .next (s.coreFault k false) := rfl

end

/-- Settles O31: a core that runs by what runs on it, and the watchdog by an eligible entry. -/
theorem coreFaultsAndWatchdog : Obligations.CoreFaultsAndWatchdog := by
  unfold Obligations.CoreFaultsAndWatchdog
  intro k s _ hd
  refine ⟨fun hidle => ?_, fun hrun hfirst => ⟨fun i hitem => ?_, fun hitem => ?_⟩, fun hready => ?_, fun hready => ?_⟩
  · rw [exec_coreOverrun, exec_coreAccessFault, State.coreFault_of_idle hidle, State.coreFault_of_idle hidle]
    exact ⟨rfl, rfl⟩
  · rw [exec_coreOverrun, exec_coreAccessFault, State.coreFault_of_item hd hrun hfirst _ hitem,
      State.coreFault_of_item hd hrun hfirst _ hitem]
    exact ⟨rfl, rfl⟩
  · rw [exec_coreOverrun, exec_coreAccessFault, State.coreFault_of_run hd hrun hfirst _ hitem rfl,
      State.coreFault_of_run hd hrun hfirst _ hitem rfl]
    exact ⟨rfl, rfl⟩
  · exact congrArg Host.Outcome.next (if_pos ⟨hd, hready⟩)
  · exact congrArg Host.Outcome.next (if_neg fun ⟨_, hsome⟩ => by simp [hready] at hsome)

end Sys2Proof.Machine
end

section
/-! SUPPORT. Update sessions: the link's commands, a session's checks and its end, confirmation and the fuses. -/
namespace Sys2Proof.Machine

/-! ### Requests to the store -/

/-- A request changes the store's queue alone (R538). -/
theorem State.psRequest_frame (s : State) (who : PsWho) (ch : PsChange) :
    s.psRequest who ch = { s with ps := (s.psRequest who ch).ps } := by
  unfold State.psRequest
  split_ifs <;> rfl

theorem State.psRequest_updSession (s : State) (who : PsWho) (ch : PsChange) :
    (s.psRequest who ch).updSession = s.updSession := by
  rw [State.psRequest_frame]
  rfl

/-! ### The commands of the link -/

/-- The answer to an update command of the link: a STATUS and the state it leaves (R503). -/
def State.linkAnswer (seq cmd : Nat) (r : Nat × State) : State := r.2.svcReply cmd (seq % 256) r.1

section
variable {s : State} {seq : Nat} (h : LinkTakes s seq)
include h

/-- An update command that is taken raises task 15, runs and is answered (R568). -/
theorem State.updLink_of_takes (cmd : Nat) (k : State → Nat × State) :
    s.updLink cmd seq k = State.linkAnswer seq cmd (k ((linkTook s).raiseTask 15)) :=
  State.svcPacket_of_takes h cmd _

theorem exec_updBegin_of_takes (p : Bytes) : exec (.updBegin (.link seq p)) s =
    .next (State.linkAnswer seq 0x10 (((linkTook s).raiseTask 15).updBegin 1 p)) :=
  congrArg Host.Outcome.next (State.updLink_of_takes h 0x10 _)

theorem exec_updData_of_takes (p : Bytes) : exec (.updData (.link seq p)) s =
    .next (State.linkAnswer seq 0x11 (if p.length < 5 then (2, (linkTook s).raiseTask 15)
      else ((linkTook s).raiseTask 15).updData 1 (leAt p 0 4) (p.drop 4))) :=
  congrArg Host.Outcome.next (State.updLink_of_takes h 0x11 _)

/-- UPD_END is answered once it has a STATUS. -/
theorem exec_updEnd_of_takes : exec (.updEnd (.link seq [])) s =
    .next (State.updEndReply 1 seq (((linkTook s).raiseTask 15).updFinish 1 seq)) :=
  congrArg Host.Outcome.next (State.svcPacket_of_takes h 0x12 _)

theorem exec_updActivate_of_takes : exec (.updActivate (.link seq [])) s =
    .next (State.linkAnswer seq 0x13 (((linkTook s).raiseTask 15).updActivate 1)) :=
  congrArg Host.Outcome.next (State.updLink_of_takes h 0x13 _)

theorem exec_updAbort_of_takes : exec (.updAbort (.link seq [])) s =
    .next (State.linkAnswer seq 0x14 (((linkTook s).raiseTask 15).updAbort 1)) :=
  congrArg Host.Outcome.next (State.updLink_of_takes h 0x14 _)

theorem exec_updConfirm_of_takes : exec (.updConfirm (.link seq [])) s =
    .next (State.linkAnswer seq 0x15 ((linkTook s).raiseTask 15).updConfirm) :=
  congrArg Host.Outcome.next (State.updLink_of_takes h 0x15 _)

end

theorem State.updEndReply_link (seq : Nat) (r : Option Nat × State) : State.updEndReply 1 seq r = match r with
    | (some st, t) => State.linkAnswer seq 0x12 (st, t)
    | (none, t) => t := by
  obtain ⟨_ | st, t⟩ := r <;> rfl

/-! ### The lock -/

section
variable {s : State} {src : Nat}

theorem State.holdsLock_iff : s.holdsLock src = true ↔ s.getF F.UPD_STAT_LOCK = src := decide_eq_true_iff

/-- A command without the lock is refused and changes nothing (R503). -/
theorem State.unlocked_refuses (h : s.holdsLock src = false) (off seq : Nat) (b : Bytes) :
    s.updData src off b = (0x2A, s) ∧ s.updFinish src seq = (some 0x2A, s) ∧ s.updActivate src = (0x2A, s) ∧
      s.updAbort src = (0x2A, s) := by
  have hnot : (!s.holdsLock src) = true := by rw [h]; rfl
  exact ⟨if_pos hnot, if_pos hnot, if_pos hnot, if_pos hnot⟩

/-- UPD_BEGIN of a free lock with a header of its length takes the lock, and the first check that fails ends the session. -/
theorem State.updBegin_of_free {p : Bytes} (hfree : s.getF F.UPD_STAT_LOCK = 0) (hmin : 400 ≤ p.length)
    (hlen : p.length = 336 + 64 * leAt p 20 2) : s.updBegin src p = match s.beginFault p with
      | some c => (c, ((s.setF F.UPD_STAT_LOCK src).setF F.UPD_RX_BYTES 0).updEnd c 0)
      | none => (0, State.program { ((s.setF F.UPD_STAT_LOCK src).setF F.UPD_RX_BYTES 0).setF F.UPD_STAT_SESSION 1 with
          upd := { head := p, lastFrc := s.now } }) := by
  have hform : ¬ (p.length < 400 ∨ (leAt p 20 2 ≤ 8 ∧ p.length ≠ 336 + 64 * leAt p 20 2)) :=
    not_or.2 ⟨Nat.not_lt.2 hmin, fun ⟨_, hne⟩ => hne hlen⟩
  exact (if_neg (not_not.2 hfree)).trans (if_neg hform)

/-! ### The end of a session -/

/-- UPD_STAT and UPD_ERR as a session ends. -/
def State.endShown (s : State) (code part : Nat) : State :=
  ((((s.setF F.UPD_STAT_SESSION 0).setF F.UPD_STAT_LOCK 0).setF F.UPD_STAT_SESSION_END 1).setF F.UPD_ERR_ERROR code).setF
    F.UPD_ERR_PART part

theorem State.endShown_fields (s : State) (code part : Nat) : (s.endShown code part).getF F.UPD_STAT_LOCK = 0 ∧
    (s.endShown code part).getF F.UPD_STAT_SESSION = 0 ∧ (s.endShown code part).getF F.UPD_ERR_ERROR = code % 256 := by
  have hunlock := OnlyFields.setF (s.setF F.UPD_STAT_SESSION 0) F.UPD_STAT_LOCK 0 (by decide)
  have hended (u : State) := OnlyFields.setF u F.UPD_STAT_SESSION_END 1 (by decide)
  have herror (u : State) := OnlyFields.setF u F.UPD_ERR_ERROR code (by decide)
  have hpart (u : State) := OnlyFields.setF u F.UPD_ERR_PART part (by decide)
  have hrest := ((hended ((s.setF F.UPD_STAT_SESSION 0).setF F.UPD_STAT_LOCK 0)).trans (herror _)).trans (hpart _)
  refine ⟨?_, ?_, ?_⟩
  · exact (hrest.getF (by decide)).trans (State.getF_setF_same _ F.UPD_STAT_LOCK 0 (by decide))
  · exact ((hunlock.trans hrest).getF (by decide)).trans (State.getF_setF_same s F.UPD_STAT_SESSION 0 (by decide))
  · exact ((hpart _).getF (by decide)).trans (State.getF_setF_same _ F.UPD_ERR_ERROR code (by decide))

theorem State.endShown_frame (s : State) (code part : Nat) :
    s.endShown code part = { s with regs := (s.endShown code part).regs } :=
  State.setF_frame (State.setF_frame (State.setF_frame (State.setF_frame (State.setF_frame rfl _ _) _ _) _ _) _ _) _ _

/-- What a session holds gone with it. -/
def State.forgetSession (s : State) : State := { s with upd := {} }

theorem State.forgetSession_getF (s : State) (f : Fld) : s.forgetSession.getF f = s.getF f := rfl

theorem State.forgetSession_frame {s t : State} (h : t = { s with regs := t.regs }) :
    t.forgetSession = { s with regs := t.forgetSession.regs, upd := {} } := by
  rw [h]
  rfl

theorem State.updEnd_of_open (hlock : s.getF F.UPD_STAT_LOCK ≠ 0) (hses : s.updSession ≠ 4) (code part : Nat) :
    s.updEnd code part = (s.endShown code part).forgetSession := if_neg (not_or.2 ⟨hlock, hses⟩)

/-- A session that is not activating ends with its code and gives up the lock (R503, R505). -/
theorem State.updEnd_spec (hlock : s.getF F.UPD_STAT_LOCK ≠ 0) (hses : s.updSession ≠ 4) (code part : Nat) :
    (s.updEnd code part).getF F.UPD_STAT_LOCK = 0 ∧ (s.updEnd code part).updSession = 0 ∧
      (s.updEnd code part).getF F.UPD_ERR_ERROR = code % 256 ∧
      s.updEnd code part = { s with regs := (s.updEnd code part).regs, upd := {} } := by
  obtain ⟨hfree, hidle, herror⟩ := s.endShown_fields code part
  have hshown (f : Fld) := (s.endShown code part).forgetSession_getF f
  rw [State.updEnd_of_open hlock hses]
  exact ⟨(hshown _).trans hfree, (hshown _).trans hidle, (hshown _).trans herror,
    State.forgetSession_frame (s.endShown_frame code part)⟩

theorem exec_updLockTimeout_of_over (hlock : s.getF F.UPD_STAT_LOCK ≠ 0)
    (hover : s.since s.upd.lastFrc 60000000 = true) : exec .updLockTimeout s = .next (s.updEnd 0x30 0) :=
  congrArg Host.Outcome.next (if_pos ⟨hlock, hover⟩)

theorem exec_updLockTimeout_of_not (h : s.getF F.UPD_STAT_LOCK = 0 ∨ s.since s.upd.lastFrc 60000000 = false) :
    exec .updLockTimeout s = .next s := by
  refine congrArg Host.Outcome.next (if_neg fun ⟨hlock, hover⟩ => ?_)
  rcases h with h | h
  · exact hlock h
  · exact Bool.false_ne_true (h.symm.trans hover)

/-! ### The session's commands -/

section
variable (hheld : s.holdsLock src = true)
include hheld

section
variable (hses : s.updSession = 1)
include hses

theorem State.updFinish_of_fault {c i : Nat} (hf : s.endFault = some (c, i)) (seq : Nat) :
    s.updFinish src seq = (some c, s.updEnd c i) := by
  rw [State.updFinish, hheld, if_neg (by decide), if_neg (not_not.2 hses), hf]
  rfl

/-- Check 15 asks for no key where there is no plan part, or one whose first checks fail (R503, R140). -/
theorem State.updFinish_without_key (hf : s.endFault = none)
    (hplan : ∀ k b, s.endPlan? = some (k, b) → (imageFault s.part b b.length).isSome = true) (seq : Nat) :
    s.updFinish src seq = s.updSigned (some true) := by
  rw [State.updFinish, hheld, if_neg (by decide), if_neg (not_not.2 hses), hf]
  cases hpart : s.endPlan? with
  | none => rfl
  | some part => exact if_pos (.inl (hplan part.1 part.2 hpart))

/-- An image without a plan part is VERIFIED by checks 12 to 14. -/
theorem State.updFinish_of_no_plan (hf : s.endFault = none) (hplan : s.endPlan? = none) (seq : Nat) :
    s.updFinish src seq = (some 0, s.setF F.UPD_STAT_SESSION 3) := by
  rw [State.updFinish_without_key hheld hses hf (by simp [hplan])]
  simp only [State.updSigned, hplan, State.updVerdict]

theorem State.updFinish_of_bad_plan {k : Nat} {b : Bytes} (hf : s.endFault = none) (hplan : s.endPlan? = some (k, b))
    (hbad : (imageFault s.part b b.length).isSome = true) (seq : Nat) :
    s.updFinish src seq = (some 0x2F, s.updEnd 0x2F k) := by
  have hplanBad : s.endPlanBad b true = true := by rw [State.endPlanBad, hbad]; rfl
  have hkey : s.updFinish src seq = s.updSigned (some true) :=
    State.updFinish_without_key hheld hses hf (fun _ _ h => by cases hplan.symm.trans h; exact hbad) seq
  rw [hkey]
  simp only [State.updSigned, hplan, hplanBad, if_true, State.updVerdict]

end

theorem State.updAbort_of_held : s.updAbort src = (0, s.updEnd 0x30 0) :=
  if_neg (by rw [hheld]; decide)

/-- A VERIFIED image of a fleet without members is activated: its record goes to the store (R513). -/
theorem State.updActivate_of_verified (hses : s.updSession = 3) (hjoined : s.anyJoined = false) :
    ∃ r, s.updActivate src = (0, (s.setF F.UPD_STAT_SESSION 4).psRequest (.updActivate src) (.upd r)) := by
  have hheld' : ¬ (!s.holdsLock src) = true := by rw [hheld]; decide
  have hgoes : ¬ (s.updSession ≠ 3 ∨ (!s.flag F.SYS_BOOT_STAT_RECOVERY) ∧ s.anyJoined ∧ s.gzState ≠ Gz.STOPPED) := by
    simp [hses, hjoined]
  exact ⟨_, (if_neg hheld').trans (if_neg hgoes)⟩

theorem State.updActivate_activating (hses : s.updSession = 3) (hjoined : s.anyJoined = false) :
    (s.updActivate src).1 = 0 ∧ (s.updActivate src).2.updSession = 4 := by
  obtain ⟨r, hr⟩ := State.updActivate_of_verified hheld hses hjoined
  rw [hr]
  exact ⟨rfl, (State.psRequest_updSession _ _ _).trans (State.getF_setF_same s F.UPD_STAT_SESSION 4 (by decide))⟩

end

end

/-! ### Confirmation -/

section
variable {s : State}

theorem State.updConfirm_of_may (h : s.mayConfirm = true) :
    s.updConfirm = (0, s.psRequest .updConfirm (.upd { s.updRecNext with
      state := 0, trialBoots := 0, svnPending := s.updRecNext.burn || s.updRecNext.svnPending })) := if_pos h

theorem State.updConfirm_of_not (h : s.mayConfirm = false) : s.updConfirm = (0x32, s.setF F.UPD_ERR_ERROR 0x32) := by
  rw [State.updConfirm, h, if_neg Bool.false_ne_true]

/-- A word without the KEY of UPD_CTRL changes nothing (R516). -/
theorem State.updCtrlWrite_of_no_key {v : Word} (h : v.toNat / 65536 ≠ 0xC3A5) : s.updCtrlWrite v.toNat = s :=
  if_pos (by omega)

theorem exec_updCtrl_of_no_key {m : Master} {v : Word} (hacc : s.wrAcc m R.UPD_CTRL = .ok)
    (hkey : v.toNat / 65536 ≠ 0xC3A5) :
    exec (.updAbort (.ctrl m v)) s = .next s ∧ exec (.updConfirm (.ctrl m v)) s = .next s := by
  have hguard : s.guardW m R.UPD_CTRL v.toNat (·.updCtrlWrite v.toNat) = s :=
    (State.guardW_ok_eq hacc v.toNat _).trans (State.updCtrlWrite_of_no_key hkey)
  exact ⟨congrArg Host.Outcome.next hguard, congrArg Host.Outcome.next hguard⟩

/-! ### The fuses -/

theorem exec_svnFuseBurn (hp : s.powered = true)
    (hfree : (s.ps.running ++ s.ps.waiting).any (fun q => decide (q.who = .updOther)) = false) :
    exec .svnFuseBurn s = .next s.svnBurn :=
  congrArg Host.Outcome.next (if_pos ⟨hp, by rw [hfree]; rfl⟩)

theorem State.svnBurn_of_none (h : s.updRec.svnPending = false) : s.svnBurn = s := if_pos (by rw [h]; rfl)

/-- The fuses blown up to the target, and what becomes of the record (R517). -/
theorem State.svnBurn_spec (h : s.updRec.svnPending = true) :
    s.svnBurn.flash.svnFuses = max s.flash.svnFuses (min s.updRec.svnTarget 63) ∧
      OnlyFields s s.svnBurn [F.UPD_SVN_FLOOR] ∧
      s.svnBurn = { s with regs := s.svnBurn.regs, ps := s.svnBurn.ps
                           flash := { s.flash with svnFuses := s.svnBurn.flash.svnFuses } } := by
  rw [State.svnBurn, h, if_neg (by decide), State.psRequest_frame]
  refine ⟨rfl, ?_, rfl⟩
  exact OnlyFields.setF s F.UPD_SVN_FLOOR (max s.flash.svnFuses (min s.updRec.svnTarget 63)) (by decide)

end

/-- Settles O58: the link's commands by what a taken packet runs, the session's by its lock and its state, the rest by
the condition of each. -/
theorem updateSessions : Obligations.UpdateSessions := by
  unfold Obligations.UpdateSessions
  intro seq p s
  refine ⟨fun htakes => ⟨exec_updBegin_of_takes htakes p, fun hlen => ?_, fun hlen => ?_, ?_,
      exec_updActivate_of_takes htakes, exec_updAbort_of_takes htakes, exec_updConfirm_of_takes htakes⟩,
    fun hlock => State.unlocked_refuses (decide_eq_false fun h => absurd (hlock.symm.trans h) (by decide)) 0 seq p,
    State.updBegin_of_free,
    fun hheld hses => ⟨fun c k hf => State.updFinish_of_fault hheld hses hf seq,
      fun hf hplan => State.updFinish_of_no_plan hheld hses hf hplan seq,
      fun k b hf hplan hbad => State.updFinish_of_bad_plan hheld hses hf hplan hbad seq⟩,
    State.updActivate_activating, fun hheld hses => ?_, State.updConfirm_of_not, State.updConfirm_of_may,
    fun m v => exec_updCtrl_of_no_key, fun hlock hses hover => ?_, exec_updLockTimeout_of_not,
    fun hp hfree => ⟨fun hnone => ?_, fun hpending => ?_⟩⟩
  · rw [exec_updData_of_takes htakes p, if_neg (Nat.not_lt.2 hlen)]
    rfl
  · rw [exec_updData_of_takes htakes p, if_pos hlen]
    rfl
  · rw [exec_updEnd_of_takes htakes, State.updEndReply_link]
    rfl
  · have hlock : s.getF F.UPD_STAT_LOCK ≠ 0 := by rw [State.holdsLock_iff.1 hheld]; decide
    obtain ⟨hfree, hidle, herror, hframe⟩ := State.updEnd_spec hlock (by rw [hses]; decide) 0x30 0
    exact ⟨_, State.updAbort_of_held hheld, hfree, hidle, herror, hframe⟩
  · obtain ⟨hfree, hidle, -, hframe⟩ := State.updEnd_spec hlock hses 0x30 0
    exact ⟨_, exec_updLockTimeout_of_over hlock hover, hfree, hidle, hframe⟩
  · rw [exec_svnFuseBurn hp hfree, State.svnBurn_of_none hnone]
  · exact ⟨_, exec_svnFuseBurn hp hfree, State.svnBurn_spec hpending⟩

end Sys2Proof.Machine
end

section
/-! SUPPORT. O34: Compares. -/
namespace Sys2Proof.Machine

section
variable {s : State} {m : Master} {k i : Nat}

/-! ### A compare by its time base and index -/

theorem compare_tb (hi : i < 32) (k : Nat) : (32 * k + i) / 32 = k := by omega

theorem compare_index (hi : i < 32) (k : Nat) : (32 * k + i) % 32 = i := by omega

theorem cmpIdx_of_lt (hk : k < 4) (hi : i < 32) : cmpIdx k i = true := by
  simp [cmpIdx, hk, hi]

theorem State.cmpFrc_compare (hi : i < 32) (s : State) (k : Nat) :
    s.cmpFrc (32 * k + i) = s.frcOf k (s.cmpTarget (32 * k + i)) := by
  rw [State.cmpFrc, compare_tb hi]

/-! ### A compare evaluated (R234) -/

theorem State.cmpEval_of_ahead (h : s.tbNs k < s.cmpTarget (32 * k + i)) :
    s.cmpEval k i = (0, s.setF (F.SDL_CMP_CTRL_ARMED (32 * k + i)) 1) := if_pos h

section
variable (hpast : s.cmpTarget (32 * k + i) ≤ s.tbNs k) (hone : s.getF (F.SDL_CMP_PERIOD (32 * k + i)) = 0)
include hpast hone

/-- A one-shot compare whose target is past is missed or fires late, and disarms. -/
theorem State.cmpEval_of_past : (s.cmpEval k i).2 =
    (if s.flag (F.SDL_CMP_ACT_DISCARD_IF_LATE (32 * k + i)) then s.setF (F.SDL_CMP_CTRL_MISSED (32 * k + i)) 1
      else s.cmpActions k i true).setF (F.SDL_CMP_CTRL_ARMED (32 * k + i)) 0 := by
  simp only [State.cmpEval, if_neg (Nat.not_lt.2 hpast), if_pos hone]

theorem State.cmpEval_of_late (hlate : s.flag (F.SDL_CMP_ACT_DISCARD_IF_LATE (32 * k + i)) = false) :
    (s.cmpEval k i).2 = (s.cmpActions k i true).setF (F.SDL_CMP_CTRL_ARMED (32 * k + i)) 0 := by
  rw [State.cmpEval_of_past hpast hone, hlate, if_neg Bool.false_ne_true]

theorem State.cmpEval_of_missed (hmiss : s.flag (F.SDL_CMP_ACT_DISCARD_IF_LATE (32 * k + i)) = true) :
    (s.cmpEval k i).2 =
      (s.setF (F.SDL_CMP_CTRL_MISSED (32 * k + i)) 1).setF (F.SDL_CMP_CTRL_ARMED (32 * k + i)) 0 := by
  rw [State.cmpEval_of_past hpast hone, if_pos hmiss]

end

/-- MISSED set and ARMED cleared is all that a missed compare shows. -/
theorem State.cmpMissed_spec (s : State) (x : Nat) :
    let t := (s.setF (F.SDL_CMP_CTRL_MISSED x) 1).setF (F.SDL_CMP_CTRL_ARMED x) 0
    t.getF (F.SDL_CMP_CTRL_MISSED x) = 1 ∧ t.getF (F.SDL_CMP_CTRL_ARMED x) = 0 ∧
      OnlyFields s t [F.SDL_CMP_CTRL_MISSED x, F.SDL_CMP_CTRL_ARMED x] ∧ t = { s with regs := t.regs } := by
  have hmissed : (s.setF (F.SDL_CMP_CTRL_MISSED x) 1).getF (F.SDL_CMP_CTRL_MISSED x) = 1 :=
    State.getF_setF_same s _ 1 (by simp)
  refine ⟨?_, State.getF_setF_same _ _ 0 (by simp), ?_, rfl⟩
  · exact (State.getF_setF_bits _ (F.SDL_CMP_CTRL_ARMED x) (F.SDL_CMP_CTRL_MISSED x) 0 (by simp) rfl (by simp)).trans
      hmissed
  · exact (OnlyFields.setF s _ 1 (by simp)).snoc _ 0 (by simp)

/-! ### Arms and disarms (R233, R235) -/

section
variable (hk : k < 4) (hi : i < 32) (hacc : s.wrAcc m (R.SDL_CMP_CTRL (32 * k + i)) = .ok)
include hk hi hacc

theorem exec_cmpArm_of_ok (d : Bool) : exec (.cmpArm m k i d) s = .next (s.cmpArm m k i d) :=
  congrArg Host.Outcome.next ((if_pos (cmpIdx_of_lt hk hi)).trans (State.guardW_ok_eq hacc _ _))

theorem exec_cmpDisarm_of_ok : exec (.cmpDisarm m k i) s = .next (s.cmpDisarm m k i) :=
  congrArg Host.Outcome.next ((if_pos (cmpIdx_of_lt hk hi)).trans (State.guardW_ok_eq hacc _ _))

end

section
variable (hmay : s.cmpMay k i m.isCore m.secure = false)
include hmay

theorem State.cmpArm_of_not_may (d : Bool) : s.cmpArm m k i d = if m.secure then s else s.secViol :=
  if_pos (by rw [hmay]; rfl)

theorem State.cmpDisarm_of_not_may : s.cmpDisarm m k i = if m.secure then s else s.secViol :=
  if_pos (by rw [hmay]; rfl)

end

section
variable (hmay : s.cmpMay k i m.isCore m.secure = true)
include hmay

theorem State.cmpArm_of_may (d : Bool) : s.cmpArm m k i d =
    if d then s.setF (F.SDL_CMP_CTRL_ARMED (32 * k + i)) 0
    else if s.badTarget (32 * k + i) m.secure then s else (s.cmpEval k i).2 := if_neg (by simp [hmay])

theorem State.cmpDisarm_of_may : s.cmpDisarm m k i = s.setF (F.SDL_CMP_CTRL_ARMED (32 * k + i)) 0 :=
  if_neg (by simp [hmay])

theorem State.cmpArm_of_disarm : s.cmpArm m k i true = s.setF (F.SDL_CMP_CTRL_ARMED (32 * k + i)) 0 := by
  rw [State.cmpArm_of_may hmay, if_pos rfl]

theorem State.cmpArm_of_badTarget (hbad : s.badTarget (32 * k + i) m.secure = true) : s.cmpArm m k i false = s := by
  rw [State.cmpArm_of_may hmay, if_neg Bool.false_ne_true, if_pos hbad]

theorem State.cmpArm_of_goodTarget (hbad : s.badTarget (32 * k + i) m.secure = false) :
    s.cmpArm m k i false = (s.cmpEval k i).2 := by
  rw [State.cmpArm_of_may hmay, if_neg Bool.false_ne_true, hbad, if_neg Bool.false_ne_true]

end

/-! ### A compare reached (R234, R236) -/

theorem State.cmpHit_of_oneShot (hi : i < 32) (hone : s.getF (F.SDL_CMP_PERIOD (32 * k + i)) = 0) :
    s.cmpHit (32 * k + i) = (s.cmpActions k i false).setF (F.SDL_CMP_CTRL_ARMED (32 * k + i)) 0 := by
  simp only [State.cmpHit, compare_tb hi, compare_index hi, if_pos hone]

theorem State.cmpHit_of_periodic (hi : i < 32) (hper : s.getF (F.SDL_CMP_PERIOD (32 * k + i)) ≠ 0) :
    s.cmpHit (32 * k + i) = (s.cmpActions k i false).setCmpTarget (32 * k + i)
      (s.cmpTarget (32 * k + i) + s.getF (F.SDL_CMP_PERIOD (32 * k + i))) := by
  simp only [State.cmpHit, compare_tb hi, compare_index hi, if_neg hper]

theorem State.cmpDue_iff (hi : i < 32) : s.cmpDue (32 * k + i) = true ↔
    s.flag (F.SDL_CMP_CTRL_ARMED (32 * k + i)) = true ∧ s.frcOf k (s.cmpTarget (32 * k + i)) ≤ s.now := by
  rw [State.cmpDue, Bool.and_eq_true, decide_eq_true_iff, State.cmpFrc_compare hi]

theorem exec_cmpFire_of_due (hk : k < 4) (hi : i < 32) (hdom : s.domOn 2 = true)
    (hdue : s.cmpDue (32 * k + i) = true) :
    exec (.cmpFire k i) s = .next (((List.range 128).filter (fun y => s.cmpDue y &&
      s.cmpFrc y = s.frcOf k (s.cmpTarget (32 * k + i)))).foldl State.cmpHit s) := by
  rw [← State.cmpFrc_compare hi]
  exact congrArg Host.Outcome.next (if_neg (by simp [cmpIdx_of_lt hk hi, hdom, hdue]))

theorem exec_cmpFire_of_not_due (h : s.cmpDue (32 * k + i) = false) : exec (.cmpFire k i) s = .next s :=
  congrArg Host.Outcome.next (if_pos (.inr (.inr (by rw [h]; rfl))))

end

/-- Settles O34: an arm by its permission and its evaluation, a target reached by the compares due in its tick. -/
theorem compares : Obligations.Compares := by
  unfold Obligations.Compares
  intro m k i s hk hi
  refine ⟨fun hacc hmay => ⟨fun hbad hahead => ?_, fun hbad hpast hone => ⟨fun hmiss => ?_, fun hlate => ?_⟩,
      fun hbad => ?_, ?_, ?_⟩, fun hacc hmay d => ⟨?_, ?_⟩,
    fun hdom harmed hreached => exec_cmpFire_of_due hk hi hdom ((State.cmpDue_iff hi).2 ⟨harmed, hreached⟩),
    State.cmpHit_of_oneShot hi, State.cmpHit_of_periodic hi, fun _ hwaits => exec_cmpFire_of_not_due ?_⟩
  · refine exec_setsField ?_ (by simp) (by simp)
    rw [exec_cmpArm_of_ok hk hi hacc, State.cmpArm_of_goodTarget hmay hbad, State.cmpEval_of_ahead hahead]
  · refine ⟨_, ?_, s.cmpMissed_spec (32 * k + i)⟩
    rw [exec_cmpArm_of_ok hk hi hacc, State.cmpArm_of_goodTarget hmay hbad, State.cmpEval_of_missed hpast hone hmiss]
  · rw [exec_cmpArm_of_ok hk hi hacc, State.cmpArm_of_goodTarget hmay hbad, State.cmpEval_of_late hpast hone hlate]
  · rw [exec_cmpArm_of_ok hk hi hacc, State.cmpArm_of_badTarget hmay hbad]
  · refine exec_setsField ?_ (by simp) (by simp)
    rw [exec_cmpArm_of_ok hk hi hacc, State.cmpArm_of_disarm hmay]
  · refine exec_setsField ?_ (by simp) (by simp)
    rw [exec_cmpDisarm_of_ok hk hi hacc, State.cmpDisarm_of_may hmay]
  · rw [exec_cmpArm_of_ok hk hi hacc, State.cmpArm_of_not_may hmay]
  · rw [exec_cmpDisarm_of_ok hk hi hacc, State.cmpDisarm_of_not_may hmay]
  · refine Bool.eq_false_iff.2 fun hdue => ?_
    obtain ⟨harmed, hreached⟩ := (State.cmpDue_iff hi).1 hdue
    rcases hwaits with h | h
    · exact Bool.false_ne_true (h.symm.trans harmed)
    · exact absurd h (Nat.not_lt.2 hreached)

end Sys2Proof.Machine
end

section
/-! SUPPORT. O36: The discipline of TB0. -/
namespace Sys2Proof.Machine

/-! ### TB0's state (R227) -/

theorem unitReg_sdlStat : UnitReg R.SDL_STAT := ⟨by decide, by decide, by decide⟩

section
variable (s : State)

theorem State.sdlEvent_sameUnits (kind index tb late t frc : Nat) (sec : Bool) :
    SameOn UnitReg s (s.sdlEvent kind index tb late t frc sec) := by
  unfold State.sdlEvent
  split_ifs
  · exact s.observe_sameUnits _ _
  · exact SameOn.of_regs rfl

theorem State.sdlEvent_stepItem (kind index tb late t frc : Nat) (sec : Bool) :
    (s.sdlEvent kind index tb late t frc sec).sdl.stepItem = s.sdl.stepItem := by
  unfold State.sdlEvent
  split_ifs
  · rw [State.observe_frame]
  · rfl

/-- STATE and STATE_CHG at a change of TB0's state. -/
def State.tbMoved (st : Nat) : State := (s.setF F.SDL_STAT_STATE st).setF F.SDL_STAT_STATE_CHG 1

/-- The registers that show a change of TB0's state: at LOCKED the time is trusted and the slots run. -/
def State.tbShown (st : Nat) : State :=
  if st = Tb.LOCKED then ((s.tbMoved st).setF F.SDL_STAT_UNTRUSTED 0).setSlotRun else s.tbMoved st

theorem State.tbMoved_state {st : Nat} (hst : st < 8) : (s.tbMoved st).getF F.SDL_STAT_STATE = st := by
  rw [State.tbMoved, (OnlyFields.setF _ F.SDL_STAT_STATE_CHG 1 (by decide)).getF (by decide),
    State.getF_setF_same s _ st (by decide)]
  exact Nat.mod_eq_of_lt hst

theorem State.tbShown_state {st : Nat} (hst : st < 8) : (s.tbShown st).getF F.SDL_STAT_STATE = st := by
  unfold State.tbShown
  split_ifs
  · rw [State.setSlotRun, (OnlyFields.setF _ F.SDL_STAT_SLOT_RUN 1 (by decide)).getF (by decide),
      (OnlyFields.setF _ F.SDL_STAT_UNTRUSTED 0 (by decide)).getF (by decide), s.tbMoved_state hst]
  · exact s.tbMoved_state hst

theorem State.tbShown_sdl (st : Nat) : (s.tbShown st).sdl = s.sdl := by
  have hmoved : (s.tbMoved st).sdl = s.sdl := by
    rw [State.tbMoved, State.setF_sdl, State.setF_sdl]
  unfold State.tbShown
  split_ifs
  · rw [State.setSlotRun, State.setF_sdl, State.setF_sdl, hmoved]
  · exact hmoved

/-- A state that TB0 is in already changes nothing; a new one is shown, and recorded. -/
theorem State.tbState_eq (st : Nat) : s.tbState st = if s.getF F.SDL_STAT_STATE = st then s
    else (s.tbShown st).sdlEvent 3 st 0 0 (s.tbNs 0) s.now := rfl

theorem State.tbState_state {st : Nat} (hst : st < 8) : (s.tbState st).getF F.SDL_STAT_STATE = st := by
  rw [State.tbState_eq]
  split_ifs with hsame
  · exact hsame
  · rw [(State.sdlEvent_sameUnits _ _ _ _ _ _ _ _).getF unitReg_sdlStat, s.tbShown_state hst]

theorem State.tbState_stepItem (st : Nat) : (s.tbState st).sdl.stepItem = s.sdl.stepItem := by
  rw [State.tbState_eq]
  split_ifs
  · rfl
  · rw [State.sdlEvent_stepItem, State.tbShown_sdl]

end

/-! ### A valid measurement (R227, R230) -/

/-- The state that a measurement moves LOCKING, LOCKED or HOLDOVER to. -/
def tbNext (st : Nat) (off : Int) : Nat :=
  if st = Tb.LOCKED then (if 100 < Int.natAbs off then Tb.LOCKING else Tb.LOCKED)
  else if Int.natAbs off ≤ 20 then Tb.LOCKED else Tb.LOCKING

theorem tbNext_lt (st : Nat) (off : Int) : tbNext st off < 8 := by
  unfold tbNext
  split_ifs <;> decide

theorem tbNext_locked (off : Int) : tbNext Tb.LOCKED off = if 100 < off.natAbs then Tb.LOCKING else Tb.LOCKED :=
  if_pos rfl

theorem tbNext_of_not_locked {st : Nat} (h : st ≠ Tb.LOCKED) (off : Int) :
    tbNext st off = if off.natAbs ≤ 20 then Tb.LOCKED else Tb.LOCKING := if_neg h

/-- Sundial's part with a step of TB0 pending where the offset is far, else with a slew. -/
def Sdl.steered (d : Sdl) (far : Prop) [Decidable far] (off : Int) : Sdl := { d with
  stepBy := if d.stepItem then d.stepBy else if far then some (-off) else none
  slew0 := if far then 0 else slewFor off }

theorem Sdl.steered_slew0 (d : Sdl) (far : Prop) [Decidable far] (off : Int) :
    (d.steered far off).slew0 = if far then 0 else slewFor off := rfl

theorem Sdl.steered_stepBy {d : Sdl} (h : d.stepItem = false) (far : Prop) [Decidable far] (off : Int) :
    (d.steered far off).stepBy = if far then some (-off) else none := if_neg (by simp [h])

/-- The error estimate of TB0 taken where the condition holds. -/
def State.estIf (s : State) (c : Prop) [Decidable c] (est : Nat) : State :=
  if c then s.updSdl (fun d => { d with e0 := est }) else s

section
variable (s : State) (c : Prop) [Decidable c] (est : Nat)

theorem State.estIf_getF (f : Fld) : (s.estIf c est).getF f = s.getF f := by
  unfold State.estIf
  split_ifs <;> rfl

theorem State.estIf_stepItem : (s.estIf c est).sdl.stepItem = s.sdl.stepItem := by
  unfold State.estIf
  split_ifs <;> rfl

end

section
variable (s : State) (off : Int) (est : Nat)

/-- The offset, and the state it leads to. -/
def State.offsetShown : State :=
  (((s.updSdl (fun d => { d with holdFrom := s.now })).setI F.SDL_OFFSET (satI32 off)).tbState
    (tbNext (s.getF F.SDL_STAT_STATE) off)).estIf (tbNext (s.getF F.SDL_STAT_STATE) off = Tb.LOCKED) est

theorem State.offsetShown_state :
    (s.offsetShown off est).getF F.SDL_STAT_STATE = tbNext (s.getF F.SDL_STAT_STATE) off := by
  rw [State.offsetShown, State.estIf_getF, State.tbState_state _ (tbNext_lt _ off)]

theorem State.offsetShown_stepItem : (s.offsetShown off est).sdl.stepItem = s.sdl.stepItem := by
  rw [State.offsetShown, State.estIf_stepItem, State.tbState_stepItem, State.setI_sdl, State.updSdl_sdl]

/-- The offset shown, and what is to remove it: a step where it is far and one is allowed, else a slew. -/
def State.corrected : State :=
  let t := (s.offsetShown off est).updSdl
    (·.steered (1000000 < Int.natAbs off ∧ s.flag F.SDL_CTRL_STEP_ALLOWED) off)
  t.setF F.SDL_STAT_STEP_PEND (b2n t.sdl.stepBy.isSome)

theorem State.measured0_of_not_free (h : s.getF F.SDL_STAT_STATE ≠ Tb.FREE) :
    s.measured0 off est = (s.corrected off est).retimeAll.joinTb1 := if_neg h

theorem State.measured0_of_free (h : s.getF F.SDL_STAT_STATE = Tb.FREE) : s.measured0 off est =
    (((s.updSdl (fun d => { d with holdFrom := s.now })).setI F.SDL_OFFSET (satI32 off)).stepTb0 (-off)).tbState
      Tb.LOCKING := if_pos h

theorem State.corrected_state :
    (s.corrected off est).getF F.SDL_STAT_STATE = tbNext (s.getF F.SDL_STAT_STATE) off := by
  rw [State.corrected, (OnlyFields.setF _ F.SDL_STAT_STEP_PEND _ (by decide)).getF (by decide), State.updSdl_getF,
    State.offsetShown_state]

theorem State.corrected_sdl : (s.corrected off est).sdl =
    (s.offsetShown off est).sdl.steered (1000000 < Int.natAbs off ∧ s.flag F.SDL_CTRL_STEP_ALLOWED) off := rfl

theorem State.corrected_stepBy (h : s.sdl.stepItem = false) : (s.corrected off est).sdl.stepBy =
    if 1000000 < Int.natAbs off ∧ s.flag F.SDL_CTRL_STEP_ALLOWED then some (-off) else none := by
  rw [State.corrected_sdl, Sdl.steered_stepBy ((s.offsetShown_stepItem off est).trans h)]

theorem State.corrected_pend :
    (s.corrected off est).getF F.SDL_STAT_STEP_PEND = b2n (s.corrected off est).sdl.stepBy.isSome := by
  refine (State.getF_setF_same _ F.SDL_STAT_STEP_PEND _ (by decide)).trans (Nat.mod_eq_of_lt ?_)
  unfold b2n
  split_ifs <;> decide

section
variable (hfar : 1000000 < off.natAbs) (hallowed : s.flag F.SDL_CTRL_STEP_ALLOWED = true)
include hfar hallowed

theorem State.corrected_of_far : (s.corrected off est).sdl.slew0 = 0 ∧
    (s.sdl.stepItem = false → (s.corrected off est).sdl.stepBy = some (-off)) := by
  refine ⟨?_, fun hitem => ?_⟩
  · rw [State.corrected_sdl, Sdl.steered_slew0, if_pos ⟨hfar, hallowed⟩]
  · rw [State.corrected_stepBy s off est hitem, if_pos ⟨hfar, hallowed⟩]

end

section
variable (h : off.natAbs ≤ 1000000 ∨ s.flag F.SDL_CTRL_STEP_ALLOWED = false)
include h

theorem State.not_far : ¬ (1000000 < off.natAbs ∧ s.flag F.SDL_CTRL_STEP_ALLOWED = true) := by
  rintro ⟨hfar, hallowed⟩
  rcases h with h | h
  · omega
  · exact Bool.false_ne_true (h.symm.trans hallowed)

theorem State.corrected_of_not_far : (s.corrected off est).sdl.slew0 = slewFor off ∧
    (s.sdl.stepItem = false →
      (s.corrected off est).sdl.stepBy = none ∧ (s.corrected off est).getF F.SDL_STAT_STEP_PEND = 0) := by
  refine ⟨?_, fun hitem => ?_⟩
  · rw [State.corrected_sdl, Sdl.steered_slew0, if_neg (s.not_far off h)]
  have hnone : (s.corrected off est).sdl.stepBy = none := by
    rw [State.corrected_stepBy s off est hitem, if_neg (s.not_far off h)]
  exact ⟨hnone, by rw [State.corrected_pend, hnone]; rfl⟩

end
end

/-! ### A TB0 second (R226–R231) -/

/-- A port silent for 6 s that is not the time receiver's becomes MASTER, where ROLE lets it. -/
theorem State.ptpSilent_master {s : State} {n : Nat} (hport : s.ptpPort n = true)
    (hptp : s.flag (F.ETH_Pn_STAT_PTP n) = true) (h3 : s.domOn 3 = true) (h11 : s.domOn 11 = true) (hn : n < 2)
    (htest : s.testing n = false) (hrole : s.timeF 23 1 ≠ 2) (hsilent : s.since (s.eth.ptpRx.getD n 0) 6000000 = true)
    (hslave : s.eth.ptpSlave ≠ some n) : (s.ptpSilent n).ptpState n = 6 := by
  simp only [State.ptpSilent, if_neg hrole, if_neg hslave]
  split_ifs with hacts
  · rw [State.ptpFollow, if_pos (s.ptpSet_slave n 6), State.ptpState, State.ptpSet_getF,
      State.getF_setF_same _ _ _ (by simp; omega)]
    rfl
  · by_contra hother
    exact hacts ⟨hport, hptp, h3, h11, by rw [htest]; rfl, hother, hsilent⟩

/-- Without a source: what the second leaves, `func` the frequency uncertainty. -/
def State.sourceLost (s : State) (func : Nat) : State :=
  ((s.setF F.SDL_STAT_SRC_OK 0).updSdl (fun d => { d with func := func, extOff := none })).updBv (fun b => { b with
    meas := none })

/-- With a source: FREQ as firmware adjusts it, the slots running where the source is not GNSS. -/
def State.sourceFollowed (s : State) (freq : Int) (func : Nat) : State :=
  let t := (((s.setF F.SDL_STAT_SRC_OK 1).updSdl (fun d => { d with func := func })).setI F.SDL_FREQ
    (max (-32768000) (min 32768000 freq))).retimeAll.joinTb1
  ((if s.tb0Src ≠ 0 then t.setSlotRun else t).updBv (fun b => { b with meas := none })).updSdl (fun d => { d with
    extOff := none })

section
variable {s : State} (freq : Int) (est func : Nat)

theorem exec_tb0Second_of_not_reached (h : s.reached 0 1000000000 = false) :
    exec (.tb0Second freq est func) s = .next s := congrArg Host.Outcome.next (if_pos (.inr (by rw [h]; rfl)))

variable (hoff : s.power.off = false) (hsec : s.reached 0 1000000000 = true)
  (hports : [0, 1].foldl State.ptpSilent s = s)
include hoff hsec hports

theorem exec_tb0Second_of_no_source (hsrc : s.planActive = false ∨ s.srcValid = false) (href : s.timeFlag 1 = false) :
    exec (.tb0Second freq est func) s = .next (
      let t := s.sourceLost (if s.getF F.SDL_STAT_STATE = Tb.HOLDOVER then s.sdl.func else func)
      if s.getF F.SDL_STAT_STATE = Tb.LOCKING ∨ s.getF F.SDL_STAT_STATE = Tb.LOCKED then t.enterHoldover else t) := by
  have hnone : (s.planActive && s.srcValid) = false := by
    rcases hsrc with h | h <;> simp [h]
  change execTb0Second freq est func s = _
  rw [execTb0Second, if_neg (by simp [hoff, hsec]), hports]
  simp only [hnone, href, Bool.false_and, Bool.and_false, Bool.false_eq_true, false_or, false_and, if_false]
  by_cases hhold : s.getF F.SDL_STAT_STATE = Tb.HOLDOVER
  · simp only [if_pos hhold]
    rfl
  · simp only [if_neg hhold]
    rfl

theorem exec_tb0Second_of_source (hplan : s.planActive = true) (hvalid : s.srcValid = true)
    (hfrc : s.degraded = false) (hst : s.getF F.SDL_STAT_STATE ≠ Tb.HOLDOVER) {o : Int} (ho : s.tb0Offset = some o) :
    exec (.tb0Second freq est func) s = .next ((s.sourceFollowed freq func).measured0 o est) := by
  change execTb0Second freq est func s = _
  rw [execTb0Second, if_neg (by simp [hoff, hsec]), hports]
  simp only [hplan, hvalid, hfrc, ho, Bool.true_and, Bool.not_false, Option.isSome_some, true_or, true_and, if_true,
    if_neg hst, Option.getD_some]
  rfl

end

/-! ### Holding over too long (R228) -/

theorem exec_holdLimitExpiry_of_over {s : State} (hhold : s.getF F.SDL_STAT_STATE = Tb.HOLDOVER)
    (hlimit : s.holdLimit ≤ s.holdTime) : exec .holdLimitExpiry s = .next s.untrusted :=
  congrArg Host.Outcome.next (if_pos ⟨hhold, hlimit⟩)

theorem State.untrusted_spec {s : State} (h : s.timeFlag 3 = false) :
    s.untrusted.getF F.SDL_STAT_UNTRUSTED = 1 ∧ s.untrusted.getF F.SDL_STAT_UNTRUSTED_SEEN = 1 ∧
      OnlyFields s s.untrusted [F.SDL_STAT_UNTRUSTED, F.SDL_STAT_UNTRUSTED_SEEN] ∧
      s.untrusted = { s with regs := s.untrusted.regs } := by
  have hshown : s.untrusted = (s.setF F.SDL_STAT_UNTRUSTED 1).setF F.SDL_STAT_UNTRUSTED_SEEN 1 :=
    if_neg (by simp [h])
  rw [hshown]
  refine ⟨?_, State.getF_setF_same _ F.SDL_STAT_UNTRUSTED_SEEN 1 (by decide),
    (OnlyFields.setF s F.SDL_STAT_UNTRUSTED 1 (by decide)).snoc F.SDL_STAT_UNTRUSTED_SEEN 1 (by decide), rfl⟩
  rw [(OnlyFields.setF _ F.SDL_STAT_UNTRUSTED_SEEN 1 (by decide)).getF (by decide)]
  exact State.getF_setF_same s F.SDL_STAT_UNTRUSTED 1 (by decide)

/-! ### A pending step (R230, R232) -/

section
variable {s : State}

theorem State.stepDue_of_slots (h : s.flag F.SDL_STAT_SLOT_RUN = true) :
    s.stepDue = (s.reached 0 2500000 && asnOf (s.tbNs 0) % max s.slotL 1 = 0) := if_pos h

theorem State.stepDue_of_no_slots (h : s.flag F.SDL_STAT_SLOT_RUN = false) : s.stepDue = s.reached 0 1000000000 :=
  if_neg (by simp [h])

/-- The step no longer pending. -/
def State.stepLapsed (s : State) : State :=
  (s.updSdl (fun d => { d with stepBy := none })).setF F.SDL_STAT_STEP_PEND 0

section
variable {d : Int} (hpend : s.sdl.stepBy = some d)
include hpend

theorem exec_tb0StepApply_of_pending : exec .tb0StepApply s = .next (if !s.stepDue then s
    else if s.sdl.stepItem ∨ s.flag F.SDL_CTRL_STEP_ALLOWED then s.stepTb0 d else s.stepLapsed) := by
  change execTb0StepApply s = _
  rw [execTb0StepApply, hpend]
  rfl

theorem exec_tb0StepApply_of_not_due (hdue : s.stepDue = false) : exec .tb0StepApply s = .next s := by
  rw [exec_tb0StepApply_of_pending hpend, if_pos (by simp [hdue])]

variable (hdue : s.stepDue = true)
include hdue

theorem exec_tb0StepApply_of_permitted (hmay : s.sdl.stepItem = true ∨ s.flag F.SDL_CTRL_STEP_ALLOWED = true) :
    exec .tb0StepApply s = .next (s.stepTb0 d) := by
  rw [exec_tb0StepApply_of_pending hpend, if_neg (by simp [hdue]), if_pos hmay]

theorem exec_tb0StepApply_of_lapsed (hitem : s.sdl.stepItem = false)
    (hallowed : s.flag F.SDL_CTRL_STEP_ALLOWED = false) : exec .tb0StepApply s = .next s.stepLapsed := by
  rw [exec_tb0StepApply_of_pending hpend, if_neg (by simp [hdue]), if_neg (by simp [hitem, hallowed])]

end
end

/-- Settles O36: a second by its source, a measurement by its offset, a pending step by the tick that it waits for. -/
theorem tb0Discipline : Obligations.Tb0Discipline := by
  unfold Obligations.Tb0Discipline
  intro freq est func s
  refine ⟨exec_tb0Second_of_not_reached freq est func, fun n hport hptp h3 h11 hn htest hrole hsilent hslave =>
      State.ptpSilent_master hport hptp h3 h11 hn htest hrole hsilent hslave,
    fun hoff hsec hports => ⟨fun hsrc href => ⟨fun hst => ?_, fun hst => ?_⟩,
      fun hplan hvalid hfrc hst o ho =>
        exec_tb0Second_of_source freq est func hoff hsec hports hplan hvalid hfrc hst ho⟩,
    fun off => ⟨fun hst => ⟨s.corrected off est, s.measured0_of_not_free off est hst, fun hlocked => ?_,
        fun hunlocked => ?_, fun hfar hallowed => ?_, s.corrected_of_not_far off est⟩, s.measured0_of_free off est⟩,
    fun hhold hlimit htime => ⟨_, exec_holdLimitExpiry_of_over hhold hlimit, State.untrusted_spec htime⟩,
    fun d hpend => ⟨fun hrun => ⟨fun hwaits => ?_, fun hslot hbound hmay => ?_⟩, fun hrun hmay => ?_,
      fun hdue hitem hallowed => ?_⟩,
    fun hoff => exec_setsField (congrArg Host.Outcome.next (if_neg (by simp [hoff]))) (by decide) (by decide),
    exec_setsField rfl (by decide) (by decide)⟩
  · have hhold : s.getF F.SDL_STAT_STATE ≠ Tb.HOLDOVER := by
      rcases hst with h | h <;> rw [h] <;> decide
    rw [exec_tb0Second_of_no_source freq est func hoff hsec hports hsrc href, if_neg hhold, if_pos hst]
    rfl
  · have hfree : ¬ (s.getF F.SDL_STAT_STATE = Tb.LOCKING ∨ s.getF F.SDL_STAT_STATE = Tb.LOCKED) := by
      rcases hst with h | h <;> rw [h] <;> decide
    refine ⟨_, exec_tb0Second_of_no_source freq est func hoff hsec hports hsrc href, ?_⟩
    simp only [if_neg hfree]
    exact ⟨State.getF_setF_same s F.SDL_STAT_SRC_OK 0 (by decide),
      OnlyFields.setF s F.SDL_STAT_SRC_OK 0 (by decide), rfl⟩
  · rw [State.corrected_state, hlocked, tbNext_locked]
  · rw [State.corrected_state]
    refine tbNext_of_not_locked ?_ off
    rcases hunlocked with h | h <;> rw [h] <;> decide
  · obtain ⟨hslew, hstep⟩ := s.corrected_of_far off est hfar hallowed
    exact ⟨hslew, hstep, s.corrected_pend off est⟩
  · refine exec_tb0StepApply_of_not_due hpend ?_
    rw [State.stepDue_of_slots hrun]
    rcases hwaits with h | h <;> simp [h]
  · refine exec_tb0StepApply_of_permitted hpend ?_ hmay
    rw [State.stepDue_of_slots hrun]
    simp [hslot, hbound]
  · have hwhole := State.stepDue_of_no_slots hrun
    cases hdue : s.reached 0 1000000000
    · rw [exec_tb0StepApply_of_not_due hpend (hwhole.trans hdue)]
      rfl
    · rw [exec_tb0StepApply_of_permitted hpend (hwhole.trans hdue) hmay]
      rfl
  · exact ⟨_, exec_tb0StepApply_of_lapsed hpend hdue hitem hallowed,
      State.getF_setF_same _ F.SDL_STAT_STEP_PEND 0 (by decide),
      OnlyFields.setF _ F.SDL_STAT_STEP_PEND 0 (by decide), rfl⟩

end Sys2Proof.Machine
end

section
/-! SUPPORT. O37: The work items of Sundial. -/
namespace Sys2Proof.Machine

/-! ### SDL_ARM (R247) -/

/-- A compare as an SDL_ARM item writes it. -/
def State.cmpWritten (s : State) (x : Nat) (i : WItem) : State :=
  (((((s.setF (F.SDL_CMP_NS x) (i.arg 1)).setF (F.SDL_CMP_SEC_LO x) (i.arg 2)).setF (F.SDL_CMP_SEC_HI x) (i.arg 3)).setF
    (F.SDL_CMP_PERIOD x) (i.arg 4)).wr (R.SDL_CMP_ACT x) (word (leAt i.payload 0 4 &&& 0xFFFFF37F))).wr
    (R.SDL_CMP_EVT x) (word (leAt i.payload 4 4 &&& 0xF1FFF))

/-- The status of an SDL_ARM item by what its compare's evaluation answers. -/
def armStatus (r : Nat) : Nat := if r = 1 then 0x80 else if r = 2 then 0x81 else St.OK

/-- The time base and the index that an SDL_ARM item names. -/
def WItem.cmpTb (i : WItem) : Nat := bitsOf (i.arg 0) 0 2
def WItem.cmpIndex (i : WItem) : Nat := bitsOf (i.arg 0) 8 5

section
variable {s : State} {wid : Nat} {i : WItem} (hitem : s.active? wid W.SDL_ARM = some i) (hdom : s.domOn 2 = true)
  (hlen : i.payload.length = 8)
include hitem hdom hlen

theorem exec_sdlArm_of_not_may (hmay : s.cmpMay i.cmpTb i.cmpIndex (i.grp = .int) (i.grp ≠ .ns) = false) :
    exec (.sdlArm wid) s = .next (s.finish wid 0x82) := by
  change execSdlArm wid s = _
  rw [execSdlArm, hitem]
  exact congrArg Host.Outcome.next ((if_neg (by simp [hdom])).trans ((if_neg (by simp [hlen])).trans
    (if_pos (by simpa [WItem.cmpTb, WItem.cmpIndex] using hmay))))

variable (hmay : s.cmpMay i.cmpTb i.cmpIndex (i.grp = .int) (i.grp ≠ .ns) = true)
include hmay

theorem exec_sdlArm_of_may : exec (.sdlArm wid) s = .next (
    if (i.arg 0).testBit 16 then
      (s.setF (F.SDL_CMP_CTRL_ARMED (32 * i.cmpTb + i.cmpIndex)) 0).finish wid St.OK
    else if (leAt i.payload 0 4).testBit 1 ∧ !s.mayEvent (i.grp ≠ .ns) (bitsOf (leAt i.payload 4 4) 0 8) then
      s.finish wid 0x83
    else
      let r := (s.cmpWritten (32 * i.cmpTb + i.cmpIndex) i).cmpEval i.cmpTb i.cmpIndex
      r.2.finish wid (armStatus r.1)) := by
  change execSdlArm wid s = _
  rw [execSdlArm, hitem]
  exact congrArg Host.Outcome.next ((if_neg (by simp [hdom])).trans ((if_neg (by simp [hlen])).trans
    (if_neg (by simpa [WItem.cmpTb, WItem.cmpIndex] using hmay))))

theorem exec_sdlArm_of_cancel (hcancel : (i.arg 0).testBit 16 = true) : exec (.sdlArm wid) s =
    .next ((s.setF (F.SDL_CMP_CTRL_ARMED (32 * i.cmpTb + i.cmpIndex)) 0).finish wid St.OK) := by
  rw [exec_sdlArm_of_may hitem hdom hlen hmay, if_pos hcancel]

variable (harm : (i.arg 0).testBit 16 = false)
include harm

theorem exec_sdlArm_of_badEvent (hact : (leAt i.payload 0 4).testBit 1 = true)
    (hevt : s.mayEvent (i.grp ≠ .ns) (bitsOf (leAt i.payload 4 4) 0 8) = false) :
    exec (.sdlArm wid) s = .next (s.finish wid 0x83) := by
  rw [exec_sdlArm_of_may hitem hdom hlen hmay, if_neg (by simp [harm]), if_pos ⟨hact, by rw [hevt]; rfl⟩]

theorem exec_sdlArm_of_armed (hevt : (leAt i.payload 0 4).testBit 1 = false ∨
    s.mayEvent (i.grp ≠ .ns) (bitsOf (leAt i.payload 4 4) 0 8) = true) :
    let r := (s.cmpWritten (32 * i.cmpTb + i.cmpIndex) i).cmpEval i.cmpTb i.cmpIndex
    exec (.sdlArm wid) s = .next (r.2.finish wid (armStatus r.1)) := by
  have hgood : ¬ ((leAt i.payload 0 4).testBit 1 = true ∧
      (!s.mayEvent (i.grp ≠ .ns) (bitsOf (leAt i.payload 4 4) 0 8)) = true) := by
    rintro ⟨hact, hbad⟩
    rcases hevt with h | h
    · exact Bool.false_ne_true (h.symm.trans hact)
    · rw [h] at hbad
      exact Bool.false_ne_true hbad
  rw [exec_sdlArm_of_may hitem hdom hlen hmay, if_neg (by simp [harm]), if_neg hgood]

end

/-! ### SDL_STEER (R248) -/

section
variable {s : State} {wid : Nat} {i : WItem} (hitem : s.active? wid W.SDL_STEER = some i)
include hitem

theorem State.steerItem_of_unknown (h : 3 < i.arg 1) (mode : Nat) (ok : WItem → Bool) (k : WItem → State) :
    s.steerItem wid mode ok k = s.finish wid 0x84 := by
  rw [State.steerItem, hitem]
  exact if_pos h

variable {mode : Nat} (hm : mode ≤ 3) (hmode : i.arg 1 = mode) {ok : WItem → Bool}
include hm hmode

theorem State.steerItem_of_mode (k : WItem → State) :
    s.steerItem wid mode ok k = if !ok i then s.finish wid 0x84 else k i := by
  rw [State.steerItem, hitem]
  exact (if_neg (by omega)).trans (if_neg (not_not.2 hmode))

theorem State.steerItem_of_refused (hok : ok i = false) (k : WItem → State) :
    s.steerItem wid mode ok k = s.finish wid 0x84 := by
  rw [State.steerItem_of_mode hitem hm hmode, if_pos (by rw [hok]; rfl)]

theorem State.steerItem_of_permitted (hok : ok i = true) (k : WItem → State) : s.steerItem wid mode ok k = k i := by
  rw [State.steerItem_of_mode hitem hm hmode, hok]
  rfl

end

/-! ### The modes -/

/-- The time of day that an SDL_STEER item gives, in whole seconds. -/
def WItem.steerSec (i : WItem) : Nat := i.arg 3 + 2 ^ 32 * bitsOf (i.arg 4) 0 16

/-- The time that an SDL_STEER item steps to, ns. -/
def WItem.steerTime (i : WItem) : Int := ((i.steerSec * 1000000000 + i.arg 2 : Nat) : Int)

section
variable {s : State} {wid : Nat} {i : WItem} (hitem : s.active? wid W.SDL_STEER = some i)
include hitem

theorem exec_sdlSteerRate_of_unknown (h : 3 < i.arg 1) : exec (.sdlSteerRate wid) s = .next (s.finish wid 0x84) :=
  congrArg Host.Outcome.next (State.steerItem_of_unknown hitem h _ _ _)

theorem exec_sdlSteerRate_of_mode (hmode : i.arg 1 = 0) : exec (.sdlSteerRate wid) s = .next
    (if bitsOf (i.arg 0) 0 2 = 3 then
      ((s.updSdl (fun d => { d with userAdj := (BitVec.ofNat 32 (i.arg 2)).toInt })).retimeAll).finish wid St.OK
    else s.finish wid 0x84) := by
  refine congrArg Host.Outcome.next ?_
  split_ifs with htb
  · exact State.steerItem_of_permitted hitem (by decide) hmode (decide_eq_true htb) _
  · exact State.steerItem_of_refused hitem (by decide) hmode (decide_eq_false htb) _

section
variable (hmode : i.arg 1 = 1)
include hmode

theorem exec_sdlSteerSlew_of_other (htb : bitsOf (i.arg 0) 0 2 ≠ 3) :
    exec (.sdlSteerSlew wid) s = .next (s.finish wid 0x84) :=
  congrArg Host.Outcome.next (State.steerItem_of_refused hitem (by decide) hmode (decide_eq_false htb) _)

variable (htb : bitsOf (i.arg 0) 0 2 = 3)
include htb

theorem exec_sdlSteerSlew_of_badRate (hrate : i.arg 3 = 0 ∨ 500000 < i.arg 3) :
    exec (.sdlSteerSlew wid) s = .next (s.finish wid St.BAD_ARG) :=
  congrArg Host.Outcome.next ((State.steerItem_of_permitted hitem (by decide) hmode (decide_eq_true htb) _).trans
    (if_pos hrate))

theorem exec_sdlSteerSlew_of_rate (hlo : 1 ≤ i.arg 3) (hhi : i.arg 3 ≤ 500000) :
    let off := (BitVec.ofNat 32 (i.arg 2)).toInt
    let u := (i.arg 3 : Int) * 65536 / 1000
    exec (.sdlSteerSlew wid) s = .next ((s.updSdl (fun d => { d with
      slew3 := if off = 0 then 0 else if 0 < off then -u else u
      slew3Left := off, slew3Frc := s.now })).retimeAll.finish wid St.OK) :=
  congrArg Host.Outcome.next ((State.steerItem_of_permitted hitem (by decide) hmode (decide_eq_true htb) _).trans
    (if_neg (by omega)))

end

section
variable (hmode : i.arg 1 = 2)
include hmode

theorem exec_sdlSteerStep_of_tb3 (htb : bitsOf (i.arg 0) 0 2 = 3) :
    exec (.sdlSteerStep wid) s = .next ((((s.updSdl (fun d => { d with
      tbs := d.tbs.set 3 ⟨s.now, i.steerTime * 65536, (s.sdl.tbs.getD 3 {}).adj⟩ })).setF
        (F.SDL_TBk_STAT_STEPPED 3) 1).cmpStep 3).finish wid St.OK) :=
  congrArg Host.Outcome.next ((State.steerItem_of_permitted hitem (by decide) hmode (by simp [htb]) _).trans
    (if_neg (by simp [htb])))

theorem exec_sdlSteerStep_of_tb0 (htb : bitsOf (i.arg 0) 0 2 = 0) (hsrc : s.tb0Src = 1)
    (hallowed : s.flag F.SDL_CTRL_STEP_ALLOWED = true) :
    exec (.sdlSteerStep wid) s = .next (((s.updSdl (fun d => { d with
      stepBy := some (i.steerTime - s.tbRaw 0 / 65536), stepItem := true })).setF F.SDL_STAT_STEP_PEND 1).finish
        wid St.OK) :=
  congrArg Host.Outcome.next ((State.steerItem_of_permitted hitem (by decide) hmode
    (by simp [htb, hsrc, hallowed]) _).trans (if_pos htb))

theorem exec_sdlSteerStep_of_other (htb : bitsOf (i.arg 0) 0 2 = 1 ∨ bitsOf (i.arg 0) 0 2 = 2 ∨
    (bitsOf (i.arg 0) 0 2 = 0 ∧ (s.tb0Src ≠ 1 ∨ s.flag F.SDL_CTRL_STEP_ALLOWED = false))) :
    exec (.sdlSteerStep wid) s = .next (s.finish wid 0x84) := by
  refine congrArg Host.Outcome.next (State.steerItem_of_refused hitem (by decide) hmode ?_ _)
  rcases htb with h | h | ⟨h, hsrc | hforbidden⟩
  · simp [h]
  · simp [h]
  · simp [h, hsrc]
  · simp [h, hforbidden]

end

section
variable (hmode : i.arg 1 = 3)
include hmode

theorem exec_sdlSteerTod_of_tb0 (htb : bitsOf (i.arg 0) 0 2 = 0) (hsrc : s.tb0Src = 1) :
    exec (.sdlSteerTod wid) s = .next ((s.updSdl (fun d => { d with todAt := some i.steerSec })).finish wid St.OK) :=
  congrArg Host.Outcome.next (State.steerItem_of_permitted hitem (by decide) hmode (by simp [htb, hsrc]) _)

theorem exec_sdlSteerTod_of_other (h : bitsOf (i.arg 0) 0 2 ≠ 0 ∨ s.tb0Src ≠ 1) :
    exec (.sdlSteerTod wid) s = .next (s.finish wid 0x84) := by
  refine congrArg Host.Outcome.next (State.steerItem_of_refused hitem (by decide) hmode ?_ _)
  rcases h with h | h <;> simp [h]

end
end

/-! ### TB3's slew ends (R220) -/

section
variable {s : State}

theorem State.slewOver_iff : s.slewOver = true ↔
    s.sdl.slew3Left.natAbs * (26000 * 65536) ≤ (s.now - s.sdl.slew3Frc) * s.sdl.slew3.natAbs := decide_eq_true_iff

theorem exec_tbSlewDone_of_over (hslew : s.sdl.slew3 ≠ 0) (hover : s.slewOver = true) : exec .tbSlewDone s =
    .next ((s.updSdl (fun d => { d with slew3 := 0, slew3Left := 0 })).retimeAll) :=
  congrArg Host.Outcome.next (if_neg (by simp [hslew, hover]))

theorem exec_tbSlewDone_of_running (hover : s.slewOver = false) : exec .tbSlewDone s = .next s :=
  congrArg Host.Outcome.next (if_pos (.inr (by rw [hover]; rfl)))

end

/-- Settles O37: an arm by its compare's owner and its event, a steer by its mode and its time base. -/
theorem sundialWorkItems : Obligations.SundialWorkItems := by
  unfold Obligations.SundialWorkItems
  intro wid i s
  refine ⟨fun hitem hdom hlen => ⟨exec_sdlArm_of_not_may hitem hdom hlen, fun hmay => ⟨fun hcancel => ?_,
      exec_sdlArm_of_badEvent hitem hdom hlen hmay, exec_sdlArm_of_armed hitem hdom hlen hmay⟩⟩,
    fun hitem => ⟨exec_sdlSteerRate_of_unknown hitem, exec_sdlSteerRate_of_mode hitem,
      exec_sdlSteerSlew_of_other hitem, exec_sdlSteerSlew_of_badRate hitem, exec_sdlSteerSlew_of_rate hitem,
      fun hmode htb hsrc hallowed => ?_, exec_sdlSteerStep_of_tb3 hitem, exec_sdlSteerStep_of_other hitem,
      exec_sdlSteerTod_of_tb0 hitem, exec_sdlSteerTod_of_other hitem⟩,
    fun hslew => ⟨fun hended => exec_tbSlewDone_of_over hslew (State.slewOver_iff.2 hended),
      fun hruns => exec_tbSlewDone_of_running (Bool.eq_false_iff.2 fun h => hruns (State.slewOver_iff.1 h))⟩⟩
  · refine ⟨_, exec_sdlArm_of_cancel hitem hdom hlen hmay hcancel, ?_, ?_, rfl⟩
    · exact State.getF_setF_same s _ 0 (by simp)
    · exact OnlyFields.setF s _ 0 (by simp)
  · refine ⟨_, exec_sdlSteerStep_of_tb0 hitem hmode htb hsrc hallowed, ?_, rfl, ?_, rfl⟩
    · exact State.getF_setF_same _ F.SDL_STAT_STEP_PEND 1 (by decide)
    · exact OnlyFields.setF _ F.SDL_STAT_STEP_PEND 1 (by decide)

end Sys2Proof.Machine
end

section
/-! SUPPORT. A channel's events, the searches of a partition and the BV work items (O51), a rule for each. -/
namespace Sys2Proof.Machine

/-! ### A channel's events (R259) -/

section
variable {s : State} {c : Nat} {x : BvChan}

theorem State.chanIn_of_none (h : s.chan? c = none) (ok : BvChan → Bool) (k : BvChan → State) : s.chanIn c ok k = s := by
  rw [State.chanIn, h]

section
variable (hx : s.chan? c = some x) {ok : BvChan → Bool}
include hx

theorem State.chanIn_of_tracked (hon : s.bvOn = true) (hsus : s.suspended x = false) (k : BvChan → State) :
    s.chanIn c ok k = if ok x = true then k x else s := by
  simp [State.chanIn, hx, hon, hsus]

theorem State.chanIn_of_moves (hon : s.bvOn = true) (hsus : s.suspended x = false) (hok : ok x = true)
    (k : BvChan → State) : s.chanIn c ok k = k x := by
  rw [State.chanIn_of_tracked hx hon hsus, if_pos hok]

theorem State.chanIn_of_stays (h : ok x = false ∨ s.suspended x = true) (k : BvChan → State) : s.chanIn c ok k = s := by
  rcases h with h | h <;> simp [State.chanIn, hx, h]

theorem State.ch_of_chan? : x.ch = c := of_decide_eq_true (List.find?_some hx :)

end

/-- An event that moves a channel where `ok` holds, which asks for one of the states `from_`. -/
theorem channelMoves_of_chanIn {cmd : Instr} {from_ : List Nat} {f : State → BvChan → State} {ok : BvChan → Bool}
    {k : BvChan → State} (hexec : exec cmd s = .next (s.chanIn c ok k))
    (hin : ∀ x, x.state ∈ from_ → (if ok x = true then k x else s) = f s x)
    (hout : ∀ x, x.state ∉ from_ → ok x = false) : ChannelMoves c cmd from_ f s := by
  refine ⟨fun x hx hon hsus hst => ?_, fun x hx h => ?_, fun hx => ?_⟩
  · rw [hexec, State.chanIn_of_tracked hx hon hsus, hin x hst]
  · rw [hexec, State.chanIn_of_stays hx (h.imp_left (hout x))]
  · rw [hexec, State.chanIn_of_none hx]

/-- An event whose only condition is the channel's state. -/
theorem channelMoves_of_state {cmd : Instr} {from_ : List Nat} {f : State → BvChan → State} {ok : BvChan → Bool}
    (hexec : exec cmd s = .next (s.chanIn c ok (f s))) (hok : ∀ x, ok x = true ↔ x.state ∈ from_) :
    ChannelMoves c cmd from_ f s :=
  channelMoves_of_chanIn hexec (fun x hst => if_pos ((hok x).2 hst))
    fun x hst => Bool.eq_false_iff.2 (mt (hok x).1 hst)

/-- An event of one state that also waits for a time to pass. -/
theorem channelMoves_of_since {cmd : Instr} {st : Nat} {us : State → Nat} {f : State → BvChan → State}
    (hexec : exec cmd s = .next (s.chanIn c (fun x => decide (x.state = st) && s.since x.since (us s)) (f s))) :
    ChannelMoves c cmd [st] (fun s x => if s.since x.since (us s) = true then f s x else s) s :=
  channelMoves_of_chanIn hexec (fun x hst => by simp [List.mem_singleton.1 hst])
    fun x hst => by simp [mt List.mem_singleton.2 hst]

/-! ### The channels after a channel is set or freed -/

theorem State.chan?_idleChan_same (s : State) (c : Nat) : (s.idleChan c).chan? c = none := by
  simp [State.idleChan, State.chan?]

theorem State.chan?_setChan_state (s : State) (x : BvChan) :
    ((s.setChan x).chan? x.ch).map (·.state) = some x.state := by
  have hrest : (s.bv.chans.filter (·.ch ≠ x.ch)).find? (·.ch = x.ch) = none := by simp
  unfold State.setChan
  generalize (s.chan? x.ch).any (fun o => o.state = x.state) = kept
  rw [State.chan?, State.updBv_bv, List.find?_append, hrest]
  cases kept <;> simp

/-! ### A code in no partition (R256, R257) -/

theorem State.searchFor_of_noPart (h : s.partOf? x.sig = none) (cls : Nat) : s.searchFor cls x = none := by
  simp [State.searchFor, h]

theorem State.searchFor_of_part (h : (s.partOf? x.sig).isSome = true) (cls : Nat) : s.searchFor cls x =
    some { cls := cls, sys := x.sys, svid := x.svid, sig := x.sig, ch := some x.ch } := by
  simp [State.searchFor, ← Option.not_isSome, h]

theorem State.pullInLost_of_noPart (h : s.partOf? x.sig = none) : s.pullInLost x = s.idleChan x.ch := by
  rw [State.pullInLost, State.searchFor_of_noPart h]

theorem State.pullInLost_of_part (h : (s.partOf? x.sig).isSome = true) : s.pullInLost x =
    (s.setChan { x with state := Ch.SEARCH }).queueSearch
      { cls := 4, sys := x.sys, svid := x.svid, sig := x.sig, ch := some x.ch } := by
  rw [State.pullInLost, State.searchFor_of_part h]

theorem State.trackLost_of_noPart (h : s.partOf? x.sig = none) :
    s.trackLost x = s.setChan { x with state := Ch.LOST, lockFrc := none } := by
  rw [State.trackLost, State.searchFor_of_noPart h]

theorem State.trackLost_of_part (h : (s.partOf? x.sig).isSome = true) : s.trackLost x =
    (s.setChan { x with state := Ch.LOST, lockFrc := none }).queueSearch
      { cls := 1, sys := x.sys, svid := x.svid, sig := x.sig, ch := some x.ch } := by
  rw [State.trackLost, State.searchFor_of_part h]

/-! ### A side peak and the float pool (R258, R260) -/

section
variable (hx : s.chan? c = some x)
include hx

theorem exec_chSidePeak_of_locked (hon : s.bvOn = true) (hsus : s.suspended x = false) (hsig : x.sig ∈ [1, 4, 9, 16])
    (hst : x.state = Ch.CODE_LOCK ∨ x.state = Ch.PHASE_LOCK) : exec (.chSidePeak c) s = .next (s.setChan x.slipped) :=
  congrArg Host.Outcome.next (State.chanIn_of_moves hx hon hsus (Bool.and_eq_true_iff.2
    ⟨List.contains_iff_mem.2 hsig, by simpa using hst⟩) _)

theorem exec_chSidePeak_of_other (hsig : x.sig ∉ [1, 4, 9, 16]) : exec (.chSidePeak c) s = .next s :=
  congrArg Host.Outcome.next (State.chanIn_of_stays hx (.inl (Bool.and_eq_false_iff.2
    (.inl (Bool.eq_false_iff.2 (mt List.contains_iff_mem.1 hsig))))) _)

theorem exec_floatChRelease_of_low (hon : s.bvOn = true) (hsus : s.suspended x = false) (hfloat : x.float = true)
    (hlow : x.elev < s.elevMask) {f : Nat} (hf : x.lowFrc = some f) : exec (.floatChRelease c) s =
      .next (if s.since f 60000000 = true then ((s.idleChan c).dropSearch c).handoverAll else s) := by
  have hok : (x.float && decide (x.elev < s.elevMask) && x.lowFrc.any (fun f => s.since f 60000000)) =
      s.since f 60000000 := by
    rw [hfloat, decide_eq_true hlow, hf, Bool.true_and, Bool.true_and, Option.any_some]
  change execFloatChRelease c s = _
  rw [execFloatChRelease, State.chanIn_of_tracked hx hon hsus, hok, State.releaseChan]

theorem exec_floatChRelease_of_kept (h : x.float = false ∨ s.elevMask ≤ x.elev) :
    exec (.floatChRelease c) s = .next s := by
  refine congrArg Host.Outcome.next (State.chanIn_of_stays hx (.inl ?_) _)
  rcases h with h | h
  · simp [h]
  · simp [Nat.not_lt.2 h]

end
end

/-! ### A search starts (R255, R257) -/

/-- A search starts as the state before it was taken tells: that hangs on no pending search. -/
theorem State.runSearch_dequeue (s : State) (p : Nat) (q : BvSearch) :
    (s.updBv (fun b => { b with searches := b.searches.erase q })).runSearch p q = { s with bv := { s.bv with
      searches := s.bv.searches.erase q
      running := s.bv.running ++ [(p, { q with cls := s.clsNow q, aided := q.wid.isNone && s.aids q.sys q.svid
                                               centre := s.centreOf q, start := s.now })] } } := rfl

section
variable {s : State} {p : Nat} (hon : s.bvOn = true)
  (hfree : s.bv.running.any (fun r => decide (r.1 = p)) = false)
include hon hfree

theorem exec_searchStart_of_free (sky : Option SkyAim) : exec (.searchStart p sky) s = .next
    (match s.nextSearch p, sky with
      | some q, _ =>
        if s.domOn 5 then (s.updBv (fun b => { b with searches := b.searches.erase q })).runSearch p q
        else s.domEvent 5 .work
      | none, some aim => (s.noteSky [aim]).skySearch p aim
      | none, none => s) :=
  congrArg Host.Outcome.next (if_neg (by simp only [hon, hfree]; decide))

section
variable {q : BvSearch} (hq : s.nextSearch p = some q)
include hq

theorem exec_searchStart_of_on (h5 : s.domOn 5 = true) (sky : Option SkyAim) : exec (.searchStart p sky) s =
    .next ((s.updBv (fun b => { b with searches := b.searches.erase q })).runSearch p q) := by
  rw [exec_searchStart_of_free hon hfree, hq]
  exact congrArg Host.Outcome.next (if_pos h5)

theorem exec_searchStart_of_off (h5 : s.domOn 5 = false) (sky : Option SkyAim) : exec (.searchStart p sky) s =
    .next (s.domEvent 5 .work) := by
  rw [exec_searchStart_of_free hon hfree, hq]
  exact congrArg Host.Outcome.next (if_neg (Bool.eq_false_iff.1 h5))

end

section
variable (hq : s.nextSearch p = none)
include hq

theorem exec_searchStart_of_idle : exec (.searchStart p none) s = .next s := by
  rw [exec_searchStart_of_free hon hfree, hq]

theorem exec_searchStart_of_sky (aim : SkyAim) : exec (.searchStart p (some aim)) s =
    .next ((s.noteSky [aim]).skySearch p aim) := by
  rw [exec_searchStart_of_free hon hfree, hq]

end
end

/-! ### A search ends (R254, R259, R279) -/

/-- A search of a partition that runs no longer: it counts, and the idle time of D5 starts. -/
def State.searchOver (s : State) (p : Nat) : State :=
  ((s.updBv (fun b => { b with running := b.running.filter (·.1 ≠ p) })).incF F.BV_ACQ_STAT_DONE).idleStart 5

theorem State.searchOver_chan? (s : State) (p c : Nat) : (s.searchOver p).chan? c = s.chan? c := by
  simp [State.searchOver, State.idleStart, State.chan?]

section
variable {s : State} {p : Nat} {q : BvSearch} {ds : List Detection}
  (hrun : s.bv.running.find? (fun r => decide (r.1 = p)) = some (p, q))
include hrun

theorem exec_searchDone_of_not (h : s.since q.start (1000 * s.searchMs p q) = false ∨ ds.all (s.detects p q) = false) :
    exec (.searchDone p ds) s = .next s := by
  change execSearchDone p ds s = _
  rw [execSearchDone, hrun]
  refine congrArg Host.Outcome.next (if_pos ?_)
  rcases h with h | h
  · exact .inr (.inr (by rw [h]; rfl))
  · exact .inl (by rw [h]; rfl)

variable (hover : s.since q.start (1000 * s.searchMs p q) = true) (hall : ds.all (s.detects p q) = true)
  (hnd : (ds.map (·.svid)).Nodup)
include hover hall hnd

theorem exec_searchDone_of_over : exec (.searchDone p ds) s = .next
    (match q.ch, q.wid with
      | some c, _ =>
        match (s.searchOver p).chan? c with
        | none => s.searchOver p
        | some x =>
          if ds ≠ [] then (s.searchOver p).setChan { x with state := Ch.PULL_IN }
          else if x.state = Ch.LOST then (s.searchOver p).queueSearch q
          else ((s.searchOver p).idleChan c).handoverAll
      | none, some w =>
        (ds.foldl (fun t d => t.detected (s.partAnt p) q.sys d.svid q.sig) (s.searchOver p)).finish w St.OK
          (searchResult ds)
      | none, none => s.searchOver p) := by
  change execSearchDone p ds s = _
  rw [execSearchDone, hrun]
  exact congrArg Host.Outcome.next (if_neg (by simp only [hover, hall, hnd]; decide))

theorem exec_searchDone_of_item {w : Nat} (hch : q.ch = none) (hw : q.wid = some w) : exec (.searchDone p ds) s =
    .next ((ds.foldl (fun t d => t.detected (s.partAnt p) q.sys d.svid q.sig) (s.searchOver p)).finish w St.OK
      (searchResult ds)) := by
  rw [exec_searchDone_of_over hrun hover hall hnd, hch, hw]

variable {c : Nat} {x : BvChan} (hch : q.ch = some c) (hx : s.chan? c = some x)
include hch hx

theorem exec_searchDone_of_chan : exec (.searchDone p ds) s = .next
    (if ds ≠ [] then (s.searchOver p).setChan { x with state := Ch.PULL_IN }
      else if x.state = Ch.LOST then (s.searchOver p).queueSearch q
      else ((s.searchOver p).idleChan c).handoverAll) := by
  rw [exec_searchDone_of_over hrun hover hall hnd, hch]
  simp only [State.searchOver_chan?, hx]

theorem exec_searchDone_of_found (hds : ds ≠ []) : exec (.searchDone p ds) s =
    .next ((s.searchOver p).setChan { x with state := Ch.PULL_IN }) := by
  rw [exec_searchDone_of_chan hrun hover hall hnd hch hx, if_pos hds]

theorem exec_searchDone_of_missed (hds : ds = []) (hst : x.state ≠ Ch.LOST) : exec (.searchDone p ds) s =
    .next (((s.searchOver p).idleChan c).handoverAll) := by
  rw [exec_searchDone_of_chan hrun hover hall hnd hch hx, if_neg (not_not.2 hds), if_neg hst]

theorem exec_searchDone_of_lost (hds : ds = []) (hst : x.state = Ch.LOST) : exec (.searchDone p ds) s =
    .next ((s.searchOver p).queueSearch q) := by
  rw [exec_searchDone_of_chan hrun hover hall hnd hch hx, if_neg (not_not.2 hds), if_pos hst]

end

/-! ### BV_SURVEY (R278) -/

/-- A limit of a survey-in: argument `n` of the item, or where that is 0 the base plan's, at offset `o`. -/
def State.surveyLimit (s : State) (i : WItem) (n o : Nat) : Nat :=
  if i.arg n = 0 then leAt (s.sec T.BASE_POS) o 4 else i.arg n

/-- The ranges of BASE_POS. -/
def SurveyLimitsOk (lo hi acc : Nat) : Prop :=
  60 ≤ lo ∧ lo ≤ 86400 ∧ lo ≤ hi ∧ hi ≤ 604800 ∧ 5 ≤ acc ∧ acc ≤ 10000

section
variable {s : State} {wid : Nat} {i : WItem} (hitem : s.active? wid W.BV_SURVEY = some i)
include hitem

theorem State.surveyItem_of_unknown (h : 3 < i.arg 0) (mode : Nat) (k : WItem → State) :
    s.surveyItem wid mode k = s.finish wid St.BAD_ARG := by
  rw [State.surveyItem, hitem]
  exact if_pos h

section
variable {mode : Nat} (hm : mode ≤ 3) (hmode : i.arg 0 = mode)
include hm hmode

theorem State.surveyItem_of_mode (k : WItem → State) :
    s.surveyItem wid mode k = if mode ≠ 2 ∧ s.fleetBars = true then s.finish wid 0x83 else k i := by
  rw [State.surveyItem, hitem]
  exact (if_neg (by omega)).trans (if_neg (not_not.2 hmode))

theorem State.surveyItem_of_barred (h2 : mode ≠ 2) (hbars : s.fleetBars = true) (k : WItem → State) :
    s.surveyItem wid mode k = s.finish wid 0x83 := by
  rw [State.surveyItem_of_mode hitem hm hmode, if_pos ⟨h2, hbars⟩]

theorem State.surveyItem_of_free (hbars : s.fleetBars = false) (k : WItem → State) : s.surveyItem wid mode k = k i := by
  rw [State.surveyItem_of_mode hitem hm hmode, if_neg (by simp [hbars])]

end

theorem exec_bvSurveyAbort_of_mode (hmode : i.arg 0 = 2) : exec (.bvSurveyAbort wid) s = .next
    (match s.bv.survey with
      | some v => (s.endSurvey v.before true).finish wid St.OK
      | none => s.finish wid St.OK) := by
  refine congrArg Host.Outcome.next ((State.surveyItem_of_mode hitem (by decide) hmode _).trans ?_)
  exact if_neg (by simp)

theorem exec_bvSurveyAbort_of_none (hmode : i.arg 0 = 2) (hnone : s.bv.survey = none) :
    exec (.bvSurveyAbort wid) s = .next (s.finish wid St.OK) := by
  rw [exec_bvSurveyAbort_of_mode hitem hmode, hnone]

theorem exec_bvSurveyAbort_of_some (hmode : i.arg 0 = 2) {v : Survey} (hv : s.bv.survey = some v) :
    exec (.bvSurveyAbort wid) s = .next ((s.endSurvey v.before true).finish wid St.OK) := by
  rw [exec_bvSurveyAbort_of_mode hitem hmode, hv]

variable (hbars : s.fleetBars = false)
include hbars

theorem exec_bvSurveyStart_of_running (hmode : i.arg 0 = 0) (hrun : s.getF F.BV_STAT_SURVEY = 1) :
    exec (.bvSurveyStart wid) s = .next (s.finish wid 0x80) :=
  congrArg Host.Outcome.next ((State.surveyItem_of_free hitem (by decide) hmode hbars _).trans (if_pos hrun))

theorem exec_bvSurveyStart_of_idle (hmode : i.arg 0 = 0) (hrun : s.getF F.BV_STAT_SURVEY ≠ 1) :
    let lo := s.surveyLimit i 1 4
    let hi := s.surveyLimit i 2 8
    let acc := s.surveyLimit i 3 12
    exec (.bvSurveyStart wid) s = .next
      (if lo < 60 ∨ 86400 < lo ∨ hi < lo ∨ 604800 < hi ∨ acc < 5 ∨ 10000 < acc then s.finish wid St.BAD_ARG
        else ((s.startSurvey lo hi acc).bvEvent 5 0 1).finish wid St.OK) :=
  congrArg Host.Outcome.next ((State.surveyItem_of_free hitem (by decide) hmode hbars _).trans (if_neg hrun))

theorem exec_bvSurveyStart_of_within (hmode : i.arg 0 = 0) (hrun : s.getF F.BV_STAT_SURVEY ≠ 1)
    (h : SurveyLimitsOk (s.surveyLimit i 1 4) (s.surveyLimit i 2 8) (s.surveyLimit i 3 12)) :
    exec (.bvSurveyStart wid) s = .next (((s.startSurvey (s.surveyLimit i 1 4) (s.surveyLimit i 2 8)
      (s.surveyLimit i 3 12)).bvEvent 5 0 1).finish wid St.OK) := by
  unfold SurveyLimitsOk at h
  exact (exec_bvSurveyStart_of_idle hitem hbars hmode hrun).trans (congrArg Host.Outcome.next (if_neg (by omega)))

theorem exec_bvSurveyStart_of_beyond (hmode : i.arg 0 = 0) (hrun : s.getF F.BV_STAT_SURVEY ≠ 1)
    (h : ¬ SurveyLimitsOk (s.surveyLimit i 1 4) (s.surveyLimit i 2 8) (s.surveyLimit i 3 12)) :
    exec (.bvSurveyStart wid) s = .next (s.finish wid St.BAD_ARG) := by
  unfold SurveyLimitsOk at h
  exact (exec_bvSurveyStart_of_idle hitem hbars hmode hrun).trans (congrArg Host.Outcome.next (if_pos (by omega)))

theorem exec_bvSurveySet_of_running (hmode : i.arg 0 = 1) (hrun : s.getF F.BV_STAT_SURVEY = 1) :
    exec (.bvSurveySet wid) s = .next (s.finish wid 0x80) :=
  congrArg Host.Outcome.next ((State.surveyItem_of_free hitem (by decide) hmode hbars _).trans (if_pos hrun))

theorem exec_bvSurveySet_of_position (hmode : i.arg 0 = 1) (hrun : s.getF F.BV_STAT_SURVEY ≠ 1)
    (hlen : i.payload.length = 24) : exec (.bvSurveySet wid) s =
      .next ((((s.setPos s.ant (some (xyz i.payload 0))).setF F.BV_STAT_SURVEY 3).bvEvent 5 0 3).finish wid St.OK) :=
  congrArg Host.Outcome.next ((State.surveyItem_of_free hitem (by decide) hmode hbars _).trans
    ((if_neg hrun).trans (if_neg (not_not.2 hlen))))

section
variable (hmode : i.arg 0 = 3) (hant : i.arg 1 = 1 ∨ i.arg 1 = 2) (hrole : s.bvRole = 1)
include hmode hant hrole

theorem exec_bvSurveySelectAnt_of_base : exec (.bvSurveySelectAnt wid) s = .next
    (if (s.bv.pos.getD (i.arg 1 - 1) none).isNone = true then s.finish wid 0x81
      else if s.getF (antState (i.arg 1 - 1)) ≠ 1 then s.finish wid 0x82
      else if s.ant = i.arg 1 - 1 then s.finish wid St.OK
      else (s.switchAnt (i.arg 1 - 1)).finish wid St.OK) :=
  congrArg Host.Outcome.next ((State.surveyItem_of_free hitem (by decide) hmode hbars _).trans (if_neg (by omega)))

theorem exec_bvSurveySelectAnt_of_noPos (hpos : s.bv.pos.getD (i.arg 1 - 1) none = none) :
    exec (.bvSurveySelectAnt wid) s = .next (s.finish wid 0x81) := by
  rw [exec_bvSurveySelectAnt_of_base hitem hbars hmode hant hrole, if_pos (Option.isNone_iff_eq_none.2 hpos)]

variable (hpos : (s.bv.pos.getD (i.arg 1 - 1) none).isSome = true)
include hpos

theorem exec_bvSurveySelectAnt_of_trouble (hst : s.getF (antState (i.arg 1 - 1)) ≠ 1) :
    exec (.bvSurveySelectAnt wid) s = .next (s.finish wid 0x82) := by
  rw [exec_bvSurveySelectAnt_of_base hitem hbars hmode hant hrole,
    if_neg (by rw [← Option.not_isSome, hpos]; decide), if_pos hst]

theorem exec_bvSurveySelectAnt_of_normal (hst : s.getF (antState (i.arg 1 - 1)) = 1) :
    exec (.bvSurveySelectAnt wid) s =
      .next ((if s.ant = i.arg 1 - 1 then s else s.switchAnt (i.arg 1 - 1)).finish wid St.OK) := by
  rw [exec_bvSurveySelectAnt_of_base hitem hbars hmode hant hrole,
    if_neg (by rw [← Option.not_isSome, hpos]; decide), if_neg (not_not.2 hst),
    apply_ite (fun t : State => t.finish wid St.OK)]

end
end

/-! ### BV_SEARCH (R279) -/

/-- The signal code that a BV_SEARCH item names. -/
def WItem.searchSig (i : WItem) : Nat := bitsOf (i.arg 0) 16 5
/-- The system that it names. -/
def WItem.searchSys (i : WItem) : Nat := bitsOf (i.arg 0) 0 3
/-- The SVID that it names, 0 for all. -/
def WItem.searchSvid (i : WItem) : Nat := bitsOf (i.arg 0) 8 8

/-- A BV_SEARCH item names a signal of its system, a satellite of it or all, and valid integration times. -/
def WItem.SearchOk (i : WItem) : Prop :=
  i.searchSig ≤ 21 ∧ sigSys.getD i.searchSig 7 = i.searchSys ∧
    (i.searchSvid = 0 ∨ svidOk i.searchSys i.searchSvid = true) ∧ cohOk i.searchSig (bitsOf (i.arg 3) 0 8) = true ∧
    bitsOf (i.arg 3) 8 8 ≤ 64

/-- The search that a BV_SEARCH item asks for. -/
def WItem.searchOf (i : WItem) (wid : Nat) : BvSearch where
  cls := 2
  sys := i.searchSys
  svid := i.searchSvid
  sig := i.searchSig
  wid := some wid
  centre := some (BitVec.ofNat 32 (i.arg 1)).toInt
  span := i.arg 2
  coh := bitsOf (i.arg 3) 0 8
  noncoh := bitsOf (i.arg 3) 8 8

section
variable {s : State} {wid k : Nat} {i : WItem} (hitem : s.active? wid W.BV_SEARCH = some i) (hrun : i.phase = .running k)
include hitem hrun

theorem exec_bvSearch_of_running : exec (.bvSearch wid) s = .next
    (if 21 < i.searchSig ∨ sigSys.getD i.searchSig 7 ≠ i.searchSys ∨
        (i.searchSvid ≠ 0 ∧ ¬ svidOk i.searchSys i.searchSvid = true) ∨
        ¬ cohOk i.searchSig (bitsOf (i.arg 3) 0 8) = true ∨ 64 < bitsOf (i.arg 3) 8 8
      then s.finish wid St.BAD_ARG
      else if (s.partOf? i.searchSig).isNone = true then s.finish wid 0x84
      else (s.queueSearch (i.searchOf wid)).park wid) := by
  change execBvSearch wid s = _
  simp only [execBvSearch, hitem, hrun]
  rfl

theorem exec_bvSearch_of_bad (h : ¬ i.SearchOk) : exec (.bvSearch wid) s = .next (s.finish wid St.BAD_ARG) := by
  rw [exec_bvSearch_of_running hitem hrun, if_pos]
  unfold WItem.SearchOk at h
  grind

theorem exec_bvSearch_of_ok (h : i.SearchOk) : exec (.bvSearch wid) s = .next
    (if (s.partOf? i.searchSig).isNone = true then s.finish wid 0x84 else (s.queueSearch (i.searchOf wid)).park wid) := by
  rw [exec_bvSearch_of_running hitem hrun, if_neg]
  unfold WItem.SearchOk at h
  grind

theorem exec_bvSearch_of_noPart (h : i.SearchOk) (hpart : s.partOf? i.searchSig = none) :
    exec (.bvSearch wid) s = .next (s.finish wid 0x84) := by
  rw [exec_bvSearch_of_ok hitem hrun h, if_pos (Option.isNone_iff_eq_none.2 hpart)]

theorem exec_bvSearch_of_part (h : i.SearchOk) (hpart : (s.partOf? i.searchSig).isSome = true) :
    exec (.bvSearch wid) s = .next ((s.queueSearch (i.searchOf wid)).park wid) := by
  rw [exec_bvSearch_of_ok hitem hrun h, if_neg (by rw [← Option.not_isSome, hpart]; decide)]

end

end Sys2Proof.Machine
end

section
/-! O51. -/
namespace Sys2Proof.Machine

/-- Settles O51: a channel's events by its state, a search by its end, the BV items by their first refusal. -/
theorem channelsAndSearches : Obligations.ChannelsAndSearches := by
  unfold Obligations.ChannelsAndSearches
  intro c s
  refine ⟨?pullInLock, ?pullInTimeout, ?lost, fun x => ⟨fun h => ?noPart, fun h => ?part⟩, ?phaseLock, ?phaseSlip,
    fun x hx => ⟨exec_chSidePeak_of_locked hx, exec_chSidePeak_of_other hx⟩, ?reacqExpiry,
    fun x f hx hon hsus hfloat hlow hf => exec_floatChRelease_of_low hx hon hsus hfloat hlow hf,
    fun x hx => exec_floatChRelease_of_kept hx, fun p hon hfree => ?start, fun p q ds hrun => ?done,
    fun wid i hitem => ?survey, fun wid i k hitem hrun => ?search⟩
  case pullInLock => exact channelMoves_of_state rfl (by simp)
  case pullInTimeout => exact channelMoves_of_since rfl
  case lost => exact channelMoves_of_state rfl (by simp)
  case noPart => exact ⟨State.pullInLost_of_noPart h, State.trackLost_of_noPart h⟩
  case part => exact ⟨State.pullInLost_of_part h, _, State.trackLost_of_part h, rfl, rfl, rfl, rfl, rfl⟩
  case phaseLock => exact channelMoves_of_state rfl (by simp)
  case phaseSlip => exact channelMoves_of_state rfl (by simp)
  case reacqExpiry => exact channelMoves_of_since rfl
  case start =>
    exact ⟨fun q sky hq => ⟨fun h5 => 
          (exec_searchStart_of_on hon hfree hq h5 sky).trans (congrArg Host.Outcome.next (s.runSearch_dequeue p q)),
        fun h5 => exec_searchStart_of_off hon hfree hq h5 sky⟩,
      fun hq => ⟨exec_searchStart_of_idle hon hfree hq, exec_searchStart_of_sky hon hfree hq⟩,
      fun q hcls => if_pos hcls, fun q hcls => if_neg (Nat.not_le.2 hcls)⟩
  case done =>
    refine ⟨exec_searchDone_of_not hrun, fun hover hall hnd => ⟨fun x hch hx => ⟨fun hds => ⟨?_, ?_⟩,
      fun hds hst => ⟨?_, State.chan?_idleChan_same _ c⟩, ?_⟩, fun w => exec_searchDone_of_item hrun hover hall hnd⟩⟩
    · exact exec_searchDone_of_found hrun hover hall hnd hch hx hds
    · obtain rfl := State.ch_of_chan? hx
      exact State.chan?_setChan_state _ { x with state := Ch.PULL_IN }
    · exact exec_searchDone_of_missed hrun hover hall hnd hch hx hds hst
    · exact exec_searchDone_of_lost hrun hover hall hnd hch hx
  case survey =>
    exact ⟨fun h => congrArg Host.Outcome.next (State.surveyItem_of_unknown hitem h _ _),
      fun hbars => ⟨
        fun h => congrArg Host.Outcome.next (State.surveyItem_of_barred hitem (by decide) h (by decide) hbars _),
        fun h => congrArg Host.Outcome.next (State.surveyItem_of_barred hitem (by decide) h (by decide) hbars _),
        fun h => congrArg Host.Outcome.next (State.surveyItem_of_barred hitem (by decide) h (by decide) hbars _)⟩,
      fun hbars => ⟨exec_bvSurveyStart_of_running hitem hbars,
        fun h hne => ⟨exec_bvSurveyStart_of_within hitem hbars h hne, exec_bvSurveyStart_of_beyond hitem hbars h hne⟩,
        exec_bvSurveySet_of_running hitem hbars, exec_bvSurveySet_of_position hitem hbars,
        fun h hant hrole => ⟨exec_bvSurveySelectAnt_of_noPos hitem hbars h hant hrole,
          exec_bvSurveySelectAnt_of_trouble hitem hbars h hant hrole,
          exec_bvSurveySelectAnt_of_normal hitem hbars h hant hrole⟩⟩,
      exec_bvSurveyAbort_of_none hitem, fun v h => exec_bvSurveyAbort_of_some hitem h⟩
  case search =>
    exact ⟨exec_bvSearch_of_bad hitem hrun, exec_bvSearch_of_noPart hitem hrun, exec_bvSearch_of_part hitem hrun⟩

end Sys2Proof.Machine
end

section
/-! SUPPORT. O53: Items of SLV_ROVER, the correction builder, FIX frames. -/
namespace Sys2Proof.Machine

/-! ### SLV_ROVER (R318) -/

section
variable {s : State} {wid : Nat} {i : WItem} (hi : s.active? wid W.SLV_ROVER = some i)
include hi

theorem State.roverItem_of_badMode (h : 3 < i.arg 0) (mode : Nat) (k : Nat → State) :
    s.roverItem wid mode k = s.finish wid St.BAD_ARG := by
  rw [State.roverItem, hi]
  exact if_pos h

variable (hon : s.slvOn = true) {mode : Nat} (hm : mode ≤ 3) (ha : i.arg 0 = mode) (k : Nat → State)
include hon hm ha

theorem State.roverItem_of_mode : s.roverItem wid mode k =
    if (s.memberRec? (i.arg 1)).isNone then s.finish wid 0x80
    else if (s.clsOf (i.arg 1)).selfSolve then s.finish wid 0x81
    else k (i.arg 1) := by
  rw [State.roverItem, hi]
  exact (if_neg (by omega)).trans (if_neg (by simp [ha, hon]))

theorem State.roverItem_of_notMember (hmem : s.memberRec? (i.arg 1) = none) :
    s.roverItem wid mode k = s.finish wid 0x80 := by
  rw [State.roverItem_of_mode hi hon hm ha, if_pos (Option.isNone_iff_eq_none.2 hmem)]

variable (hmem : (s.memberRec? (i.arg 1)).isSome = true)
include hmem

theorem State.roverItem_of_selfSolve (hself : (s.clsOf (i.arg 1)).selfSolve = true) :
    s.roverItem wid mode k = s.finish wid 0x81 := by
  rw [State.roverItem_of_mode hi hon hm ha, if_neg (by rw [← Option.not_isSome, hmem]; decide), if_pos hself]

theorem State.roverItem_of_central (hself : (s.clsOf (i.arg 1)).selfSolve = false) :
    s.roverItem wid mode k = k (i.arg 1) := by
  rw [State.roverItem_of_mode hi hon hm ha, if_neg (by rw [← Option.not_isSome, hmem]; decide),
    if_neg (Bool.eq_false_iff.1 hself)]

end

/-- The commands of SLV_ROVER, each the item of its mode. -/
theorem exec_slvRover_eq_roverItem {wid mode : Nat} {c : Instr} (hc : (mode, c) ∈ [(0, Instr.slvRoverReset wid),
    (1, .slvRoverDisable wid), (2, .slvRoverEnable wid), (3, .slvRoverQuery wid)]) (s : State) :
    mode ≤ 3 ∧ ∃ k, exec c s = .next (s.roverItem wid mode k) := by
  simp only [List.mem_cons, Prod.mk.injEq, List.not_mem_nil, or_false] at hc
  obtain ⟨rfl, rfl⟩ | ⟨rfl, rfl⟩ | ⟨rfl, rfl⟩ | ⟨rfl, rfl⟩ := hc
  all_goals exact ⟨by decide, _, rfl⟩

/-! ### Frames -/

theorem State.setFIf_setFIf_frame (t : State) (c d : Prop) [Decidable c] [Decidable d] (f g : Fld) (v w : Nat) :
    ∃ r, (t.setFIf c f v).setFIf d g w = { t with regs := r } :=
  ⟨_, State.setFIf_frame (State.setFIf_frame (t := t) rfl _ _ _) _ _ _⟩

theorem State.updSlv_frame {s t : State} (h : t = { s with regs := t.regs }) (g : Slv → Slv) :
    t.updSlv g = { s with regs := t.regs, slv := g s.slv } := congrArg (State.updSlv · g) h

/-- Packets offered to one stream in a row change the windows and registers. -/
theorem State.foldl_observe_frame (w : Nat) (fs : List Bytes) (t : State) :
    ∃ r x, fs.foldl (fun t f => t.observe w f) t = { t with regs := r, strms := x } := by
  induction fs generalizing t with
  | nil => exact ⟨_, _, rfl⟩
  | cons f fs ih =>
    obtain ⟨r, x, h⟩ := ih (t.observe w f)
    refine ⟨r, x, h.trans ?_⟩
    rw [State.observe_frame]

/-! ### What a record makes due (R308–R310) -/

section
variable (s : State) (e : BaseEpoch) (q : List BaseEpoch)

/-- Is an MSM set formed from this record: every MSM_EVERY records? -/
def State.msmTurn : Bool := s.slv.sets % max (s.rtcmOut 4 1) 1 = 0

/-- The MSM set that a record makes due. -/
def State.msmDue : List Bytes := if s.msmTurn then s.msmSet e else []

/-- The transport frames that a record makes due, the station messages first. -/
def State.rtcmFrames : List Bytes := ((s.staDue e.tb).map (staMsg s) ++ s.msmDue e).map rtcmFrame

/-- These frames as they wait for correction frames. -/
def State.corrDue : List CorrMsg := (s.rtcmFrames e).map (fun f => ⟨e.tb, f⟩)

theorem State.corrDue_eq : s.corrDue e = ((s.staDue e.tb).map (staMsg s) ++
    (if s.slv.sets % max (s.rtcmOut 4 1) 1 = 0 then s.msmSet e else [])).map (fun m => ⟨e.tb, rtcmFrame m⟩) := by
  rw [State.corrDue, State.rtcmFrames, List.map_map, State.msmDue, State.msmTurn]
  simp only [decide_eq_true_eq]
  rfl

/-! ### The builder's state as it forms them (R308–R312) -/

/-- The record taken. -/
def State.rtcmTaken : State := { s with bv := { s.bv with rtcmIn := q } }

/-- A record that R311 withholds. -/
def State.rtcmWithheld : State :=
  ((s.rtcmTaken q).setF F.BV_RTCM_STAT_WITHHELD 1).setF F.BV_RTCM_STAT_ACTIVE 0

/-- A record that is output, shown and counted. -/
def State.rtcmCounted : State :=
  ((((s.rtcmTaken q).setF F.BV_RTCM_STAT_WITHHELD 0).setF F.BV_RTCM_STAT_ACTIVE 1).incF F.BV_RTCM_CNT
    (s.rtcmFrames e).length).updSlv
      (fun v => { v with sets := v.sets + 1, cyc := if s.msmTurn then s.msmCycs e else v.cyc })

/-- The systems of its MSM set, and whether a system's message was split. -/
def State.rtcmShown : State :=
  let nums := (s.msmDue e).map rtcmNum
  ((s.rtcmCounted e q).setFIf (s.msmTurn = true) F.BV_RTCM_STAT_SYS_OUT
    (maskOf (fun y => y < 6 && nums.contains (s.msmNum y)))).setFIf
      ((nums.zip (nums.drop 1)).any (fun p => p.1 = p.2) = true) F.BV_RTCM_STAT_SPLIT_SEEN 1

/-- Its frames offered to the RTCM stream with STREAM_EN. -/
def State.rtcmBuilt : State :=
  if s.rtcmFlag 0 then (s.rtcmFrames e).foldl (fun t f => t.observe Win.RTCM f) (s.rtcmShown e q) else s.rtcmShown e q

/-- Its frames wait for correction frames too. -/
def State.rtcmQueued : State := (s.rtcmBuilt e q).updSlv (fun v => { v with corr := v.corr ++ s.corrDue e })

theorem State.rtcmWithheld_onlyFields :
    OnlyFields s (s.rtcmWithheld q) [F.BV_RTCM_STAT_WITHHELD, F.BV_RTCM_STAT_ACTIVE] :=
  (OnlyFields.of_regs (t := s.rtcmTaken q) rfl []).trans ((OnlyFields.setF _ _ 1 (by decide)).snoc _ 0 (by decide))

theorem State.rtcmWithheld_withheld : (s.rtcmWithheld q).getF F.BV_RTCM_STAT_WITHHELD = 1 :=
  ((OnlyFields.setF _ F.BV_RTCM_STAT_ACTIVE 0 (by decide)).getF (by decide)).trans
    (State.getF_setF_same _ F.BV_RTCM_STAT_WITHHELD 1 (by decide))

theorem State.rtcmWithheld_frame : s.rtcmWithheld q = { s.rtcmTaken q with regs := (s.rtcmWithheld q).regs } :=
  State.setF_frame (State.setF_frame (t := s.rtcmTaken q) rfl _ _) _ _

theorem State.rtcmCounted_getF {f : Fld} (hf : f.apartFrom [F.BV_RTCM_CNT] = true) : (s.rtcmCounted e q).getF f =
    (((s.rtcmTaken q).setF F.BV_RTCM_STAT_WITHHELD 0).setF F.BV_RTCM_STAT_ACTIVE 1).getF f := by
  rw [State.rtcmCounted, State.updSlv_getF]
  exact (State.incF_onlyFields _ _ (by decide)).getF hf

theorem State.rtcmCounted_withheld : (s.rtcmCounted e q).getF F.BV_RTCM_STAT_WITHHELD = 0 := by
  rw [State.rtcmCounted_getF s e q (by decide), (OnlyFields.setF _ F.BV_RTCM_STAT_ACTIVE 1 (by decide)).getF (by decide)]
  exact State.getF_setF_same _ _ 0 (by decide)

theorem State.rtcmCounted_active : (s.rtcmCounted e q).getF F.BV_RTCM_STAT_ACTIVE = 1 := by
  rw [State.rtcmCounted_getF s e q (by decide)]
  exact State.getF_setF_same _ _ 1 (by decide)

theorem State.rtcmCounted_frame : ∃ r, s.rtcmCounted e q = { s.rtcmTaken q with
    regs := r
    slv := { s.slv with sets := s.slv.sets + 1, cyc := if s.msmTurn then s.msmCycs e else s.slv.cyc } } :=
  ⟨_, State.updSlv_frame (State.setF_frame (State.setF_frame (State.setF_frame (t := s.rtcmTaken q) rfl _ _) _ _) _ _) _⟩

theorem State.rtcmShown_onlyFields :
    OnlyFields (s.rtcmCounted e q) (s.rtcmShown e q) [F.BV_RTCM_STAT_SYS_OUT, F.BV_RTCM_STAT_SPLIT_SEEN] :=
  (State.setFIf_onlyFields _ _ _ (by decide)).trans (State.setFIf_onlyFields _ _ _ (by decide))

theorem State.rtcmShown_frame : ∃ r, s.rtcmShown e q = { s.rtcmCounted e q with regs := r } :=
  (s.rtcmCounted e q).setFIf_setFIf_frame _ _ _ _ _ _

theorem State.rtcmBuilt_frame : ∃ r x, s.rtcmBuilt e q = { s.rtcmCounted e q with regs := r, strms := x } := by
  obtain ⟨r, h⟩ := s.rtcmShown_frame e q
  rw [State.rtcmBuilt, h]
  split_ifs
  · exact State.foldl_observe_frame _ _ _
  · exact ⟨_, _, rfl⟩

theorem State.rtcmBuilt_slv : (s.rtcmBuilt e q).slv = { s.slv with
    sets := s.slv.sets + 1, cyc := if s.msmTurn then s.msmCycs e else s.slv.cyc } := by
  obtain ⟨_, _, hbuilt⟩ := s.rtcmBuilt_frame e q
  obtain ⟨_, hcounted⟩ := s.rtcmCounted_frame e q
  rw [hbuilt, hcounted]

theorem State.rtcmBuilt_sameUnits : SameOn UnitReg (s.rtcmShown e q) (s.rtcmBuilt e q) := by
  unfold State.rtcmBuilt
  split_ifs
  · exact SameOn.foldl (fun f _ t => t.observe_sameUnits _ f) _
  · exact SameOn.refl _

/-- A field of a unit that the systems of the set and a split leave. -/
theorem State.rtcmBuilt_getF {f : Fld} (hu : UnitReg f.addr)
    (hf : f.apartFrom [F.BV_RTCM_STAT_SYS_OUT, F.BV_RTCM_STAT_SPLIT_SEEN] = true) :
    (s.rtcmBuilt e q).getF f = (s.rtcmCounted e q).getF f :=
  ((s.rtcmBuilt_sameUnits e q).getF hu).trans ((s.rtcmShown_onlyFields e q).getF hf)

theorem State.rtcmBuilt_withheld : (s.rtcmBuilt e q).getF F.BV_RTCM_STAT_WITHHELD = 0 :=
  (s.rtcmBuilt_getF e q (by unfold UnitReg; decide) (by decide)).trans (s.rtcmCounted_withheld e q)

theorem State.rtcmBuilt_active : (s.rtcmBuilt e q).getF F.BV_RTCM_STAT_ACTIVE = 1 :=
  (s.rtcmBuilt_getF e q (by unfold UnitReg; decide) (by decide)).trans (s.rtcmCounted_active e q)

theorem State.rtcmBuilt_sets : (s.rtcmBuilt e q).slv.sets = s.slv.sets + 1 := by rw [State.rtcmBuilt_slv]

theorem State.rtcmBuilt_corr : (s.rtcmBuilt e q).slv.corr = s.slv.corr := by rw [State.rtcmBuilt_slv]

/-- Outside the registers, the builder's own part and the streams only the record is gone. -/
theorem State.rtcmBuilt_rest : s.rtcmBuilt e q = { s.rtcmTaken q with
    regs := (s.rtcmBuilt e q).regs, slv := (s.rtcmBuilt e q).slv, strms := (s.rtcmBuilt e q).strms } := by
  obtain ⟨_, _, hbuilt⟩ := s.rtcmBuilt_frame e q
  obtain ⟨_, hcounted⟩ := s.rtcmCounted_frame e q
  rw [hbuilt, hcounted]

theorem State.rtcmQueued_getF (f : Fld) : (s.rtcmQueued e q).getF f = (s.rtcmBuilt e q).getF f := State.updSlv_getF _ _ f

theorem State.rtcmQueued_sets : (s.rtcmQueued e q).slv.sets = s.slv.sets + 1 := s.rtcmBuilt_sets e q

theorem State.rtcmQueued_corr : (s.rtcmQueued e q).slv.corr = s.slv.corr ++ s.corrDue e :=
  congrArg (· ++ s.corrDue e) (s.rtcmBuilt_corr e q)

theorem State.rtcmQueued_rest : s.rtcmQueued e q = { s.rtcmTaken q with
    regs := (s.rtcmQueued e q).regs, slv := (s.rtcmQueued e q).slv, strms := (s.rtcmQueued e q).strms } := by
  rw [State.rtcmQueued, State.rtcmBuilt_rest]
  rfl

end

/-! ### The builder takes a record (R308–R313) -/

theorem State.surveyed_iff (s : State) :
    s.surveyed = true ↔ s.getF F.BV_STAT_SURVEY = 2 ∨ s.getF F.BV_STAT_SURVEY = 3 := by
  simp [State.surveyed]

section
variable {s : State}

theorem exec_rtcmBuild_of_empty (h : s.bv.rtcmIn = []) : exec .rtcmBuild s = .next s := by
  change execRtcmBuild s = _
  rw [execRtcmBuild, h]

variable {e : BaseEpoch} {q : List BaseEpoch} (hq : s.bv.rtcmIn = e :: q) (hon : s.bvOn = true)
  (hsec : (s.sec? T.RTCM_OUT).isSome = true)
include hq hon hsec

/-- A record that the builder takes. -/
theorem exec_rtcmBuild_of_record : exec .rtcmBuild s = .next (
    if !e.multiple then s.rtcmTaken q
    else if !s.surveyed then s.rtcmWithheld q
    else if s.corrRadio then (s.rtcmQueued e q).dlFill 1
    else s.rtcmBuilt e q) := by
  change execRtcmBuild s = _
  rw [execRtcmBuild, hq]
  exact congrArg Host.Outcome.next (if_neg (by rw [hon, ← Option.not_isSome, hsec]; decide))

theorem exec_rtcmBuild_of_other (hmult : e.multiple = false) : exec .rtcmBuild s = .next (s.rtcmTaken q) := by
  rw [exec_rtcmBuild_of_record hq hon hsec, hmult]
  rfl

variable (hmult : e.multiple = true)
include hmult

theorem exec_rtcmBuild_of_unsurveyed (hsur : s.surveyed = false) : exec .rtcmBuild s = .next (s.rtcmWithheld q) := by
  rw [exec_rtcmBuild_of_record hq hon hsec, hmult, hsur]
  rfl

variable (hsur : s.surveyed = true)
include hsur

theorem exec_rtcmBuild_of_radio (hradio : s.corrRadio = true) :
    exec .rtcmBuild s = .next ((s.rtcmQueued e q).dlFill 1) := by
  rw [exec_rtcmBuild_of_record hq hon hsec, hmult, hsur, hradio]
  rfl

theorem exec_rtcmBuild_of_noRadio (hradio : s.corrRadio = false) : exec .rtcmBuild s = .next (s.rtcmBuilt e q) := by
  rw [exec_rtcmBuild_of_record hq hon hsec, hmult, hsur, hradio]
  rfl

end

/-! ### Messages too old (R313) -/

section
variable (s : State)

/-- A message's epoch lies CORR_AGE_MAX s or more in the past. -/
def State.corrOld (c : CorrMsg) : Bool := c.tb + s.rtcmOut 5 1 * 1000000000 ≤ s.tbNs 0

/-- The messages left, and with the oldest gone the part of it already sent forgotten. -/
def State.corrKept : State :=
  s.updSlv (fun v => { v with
    corr := v.corr.filter (fun c => !s.corrOld c)
    corrOff := if (s.slv.corr.head?.map s.corrOld).getD false then 0 else v.corrOff })

/-- The dropped counted. -/
def State.corrDropped : State :=
  (s.corrKept.incF F.BV_RTCM_DROP (s.slv.corr.filter s.corrOld).length).setF F.BV_RTCM_STAT_DROP_SEEN 1

theorem exec_corrAgeExpiry : exec .corrAgeExpiry s =
    .next (if (s.slv.corr.filter s.corrOld).length = 0 then s else s.corrDropped) := rfl

theorem State.corrOld_none_iff : (s.slv.corr.filter s.corrOld).length = 0 ↔ s.slv.corr.any s.corrOld = false := by
  rw [List.length_eq_zero_iff, List.filter_eq_nil_iff, List.any_eq_false]

theorem State.corrDropped_corr : s.corrDropped.slv.corr = s.slv.corr.filter (fun c => !s.corrOld c) := by
  rw [State.corrDropped, State.setF_slv, State.incF_slv]
  rfl

theorem State.corrDropped_frame : s.corrDropped = { s with regs := s.corrDropped.regs, slv := s.corrDropped.slv } := by
  have h : s.corrDropped = { s.corrKept with regs := s.corrDropped.regs } :=
    State.setF_frame (State.setF_frame (t := s.corrKept) rfl _ _) _ _
  rw [h]
  rfl

theorem State.corrDropped_onlyFields : OnlyFields s s.corrDropped [F.BV_RTCM_DROP, F.BV_RTCM_STAT_DROP_SEEN] :=
  (OnlyFields.of_regs (t := s.corrKept) rfl []).trans ((State.incF_onlyFields _ _ (by decide)).snoc _ 1 (by decide))

end

/-! ### FIX frames (R31, R372) -/

/-- The slot after the present one. -/
def State.nextSlot (s : State) : Nat := (s.slotIdx + 1) % max s.slotL 1

section
variable {s : State}

theorem State.fixPull_of_open (h7 : s.domOn 7 = true) (h9 : s.domOn 9 = true) (hx : (s.xings.getD 8 {}).resync = false) :
    s.fixPull = { s with slv := { s.slv with fixQ := [] }, bsb := { s.bsb with fixes := s.bsb.fixes ++ s.slv.fixQ } } :=
  if_neg (by rw [h7, h9, hx]; decide)

theorem exec_dlFixAssemble_of_due (hrun : s.bandRun 1 = true) (hstop : s.stopStands = false)
    (hslot : s.fixSlots.contains s.nextSlot = true) (hfix : s.bsb.fix = none) (hus : 2000 ≤ s.slotUs) :
    let r := s.fixPull.fixFrame (s.fixSlots.getLast? = some s.nextSlot)
    exec .dlFixAssemble s = .next ((s.fixPull.fixesSent r.2).updBand 1 (fun b => { b with fix := some r.1 })) := by
  refine congrArg Host.Outcome.next (if_neg ?_)
  change ¬ ((!s.bandRun 1) = true ∨ s.stopStands = true ∨ (!s.fixSlots.contains s.nextSlot) = true ∨
    s.bsb.fix.isSome = true ∨ s.slotUs < 2000)
  rw [hrun, hstop, hslot, hfix]
  simpa using hus

theorem exec_dlFixAssemble_of_idle (h : s.bandRun 1 = false ∨ s.stopStands = true ∨
    s.fixSlots.contains s.nextSlot = false ∨ s.bsb.fix.isSome = true ∨ s.slotUs < 2000) :
    exec .dlFixAssemble s = .next s := by
  simp only [← Bool.not_eq_true'] at h
  exact congrArg Host.Outcome.next (if_pos h)

end

end Sys2Proof.Machine
end

section
/-! O53. -/
namespace Sys2Proof.Machine

/-- Settles O53: the rover's items by their mode, a record by what it makes due, and the fixes in a frame. -/
theorem roversAndCorrections : Obligations.RoversAndCorrections := by
  unfold Obligations.RoversAndCorrections
  refine ⟨fun wid i s hi hon => ⟨fun h => congrArg _ (State.roverItem_of_badMode hi h _ _), fun c hc => ?refusal,
      fun hmem hself => ?effect⟩,
    fun s => ⟨exec_rtcmBuild_of_empty, fun e q hq hon hsec => ?build⟩,
    fun s => ?age,
    fun s => ⟨exec_dlFixAssemble_of_due, State.fixPull_of_open, exec_dlFixAssemble_of_idle⟩⟩
  case refusal =>
    obtain ⟨hm, k, hk⟩ := exec_slvRover_eq_roverItem hc s
    exact ⟨fun hnone => hk.trans (congrArg _ (State.roverItem_of_notMember hi hon hm rfl k hnone)),
      fun hmem hself => hk.trans (congrArg _ (State.roverItem_of_selfSolve hi hon hm rfl k hmem hself))⟩
  case effect =>
    exact ⟨fun h => congrArg _ (State.roverItem_of_central hi hon (by decide) h _ hmem hself),
      fun h => congrArg _ (State.roverItem_of_central hi hon (by decide) h _ hmem hself),
      fun h => congrArg _ (State.roverItem_of_central hi hon (by decide) h _ hmem hself),
      fun h => congrArg _ (State.roverItem_of_central hi hon (by decide) h _ hmem hself)⟩
  case build =>
    refine ⟨exec_rtcmBuild_of_other hq hon hsec, fun hmult h2 h3 => ?_, fun hmult hsur => ?_⟩
    · have hsur : s.surveyed = false := Bool.eq_false_iff.2 fun h => (s.surveyed_iff.1 h).elim h2 h3
      exact ⟨_, exec_rtcmBuild_of_unsurveyed hq hon hsec hmult hsur, s.rtcmWithheld_withheld q,
        State.getF_setF_same _ F.BV_RTCM_STAT_ACTIVE 0 (by decide), s.rtcmWithheld_onlyFields q, s.rtcmWithheld_frame q⟩
    · rw [← State.surveyed_iff] at hsur
      cases hradio : s.corrRadio with
      | true =>
        exact ⟨s.rtcmQueued e q, (s.rtcmQueued_getF e q _).trans (s.rtcmBuilt_withheld e q),
          (s.rtcmQueued_getF e q _).trans (s.rtcmBuilt_active e q), s.rtcmQueued_sets e q,
          fun _ => ⟨exec_rtcmBuild_of_radio hq hon hsec hmult hsur hradio,
            (s.rtcmQueued_corr e q).trans (congrArg _ (s.corrDue_eq e))⟩, nofun, s.rtcmQueued_rest e q⟩
      | false =>
        exact ⟨s.rtcmBuilt e q, s.rtcmBuilt_withheld e q, s.rtcmBuilt_active e q, s.rtcmBuilt_sets e q, nofun,
          fun _ => ⟨exec_rtcmBuild_of_noRadio hq hon hsec hmult hsur hradio, s.rtcmBuilt_corr e q⟩, s.rtcmBuilt_rest e q⟩
  case age =>
    refine ⟨fun h => (exec_corrAgeExpiry s).trans (congrArg _ (if_pos (s.corrOld_none_iff.2 h))), fun h =>
      ⟨s.corrDropped, (exec_corrAgeExpiry s).trans (congrArg _ (if_neg fun hnone => ?_)),
        s.corrDropped_corr, State.getF_setF_same _ F.BV_RTCM_STAT_DROP_SEEN 1 (by decide), s.corrDropped_onlyFields,
        s.corrDropped_frame⟩⟩
    exact Bool.false_ne_true ((s.corrOld_none_iff.1 hnone).symm.trans h)

end Sys2Proof.Machine
end

section
/-! SUPPORT. O48: Pergola's intake and planner, its ticks, stale positions and dwells. -/
namespace Sys2Proof.Machine

/-! ### The intake (R400) -/

section
variable {s : State} {r : PReq} {q : List PReq}

/-- The head of PLAN_REQ taken with `q` behind it: the oldest request that waits for room enters. -/
def State.reqTaken (s : State) (q : List PReq) : State :=
  { s with pgl := { s.pgl with queue := q ++ s.pgl.waitReq.take 1, waitReq := s.pgl.waitReq.drop 1 } }

/-- A request in the store in the place of the older ones of its member. -/
def State.stored (s : State) (r : PReq) : State :=
  ((s.endStored r.member 0x83).incF F.PGL_CNT_SUPERSEDED (s.pgl.store.filter (·.member = r.member)).length).updPgl
    (fun p => { p with store := p.store ++ [r] })

theorem State.planIntake_of_head (hon : s.pglOn = true) (hq : s.pgl.queue = r :: q) (hlen : s.pgl.store.length < 64) :
    s.planIntake = if s.pglFrozen then ((s.reqTaken q).endReq r St.FROZEN).incF F.PGL_CNT_FROZEN
      else (s.reqTaken q).stored r := by
  rw [State.planIntake, hq]
  exact if_neg (by simp [hon, hlen])

theorem exec_planRequestIntake_of_frozen (hon : s.pglOn = true) (hq : s.pgl.queue = r :: q)
    (hlen : s.pgl.store.length < 64) (hf : s.pglFrozen = true) :
    exec .planRequestIntake s = .next (((s.reqTaken q).endReq r St.FROZEN).incF F.PGL_CNT_FROZEN) :=
  congrArg Host.Outcome.next ((State.planIntake_of_head hon hq hlen).trans (if_pos hf))

theorem exec_planRequestIntake_of_open (hon : s.pglOn = true) (hq : s.pgl.queue = r :: q)
    (hlen : s.pgl.store.length < 64) (hf : s.pglFrozen = false) :
    exec .planRequestIntake s = .next ((s.reqTaken q).stored r) :=
  congrArg Host.Outcome.next ((State.planIntake_of_head hon hq hlen).trans (if_neg (by simp [hf])))

theorem exec_planRequestIntake_of_idle (h : s.pgl.queue = [] ∨ 64 ≤ s.pgl.store.length) :
    exec .planRequestIntake s = .next s := by
  refine congrArg Host.Outcome.next ?_
  unfold State.planIntake
  split
  next => rfl
  next r q hq => exact if_pos (.inr (h.resolve_left (by simp [hq])))

/-- No request of a member in the store: none to complete. -/
theorem State.endStored_of_none {m : Nat} (st : Nat) (h : s.pgl.store.all (fun x => decide (x.member ≠ m)) = true) :
    s.endStored m st = s := by
  have hmine : s.pgl.store.filter (·.member = m) = [] := by simpa [List.filter_eq_nil_iff] using h
  have hrest : s.pgl.store.filter (·.member ≠ m) = s.pgl.store := List.filter_eq_self.2 (List.all_eq_true.1 h)
  simp only [State.endStored, State.updPgl, hmine, hrest, List.foldl_nil]

theorem State.stored_of_none (h : s.pgl.store.all (fun x => decide (x.member ≠ r.member)) = true) :
    s.stored r = (s.incF F.PGL_CNT_SUPERSEDED (s.pgl.store.filter (·.member = r.member)).length).updPgl
      (fun p => { p with store := p.store ++ [r] }) := by
  rw [State.stored, State.endStored_of_none _ h]

/-- A count and a change of Pergola's part leave every other field and part. -/
theorem State.incF_updPgl_frame (s : State) {f : Fld} (hf : f.lo + f.width ≤ 32) (n : Nat) (g : Pgl → Pgl) :
    let t := (s.incF f n).updPgl g
    t.pgl = g s.pgl ∧ OnlyFields s t [f] ∧ t = { s with regs := t.regs, pgl := t.pgl } :=
  ⟨rfl, (s.incF_onlyFields n hf).of_regs_eq rfl, rfl⟩

/-- A request stored beside those of other members. -/
theorem exec_planRequestIntake_of_first (hon : s.pglOn = true) (hq : s.pgl.queue = r :: q)
    (hlen : s.pgl.store.length < 64) (hf : s.pglFrozen = false)
    (hfirst : s.pgl.store.all (fun x => decide (x.member ≠ r.member)) = true) :
    ∃ t, exec .planRequestIntake s = .next t ∧
      t.pgl = { (s.reqTaken q).pgl with store := s.pgl.store ++ [r] } ∧
      OnlyFields s t [F.PGL_CNT_SUPERSEDED] ∧ t = { s with regs := t.regs, pgl := t.pgl } :=
  ⟨_, (exec_planRequestIntake_of_open hon hq hlen hf).trans
      (congrArg _ (State.stored_of_none (s := s.reqTaken q) hfirst)),
    (s.reqTaken q).incF_updPgl_frame (by decide) _ _⟩

end

/-! ### The planner takes a request (R393, R400) -/

section
variable {s : State} {r : PReq}

/-- The store without a request taken from it. -/
def State.unstored (s : State) (r : PReq) : State := { s with pgl := { s.pgl with store := s.pgl.store.erase r } }

theorem exec_plannerTake_of_segFull (hr : s.nextReq = some r) (hseg : s.qRoom .seg = false) :
    exec .plannerTake s = .next s := by
  rw [show exec .plannerTake s = execPlannerTake s from rfl, execPlannerTake, hr]
  exact congrArg Host.Outcome.next (if_pos (by simp [hseg]))

/-- A request taken: refused where its member may not be planned for or its goal is gone, worked on otherwise. -/
theorem exec_plannerTake_of_room (hon : s.pglOn = true) (hr : s.nextReq = some r) (hf : s.pglFrozen = false)
    (hidle : s.pgl.planning = none) (hseg : s.qRoom .seg = true) :
    exec .plannerTake s = .next (match s.planBar r.member with
      | some st => (s.unstored r).endReq r st
      | none => if (s.graph.node? r.goal).isNone then (s.unstored r).endReq r 0x82
        else { s with pgl := { s.pgl with store := s.pgl.store.erase r, planning := some r, takeFrc := s.now } }) := by
  rw [show exec .plannerTake s = execPlannerTake s from rfl, execPlannerTake, hr]
  exact congrArg Host.Outcome.next (if_neg (by simp [hon, hf, hidle, hseg]))

end

/-! ### The planner's outcome (R401, R403) -/

section
variable {s : State} {r : PReq} {tabs : List PlanTab}

/-- The planner's state after a search, with EDGE_FULL_SEEN where that met a full edge (R399). -/
def State.searched (s : State) (full : Bool) : State :=
  if full then s.planEnd.setF F.PGL_STAT_EDGE_FULL_SEEN 1 else s.planEnd

theorem exec_planDone_of_idle (h : s.pgl.planning = none) (tabs : List PlanTab) : exec (.planDone tabs) s = .next s := by
  rw [show exec (.planDone tabs) s = execPlanDone tabs s from rfl, execPlanDone, h]

theorem exec_planExhausted_of_idle (h : s.pgl.planning = none) : exec .planExhausted s = .next s := by
  rw [show exec .planExhausted s = execPlanExhausted s from rfl, execPlanExhausted, h]

theorem exec_planDone_of_late (hr : s.pgl.planning = some r) (hlate : 2000 < s.planUs) :
    exec (.planDone tabs) s = .next s := by
  rw [show exec (.planDone tabs) s = execPlanDone tabs s from rfl, execPlanDone, hr]
  exact congrArg Host.Outcome.next (if_pos (.inr (.inr hlate)))

theorem exec_planExhausted_of_planning (hon : s.pglOn = true) (hr : s.pgl.planning = some r) (hf : s.pglFrozen = false) :
    exec .planExhausted s = .next (s.planEnd.noPath r 0x85) := by
  rw [show exec .planExhausted s = execPlanExhausted s from rfl, execPlanExhausted, hr]
  exact congrArg Host.Outcome.next (if_neg (by simp [hon, hf]))

/-- No tables are the best path where there is none. -/
theorem State.planOk_none (s : State) (r : PReq) (ts : List SegTab) : s.planOk r none ts = false := by
  simp [State.planOk, isBest]

section
variable {best : Option Timed} {full : Bool} (hon : s.pglOn = true) (hr : s.pgl.planning = some r)
  (hf : s.pglFrozen = false) (hin : s.planUs ≤ 2000) (hsearch : s.search r = (best, full))
include hon hr hf hin hsearch

/-- An outcome in time: no tables for no path, tables where they are allowed. -/
theorem exec_planDone_of_inTime (tabs : List PlanTab) :
    exec (.planDone tabs) s = .next (if tabs = [] then (if best.isNone then (s.searched full).noPath r 0x81 else s)
      else if s.planOk r best (s.fillTabs r tabs (s.pm r.member).nextSeq 0)
        then (s.searched full).grantPlan r (s.fillTabs r tabs (s.pm r.member).nextSeq 0) else s) := by
  rw [show exec (.planDone tabs) s = execPlanDone tabs s from rfl, execPlanDone, hr]
  simp only [hsearch]
  exact congrArg Host.Outcome.next (if_neg (by simp [hon, hf, hin]))

theorem exec_planDone_of_noTables (htabs : tabs = []) :
    exec (.planDone tabs) s = .next (if best = none then (s.searched full).noPath r 0x81 else s) := by
  rw [exec_planDone_of_inTime hon hr hf hin hsearch, if_pos htabs]
  simp only [Option.isNone_iff_eq_none]

theorem exec_planDone_of_tables (htabs : tabs ≠ []) :
    exec (.planDone tabs) s = .next (if s.planOk r best (s.fillTabs r tabs (s.pm r.member).nextSeq 0)
      then (s.searched full).grantPlan r (s.fillTabs r tabs (s.pm r.member).nextSeq 0) else s) := by
  rw [exec_planDone_of_inTime hon hr hf hin hsearch, if_neg htabs]

theorem exec_planDone_of_tables_noPath (htabs : tabs ≠ []) (hbest : best = none) :
    exec (.planDone tabs) s = .next s := by
  rw [exec_planDone_of_tables hon hr hf hin hsearch htabs, hbest, State.planOk_none]
  rfl

end

end

/-! ### Members and events -/

theorem State.pm_of_mbrs {s t : State} (h : t.pgl.mbrs = s.pgl.mbrs) (m : Nat) : t.pm m = s.pm m := by
  rw [State.pm, State.pm, State.pm?, State.pm?, h]

theorem State.pm_id (s : State) (m : Nat) : (s.pm m).id = m := by
  unfold State.pm
  cases h : s.pm? m with
  | none => rfl
  | some x => simpa using List.find?_some h

theorem State.pm_setPm_same (s : State) (x : PMbr) : (s.setPm x).pm x.id = x := by
  have hrest : (s.pgl.mbrs.filter (·.id ≠ x.id)).find? (·.id = x.id) = none := by simp [List.find?_eq_none]
  rw [State.pm, State.pm?, State.setPm, State.updPgl_pgl, List.find?_append, hrest]
  simp

/-- A member changed otherwise than in its number reads as changed. -/
theorem State.pm_updPm_same (s : State) {m : Nat} {f : PMbr → PMbr} (hf : (f (s.pm m)).id = (s.pm m).id) :
    (s.updPm m f).pm m = f (s.pm m) := by
  have h := s.pm_setPm_same (f (s.pm m))
  rwa [hf, s.pm_id] at h

theorem State.pglEvent_pm (s : State) (kind m info value n : Nat) : (s.pglEvent kind m info value).pm n = s.pm n := by
  refine State.pm_of_mbrs ?_ n
  rw [State.pglEvent, State.nsEvent, State.observe_frame]

theorem State.pglEvent_sameUnits (s : State) (kind m info value : Nat) :
    SameOn UnitReg s (s.pglEvent kind m info value) := s.observe_sameUnits _ _

/-! ### Stale positions (R395) -/

section
variable {s : State} {m : Nat}

/-- A member's position lost, shown in PGL_STAT and told (R395, R422). -/
def State.posLose (s : State) (m : Nat) : State :=
  ((s.updPm m (fun x => { x with posLost := true })).setF F.PGL_STAT_POS_LOST_SEEN 1).pglEvent 4 m 1 0

theorem State.posLose_seen (s : State) (m : Nat) : (s.posLose m).getF F.PGL_STAT_POS_LOST_SEEN = 1 :=
  ((State.pglEvent_sameUnits _ 4 m 1 0).getF (by unfold UnitReg; decide)).trans (State.getF_setF_same _ _ 1 (by decide))

theorem State.posLose_posLost (s : State) (m : Nat) : ((s.posLose m).pm m).posLost = true := by
  have h : (s.posLose m).pm m = (s.updPm m (fun x => { x with posLost := true })).pm m := by
    rw [State.posLose, State.pglEvent_pm]
    exact State.pm_of_mbrs (by rw [State.setF_pgl]) m
  rw [h, State.pm_updPm_same s rfl]

theorem exec_posStaleExpiry_of_young (h : s.since (s.pm m).posFrc (1000 * (s.clsOf m).posStale) = false) :
    exec (.posStaleExpiry m) s = .next s :=
  congrArg Host.Outcome.next (if_neg (by simp [h]))

theorem exec_posStaleExpiry_of_resting (h : (s.pm m).posLost = true ∨ (s.pm m).executing s.asn = false) :
    exec (.posStaleExpiry m) s = .next s :=
  congrArg Host.Outcome.next (if_neg fun ⟨_, _, hlost, hexec, _⟩ => h.elim hlost (by simp [hexec]))

theorem exec_posStaleExpiry_of_stale (hon : s.pglOn = true) (hm : (s.pm? m).isSome = true)
    (hlost : (s.pm m).posLost = false) (hexec : (s.pm m).executing s.asn = true)
    (h : s.since (s.pm m).posFrc (1000 * (s.clsOf m).posStale) = true) :
    exec (.posStaleExpiry m) s = .next (if s.pglFrozen then s.posLose m else (s.posLose m).stopTable m) :=
  congrArg Host.Outcome.next (if_pos ⟨hon, hm, by simp [hlost], hexec, h⟩)

end

/-! ### Ticks (R399, R415) -/

theorem exec_rtTick_of_frozen {s : State} (hf : s.pglFrozen = true) : exec .rtTick s = .next s :=
  congrArg Host.Outcome.next (if_neg (by simp [hf]))

theorem exec_rtTick_of_open {s : State} (hon : s.pglOn = true) (hf : s.pglFrozen = false) :
    exec .rtTick s = .next (s.dropWins
      (fun w => match w.stop with | some e => decide (rtNear s.rtNow e ≤ s.rtNow) | none => false)) :=
  congrArg Host.Outcome.next (if_pos ⟨hon, by simp [hf]⟩)

/-! ### Dwells (R410) -/

section
variable {s : State} {m : Nat} {x : PTask} {f : Nat}

/-- The DWELL of a task's stop, in µs. -/
def PTask.dwellUs (x : PTask) : Nat := 1000 * ((x.stops[x.cur]?).map (·.2.1)).getD 0

/-- The request for the next stop of a task (R410). -/
def State.stopReq (s : State) (m goal : Nat) : PReq :=
  { member := m, prio := ((s.memberRec? m).map (·.prio)).getD 0, goal := goal, why := 10 }

/-- A member on its way to the next stop of its task. -/
def State.nextStop (s : State) (m : Nat) (x : PTask) (goal : Nat) : State :=
  s.updPm m (fun p => { p with goal := some goal, task := some { x with cur := x.cur + 1, dwell := none } })

theorem State.nextStop_pm (s : State) (m : Nat) (x : PTask) (goal : Nat) : (s.nextStop m x goal).pm m =
    { s.pm m with goal := some goal, task := some { x with cur := x.cur + 1, dwell := none } } :=
  s.pm_updPm_same rfl

/-- With room in PLAN_REQ and none waiting for it, a request enters. -/
theorem State.planPush_of_room (hlen : s.pgl.queue.length < 64) (hwait : s.pgl.waitReq = []) (r : PReq) :
    s.planPush r = s.updPgl (fun p => { p with queue := p.queue ++ [r] }) :=
  if_pos ⟨decide_eq_true hlen, hwait⟩

theorem exec_taskDwellExpiry_of_early (hx : (s.pm m).task = some x) (hdwell : x.dwell = some f)
    (h : s.since f x.dwellUs = false) : exec (.taskDwellExpiry m) s = .next s := by
  rw [show exec (.taskDwellExpiry m) s = execTaskDwellExpiry m s from rfl, execTaskDwellExpiry, hx]
  exact congrArg Host.Outcome.next (if_pos (.inr (.inr (.inr (by simpa [hdwell, PTask.dwellUs] using h)))))

section
variable (hon : s.pglOn = true) (hx : (s.pm m).task = some x) (hf : s.pglFrozen = false) (hdwell : x.dwell = some f)
  (hsus : x.suspended = false) (h : s.since f x.dwellUs = true)
include hon hx hf hdwell hsus h

theorem exec_taskDwellExpiry_of_over : exec (.taskDwellExpiry m) s = .next (match x.stops[x.cur + 1]? with
    | some st => ((s.nextStop m x st.1).planPush (s.stopReq m st.1)).incF F.PGL_CNT_REPLAN
    | none => (s.updPm m (fun p => { p with task := none })).pglEvent 10 m 0 x.id) := by
  have hover : x.dwell.any (fun f => s.since f (1000 * ((x.stops[x.cur]?).map (·.2.1)).getD 0)) = true := by
    rw [hdwell]
    exact h
  rw [show exec (.taskDwellExpiry m) s = execTaskDwellExpiry m s from rfl, execTaskDwellExpiry, hx]
  exact congrArg Host.Outcome.next (if_neg (by simp [hon, hf, hsus, hover]))

theorem exec_taskDwellExpiry_of_last (hlast : x.stops[x.cur + 1]? = none) : exec (.taskDwellExpiry m) s =
    .next ((s.updPm m (fun p => { p with task := none })).pglEvent 10 m 0 x.id) := by
  rw [exec_taskDwellExpiry_of_over hon hx hf hdwell hsus h, hlast]

theorem exec_taskDwellExpiry_of_next {st : Nat × Nat × Nat} (hnext : x.stops[x.cur + 1]? = some st)
    (hlen : s.pgl.queue.length < 64) (hwait : s.pgl.waitReq = []) : exec (.taskDwellExpiry m) s =
    .next (((s.nextStop m x st.1).updPgl (fun p => { p with queue := p.queue ++ [s.stopReq m st.1] })).incF
      F.PGL_CNT_REPLAN) := by
  rw [exec_taskDwellExpiry_of_over hon hx hf hdwell hsus h, hnext]
  have hpush := State.planPush_of_room (s := s.nextStop m x st.1) hlen hwait (s.stopReq m st.1)
  exact congrArg (fun t : State => Host.Outcome.next (t.incF F.PGL_CNT_REPLAN)) hpush

end

/-- What the request for the next stop, counted in `f`, changes: PLAN_REQ, the member and the count. -/
theorem State.nextStop_queued (s : State) (m : Nat) (x : PTask) (goal : Nat) (r : PReq) {f : Fld}
    (hf : f.lo + f.width ≤ 32) :
    let t := ((s.nextStop m x goal).updPgl (fun p => { p with queue := p.queue ++ [r] })).incF f
    t.pgl.queue = s.pgl.queue ++ [r] ∧ (t.pm m).goal = some goal ∧
      (t.pm m).task = some { x with cur := x.cur + 1, dwell := none } ∧ OnlyFields s t [f] ∧
      t = { s with regs := t.regs, pgl := t.pgl } := by
  intro t
  have hpm : t.pm m = { s.pm m with goal := some goal, task := some { x with cur := x.cur + 1, dwell := none } } :=
    s.nextStop_pm m x goal
  exact ⟨rfl, by rw [hpm], by rw [hpm], (s.incF_onlyFields 1 hf).of_regs_eq rfl, rfl⟩

end

end Sys2Proof.Machine
end

section
/-! O48. -/
namespace Sys2Proof.Machine

/-- Settles O48: the intake and the planner by what they meet, an outcome by what the search gives, and by the time that is
over windows, positions and dwells. -/
theorem plannerCommands : Obligations.PlannerCommands := by
  unfold Obligations.PlannerCommands
  refine fun s hon => ⟨fun r q hq hlen => ⟨exec_planRequestIntake_of_frozen hon hq hlen,
      exec_planRequestIntake_of_first hon hq hlen, exec_planRequestIntake_of_open hon hq hlen⟩,
    exec_planRequestIntake_of_idle,
    fun r hr hf hidle => ⟨exec_plannerTake_of_segFull hr, fun hseg => ?room⟩,
    fun r hr hf => ⟨exec_planExhausted_of_planning hon hr hf, fun tabs => ⟨exec_planDone_of_late hr,
      fun hin best full hsearch => ⟨exec_planDone_of_noTables hon hr hf hin hsearch, fun htabs =>
        ⟨exec_planDone_of_tables_noPath hon hr hf hin hsearch htabs,
          exec_planDone_of_tables hon hr hf hin hsearch htabs⟩⟩⟩⟩,
    fun hidle => ⟨exec_planDone_of_idle hidle, exec_planExhausted_of_idle hidle⟩,
    fun m hm hlost hexec => ⟨exec_posStaleExpiry_of_young, fun h =>
      ⟨exec_posStaleExpiry_of_stale hon hm hlost hexec h, s.posLose_seen m, s.posLose_posLost m⟩⟩,
    fun m => exec_posStaleExpiry_of_resting,
    exec_rtTick_of_frozen,
    exec_rtTick_of_open hon,
    fun m x f hx hf hdwell hsus => ⟨exec_taskDwellExpiry_of_early hx hdwell,
      exec_taskDwellExpiry_of_last hon hx hf hdwell hsus, fun st h hnext hlen hwait =>
        ⟨_, exec_taskDwellExpiry_of_next hon hx hf hdwell hsus h hnext hlen hwait,
          s.nextStop_queued m x st.1 _ (by decide)⟩⟩⟩
  case room =>
    have htake := exec_plannerTake_of_room hon hr hf hidle hseg
    refine ⟨fun hbar hgoal => ?_, fun hbar hgoal => ?_, fun st hbar => ?_⟩
    · rw [htake, hbar]
      exact congrArg _ (if_neg (by simpa [Option.isSome_iff_ne_none] using hgoal))
    · rw [htake, hbar]
      exact congrArg _ (if_pos (by rw [hgoal]; rfl))
    · rw [htake, hbar]
      rfl

end Sys2Proof.Machine
end

section
/-! SUPPORT. O42: The inputs of the stop loops and their test pulses. -/
namespace Sys2Proof.Machine

section
variable {s t : State} {i : Nat}

/-! ### Flags -/

/-- A flag apart from the fields written reads as before. -/
theorem OnlyFields.flag {fs : List Fld} {g : Fld} (h : OnlyFields s t fs) (hg : g.apartFrom fs = true) :
    t.flag g = s.flag g := by
  rw [State.flag, State.flag, h.getF hg]

theorem State.flag_of_getF_one {f : Fld} (h : s.getF f = 1) : s.flag f = true := by
  rw [State.flag, h]
  rfl

theorem State.flag_of_getF_zero {f : Fld} (h : s.getF f = 0) : s.flag f = false := by
  rw [State.flag, h]
  rfl

/-- A flag written 1, or 0, reads so. -/
theorem State.flag_setF_one (s : State) {f : Fld} (h : f.lo + f.width ≤ 32) (hw : f.width = 1) :
    (s.setF f 1).flag f = true :=
  State.flag_of_getF_one ((State.getF_setF_same s f 1 h).trans (Nat.mod_eq_of_lt (Nat.one_lt_two_pow (by omega))))

theorem State.flag_setF_zero (s : State) {f : Fld} (h : f.lo + f.width ≤ 32) : (s.setF f 0).flag f = false :=
  State.flag_of_getF_zero (by rw [State.getF_setF_same _ _ _ h, Nat.zero_mod])

/-! ### The bits of a loop -/

theorem gzPulse_apartFrom_input (i : Nat) : (gzPulse i).apartFrom [gzInput i] = true := by
  simp [Fld.apartFrom, gzPulse, gzInput]

theorem gzInput_fits (hi : i < 3) : (gzInput i).lo + (gzInput i).width ≤ 32 := by
  simp only [gzInput]
  omega

theorem gzPulse_fits (hi : i < 2) : (gzPulse i).lo + (gzPulse i).width ≤ 32 := by
  simp only [gzPulse]
  omega

theorem gzProven_fits (hi : i < 2) : (gzProven i).lo + (gzProven i).width ≤ 32 := by
  simp only [gzProven]
  omega

/-- A change of an input leaves the pulse of its loop. -/
theorem State.flag_gzPulse_setInput (s : State) (hi : i < 3) (v : Nat) :
    (s.setF (gzInput i) v).flag (gzPulse i) = s.flag (gzPulse i) :=
  (OnlyFields.setF s (gzInput i) v (gzInput_fits hi)).flag (gzPulse_apartFrom_input i)

/-! ### An input's edge (R425, R438, R440) -/

theorem State.loopEdge_of_pulse (hi : i < 2) (h : s.flag (gzPulse i) = true) : s.loopEdge i = s := if_pos ⟨hi, h⟩

theorem State.loopEdge_of_quiet (h : i = 2 ∨ s.flag (gzPulse i) = false) : s.loopEdge i = s.loopDiff :=
  if_neg fun ⟨hi, hp⟩ => h.elim (fun h2 => by omega) fun hf => by simp [hf] at hp

theorem exec_stopInputEdge_of_open (h : s.flag (gzInput i) = false) : exec (.stopInputEdge i) s = .next s :=
  congrArg Host.Outcome.next (if_neg fun hc => by simp [h] at hc)

/-- An input that opens outside its own pulse: its level cause, after what it shows of the other loop's. -/
theorem exec_stopInputEdge_of_quiet (hon : s.gzOn = true) (hi : i < 3) (hf : s.flag (gzInput i) = true)
    (hq : i = 2 ∨ s.flag (gzPulse i) = false) : exec (.stopInputEdge i) s =
      .next (State.levelCause (if s.inOther i 0 50 then (s.setF (gzInput i) 0).loopDiff.updTest (1 - i)
        (fun t => { t with otherFell := true }) else (s.setF (gzInput i) 0).loopDiff) i) := by
  have hedge : (s.setF (gzInput i) 0).loopEdge i = (s.setF (gzInput i) 0).loopDiff :=
    State.loopEdge_of_quiet (by rwa [s.flag_gzPulse_setInput hi])
  refine congrArg Host.Outcome.next ((if_pos ⟨hon, hi, hf⟩).trans ?_)
  simp only [hedge]
  exact if_neg fun ⟨hlt, hp⟩ => hq.elim (fun h2 => by omega) fun hf => by simp [hf] at hp

/-- An input that opens inside its own pulse, outside the other loop's window: it shows, and no more. -/
theorem exec_stopInputEdge_of_pulse (hon : s.gzOn = true) (hi : i < 2) (hf : s.flag (gzInput i) = true)
    (hp : s.flag (gzPulse i) = true) (ho : s.inOther i 0 50 = false) :
    exec (.stopInputEdge i) s = .next (s.setF (gzInput i) 0) := by
  have hedge : (s.setF (gzInput i) 0).loopEdge i = s.setF (gzInput i) 0 :=
    State.loopEdge_of_pulse hi (by rwa [s.flag_gzPulse_setInput (by omega)])
  refine congrArg Host.Outcome.next ((if_pos ⟨hon, by omega, hf⟩).trans ?_)
  simp only [hedge, ho, if_neg Bool.false_ne_true]
  exact if_pos ⟨hi, hp⟩

/-- The input reads closed, its level cause is over. -/
def State.inputGood (s : State) (i : Nat) : State := (s.setF (gzInput i) 1).clrBit F.GZB_CAUSE_NOW_LEVEL i

theorem State.inputGood_onlyFields (s : State) (hi : i < 3) :
    OnlyFields s (s.inputGood i) [gzInput i, F.GZB_CAUSE_NOW_LEVEL] :=
  (OnlyFields.setF s _ _ (gzInput_fits hi)).snoc _ _ (by decide)

theorem State.inputGood_input (s : State) (hi : i < 3) : (s.inputGood i).flag (gzInput i) = true :=
  (OnlyFields.setF (s.setF (gzInput i) 1) F.GZB_CAUSE_NOW_LEVEL _ (by decide)).flag rfl |>.trans
    (s.flag_setF_one (gzInput_fits hi) rfl)

theorem State.inputGood_level (s : State) (i : Nat) : (s.inputGood i).bit F.GZB_CAUSE_NOW_LEVEL i = false := by
  rw [State.inputGood, State.bit_clrBit _ (by decide), decide_eq_false (by simp), Bool.and_false]

/-- An edge of a loop changes at most the time since which the loops differ. -/
theorem State.loopEdge_frame (s : State) (i : Nat) :
    s.loopEdge i = { s with gzb := { s.gzb with diffFrc := (s.loopEdge i).gzb.diffFrc } } := by
  unfold State.loopEdge
  split_ifs <;> rfl

theorem State.loopEdge_regs (s : State) (i : Nat) : (s.loopEdge i).regs = s.regs := by rw [s.loopEdge_frame]

theorem exec_loopReadsClosed_of_quiet (hon : s.gzOn = true) (hi : i < 3) (ho : s.inOther i 300 350 = false) :
    exec (.loopReadsClosed i) s = .next ((s.inputGood i).loopEdge i) :=
  congrArg Host.Outcome.next ((if_pos ⟨hon, hi⟩).trans (if_neg (by simp [ho])))

/-- An input that closes. -/
theorem loopReadsClosed_spec (hon : s.gzOn = true) (hi : i < 3) (ho : s.inOther i 300 350 = false) :
    ∃ t, exec (.loopReadsClosed i) s = .next t ∧ t.flag (gzInput i) = true ∧
      t.bit F.GZB_CAUSE_NOW_LEVEL i = false ∧ OnlyFields s t [gzInput i, F.GZB_CAUSE_NOW_LEVEL] ∧
      t = { s with regs := t.regs, gzb := { s.gzb with diffFrc := t.gzb.diffFrc } } := by
  have hregs := (s.inputGood i).loopEdge_regs i
  refine ⟨_, exec_loopReadsClosed_of_quiet hon hi ho, ?_, ?_, (s.inputGood_onlyFields hi).of_regs_eq hregs, ?_⟩
  · rw [State.flag, State.getF_of_regs hregs]
    exact s.inputGood_input hi
  · rw [State.bit, State.getF_of_regs hregs]
    exact s.inputGood_level i
  · rw [State.loopEdge_frame]
    rfl

/-! ### Test pulses (R438) -/

theorem exec_testPulse_of_due (hon : s.gzOn = true) (hi : i < 2) (h0 : s.flag (gzPulse 0) = false)
    (h1 : s.flag (gzPulse 1) = false) (hdue : s.pulseDue i = true) : exec (.testPulse i) s =
      .next ((s.setF (gzPulse i) 1).updTest i (fun t => { t with
        tpFrc := s.now, fallFail := false, otherFell := false, otherRose := false, crossFail := false })) :=
  congrArg Host.Outcome.next (if_pos ⟨hon, hi, hdue, by simp [h0], by simp [h1]⟩)

theorem exec_testPulse_of_not (h : s.pulseDue i = false ∨ s.flag (gzPulse 0) = true ∨ s.flag (gzPulse 1) = true) :
    exec (.testPulse i) s = .next s := by
  refine congrArg Host.Outcome.next (if_neg fun ⟨_, _, hdue, h0, h1⟩ => ?_)
  rcases h with h | h | h
  · simp [h] at hdue
  · exact h0 h
  · exact h1 h

/-- The self-test of a loop after a change of it. -/
theorem State.updTest_test_same (s : State) (i : Nat) (f : LoopTest → LoopTest) :
    (s.updTest i f).gzb.test i = f (s.gzb.test i) := by
  unfold State.updTest Gzb.test
  by_cases h : i = 0 <;> simp [h]

/-- Registers and Gazebo's own state alone differ. -/
def GzbFrame (s t : State) : Prop := t = { s with regs := t.regs, gzb := t.gzb }

theorem GzbFrame.refl (s : State) : GzbFrame s s := rfl

theorem GzbFrame.setF (h : GzbFrame s t) (f : Fld) (v : Nat) : GzbFrame s (t.setF f v) := by
  rw [GzbFrame, h]
  rfl

theorem GzbFrame.updGzb (h : GzbFrame s t) (f : Gzb → Gzb) : GzbFrame s (t.updGzb f) := by
  rw [GzbFrame, h]
  rfl

theorem exec_fallJudgement_of_not (h : s.flag (gzInput i) = false ∨ s.since (s.gzb.test i).tpFrc 50 = false) :
    exec (.fallJudgement i) s = .next s := by
  refine congrArg Host.Outcome.next (if_neg fun ⟨_, _, _, hin, hs⟩ => ?_)
  rcases h with h | h
  · simp [h] at hin
  · simp [h] at hs

theorem exec_fallJudgement_of_closed (hon : s.gzOn = true) (hi : i < 2) (hp : s.flag (gzPulse i) = true)
    (hin : s.flag (gzInput i) = true) (hs : s.since (s.gzb.test i).tpFrc 50 = true) : exec (.fallJudgement i) s =
      .next ((s.updTest i (fun t => { t with fallFail := true })).gzbFault (2 + i)) :=
  congrArg Host.Outcome.next (if_pos ⟨hon, hi, hp, hin, hs⟩)

/-! ### A pulse judged at its rise (R438) -/

/-- The pulse over, its judgement kept. -/
def State.judged (s : State) (i : Nat) (cross pass : Bool) : State :=
  ((s.setF (gzPulse i) 0).updTest i (fun t => { t with crossFail := cross, lastPassed := pass })).loopDiff

theorem State.judged_regs (s : State) (i : Nat) (cross pass : Bool) :
    (s.judged i cross pass).regs = (s.setF (gzPulse i) 0).regs := by
  simp only [State.judged, State.loopDiff, State.updTest, State.updGzb_regs]

theorem State.judged_frame (s : State) (i : Nat) (cross pass : Bool) : GzbFrame s (s.judged i cross pass) := by
  unfold State.judged State.loopDiff State.updTest
  exact (((GzbFrame.refl s).setF _ _).updGzb _).updGzb _

theorem State.judged_onlyFields (s : State) (hi : i < 2) (cross pass : Bool) :
    OnlyFields s (s.judged i cross pass) [gzPulse i] :=
  (OnlyFields.setF s _ _ (gzPulse_fits hi)).of_regs_eq (s.judged_regs i cross pass)

theorem State.judged_pulse (s : State) (hi : i < 2) (cross pass : Bool) :
    (s.judged i cross pass).flag (gzPulse i) = false := by
  rw [State.flag, State.getF_of_regs (s.judged_regs i cross pass)]
  exact s.flag_setF_zero (gzPulse_fits hi)

/-- Both halves of CROSS seen during the pulse of a loop. -/
def State.crossSeen (s : State) (i : Nat) : Bool := (s.gzb.test i).otherFell && (s.gzb.test i).otherRose

/-- Does a pulse pass at its rise? -/
def State.pulseGood (s : State) (i : Nat) : Bool :=
  !(s.gzb.test i).fallFail && !s.crossSeen i && s.flag (gzInput i) && !(s.gzb.test i).tpLimit && !(s.gzb.test i).reversed

theorem exec_riseJudgement_of_early (h : s.since (s.gzb.test i).tpFrc 350 = false) :
    exec (.riseJudgement i) s = .next s := congrArg Host.Outcome.next (if_neg fun hc => by simp [h] at hc)

/-- A pulse judged: CROSS, the level cause of a loop still open, and what a pulse that passes shows. -/
theorem exec_riseJudgement_of_due (hon : s.gzOn = true) (hi : i < 2) (hp : s.flag (gzPulse i) = true)
    (hs : s.since (s.gzb.test i).tpFrc 350 = true) : exec (.riseJudgement i) s =
      .next (
        let s1 := s.judged i (s.crossSeen i) (s.pulseGood i)
        let s2 := if s.crossSeen i then s1.gzbFault 4 else s1
        let s3 := if s.flag (gzInput i) then s2 else s2.levelCause i
        if s.pulseGood i then s3.pulsePassed i else s3) := by
  refine congrArg Host.Outcome.next ((if_pos ⟨hon, hi, hp, hs⟩).trans ?_)
  have hcross : decide ((s.gzb.test i).otherFell = true ∧ (s.gzb.test i).otherRose = true) = s.crossSeen i := by
    simp [State.crossSeen]
  have hpass : decide (¬ (s.gzb.test i).fallFail = true ∧
      ¬ ((s.gzb.test i).otherFell = true ∧ (s.gzb.test i).otherRose = true) ∧ s.flag (gzInput i) = true ∧
      ¬ (s.gzb.test i).tpLimit = true ∧ ¬ (s.gzb.test i).reversed = true) = s.pulseGood i := by
    simp [State.pulseGood, State.crossSeen, Bool.and_assoc]
  simp only [← hcross, ← hpass, decide_eq_true_eq]
  rfl

/-- The pulses of a loop counted. -/
abbrev pulseCnt (i : Nat) : Fld := ⟨R.GZB_PULSE_CNT, 16 * i, 16⟩

theorem pulseCnt_fits (hi : i < 2) : (pulseCnt i).lo + (pulseCnt i).width ≤ 32 := by
  simp only
  omega

theorem State.pulsePassed_eq (s : State) (i : Nat) :
    s.pulsePassed i = (s.setF (gzProven i) 1).setF (pulseCnt i) (s.getF (pulseCnt i) + 1) := rfl

theorem State.pulsePassed_onlyFields (s : State) (hi : i < 2) :
    OnlyFields s (s.pulsePassed i) [gzProven i, pulseCnt i] :=
  (OnlyFields.setF s _ _ (gzProven_fits hi)).snoc _ _ (pulseCnt_fits hi)

theorem State.pulsePassed_proven (s : State) (hi : i < 2) : (s.pulsePassed i).flag (gzProven i) = true :=
  ((OnlyFields.setF (s.setF (gzProven i) 1) (pulseCnt i) _ (pulseCnt_fits hi)).flag rfl).trans
    (s.flag_setF_one (gzProven_fits hi) rfl)

theorem State.pulsePassed_count (s : State) (hi : i < 2) :
    (s.pulsePassed i).getF (pulseCnt i) = (s.getF (pulseCnt i) + 1) % 65536 := by
  rw [s.pulsePassed_eq, State.getF_setF_same _ _ _ (pulseCnt_fits hi)]
  rfl

section
variable (hon : s.gzOn = true) (hi : i < 2) (hp : s.flag (gzPulse i) = true)
  (hs : s.since (s.gzb.test i).tpFrc 350 = true)
include hon hi hp hs

/-- A pulse that passes sets PROVEN and counts. -/
theorem riseJudgement_of_passed (hc : s.crossSeen i = false) (hin : s.flag (gzInput i) = true)
    (hfall : (s.gzb.test i).fallFail = false) (hlim : (s.gzb.test i).tpLimit = false)
    (hrev : (s.gzb.test i).reversed = false) : ∃ t, exec (.riseJudgement i) s = .next t ∧
      t.flag (gzPulse i) = false ∧ t.flag (gzProven i) = true ∧
      t.getF (pulseCnt i) = (s.getF (pulseCnt i) + 1) % 65536 ∧
      OnlyFields s t [gzPulse i, gzProven i, pulseCnt i] ∧ t = { s with regs := t.regs, gzb := t.gzb } := by
  have hgood : s.pulseGood i = true := by simp [State.pulseGood, hc, hin, hfall, hlim, hrev]
  have hjudged := s.judged_onlyFields hi false true
  have hpassed := (s.judged i false true).pulsePassed_onlyFields hi
  refine ⟨(s.judged i false true).pulsePassed i, ?_, ?_, State.pulsePassed_proven _ hi, ?_, hjudged.trans hpassed,
    ((s.judged_frame i false true).setF _ _).setF _ _⟩
  · rw [exec_riseJudgement_of_due hon hi hp hs, hgood, hc, hin]
    simp only [if_true, if_neg Bool.false_ne_true]
  · rw [hpassed.flag (by simp [Fld.apartFrom, gzPulse, gzProven]), s.judged_pulse hi]
  · rw [State.pulsePassed_count _ hi, hjudged.getF rfl]

/-- A pulse whose loop closed, but which does not pass, shows that it is over. -/
theorem riseJudgement_of_failed (hc : s.crossSeen i = false) (hin : s.flag (gzInput i) = true)
    (hfail : (s.gzb.test i).fallFail = true ∨ (s.gzb.test i).tpLimit = true ∨ (s.gzb.test i).reversed = true) :
    ∃ t, exec (.riseJudgement i) s = .next t ∧ t.flag (gzPulse i) = false ∧ OnlyFields s t [gzPulse i] ∧
      t = { s with regs := t.regs, gzb := t.gzb } := by
  have hbad : s.pulseGood i = false := by
    rcases hfail with h | h | h <;> simp [State.pulseGood, h]
  refine ⟨s.judged i false false, ?_, s.judged_pulse hi false false, s.judged_onlyFields hi false false,
    s.judged_frame i false false⟩
  rw [exec_riseJudgement_of_due hon hi hp hs, hbad, hc, hin]
  simp only [if_true, if_neg Bool.false_ne_true]

/-- A loop still open at the end of its pulse is a stop. -/
theorem exec_riseJudgement_of_open (hc : s.crossSeen i = false) (hin : s.flag (gzInput i) = false) :
    exec (.riseJudgement i) s = .next ((s.judged i false false).levelCause i) := by
  have hbad : s.pulseGood i = false := by simp [State.pulseGood, hin]
  rw [exec_riseJudgement_of_due hon hi hp hs, hbad, hc, hin]
  simp only [if_neg Bool.false_ne_true]

/-- The other loop seen to follow is CROSS. -/
theorem exec_riseJudgement_of_cross (hc : s.crossSeen i = true) (hin : s.flag (gzInput i) = true) :
    exec (.riseJudgement i) s = .next ((s.judged i true false).gzbFault 4) := by
  have hbad : s.pulseGood i = false := by simp [State.pulseGood, hc]
  rw [exec_riseJudgement_of_due hon hi hp hs, hbad, hc, hin]
  simp only [if_true, if_neg Bool.false_ne_true]

end

end

/-- Settles O42: an edge by the pulse that it falls in, a pulse by what its two judgements find. -/
theorem loopInputsAndPulses : Obligations.LoopInputsAndPulses := by
  unfold Obligations.LoopInputsAndPulses
  refine fun i s hon => ⟨fun _ => exec_stopInputEdge_of_open, fun hi hf hq => ?quiet, fun hi hf hp ho => ?pulse,
    loopReadsClosed_spec hon, fun hi h0 h1 => ⟨fun hdue => ?due, fun hdue => exec_testPulse_of_not (.inl hdue)⟩,
    fun h => exec_testPulse_of_not (.inr h),
    fun hi hp => ⟨exec_fallJudgement_of_not, exec_fallJudgement_of_closed hon hi hp, exec_riseJudgement_of_early,
      fun hs hc => ⟨fun hin => ⟨riseJudgement_of_passed hon hi hp hs hc hin,
          riseJudgement_of_failed hon hi hp hs hc hin⟩,
        exec_riseJudgement_of_open hon hi hp hs hc⟩,
      fun hs hfell hrose hin => exec_riseJudgement_of_cross hon hi hp hs (by simp [State.crossSeen, hfell, hrose]) hin⟩⟩
  case quiet =>
    rw [exec_stopInputEdge_of_quiet hon hi hf hq]
    exact ⟨fun ho => by rw [if_neg (by simp [ho])], fun ho => by rw [if_pos ho]⟩
  case pulse =>
    exact ⟨_, exec_stopInputEdge_of_pulse hon hi hf hp ho, s.flag_setF_zero (gzInput_fits (by omega)),
      OnlyFields.setF s _ 0 (gzInput_fits (by omega)), rfl⟩
  case due =>
    refine ⟨_, exec_testPulse_of_due hon hi h0 h1 hdue, s.flag_setF_one (gzPulse_fits hi) rfl,
      State.updTest_test_same _ i _, (OnlyFields.setF s _ 1 (gzPulse_fits hi)).of_regs_eq rfl,
      ((GzbFrame.refl s).setF _ _).updGzb _⟩

end Sys2Proof.Machine
end

section
/-! SUPPORT. O45: Stop trains, the stop keys and the clear. -/
namespace Sys2Proof.Machine

section
variable {s : State}

/-! ### Trains (R429, R435) -/

/-- A repeat keys RFA alone. -/
theorem State.startTrain_repeat {r net rfb : Nat} (h : s.gzb.radio = some (r, net, rfb)) : s.startTrain false =
    { s.setF F.GZB_STAT_KEYING 1 with
      gzb := { s.gzb with train := some ⟨s.now, false, false, s.keyed⟩ }
      pads := { s.pads with paEnA := true, lnaEnA := false }
      bsa := s.bsa.cut s.now 68 } := by
  rw [State.startTrain, h]
  rfl

theorem exec_stopTrainRepeat_of_slot (hon : s.gzOn = true) (hst : s.stopStands = true) (ht : s.gzb.train = none)
    (hslot : s.trainSlot = true) : exec .stopTrainRepeat s = .next (s.startTrain false) :=
  congrArg Host.Outcome.next (if_pos ⟨hon, hst, by simp [ht], hslot⟩)

theorem exec_stopTrainRepeat_of_not (h : s.stopStands = false ∨ s.gzb.train ≠ none ∨ s.trainSlot = false) :
    exec .stopTrainRepeat s = .next s := by
  refine congrArg Host.Outcome.next (if_neg fun ⟨_, hst, ht, hslot⟩ => ?_)
  rcases h with h | h | h
  · simp [h] at hst
  · exact h (Option.isNone_iff_eq_none.1 ht)
  · simp [h] at hslot

/-- The words of a train that is over counted, and no train on air. -/
def State.trainCounted (s : State) (x : Train) : State :=
  ((s.setF F.GZB_STAT_KEYING 0).incF F.GZB_WORDS (if x.initial then 16 else 2)).updGzb (fun g => { g with train := none })

/-- A train that is over: its words counted, its pads given back. -/
def State.trainEnded (s : State) (x : Train) : State :=
  let u := s.trainCounted x
  let p := { s.pads with paEnA := false, lnaEnA := u.lnaRest 0 }
  { u with pads := if x.rfb then { p with paEnB := false, lnaEnB := u.lnaRest 1 } else p }

variable {x : Train}

theorem exec_stopTrainEnd_of_early (ht : s.gzb.train = some x)
    (h : s.since x.frc (if x.initial then 544 else 68) = false) : exec .stopTrainEnd s = .next s := by
  change execStopTrainEnd s = _
  rw [execStopTrainEnd, ht]
  exact congrArg Host.Outcome.next (if_pos (by rw [Train.us, h]; exact Bool.false_ne_true))

theorem exec_stopTrainEnd_of_over (ht : s.gzb.train = some x)
    (h : s.since x.frc (if x.initial then 544 else 68) = true) : exec .stopTrainEnd s = .next (s.trainEnded x) := by
  change execStopTrainEnd s = _
  rw [execStopTrainEnd, ht]
  exact congrArg Host.Outcome.next (if_neg (by rw [Train.us, h]; exact not_not.2 rfl))

theorem State.trainEnded_regs (s : State) (x : Train) : (s.trainEnded x).regs =
    ((s.setF F.GZB_STAT_KEYING 0).incF F.GZB_WORDS (if x.initial then 16 else 2)).regs := rfl

theorem State.trainEnded_onlyFields (s : State) (x : Train) :
    OnlyFields s (s.trainEnded x) [F.GZB_STAT_KEYING, F.GZB_WORDS] :=
  ((OnlyFields.setF s F.GZB_STAT_KEYING 0 (by decide)).trans (State.incF_onlyFields _ _ (by decide))).of_regs_eq
    (s.trainEnded_regs x)

theorem State.trainEnded_keying (s : State) (x : Train) : (s.trainEnded x).getF F.GZB_STAT_KEYING = 0 := by
  rw [State.getF_of_regs (s.trainEnded_regs x), (State.incF_onlyFields _ _ (by decide)).getF rfl,
    State.getF_setF_same _ _ _ (by decide), Nat.zero_mod]

theorem State.trainEnded_words (s : State) (x : Train) : (s.trainEnded x).getF F.GZB_WORDS =
    min (s.getF F.GZB_WORDS + if x.initial then 16 else 2) (2 ^ F.GZB_WORDS.width - 1) := by
  rw [State.getF_of_regs (s.trainEnded_regs x), State.getF_incF_same _ _ _ (by decide),
    (OnlyFields.setF s F.GZB_STAT_KEYING 0 (by decide)).getF rfl]

theorem State.lnaRest_withPads (s : State) (p : Pads) (b : Nat) :
    ({ s with pads := p } : State).lnaRest b = s.lnaRest b := rfl

/-- The pads rest as the state that the train leaves says. -/
theorem State.trainEnded_lnaRest (s : State) (x : Train) (b : Nat) :
    (s.trainEnded x).lnaRest b = (s.trainCounted x).lnaRest b := State.lnaRest_withPads _ _ b

theorem State.trainEnded_padsA (s : State) (x : Train) : (s.trainEnded x).pads.paEnA = false ∧
    (s.trainEnded x).pads.lnaEnA = (s.trainEnded x).lnaRest 0 := by
  rw [State.trainEnded_lnaRest]
  unfold State.trainEnded
  cases x.rfb <;> exact ⟨rfl, rfl⟩

theorem State.trainEnded_padsB (s : State) (h : x.rfb = true) : (s.trainEnded x).pads.paEnB = false ∧
    (s.trainEnded x).pads.lnaEnB = (s.trainEnded x).lnaRest 1 := by
  rw [State.trainEnded_lnaRest]
  unfold State.trainEnded
  rw [h]
  exact ⟨rfl, rfl⟩

theorem State.trainEnded_padsB_kept (s : State) (h : x.rfb = false) :
    (s.trainEnded x).pads.paEnB = s.pads.paEnB ∧ (s.trainEnded x).pads.lnaEnB = s.pads.lnaEnB := by
  unfold State.trainEnded
  rw [h]
  exact ⟨rfl, rfl⟩

theorem State.trainCounted_gzb (s : State) (x : Train) : (s.trainCounted x).gzb = { s.gzb with train := none } := by
  rw [State.trainCounted, State.updGzb_gzb, State.incF_gzb, State.setF_gzb]

theorem State.trainCounted_frame (s : State) (x : Train) : GzbFrame s (s.trainCounted x) :=
  (((GzbFrame.refl s).setF _ _).setF _ _).updGzb _

theorem GzbFrame.withPads {u : State} (h : GzbFrame s u) (p : Pads) :
    ({ u with pads := p } : State) = { s with regs := u.regs, gzb := u.gzb, pads := p } := by
  rw [h]

theorem State.trainEnded_frame (s : State) (x : Train) : s.trainEnded x = { s with
    regs := (s.trainEnded x).regs, gzb := (s.trainEnded x).gzb, pads := (s.trainEnded x).pads } :=
  (s.trainCounted_frame x).withPads _

/-- A slot start with no train on air. -/
theorem stopTrainRepeat_spec {r net rfb : Nat} (hon : s.gzOn = true) (hst : s.stopStands = true)
    (ht : s.gzb.train = none) (hradio : s.gzb.radio = some (r, net, rfb)) (hslot : s.trainSlot = true) :
    ∃ t, exec .stopTrainRepeat s = .next t ∧ t.getF F.GZB_STAT_KEYING = 1 ∧
      t.gzb = { s.gzb with train := some ⟨s.now, false, false, s.keyed⟩ } ∧
      t.pads = { s.pads with paEnA := true, lnaEnA := false } ∧ OnlyFields s t [F.GZB_STAT_KEYING] ∧
      t = { s with regs := t.regs, gzb := t.gzb, pads := t.pads, bsa := s.bsa.cut s.now 68 } := by
  refine ⟨_, (exec_stopTrainRepeat_of_slot hon hst ht hslot).trans
    (congrArg Host.Outcome.next (State.startTrain_repeat hradio)), ?_, rfl, rfl,
    (OnlyFields.setF s F.GZB_STAT_KEYING 1 (by decide)).of_regs_eq rfl, rfl⟩
  exact State.getF_setF_same s F.GZB_STAT_KEYING 1 (by decide)

/-- The end of a train. -/
theorem stopTrainEnd_spec (hx : s.gzb.train = some x) (hs : s.since x.frc (if x.initial then 544 else 68) = true) :
    ∃ t, exec .stopTrainEnd s = .next t ∧ t.getF F.GZB_STAT_KEYING = 0 ∧
      t.getF F.GZB_WORDS = min (s.getF F.GZB_WORDS + if x.initial then 16 else 2) (2 ^ F.GZB_WORDS.width - 1) ∧
      t.gzb = { s.gzb with train := none } ∧ t.pads.paEnA = false ∧ t.pads.lnaEnA = t.lnaRest 0 ∧
      (x.rfb = true → t.pads.paEnB = false ∧ t.pads.lnaEnB = t.lnaRest 1) ∧
      (x.rfb = false → t.pads.paEnB = s.pads.paEnB ∧ t.pads.lnaEnB = s.pads.lnaEnB) ∧
      OnlyFields s t [F.GZB_STAT_KEYING, F.GZB_WORDS] ∧
      t = { s with regs := t.regs, gzb := t.gzb, pads := t.pads } := by
  obtain ⟨hpaA, hlnaA⟩ := s.trainEnded_padsA x
  exact ⟨_, exec_stopTrainEnd_of_over hx hs, s.trainEnded_keying x, s.trainEnded_words x,
    s.trainCounted_gzb x, hpaA, hlnaA, s.trainEnded_padsB, s.trainEnded_padsB_kept,
    s.trainEnded_onlyFields x, s.trainEnded_frame x⟩

/-! ### The first key (R427, R432) -/

theorem exec_gzbInitExit_of_ready (hst : s.gzState = Gz.INIT) (hkey : s.flag F.GZB_STAT_KEY_VALID = true)
    (hword : s.flag F.GZB_STAT_WORD_READY = true) : exec .gzbInitExit s =
      .next (((s.setF F.GZB_STAT_STATE Gz.STOPPED).setF F.GZB_STAT_ARMED 1).setF F.GZB_STAT_STOP_CNT 1).stopWords :=
  congrArg Host.Outcome.next (if_pos ⟨hst, hkey, hword⟩)

theorem exec_gzbInitExit_of_not (h : s.gzState ≠ Gz.INIT ∨ s.flag F.GZB_STAT_KEY_VALID = false ∨
    s.flag F.GZB_STAT_WORD_READY = false) : exec .gzbInitExit s = .next s := by
  refine congrArg Host.Outcome.next (if_neg fun ⟨hst, hkey, hword⟩ => ?_)
  rcases h with h | h | h
  · exact h hst
  · simp [h] at hkey
  · simp [h] at hword

variable {k : BsKey}

theorem exec_stopKeyLoad_of_on (hon : s.gzOn = true) (h8 : s.domOn 8 = true) (next : Bool) :
    exec (.stopKeyLoad next) s = .next (s.stopKeyLoad next) := congrArg Host.Outcome.next (if_pos ⟨hon, h8⟩)

theorem State.stopKeyLoad_current (hw : s.keysWithheld = false) (hk : s.bsa.key? 0xFF = some k) :
    s.stopKeyLoad false = s.setStopKeys (some k.key) s.gzb.nextKey := by
  simp [State.stopKeyLoad, hk, hw]

theorem State.stopKeyLoad_next {x : Bytes} (hw : s.keysWithheld = false) (hk : s.bsa.key? 0xFF = some k)
    (hx : k.next = some x) : s.stopKeyLoad true = s.setStopKeys s.gzb.curKey (some x) := by
  simp [State.stopKeyLoad, hk, hw, hx]

/-! ### The clear (R443–R445) -/

section
variable {i : WItem}

theorem exec_gzbClear_of_running {wid c : Nat} (hact : s.active? wid W.GZB_CLEAR = some i) (hph : i.phase = .running c) :
    exec (.gzbClear wid) s = .next (s.gzbClear i) := by
  change execGzbClear wid s = _
  rw [execGzbClear, hact]
  simp only [hph]

theorem State.gzbClear_of_badLength (hlen : i.payload.length ≠ 16) :
    s.gzbClear i = (s.setF F.GZB_CLEAR_STAT St.BAD_ARG).finish i.wid St.BAD_ARG := if_pos hlen

variable (hlen : i.payload.length = 16)
include hlen

/-- A TAG of the right length brings the checks of R444, in their order. -/
theorem State.gzbClear_of_length : s.gzbClear i =
    if s.gzState ≠ Gz.STOPPED then s.clearRefuse i.wid 0x80 (i.arg 1)
    else if bitsOf (i.arg 0) 0 16 ≠ s.getF F.GZB_STAT_STOP_CNT then s.clearRefuse i.wid 0x81 (i.arg 1)
    else if i.arg 1 ≤ s.getF F.GZB_CLEAR_SEQ then s.clearRefuse i.wid 0x82 (i.arg 1)
    else if !s.domOn 13 then s.needD13
    else
      let r := (s.idleStart 13).tryKeys (.clear i.wid) (clearTagOk i) (s.slotsOf Cls.CLEAR_AUTH)
      r.2.clearSigned i r.1 := if_neg (not_not.2 hlen)

theorem State.gzbClear_of_state (hst : s.gzState ≠ Gz.STOPPED) :
    s.gzbClear i = s.clearRefuse i.wid 0x80 (i.arg 1) := by
  rw [State.gzbClear_of_length hlen, if_pos hst]

variable (hst : s.gzState = Gz.STOPPED)
include hst

theorem State.gzbClear_of_count (hcnt : bitsOf (i.arg 0) 0 16 ≠ s.getF F.GZB_STAT_STOP_CNT) :
    s.gzbClear i = s.clearRefuse i.wid 0x81 (i.arg 1) := by
  rw [State.gzbClear_of_length hlen, if_neg (not_not.2 hst), if_pos hcnt]

variable (hcnt : bitsOf (i.arg 0) 0 16 = s.getF F.GZB_STAT_STOP_CNT)
include hcnt

theorem State.gzbClear_of_seq (hseq : i.arg 1 ≤ s.getF F.GZB_CLEAR_SEQ) :
    s.gzbClear i = s.clearRefuse i.wid 0x82 (i.arg 1) := by
  rw [State.gzbClear_of_length hlen, if_neg (not_not.2 hst), if_neg (not_not.2 hcnt), if_pos hseq]

variable (hseq : s.getF F.GZB_CLEAR_SEQ < i.arg 1)
include hseq

theorem State.gzbClear_of_d13_off (h13 : s.domOn 13 = false) : s.gzbClear i = s.needD13 := by
  rw [State.gzbClear_of_length hlen, if_neg (not_not.2 hst), if_neg (not_not.2 hcnt), if_neg (Nat.not_le.2 hseq), h13]
  rfl

/-- Checks 1 to 3 hold and D13 is ON: Orangery's answer to the TAG decides. -/
theorem State.gzbClear_of_tag (h13 : s.domOn 13 = true) {u : Option Bool × State}
    (hu : (s.idleStart 13).tryKeys (.clear i.wid) (clearTagOk i) (s.slotsOf Cls.CLEAR_AUTH) = u) :
    s.gzbClear i = u.2.clearSigned i u.1 := by
  rw [State.gzbClear_of_length hlen, if_neg (not_not.2 hst), if_neg (not_not.2 hcnt), if_neg (Nat.not_le.2 hseq), h13,
    if_neg (by decide), hu]

end

section
variable {i : WItem} {u : Option Bool × State}

theorem State.clearSigned_of_waiting (h : u.1 = none) : u.2.clearSigned i u.1 = u.2.park i.wid := by
  rw [h]
  rfl

theorem State.clearSigned_of_false (h : u.1 = some false) :
    u.2.clearSigned i u.1 = u.2.clearRefuse i.wid 0x83 (i.arg 1) := by
  rw [h]
  rfl

theorem State.clearSigned_of_late {st : Nat} (h : u.1 = some true) (hl : u.2.clearLate i.mark = some st) :
    u.2.clearSigned i u.1 = u.2.clearRefuse i.wid st (i.arg 1) := by
  rw [h]
  simp only [State.clearSigned, hl]

theorem State.clearSigned_of_passed (h : u.1 = some true) (hl : u.2.clearLate i.mark = none) :
    u.2.clearSigned i u.1 = (u.2.psRequest
      (.clear i.wid (bitsOf (i.arg 0) 0 16) (i.arg 1) i.mark) (.clearSeq (i.arg 1))).park i.wid := by
  rw [h]
  simp only [State.clearSigned, hl]

end

variable {wid cnt seq mark : Nat}

theorem State.clearStored_of_refused {st : Nat}
    (h : (s.setF F.GZB_CLEAR_SEQ seq).clearAgain cnt mark = some st) :
    s.clearStored wid cnt seq mark = (s.setF F.GZB_CLEAR_SEQ seq).clearRefuse wid st seq := by
  rw [State.clearStored, State.clearRecheck, h]

theorem State.clearStored_of_passed (h : (s.setF F.GZB_CLEAR_SEQ seq).clearAgain cnt mark = none) :
    s.clearStored wid cnt seq mark = (s.setF F.GZB_CLEAR_SEQ seq).clearAccept wid cnt seq := by
  rw [State.clearStored, State.clearRecheck, h]

end

/-- Settles O45: a train by its slot and its time, a key by what entry 0xFF holds, a clear by the first check that it
fails. -/
theorem trainsAndClear : Obligations.TrainsAndClear := by
  unfold Obligations.TrainsAndClear
  refine fun s => ⟨fun r net rfb => stopTrainRepeat_spec, exec_stopTrainRepeat_of_not,
    fun x hx => ⟨exec_stopTrainEnd_of_early hx, stopTrainEnd_spec hx⟩, exec_gzbInitExit_of_ready, exec_gzbInitExit_of_not,
    fun k hon h8 hw hk => ⟨?current, fun x hx => ?next⟩, fun wid i c hact hph => ?clear,
    fun wid cnt seq mark => ⟨fun st => State.clearStored_of_refused, State.clearStored_of_passed⟩⟩
  case current => rw [exec_stopKeyLoad_of_on hon h8, State.stopKeyLoad_current hw hk]
  case next => rw [exec_stopKeyLoad_of_on hon h8, State.stopKeyLoad_next hw hk hx]
  case clear =>
    rw [exec_gzbClear_of_running hact hph]
    refine ⟨fun hlen => congrArg _ (State.gzbClear_of_badLength hlen),
      fun hlen hst => congrArg _ (State.gzbClear_of_state hlen hst),
      fun hlen hst => ⟨fun hcnt => congrArg _ (State.gzbClear_of_count hlen hst hcnt),
        fun hcnt => ⟨fun hseq => congrArg _ (State.gzbClear_of_seq hlen hst hcnt hseq),
          fun hseq h13 => congrArg _ (State.gzbClear_of_d13_off hlen hst hcnt hseq h13), fun hseq h13 u hu => ?_⟩⟩⟩
    rw [State.gzbClear_of_tag hlen hst hcnt hseq h13 hu]
    exact ⟨fun h => congrArg _ (State.clearSigned_of_waiting h), fun h => congrArg _ (State.clearSigned_of_false h),
      fun h st hl => congrArg _ (State.clearSigned_of_late h hl), fun h hl => congrArg _ (State.clearSigned_of_passed h hl)⟩

end Sys2Proof.Machine
end

section
/-! SUPPORT. O39: What controls an axis: enabling, its checks, its limits, its faults and its current at rest. -/
namespace Sys2Proof.Machine

/-- A field written with a value that it holds reads it, and is alone in changing. -/
theorem State.setF_spec (s : State) {f : Fld} (h : f.lo + f.width ≤ 32) {v : Nat} (hv : v < 2 ^ f.width) :
    (s.setF f v).getF f = v ∧ OnlyFields s (s.setF f v) [f] ∧ s.setF f v = { s with regs := (s.setF f v).regs } :=
  ⟨by rw [State.getF_setF_same _ _ _ h, Nat.mod_eq_of_lt hv], OnlyFields.setF s f v h, rfl⟩

/-! ### A change of an axis's state (R455, R468) -/

/-- The fields that a change of an axis's state writes. -/
abbrev axShownFlds (n : Nat) : List Fld :=
  [F.WKT_AXn_STAT_STATE n, F.WKT_STAT_ENABLED, F.WKT_STAT_MOVING, F.WKT_STAT_FAULTED]

/-- The registers that show an axis's new state. -/
def State.axShown (s : State) (n st : Nat) : State :=
  (((s.setF (F.WKT_AXn_STAT_STATE n) st).setMask F.WKT_STAT_ENABLED n (st ≠ Ax.DISABLED ∧ st ≠ Ax.FAULT)).setMask
    F.WKT_STAT_MOVING n (st = Ax.MOVING ∨ st = Ax.HOMING ∨ st = Ax.EMERGENCY)).setMask
    F.WKT_STAT_FAULTED n (st = Ax.FAULT)

theorem State.setAx_of_other {s : State} {n st : Nat} (h : s.axState n ≠ st) :
    s.setAx n st = (s.axShown n st).wktEvent 1 n st (s.getI (F.WKT_AXn_POS n)) := if_neg h

theorem OnlyFields.setMask {s t : State} {fs : List Fld} (h : OnlyFields s t fs) {f : Fld} (hf : f.lo + f.width ≤ 32)
    (n : Nat) (b : Bool) : OnlyFields s (t.setMask f n b) (fs ++ [f]) := by
  unfold State.setMask
  split_ifs <;> exact h.snoc f _ hf

theorem State.setMask_frame {s t : State} (h : t = { s with regs := t.regs }) (f : Fld) (n : Nat) (b : Bool) :
    t.setMask f n b = { s with regs := (t.setMask f n b).regs } := by
  unfold State.setMask
  split_ifs <;> exact State.setF_frame h f _

theorem State.axShown_onlyFields (s : State) (n st : Nat) : OnlyFields s (s.axShown n st) (axShownFlds n) :=
  (((OnlyFields.setF s (F.WKT_AXn_STAT_STATE n) st (by simp)).setMask (by decide) n _).setMask (by decide) n _).setMask
    (by decide) n _

theorem State.axShown_frame (s : State) (n st : Nat) : s.axShown n st = { s with regs := (s.axShown n st).regs } :=
  State.setMask_frame (State.setMask_frame (State.setMask_frame (State.setF_frame rfl _ _) _ _ _) _ _ _) _ _ _

/-- A change of an axis's state changes windows and registers. -/
theorem State.setAx_frame (s : State) (n st : Nat) :
    s.setAx n st = { s with regs := (s.setAx n st).regs, strms := (s.setAx n st).strms } := by
  unfold State.setAx
  split_ifs
  · rfl
  · exact State.wktEvent_frame (s.axShown_frame n st) 1 n st _

@[simp] theorem State.setAx_axes (s : State) (n st : Nat) : (s.setAx n st).axes = s.axes := by rw [State.setAx_frame]

/-- A field of a unit's register apart from those that show the state reads through its change as before. -/
theorem State.setAx_getF (s : State) {n : Nat} (st : Nat) {f : Fld} (hu : UnitReg f.addr)
    (hf : f.apartFrom (axShownFlds n) = true) : (s.setAx n st).getF f = s.getF f := by
  by_cases h : s.axState n = st
  · rw [State.setAx, if_pos h]
  · rw [State.setAx_of_other h, (State.wktEvent_sameUnits _ 1 n st _).getF hu, (s.axShown_onlyFields n st).getF hf]

/-- Registers, windows and axes alone differ. -/
def AxFrame (s t : State) : Prop := t = { s with regs := t.regs, strms := t.strms, axes := t.axes }

section
variable {s t : State}

theorem AxFrame.refl (s : State) : AxFrame s s := rfl

theorem AxFrame.setF (h : AxFrame s t) (f : Fld) (v : Nat) : AxFrame s (t.setF f v) := by
  rw [AxFrame, h]
  rfl

theorem AxFrame.updAx (h : AxFrame s t) (n : Nat) (g : Axis → Axis) : AxFrame s (t.updAx n g) := by
  rw [AxFrame, h]
  rfl

/-- A change of windows and registers. -/
theorem AxFrame.withWindows {u : State} (h : AxFrame s t) (hu : u = { t with regs := u.regs, strms := u.strms }) :
    AxFrame s u := by
  rw [AxFrame, hu, h]

theorem AxFrame.setAx (h : AxFrame s t) (n st : Nat) : AxFrame s (t.setAx n st) := h.withWindows (t.setAx_frame n st)

theorem AxFrame.wktEvent (h : AxFrame s t) (kind n info : Nat) (value : Int) :
    AxFrame s (t.wktEvent kind n info value) := h.withWindows (State.wktEvent_frame rfl kind n info value)

end

/-- A change of an axis and a field written. -/
theorem State.updAx_setF_spec (s : State) (n : Nat) (g : Axis → Axis) {f : Fld} (h : f.lo + f.width ≤ 32) {v : Nat}
    (hv : v < 2 ^ f.width) : ((s.updAx n g).setF f v).getF f = v ∧
      ((s.updAx n g).setF f v).axes = updAt n g s.axes ∧ OnlyFields s ((s.updAx n g).setF f v) [f] ∧
      (s.updAx n g).setF f v = { s with
        regs := ((s.updAx n g).setF f v).regs, axes := ((s.updAx n g).setF f v).axes } :=
  ⟨by rw [State.getF_setF_same _ _ _ h, Nat.mod_eq_of_lt hv], rfl, OnlyFields.setF (s.updAx n g) f v h, rfl⟩

theorem homed_apartFrom_axShown (n : Nat) : (F.WKT_AXn_STAT_HOMED n).apartFrom (axShownFlds n) = true := by
  simp [Fld.apartFrom]
  omega

theorem reduced_apartFrom_axShown (n : Nat) : (F.WKT_AXn_STAT_REDUCED n).apartFrom (axShownFlds n) = true := by
  simp [Fld.apartFrom]
  omega

section
variable {s : State} {m : Master} {n : Nat}

/-! ### WKT_AXn_CTRL (R455, R456) -/

section
variable (hn : n < 4) (hacc : s.wrAcc m (R.WKT_AXn_CTRL n) = .ok)
include hn hacc

theorem exec_wktEnable_of_ok : exec (.wktEnable m n) s = .next (s.axEnable n) :=
  congrArg Host.Outcome.next ((if_neg (by omega)).trans (State.guardW_ok_eq hacc 1 _))

theorem exec_wktDisable_of_ok : exec (.wktDisable m n) s = .next (s.axDisable n) :=
  congrArg Host.Outcome.next ((if_neg (by omega)).trans (State.guardW_ok_eq hacc 2 _))

theorem exec_wktZero_of_ok : exec (.wktZero m n) s = .next (s.axZero n) :=
  congrArg Host.Outcome.next ((if_neg (by omega)).trans (State.guardW_ok_eq hacc 4 _))

end

/-- An axis that enters CHECKING. -/
theorem State.axEnable_spec (hn : n < 4) (hu : s.axUsed n = true) (hst : s.axState n = Ax.DISABLED) :
    (s.axEnable n).axState n = Ax.CHECKING ∧
      (s.axEnable n).axes = updAt n (fun a => { a with winds := [{}, {}], checkFrc := s.now }) s.axes ∧
      s.axEnable n = { s with
        regs := (s.axEnable n).regs, strms := (s.axEnable n).strms, axes := (s.axEnable n).axes } := by
  rw [State.axEnable, if_pos ⟨hu, hst⟩]
  exact ⟨State.axState_setAx _ hn (by decide), State.setAx_axes _ _ _, ((AxFrame.refl s).updAx n _).setAx n _⟩

theorem State.axEnable_of_not (h : s.axUsed n = false ∨ s.axState n ≠ Ax.DISABLED) : s.axEnable n = s :=
  if_neg fun ⟨hu, hst⟩ => h.elim (fun hf => by simp [hf] at hu) fun hne => hne hst

theorem State.axDisable_of_moving (h : s.axState n ∈ [Ax.MOVING, Ax.HOMING, Ax.EMERGENCY]) :
    s.axDisable n = s.limIgnored n := if_pos (by simpa using h)

theorem State.dropPend_of_none (h : (s.ax n).pend = none) (st : Nat) : s.dropPend n st = s := by
  rw [State.dropPend, h]

/-- The fields that show an axis turned off. -/
def State.turnedOff (s : State) (n : Nat) : State :=
  (((s.setF (F.WKT_AXn_STAT_HOMED n) 0).setF (F.WKT_AXn_STAT_REDUCED n) 0).updAx n (fun a => { a with reducing := false }))

theorem State.turnedOff_reduced (s : State) (n : Nat) : (s.turnedOff n).getF (F.WKT_AXn_STAT_REDUCED n) = 0 :=
  State.getF_setF_same _ (F.WKT_AXn_STAT_REDUCED n) 0 (by simp)

theorem State.turnedOff_homed (s : State) (n : Nat) : (s.turnedOff n).getF (F.WKT_AXn_STAT_HOMED n) = 0 :=
  (State.getF_setF_bits (s.setF (F.WKT_AXn_STAT_HOMED n) 0) (F.WKT_AXn_STAT_REDUCED n) (F.WKT_AXn_STAT_HOMED n) 0
    (by simp) rfl (by simp)).trans (State.getF_setF_same s _ 0 (by simp))

theorem State.axDisable_of_rest (h : s.axState n ∈ [Ax.HOLD, Ax.STALLED]) (hp : (s.ax n).pend = none) :
    s.axDisable n = (s.turnedOff n).setAx n Ax.DISABLED := by
  have hrest : s.axState n = Ax.HOLD ∨ s.axState n = Ax.STALLED := by simpa using h
  rw [State.axDisable, if_neg (by rcases hrest with h | h <;> rw [h] <;> decide), if_pos hrest,
    State.dropPend_of_none hp, State.turnedOff]

/-- An axis turned off at rest. -/
theorem State.axDisable_spec (hn : n < 4) (h : s.axState n ∈ [Ax.HOLD, Ax.STALLED]) (hp : (s.ax n).pend = none) :
    (s.axDisable n).axState n = Ax.DISABLED ∧ (s.axDisable n).getF (F.WKT_AXn_STAT_HOMED n) = 0 ∧
      (s.axDisable n).getF (F.WKT_AXn_STAT_REDUCED n) = 0 ∧ s.axDisable n = { s with
        regs := (s.axDisable n).regs, strms := (s.axDisable n).strms, axes := (s.axDisable n).axes } := by
  have hu := unitReg_axis (c := 0) hn (by decide)
  rw [State.axDisable_of_rest h hp]
  refine ⟨State.axState_setAx _ hn (by decide), ?_, ?_,
    ((((AxFrame.refl s).setF _ _).setF _ _).updAx n _).setAx n _⟩
  · rw [State.setAx_getF _ _ hu (homed_apartFrom_axShown n), State.turnedOff_homed]
  · rw [State.setAx_getF _ _ hu (reduced_apartFrom_axShown n), State.turnedOff_reduced]

theorem State.axDisable_of_off (h : s.axState n ∈ [Ax.DISABLED, Ax.CHECKING, Ax.FAULT]) :
    s.axDisable n = s.setF (F.WKT_AXn_STAT_HOMED n) 0 := by
  have hoff : s.axState n = Ax.DISABLED ∨ s.axState n = Ax.CHECKING ∨ s.axState n = Ax.FAULT := by simpa using h
  refine (if_neg ?_).trans (if_neg ?_) <;> rcases hoff with h | h | h <;> rw [h] <;> decide

theorem State.axZero_of_hold (h : s.axState n = Ax.HOLD) :
    s.axZero n = (s.setI (F.WKT_AXn_POS n) 0).setF (F.WKT_AXn_STAT_HOMED n) 1 := if_pos h

/-- A position zeroed in HOLD. -/
theorem State.axZero_spec (h : s.axState n = Ax.HOLD) : (s.axZero n).getI (F.WKT_AXn_POS n) = 0 ∧
    (s.axZero n).getF (F.WKT_AXn_STAT_HOMED n) = 1 ∧
      OnlyFields s (s.axZero n) [F.WKT_AXn_POS n, F.WKT_AXn_STAT_HOMED n] ∧
      s.axZero n = { s with regs := (s.axZero n).regs } := by
  rw [State.axZero_of_hold h]
  refine ⟨?_, State.getF_setF_same _ (F.WKT_AXn_STAT_HOMED n) 1 (by simp),
    (OnlyFields.setF s (F.WKT_AXn_POS n) _ (by simp)).snoc _ _ (by simp),
    State.setF_frame (State.setF_frame rfl _ _) _ _⟩
  rw [State.getI, State.getF_setF_other _ _ _ _ (axisReg_ne (by decide) n)]
  exact State.getI_setI_same s (f := F.WKT_AXn_POS n) (by simp) 0

theorem State.axZero_of_stalled (h : s.axState n = Ax.STALLED) :
    s.axZero n = (s.setF (F.WKT_AXn_STAT_HOMED n) 1).enterHold n 0 :=
  (if_neg (by rw [h]; decide)).trans (if_pos h)

theorem State.axZero_of_other (h : s.axState n ∉ [Ax.HOLD, Ax.STALLED]) : s.axZero n = s := by
  have hne : s.axState n ≠ Ax.HOLD ∧ s.axState n ≠ Ax.STALLED := by simpa using h
  exact (if_neg hne.1).trans (if_neg hne.2)

/-! ### The checks (R456) -/

section
variable {sc : Option Nat} {ia ib : Nat} {vm : Int}

theorem State.checkFaults_reversed (h : vm < -300) : s.checkFaults n sc ia ib vm = 0x10 := if_pos h

theorem State.checkFaults_low (h0 : -300 ≤ vm) (h : vm < s.vmMin n) : s.checkFaults n sc ia ib vm = 0x20 :=
  (if_neg (Int.not_lt.2 h0)).trans (if_pos h)

theorem State.checkFaults_over (h0 : -300 ≤ vm) (h1 : s.vmMin n ≤ vm) (h : s.vmMax n < vm) :
    s.checkFaults n sc ia ib vm = 0x40 :=
  (if_neg (Int.not_lt.2 h0)).trans ((if_neg (Int.not_lt.2 h1)).trans (if_pos h))

/-- With the supply in its limits the self-check decides, then the currents reached. -/
theorem State.checkFaults_supplied (h : -300 ≤ vm ∧ s.vmMin n ≤ vm ∧ vm ≤ s.vmMax n) :
    s.checkFaults n sc ia ib vm = if sc.isSome then 0x80 else
      0x100 * b2n (decide (10 * ia < s.getF (F.WKT_AXn_IRUN_IRUN n))) +
        0x200 * b2n (decide (10 * ib < s.getF (F.WKT_AXn_IRUN_IRUN n))) :=
  (if_neg (Int.not_lt.2 h.1)).trans ((if_neg (Int.not_lt.2 h.2.1)).trans (if_neg (Int.not_lt.2 h.2.2)))

variable (hw : s.wktOn n = true) (hst : s.axState n = Ax.CHECKING)
include hw hst

/-- The checks end with the bits of the first that failed. -/
theorem exec_wktCheckDone_of_checking : exec (.wktCheckDone n sc ia ib vm) s = .next (
    let bits := s.checkFaults n sc ia ib vm
    if bits = 0 then (s.updAx n (fun a => { a with vm := some vm })).enterHold n (s.getI (F.WKT_AXn_POS n))
    else if bits = 0x80 then (s.setF (F.WKT_AXn_FAULT_SC_SWITCH n) (sc.getD 0)).axFault n 0x80 vm
    else s.axFault n bits vm) := congrArg Host.Outcome.next (if_pos ⟨hw, hst⟩)

theorem exec_wktCheckDone_of_fault {bits : Nat} (hb : s.checkFaults n sc ia ib vm = bits) (h0 : bits ≠ 0)
    (h80 : bits ≠ 0x80) : exec (.wktCheckDone n sc ia ib vm) s = .next (s.axFault n bits vm) := by
  rw [exec_wktCheckDone_of_checking hw hst, hb]
  simp only [if_neg h0, if_neg h80]

theorem exec_wktCheckDone_of_shorted {sw : Nat} (hb : s.checkFaults n (some sw) ia ib vm = 0x80) :
    exec (.wktCheckDone n (some sw) ia ib vm) s =
      .next ((s.setF (F.WKT_AXn_FAULT_SC_SWITCH n) sw).axFault n 0x80 vm) := by
  rw [exec_wktCheckDone_of_checking hw hst, hb]
  rfl

theorem exec_wktCheckDone_of_passed (hb : s.checkFaults n sc ia ib vm = 0) :
    exec (.wktCheckDone n sc ia ib vm) s =
      .next ((s.updAx n (fun a => { a with vm := some vm })).enterHold n (s.getI (F.WKT_AXn_POS n))) := by
  rw [exec_wktCheckDone_of_checking hw hst, hb]
  rfl

end

/-- A winding that stays open shows in its bit, which is no self-check's. -/
theorem openBits_ne {a b : Bool} (h : (a || b) = true) :
    0x100 * b2n a + 0x200 * b2n b ≠ 0 ∧ 0x100 * b2n a + 0x200 * b2n b ≠ 0x80 := by
  revert h
  revert a b
  decide

theorem openBits_eq_zero {a b : Bool} (ha : a = false) (hb : b = false) : 0x100 * b2n a + 0x200 * b2n b = 0 := by
  rw [ha, hb]
  rfl

/-! ### The limit registers (R463, R467) -/

theorem State.limIgnored_spec (s : State) (n : Nat) : (s.limIgnored n).getF (F.WKT_AXn_STAT_WR_IGNORED n) = 1 ∧
    OnlyFields s (s.limIgnored n) [F.WKT_AXn_STAT_WR_IGNORED n] ∧
      s.limIgnored n = { s with regs := (s.limIgnored n).regs } :=
  s.setF_spec (f := F.WKT_AXn_STAT_WR_IGNORED n) (by simp) (by simp)

theorem exec_wktLimitWrite_vmax (hn : n < 4) {v : Word} (hacc : s.wrAcc m (R.WKT_AXn_VMAX n) = .ok) :
    exec (.wktLimitWrite m n 0x18 v) s = .next (s.limitWrite n 0x18 v.toNat) := by
  refine congrArg Host.Outcome.next ((if_neg (by omega)).trans ?_)
  have haddr : 0xB0100 + 0x40 * n + 0x18 = R.WKT_AXn_VMAX n := by
    change _ = 0xB0118 + 0x40 * n
    omega
  rw [haddr, State.guardW_ok_eq hacc]

theorem State.limitWrite_vmax (s : State) (n v : Nat) : s.limitWrite n 0x18 v =
    if 1 ≤ v ∧ v ≤ s.axCeil n 28 then s.setF (F.WKT_AXn_VMAX n) v else s.limIgnored n := rfl

theorem exec_wktDecelWrite_dec (hn : n < 4) {v : Word} (hacc : s.wrAcc m (R.WKT_AXn_DEC n) = .ok) :
    exec (.wktDecelWrite m n false v) s = .next (s.limitWrite n 0x20 v.toNat) :=
  congrArg Host.Outcome.next ((if_neg (by omega)).trans (State.guardW_ok_eq hacc v.toNat _))

theorem exec_wktDecelWrite_edec (hn : n < 4) {v : Word} (hacc : s.wrAcc m (R.WKT_AXn_EDEC n) = .ok) :
    exec (.wktDecelWrite m n true v) s = .next (s.limitWrite n 0x24 v.toNat) :=
  congrArg Host.Outcome.next ((if_neg (by omega)).trans (State.guardW_ok_eq hacc v.toNat _))

theorem State.limitWrite_dec (s : State) (n v : Nat) : s.limitWrite n 0x20 v =
    if 1 ≤ v ∧ v ≤ 2 * s.axCeil n 36 ∧ v ≤ min (s.getF (F.WKT_AXn_EDEC n)) ((s.ax n).edecNew.getD (2 ^ 32))
    then s.writeDec n v else s.limIgnored n := rfl

theorem State.limitWrite_edec (s : State) (n v : Nat) : s.limitWrite n 0x24 v =
    if 1 ≤ v ∧ v ≤ 2 * s.axCeil n 40 ∧ max (s.getF (F.WKT_AXn_DEC n)) ((s.ax n).decNew.getD 0) ≤ v
    then s.writeEdec n v else s.limIgnored n := rfl

/-- A DEC that no braking makes wait. -/
theorem State.writeDec_of_free (h : s.brakingTo n = none) (v : Nat) :
    s.writeDec n v = (s.updAx n (fun a => { a with decNew := none })).setF (F.WKT_AXn_DEC n) v := by
  rw [State.writeDec, h]

theorem State.writeDec_spec (h : s.brakingTo n = none) (v : Word) :
    (s.writeDec n v.toNat).getF (F.WKT_AXn_DEC n) = v.toNat ∧
      (s.writeDec n v.toNat).axes = updAt n (fun a => { a with decNew := none }) s.axes ∧
      OnlyFields s (s.writeDec n v.toNat) [F.WKT_AXn_DEC n] ∧ s.writeDec n v.toNat = { s with
        regs := (s.writeDec n v.toNat).regs, axes := (s.writeDec n v.toNat).axes } := by
  rw [State.writeDec_of_free h]
  exact s.updAx_setF_spec n _ (by simp) v.isLt

theorem State.limitWrite_dec_of_within {v : Nat} (hnew : (s.ax n).edecNew = none) (h1 : 1 ≤ v)
    (hceil : v ≤ 2 * s.axCeil n 36) (hedec : v ≤ s.getF (F.WKT_AXn_EDEC n)) : s.limitWrite n 0x20 v = s.writeDec n v := by
  have hlt := s.getF_lt (F.WKT_AXn_EDEC n)
  rw [State.limitWrite_dec, hnew, if_pos ⟨h1, hceil, Nat.le_min.2 ⟨hedec, Nat.le_of_lt (Nat.lt_of_le_of_lt hedec hlt)⟩⟩]

theorem State.limitWrite_dec_of_outside {v : Nat}
    (h : v = 0 ∨ 2 * s.axCeil n 36 < v ∨ s.getF (F.WKT_AXn_EDEC n) < v) : s.limitWrite n 0x20 v = s.limIgnored n := by
  rw [State.limitWrite_dec, if_neg]
  rintro ⟨h1, hceil, hedec⟩
  have := (Nat.le_min.1 hedec).1
  omega

theorem State.limitWrite_edec_of_within {v : Nat} (hnew : (s.ax n).decNew = none) (hst : s.axState n ≠ Ax.EMERGENCY)
    (h1 : 1 ≤ v) (hceil : v ≤ 2 * s.axCeil n 40) (hdec : s.getF (F.WKT_AXn_DEC n) ≤ v) :
    s.limitWrite n 0x24 v = s.setF (F.WKT_AXn_EDEC n) v := by
  rw [State.limitWrite_edec, hnew, if_pos ⟨h1, hceil, Nat.max_le.2 ⟨hdec, Nat.zero_le _⟩⟩, State.writeEdec, if_neg hst]

theorem State.limitWrite_edec_of_outside {v : Nat}
    (h : v = 0 ∨ 2 * s.axCeil n 40 < v ∨ v < s.getF (F.WKT_AXn_DEC n)) : s.limitWrite n 0x24 v = s.limIgnored n := by
  rw [State.limitWrite_edec, if_neg]
  rintro ⟨h1, hceil, hdec⟩
  have := (Nat.max_le.1 hdec).1
  omega

/-! ### FAULT (R455) -/

theorem exec_wktFaultClear_of_ok (hn : n < 4) (hacc : s.wrAcc m (R.WKT_AXn_FAULT n) = .ok) (mask : Word)
    (absent : Nat) : exec (.wktFaultClear m n mask absent) s = .next (s.axFaultClear n mask.toNat absent) :=
  congrArg Host.Outcome.next ((if_neg (by omega)).trans (State.guardW_ok_eq hacc mask.toNat _))

/-- The bits of FAULT. -/
abbrev axFaultFld (n : Nat) : Fld := ⟨R.WKT_AXn_FAULT n, 0, 11⟩

/-- The bits that a W1C write of FAULT leaves. -/
def State.faultsLeft (s : State) (n mask absent : Nat) : Nat :=
  s.getF (axFaultFld n) - (s.getF (axFaultFld n) &&& mask &&& absent)

theorem State.faultsLeft_lt (s : State) (n mask absent : Nat) : s.faultsLeft n mask absent < 2 ^ 11 :=
  Nat.lt_of_le_of_lt (Nat.sub_le _ _) (s.getF_lt (axFaultFld n))

variable {mask absent : Nat}

theorem State.axFaultClear_of_left (h : s.faultsLeft n mask absent ≠ 0) :
    s.axFaultClear n mask absent = s.setF (axFaultFld n) (s.faultsLeft n mask absent) := if_neg fun hc => h hc.2.1

theorem State.axFaultClear_of_last (h0 : s.getF (axFaultFld n) ≠ 0) (h : s.faultsLeft n mask absent = 0)
    (hst : s.axState n = Ax.FAULT) : s.axFaultClear n mask absent = (s.setF (axFaultFld n) 0).setAx n Ax.DISABLED :=
  (if_pos ⟨h0, h, hst⟩).trans (congrArg (fun left => (s.setF (axFaultFld n) left).setAx n Ax.DISABLED) h)

/-- The last fault cleared. -/
theorem State.axFaultClear_last_spec (hn : n < 4) (h0 : s.getF (axFaultFld n) ≠ 0)
    (h : s.faultsLeft n mask absent = 0) (hst : s.axState n = Ax.FAULT) :
    (s.axFaultClear n mask absent).getF (axFaultFld n) = 0 ∧
      (s.axFaultClear n mask absent).axState n = Ax.DISABLED ∧ s.axFaultClear n mask absent = { s with
        regs := (s.axFaultClear n mask absent).regs, strms := (s.axFaultClear n mask absent).strms } := by
  rw [State.axFaultClear_of_last h0 h hst]
  refine ⟨?_, State.axState_setAx _ hn (by decide), ?_⟩
  · rw [State.setAx_getF_other _ (unitReg_axis (c := 8) hn (by decide)) (axisReg_ne_common (by decide) n)
      (axisReg_ne (by decide) n), State.getF_setF_same _ _ _ (by simp), Nat.zero_mod]
  · rw [State.setAx_frame, State.setF_frame rfl]

/-! ### The current at rest (R453) -/

theorem exec_wktStandstillExpiry_of_full (hw : s.wktOn n = true) (hst : s.axState n = Ax.HOLD)
    (hred : s.getF (F.WKT_AXn_STAT_REDUCED n) = 0) : exec (.wktStandstillExpiry n) s =
      .next (if s.since (s.ax n).holdFrc (s.standstillUs n) then s.updAx n (fun a => { a with reducing := true })
        else s) := by
  have hflag : ¬ s.flag (F.WKT_AXn_STAT_REDUCED n) = true := by simp [State.flag, hred]
  by_cases hs : s.since (s.ax n).holdFrc (s.standstillUs n) = true
  · rw [if_pos hs]
    exact congrArg Host.Outcome.next (if_pos ⟨hw, hst, hflag, hs⟩)
  · rw [if_neg hs]
    exact congrArg Host.Outcome.next (if_neg fun hc => hs hc.2.2.2)

theorem exec_wktReduceDone_of_early (h : s.since (s.ax n).holdFrc (s.standstillUs n + 64000) = false) :
    exec (.wktReduceDone n) s = .next s := congrArg Host.Outcome.next (if_neg fun hc => by simp [h] at hc)

/-- The end of the fall. -/
theorem wktReduceDone_spec (hw : s.wktOn n = true) (hst : s.axState n = Ax.HOLD) (hred : (s.ax n).reducing = true)
    (hs : s.since (s.ax n).holdFrc (s.standstillUs n + 64000) = true) :
    ∃ t, exec (.wktReduceDone n) s = .next t ∧ t.getF (F.WKT_AXn_STAT_REDUCED n) = 1 ∧
      t.axes = updAt n (fun a => { a with iset := s.getF (F.WKT_AXn_IRUN_IHOLD n), reducing := false }) s.axes ∧
      OnlyFields s t [F.WKT_AXn_STAT_REDUCED n] ∧ t = { s with regs := t.regs, axes := t.axes } := by
  exact ⟨_, congrArg Host.Outcome.next (if_pos ⟨hw, hst, hred, hs⟩), s.updAx_setF_spec n _ (by simp) (by simp)⟩

end

/-- Settles O39: WKT_AXn_CTRL by the axis's state, the checks by the first that fails, a limit by its ceiling, a cleared
fault by the bits left, the current by the time in HOLD. -/
theorem axisControl : Obligations.AxisControl := by
  unfold Obligations.AxisControl
  refine fun m n s hn => ⟨fun hacc => ?ctrl, fun sc ia ib vm hw hst => ?checks, fun v hacc => ?vmax,
    fun v hacc hnew => ?dec, fun v hacc hnew hst h1 hceil hdec => ?edec, fun v hacc h => ?edecOut,
    fun mask absent hacc => ?faults, fun hw hst => ⟨exec_wktStandstillExpiry_of_full hw hst, wktReduceDone_spec hw hst,
      exec_wktReduceDone_of_early⟩⟩
  case ctrl =>
    rw [exec_wktEnable_of_ok hn hacc, exec_wktDisable_of_ok hn hacc, exec_wktZero_of_ok hn hacc]
    refine ⟨fun hu hst => ⟨_, rfl, State.axEnable_spec hn hu hst⟩, fun h => congrArg _ (State.axEnable_of_not h),
      fun h => ⟨_, congrArg _ (State.axDisable_of_moving h), s.limIgnored_spec n⟩,
      fun h hp => ⟨_, rfl, State.axDisable_spec hn h hp⟩,
      fun h => ⟨_, congrArg _ (State.axDisable_of_off h), s.setF_spec (by simp) (by simp)⟩,
      fun h => ⟨_, rfl, State.axZero_spec h⟩, fun h => congrArg _ (State.axZero_of_stalled h),
      fun h => congrArg _ (State.axZero_of_other h)⟩
  case checks =>
    refine ⟨fun h => exec_wktCheckDone_of_fault hw hst (State.checkFaults_reversed h) (by decide) (by decide),
      fun h0 h => exec_wktCheckDone_of_fault hw hst (State.checkFaults_low h0 h) (by decide) (by decide),
      fun h0 h1 h => exec_wktCheckDone_of_fault hw hst (State.checkFaults_over h0 h1 h) (by decide) (by decide),
      fun sw hok hsc => ?_, fun hok hsc hopen => ?_, fun hok hsc ha hb => ?_⟩
    · subst hsc
      exact exec_wktCheckDone_of_shorted hw hst (State.checkFaults_supplied hok)
    · subst hsc
      exact exec_wktCheckDone_of_fault hw hst (State.checkFaults_supplied hok) (openBits_ne hopen).1 (openBits_ne hopen).2
    · subst hsc
      refine exec_wktCheckDone_of_passed hw hst ((State.checkFaults_supplied hok).trans ?_)
      exact (if_neg Bool.false_ne_true).trans (openBits_eq_zero ha hb)
  case vmax =>
    rw [exec_wktLimitWrite_vmax hn hacc, State.limitWrite_vmax]
    refine ⟨fun h1 hceil => ⟨_, by rw [if_pos ⟨h1, hceil⟩], s.setF_spec (f := F.WKT_AXn_VMAX n) (by simp) v.isLt⟩,
      fun h => ⟨_, by rw [if_neg (by omega)], s.limIgnored_spec n⟩⟩
  case dec =>
    rw [exec_wktDecelWrite_dec hn hacc]
    exact ⟨fun h1 hceil hedec hbrake => ⟨_, congrArg _ (State.limitWrite_dec_of_within hnew h1 hceil hedec),
        State.writeDec_spec hbrake v⟩,
      fun h => ⟨_, congrArg _ (State.limitWrite_dec_of_outside h), s.limIgnored_spec n⟩⟩
  case edec =>
    rw [exec_wktDecelWrite_edec hn hacc, State.limitWrite_edec_of_within hnew hst h1 hceil hdec]
    exact ⟨_, rfl, s.setF_spec (f := F.WKT_AXn_EDEC n) (by simp) v.isLt⟩
  case edecOut =>
    rw [exec_wktDecelWrite_edec hn hacc, State.limitWrite_edec_of_outside h]
    exact ⟨_, rfl, s.limIgnored_spec n⟩
  case faults =>
    rw [exec_wktFaultClear_of_ok hn hacc]
    exact ⟨fun h => ⟨_, congrArg _ (State.axFaultClear_of_left h),
        s.setF_spec (f := axFaultFld n) (by simp) (s.faultsLeft_lt n _ _)⟩,
      fun h0 h hst => ⟨_, rfl, State.axFaultClear_last_spec hn h0 h hst⟩⟩

end Sys2Proof.Machine
end

section
/-! SUPPORT. O40: The moves of an axis, its homing runs and its ramps. -/
namespace Sys2Proof.Machine

/-! ### Axes after a change of one -/

section
variable {α : Type} (n : Nat) (f : α → α)

theorem length_updAt (xs : List α) : (updAt n f xs).length = xs.length := by
  induction xs generalizing n with
  | nil => cases n <;> rfl
  | cons x xs ih => cases n <;> simp [updAt, ih]

variable {n}

theorem getD_updAt {xs : List α} (h : n < xs.length) (d : α) : (updAt n f xs).getD n d = f (xs.getD n d) := by
  induction xs generalizing n with
  | nil => exact absurd h (Nat.not_lt_zero n)
  | cons x xs ih =>
    cases n with
    | zero => rfl
    | succ n => exact ih (Nat.lt_of_succ_lt_succ h)

end

section
variable {s t : State} {n : Nat} {w : WktMove}

theorem State.ax_of_axes (h : t.axes = s.axes) (n : Nat) : t.ax n = s.ax n := by rw [State.ax, State.ax, h]

/-- An axis that there is, after a change of it. -/
theorem State.ax_updAx_same (h : n < s.axes.length) (g : Axis → Axis) : (s.updAx n g).ax n = g (s.ax n) :=
  getD_updAt g h {}

/-- An axis that is not as it was reset is there. -/
theorem State.lt_axes_of_ne (h : s.ax n ≠ {}) : n < s.axes.length := by
  by_contra hge
  exact h (List.getD_eq_default _ _ (Nat.not_lt.1 hge))

theorem State.lt_axes_of_pend (h : (s.ax n).pend = some w) : n < s.axes.length :=
  State.lt_axes_of_ne fun he => by simp [he] at h

theorem State.lt_axes_of_cur (h : (s.ax n).cur = some w) : n < s.axes.length :=
  State.lt_axes_of_ne fun he => by simp [he] at h

@[simp] theorem State.wktEvent_axes (s : State) (kind n info : Nat) (value : Int) :
    (s.wktEvent kind n info value).axes = s.axes := by
  rw [State.wktEvent_frame rfl kind n info value]

theorem State.wktEvent_now (s : State) (kind n info : Nat) (value : Int) : (s.wktEvent kind n info value).now = s.now := by
  rw [State.wktEvent_frame rfl kind n info value]
  rfl

/-- The decelerations that an axis deferred, in their registers. -/
def State.deferredShown (s : State) (n : Nat) : State :=
  let s1 := match (s.ax n).decNew with | some v => s.setF (F.WKT_AXn_DEC n) v | none => s
  match (s.ax n).edecNew with | some v => s1.setF (F.WKT_AXn_EDEC n) v | none => s1

theorem State.applyDeferred_eq (s : State) (n : Nat) : s.applyDeferred n =
    (s.deferredShown n).updAx n (fun a => { a with decNew := none, edecNew := none }) := rfl

theorem State.deferredShown_frame (s : State) (n : Nat) :
    s.deferredShown n = { s with regs := (s.deferredShown n).regs } := by
  unfold State.deferredShown
  cases (s.ax n).decNew <;> cases (s.ax n).edecNew
  · rfl
  · exact State.setF_frame rfl _ _
  · exact State.setF_frame rfl _ _
  · exact State.setF_frame (State.setF_frame rfl _ _) _ _

theorem State.applyDeferred_axes (s : State) (n : Nat) : (s.applyDeferred n).axes =
    updAt n (fun a => { a with decNew := none, edecNew := none }) s.axes := by
  rw [State.applyDeferred_eq, State.deferredShown_frame]
  rfl

theorem State.applyDeferred_length (s : State) (n : Nat) : (s.applyDeferred n).axes.length = s.axes.length := by
  rw [State.applyDeferred_axes, length_updAt]

theorem State.ax_applyDeferred (h : n < s.axes.length) :
    (s.applyDeferred n).ax n = { s.ax n with decNew := none, edecNew := none } := by
  rw [State.ax, State.applyDeferred_axes]
  exact getD_updAt _ h {}

theorem State.applyDeferred_now (s : State) (n : Nat) : (s.applyDeferred n).now = s.now := by
  rw [State.applyDeferred_eq, State.deferredShown_frame]
  rfl

theorem AxFrame.applyDeferred (h : AxFrame s t) (n : Nat) : AxFrame s (t.applyDeferred n) := by
  rw [State.applyDeferred_eq]
  refine AxFrame.updAx (h.withWindows ?_) n _
  rw [State.deferredShown_frame]

theorem State.applyDeferred_axState (s : State) (n : Nat) : (s.applyDeferred n).axState n = s.axState n :=
  State.applyDeferred_getF_other s (axisReg_ne (c := 0xB0100) (by decide) n) (axisReg_ne (c := 0xB0100) (by decide) n)

theorem State.applyDeferred_pos (s : State) (n : Nat) :
    (s.applyDeferred n).getI (F.WKT_AXn_POS n) = s.getI (F.WKT_AXn_POS n) := by
  rw [State.getI, State.getI, State.applyDeferred_getF_other s (axisReg_ne (by decide) n) (axisReg_ne (by decide) n)]

end

/-! ### WKT_MOVE (R457, R458, R465) -/

section
variable {s : State} {wid : Nat} {i : WItem}

theorem exec_wktMoveTable_of_table (hact : s.active? wid W.WKT_MOVE = some i) (hm : bitsOf (i.arg 0) 4 2 ≠ 1) :
    exec (.wktMoveTable wid) s = .next (s.wktMove i) := by
  change execWktMoveTable wid s = _
  rw [execWktMoveTable, hact]
  exact congrArg Host.Outcome.next (if_neg hm)

theorem exec_wktMoveTarget_of_target (hact : s.active? wid W.WKT_MOVE = some i) (hm : bitsOf (i.arg 0) 4 2 = 1) :
    exec (.wktMoveTarget wid) s = .next (s.wktMove i) := by
  change execWktMoveTarget wid s = _
  rw [execWktMoveTarget, hact]
  exact congrArg Host.Outcome.next (if_pos hm)

theorem State.wktMove_of_refused {st : Nat} (h : s.moveRefused i (wktKnots i.payload) = some st) :
    s.wktMove i = s.axFinish i.axis i.wid st := by
  rw [State.wktMove]
  simp only [h]

/-- The move that an item asks for, with its knots. -/
def WItem.move (i : WItem) (ks : List Knot) (target : Option Int) : WktMove :=
  { wid := i.wid, knots := ks, shared := bitsOf (i.arg 0) 8 2 = 1, rel := (i.arg 0).testBit 12, target := target }

/-- An accepted move waits as its axis's pending one, and starts where it may. -/
def State.moveWaits (s : State) (i : WItem) (m : WktMove) : State :=
  ((s.park i.wid).updAx i.axis (fun a => { a with pend := some m })).tryStart i.axis

theorem State.wktMove_of_accepted (h : s.moveRefused i (wktKnots i.payload) = none) :
    s.wktMove i = s.moveWaits i (i.move ((wktKnots i.payload).getD [])
      (if bitsOf (i.arg 0) 4 2 = 1 then some (leAtI (leBytes 4 (i.arg 1)) 0 4) else none)) := by
  rw [State.wktMove]
  simp only [h]
  rfl

theorem State.wktMove_of_table {ks : List Knot} (hm : bitsOf (i.arg 0) 4 2 ≠ 1) (hks : wktKnots i.payload = some ks)
    (h : s.moveRefused i (some ks) = none) : s.wktMove i = s.moveWaits i (i.move ks none) := by
  rw [State.wktMove_of_accepted (by rwa [hks]), hks, if_neg hm]
  rfl

/-- The payload of a TARGET move has no knots. -/
theorem wktKnots_nil : wktKnots [] = none := rfl

theorem State.wktMove_of_target (hm : bitsOf (i.arg 0) 4 2 = 1) (hp : i.payload = [])
    (h : s.moveRefused i none = none) :
    s.wktMove i = s.moveWaits i (i.move [] (some (leAtI (leBytes 4 (i.arg 1)) 0 4))) := by
  have hks : wktKnots i.payload = none := by rw [hp, wktKnots_nil]
  rw [State.wktMove_of_accepted (by rwa [hks]), hks, if_pos hm]
  rfl

/-! ### WKT_HOME (R464, R465) -/

/-- The command of a homing item: with a switch, or by a stall. -/
theorem exec_wktHome (hact : s.active? wid W.WKT_HOME = some i) :
    exec (if (i.arg 0).testBit 8 then Instr.wktHomeSwitch wid else Instr.wktHomeStall wid) s = .next (s.wktHome i) := by
  split_ifs with h
  · change execWktHomeSwitch wid s = _
    rw [execWktHomeSwitch, hact]
    exact congrArg Host.Outcome.next (if_pos h)
  · change execWktHomeStall wid s = _
    rw [execWktHomeStall, hact]
    exact congrArg Host.Outcome.next (if_neg h)

theorem State.wktHome_of_frozen (h : s.stopStands = true ∨ i.stopped = true) :
    s.wktHome i = s.axFinish i.axis i.wid St.FROZEN := if_pos h

/-- The axis as a homing item's run begins. -/
def State.homeStart (s : State) (i : WItem) (a : Axis) : Axis :=
  { a with
    homing := some ⟨i.wid, (i.arg 0).testBit 8, (i.arg 0).testBit 9, (i.arg 0).testBit 10, i.arg 1,
      leAtI (leBytes 4 (i.arg 2)) 0 4, i.arg 3, s.getF (F.WKT_AXn_ACC i.axis), none⟩
    braking := none, rampS := (s.getI (F.WKT_AXn_POS i.axis) : Int), rampFrc := s.now, reducing := false, stallRun := 0
    iset := s.getF (F.WKT_AXn_IRUN_IRUN i.axis) }

/-- A homing item taken. -/
def State.homeBegun (s : State) (i : WItem) : State :=
  (((s.park i.wid).setF (F.WKT_AXn_STAT_REDUCED i.axis) 0).updAx i.axis (s.homeStart i)).setAx i.axis Ax.HOMING

theorem State.wktHome_of_taken (h : homeTaken s i = true) : s.wktHome i = s.homeBegun i := by
  simp only [homeTaken, Bool.and_eq_true, Bool.or_eq_true, Bool.not_eq_true', decide_eq_true_eq,
    List.isEmpty_iff] at h
  obtain ⟨⟨⟨⟨⟨⟨⟨⟨⟨hstop, hstopped⟩, hlow⟩, hhigh⟩, hpay⟩, hspeed⟩, hsw⟩, hu⟩, hst⟩, hv⟩ := h
  refine (if_neg ?_).trans ((if_neg ?_).trans ((if_neg ?_).trans ((if_neg ?_).trans (if_neg (Nat.not_lt.2 hv)))))
  · simp [hstop, hstopped]
  · rintro (h | h | h | h | ⟨hbit, hff⟩)
    · exact h hlow
    · exact h hhigh
    · exact h hpay
    · exact hspeed h
    · exact hsw.elim (fun h => by simp [h] at hbit) fun h => h hff
  · simp [hu]
  · exact fun ⟨h1, h2⟩ => hst.elim h1 h2

theorem State.park_frame (s : State) (wid : Nat) : s.park wid = { s with arb := (s.park wid).arb } := by
  unfold State.park
  split
  · split <;> rfl
  · rfl

/-- The axis an item names is one of the four. -/
theorem WItem.axis_lt (i : WItem) : i.axis < 4 := Nat.mod_lt _ (by decide)

/-- A change of registers, windows and axes after one of the scheduler. -/
theorem AxFrame.of_park {t : State} (h : AxFrame (s.park wid) t) : t = { s with
    regs := t.regs, strms := t.strms, axes := t.axes, arb := t.arb } := by
  rw [h, State.park_frame]

theorem State.homeBegun_spec (s : State) (i : WItem) : (s.homeBegun i).axState i.axis = Ax.HOMING ∧
    (s.homeBegun i).axes = updAt i.axis (s.homeStart i) s.axes ∧ s.homeBegun i = { s with
      regs := (s.homeBegun i).regs, strms := (s.homeBegun i).strms, axes := (s.homeBegun i).axes
      arb := (s.homeBegun i).arb } := by
  refine ⟨State.axState_setAx _ i.axis_lt (by decide), ?_,
    ((((AxFrame.refl (s.park i.wid)).setF _ _).updAx _ _).setAx _ _).of_park⟩
  rw [State.homeBegun, State.setAx_axes, State.park_frame]
  rfl

end

/-! ### Tables start (R459) -/

section
variable {s : State} {n : Nat} {w : WktMove} {ks : List Knot}

theorem exec_wktTableStart_of_on (hw : s.wktOn n = true) : exec (.wktTableStart n) s = .next (s.tryStart n) :=
  congrArg Host.Outcome.next (if_pos hw)

theorem State.tryStart_of_due (hp : (s.ax n).pend = some w) (hdue : w.shared = false ∨ w.due = true)
    (hst : s.axState n = Ax.HOLD) :
    s.tryStart n = (s.applyDeferred n).startTable n w ((s.applyDeferred n).moveKnots n w) := by
  rw [State.tryStart, hp]
  exact if_pos ⟨by simpa using hdue, .inl hst⟩

theorem State.moveKnots_of_table (h : w.target = none) : s.moveKnots n w = w.knots := by
  rw [State.moveKnots, h]

/-- The axis, and REDUCED, as a table comes into force. -/
def State.tableSet (s : State) (n : Nat) (w : WktMove) (ks : List Knot) : State :=
  (((s.updAx n (fun a => { a with pend := none })).applyDeferred n).setF (F.WKT_AXn_STAT_REDUCED n) 0).updAx n
    (fun a => { a with
      cur := some { w with knots := ks }, start := s.now
      base := if w.rel ∧ w.target.isNone then s.getI (F.WKT_AXn_POS n) else 0, braking := none, stallRun := 0
      iset := s.getF (F.WKT_AXn_IRUN_IRUN n), reducing := false })

/-- An axis whose table has started. -/
def State.tableBegun (s : State) (n : Nat) (w : WktMove) (ks : List Knot) : State :=
  ((s.tableSet n w ks).setAx n Ax.MOVING).wktEvent 5 n (if w.shared then 1 else 0) (s.getI (F.WKT_AXn_POS n))

/-- A table relative to the axis's position, or one that begins there, starts. -/
theorem State.startTable_of_placed (h : w.rel = true ∨ ks.head?.map (·.s) = some (s.getI (F.WKT_AXn_POS n))) :
    s.startTable n w ks = s.tableBegun n w ks :=
  if_neg fun ⟨hrel, hhead⟩ => h.elim (fun hr => by simp [hr] at hrel) hhead

theorem State.startTable_of_misplaced (hrel : w.rel = false)
    (h : ks.head?.map (·.s) ≠ some (s.getI (F.WKT_AXn_POS n))) (hst : s.axState n = Ax.HOLD) :
    s.startTable n w ks = (s.updAx n (fun a => { a with pend := none })).axFinish n w.wid 0x88 :=
  (if_pos ⟨hrel, h⟩).trans (if_pos hst)

theorem State.tableSet_ax (h : n < s.axes.length) : ((s.tableSet n w ks).ax n).cur = some { w with knots := ks } ∧
    ((s.tableSet n w ks).ax n).pend = none ∧ ((s.tableSet n w ks).ax n).start = s.now := by
  have hlen : n < (s.updAx n (fun a => { a with pend := none })).axes.length := by
    rwa [State.updAx, length_updAt]
  have hdef : n < ((s.updAx n (fun a => { a with pend := none })).applyDeferred n).axes.length := by
    rwa [State.applyDeferred_length]
  rw [State.tableSet, State.ax_updAx_same (by rwa [State.setF_axes]), State.ax_of_axes (State.setF_axes _ _ _),
    State.ax_applyDeferred hlen, State.ax_updAx_same h]
  exact ⟨rfl, rfl, rfl⟩

theorem AxFrame.tableBegun {t : State} (h : AxFrame s t) (n : Nat) (w : WktMove) (ks : List Knot) :
    AxFrame s (t.tableBegun n w ks) :=
  (((((h.updAx n _).applyDeferred n).setF _ _).updAx n _).setAx n _).wktEvent _ _ _ _

theorem State.tableBegun_ax (s : State) (n : Nat) (w : WktMove) (ks : List Knot) :
    (s.tableBegun n w ks).ax n = (s.tableSet n w ks).ax n :=
  State.ax_of_axes ((State.wktEvent_axes _ _ _ _ _).trans (State.setAx_axes _ _ _)) n

theorem State.tableBegun_stat (s : State) (hn : n < 4) (w : WktMove) (ks : List Knot) :
    (s.tableBegun n w ks).axState n = Ax.MOVING ∧ (s.tableBegun n w ks).getF (F.WKT_AXn_STAT_REDUCED n) = 0 := by
  have hu := unitReg_axis (c := 0) hn (by decide)
  constructor
  · rw [State.axState, State.tableBegun, (State.wktEvent_sameUnits _ _ _ _ _).getF hu]
    exact State.axState_setAx _ hn (by decide)
  · rw [State.tableBegun, (State.wktEvent_sameUnits _ _ _ _ _).getF hu,
      State.setAx_getF _ _ hu (reduced_apartFrom_axShown n), State.tableSet, State.updAx_getF,
      State.getF_setF_same _ _ _ (by simp), Nat.zero_mod]

/-- The pending table of an axis in HOLD, at its place. -/
theorem wktTableStart_of_placed (hw : s.wktOn n = true) (hp : (s.ax n).pend = some w)
    (hdue : w.shared = false ∨ w.due = true) (hst : s.axState n = Ax.HOLD) (htab : w.target = none)
    (h : w.rel = true ∨ w.knots.head?.map (·.s) = some (s.getI (F.WKT_AXn_POS n))) : ∃ t,
    exec (.wktTableStart n) s = .next t ∧ t.axState n = Ax.MOVING ∧ t.getF (F.WKT_AXn_STAT_REDUCED n) = 0 ∧
      (t.ax n).cur = some w ∧ (t.ax n).pend = none ∧ (t.ax n).start = s.now ∧
      t = { s with regs := t.regs, strms := t.strms, axes := t.axes } := by
  have hlen : n < (s.applyDeferred n).axes.length := by
    rw [State.applyDeferred_length]
    exact State.lt_axes_of_pend hp
  obtain ⟨hmoving, hreduced⟩ := (s.applyDeferred n).tableBegun_stat (State.lt_four_of_wktOn hw) w w.knots
  obtain ⟨hcur, hpend, hstart⟩ := State.tableSet_ax (w := w) (ks := w.knots) hlen
  refine ⟨(s.applyDeferred n).tableBegun n w w.knots, ?_, hmoving, hreduced, ?_, ?_, ?_,
    ((AxFrame.refl s).applyDeferred n).tableBegun n w w.knots⟩
  · rw [exec_wktTableStart_of_on hw, State.tryStart_of_due hp hdue hst, State.moveKnots_of_table htab,
      State.startTable_of_placed (by rwa [State.applyDeferred_pos])]
  · rw [State.tableBegun_ax, hcur]
  · rw [State.tableBegun_ax, hpend]
  · rw [State.tableBegun_ax, hstart, State.applyDeferred_now]

theorem exec_wktTableStart_of_misplaced (hw : s.wktOn n = true) (hp : (s.ax n).pend = some w)
    (hdue : w.shared = false ∨ w.due = true) (hst : s.axState n = Ax.HOLD) (htab : w.target = none)
    (hrel : w.rel = false) (h : w.knots.head?.map (·.s) ≠ some (s.getI (F.WKT_AXn_POS n))) :
    exec (.wktTableStart n) s =
      .next (((s.applyDeferred n).updAx n (fun a => { a with pend := none })).axFinish n w.wid 0x88) := by
  rw [exec_wktTableStart_of_on hw, State.tryStart_of_due hp hdue hst, State.moveKnots_of_table htab,
    State.startTable_of_misplaced hrel (by rwa [State.applyDeferred_pos]) (by rwa [State.applyDeferred_axState])]

/-! ### Tables end (R459, R465) -/

theorem exec_wktTableEnd_of_running (hc : (s.ax n).cur = some w) (h : s.moveOver n w = false) :
    exec (.wktTableEnd n) s = .next s := by
  change execWktTableEnd n s = _
  rw [execWktTableEnd, hc]
  exact congrArg Host.Outcome.next (if_neg fun hc => by simp [h] at hc)

/-- What the end of a table at `p` shows, before what its axis does next. -/
def State.tableOver (s : State) (n : Nat) (w : WktMove) (p : Int) : State :=
  ((((s.setI (F.WKT_AXn_POS n) p).updAx n (fun a => { a with cur := none, braking := none })).setF
    (F.WKT_AXn_STAT_TABLE_DONE n) 1).axFinish n w.wid St.OK).wktEvent 6 n St.OK p

theorem State.tableOver_pend (hc : (s.ax n).cur = some w) (hp : (s.ax n).pend = none) (p : Int) :
    ((s.tableOver n w p).ax n).pend = none := by
  have hlen : n < (s.setI (F.WKT_AXn_POS n) p).axes.length := by
    rw [State.setI_axes]
    exact State.lt_axes_of_cur hc
  rw [State.tableOver, State.ax_of_axes (State.wktEvent_axes _ _ _ _ _), State.axFinish,
    State.ax_of_axes (State.finish_axes _ _ _ _), State.ax_of_axes (State.setF_axes _ _ _), State.ax_updAx_same hlen,
    State.ax_of_axes (State.setI_axes _ _ _)]
  exact hp

theorem exec_wktTableEnd_of_over (hw : s.wktOn n = true) (hc : (s.ax n).cur = some w) (hst : s.axState n = Ax.MOVING)
    (h : s.moveOver n w = true) (hp : (s.ax n).pend = none) {p : Int}
    (hpos : (s.ax n).base + ((w.knots.getLast?.map (·.s)).getD 0) = p) :
    exec (.wktTableEnd n) s = .next ((s.tableOver n w p).enterHold n p) := by
  subst hpos
  have hnone := State.tableOver_pend hc hp ((s.ax n).base + ((w.knots.getLast?.map (·.s)).getD 0))
  change execWktTableEnd n s = _
  rw [execWktTableEnd, hc]
  refine congrArg Host.Outcome.next ((if_pos ⟨hw, hst, h⟩).trans ?_)
  unfold State.tableOver at hnone ⊢
  simp only [hnone]

/-! ### Emergency ramps (R461, R462) -/

theorem exec_wktRampEnd_of_rest (hw : s.wktOn n = true) (hst : s.axState n = Ax.EMERGENCY)
    (h : ratAbs (s.ax n).rampV ≤ s.getF (F.WKT_AXn_EDEC n) * s.secsFrom (s.ax n).rampFrc) :
    let p := (brakeEnd (s.ax n).rampS (s.ax n).rampV (s.getF (F.WKT_AXn_EDEC n))).floor
    exec (.wktRampEnd n) s = .next ((s.ax n).ending.foldl (fun t w => t.axEnd n w 0x84 p)
      ((s.setI (F.WKT_AXn_POS n) p).enterHold n p)) := congrArg Host.Outcome.next (if_pos ⟨hw, hst, h⟩)

theorem exec_wktRampEnd_of_moving
    (h : s.getF (F.WKT_AXn_EDEC n) * s.secsFrom (s.ax n).rampFrc < ratAbs (s.ax n).rampV) :
    exec (.wktRampEnd n) s = .next s := congrArg Host.Outcome.next (if_neg fun hc => absurd hc.2.2 (not_le.2 h))

/-! ### Homing runs (R464) -/

variable {h : Homing}

section
variable (hh : (s.ax n).homing = some h)
include hh

theorem exec_wktHomeFound_of_homing (level : Bool) : exec (.wktHomeFound n level) s = .next (
    if s.wktOn n ∧ s.axState n = Ax.HOMING ∧ h.ended = none ∧ (if h.switch then level = h.level else s.stallSeen n) then
      let s1 := s.wktEvent 4 n (if h.switch then 1 else 0) (s.axS n)
      if h.switch then s1.homeBrake n h h.home (s.axSV n).2 St.OK else s1.homeEnd n h.wid St.OK h.home
    else s) := by
  change execWktHomeFound n level s = _
  rw [execWktHomeFound, hh]

/-- Home found by a stall: the axis stops at once. -/
theorem exec_wktHomeFound_of_stall (hw : s.wktOn n = true) (hst : s.axState n = Ax.HOMING) (hend : h.ended = none)
    (hsw : h.switch = false) (hseen : s.stallSeen n = true) (level : Bool) : exec (.wktHomeFound n level) s =
      .next ((((s.wktEvent 4 n 0 (s.axS n)).enterHold n h.home).setF (F.WKT_AXn_STAT_HOMED n) 1).axFinish n h.wid
        St.OK) := by
  rw [exec_wktHomeFound_of_homing hh, hsw, if_pos ⟨hw, hst, hend, by rwa [if_neg Bool.false_ne_true]⟩]
  rfl

/-- Home found by the switch: the axis brakes from it. -/
theorem exec_wktHomeFound_of_switch (hw : s.wktOn n = true) (hst : s.axState n = Ax.HOMING) (hend : h.ended = none)
    (hsw : h.switch = true) {level : Bool} (hlevel : level = h.level) : exec (.wktHomeFound n level) s =
      .next ((s.wktEvent 4 n 1 (s.axS n)).homeBrake n h h.home (s.axSV n).2 St.OK) := by
  rw [exec_wktHomeFound_of_homing hh, hsw, if_pos ⟨hw, hst, hend, by rwa [if_pos rfl]⟩]
  rfl

theorem exec_wktHomeFound_of_not {level : Bool} (hnot : h.ended ≠ none ∨ (h.switch = false ∧ s.stallSeen n = false) ∨
    (h.switch = true ∧ level ≠ h.level)) : exec (.wktHomeFound n level) s = .next s := by
  rw [exec_wktHomeFound_of_homing hh, if_neg]
  rintro ⟨-, -, hend, hfound⟩
  rcases hnot with hne | ⟨hsw, hseen⟩ | ⟨hsw, hlevel⟩
  · exact hne hend
  · simp [hsw, hseen] at hfound
  · simp [hsw, hlevel] at hfound

theorem exec_wktHomeNotFound_of_spent (hw : s.wktOn n = true) (hst : s.axState n = Ax.HOMING) (hend : h.ended = none)
    (hspent : (h.travel : Rat) ≤ ratAbs ((s.axSV n).1 - (s.ax n).rampS)) :
    exec (.wktHomeNotFound n) s = .next (s.homeBrake n h (s.axSV n).1 (s.axSV n).2 0x86) := by
  change execWktHomeNotFound n s = _
  rw [execWktHomeNotFound, hh]
  exact congrArg Host.Outcome.next (if_pos ⟨hw, hst, hend, hspent⟩)

theorem exec_wktHomeNotFound_of_not
    (hnot : h.ended ≠ none ∨ ratAbs ((s.axSV n).1 - (s.ax n).rampS) < (h.travel : Rat)) :
    exec (.wktHomeNotFound n) s = .next s := by
  change execWktHomeNotFound n s = _
  rw [execWktHomeNotFound, hh]
  exact congrArg Host.Outcome.next (if_neg fun ⟨_, _, hend, hspent⟩ => hnot.elim (· hend) (not_lt.2 hspent))

/-- A homing run that brakes: what it has come to, at rest. -/
theorem State.homeStep_of_braking {st : Nat} {d : Rat} (hend : h.ended = some st) (hb : (s.ax n).braking = some d)
    (hst : s.axState n = Ax.HOMING) : s.homeStep n = if ratAbs (s.ax n).rampV ≤ d * s.secsFrom (s.ax n).rampFrc then
      s.homeEnd n h.wid st (brakeEnd (s.ax n).rampS (s.ax n).rampV d).floor else s := by
  rw [State.homeStep]
  simp only [hh, hb, hend, hst, true_and]

end

/-- An event changes nothing of how a homing run brakes. -/
theorem State.wktEvent_homeBrake (hn : n < 4) (kind info : Nat) (value : Int) (p v : Rat) (st : Nat) :
    (s.wktEvent kind n info value).homeBrake n h p v st = (s.wktEvent kind n info value).updAx n (fun a => { a with
      homing := some { h with ended := some st }, braking := some (s.getF (F.WKT_AXn_DEC n)), rampS := p, rampV := v
      rampFrc := s.now }) := by
  rw [State.homeBrake, State.wktEvent_now, (State.wktEvent_sameUnits _ _ _ _ _).getF
    (unitReg_axis (c := 0x20) hn (by decide))]

end

/-- Settles O40: an item by its refusals, a table by its place and its time, a homing run by what it finds, a ramp by its
speed. -/
theorem axisMoves : Obligations.AxisMoves := by
  unfold Obligations.AxisMoves
  refine ⟨fun wid i s hact => ⟨fun hm => ?table, fun hm => ?target⟩,
    fun wid i s hact => ⟨fun h c hc => ?taken, fun h c hc => ?frozen⟩,
    fun n s hw => ⟨fun w hp hdue hst htab => ⟨wktTableStart_of_placed hw hp hdue hst htab,
        exec_wktTableStart_of_misplaced hw hp hdue hst htab⟩,
      fun w hc hst => ⟨fun h hp => exec_wktTableEnd_of_over hw hc hst h hp rfl, exec_wktTableEnd_of_running hc⟩,
      fun hst => ⟨exec_wktRampEnd_of_rest hw hst, exec_wktRampEnd_of_moving⟩,
      fun h hh hst => ⟨fun level hend => ⟨fun hsw hseen => exec_wktHomeFound_of_stall hh hw hst hend hsw hseen level,
          fun hsw hlevel => ?found⟩, fun level => exec_wktHomeFound_of_not hh,
        exec_wktHomeNotFound_of_spent hh hw hst, exec_wktHomeNotFound_of_not hh, fun st d hend hb => ?braking⟩⟩⟩
  case table =>
    rw [exec_wktMoveTable_of_table hact hm]
    exact ⟨fun st h => congrArg _ (State.wktMove_of_refused h),
      fun ks hks h => congrArg _ (State.wktMove_of_table hm hks h)⟩
  case target =>
    rw [exec_wktMoveTarget_of_target hact hm]
    exact ⟨fun st h => congrArg _ (State.wktMove_of_refused h),
      fun hp h => congrArg _ (State.wktMove_of_target hm hp h)⟩
  case taken =>
    rw [hc, exec_wktHome hact, State.wktHome_of_taken h]
    exact ⟨_, rfl, s.homeBegun_spec i⟩
  case frozen => rw [hc, exec_wktHome hact, State.wktHome_of_frozen h]
  case found =>
    refine ⟨_, exec_wktHomeFound_of_switch hh hw hst hend hsw hlevel, ?_⟩
    rw [State.wktEvent_homeBrake (State.lt_four_of_wktOn hw)]
    exact ⟨rfl, rfl⟩
  case braking =>
    rw [State.homeStep_of_braking hh hend hb hst]
    exact ⟨fun h => if_pos h, fun h => if_neg (not_le.2 h)⟩

end Sys2Proof.Machine
end

section
/-! SUPPORT. O1: A step on a queue that is not empty. -/
namespace Sys2Proof.Machine

/-- Settles O1: the step looks at the queue's front. -/
theorem stepRunsTheFrontCommand : Obligations.StepRunsTheFrontCommand := by
  unfold Obligations.StepRunsTheFrontCommand
  intro c q s h
  rw [step, h]

end Sys2Proof.Machine
end
